-- ==== Sys2Proof/Word.lean ====
section
/-!
DEFINITION. The widths the whole model is written in: a fabric word (R4), a byte, and the number of a port.
-/

namespace Sys2Proof

/-- A register or fabric word: 32 bits, bit 0 the least significant (R3, R4). -/
abbrev Word := BitVec 32

/-- A byte of memory or of a message. -/
abbrev Byte := BitVec 8

/-- A port, and the slice that serves it: 0 to 23 (Table 0.1). -/
abbrev Port := Fin 24

end Sys2Proof
end

