-- ==== Sys2Proof/Types.lean ====
section
/-!
DEFINITION. The data that commands carry and that the state holds: names the spec gives to requesters, contexts,
messages, inputs and results, and the records that a command's operands are made of. `Instr` itself is in Syntax.lean.
-/

namespace Sys2Proof

/-- The fabric requesters of Table 1.6; a DMA channel acts for its owner, so the channel is named. -/
inductive Requester
  | domA | domB | domS | policy | warden
  | dma (c : Fin 16)
  | slaseLine | recorder
deriving DecidableEq, Repr

/-- The three host domains (Table 0.2). -/
inductive Domain
  | a | b | s
deriving DecidableEq, Repr

/-- The two cores of Table 1.2. -/
inductive CoreId
  | policy | warden
deriving DecidableEq, Repr

/-- The two hot-swap paths of R48. -/
inductive PathId
  | main | backup
deriving DecidableEq, Repr

/-- The active input of `SUP_STAT.ACTIVE` (R52). -/
inductive InputId
  | none | main | backup | cascade
deriving DecidableEq, Repr

/-- The three message contexts of a slice: Pn.SOP, Pn.SOP1 and Pn.SOP2. -/
inductive Ctx
  | sop | sop1 | sop2
deriving DecidableEq, Repr

/-- Kinds of role swap, coded as `SLC_SWSTAT.SWAP` (1 to 4). -/
inductive SwapKind
  | pr | fr | dr | vconn
deriving DecidableEq, Repr

/-- Structured VDM commands the spec names. -/
inductive VdmCmd
  | discoverIdentity | discoverSvids | discoverModes | enterMode | exitMode | attention
  | other (n : BitVec 5)
deriving DecidableEq, Repr

/-- The command type of a Structured VDM. -/
inductive VdmType
  | req | ack | nak | busy
deriving DecidableEq, Repr

/-- The USB PD messages and ordered sets that the spec names. -/
inductive MsgKind
  | accept | reject | wait | psRdy | ping | notSupported | softReset | dataReset
  | getSourceCap | getSourceCapExt | getSinkCap | getSinkCapExt | getStatus | getPpsStatus | getSourceInfo
  | getRevision | getCountryCodes
  | prSwap | drSwap | vconnSwap | frSwap
  | sourceCap | sinkCap | request | eprRequest | eprMode | alert | bist | batteryStatus | getCountryInfo | enterUsb
  | sourceInfo | revision
  | eprSourceCap | eprSinkCap | eprGetSourceCap | eprGetSinkCap | eprKeepAlive | eprKeepAliveAck
  | sourceCapExt | status | ppsStatus | sinkCapExt
  | getBatteryCap | getBatteryStatus | getManufacturerInfo | securityRequest | firmwareUpdateRequest
  | vendorDefinedExt | fragment
  | vdm (svid : BitVec 16) (cmd : VdmCmd) (ty : VdmType)
  | unstructuredVdm
  | reserved
  | hardReset | cableReset | bistCarrier
deriving DecidableEq, Repr

/-- One received frame, as the protocol layer takes it: its context, MessageID, header revision and type, whether it
is extended and unchunked, whether the header's roles are the expected ones, and its bytes for a mailbox. -/
structure Frame where
  ctx : Ctx
  kind : MsgKind
  msgId : BitVec 3
  rev2 : Bool
  extended : Bool
  unchunked : Bool
  rolesOk : Bool
  /-- What the Policy Engine reads from a message that has no row of its own: the action of EPR_Mode (1 Enter,
  2 Enter Acknowledged, 3 Enter Succeeded, 4 Enter Failed, 5 Exit), the Fast Role Swap current code of Sink_Capabilities, or
  vendor ID (low half) and product ID of a partner's Discover Identity answer. -/
  arg : BitVec 32
  /-- The CRC of the frame is right; a frame whose CRC fails is discarded (R116). -/
  crcOk : Bool
  /-- The length in bytes, header included, and the bytes as words in PD byte order. -/
  len : Nat
  words : List Word
deriving DecidableEq, Repr

/-- A Request or EPR_Request, with the fields R145 tests already read from its data object; `rdo` is the object
itself, which `SLC_RDO` keeps. Voltages are in mV, currents in mA. -/
structure RequestMsg where
  rdo : Word
  /-- The message is an EPR_Request. -/
  epr : Bool
  /-- The object position, 0 to 15. -/
  pos : Nat
  /-- The output voltage asked for, for a PPS or AVS object. -/
  mv : Nat
  /-- The operating current asked for. -/
  ma : Nat
  mismatch : Bool
  /-- EPR Mode Capable, and Unchunked Extended Messages Supported. -/
  eprCap : Bool
  unchunked : Bool
  /-- The header carries Revision 2.0. -/
  rev2 : Bool
  /-- In an EPR_Request, the copy of the object equals the object sent. -/
  copyOk : Bool
deriving DecidableEq, Repr

/-- A Fixed object of a received Source_Capabilities or EPR_Source_Capabilities. -/
structure SrcObject where
  pos : Nat
  mv : Nat
  ma : Nat
deriving DecidableEq, Repr

/-- A received Source_Capabilities, with the fields R204 uses. -/
structure SourceCaps where
  epr : Bool
  eprCap : Bool
  unchunked : Bool
  rev2 : Bool
  fixed : List SrcObject
deriving DecidableEq, Repr

/-- The answer to a Discover Identity sent on SOP′ or SOP″ (R127). -/
structure CableAnswer where
  ctx : Ctx
  nak : Bool
  rev2 : Bool
  vdo1 : Word
  vdo2 : Word
  vid : BitVec 16
  pid : BitVec 16
  active : Bool
  /-- 1 for 3 A, 2 for 5 A, 0 unknown, as `SLC_CBL_STAT.ILIM`. -/
  ilim : BitVec 2
  /-- As `SLC_CBL_STAT.VMAX`. -/
  vmax : BitVec 3
  epr : Bool
  sop2 : Bool
deriving DecidableEq, Repr

/-- The answers a partner gives to a swap request (R196, R197). -/
inductive SwapReply
  | accept | reject | wait | notSupported
deriving DecidableEq, Repr

/-- The levels of VBUSn_SNS on which a state waits (R97, R101, Table 9.7). -/
structure VbusLevel where
  /-- VBUS in mV as classified. -/
  mv : Nat
deriving DecidableEq, Repr

/-- Which timer of R126 expired. -/
inductive ChunkTimer
  | senderRequest | senderResponse | receiverRequest | receiverResponse | notSupported
deriving DecidableEq, Repr


/-- The five banks of banked registers: domains A, B and S, the Policy Core and the Warden Core (R353). -/
inductive Bank
  | a | b | s | p | w
deriving DecidableEq, Repr

/-- Who submitted a scheduler entry, coded as `CYC_SLOTk.SRC` (0 to 5). -/
inductive SchedSrc
  | a | b | s | policy | slase | warden
deriving DecidableEq, Repr

/-- What the slice ADC gives at a strobe: VBUS and VCNV in 10 mV units, current in mA and power in 10 mW units, as the
snapshot registers hold them (R261). -/
structure SnapMeas where
  vbus : BitVec 16 := 0
  vcnv : BitVec 16 := 0
  iout : BitVec 16 := 0
  pout : BitVec 16 := 0
deriving DecidableEq, Repr

/-- A REPORT of a Thatch luminaire (Table 13.6). -/
structure ThReport where
  cnl : Byte
  vin : BitVec 16
  iin : BitVec 16
  tled : Byte
  dim : BitVec 16
  emg : Byte
  fault : Byte
  flags : Byte
  batt : Byte
deriving DecidableEq, Repr

/-- The addressing fields of a SCHEDULE or SNAPSHOT frame (Table 12.2). -/
structure SynAddr where
  dom : BitVec 16
  cmd : Word
  akind : Byte
  addr : BitVec 16
deriving DecidableEq, Repr

/-- A TICK frame (Table 12.2). -/
structure SynTick where
  dom : BitVec 16
  cn : Word
  epoch : BitVec 16
  maddr : BitVec 16
deriving DecidableEq, Repr

/-- The result of polling an auxiliary device (R316, R317): a read value, a NACK, or a bus that stayed hung. -/
inductive AuxResult
  | good (raw : BitVec 16)
  | nack
  | hung
deriving DecidableEq, Repr

/-- A two-wire write as it stands at STOP (Table 14.2): the four address bytes as one word with the P flag in bit 31,
COUNT, the data bytes, and the PEC byte when one came. -/
structure TwWrite where
  addr : Word
  count : Byte
  data : List Byte
  pec : Option Byte
deriving DecidableEq, Repr

/-- A host read: the address phase when there is one (P in bit 31), COUNT, the data bytes the controller clocked
completely, and the word, if any, that the bridge had not fetched in time (R304). -/
structure HostRead where
  addr : Option Word
  count : Byte
  bytes : Nat
  lateAt : Option Nat
deriving DecidableEq, Repr

/-- A START or STOP out of place (Table 14.3): in an acknowledge slot of a write, in one of a read, or inside a byte. -/
inductive TwFault
  | ackSlotWrite | ackSlotRead | insideByte
deriving DecidableEq, Repr

/-- An SPI WRITE at the rise of HCS_N: address, whole bytes of data, and whether HCS_N rose inside a byte (R312). -/
structure SpiWrite where
  addr : Word
  data : List Byte
  insideByte : Bool
deriving DecidableEq, Repr

/-- What one sensing pass finds beside the array's codewords: the marginal words and spare rows (R361), and the straps:
the levels on ADDR0 and ADDR1 in mV, and SVC_EN (R37, R38). -/
structure SensingRead where
  marginal : List (Fin 128)
  marginalSpare : List (Fin 4)
  addr0Mv : Nat
  addr1Mv : Nat
  svcEnLow : Bool
deriving DecidableEq, Repr

/-- What the flash answers at step 5 (R379, R382): its size code, 0 when it does not answer, the table copy in use, whether
both copies fail, and the highest write count. -/
structure FlashInfo where
  size : BitVec 2
  ptCopy : Bool
  ptBad : Bool
  maxw : BitVec 24
deriving DecidableEq, Repr

/-- How an erase or program of the flash went (R382): it failed in a block, and the highest write count among the blocks
that it erased, 0 when it erased none. -/
structure FlashOp where
  fails : Bool
  wear : BitVec 24
deriving DecidableEq, Repr

/-- How a sector was read (R380): at most 4 bits corrected, 5 to 8, or more than the code corrects. -/
inductive SectorRead
  | clean | corrected | bad
deriving DecidableEq, Repr

/-- What the Warden Core finds when it checks the protected copies before a core restart (R20, R89). -/
inductive RestartCheck
  | good | badFirmware | badConfig
deriving DecidableEq, Repr

/-- What slice 0 or 1 samples through the clamp at slice release (Table 5.9): both CC balls and VBUS, in mV. -/
structure HandoverSample where
  cc1 : Nat
  cc2 : Nat
  vbus : Nat
deriving DecidableEq, Repr

/-- The 128-byte block that ends an authorised service command: public key and signature (R410). -/
structure AuthBlock where
  pub : List Byte
  sig : List Byte
deriving DecidableEq, Repr

/-- A renumbering that a TIME-SET names (R258). -/
structure TimeSet where
  apply : Word
  newCn : Word
  newEp : BitVec 16
deriving DecidableEq, Repr

end Sys2Proof
end

