-- ==== Sys2Proof/Syntax.lean ====
section
/-!
DEFINITION. The commands of the block: one constructor for each row of spec/opcode_table.json, with the row's operands.
The phrase of each constructor says what the command is; its meaning stands in Machine/.
-/

namespace Sys2Proof

/-- The commands. Each takes what the event carries: a port, a value measured, the fields of a message or frame. -/
inductive Instr
  /-- POWER_ON_RESET. VIN_HK falls below 4.00 V and internal reset is asserted with no pre-reset phase. -/
  | powerOnReset
  /-- EXTERNAL_RESET. RESET_N is held low for at least 1 µs and internal reset is asserted at once. -/
  | externalReset
  /-- WARDEN_RESET_REQUEST. The Warden Core requests a device reset and the pre-reset phase starts: VBUS removed,
  cause recorded, undrained records flushed. -/
  | wardenResetRequest (cause : BitVec 4)
  /-- PRE_RESET_COMPLETE. The pre-reset flush ends, or its 5 ms bound is reached, and internal reset is asserted. -/
  | preResetComplete (flushed : Nat)
  /-- RESET_RELEASE. Every reset source has ended and 2 ms have passed since VIN_HK rose above 4.30 V, so the boot
  begins and DID_RSTC is loaded. -/
  | resetRelease
  /-- OTP_SENSING_DONE. OTP sensing at both margins completes, shadows and lifecycle take effect, and the straps are
  sampled. -/
  | otpSensingDone (r : SensingRead)
  /-- PLL_LOCK. The PLL locks to the reference and the SRAM wipe may start. -/
  | pllLock
  /-- PLL_LOCK_TIMEOUT. The PLL has not locked within 2 ms after OTP sensing, so it is locked to the internal
  oscillator and REF_LOST is set. -/
  | pllLockTimeout
  /-- REFERENCE_LOST. The reference stops after lock, so the clock monitor switches the PLL to the internal oscillator
  within 10 µs and sets REF_LOST. -/
  | referenceLost
  /-- WIPE_DONE. The hardware wipe of 1.5 MiB completes, the event recorder starts, and recovery is entered if SVC_EN
  was sampled low. -/
  | wipeDone
  /-- WARDEN_FIRMWARE_VERIFIED. The Warden ROM verifies the active bank's Warden firmware, starts the Warden Core and
  writes the initial mortar map and FAB_PROT. -/
  | wardenFirmwareVerified (f : FlashInfo) (readOk : Bool)
  /-- POLICY_FIRMWARE_VERIFIED. The Policy firmware and slice microcode verify, microcode is loaded into every slice
  and the Policy Core starts. -/
  | policyFirmwareVerified (readOk : Bool)
  /-- CONFIG_LOAD. The configuration image is verified, walked, checked and overlaid with settings, and then every
  block is locked. -/
  | configLoad
  /-- SLICE_RELEASE. All 24 slices are released together at the earliest of the release conditions. -/
  | sliceRelease (relMs : Nat) (bad : List (Port × BitVec 4)) (h0 h1 : HandoverSample)
  /-- WATCHDOG_EXPIRY. A core's watchdog expires, so event 229 is raised, a record is written and that core alone is
  restarted. -/
  | watchdogExpiry (c : CoreId) (recent : Nat)
  /-- CORE_RESTART_DONE. A restarted core resumes from its checked protected copy, or a failed digest check requests a
  device reset. -/
  | coreRestartDone (c : CoreId) (r : RestartCheck)
  /-- DIE_TEMP_WARNING. Die temperature rises to 125 °C, so TWARN is set and event 226 is raised. -/
  | dieTempWarning (t : BitVec 16)
  /-- DIE_TEMP_WARNING_CLEAR. Die temperature falls to 115 °C and TWARN clears. -/
  | dieTempWarningClear (t : BitVec 16)
  /-- THERMAL_SHUTDOWN. Die temperature reaches 145 °C, so event 227 is raised and the pre-reset phase and reset
  follow. -/
  | thermalShutdown (t : BitVec 16)
  /-- THERMAL_RESTART. Die temperature falls below 110 °C and the thermal shutdown source ends. -/
  | thermalRestart (t : BitVec 16)
  /-- VIN_HK_LOW. VIN_HK falls through 4.50 V and event 228 is raised. -/
  | vinHkLow
  /-- VIN_HK_RESTORED. VIN_HK rises above 4.70 V and the low condition ends. -/
  | vinHkRestored
  /-- VCONN_IN_LOW. VCONN_IN falls below 4.40 V, so VCONN_OK clears and each slice opens its VCONN switch. -/
  | vconnInLow
  /-- VCONN_IN_RESTORED. VCONN_IN has stayed at or above 4.50 V for 10 ms and the slice closes its VCONN switch again.
  -/
  | vconnInRestored
  /-- INPUT_QUALIFIED. The main or backup input has stayed within its thresholds for QUAL and becomes qualified. -/
  | inputQualified (x : PathId) (mv : Nat)
  /-- INPUT_LOST. A qualified main or backup input meets a loss condition after its filter and the supply block acts
  by the loss case. -/
  | inputLost (x : PathId)
  /-- INPUT_WARNING. The active input crosses its warning threshold with no other input qualified, or recovers, so
  PFW_N is asserted or released. -/
  | inputWarning (low : Bool)
  /-- BACKUP_PATH_CONDUCT. The bulk node falls to the armed backup bus and the backup ideal diode conducts. -/
  | backupPathConduct
  /-- CASCADE_QUALIFIED. The aid port's VBUS has held 90 % of a sink contract of 20 V or more for 10 ms, and the sink
  path starts to connect. -/
  | cascadeQualified (p : Port)
  /-- CASCADE_LOST. The cascade VBUS falls below 90 % for the loss filter or the sink contract ends, and the cascade
  input is lost. -/
  | cascadeLost (p : Port)
  /-- PATH_GOOD. A connecting path is fully enhanced with V_DS at or below 1.0 V for 100 µs, so the input becomes
  active and PS_EN may rise. -/
  | pathGood (x : PathId) (vin : Nat)
  /-- SINK_PATH_GOOD. The bulk has stayed within 1.0 V of VBUSn for 100 µs and cascade becomes the active input. -/
  | sinkPathGood (p : Port) (vin : Nat)
  /-- SINK_PATH_TIMEOUT. The sink path is not good within 2 × VBUSn / SNK_DVDT and is treated as a path fault. -/
  | sinkPathTimeout (p : Port)
  /-- SWITCHOVER_WINDOW_END. The 2 ms switch-over window ends, the hold line falls and event 195 is raised. -/
  | switchoverWindowEnd (vin : Nat)
  /-- VMAX_WINDOW. At the end of each 10 ms window V_max is computed and published if it falls or the input was none.
  -/
  | vmaxWindow (vin : Nat) (whole : Bool) (vmain vbkup vbulk vhk : BitVec 16)
  /-- VMAX_RISE. A computed V_max has held at or above a higher value for 1 s and the published V_max rises. -/
  | vmaxRise
  /-- STAGGER_DELAY_END. The stagger delay after main qualifies ends and the return to main begins. -/
  | staggerDelayEnd (x : PathId)
  /-- PATH_FAULT. A first connection has stayed at I_lim for T_FLT, so the gate turns off and retries begin. -/
  | pathFault (x : PathId)
  /-- PRECHARGE_DONE. V_DS reaches 2.0 V during pre-charge and the main pair closes. -/
  | prechargeDone (x : PathId)
  /-- PRECHARGE_TIMEOUT. Pre-charge has not reached 2.0 V within 10 × T_FLT and the path faults. -/
  | prechargeTimeout (x : PathId)
  /-- PATH_OVERVOLTAGE. An overvoltage during a connection or attempt is a path fault with cause 3. -/
  | pathOvervoltage (x : PathId)
  /-- SUPPLY_RETRY_ATTEMPT. A path's off time ends and a new connection attempt starts. -/
  | supplyRetryAttempt (x : InputId)
  /-- SUPPLY_ATTEMPT_FAIL. An attempt is not good within ON_MS, so the gate turns off, the attempt counts, and the
  path may latch off. -/
  | supplyAttemptFail (x : InputId) (rose : Bool)
  /-- SUPPLY_LATCH_CLEAR. A write of 1 to MAIN_LATCH or BKUP_LATCH clears the latch, zeroes the try count and restarts
  qualification. -/
  | supplyLatchClear (w : Word)
  /-- EMG_ASSERT. EMG_N has been low for EMG_DB, so event 198 is raised and the EMG row joins the cap computation. -/
  | emgAssert
  /-- EMG_RELEASE. EMG_N has been high for EMG_DB and the EMG row leaves the cap computation. -/
  | emgRelease
  /-- ETEST_START. A write of SUP_ETST.START starts an emergency test on backup or refuses it. -/
  | etestStart (kind : BitVec 2)
  /-- ETEST_ABORT. A write of SUP_ETST.ABORT ends a running test as interrupted and returns to main. -/
  | etestAbort
  /-- ETEST_END. The test length expires and the test ends with its result and a return to main. -/
  | etestEnd (gaugeLow : Bool) (bkupMv : Nat)
  /-- CC_SAMPLE. The slice ADC samples both CC balls every 100 µs and classifies the pattern. -/
  | ccSample (p : Port) (cc1 cc2 : Option Nat) (rpBoth : Bool) (ivc vvcIn : Nat)
  /-- CC_DEBOUNCE_EXPIRY. A CC pattern has held for its debounce and the slice moves to the state it calls for. -/
  | ccDebounceExpiry (p : Port)
  /-- FOREIGN_VBUS. VBUS has stayed above 0.8 V in AttachWait.SRC for 1 s, so FOREIGN is set. -/
  | foreignVbus (p : Port)
  /-- SOURCE_DETACH. The CC line has been open for 12 ms, so detach is declared, contexts reset and VBUS is ramped
  down. -/
  | sourceDetach (p : Port)
  /-- DISCHARGE_DONE. VBUS reaches 0.8 V after detach or shed, ISOGn opens and PWMn goes high-Z. -/
  | dischargeDone (p : Port)
  /-- DETACH_RAMP_TIMEOUT. The converter has not brought VBUS to 0.8 V within 30 ms, so the discharge sink takes over.
  -/
  | detachRampTimeout (p : Port)
  /-- VCONN_DISCHARGE_END. The 10 ms discharge of the former VCONN ball ends and the ball returns to its termination.
  -/
  | vconnDischargeEnd (p : Port)
  /-- VCONN_OVERCURRENT. VCONN current exceeds its trip level for 100 µs, so the switch opens, VCONN_FLT is set and
  the cable is treated as unmarked. -/
  | vconnOvercurrent (p : Port)
  /-- DRP_TOGGLE. A dual-role port's toggle period elapses and it changes between Unattached.SRC and Unattached.SNK.
  -/
  | drpToggle (p : Port)
  /-- DRP_TRY_EXPIRY. tDRPTry ends in Try.SRC or Try.SNK and the port changes state by what it sees. -/
  | drpTryExpiry (p : Port)
  /-- TRY_TIMEOUT. tTryTimeout passes in Try.SNK without attach and the port enters TryWait.SRC. -/
  | tryTimeout (p : Port)
  /-- SINK_VBUS_LOST. An attached Sink loses VBUS for tPDDebounce and returns to Unattached.SNK. -/
  | sinkVbusLost (p : Port)
  /-- ERRREC_WRITE. A write of 1 to SLC_ATTCTL.ERRREC puts the port into ErrorRecovery. -/
  | errrecWrite (p : Port)
  /-- ERROR_RECOVERY_END. tErrorRecovery ends and the port enters Unattached.SRC or Unattached.SNK. -/
  | errorRecoveryEnd (p : Port)
  /-- PD_MESSAGE_RECEIVED. A valid frame on an active context is acknowledged with GoodCRC and handed to the Policy
  Engine or the mailbox. -/
  | pdMessageReceived (p : Port) (f : Frame) (phase : BitVec 16)
  /-- GOODCRC_RECEIVED. GoodCRC for a sent message arrives and the transmit MessageID advances. -/
  | goodcrcReceived (p : Port) (more : Bool)
  /-- REQUEST. A Request or EPR_Request is evaluated and answered with Accept, Reject or Wait. -/
  | request (p : Port) (r : RequestMsg)
  /-- GET_SOURCE_CAP. Get_Source_Cap or EPR_Get_Source_Cap is answered with the present offer. -/
  | getSourceCap (p : Port) (epr : Bool)
  /-- SOFT_RESET. A received Soft_Reset resets its context and is answered with Accept. -/
  | softReset (p : Port) (c : Ctx)
  /-- HARD_RESET. A received Hard Reset ordered set resets the contexts and starts the Hard Reset power sequence. -/
  | hardReset (p : Port)
  /-- HARD_RESET_PS_START. tPSHardReset after a Hard Reset, the Source takes VBUS to vSafe0V. -/
  | hardResetPsStart (p : Port)
  /-- SRC_RECOVER_END. tSrcRecover ends and the Source restores vSafe5V, or enters ErrorRecovery without supply. -/
  | srcRecoverEnd (p : Port)
  /-- CABLE_IDENTITY_ANSWER. The cable's Discover Identity answer on SOP′ or SOP″ is recorded and the offer limits are
  updated. -/
  | cableIdentityAnswer (p : Port) (a : CableAnswer)
  /-- DISCOVER_IDENTITY_TIMER. tDiscoverIdentity passes without a cable answer and Discover Identity is sent again or
  discovery ends. -/
  | discoverIdentityTimer (p : Port)
  /-- DISCOVER_IDENTITY. A partner's Discover Identity is answered with the identity from the DEVICE record. -/
  | discoverIdentity (p : Port)
  /-- GET_STATUS. Get_Status is answered with temperature, input, event flags and power status. -/
  | getStatus (p : Port)
  /-- GET_PPS_STATUS. Get_PPS_Status is answered with output voltage, current and flags. -/
  | getPpsStatus (p : Port)
  /-- GET_REVISION. Get_Revision on a Revision 3.x SOP context is answered with Revision 3.2, version 1.1. -/
  | getRevision (p : Port)
  /-- ALERT. A received Alert is answered with Get_Status. -/
  | alert (p : Port)
  /-- GET_SINK_CAP. Get_Sink_Cap or EPR_Get_Sink_Cap on a dual-role port is answered with the pilot and aid objects.
  -/
  | getSinkCap (p : Port) (epr : Bool)
  /-- UNSUPPORTED_MESSAGE. A message of Table 6.7 is answered with Not_Supported, Reject or NAK, or routed to the
  receive queue. -/
  | unsupportedMessage (p : Port) (c : Ctx) (phase : BitVec 16)
  /-- BIST. BIST Carrier Mode or Test Data is carried out, and other BIST modes are ignored. -/
  | bist (p : Port) (mode : BitVec 4)
  /-- SOURCE_CAPABILITIES. A tie port as Sink receives Source_Capabilities and requests the pilot or aid contract. -/
  | sourceCapabilities (p : Port) (c : SourceCaps)
  /-- EPR_MODE_ENTER. EPR_Mode Enter is acknowledged and followed by Enter Succeeded and EPR_Source_Capabilities, or
  answered Enter Failed. -/
  | eprModeEnter (p : Port)
  /-- EPR_MODE_EXIT. A partner's EPR_Mode Exit is acknowledged at 20 V or below, or answered with Hard Reset. -/
  | eprModeExit (p : Port)
  /-- EPR_KEEPALIVE. EPR_KeepAlive is answered with EPR_KeepAlive_Ack. -/
  | eprKeepalive (p : Port)
  /-- EPR_KEEPALIVE_TIMEOUT. tEPRSourceKeepAlive expires in EPR mode and the slice sends Hard Reset. -/
  | eprKeepaliveTimeout (p : Port)
  /-- PPS_TIMEOUT. No Request arrives within tPPSTimeout under a PPS contract and the slice sends Hard Reset. -/
  | ppsTimeout (p : Port)
  /-- CRC_RECEIVE_TIMEOUT. No GoodCRC within CRCReceiveTimer, so the frame is retried or the transmission fails with
  its consequence. -/
  | crcReceiveTimeout (p : Port)
  /-- SENDER_RESPONSE_TIMEOUT. An expected reply does not arrive within tSenderResponse, which is a protocol error
  handled by Soft_Reset or Hard Reset. -/
  | senderResponseTimeout (p : Port)
  /-- NO_RESPONSE_TIMEOUT. tNoResponse passes after a Hard Reset, so the count is checked and the port enters
  ErrorRecovery or PD silence. -/
  | noResponseTimeout (p : Port)
  /-- SOURCE_CAP_TIMER. tTypeCSendSourceCap passes before a first contract and Source_Capabilities is sent again,
  counted under nCapsCount. -/
  | sourceCapTimer (p : Port)
  /-- CHUNK_TIMEOUT. A chunking timer expires and the extended message is discarded or its transmission fails. -/
  | chunkTimeout (p : Port) (t : ChunkTimer)
  /-- SINKTX_EXPIRY. Rp has been at SinkTxNG for tSinkTx and the slice may start its AMS. -/
  | sinktxExpiry (p : Port)
  /-- ALERT_HOLDOFF_EXPIRY. 500 ms after an Alert, bits set meanwhile may be sent in the next Alert. -/
  | alertHoldoffExpiry (p : Port)
  /-- MBTX_SEND. A write of SLC_MBTX_CTL.SEND checks the mailbox message and queues it or refuses it with a cause. -/
  | mbtxSend (p : Port) (ctx : BitVec 2) (len : BitVec 9)
  /-- MBTX_ABORT. A write of SLC_MBTX_CTL.ABORT discards an uncommitted mailbox message, or sets ABORT_LATE. -/
  | mbtxAbort (p : Port)
  /-- MBRX_POP. A write of SLC_MBRX_CTL.POP removes the head entry of the receive queue. -/
  | mbrxPop (p : Port)
  /-- HOST_REPLY_TIMEOUT. A host has not replied to a routed message within 10 ms, so the slice answers itself and
  sets LATE. -/
  | hostReplyTimeout (p : Port)
  /-- PD_CNT_CLEAR. A write of SLC_PDCTL.CNT_CLR sets every field of SLC_PDCNT to 0. -/
  | pdCntClear (p : Port)
  /-- READV. A write of SLC_XCTL.READV requests an advertisement. -/
  | readv (p : Port)
  /-- READV_HOLDOFF_EXPIRY. 2 s after the last advertisement a changed offer that still fits the contract is sent. -/
  | readvHoldoffExpiry (p : Port)
  /-- XCTL_ABORT. A write of SLC_XCTL.ABORT aborts a contract change with cause 1, or is late after the commit point.
  -/
  | xctlAbort (p : Port)
  /-- SRC_TRANSITION_EXPIRY. tSrcTransition after the Accept's GoodCRC, the converter reference starts toward V_new.
  -/
  | srcTransitionExpiry (p : Port)
  /-- RAMP_DONE. The reference reaches V_new and the settle time begins. -/
  | rampDone (p : Port)
  /-- SETTLE_DONE. VBUS has stayed within the PS_RDY tolerance for t_s and PS_RDY transmission begins. -/
  | settleDone (p : Port)
  /-- TRANSITION_TIMEOUT. PS_RDY has not begun by XT_LIM, so RESULT is 3 and Hard Reset is sent. -/
  | transitionTimeout (p : Port)
  /-- ABORT_RAMP_BACK_DONE. After an abort the output has settled back at V_old for t_s and a new offer is sent. -/
  | abortRampBackDone (p : Port)
  /-- COMPLIANCE_EXPIRY. 5 s after the grant register took the effective grant below delivery, the slice limits
  current unless the partner complied. -/
  | complianceExpiry (p : Port) (mean : Nat)
  /-- GRANT_WRITE. The Policy Core writes SLC_GRANT, the effective grant is re-evaluated and offers or limits follow.
  -/
  | grantWrite (p : Port) (w : Word)
  /-- PWM_PERIOD. At each switching period the compensator computes the next on-time from the loop sample. -/
  | pwmPeriod (p : Port) (code : BitVec 12)
  /-- PEAK_LIMIT. PEAK goes high during an on-time and PWMn is driven low, with a trip after PK_MAX consecutive
  periods. -/
  | peakLimit (p : Port) (i v : BitVec 16)
  /-- REV_LIMIT. REV goes high while PWMn is low and PWMn goes high-Z, with a trip after PK_MAX periods outside a
  fall. -/
  | revLimit (p : Port) (i v : BitVec 16)
  /-- SHORT_TRIP. SHORT goes high and the port trips with cause 3. -/
  | shortTrip (p : Port) (i v : BitVec 16)
  /-- OV_TRIP. OV goes high on a Source port in continuous mode and the port trips with cause 4. -/
  | ovTrip (p : Port) (i v : BitVec 16)
  /-- FUSE_UPDATE. Every 10 µs the fuse accumulator is updated and the port trips with cause 1 when it reaches k. -/
  | fuseUpdate (p : Port) (mean : Int) (i v : BitVec 16)
  /-- PROT_RETRY_ATTEMPT. The off time after a trip ends and a retry attempt starts with the self-check and a
  converter start. -/
  | protRetryAttempt (p : Port) (bad : BitVec 4)
  /-- ATTEMPT_NOT_SETTLED. An attempt has neither succeeded nor tripped by XT_LIM and fails with cause 10. -/
  | attemptNotSettled (p : Port) (i v : BitVec 16)
  /-- TRIES_RESET_TIMER. The port has run 10 s after a successful attempt without a trip and TRIES returns to 0. -/
  | triesResetTimer (p : Port)
  /-- UNLATCH. A write of SLC_PRCTL.UNLATCH clears a latch-off and restarts the port with reset contexts. -/
  | unlatch (p : Port)
  /-- SELFTEST. A write of SLC_PRCTL.SELFTEST runs the comparator self-check when no power path is closed. -/
  | selftest (p : Port) (bad : BitVec 4)
  /-- SNKDROP_TRIP. The sink-path drop exceeds SNK_DROP for SNK_FILT, so SNKGn opens and the cascade input is lost. -/
  | snkdropTrip (p : Port) (i v : BitVec 16)
  /-- SINK_OV_TRIP. OV goes high on a Sink port, so SNKGn opens, CAUSE is 9 and Hard Reset is sent. -/
  | sinkOvTrip (p : Port) (i v : BitVec 16)
  /-- OV_SAMPLE. In sampled mode OV is powered at each SMP_TICK, and a low-to-high reading raises event 8n + 3. -/
  | ovSample (p : Port) (high : Bool)
  /-- PREBIAS_PASS. The pre-bias check has held for 1 ms and ISOGn gate drive begins. -/
  | prebiasPass (p : Port)
  /-- PREBIAS_FAIL. The pre-bias check has not passed 10 ms after step 2 and it is treated as a trip. -/
  | prebiasFail (p : Port) (cause : BitVec 2) (i v : BitVec 16)
  /-- FEEDBACK_SWITCH. 1 ms after VBUS reaches 4.75 V with ISOGn closed, feedback changes to VBUSn_SNS. -/
  | feedbackSwitch (p : Port)
  /-- PPS_CURRENT_LOOP. Every 10 µs the PPS outer loop lowers or raises V_set from the mean current. -/
  | ppsCurrentLoop (p : Port) (meanMa : Int)
  /-- TELEMETRY_UPDATE. Every 1 ms the telemetry voltages, current and power are replaced. -/
  | telemetryUpdate (p : Port) (vbus16 vcnv16 : Nat) (i16 : Int) (tdie : BitVec 16)
  /-- ENERGY_ACCUMULATE. Every 10 µs the energy meter adds the interval's energy and may wrap with event 224. -/
  | energyAccumulate (p : Port) (cv : BitVec 12) (ci : BitVec 12)
  /-- PWMPH_WRITE. A write of SLC_PWMPH sets NEXT and LOAD_CN and sets PEND. -/
  | pwmphWrite (p : Port) (next : BitVec 15) (loadCn : BitVec 8)
  /-- HALF_CYCLE_BOUNDARY. At a matching half-cycle boundary a waiting soft start or limit lift is carried out. -/
  | halfCycleBoundary (half : Bool)
  /-- FE_REPORT_LOSS. No valid Thatch report for 16 cycles ends far-end regulation and withdraws C. -/
  | feReportLoss (p : Port)
  /-- REQ_PR. A write of SLC_SWCTL.REQ_PR requests a PR_Swap. -/
  | reqPr (p : Port)
  /-- REQ_DR. A write of SLC_SWCTL.REQ_DR requests a DR_Swap. -/
  | reqDr (p : Port)
  /-- REQ_VC. A write of SLC_SWCTL.REQ_VC requests a VCONN_Swap. -/
  | reqVc (p : Port)
  /-- PR_SWAP. A received PR_Swap is answered with Accept, Reject or Wait, or handled as a protocol error. -/
  | prSwap (p : Port)
  /-- DR_SWAP. A received DR_Swap is accepted or rejected by port role and DR_ACC. -/
  | drSwap (p : Port)
  /-- VCONN_SWAP. A received VCONN_Swap is answered by the VCONN rules. -/
  | vconnSwap (p : Port)
  /-- FR_SWAP. A received FR_Swap is answered by the old Source within the FRS window, or with Hard Reset. -/
  | frSwap (p : Port)
  /-- SWAP_ANSWER. The partner's Accept, Reject, Wait or Not_Supported to the slice's swap request is handled. -/
  | swapAnswer (p : Port) (a : SwapReply)
  /-- SWAP_PS_RDY. The partner's PS_RDY during a swap advances or completes the swap. -/
  | swapPsRdy (p : Port)
  /-- SWAP_RETRY_TIMER. 100 ms after a Wait the swap request is sent again. -/
  | swapRetryTimer (p : Port)
  /-- PS_SOURCE_ON_TIMEOUT. No partner PS_RDY within tPSSourceOn during PR_Swap, so the slice enters ErrorRecovery. -/
  | psSourceOnTimeout (p : Port)
  /-- PS_SOURCE_OFF_TIMEOUT. No PS_RDY within tPSSourceOff during PR_Swap as Sink, so the slice enters ErrorRecovery.
  -/
  | psSourceOffTimeout (p : Port)
  /-- SWAP_VBUS_TIMEOUT. VBUS is still above 0.8 V 50 ms after PS_RDY and the slice sends Hard Reset. -/
  | swapVbusTimeout (p : Port)
  /-- SWAP_SOURCE_START. tSwapSourceStart after becoming Source, the slice sends its first Source_Capabilities. -/
  | swapSourceStart (p : Port)
  /-- VCONN_SOURCE_TIMEOUT. No PS_RDY by tVCONNSourceTimeout when handing VCONN over and the slice sends Hard Reset.
  -/
  | vconnSourceTimeout (p : Port)
  /-- SINK_VBUS_WAIT_TIMEOUT. A new Sink has not seen VBUS for 1.2 s after Hard Reset and enters ErrorRecovery. -/
  | sinkVbusWaitTimeout (p : Port)
  /-- FRS_SIGNAL_END. tFRSwapTx ends, so the old Source releases CC, presents Rd and opens ISOGn. -/
  | frsSignalEnd (p : Port)
  /-- FRS_DETECT. An armed Sink sees CC below 0.5 V for 40 µs, enhances ISOGn, presents Rp and sends FR_Swap. -/
  | frsDetect (p : Port)
  /-- FRS_SWAP_TIMEOUT. The old Source receives no FR_Swap within 20 ms of its signal and enters ErrorRecovery. -/
  | frsSwapTimeout (p : Port)
  /-- AID_PORT_TIMEOUT. Port 0 has no aid contract 2 s after the active input became none, so port 1 becomes the aid
  port. -/
  | aidPortTimeout
  /-- EPR_WAIT_TIMER. 500 ms after the first Source_Capabilities the aid port treats EPR as possible. -/
  | eprWaitTimer (p : Port)
  /-- BUDGET_ROUND. The Policy Core computes floors, targets and ceilings, allocates grants and writes them. -/
  | budgetRound (dt : Nat)
  /-- NTC_SAMPLE. Every 100 ms each named NTC is sampled and checked for a sensor fault. -/
  | ntcSample (mv : List Nat) (vdda : Nat)
  /-- KILN_UPDATE. At CN mod M = 0 the kiln updates every sheaf's nodes, predictions and current limits. -/
  | kilnUpdate
  /-- ZC_CAPTURE. A counted ZC_IN edge gives a capture, a period and a reference instant. -/
  | zcCapture (t : Nat) (rising : Bool) (since : Int)
  /-- ZC_TIMEOUT. No capture within 1.5 × M × P and ZC_IN becomes invalid. -/
  | zcTimeout
  /-- CYCLE_BOUNDARY. At each cycle boundary CN advances, the strobe is driven and the next cycle length is set. -/
  | cycleBoundary (ms : List SnapMeas)
  /-- TIMER_MATCH. A general timer's count equals MATCH or TOP and sets MATCH or OVF. -/
  | timerMatch (k : Fin 8) (atTop : Bool)
  /-- SCHED_GO. A write of CYC_LDCTL.GO submits a scheduler entry, accepted or refused with a cause. -/
  | schedGo (q : Requester) (phase : BitVec 16)
  /-- SCHED_ABORT. A write of CYC_LDCTL.ABORT removes a pending entry, or is late or refused. -/
  | schedAbort (q : Requester) (handle : BitVec 15)
  /-- THATCH_COMMAND. A due scheduled entry with OP 0x01 queues a Thatch command on each Thatch port in its mask. -/
  | thatchCommand (k : Fin 128)
  /-- HOST_LIMIT. A due scheduled entry with OP 0x02 writes HLIM of each port in its mask. -/
  | hostLimit (k : Fin 128)
  /-- EMERGENCY_TEST. A due scheduled entry with OP 0x03 starts an emergency test. -/
  | emergencyTest (k : Fin 128)
  /-- SNAPSHOT. A due snapshot entry copies every slice's live set into its held set. -/
  | snapshot (k : Fin 128)
  /-- DMA_TRIGGER. A due scheduled entry with OP 0x05 starts the owner's armed DMA channels in its mask. -/
  | dmaTrigger (k : Fin 128)
  /-- SLASELINE_TICK. A valid TICK is taken as a reference instant and drives acquisition and lock. -/
  | slaselineTick (tick : SynTick) (t since : Int) (tx : Bool)
  /-- TICK_MISSED. A locked hub finds no matching TICK at a boundary, and after 8 misses is lost. -/
  | tickMissed
  /-- SCHEDULE. An addressed SCHEDULE frame becomes a scheduler entry. -/
  | schedule (a : SynAddr) (tcn : Word) (tphase : BitVec 16) (op : Byte) (arg0 arg1 : Word) (phase : BitVec 16)
  /-- SNAPSHOT_FRAME. An addressed SNAPSHOT frame becomes a snapshot entry for TCN. -/
  | snapshotFrame (a : SynAddr) (tcn : Word) (phase : BitVec 16)
  /-- TIME_SET. A TIME-SET frame schedules a renumbering at cycle APPLY. -/
  | timeSet (dom : BitVec 16) (cmd : Word) (t : TimeSet)
  /-- SLASELINE_BAD_FRAME. A malformed or foreign SlaseLine frame is discarded and counted. -/
  | slaselineBadFrame (foreign : Bool)
  /-- SYN_GO. A write of SYN_TXCTL.GO on the master queues a command or refuses it. -/
  | synGo (q : Requester)
  /-- SYN_COMMAND_SEND. The master checks the lead again, then sends the command three times or discards it. -/
  | synCommandSend
  /-- SYN_CNT_CLEAR. A write of SYN_CTL.CNT_CLR sets all fields of SYN_CNT to 0. -/
  | synCntClear
  /-- THATCH_DISCOVERY_START. Once its conditions hold, the slice sends Discover Identity and Discover SVIDs. -/
  | thatchDiscoveryStart (p : Port)
  /-- DISCOVER_SVIDS_ACK. The SVID list is checked for 0x2F1D and Discover Modes follows or discovery ends. -/
  | discoverSvidsAck (p : Port) (svids : List (BitVec 16))
  /-- DISCOVER_MODES_ACK. The mode VDO is checked and Enter Mode is sent with the agreed version and capabilities. -/
  | discoverModesAck (p : Port) (vdos : List Word)
  /-- ENTER_MODE_ACK. Enter Mode is acknowledged, the mode is entered and the link starts. -/
  | enterModeAck (p : Port) (ans : VdmType)
  /-- ENTER_MODE_TIMEOUT. No Enter Mode answer within tVDMWaitModeEntry, so it is sent again or given up. -/
  | enterModeTimeout (p : Port)
  /-- LINK_SETTLE_END. The 5 ms link settle time ends and polling begins at the next strobe. -/
  | linkSettleEnd (p : Port)
  /-- REPORT. A valid REPORT updates registers, feeds far-end regulation and completes a command. -/
  | report (p : Port) (seq : BitVec 4) (r : ThReport) (phase : BitVec 16)
  /-- THATCH_NO_RESPONSE. No REPORT start bit within 300 µs, so NORESP is counted. -/
  | thatchNoResponse (p : Port) (phase : BitVec 16)
  /-- THATCH_BAD_FRAME. A Thatch frame is discarded and counted in BADCRC. -/
  | thatchBadFrame (p : Port) (phase : BitVec 16)
  /-- THATCH_LINK_LOST. 16 POLLs without a valid REPORT, so the link is lost and far-end regulation ends. -/
  | thatchLinkLost (p : Port)
  /-- THATCH_GIVE_UP. 64 cycles without a valid REPORT, so the slice exits the mode to re-enter later. -/
  | thatchGiveUp (p : Port)
  /-- THATCH_REENTRY. 1 s after a loss exit, the slice re-enters from Discover Modes. -/
  | thatchReentry (p : Port)
  /-- THATCH_EXIT. A write of SLC_THCTL.EXIT drops the queue, disconnects SBU and sends Exit Mode. -/
  | thatchExit (p : Port)
  /-- THATCH_REENTER. A write of SLC_THCTL.REENTER in state 6 clears it and allows discovery again. -/
  | thatchReenter (p : Port)
  /-- TWO_WIRE_WRITE. At STOP the staged two-wire write is committed as one burst or discarded with a cause. -/
  | twoWireWrite (w : TwWrite)
  /-- TWO_WIRE_READ. A two-wire read fetches ahead from the fabric and sends words until NACK and STOP. -/
  | twoWireRead (q : HostRead)
  /-- TWO_WIRE_BUS_ERROR. A START or STOP out of place discards the transaction with a cause and event 208. -/
  | twoWireBusError (f : TwFault)
  /-- SPI_WRITE. At HCS_N rise the SPI WRITE is committed or discarded with a cause. -/
  | spiWrite (w : SpiWrite)
  /-- SPI_READ. An SPI READ returns words from the address after the turnaround clocks. -/
  | spiRead (addr : Word) (bytes : Nat) (lateAt : Option Nat)
  /-- SPI_UNKNOWN_COMMAND. An unknown SPI command byte is ignored with cause 10 and event 210. -/
  | spiUnknownCommand
  /-- APPLY_BEAT. After a side-effect beat is delivered, the bridge issues the apply beat that takes the effect. -/
  | applyBeat (d : Domain)
  /-- CLEAR_EVENT_RING. Mailbox command 0x01 clears the hardware or firmware ring. -/
  | clearEventRing (d : Domain)
  /-- DEVICE_RESET. Mailbox command 0x02 requests a Warden device reset with WCAUSE 4. -/
  | deviceReset (d : Domain)
  /-- OWNER_LOCK. Mailbox command 0x03 sets or clears the host-set owner lock. -/
  | ownerLock (d : Domain)
  /-- OTP_MARGIN_AUDIT. Mailbox command 0x04 re-reads OTP at both margins and reports differing words. -/
  | otpMarginAudit (d : Domain) (differ : List (Fin 128))
  /-- HST_CNT_CLEAR. A write of HST_CTL.CNT_CLR sets the writer's bank of HST_CNT to 0. -/
  | hstCntClear (d : Domain)
  /-- AUX_POLL. At its poll interval an auxiliary device is read, with NACK, recovery and gauge checks. -/
  | auxPoll (k : Fin 5) (recovered : Bool) (r : AuxResult)
  /-- MAP_APPLY. A write of FAB_MAPCTL.APPLY makes the pending map active and revokes what was fetched under the old
  map. -/
  | mapApply
  /-- ECC_CORRECTION. An SRAM read corrects a single-bit error and writes back, or reports an uncorrectable fault. -/
  | eccCorrection (q : Requester) (addr : Word) (double : Bool)
  /-- DMA_ARM. A write of DMA_CHc_CTL.ARM arms a channel and records its owner. -/
  | dmaArm (q : Requester) (c : Fin 16) (burst : BitVec 7) (ring : Bool)
  /-- DMA_START. A write of START by the owner starts the channel's descriptor chain. -/
  | dmaStart (q : Requester) (c : Fin 16)
  /-- DMA_ABORT. A write of ABORT by the owner stops the channel before or after its commit. -/
  | dmaAbort (q : Requester) (c : Fin 16) (withCommit : Bool)
  /-- DMA_BURST_COMMIT. A DMA burst's write commits, CNT advances and the chain continues or ends. -/
  | dmaBurstCommit (c : Fin 16) (preempts : Nat)
  /-- EVR_CURSOR_WRITE. A write of EVR_CUR or EVR_SRC starts a fetch of the selected record. -/
  | evrCursorWrite (q : Requester) (isSrc : Bool) (w : Word)
  /-- EVR_FETCH_DONE. The record is in the window and READY is set. -/
  | evrFetchDone (k : Bank) (rd : SectorRead)
  /-- EVR_WIN3_READ. A delivered read of EVR_WIN3 with AUTO advances the cursor. -/
  | evrWin3Read (q : Requester) (cur : Word)
  /-- EVA_CLEAR. A write of 1 to EVA_PENDj clears pending bits in the writer's bank. -/
  | evaClear (q : Requester) (j : Fin 8) (w : Word)
  /-- RING_DRAIN. A full sector of the hardware ring is copied to the log window. -/
  | ringDrain (fw : Bool)
  /-- OPERATING_MINUTE. Each minute the operating-minute count advances, with a periodic record every 60 minutes. -/
  | operatingMinute
  /-- FLUSH_AREA_ERASE. With PFW_N high and fewer than two erased pages, the flush area is erased. -/
  | flushAreaErase (o : FlashOp)
  /-- LOG_SECTOR_APPEND. Committing the last word of NVC_LOGWIN stages a sector or discards it as incomplete. -/
  | logSectorAppend (last : Word)
  /-- LOG_PAGE_PROGRAM. A page is programmed when four sectors are staged or 1 s after the first. -/
  | logPageProgram (o : FlashOp)
  /-- NVC_PAGE_SELECT. A write of NVC_PGSEL selects a page and clears READY. -/
  | nvcPageSelect (q : Requester) (w : Word)
  /-- NVC_PAGE_READY. The selected page is in NVC_RDWIN and READY is set. -/
  | nvcPageReady (k : Bank) (words : List Word) (bad corr : BitVec 4)
  /-- SETTINGS_WRITE. Within 1 s of the last change, a new settings entry is written. -/
  | settingsWrite (o : FlashOp)
  /-- OTP_BURN_DONE. The burn's programming and verify complete with STATE 2 or 4. -/
  | otpBurnDone (tag data : BitVec 40)
  /-- OTP_BURN_INTERRUPT. A committed burn is interrupted by low VIN_HK, PFW_N or reset and stops. -/
  | otpBurnInterrupt (tag data : BitVec 40)
  /-- LIFECYCLE_ERASE_DONE. The banks, settings and log are erased and a new log is created under the new key. -/
  | lifecycleEraseDone
  /-- SERVICE_FRAME_BAD. A malformed service frame is discarded without response and counted. -/
  | serviceFrameBad
  /-- SERVICE_BAUD_TIMEOUT. 5 s without a valid frame returns the service port to 115,200 baud. -/
  | serviceBaudTimeout
  /-- HELLO. HELLO returns identity, mode, bank state and a fresh nonce. -/
  | svcHello (seq : Byte)
  /-- SET_BAUD. SET_BAUD changes the service rate 1 ms after the response, or is refused. -/
  | svcSetBaud (seq code : Byte)
  /-- STATUS. STATUS reports progress and completion. -/
  | svcStatus (seq : Byte)
  /-- BEGIN. BEGIN checks the image header and conditions, then erases the target bank or slot or resumes. -/
  | svcBegin (seq target : Byte) (header : List Byte) (o : FlashOp)
  /-- DATA. DATA writes image bytes at the expected offset, encrypted, and hashes them. -/
  | svcData (seq : Byte) (offset : Word) (data : List Byte) (o : FlashOp)
  /-- END. END reads the image back, verifies every part and marks the bank valid or partial. -/
  | svcEnd (seq : Byte)
  /-- ACTIVATE. ACTIVATE writes the pointer record and, for firmware in Operation, restarts both cores on the new
  bank. -/
  | svcActivate (seq : Byte)
  /-- ABORT. ABORT ends the update transfer in progress before its commit point. -/
  | svcAbort (seq : Byte)
  /-- REG_READ. REG_READ reads words through domain S as a host bridge. -/
  | svcRegRead (seq : Byte) (addr : Word) (n : Byte)
  /-- REG_WRITE. REG_WRITE writes words through domain S as one staged burst. -/
  | svcRegWrite (seq : Byte) (addr : Word) (words : List Word)
  /-- MAILBOX. MAILBOX submits a Warden mailbox request for domain S. -/
  | svcMailbox (seq cmd : Byte) (arg : Word)
  /-- OTP_BURN. The authorised OTP_BURN command has the Warden Core burn an OTP word or spare row. -/
  | svcOtpBurn (seq : Byte) (burn data : Word) (auth : Option AuthBlock)
  /-- OTP_OVERRIDE. The authorised OTP_OVERRIDE command has the Warden Core write an override. -/
  | svcOtpOverride (seq : Byte) (word value : Word) (auth : Option AuthBlock)
  /-- STICKY_LOCK. The authorised STICKY_LOCK command sets sticky OTP locks. -/
  | svcStickyLock (seq : Byte) (bits : Word) (auth : Option AuthBlock)
  /-- LIFECYCLE. The authorised LIFECYCLE command burns the next LC word, erases storage and resets. -/
  | svcLifecycle (seq code : Byte) (auth : Option AuthBlock)
  /-- RESET. RESET gives a Warden-request reset with WCAUSE 5. -/
  | svcReset (seq : Byte) (arg : Word)
  /-- UPDATE_TIMEOUT. 10 minutes without a valid service frame abandons the transfer. -/
  | updateTimeout
  /-- ACTIVATION_RESTART_DONE. Both cores run the new firmware and the host pause ends. -/
  | activationRestartDone (r : RestartCheck)
  /-- SLICE_RELOAD. A slice's turn loads new microcode and sends Soft_Reset on a contracted port. -/
  | sliceReload (p : Port)
  /-- FIRMWARE_CONFIRM. The new firmware confirms itself with a pointer record of TRIAL 0. -/
  | firmwareConfirm
  /-- ROLLBACK. Without confirmation within 10 s, or on a failure, the device returns to the previous bank. -/
  | rollback
  /-- REGISTER_WRITE. A permitted write to a register with no row of its own updates its writable fields. -/
  | registerWrite (q : Requester) (addr w : Word)
  /-- VBUS_CLASSIFICATION_CHANGE. VBUSn_SNS crosses a classification level (present at 4.0 V, vSafe0V at 0.8 V, 4.75
  V, vSafe5V) and the states waiting on it move on: Attached.SNK entry, PR_Swap step 3, FRS ISOGn enhancement and
  PS_RDY, VCONN closing after Hard Reset, cable discovery at vSafe5V. -/
  | vbusClassificationChange (p : Port) (mv : Nat)
  /-- VBUS_SAFE0_DEBOUNCE. VBUS has been at vSafe0V for tPDDebounce in AttachWait.SRC, so the slice clears FOREIGN and
  enters Attached.SRC. -/
  | vbusSafe0Debounce (p : Port)
  /-- ATTEMPT_SUCCESS. During a retry attempt VBUS has stayed within the PS_RDY tolerance of V_set for t_s, so PSTATE
  returns to 0, the fuse constant returns to T_FUSE and the OCP Alert bit is set. -/
  | attemptSuccess (p : Port)
  /-- SINK_WAIT_CAP_TIMEOUT. tSinkWaitCap passes on port 0 or 1 as Sink without Source_Capabilities, and the Sink acts
  as USB PD requires. -/
  | sinkWaitCapTimeout (p : Port)
  /-- PS_TRANSITION_TIMEOUT. tPSTransition passes on port 0 or 1 as Sink without PS_RDY after the Source's Accept, and
  the Sink acts as USB PD requires. -/
  | psTransitionTimeout (p : Port)
  /-- SINK_REQUEST_TIMER. tSinkRequest passes after a Wait answer to the Sink's Request, and the tie port sends its
  Request again. -/
  | sinkRequestTimer (p : Port)
  /-- EPR_SINK_KEEPALIVE_TIMER. tEPRSinkKeepAlive elapses on port 0 or 1 as Sink in EPR mode, and the Sink sends
  EPR_KeepAlive. -/
  | eprSinkKeepaliveTimer (p : Port)
  /-- ENTER_EPR_TIMEOUT. tEnterEPR passes after the aid port sends EPR_Mode Enter as Sink without Enter Succeeded, and
  the attempt ends. -/
  | enterEprTimeout (p : Port)
  /-- BIST_CARRIER_MODE_END. tBISTContMode ends and the slice stops transmitting BIST Carrier Mode. -/
  | bistCarrierModeEnd (p : Port)
  /-- VDM_RESPONSE_TIMEOUT. tVDMSenderResponse or tVDMWaitModeExit passes without an answer to the slice's Discover
  Identity, Discover SVIDs, Discover Modes or Exit Mode on SOP. SLC_PTNID stays 0, and discovery or exit goes on
  without the answer. -/
  | vdmResponseTimeout (p : Port)
deriving DecidableEq, Repr

end Sys2Proof
end

