-- ==== Sys2Proof/Machine/Bits.lean ====
section
/-!
DEFINITION. The bit-field helpers every register access uses, and saturating counts (R355).
-/

namespace Sys2Proof.Machine

/-- A field placed at bit `lo` of a word. -/
def putField {n : Nat} (x : BitVec n) (lo : Nat) : Word := x.setWidth 32 <<< lo

/-- A one-bit field placed at bit `lo` of a word. -/
def putBit (b : Bool) (lo : Nat) : Word := (BitVec.ofBool b).setWidth 32 <<< lo

/-- The `len` bits of a word from bit `lo` upward. -/
def getField (w : Word) (lo len : Nat) : BitVec len := w.extractLsb' lo len

/-- Bit `i` of a word. -/
def getBit (w : Word) (i : Nat) : Bool := w.getLsbD i

/-- A count that stops at its largest value (R355). -/
def satInc {n : Nat} (x : BitVec n) : BitVec n := if x = BitVec.allOnes n then x else x + 1

/-- A count that has advanced by `k` and stops at its largest value (R355). -/
def satAdd {n : Nat} (x : BitVec n) (k : Nat) : BitVec n :=
  if 2 ^ n ≤ x.toNat + k then BitVec.allOnes n else BitVec.ofNat n (x.toNat + k)

/-- The value `n` in a field of `w` bits, held at the field's largest value. -/
def satField (w n : Nat) : BitVec w := if 2 ^ w ≤ n then BitVec.allOnes w else BitVec.ofNat w n

/-- `n` held within `lo` to `hi`: what a field "treated as the nearer limit" means. -/
def clampNat (lo hi n : Nat) : Nat := if n < lo then lo else if hi < n then hi else n

/-- `a / b` rounded up. -/
def ceilDiv (a b : Nat) : Nat := (a + b - 1) / b

/-- `a / b` rounded to the nearest, halves up. -/
def roundDiv (a b : Nat) : Nat := (2 * a + b) / (2 * b)

/-- A 16-bit two's complement value of an integer. -/
def int16 (i : Int) : BitVec 16 := BitVec.ofInt 16 i

/-- The serial comparison of R260: `a` precedes `b` when their difference, modulo 2^32, is above half the range. -/
def serialBefore (a b : Word) : Bool := (a - b).msb

/-- A vector with element `k` changed by `f`. -/
def updAt {α : Type} {n : Nat} (v : Vector α n) (k : Fin n) (f : α → α) : Vector α n := v.set k.val (f (v.get k)) k.isLt

/-- A vector with `f` applied to every element. -/
def mapVec {α β : Type} {n : Nat} (f : α → β) (v : Vector α n) : Vector β n := Vector.ofFn (fun i => f (v.get i))

/-- Insert into a list sorted by `le`. -/
def insertBy {α : Type} (le : α → α → Bool) (x : α) : List α → List α
  | [] => [x]
  | y :: ys => if le x y then x :: y :: ys else y :: insertBy le x ys

/-- Sort by `le`, stable. -/
def sortBy {α : Type} (le : α → α → Bool) (l : List α) : List α := l.foldr (insertBy le) []

end Sys2Proof.Machine
end

