-- ==== Sys2Proof/Machine/Registers.lean ====
section
/-!
DEFINITION. One structure per register of Tables 20.1 to 20.3 that has named fields: each field with the width, the type
(R5, Table 0.3) and the reset value that the register's own field map in spec/ gives it, so that the empty structure
value is the register's reset value (R429). Reserved bits are not fields: they read 0 (R4). Write-only bits are not
fields either: they read 0, and what writing them does is the meaning of their own command. A register that is one
32-bit field is a plain Word in its block's structure.
-/

namespace Sys2Proof.Machine

/-- `DID_STRAP` (spec/02_balls_and_pin_states.md): DID_STRAP — 0x4002_F018 — reset 0x0000_0000, loaded at strap sampling -/
structure DidStrap where
  /-- `ADDR0_LVL`, bits 1:0, RO. Level decoded on ADDR0. -/
  addr0Lvl : BitVec 2 := 0
  /-- `ADDR1_LVL`, bits 3:2, RO. Level decoded on ADDR1. -/
  addr1Lvl : BitVec 2 := 0
  /-- `ADDR_IDX`, bits 7:4, RO. Strap index, 4 × ADDR1_LVL + ADDR0_LVL. -/
  addrIdx : BitVec 4 := 0
  /-- `SVC_EN_LOW`, bits 8, RO. 1: SVC_EN was low when sampled. -/
  svcEnLow : Bool := false
  /-- `TA_ADDR`, bits 22:16, RO. Two-wire target address in use; 0 until the configuration image is loaded. -/
  taAddr : BitVec 7 := 0
deriving DecidableEq, Repr

/-- `SUP_STAT` (spec/03_supplies_and_switchover.md): SUP_STAT — 0x4002_0000 — reset 0x0000_0000 -/
structure SupStat where
  /-- `ACTIVE`, bits 1:0, RO. Active input: 0 none, 1 main, 2 backup, 3 cascade. -/
  active : BitVec 2 := 0
  /-- `MAIN_ST`, bits 4:2, RO. 0 not configured, 1 lost, 2 qualifying, or qualified and not yet connecting (as before configuration load or while another path connects), 3 waiting stagger delay, 4 connecting, 5 connected, 6 retrying, 7 latched off. -/
  mainSt : BitVec 3 := 0
  /-- `BKUP_ST`, bits 7:5, RO. As MAIN_ST, except that 3 means armed. -/
  bkupSt : BitVec 3 := 0
  /-- `CASC_Q`, bits 8, RO. 1: cascade input qualified. -/
  cascQ : Bool := false
  /-- `HOLD`, bits 9, RO. 1: hold line asserted. -/
  hold : Bool := false
  /-- `PFW`, bits 10, RO. 1: PFW_N asserted. -/
  pfw : Bool := false
  /-- `EMG`, bits 11, RO. 1: EMG asserted. -/
  emg : Bool := false
  /-- `ETST`, bits 12, RO. 1: emergency test running. -/
  etst : Bool := false
  /-- `V48_OK`, bits 13, RO. 1: MAXPDO is 48.0 V. -/
  v48Ok : Bool := false
  /-- `VCONN_OK`, bits 14, RO. 1: VCONN_IN at or above 4.40 V. -/
  vconnOk : Bool := false
  /-- `MAXPDO`, bits 24:16, RO. V_max in 100 mV units. -/
  maxpdo : BitVec 9 := 0
deriving DecidableEq, Repr

/-- `SUP_LOCK` (spec/03_supplies_and_switchover.md): SUP_LOCK — 0x4002_0004 — reset 0x0000_0000 -/
structure SupLock where
  /-- `CFG_LK`, bits 0, RW1S. 1: locks the registers at offsets 0x010 to 0x024, 0x040 to 0x05C and 0x060 to 0x068. -/
  cfgLk : Bool := false
deriving DecidableEq, Repr

/-- `SUP_VIN` (spec/03_supplies_and_switchover.md): SUP_VIN — 0x4002_0008 — reset 0x0000_0000 -/
structure SupVin where
  /-- `VMAIN`, bits 15:0, RO. VMAIN_SNS in 10 mV units, updated every 100 µs. -/
  vmain : BitVec 16 := 0
  /-- `VBKUP`, bits 31:16, RO. VBKUP_SNS in 10 mV units, updated every 100 µs. -/
  vbkup : BitVec 16 := 0
deriving DecidableEq, Repr

/-- `SUP_VAUX` (spec/03_supplies_and_switchover.md): SUP_VAUX — 0x4002_000C — reset 0x0000_0000 -/
structure SupVaux where
  /-- `VBULK`, bits 15:0, RO. Bulk node, measured at MAIN_ISN, in 10 mV units. -/
  vbulk : BitVec 16 := 0
  /-- `VHK`, bits 31:16, RO. VIN_HK in 10 mV units. -/
  vhk : BitVec 16 := 0
deriving DecidableEq, Repr

/-- `SUP_RETRY` (spec/03_supplies_and_switchover.md): SUP_RETRY — 0x4002_0020 — reset 0x0A00_C602 -/
structure SupRetry where
  /-- `ON_MS`, bits 7:0, RWL. Attempt length, ms, 1 to 255. -/
  onMs : BitVec 8 := 2
  /-- `OFF_MS`, bits 23:8, RWL. Off time, ms; at least 9 × ON_MS is used. -/
  offMs : BitVec 16 := 198
  /-- `COUNT`, bits 31:24, RWL. Counted attempts before latch-off; 0 unlimited. -/
  count : BitVec 8 := 10
deriving DecidableEq, Repr

/-- `SUP_TIME` (spec/03_supplies_and_switchover.md): SUP_TIME — 0x4002_0024 — reset 0x0514_190A -/
structure SupTime where
  /-- `QUAL`, bits 7:0, RWL. Qualification time, 10 ms units, 1 to 255. -/
  qual : BitVec 8 := 10
  /-- `STAG_MS`, bits 15:8, RWL. Stagger step, ms, 0 to 255. -/
  stagMs : BitVec 8 := 25
  /-- `UVF_US`, bits 22:16, RWL. Loss filter, µs, 5 to 100. -/
  uvfUs : BitVec 7 := 20
  /-- `EMG_DB`, bits 30:23, RWL. EMG_N debounce, ms, 1 to 255. -/
  emgDb : BitVec 8 := 10
deriving DecidableEq, Repr

/-- `SUP_RSTAT` (spec/03_supplies_and_switchover.md): SUP_RSTAT — 0x4002_0028 — reset 0x0000_0000 -/
structure SupRstat where
  /-- `MAIN_TRY`, bits 7:0, RO. Counted main attempts since the last good connection. -/
  mainTry : BitVec 8 := 0
  /-- `BKUP_TRY`, bits 15:8, RO. Counted backup attempts since the last good connection. -/
  bkupTry : BitVec 8 := 0
  /-- `MAIN_LATCH`, bits 16, RW1C. 1: main latched off; writing 1 clears the latch, sets MAIN_TRY to 0 and starts a new qualification (R66). -/
  mainLatch : Bool := false
  /-- `BKUP_LATCH`, bits 17, RW1C. As MAIN_LATCH, for backup. -/
  bkupLatch : Bool := false
  /-- `MAIN_CAUSE`, bits 19:18, RO. Last main fault: 0 none, 1 fault timer, 2 pre-charge timeout, 3 overvoltage during a connection or attempt (R66). -/
  mainCause : BitVec 2 := 0
  /-- `BKUP_CAUSE`, bits 21:20, RO. As MAIN_CAUSE, for backup. -/
  bkupCause : BitVec 2 := 0
deriving DecidableEq, Repr

/-- `SUP_ETST` (spec/03_supplies_and_switchover.md): SUP_ETST — 0x4002_002C — reset 0x00B4_1E00 -/
structure SupEtst where
  /-- `KIND`, bits 1:0, RW. 1 function test, 2 duration test; 0 and 3 are refused. -/
  kind : BitVec 2 := 0
  /-- `FUNC_S`, bits 15:8, RW. Function test length, s, 5 to 255. -/
  funcS : BitVec 8 := 30
  /-- `DUR_MIN`, bits 31:16, RW. Duration test length, minutes, 1 to 480. -/
  durMin : BitVec 16 := 180
deriving DecidableEq, Repr

/-- `SUP_ETRES` (spec/03_supplies_and_switchover.md): SUP_ETRES — 0x4002_0030 — reset 0x0000_0000 -/
structure SupEtres where
  /-- `STATE`, bits 2:0, RO. 0 idle, 1 running, 2 pass, 3 fail, 4 interrupted, 5 refused. -/
  state : BitVec 3 := 0
  /-- `CAUSE`, bits 6:4, RO. Cause as in the results table under "Emergency demand and tests"; 7 refused. -/
  cause : BitVec 3 := 0
  /-- `ELAPSED`, bits 15:8, RO. Test time so far: seconds (function) or minutes (duration). -/
  elapsed : BitVec 8 := 0
  /-- `VMIN`, bits 25:16, RO. Lowest backup voltage during the test, 100 mV units. -/
  vmin : BitVec 10 := 0
deriving DecidableEq, Repr

/-- `DID_RSTC` (spec/04_reset_and_boot.md): DID_RSTC — 0x4002_F014 — reset 0x0000_0000, loaded at reset release -/
structure DidRstc where
  /-- `POR`, bits 0, RO. 1: power-on reset occurred. -/
  por : Bool := false
  /-- `EXT`, bits 1, RO. 1: RESET_N was asserted. -/
  ext : Bool := false
  /-- `WARDEN`, bits 2, RO. 1: the Warden Core requested the reset. -/
  warden : Bool := false
  /-- `THERMAL`, bits 3, RO. 1: thermal shutdown occurred. -/
  thermal : Bool := false
  /-- `WCAUSE`, bits 11:8, RO. Warden cause: 0 none, 1 lifecycle change, 2 configuration copy failed its digest check (R20), 3 firmware copy failed its digest check at a core restart, 4 host reset request through the Warden mailbox, 5 service-port reset … -/
  wcause : BitVec 4 := 0
deriving DecidableEq, Repr

/-- `DID_BOOT` (spec/04_reset_and_boot.md): DID_BOOT — 0x4002_F01C — reset 0x0000_0000 -/
structure DidBoot where
  /-- `STAGE`, bits 3:0, RO. Boot stage: 0 reset, 1 OTP sensing, 2 wipe, 3 Warden verification, 4 Policy and microcode verification, 5 configuration load, 6 waiting for release, 7 slices released, 8 recovery; other values reserved. -/
  stage : BitVec 4 := 0
  /-- `BANK`, bits 4, RO. Bank booted: 0 bank 0, 1 bank 1. -/
  bank : Bool := false
  /-- `FALLBACK`, bits 5, RO. 1: the active bank failed and the other bank was booted (R80). -/
  fallback : Bool := false
  /-- `REC_CAUSE`, bits 10:8, RO. Recovery cause as in Table 4.3; 0 when not in recovery. -/
  recCause : BitVec 3 := 0
  /-- `REL_MS`, bits 23:16, RO. Time from reset release to slice release, in ms; reads 255 at 255 ms or more. -/
  relMs : BitVec 8 := 0
deriving DecidableEq, Repr

/-- `DID_STAT` (spec/04_reset_and_boot.md): DID_STAT — 0x4002_F010 — reset 0x0000_0000 -/
structure DidStat where
  /-- `REF_LOST`, bits 0, RO. 1: the PLL runs from the internal oscillator (R24, R81); cleared only by reset. -/
  refLost : Bool := false
  /-- `TWARN`, bits 1, RO. 1: die temperature warning active. -/
  twarn : Bool := false
  /-- `PCORE_HELD`, bits 2, RO. 1: Policy Core held stopped under R90. -/
  pcoreHeld : Bool := false
  /-- `WCORE_HELD`, bits 3, RO. 1: Warden Core held stopped under R90. -/
  wcoreHeld : Bool := false
  /-- `PCORE_WDC`, bits 15:8, RO. Policy Core watchdog expiries since reset; stops at 255. -/
  pcoreWdc : BitVec 8 := 0
  /-- `WCORE_WDC`, bits 23:16, RO. Warden Core watchdog expiries since reset; stops at 255. -/
  wcoreWdc : BitVec 8 := 0
deriving DecidableEq, Repr

/-- `DID_TEMP` (spec/04_reset_and_boot.md): DID_TEMP — 0x4002_F020 — reset 0x0000_0000 -/
structure DidTemp where
  /-- `TDIE`, bits 15:0, RO. Die temperature, two's complement, in units of 1/16 °C; updated every 1 ms. -/
  tdie : BitVec 16 := 0
deriving DecidableEq, Repr

/-- `SLC_ATTCFG` (spec/05_attach_and_orientation.md): SLC_ATTCFG — offset 0x100 — reset 0x7832_4B61 -/
structure SlcAttcfg where
  /-- `ROLE`, bits 1:0, RWL. Role as in Table 5.1; 3 is treated as 0. -/
  role : BitVec 2 := 1
  /-- `TRY`, bits 3:2, RWL. 0 none, 1 Try.SRC, 2 Try.SNK, 3 treated as 0; used with role 2 only. -/
  trySel : BitVec 2 := 0
  /-- `RP_LVL`, bits 5:4, RWL. Rp level when not changed by collision avoidance: 0 default, 1 1.5 A, 2 3.0 A, 3 treated as 2. -/
  rpLvl : BitVec 2 := 2
  /-- `VCLS`, bits 7:6, RWL. VCONN class, as in R104; 3 is treated as 0. -/
  vcls : BitVec 2 := 1
  /-- `TDRP`, bits 14:8, RWL. tDRP in ms, 50 to 100. -/
  tdrp : BitVec 7 := 75
  /-- `DUTY`, bits 22:16, RWL. dcSRC.DRP in %, 30 to 70. -/
  duty : BitVec 7 := 50
  /-- `TCCDB`, bits 31:24, RWL. tCCDebounce in ms, 100 to 200. -/
  tccdb : BitVec 8 := 120
deriving DecidableEq, Repr

/-- `SLC_ATTSTAT` (spec/05_attach_and_orientation.md): SLC_ATTSTAT — offset 0x104 — reset 0x0000_0000 (ports 2 to 23), 0x0000_200F (ports 0 and 1) -/
structure SlcAttstat where
  /-- `STATE`, bits 3:0, RO. Attach state, as in Table 5.4. -/
  state : BitVec 4 := 0
  /-- `ORIENT`, bits 4, RO. 0: CC line is CCn1; 1: CCn2. Valid while attached. -/
  orient : Bool := false
  /-- `PARTNER`, bits 7:5, RO. 0 none, 1 Sink, 2 Sink through a powered cable, 3 cable only, 4 Audio Adapter Accessory, 5 Debug Accessory, 6 Source, 7 Source-facing Debug Accessory. -/
  partner : BitVec 3 := 0
  /-- `RP_SEEN`, bits 9:8, RO. As Sink, the partner's Rp level as in Table 5.3. -/
  rpSeen : BitVec 2 := 0
  /-- `RP_NOW`, bits 11:10, RO. Rp presented now: 0 none, 1 default, 2 1.5 A, 3 3.0 A. -/
  rpNow : BitVec 2 := 0
  /-- `NOPWR`, bits 12, RO. 1: attached as Source with an effective grant of 0. -/
  nopwr : Bool := false
  /-- `DBCLAMP`, bits 13, RO. 1: dead-battery clamp connected. -/
  dbclamp : Bool := false
  /-- `VBUS_PRES`, bits 14, RO. 1: VBUS at or above 4.0 V. -/
  vbusPres : Bool := false
  /-- `VBUS_SAFE0`, bits 15, RO. 1: VBUS at or below 0.8 V. -/
  vbusSafe0 : Bool := false
  /-- `FOREIGN`, bits 16, RO. 1: VBUS held above 0.8 V in AttachWait.SRC for 1 s (R101). -/
  foreign : Bool := false
  /-- `VCONN_ON`, bits 17, RO. 1: VCONN switch closed. -/
  vconnOn : Bool := false
  /-- `VCONN_FLT`, bits 18, RO. 1: VCONN overcurrent since attach; cleared at detach. -/
  vconnFlt : Bool := false
  /-- `DBG_LINK`, bits 19, RO. 1: vendor debug link connected (R114). -/
  dbgLink : Bool := false
deriving DecidableEq, Repr

/-- `SLC_CCMEAS` (spec/05_attach_and_orientation.md): SLC_CCMEAS — offset 0x108 — reset 0x0000_0000 -/
structure SlcCcmeas where
  /-- `CC1`, bits 11:0, RO. Last valid CCn1 sample, 2 mV units. -/
  cc1 : BitVec 12 := 0
  /-- `CC2`, bits 27:16, RO. Last valid CCn2 sample, 2 mV units. -/
  cc2 : BitVec 12 := 0
deriving DecidableEq, Repr

/-- `SLC_VCONN` (spec/05_attach_and_orientation.md): SLC_VCONN — offset 0x10C — reset 0x0000_0000 -/
structure SlcVconn where
  /-- `IVC`, bits 9:0, RO. VCONN current, 1 mA units, updated every 100 µs. -/
  ivc : BitVec 10 := 0
  /-- `VVC_IN`, bits 23:16, RO. VCONN_IN at the slice switch, 25 mV units. -/
  vvcIn : BitVec 8 := 0
deriving DecidableEq, Repr

/-- `SLC_ATTCTL` (spec/05_attach_and_orientation.md): SLC_ATTCTL — offset 0x110 — reset 0x0000_0000 -/
structure SlcAttctl where
  /-- `CFG_LK`, bits 0, RW1S. 1: locks SLC_ATTCFG. -/
  cfgLk : Bool := false
deriving DecidableEq, Repr

/-- `SLC_PDCFG` (spec/06_message_engine.md): SLC_PDCFG — offset 0x200 — reset 0x0000_000A -/
structure SlcPdcfg where
  /-- `OPEN`, bits 0, RWL. 1: port open (R18). RO 0 on ports 4 to 23. -/
  openF : Bool := false
  /-- `UNCHK`, bits 1, RWL. 1: unchunked extended messages may be agreed on SOP (R126). -/
  unchk : Bool := true
  /-- `MAXREV`, bits 3:2, RWL. 1: Revision 2.0 only; 2: Revision 3.x; 0 and 3 are treated as 2. -/
  maxrev : BitVec 2 := 2
  /-- `HOSTRX`, bits 4, RWL. 1: route the host-marked messages of Table 6.7 to the receive queue. RO 0 on ports 4 to 23. -/
  hostrx : Bool := false
deriving DecidableEq, Repr

/-- `SLC_PDSTAT` (spec/06_message_engine.md): SLC_PDSTAT — offset 0x204 — reset 0x0000_0000 -/
structure SlcPdstat where
  /-- `REV_SOP`, bits 1:0, RO. SOP revision: 0 not set, 1 2.0, 2 3.x. -/
  revSop : BitVec 2 := 0
  /-- `REV_SOP1`, bits 3:2, RO. As REV_SOP, for SOP1. -/
  revSop1 : BitVec 2 := 0
  /-- `REV_SOP2`, bits 5:4, RO. As REV_SOP, for SOP2. -/
  revSop2 : BitVec 2 := 0
  /-- `PD_CONN`, bits 6, RO. 1: an explicit contract exists. -/
  pdConn : Bool := false
  /-- `PD_SILENT`, bits 7, RO. 1: PD silent (R130). -/
  pdSilent : Bool := false
  /-- `VCSRC`, bits 8, RO. 1: the slice is the VCONN source. -/
  vcsrc : Bool := false
  /-- `UNCHK_ON`, bits 9, RO. 1: unchunked extended messages agreed on SOP. -/
  unchkOn : Bool := false
  /-- `RP_CA`, bits 11:10, RO. Collision avoidance: 0 not in use, 1 SinkTxOK, 2 SinkTxNG. -/
  rpCa : BitVec 2 := 0
  /-- `HR_PEND`, bits 12, RO. 1: Hard Reset waiting for the hold line (R131). -/
  hrPend : Bool := false
  /-- `AMS`, bits 13, RO. 1: an AMS is in progress on the port. -/
  ams : Bool := false
deriving DecidableEq, Repr

/-- `SLC_PDCNT` (spec/06_message_engine.md): SLC_PDCNT — offset 0x208 — reset 0x0000_0000 -/
structure SlcPdcnt where
  /-- `HR_TX`, bits 7:0, RO. Hard Resets sent; stops at 255. -/
  hrTx : BitVec 8 := 0
  /-- `HR_RX`, bits 15:8, RO. Hard Resets received; stops at 255. -/
  hrRx : BitVec 8 := 0
  /-- `TXFAIL`, bits 23:16, RO. Failed transmissions (R122); stops at 255. -/
  txfail : BitVec 8 := 0
  /-- `CRCERR`, bits 31:24, RO. Frames discarded for CRC; stops at 255. -/
  crcerr : BitVec 8 := 0
deriving DecidableEq, Repr

/-- `SLC_PDCTL` (spec/06_message_engine.md): SLC_PDCTL — offset 0x20C — reset 0x0000_0000 -/
structure SlcPdctl where
  /-- `CFG_LK`, bits 0, RW1S. 1: locks SLC_PDCFG. -/
  cfgLk : Bool := false
deriving DecidableEq, Repr

/-- `SLC_CBL_ID` (spec/06_message_engine.md): SLC_CBL_ID — offset 0x218 — reset 0x0000_0000 -/
structure SlcCblId where
  /-- `VID`, bits 15:0, RO. USB vendor ID from the cable's ID Header VDO. -/
  vid : BitVec 16 := 0
  /-- `PID`, bits 31:16, RO. Product ID from the cable's Product VDO. -/
  pid : BitVec 16 := 0
deriving DecidableEq, Repr

/-- `SLC_CBL_STAT` (spec/06_message_engine.md): SLC_CBL_STAT — offset 0x21C — reset 0x0000_0000 -/
structure SlcCblStat where
  /-- `TYPE`, bits 1:0, RO. 0 not discovered, 1 passive, 2 active, 3 no answer or NAK. -/
  kind : BitVec 2 := 0
  /-- `ILIM`, bits 3:2, RO. Cable current: 0 unknown, 1 3 A, 2 5 A. -/
  ilim : BitVec 2 := 0
  /-- `VMAX`, bits 6:4, RO. Cable voltage: 0 20 V, 1 30 V, 2 40 V, 3 50 V; valid when TYPE is 1 or 2. -/
  vmax : BitVec 3 := 0
  /-- `EPR`, bits 7, RO. 1: the cable VDO shows EPR capability. -/
  epr : Bool := false
  /-- `SOP2`, bits 8, RO. 1: the active cable has an SOP″ controller. -/
  sop2 : Bool := false
  /-- `TRIES`, bits 13:9, RO. Discover Identity attempts made, 0 to 20. -/
  tries : BitVec 5 := 0
deriving DecidableEq, Repr

/-- `SLC_MBTX_CTL` (spec/06_message_engine.md): SLC_MBTX_CTL — offset 0x400 — reset 0x0000_0000 -/
structure SlcMbtxCtl where
  /-- `CTX`, bits 1:0, RW. Context: 0 SOP, 1 SOP1, 2 SOP2; 3 is refused with cause 4. -/
  ctx : BitVec 2 := 0
  /-- `LEN`, bits 24:16, RW. Message length in bytes, header included, 2 to 264. -/
  len : BitVec 9 := 0
deriving DecidableEq, Repr

/-- `SLC_MBTX_STAT` (spec/06_message_engine.md): SLC_MBTX_STAT — offset 0x404 — reset 0x0000_0000 -/
structure SlcMbtxStat where
  /-- `STATE`, bits 2:0, RO. 0 idle, 1 queued, 2 transmitting, 3 done, 4 failed without GoodCRC, 5 refused, 6 discarded. -/
  state : BitVec 3 := 0
  /-- `ABORT_LATE`, bits 3, RO. 1: ABORT was written after the commit point. Cleared by the next SEND. -/
  abortLate : Bool := false
  /-- `CAUSE`, bits 7:4, RO. Refusal cause 1 to 6 (R136); discard cause 8 to 12 (R138). -/
  cause : BitVec 4 := 0
  /-- `MSGID`, bits 10:8, RO. MessageID used. -/
  msgid : BitVec 3 := 0
deriving DecidableEq, Repr

/-- `SLC_MBRX_STAT` (spec/06_message_engine.md): SLC_MBRX_STAT — offset 0x408 — reset 0x0000_0000 -/
structure SlcMbrxStat where
  /-- `COUNT`, bits 2:0, RO. Entries in the receive queue, 0 to 4. -/
  count : BitVec 3 := 0
  /-- `CTX`, bits 5:4, RO. Context of the head entry. -/
  ctx : BitVec 2 := 0
  /-- `IS_COPY`, bits 6, RO. 1: the head entry is a copy; the slice has handled the message. -/
  isCopy : Bool := false
  /-- `OVR`, bits 8, RW1C. 1: a message was not queued because the queue was full (R134). -/
  ovr : Bool := false
  /-- `HRST`, bits 9, RW1C. 1: a Hard Reset occurred after an entry was queued. -/
  hrst : Bool := false
  /-- `LATE`, bits 10, RW1C. 1: the slice answered a host-routed message itself (R135). -/
  late : Bool := false
  /-- `LEN`, bits 24:16, RO. Length of the head entry in bytes. -/
  len : BitVec 9 := 0
deriving DecidableEq, Repr

/-- `SLC_MBRX_CTL` (spec/06_message_engine.md): SLC_MBRX_CTL — offset 0x40C — reset 0x0000_0000 -/
structure SlcMbrxCtl where
  /-- `COPY`, bits 1, RW. 1: copy slice-handled SOP messages to the queue (R134). -/
  copy : Bool := false
deriving DecidableEq, Repr

/-- `SLC_MBRX_TIME` (spec/06_message_engine.md): SLC_MBRX_TIME — offset 0x410 — reset 0x0000_0000 -/
structure SlcMbrxTime where
  /-- `PHASE`, bits 15:0, RO. CN phase fraction at the EOP of the head entry. -/
  phase : BitVec 16 := 0
  /-- `CN_LO`, bits 31:16, RO. Bits 15:0 of CN at the EOP of the head entry. -/
  cnLo : BitVec 16 := 0
deriving DecidableEq, Repr

/-- `SLC_XCFG` (spec/07_contracts_and_transitions.md): SLC_XCFG — offset 0x304 — reset 0x0002_3C14 -/
structure SlcXcfg where
  /-- `SLEW`, bits 5:0, RWL. Slew rate S, 0.5 V/ms units, 1 to 60; 0 is treated as 1, 61 to 63 as 60. -/
  slew : BitVec 6 := 20
  /-- `XT_LIM`, bits 15:8, RWL. Transition time limit, 5 ms units, 10 to 80 (R147). -/
  xtLim : BitVec 8 := 60
  /-- `SETTLE`, bits 19:16, RWL. Settle time t_s, ms, 1 to 10; 0 is treated as 1. -/
  settle : BitVec 4 := 2
deriving DecidableEq, Repr

/-- `SLC_XSTAT` (spec/07_contracts_and_transitions.md): SLC_XSTAT — offset 0x314 — reset 0x0000_0000 -/
structure SlcXstat where
  /-- `STATE`, bits 2:0, RO. 0 idle, 1 evaluating, 2 waiting tSrcTransition, 3 ramping, 4 settling, 5 PS_RDY sent, 6 held by the hold line, 7 ramping back after abort. -/
  state : BitVec 3 := 0
  /-- `RESULT`, bits 5:3, RO. Last change: 0 none, 1 DONE, 2 aborted, 3 timed out, 4 rejected, 5 answered Wait. -/
  result : BitVec 3 := 0
  /-- `ABORT_LATE`, bits 6, RO. 1: an abort arrived after the commit point; cleared at the next Accept. -/
  abortLate : Bool := false
  /-- `CAUSE`, bits 10:8, RO. Abort cause, as in Table 7.5. -/
  cause : BitVec 3 := 0
  /-- `TARGET`, bits 27:16, RO. V_new of the last accepted change, 20 mV units. -/
  target : BitVec 12 := 0
deriving DecidableEq, Repr

/-- `SLC_OFFCFG` (spec/07_contracts_and_transitions.md): SLC_OFFCFG — offset 0x300 — reset 0x0032_06FF -/
structure SlcOffcfg where
  /-- `FIX5`, bits 0, RO. Fixed 5 V; always enabled. -/
  fix5 : Bool := true
  /-- `FIX9`, bits 1, RWL. 1: Fixed 9 V enabled. -/
  fix9 : Bool := true
  /-- `FIX15`, bits 2, RWL. 1: Fixed 15 V enabled. -/
  fix15 : Bool := true
  /-- `FIX20`, bits 3, RWL. 1: Fixed 20 V enabled. -/
  fix20 : Bool := true
  /-- `FIX28`, bits 4, RWL. 1: Fixed 28 V enabled. -/
  fix28 : Bool := true
  /-- `FIX36`, bits 5, RWL. 1: Fixed 36 V enabled. -/
  fix36 : Bool := true
  /-- `FIX48`, bits 6, RWL. 1: Fixed 48 V enabled. -/
  fix48 : Bool := true
  /-- `PPS`, bits 7, RWL. 1: PPS APDO enabled. -/
  pps : Bool := true
  /-- `SAVS`, bits 8, RWL. 1: SPR AVS APDO enabled. -/
  savs : Bool := false
  /-- `EAVS`, bits 9, RWL. 1: EPR AVS APDO enabled. -/
  eavs : Bool := true
  /-- `EPR`, bits 10, RWL. 1: EPR mode allowed. -/
  epr : Bool := true
  /-- `IMAX`, bits 22:16, RWL. I_port, 0.1 A units, 5 to 50; values above 50 are treated as 50. -/
  imax : BitVec 7 := 50
deriving DecidableEq, Repr

/-- `SLC_PROFLIM` (spec/07_contracts_and_transitions.md): SLC_PROFLIM — offset 0x308 — reset 0x0C9E_07FF -/
structure SlcProflim where
  /-- `MASK`, bits 10:0, RW. Object mask, bit for bit as SLC_OFFCFG bits 10:0; 0 removes the object or forbids EPR mode; bit 0 is ignored. -/
  mask : BitVec 11 := 2047
  /-- `VCEIL`, bits 20:12, RW. V_prof, 100 mV units. -/
  vceil : BitVec 9 := 480
  /-- `ICEIL`, bits 27:22, RW. I_prof, 0.1 A units. -/
  iceil : BitVec 6 := 50
deriving DecidableEq, Repr

/-- `SLC_CONTRACT` (spec/07_contracts_and_transitions.md): SLC_CONTRACT — offset 0x310 — reset 0x0000_0000 -/
structure SlcContract where
  /-- `VOLT`, bits 11:0, RO. Contract voltage, 20 mV units; for PPS, the requested output voltage. -/
  volt : BitVec 12 := 0
  /-- `CURR`, bits 18:12, RO. Contract operating current, 50 mA units. -/
  curr : BitVec 7 := 0
  /-- `POS`, bits 22:19, RO. Object position, 1 to 11; 0 without an explicit contract. -/
  pos : BitVec 4 := 0
  /-- `KIND`, bits 25:23, RO. 0 none (vSafe5V), 1 Fixed, 2 PPS, 3 SPR AVS, 4 EPR AVS. -/
  kind : BitVec 3 := 0
  /-- `EPR`, bits 26, RO. 1: EPR mode. -/
  epr : Bool := false
  /-- `MISMATCH`, bits 27, RO. 1: the committed Request set Capability Mismatch. -/
  mismatch : Bool := false
deriving DecidableEq, Repr

/-- `SLC_OFFCTL` (spec/07_contracts_and_transitions.md): SLC_OFFCTL — offset 0x320 — reset 0x0000_0000 -/
structure SlcOffctl where
  /-- `CFG_LK`, bits 0, RW1S. 1: locks SLC_OFFCFG and SLC_XCFG. -/
  cfgLk : Bool := false
deriving DecidableEq, Repr

/-- `SLC_PWMCFG` (spec/08_port_power_stage.md): SLC_PWMCFG — offset 0x800 — reset 0x1000_1900 -/
structure SlcPwmcfg where
  /-- `PERIOD`, bits 14:0, RWL. Switching period in 312.5 ps steps, 3,200 to 16,000 (R169). -/
  period : BitVec 15 := 6400
  /-- `GROUP`, bits 19:16, RWL. Stagger group 1 to 8; 0 none; 9 to 15 treated as 0. -/
  group : BitVec 4 := 0
  /-- `SAMP`, bits 29:24, RWL. Sampling point in 1/64 period (R162). -/
  samp : BitVec 6 := 16
deriving DecidableEq, Repr

/-- `SLC_PWMLIM` (spec/08_port_power_stage.md): SLC_PWMLIM — offset 0x804 — reset 0x000A_C080 -/
structure SlcPwmlim where
  /-- `MIN_ON`, bits 7:0, RWL. Minimum on-time in steps (40 ns). -/
  minOn : BitVec 8 := 128
  /-- `MIN_OFF`, bits 15:8, RWL. Minimum off-time in steps (60 ns). -/
  minOff : BitVec 8 := 192
  /-- `SS_RATE`, bits 23:16, RWL. Soft-start rate, 0.1 V/ms units, 5 to 100; values outside are treated as the nearer limit. -/
  ssRate : BitVec 8 := 10
deriving DecidableEq, Repr

/-- `SLC_CMPB0` (spec/08_port_power_stage.md): SLC_CMPB0 — offset 0x808 — reset 0xF98E_0384 -/
structure SlcCmpb0 where
  /-- `B0`, bits 15:0, RWL. Coefficient b0, signed. -/
  b0 : BitVec 16 := 900
  /-- `B1`, bits 31:16, RWL. Coefficient b1, signed. -/
  b1 : BitVec 16 := 63886
deriving DecidableEq, Repr

/-- `SLC_CMPB1` (spec/08_port_power_stage.md): SLC_CMPB1 — offset 0x80C — reset 0x2000_02F8 -/
structure SlcCmpb1 where
  /-- `B2`, bits 15:0, RWL. Coefficient b2, signed. -/
  b2 : BitVec 16 := 760
  /-- `A1`, bits 31:16, RWL. Coefficient a1, signed, 14 fraction bits (0.5). -/
  a1 : BitVec 16 := 8192
deriving DecidableEq, Repr

/-- `SLC_PSCFG` (spec/08_port_power_stage.md): SLC_PSCFG — offset 0x810 — reset 0x0100_0832 + n × 0x0001_0000 -/
structure SlcPscfg where
  /-- `RSH`, bits 6:0, RWL. Shunt resistance, 0.1 mΩ units, 10 to 120. -/
  rsh : BitVec 7 := 50
  /-- `ZSLOT`, bits 12:8, RWL. Number of start slots, 1 to 24 (R174); 0 is treated as 1, and values above 24 as 24. -/
  zslot : BitVec 5 := 8
  /-- `ZIDX`, bits 20:16, RWL. Start slot index of the port (R174). -/
  zidx : BitVec 5 := 0
  /-- `FE_EN`, bits 24, RWL. 1: far-end regulation allowed (R180). -/
  feEn : Bool := true
deriving DecidableEq, Repr

/-- `SLC_PWMPH` (spec/08_port_power_stage.md): SLC_PWMPH — offset 0x814 — reset 0x0000_0000 -/
structure SlcPwmph where
  /-- `NEXT`, bits 14:0, RW. Offset to load, in steps; values at or above PERIOD are taken modulo PERIOD. -/
  next : BitVec 15 := 0
  /-- `LOAD_CN`, bits 23:16, RW. Low 8 bits of the CN at which NEXT loads (R173). -/
  loadCn : BitVec 8 := 0
  /-- `PEND`, bits 24, RO. 1: a written NEXT has not yet loaded; set by any write to this register. -/
  pend : Bool := false
deriving DecidableEq, Repr

/-- `SLC_PWMOFS` (spec/08_port_power_stage.md): SLC_PWMOFS — offset 0x818 — reset 0x0000_0000 -/
structure SlcPwmofs where
  /-- `OFFSET`, bits 14:0, RO. Offset in force, in steps. -/
  offset : BitVec 15 := 0
  /-- `MOVING`, bits 15, RO. 1: the period start is still moving toward OFFSET. -/
  moving : Bool := false
deriving DecidableEq, Repr

/-- `SLC_PSSTAT` (spec/08_port_power_stage.md): SLC_PSSTAT — offset 0x81C — reset 0x0000_0000 -/
structure SlcPsstat where
  /-- `CSTATE`, bits 2:0, RO. 0 stopped, 1 soft start in pre-bias mode, 2 soft start in synchronous operation, 3 pre-bias check (from step 2 of Table 8.2), 4 closing ISOGn, 5 regulating, 6 detach or shed ramp, 7 converter stopped and waiting for a start slot … -/
  cstate : BitVec 3 := 0
  /-- `FB`, bits 3, RO. Feedback channel: 0 VCNVn_SNS, 1 VBUSn_SNS. -/
  fb : Bool := false
  /-- `CLMODE`, bits 4, RO. 1: PPS current limit active (R168). -/
  clmode : Bool := false
  /-- `DSAT`, bits 5, RO. 1: on-time at its maximum in the last period. -/
  dsat : Bool := false
  /-- `PBFAIL`, bits 7:6, RW1C. Last pre-bias failure: 0 none, 1 VCNV out of window, 2 VBUS above 0.8 V, 3 shunt current. -/
  pbfail : BitVec 2 := 0
  /-- `LIMWAIT`, bits 8, RO. 1: the lifting of a current limit waits for the start slot (R174). -/
  limwait : Bool := false
  /-- `DUTY`, bits 31:16, RO. On-time of the last period, in 2⁻¹⁶ of a period. -/
  duty : BitVec 16 := 0
deriving DecidableEq, Repr

/-- `SLC_FESTAT` (spec/08_port_power_stage.md): SLC_FESTAT — offset 0x820 — reset 0x0000_0000 -/
structure SlcFestat where
  /-- `STATE`, bits 1:0, RO. 0 off, 1 estimating, 2 applied, 3 withdrawing. -/
  state : BitVec 2 := 0
  /-- `CAP`, bits 3:2, RO. Smallest term of R183: 0 estimated drop, 1 5 % of V_c, 2 50.0 V ceiling, 3 input headroom. -/
  cap : BitVec 2 := 0
  /-- `NVALID`, bits 10:4, RO. Accepted samples held, 0 to 64. -/
  nvalid : BitVec 7 := 0
  /-- `COMP`, bits 27:16, RO. C in force, 10 mV units. -/
  comp : BitVec 12 := 0
deriving DecidableEq, Repr

/-- `SLC_FERES` (spec/08_port_power_stage.md): SLC_FERES — offset 0x824 — reset 0x0000_0000 -/
structure SlcFeres where
  /-- `RLOOP`, bits 15:0, RO. R_loop in mΩ; 0 until formed. -/
  rloop : BitVec 16 := 0
  /-- `REJ`, bits 23:16, RO. Samples rejected since Thatch entry; stops at 255. -/
  rej : BitVec 8 := 0
deriving DecidableEq, Repr

/-- `SLC_FEVOLT` (spec/08_port_power_stage.md): SLC_FEVOLT — offset 0x828 — reset 0x0000_0000 -/
structure SlcFevolt where
  /-- `VFAR`, bits 15:0, RO. V_far of the last report, 10 mV units. -/
  vfar : BitVec 16 := 0
  /-- `VNEAR`, bits 31:16, RO. V_near paired with it, 10 mV units. -/
  vnear : BitVec 16 := 0
deriving DecidableEq, Repr

/-- `SLC_TLM_V` (spec/08_port_power_stage.md): SLC_TLM_V — offset 0x830 — reset 0x0000_0000 -/
structure SlcTlmV where
  /-- `VBUS`, bits 15:0, RO. VBUSn_SNS, 10 mV units (R178). -/
  vbus : BitVec 16 := 0
  /-- `VCNV`, bits 31:16, RO. VCNVn_SNS, 10 mV units. -/
  vcnv : BitVec 16 := 0
deriving DecidableEq, Repr

/-- `SLC_TLM_I` (spec/08_port_power_stage.md): SLC_TLM_I — offset 0x834 — reset 0x0000_0000 -/
structure SlcTlmI where
  /-- `IOUT`, bits 15:0, RO. Shunt current, mA, two's complement. -/
  iout : BitVec 16 := 0
  /-- `POUT`, bits 31:16, RO. Output power, 10 mW units; 0 when IOUT is negative. -/
  pout : BitVec 16 := 0
deriving DecidableEq, Repr

/-- `SLC_VSET` (spec/08_port_power_stage.md): SLC_VSET — offset 0x848 — reset 0x0000_0000 -/
structure SlcVset where
  /-- `VSET`, bits 12:0, RO. Connector set point V_set, 10 mV units. -/
  vset : BitVec 13 := 0
  /-- `VREF`, bits 28:16, RO. Present reference V_ref, 10 mV units. -/
  vref : BitVec 13 := 0
deriving DecidableEq, Repr

/-- `SLC_PSCTL` (spec/08_port_power_stage.md): SLC_PSCTL — offset 0x84C — reset 0x0000_0000 -/
structure SlcPsctl where
  /-- `CFG_LK`, bits 0, RW1S. 1: locks SLC_PWMCFG, SLC_PWMLIM, SLC_CMPB0, SLC_CMPB1 and SLC_PSCFG. -/
  cfgLk : Bool := false
deriving DecidableEq, Repr

/-- `SLC_SWCFG` (spec/09_role_swaps.md): SLC_SWCFG — offset 0x900 — reset 0x04F0_0A9C (ports 0 and 1), 0x0000_0000 (ports 2 to 23) -/
structure SlcSwcfg where
  /-- `TIE`, bits 0, RWL. 1: tie port; used with role 2 only. -/
  tie : Bool := false
  /-- `PR_ACC_SRC`, bits 1, RWL. 1: accept PR_Swap as Source (R189). -/
  prAccSrc : Bool := false
  /-- `PR_ACC_SNK`, bits 2, RWL. 1: accept PR_Swap as Sink (R189). -/
  prAccSnk : Bool := true
  /-- `DR_ACC`, bits 3, RWL. 1: accept DR_Swap (Table 9.1). -/
  drAcc : Bool := true
  /-- `FRS_EN`, bits 4, RWL. 1: arm for Fast Role Swap (R200). -/
  frsEn : Bool := true
  /-- `FRS_REQ`, bits 7:6, RWL. Fast Role Swap current in Sink_Capabilities: 0 none, 1 default, 2 1.5 A, 3 3.0 A. -/
  frsReq : BitVec 2 := 2
  /-- `PILOT`, bits 13:8, RWL. Pilot current, 50 mA units, 1 to 60; 0 is treated as 1. -/
  pilot : BitVec 6 := 10
  /-- `P_AID`, bits 23:16, RWL. Aid power, W, 15 to 240; values outside are treated as the nearer limit. -/
  pAid : BitVec 8 := 240
  /-- `SNK_DVDT`, bits 27:24, RWL. Bulk ramp rate, 0.5 V/ms units, 1 to 10 (R206). -/
  snkDvdt : BitVec 4 := 4
deriving DecidableEq, Repr

/-- `SLC_SWSTAT` (spec/09_role_swaps.md): SLC_SWSTAT — offset 0x904 — reset 0x0000_0000 -/
structure SlcSwstat where
  /-- `PROLE`, bits 0, RO. Power role: 0 Source, 1 Sink. -/
  prole : Bool := false
  /-- `DROLE`, bits 1, RO. Data role: 0 DFP, 1 UFP. -/
  drole : Bool := false
  /-- `ATT_PROLE`, bits 2, RO. Attach role: 0 Source, 1 Sink. -/
  attProle : Bool := false
  /-- `ATT_VCSRC`, bits 3, RO. 1: the slice was VCONN source at attach. -/
  attVcsrc : Bool := false
  /-- `SWAP`, bits 6:4, RO. Swap in progress: 0 none, 1 PR_Swap, 2 Fast Role Swap, 3 DR_Swap, 4 VCONN_Swap. -/
  swap : BitVec 3 := 0
  /-- `LAST`, bits 10:8, RO. Last swap result: 0 none, 1 complete, 2 rejected, 3 Wait limit, 4 Not_Supported, 5 ended by Hard Reset, 6 yielded (R196), 7 failed by timeout or ErrorRecovery. -/
  last : BitVec 3 := 0
  /-- `LAST_KIND`, bits 13:11, RO. Kind of the last swap, coded as SWAP. -/
  lastKind : BitVec 3 := 0
  /-- `FRS_ARMED`, bits 14, RO. 1: armed (R200). -/
  frsArmed : Bool := false
  /-- `FRS_DET`, bits 15, RO. 1: FRS signal detected; cleared when the swap ends. -/
  frsDet : Bool := false
  /-- `FRS_OFFER`, bits 16, RO. 1: the partner has read a nonzero Fast Role Swap current since the last contract (R201). -/
  frsOffer : Bool := false
  /-- `PART_FRS`, bits 18:17, RO. The partner's Fast Role Swap current, coded as FRS_REQ. -/
  partFrs : BitVec 2 := 0
  /-- `AID`, bits 19, RO. 1: an aid contract holds (R204). -/
  aid : Bool := false
  /-- `SNKP`, bits 21:20, RO. Sink path: 0 open, 1 ramping, 2 closed or ideal diode, 3 faulted. -/
  snkp : BitVec 2 := 0
deriving DecidableEq, Repr

/-- `SLC_SWCTL` (spec/09_role_swaps.md): SLC_SWCTL — offset 0x908 — reset 0x0000_0000 -/
structure SlcSwctl where
  /-- `CFG_LK`, bits 0, RW1S. 1: locks SLC_SWCFG. -/
  cfgLk : Bool := false
deriving DecidableEq, Repr

/-- `SLC_PRCFG` (spec/10_protection_and_trips.md): SLC_PRCFG — offset 0xA00 — reset 0x400A_0A0A -/
structure SlcPrcfg where
  /-- `MARGIN`, bits 7:0, RWL. MARGIN of R213, %, 5 to 50; values outside are treated as the nearer limit. -/
  margin : BitVec 8 := 10
  /-- `RIPPLE`, bits 13:8, RWL. RIPPLE of R215, 0.1 A units, 0 to 63. -/
  ripple : BitVec 6 := 10
  /-- `REV`, bits 21:16, RWL. I_rev, 0.1 A units, 1 to 50; 0 is treated as 1, and values above 50 as 50. -/
  rev : BitVec 6 := 10
  /-- `PK_MAX`, bits 31:24, RWL. Consecutive limited periods before a trip (R216, R217), 1 to 255; 0 is treated as 1. -/
  pkMax : BitVec 8 := 64
deriving DecidableEq, Repr

/-- `SLC_PRTIME` (spec/10_protection_and_trips.md): SLC_PRTIME — offset 0xA04 — reset 0x0064_0064 -/
structure SlcPrtime where
  /-- `T_FUSE`, bits 9:0, RWL. Fuse constant, ms, 10 to 1,000; values outside are treated as the nearer limit. -/
  tFuse : BitVec 10 := 100
  /-- `SMP_TICK`, bits 25:16, RWL. Sampled-mode tick, 10 µs units, 1 to 1,000; 0 is treated as 1. -/
  smpTick : BitVec 10 := 100
deriving DecidableEq, Repr

/-- `SLC_PRRETRY` (spec/10_protection_and_trips.md): SLC_PRRETRY — offset 0xA08 — reset 0x0A00_C602 -/
structure SlcPrretry where
  /-- `ON_MS`, bits 7:0, RWL. Fuse constant during an attempt, ms, 1 to 255; 0 is treated as 1. -/
  onMs : BitVec 8 := 2
  /-- `OFF_MS`, bits 23:8, RWL. Off time, ms; at least 9 × ON_MS is used. -/
  offMs : BitVec 16 := 198
  /-- `COUNT`, bits 31:24, RWL. Failed attempts before latch-off; 0 unlimited (R223). -/
  count : BitVec 8 := 10
deriving DecidableEq, Repr

/-- `SLC_SNKPR` (spec/10_protection_and_trips.md): SLC_SNKPR — offset 0xA0C — reset 0x000A_0096 (ports 0 and 1), 0x0000_0000 (ports 2 to 23) -/
structure SlcSnkpr where
  /-- `SNK_DROP`, bits 9:0, RWL. SNKDROP threshold, mV, 10 to 1,000 (R226). -/
  snkDrop : BitVec 10 := 150
  /-- `SNK_FILT`, bits 23:16, RWL. SNKDROP filter, µs, 1 to 255; 0 is treated as 1. -/
  snkFilt : BitVec 8 := 10
deriving DecidableEq, Repr

/-- `SLC_CMPTHR0` (spec/10_protection_and_trips.md): SLC_CMPTHR0 — offset 0xA10 — reset 0x0000_0000 -/
structure SlcCmpthr0 where
  /-- `PEAK`, bits 9:0, RO. PEAK threshold code in force (R215). -/
  peak : BitVec 10 := 0
  /-- `SHORT`, bits 25:16, RO. SHORT threshold code in force. -/
  short : BitVec 10 := 0
deriving DecidableEq, Repr

/-- `SLC_CMPTHR1` (spec/10_protection_and_trips.md): SLC_CMPTHR1 — offset 0xA14 — reset 0x0000_0000 -/
structure SlcCmpthr1 where
  /-- `OV`, bits 9:0, RO. OV threshold code in force. -/
  ov : BitVec 10 := 0
  /-- `CMP3`, bits 25:16, RO. REV code as Source; SNK_DROP code as Sink. -/
  cmp3 : BitVec 10 := 0
deriving DecidableEq, Repr

/-- `SLC_CMPLVL` (spec/10_protection_and_trips.md): SLC_CMPLVL — offset 0xA18 — reset 0x0000_0000 -/
structure SlcCmplvl where
  /-- `LVL`, bits 3:0, RO. Live level of comparators 0 to 3, bit k for comparator k (R211). -/
  lvl : BitVec 4 := 0
  /-- `MODE`, bits 15:8, RO. Two bits per comparator, bits 2k + 9 to 2k + 8 for comparator k: 0 off, 1 continuous, 2 sampled, 3 self-check. -/
  mode : BitVec 8 := 0
  /-- `CMP3_SNK`, bits 16, RO. 1: comparator 3 is SNKDROP. -/
  cmp3Snk : Bool := false
  /-- `FUSE`, bits 31:24, RO. Fuse accumulator as acc / k, 1/256 units; 255 at or above 255/256. -/
  fuse : BitVec 8 := 0
deriving DecidableEq, Repr

/-- `SLC_PRSTAT` (spec/10_protection_and_trips.md): SLC_PRSTAT — offset 0xA1C — reset 0x0000_0000 -/
structure SlcPrstat where
  /-- `PSTATE`, bits 2:0, RO. 0 normal, 1 tripped (off time), 2 retry attempt, 3 latched off, 4 self-check failed; 5 to 7 reserved. -/
  pstate : BitVec 3 := 0
  /-- `CAUSE`, bits 6:3, RO. Last cause: 0 none, 1 fuse, 2 sustained PEAK, 3 SHORT, 4 OV, 5 sustained REV, 6 pre-bias failure, 7 self-check, 8 SNKDROP, 9 sink OV, 10 attempt not settled (R222); 11 to 15 reserved. -/
  cause : BitVec 4 := 0
  /-- `TRIES`, bits 15:8, RO. Failed attempts (R222, R223); stops at 255. -/
  tries : BitVec 8 := 0
  /-- `SCFAIL`, bits 19:16, RO. Bit k: comparator k failed the last self-check. -/
  scfail : BitVec 4 := 0
  /-- `TRIPS`, bits 31:24, RO. Trips since reset; a failed self-check is not counted (R230); stops at 255. -/
  trips : BitVec 8 := 0
deriving DecidableEq, Repr

/-- `SLC_TRIPV` (spec/10_protection_and_trips.md): SLC_TRIPV — offset 0xA20 — reset 0x0000_0000 -/
structure SlcTripv where
  /-- `ITRIP`, bits 15:0, RO. Shunt current at the last trip, mA, two's complement. -/
  itrip : BitVec 16 := 0
  /-- `VTRIP`, bits 31:16, RO. VBUS at the last trip, 10 mV units. -/
  vtrip : BitVec 16 := 0
deriving DecidableEq, Repr

/-- `SLC_PRCTL` (spec/10_protection_and_trips.md): SLC_PRCTL — offset 0xA24 — reset 0x0000_0000 -/
structure SlcPrctl where
  /-- `CFG_LK`, bits 0, RW1S. 1: locks SLC_PRCFG, SLC_PRTIME, SLC_PRRETRY and SLC_SNKPR. -/
  cfgLk : Bool := false
deriving DecidableEq, Repr

/-- `SUP_FLT` (spec/10_protection_and_trips.md): SUP_FLT — 0x4002_0034 — reset 0x0000_0000 -/
structure SupFlt where
  /-- `PORTS`, bits 23:0, RO. Bit n: slice n in PSTATE 3 or 4. -/
  ports : BitVec 24 := 0
  /-- `MAIN_LATCH`, bits 24, RO. Copy of SUP_RSTAT.MAIN_LATCH. -/
  mainLatch : Bool := false
  /-- `BKUP_LATCH`, bits 25, RO. Copy of SUP_RSTAT.BKUP_LATCH. -/
  bkupLatch : Bool := false
  /-- `MSK_SUP`, bits 31, RW. 1: bits 24 and 25 do not drive FAULT_N (R231). -/
  mskSup : Bool := false
deriving DecidableEq, Repr

/-- `SLC_GRANT` (spec/11_hub_power_policy.md): SLC_GRANT — offset 0xB00 — reset 0x0000_0000 -/
structure SlcGrant where
  /-- `PWR`, bits 11:0, RW. Grant register, 0.1 W units; values above 2,400 are treated as 2,400. Written only by the Policy Core (R232). -/
  pwr : BitVec 12 := 0
  /-- `KLN`, bits 12, RW. 1: the grant is limited by a kiln derate (R233). -/
  kln : Bool := false
deriving DecidableEq, Repr

/-- `SLC_GNTSTAT` (spec/11_hub_power_policy.md): SLC_GNTSTAT — offset 0xB04 — reset 0x0000_0000 -/
structure SlcGntstat where
  /-- `EFF`, bits 11:0, RO. Effective grant (R16), 0.1 W units. -/
  eff : BitVec 12 := 0
  /-- `CAP`, bits 19:12, RO. Cap on the cap bus, encoded as in R69. -/
  cap : BitVec 8 := 0
  /-- `NOSUP`, bits 20, RO. 1: no-supply flag set. -/
  nosup : Bool := false
deriving DecidableEq, Repr

/-- `SLC_PTNID` (spec/11_hub_power_policy.md): SLC_PTNID — offset 0xB08 — reset 0x0000_0000 -/
structure SlcPtnid where
  /-- `VID`, bits 15:0, RO. Vendor ID from the partner's ACK to Discover Identity on SOP; 0 when none, including after a NAK, a BUSY answer or no answer (R244). Cleared at detach and ErrorRecovery. -/
  vid : BitVec 16 := 0
  /-- `PID`, bits 31:16, RO. Product ID from the same answer. -/
  pid : BitVec 16 := 0
deriving DecidableEq, Repr

/-- `BUD_CFG` (spec/11_hub_power_policy.md): BUD_CFG — 0x4002_1000 — reset 0x4B0F_5E0A -/
structure BudCfg where
  /-- `ROUND`, bits 7:0, RWL. Periodic round interval, 10 ms units, 1 to 100; 0 is treated as 1, and values above 100 as 100. -/
  round : BitVec 8 := 10
  /-- `EFF`, bits 14:8, RWL. EFF of R235, %, 70 to 100; values outside are treated as the nearer limit. -/
  eff : BitVec 7 := 94
  /-- `P_OVH`, bits 23:16, RWL. P_OVH of R235, W. -/
  pOvh : BitVec 8 := 15
  /-- `DTW`, bits 30:24, RWL. Budget factor while TWARN is 1, %, 25 to 100. -/
  dtw : BitVec 7 := 75
  /-- `CFG_LK`, bits 31, RW1S. 1: locks BUD_CFG, BUD_IN and the RWL fields of BUD_PCFGn. -/
  cfgLk : Bool := false
deriving DecidableEq, Repr

/-- `BUD_IN` (spec/11_hub_power_policy.md): BUD_IN — 0x4002_1004 — reset 0x05DC_1770 -/
structure BudIn where
  /-- `B_MAIN`, bits 12:0, RWL. Main input budget, W. -/
  bMain : BitVec 13 := 6000
  /-- `B_BKUP`, bits 28:16, RWL. Backup input budget, W. -/
  bBkup : BitVec 13 := 1500
deriving DecidableEq, Repr

/-- `BUD_STAT` (spec/11_hub_power_policy.md): BUD_STAT — 0x4002_1008 — reset 0x0000_0000 -/
structure BudStat where
  /-- `AVAIL`, bits 13:0, RO. A of the last round, W. -/
  avail : BitVec 14 := 0
  /-- `EXH`, bits 14, RO. 1: exhaustion condition (R240). -/
  exh : Bool := false
  /-- `TWARN_RED`, bits 15, RO. 1: die-temperature factor in use (R252). -/
  twarnRed : Bool := false
  /-- `RND8`, bits 18:16, RO. Round number mod 8. -/
  rnd8 : BitVec 3 := 0
  /-- `RSV`, bits 23:19, RO. Port served first in the last reserved round; 31 when none waited. -/
  rsv : BitVec 5 := 0
deriving DecidableEq, Repr

/-- `BUD_SUM` (spec/11_hub_power_policy.md): BUD_SUM — 0x4002_100C — reset 0x0000_0000 -/
structure BudSum where
  /-- `GRANTED`, bits 13:0, RO. Sum of the effective grants, W. -/
  granted : BitVec 14 := 0
  /-- `DELIV`, bits 29:16, RO. Sum of delivered power at the last snapshot, W. -/
  deliv : BitVec 14 := 0
deriving DecidableEq, Repr

/-- `BUD_PROF` (spec/11_hub_power_policy.md): BUD_PROF — 0x4002_1010 — reset 0x0000_0000 -/
structure BudProf where
  /-- `COUNT`, bits 12:0, RO. Non-empty entries in the profile table. -/
  count : BitVec 13 := 0
  /-- `DROPPED`, bits 28:16, RO. Entries dropped at load (R242). -/
  dropped : BitVec 13 := 0
deriving DecidableEq, Repr

/-- `BUD_PCFGn` (spec/11_hub_power_policy.md): BUD_PCFGn — 0x4002_1040 + 4 × n — reset 0x1FFF_F078 -/
structure BudPcfg where
  /-- `P_DEF`, bits 7:0, RWL. Target with no matching partner entry, W, 15 to 240; values outside are treated as the nearer limit. -/
  pDef : BitVec 8 := 120
  /-- `P_PMAX`, bits 15:8, RWL. Port maximum, W, 15 to 240; values outside are treated as the nearer limit. -/
  pPmax : BitVec 8 := 240
  /-- `HLIM`, bits 24:16, RW. Host limit, W; 0 to 240 limits the port; 241 to 511 means no limit. Not persistent. -/
  hlim : BitVec 9 := 511
  /-- `P_IDLE`, bits 31:25, RWL. Floor with no matching partner entry, W, 5 to 100; values outside are treated as the nearer limit. -/
  pIdle : BitVec 7 := 15
deriving DecidableEq, Repr

/-- `BUD_PSTATn` (spec/11_hub_power_policy.md): BUD_PSTATn — 0x4002_10A0 + 4 × n — reset 0x0000_0000 -/
structure BudPstat where
  /-- `ETIER`, bits 2:0, RO. Effective tier (R238). -/
  etier : BitVec 3 := 0
  /-- `WAIT`, bits 3, RO. 1: the port is waiting. -/
  wait : Bool := false
  /-- `WAIT_S`, bits 11:4, RO. Wait time, s; stops at 255. -/
  waitS : BitVec 8 := 0
  /-- `TGT`, bits 19:12, RO. min(T, K), W. -/
  tgt : BitVec 8 := 0
  /-- `FLOOR`, bits 27:20, RO. Floor granted in stage A, W. -/
  floor : BitVec 8 := 0
  /-- `PROF`, bits 28, RO. 1: partner entry matched. -/
  prof : Bool := false
  /-- `CPROF`, bits 29, RO. 1: cable entry matched. -/
  cprof : Bool := false
  /-- `SHED_A`, bits 30, RO. 1: floor refused in the last round. -/
  shedA : Bool := false
deriving DecidableEq, Repr

/-- `KLN_STAT` (spec/11_hub_power_policy.md): KLN_STAT — 0x4002_2000 — reset 0x0000_0000 -/
structure KlnStat where
  /-- `UPD`, bits 15:0, RO. Kiln updates since Policy Core start; wraps silently. -/
  upd : BitVec 16 := 0
  /-- `CN_LO`, bits 31:16, RO. Bits 15:0 of the CN of the last update. -/
  cnLo : BitVec 16 := 0
deriving DecidableEq, Repr

/-- `KLN_CTL` (spec/11_hub_power_policy.md): KLN_CTL — 0x4002_2004 — reset 0x0000_0000 -/
structure KlnCtl where
  /-- `CFG_LK`, bits 0, RW1S. 1: locks KLN_SHk_A to KLN_SHk_D and KLN_PCFGn. -/
  cfgLk : Bool := false
deriving DecidableEq, Repr

/-- `KLN_SHk_A` (spec/11_hub_power_policy.md): KLN_SHk_A — 0x4002_2040 + 32 × k — reset 0x1F42_5808 -/
structure KlnShA where
  /-- `NTC`, bits 3:0, RWL. NTC input 0 to 7; 8 to 15 mean none. -/
  ntc : BitVec 4 := 8
  /-- `EN`, bits 4, RWL. 1: sheaf k is defined. -/
  en : Bool := false
  /-- `TLIM`, bits 17:8, RWL. Conductor limit, 0.1 °C, 300 to 900. -/
  tlim : BitVec 10 := 600
  /-- `TFB`, bits 29:20, RWL. Fallback ambient, 0.1 °C, 0 to 900. -/
  tfb : BitVec 10 := 500
deriving DecidableEq, Repr

/-- `KLN_SHk_B` (spec/11_hub_power_policy.md): KLN_SHk_B — 0x4002_2044 + 32 × k — reset 0x0600_0400 -/
structure KlnShB where
  /-- `THS`, bits 15:0, RWL. Sheaf thermal resistance, 1/256 K·m/W. -/
  ths : BitVec 16 := 1024
  /-- `THC`, bits 31:16, RWL. Conductor thermal resistance, 1/256 K·m/W. -/
  thc : BitVec 16 := 1536
deriving DecidableEq, Repr

/-- `KLN_SHk_C` (spec/11_hub_power_policy.md): KLN_SHk_C — 0x4002_2048 + 32 × k — reset 0x0078_0384 -/
structure KlnShC where
  /-- `TAUS`, bits 15:0, RWL. Sheaf time constant, s, 10 to 65,535; values below 10 are treated as 10. -/
  taus : BitVec 16 := 900
  /-- `TAUC`, bits 31:16, RWL. Conductor time constant, s, 10 to 65,535; values below 10 are treated as 10. -/
  tauc : BitVec 16 := 120
deriving DecidableEq, Repr

/-- `KLN_SHk_D` (spec/11_hub_power_policy.md): KLN_SHk_D — 0x4002_204C + 32 × k — reset 0x1906_4F6E -/
structure KlnShD where
  /-- `BETA`, bits 11:0, RWL. Thermistor constant B, K. -/
  beta : BitVec 12 := 3950
  /-- `RNOM`, bits 21:12, RWL. Thermistor resistance at 25 °C, 100 Ω units. -/
  rnom : BitVec 10 := 100
  /-- `RPU`, bits 31:22, RWL. Pull-up resistance, 100 Ω units. -/
  rpu : BitVec 10 := 100
deriving DecidableEq, Repr

/-- `KLN_SHk_STAT` (spec/11_hub_power_policy.md): KLN_SHk_STAT — 0x4002_2050 + 32 × k — reset 0x0000_0000 -/
structure KlnShStat where
  /-- `TAMB`, bits 15:0, RO. T_amb of the last update, 1/256 °C, two's complement. -/
  tamb : BitVec 16 := 0
  /-- `NFLT`, bits 16, RO. 1: sensor fault in the last interval (R246). -/
  nflt : Bool := false
  /-- `ALARM`, bits 17, RO. 1: a member's modelled temperature exceeds its limit by 5 °C (R249). -/
  alarm : Bool := false
  /-- `FB`, bits 18, RO. 1: TFB in use. -/
  fb : Bool := false
deriving DecidableEq, Repr

/-- `KLN_PCFGn` (spec/11_hub_power_policy.md): KLN_PCFGn — 0x4002_2140 + 4 × n — reset 0x1770_0008 -/
structure KlnPcfg where
  /-- `SHEAF`, bits 3:0, RWL. Sheaf 0 to 7; 8 to 15 mean none. -/
  sheaf : BitVec 4 := 8
  /-- `LEN`, bits 15:4, RWL. Cable length, 0.1 m units; 0 means unknown. -/
  len : BitVec 12 := 0
  /-- `RPM`, bits 31:16, RWL. Default loop resistance per metre, 10 µΩ/m units. -/
  rpm : BitVec 16 := 6000
deriving DecidableEq, Repr

/-- `KLN_PSTATn_A` (spec/11_hub_power_policy.md): KLN_PSTATn_A — 0x4002_21A0 + 8 × n — reset 0x0000_0000 -/
structure KlnPstatA where
  /-- `TPRED`, bits 15:0, RO. Predicted steady-state conductor temperature, 0.1 °C, two's complement. -/
  tpred : BitVec 16 := 0
  /-- `TMOD`, bits 31:16, RO. Modelled present conductor temperature, 0.1 °C, two's complement. -/
  tmod : BitVec 16 := 0
deriving DecidableEq, Repr

/-- `KLN_PSTATn_B` (spec/11_hub_power_policy.md): KLN_PSTATn_B — 0x4002_21A4 + 8 × n — reset 0x0000_0000 -/
structure KlnPstatB where
  /-- `CEIL`, bits 11:0, RO. Kiln ceiling, 0.1 W units; valid while DER is 1. -/
  ceil : BitVec 12 := 0
  /-- `DER`, bits 12, RO. 1: the port is derated (R250). -/
  der : Bool := false
  /-- `RSRC`, bits 14:13, RO. Source of r′: 0 not modelled, 1 far-end estimate, 2 cable entry, 3 port record. -/
  rsrc : BitVec 2 := 0
  /-- `FLOOR_HELD`, bits 15, RO. 1: the tier-0 floor holds the ceiling up (R251). -/
  floorHeld : Bool := false
  /-- `IRMS`, bits 31:16, RO. Root-mean-square current of the last interval, mA. -/
  irms : BitVec 16 := 0
deriving DecidableEq, Repr

/-- `CYC_STAT` (spec/12_cycle_time_and_sync.md): CYC_STAT — 0x4002_3000 — reset 0x0000_0000 -/
structure CycStat where
  /-- `SRC`, bits 1:0, RO. Source: 0 internal, 1 ZC_IN, 2 SlaseLine. -/
  src : BitVec 2 := 0
  /-- `ZC_VALID`, bits 2, RO. 1: ZC_IN valid (R254). -/
  zcValid : Bool := false
  /-- `ALIGNED`, bits 3, RO. 1: \|e\| at or below 10 µs (R256). -/
  aligned : Bool := false
  /-- `SLEW`, bits 4, RO. 1: a clamp of R256 limits L. -/
  slew : Bool := false
  /-- `GWIN`, bits 5, RO. 1: global operation window (R269). -/
  gwin : Bool := false
  /-- `RENUM`, bits 6, RW1C. 1: a renumbering has occurred (R258). -/
  renum : Bool := false
  /-- `QCNT`, bits 15:8, RO. Pending entries, 0 to 128. -/
  qcnt : BitVec 8 := 0
deriving DecidableEq, Repr

/-- `CYC_CFG` (spec/12_cycle_time_and_sync.md): CYC_CFG — 0x4002_3004 — reset 0x0000_0141 -/
structure CycCfg where
  /-- `ZC_EN`, bits 0, RWL. 1: ZC_IN may become valid. -/
  zcEn : Bool := true
  /-- `INT_HZ`, bits 1, RWL. Internal cycle: 0 50 Hz, 1 60 Hz. -/
  intHz : Bool := false
  /-- `EDGE`, bits 3:2, RWL. 0 rising, 1 falling, 2 both; 3 is treated as 0. -/
  edge : BitVec 2 := 0
  /-- `FILT`, bits 11:4, RWL. Edge filter, samples (R253). -/
  filt : BitVec 8 := 20
  /-- `PSC`, bits 19:12, RWL. Prescaler, N − 1. -/
  psc : BitVec 8 := 0
  /-- `OFS`, bits 29:20, RWL. Reference offset, µs, two's complement, −512 to 511. -/
  ofs : BitVec 10 := 0
deriving DecidableEq, Repr

/-- `CYC_LDCTL` (spec/12_cycle_time_and_sync.md): CYC_LDCTL — 0x4002_3040 — reset 0x0000_0000 -/
structure CycLdctl where
  /-- `HANDLE`, bits 30:16, RW. Handle for ABORT. -/
  handle : BitVec 15 := 0
deriving DecidableEq, Repr

/-- `CYC_LDSTAT` (spec/12_cycle_time_and_sync.md): CYC_LDSTAT — 0x4002_3044 — reset 0x0000_0000, banked per requester -/
structure CycLdstat where
  /-- `RESULT`, bits 2:0, RO. 0 none, 1 accepted, 2 refused, 3 aborted, 4 abort late, 5 abort refused. -/
  result : BitVec 3 := 0
  /-- `CAUSE`, bits 6:3, RO. Refusal cause (R264). -/
  cause : BitVec 4 := 0
  /-- `LATE`, bits 7, RO. 1: accepted after its due instant. -/
  late : Bool := false
  /-- `HANDLE`, bits 30:16, RO. Handle of the accepted entry. -/
  handle : BitVec 15 := 0
deriving DecidableEq, Repr

/-- `CYC_CTL` (spec/12_cycle_time_and_sync.md): CYC_CTL — 0x4002_3048 — reset 0x0000_0000 -/
structure CycCtl where
  /-- `CFG_LK`, bits 0, RW1S. 1: locks CYC_CFG. -/
  cfgLk : Bool := false
deriving DecidableEq, Repr

/-- `TIMk_CTL` (spec/12_cycle_time_and_sync.md): TIMk_CTL — 0x4002_3100 + 32 × k, k = 0 to 7 — reset 0x0000_0000 -/
structure TimCtl where
  /-- `EN`, bits 0, RW. 1: counting. -/
  en : Bool := false
  /-- `ONESHOT`, bits 1, RW. 1: stop at TOP. -/
  oneshot : Bool := false
  /-- `CLK`, bits 3:2, RW. Clock (R270). -/
  clk : BitVec 2 := 0
  /-- `PSC`, bits 11:4, RW. Fabric clock divider − 1. -/
  psc : BitVec 8 := 0
  /-- `MIE`, bits 12, RW. 1: MATCH interrupts the cores. -/
  mie : Bool := false
  /-- `OIE`, bits 13, RW. 1: OVF interrupts the cores. -/
  oie : Bool := false
  /-- `LD_ARM`, bits 14, RW. 1: load armed (R271); cleared at the load. -/
  ldArm : Bool := false
  /-- `LD_CN`, bits 23:16, RW. Low 8 bits of the load CN. -/
  ldCn : BitVec 8 := 0
deriving DecidableEq, Repr

/-- `TIMk_STAT` (spec/12_cycle_time_and_sync.md): TIMk_STAT — +0x14 — reset 0x0000_0000 -/
structure TimStat where
  /-- `MATCH`, bits 0, RW1C. 1: the count has equalled MATCH. -/
  matchF : Bool := false
  /-- `OVF`, bits 1, RW1C. 1: the count has passed TOP. -/
  ovf : Bool := false
deriving DecidableEq, Repr

/-- `CYC_SLOTk` (spec/12_cycle_time_and_sync.md): CYC_SLOTk — 0x4002_3200 + 4 × k, k = 0 to 127 — reset 0x0000_0000 -/
structure CycSlot where
  /-- `STATE`, bits 2:0, RO. 0 free, 1 pending, 2 committed and waiting for the hold line, 3 done, 4 aborted. -/
  state : BitVec 3 := 0
  /-- `LATE`, bits 3, RO. 1: ran late (R268). -/
  late : Bool := false
  /-- `ABORT_LATE`, bits 4, RO. 1: an abort arrived after the commit point. -/
  abortLate : Bool := false
  /-- `RES`, bits 6:5, RO. 0 not run, 1 done on every target, 2 some ports skipped, 3 refused when run. -/
  res : BitVec 2 := 0
  /-- `SRC`, bits 10:8, RO. 0 host A, 1 host B, 2 service port, 3 Policy Core, 4 SlaseLine, 5 Warden Core; 6 and 7 are not used. -/
  src : BitVec 3 := 0
  /-- `OP`, bits 23:16, RO. Operation. -/
  op : BitVec 8 := 0
  /-- `GEN`, bits 31:24, RO. Generation of the slot. -/
  gen : BitVec 8 := 0
deriving DecidableEq, Repr

/-- `SYN_STAT` (spec/12_cycle_time_and_sync.md): SYN_STAT — 0x4002_4000 — reset 0x0000_0000 -/
structure SynStat where
  /-- `STATE`, bits 2:0, RO. 0 disabled, 1 acquiring, 2 locked, 3 lost, 4 master, 5 master silenced (R280). -/
  state : BitVec 3 := 0
  /-- `CONFLICT`, bits 3, RO. 1: a second master has been heard; cleared only by reset. -/
  conflict : Bool := false
  /-- `MISS`, bits 7:4, RO. Consecutive missed ticks; stops at 15. -/
  miss : BitVec 4 := 0
deriving DecidableEq, Repr

/-- `SYN_CFG` (spec/12_cycle_time_and_sync.md): SYN_CFG — 0x4002_4004 — reset 0x0040_0000 -/
structure SynCfg where
  /-- `EN`, bits 0, RWL. 1: SlaseLine in use. -/
  en : Bool := false
  /-- `MASTER`, bits 1, RWL. 1: domain master. -/
  master : Bool := false
  /-- `ADDR`, bits 15:2, RWL. Hub address, 0 to 16,383. -/
  addr : BitVec 14 := 0
  /-- `DEPTH`, bits 19:16, RWL. Repeater depth D (R281). -/
  depth : BitVec 4 := 0
  /-- `LEAD`, bits 27:20, RWL. Default lead, cycles, 2 to 255; values below 2 are treated as 2. -/
  lead : BitVec 8 := 4
deriving DecidableEq, Repr

/-- `SYN_CFG2` (spec/12_cycle_time_and_sync.md): SYN_CFG2 — 0x4002_4008 — reset 0x0000_0000 -/
structure SynCfg2 where
  /-- `DOM`, bits 15:0, RWL. Domain identifier. -/
  dom : BitVec 16 := 0
  /-- `DLY`, bits 26:16, RWL. Line delay, µs, 0 to 2,000 (R277). -/
  dly : BitVec 11 := 0
deriving DecidableEq, Repr

/-- `SYN_CNT` (spec/12_cycle_time_and_sync.md): SYN_CNT — 0x4002_400C — reset 0x0000_0000 -/
structure SynCnt where
  /-- `BAD`, bits 7:0, RO. Frames discarded as malformed (R273); stops at 255. -/
  bad : BitVec 8 := 0
  /-- `FOREIGN`, bits 15:8, RO. Frames of another domain; stops at 255. -/
  foreign : BitVec 8 := 0
  /-- `DUP`, bits 23:16, RO. Repeated commands ignored; stops at 255. -/
  dup : BitVec 8 := 0
  /-- `DROP`, bits 31:24, RO. Commands refused by the scheduler; stops at 255. -/
  drop : BitVec 8 := 0
deriving DecidableEq, Repr

/-- `SYN_CTL` (spec/12_cycle_time_and_sync.md): SYN_CTL — 0x4002_4030 — reset 0x0000_0000 -/
structure SynCtl where
  /-- `CFG_LK`, bits 0, RW1S. 1: locks SYN_CFG, SYN_CFG2 and SYN_GRPk. -/
  cfgLk : Bool := false
deriving DecidableEq, Repr

/-- `SLC_THCFG` (spec/13_thatch_luminaire_mode.md): SLC_THCFG — offset 0xD00 — reset 0x0001_FF0D -/
structure SlcThcfg where
  /-- `EN`, bits 0, RWL. 1: Thatch discovery and entry allowed (R282). -/
  en : Bool := true
  /-- `MAXVER`, bits 3:2, RWL. Highest minor version offered, 0 to 3. -/
  maxver : BitVec 2 := 3
  /-- `CAPS`, bits 15:8, RWL. Capabilities offered (Table 13.2). -/
  caps : BitVec 8 := 255
  /-- `EMGSCN`, bits 23:16, RWL. Emergency scene number, 1 to 255; 0 is treated as 1 (R294). -/
  emgscn : BitVec 8 := 1
deriving DecidableEq, Repr

/-- `SLC_THSTAT` (spec/13_thatch_luminaire_mode.md): SLC_THSTAT — offset 0xD04 — reset 0x0000_0000 -/
structure SlcThstat where
  /-- `STATE`, bits 2:0, RO. 0 not in mode, 1 discovering, 2 entering, 3 link starting, 4 link up, 5 link lost, 6 not entered or given up; 7 reserved. -/
  state : BitVec 3 := 0
  /-- `VER`, bits 5:4, RO. Agreed minor version. -/
  ver : BitVec 2 := 0
  /-- `REENT`, bits 7:6, RO. Re-entries made under R297. -/
  reent : BitVec 2 := 0
  /-- `CAPS`, bits 15:8, RO. Agreed capabilities. -/
  caps : BitVec 8 := 0
  /-- `FEGNT`, bits 16, RO. 1: far-end-regulation grant in force (R296). -/
  fegnt : Bool := false
  /-- `DERATE`, bits 17, RO. 1: a DERATE or fallback DIM limit is in force (R295). -/
  derate : Bool := false
  /-- `EMGSCN`, bits 18, RO. 1: the last REPORT showed the emergency scene. -/
  emgscn : Bool := false
  /-- `QLEN`, bits 27:24, RO. Commands queued, 0 to 8. -/
  qlen : BitVec 4 := 0
deriving DecidableEq, Repr

/-- `SLC_THREP0` (spec/13_thatch_luminaire_mode.md): SLC_THREP0 — offset 0xD0C — reset 0x0000_0000 -/
structure SlcThrep0 where
  /-- `VIN`, bits 15:0, RO. VIN of the last POLL REPORT, 10 mV units. -/
  vin : BitVec 16 := 0
  /-- `IIN`, bits 31:16, RO. IIN, mA. -/
  iin : BitVec 16 := 0
deriving DecidableEq, Repr

/-- `SLC_THREP1` (spec/13_thatch_luminaire_mode.md): SLC_THREP1 — offset 0xD10 — reset 0x0000_0000 -/
structure SlcThrep1 where
  /-- `TLED`, bits 7:0, RO. TLED, as in Table 13.6. -/
  tled : BitVec 8 := 0
  /-- `DIM`, bits 23:8, RO. DIM, 0.01 % units. -/
  dim : BitVec 16 := 0
  /-- `EMG`, bits 31:24, RO. EMG byte. -/
  emg : BitVec 8 := 0
deriving DecidableEq, Repr

/-- `SLC_THREP2` (spec/13_thatch_luminaire_mode.md): SLC_THREP2 — offset 0xD14 — reset 0x0000_0000 -/
structure SlcThrep2 where
  /-- `FAULT`, bits 7:0, RO. FAULT byte. -/
  fault : BitVec 8 := 0
  /-- `FLAGS`, bits 15:8, RO. FLAGS byte. -/
  flags : BitVec 8 := 0
  /-- `BATT`, bits 23:16, RO. BATT byte. -/
  batt : BitVec 8 := 0
  /-- `CNL`, bits 31:24, RO. CNL of the REPORT (R292). -/
  cnl : BitVec 8 := 0
deriving DecidableEq, Repr

/-- `SLC_THCNT` (spec/13_thatch_luminaire_mode.md): SLC_THCNT — offset 0xD18 — reset 0x0000_0000 -/
structure SlcThcnt where
  /-- `BADCRC`, bits 7:0, RO. Frames discarded (R287); stops at 255. -/
  badcrc : BitVec 8 := 0
  /-- `NORESP`, bits 15:8, RO. Missed responses (R288); stops at 255. -/
  noresp : BitVec 8 := 0
  /-- `RETX`, bits 23:16, RO. Commands sent again (R289); stops at 255. -/
  retx : BitVec 8 := 0
  /-- `DROP`, bits 31:24, RO. Commands dropped (R289); stops at 255. -/
  drop : BitVec 8 := 0
deriving DecidableEq, Repr

/-- `SLC_THDIM` (spec/13_thatch_luminaire_mode.md): SLC_THDIM — offset 0xD1C — reset 0x0000_0000 -/
structure SlcThdim where
  /-- `CMD`, bits 13:0, RO. Last commanded level, 0.01 % units; 0 with CMD_V 0 until a level is commanded. -/
  cmd : BitVec 14 := 0
  /-- `CMD_V`, bits 14, RO. 1: a level has been commanded since attach. -/
  cmdV : Bool := false
  /-- `SENT`, bits 29:16, RO. Last level sent in DIM, 0.01 % units. -/
  sent : BitVec 14 := 0
deriving DecidableEq, Repr

/-- `SLC_THCTL` (spec/13_thatch_luminaire_mode.md): SLC_THCTL — offset 0xD20 — reset 0x0000_0000 -/
structure SlcThctl where
  /-- `CFG_LK`, bits 0, RW1S. 1: locks SLC_THCFG. -/
  cfgLk : Bool := false
deriving DecidableEq, Repr

/-- `HST_CFG` (spec/14_host_ports.md): HST_CFG — 0x4002_5000 — reset 0x0F98_4043 -/
structure HstCfg where
  /-- `A_EN`, bits 0, RWL. 1: host A active (R300). -/
  aEn : Bool := true
  /-- `B_EN`, bits 1, RWL. 1: host B active. -/
  bEn : Bool := true
  /-- `PEC_REQ`, bits 2, RWL. 1: PEC mandatory for domain A (R306). -/
  pecReq : Bool := false
  /-- `GFILT`, bits 7:4, RWL. Glitch filter, 48 MHz periods (R309). -/
  gfilt : BitVec 4 := 4
  /-- `BASE`, bits 14:8, RWL. Two-wire address base (R39). -/
  base : BitVec 7 := 64
  /-- `RT_A`, bits 19:16, RWL. Mailbox rights of domain A. -/
  rtA : BitVec 4 := 8
  /-- `RT_B`, bits 23:20, RWL. Mailbox rights of domain B. -/
  rtB : BitVec 4 := 9
  /-- `RT_S`, bits 27:24, RWL. Mailbox rights of domain S. -/
  rtS : BitVec 4 := 15
deriving DecidableEq, Repr

/-- `HST_STAT` (spec/14_host_ports.md): HST_STAT — 0x4002_5004 — reset 0x0000_0000, banked -/
structure HstStat where
  /-- `RESULT`, bits 2:0, RO. Last transaction: 0 none, 1 write committed, 2 read ended, 3 discarded, 4 refused busy. -/
  result : BitVec 3 := 0
  /-- `CAUSE`, bits 7:4, RO. 0 none; 1 to 11 as in Table 14.3 and R304 to R312; 12 refused busy (SPI). -/
  cause : BitVec 4 := 0
  /-- `BUSY`, bits 8, RO. 1: a staged write is still completing. -/
  busy : Bool := false
  /-- `MBPEND`, bits 9, RO. 1: a mailbox request of this domain is pending. -/
  mbpend : Bool := false
deriving DecidableEq, Repr

/-- `HST_CNT` (spec/14_host_ports.md): HST_CNT — 0x4002_5008 — reset 0x0000_0000, banked -/
structure HstCnt where
  /-- `ERR`, bits 7:0, RO. Transactions discarded or with read faults; stops at 255. -/
  err : BitVec 8 := 0
  /-- `PECF`, bits 15:8, RO. PEC failures (R306); stops at 255. -/
  pecf : BitVec 8 := 0
  /-- `BUSYN`, bits 23:16, RO. Busy refusals (R303, R311); stops at 255. -/
  busyn : BitVec 8 := 0
deriving DecidableEq, Repr

/-- `HST_CTL` (spec/14_host_ports.md): HST_CTL — 0x4002_500C — reset 0x0000_0000 -/
structure HstCtl where
  /-- `CFG_LK`, bits 0, RW1S. 1: locks HST_CFG. -/
  cfgLk : Bool := false
deriving DecidableEq, Repr

/-- `HST_LASTWN` (spec/14_host_ports.md): HST_LASTWN — 0x4002_5018 — reset 0x0000_0000, banked -/
structure HstLastwn where
  /-- `COUNT`, bits 4:0, RO. Words in the last committed write, 1 to 16. -/
  count : BitVec 5 := 0
  /-- `DCRC`, bits 15:8, RO. CRC-8 of R306 over the data bytes of that write only. -/
  dcrc : BitVec 8 := 0
deriving DecidableEq, Repr

/-- `HST_MBCMD` (spec/14_host_ports.md): HST_MBCMD — 0x4002_5020 — reset 0x0000_0000, banked -/
structure HstMbcmd where
  /-- `CMD`, bits 7:0, RW. Command (Table 14.4). -/
  cmd : BitVec 8 := 0
deriving DecidableEq, Repr

/-- `HST_MBSTAT` (spec/14_host_ports.md): HST_MBSTAT — 0x4002_5028 — reset 0x0000_0000, banked -/
structure HstMbstat where
  /-- `STATE`, bits 1:0, RO. 0 idle, 1 pending, 2 done, 3 refused. -/
  state : BitVec 2 := 0
  /-- `CAUSE`, bits 6:4, RO. 1 right not held, 2 unknown command, 3 Warden Core stopped, 4 invalid argument. -/
  cause : BitVec 3 := 0
deriving DecidableEq, Repr

/-- `AUX_CFG` (spec/14_host_ports.md): AUX_CFG — 0x4002_B000 — reset 0x0000_1901 -/
structure AuxCfg where
  /-- `RATE`, bits 1:0, RWL. 0 100 kHz, 1 400 kHz, 2 1 MHz; 3 is treated as 1. -/
  rate : BitVec 2 := 1
  /-- `STRETCH`, bits 15:8, RWL. Stretch limit, ms, 1 to 255; 0 is treated as 1 (R317). -/
  stretch : BitVec 8 := 25
  /-- `CFG_LK`, bits 31, RW1S. 1: locks AUX_CFG. -/
  cfgLk : Bool := false
deriving DecidableEq, Repr

/-- `AUX_STAT` (spec/14_host_ports.md): AUX_STAT — 0x4002_B004 — reset 0x0000_0000 -/
structure AuxStat where
  /-- `FAULT`, bits 0, RO. 1: the last recovery failed (R317). -/
  fault : Bool := false
  /-- `GLOW`, bits 1, RO. 1: gauge below its threshold (R318). -/
  glow : Bool := false
  /-- `NACK`, bits 6:2, RO. Bit k: device k answered NACK at its last poll. -/
  nack : BitVec 5 := 0
  /-- `RECOV`, bits 15:8, RO. Successful recoveries; stops at 255. -/
  recov : BitVec 8 := 0
deriving DecidableEq, Repr

/-- `AUX_VALk` (spec/14_host_ports.md): AUX_VALk — 0x4002_B010 + 4 × k, k = 0 to 4 — reset 0x0000_0000 -/
structure AuxVal where
  /-- `RAW`, bits 15:0, RO. Last value read from device k. -/
  raw : BitVec 16 := 0
  /-- `VALID`, bits 16, RO. 1: at least one read has succeeded since reset. -/
  valid : Bool := false
  /-- `AGE`, bits 31:24, RO. Polls missed since the last good read; stops at 255. -/
  age : BitVec 8 := 0
deriving DecidableEq, Repr

/-- `FAB_CFG` (spec/15_fabric_arbiter_and_dma.md): FAB_CFG — 0x4002_6000 — reset 0x0000_0810 -/
structure FabCfg where
  /-- `BLIM`, bits 6:0, RWL. Burst limit, beats, 1 to 64; 0 is treated as 1, above 64 as 64 (R319). -/
  blim : BitVec 7 := 16
  /-- `NRES`, bits 12:8, RWL. N of R323, 2 to 16; values outside are treated as the nearer limit. -/
  nres : BitVec 5 := 8
  /-- `CFG_LK`, bits 31, RW1S. 1: locks FAB_CFG. -/
  cfgLk : Bool := false
deriving DecidableEq, Repr

/-- `FAB_STAT` (spec/15_fabric_arbiter_and_dma.md): FAB_STAT — 0x4002_6004 — reset 0x0000_0000 -/
structure FabStat where
  /-- `OWNER`, bits 2:0, RO. Requester holding the grant at the read. -/
  owner : BitVec 3 := 0
  /-- `OWNED`, bits 3, RO. 1: a grant was held at the read. -/
  owned : Bool := false
  /-- `RESV`, bits 4, RO. 1: that grant is reserved. -/
  resv : Bool := false
  /-- `OWED`, bits 5, RO. 1: a reserved grant is owed (R325). -/
  owed : Bool := false
deriving DecidableEq, Repr

/-- `FAB_MAPCTL` (spec/15_fabric_arbiter_and_dma.md): FAB_MAPCTL — 0x4002_6008 — reset 0x0000_0000 -/
structure FabMapctl where
  /-- `DIRTY`, bits 1, RO. 1: a window register has been written since the last apply. -/
  dirty : Bool := false
  /-- `SEQ`, bits 31:16, RO. Applies since reset; wraps silently. -/
  seq : BitVec 16 := 0
deriving DecidableEq, Repr

/-- `FAB_PROT` (spec/15_fabric_arbiter_and_dma.md): FAB_PROT — 0x4002_600C — reset 0x0000_0000 -/
structure FabProt where
  /-- `START`, bits 7:0, RWL. First protected tile of system SRAM, 0 to 255 (R331). -/
  start : BitVec 8 := 0
  /-- `NTILE`, bits 16:8, RWL. Protected tiles, 0 to 256; the run ends at the top of SRAM. -/
  ntile : BitVec 9 := 0
  /-- `LK`, bits 31, RW1S. 1: locks FAB_PROT. -/
  lk : Bool := false
deriving DecidableEq, Repr

/-- `FAB_FLT1` (spec/15_fabric_arbiter_and_dma.md): FAB_FLT1 — 0x4002_6014 — reset 0x0000_0000 -/
structure FabFlt1 where
  /-- `REQ`, bits 2:0, RO. Requester of the last fault. -/
  req : BitVec 3 := 0
  /-- `CAUSE`, bits 4:3, RO. 1 map refusal, 2 SRAM uncorrectable, 3 NAND uncorrectable. -/
  cause : BitVec 2 := 0
  /-- `WRITE`, bits 5, RO. 1: the beat was a write. -/
  write : Bool := false
  /-- `COUNT`, bits 15:8, RO. Non-DMA faults since reset; stops at 255. -/
  count : BitVec 8 := 0
deriving DecidableEq, Repr

/-- `FAB_ECC` (spec/15_fabric_arbiter_and_dma.md): FAB_ECC — 0x4002_6018 — reset 0x0000_0000 -/
structure FabEcc where
  /-- `CORR`, bits 15:0, RO. Corrected words (R334); stops at 65,535. -/
  corr : BitVec 16 := 0
  /-- `UNCORR`, bits 23:16, RO. Uncorrectable reads; stops at 255. -/
  uncorr : BitVec 8 := 0
deriving DecidableEq, Repr

/-- `FAB_CNT` (spec/15_fabric_arbiter_and_dma.md): FAB_CNT — 0x4002_601C — reset 0x0000_0000 -/
structure FabCnt where
  /-- `PREEMPT`, bits 15:0, RO. Preemptions (R324); stops at 65,535. -/
  preempt : BitVec 16 := 0
  /-- `RESV`, bits 31:16, RO. Reserved grants made; wraps silently. -/
  resv : BitVec 16 := 0
deriving DecidableEq, Repr

/-- `DMA_STAT` (spec/15_fabric_arbiter_and_dma.md): DMA_STAT — 0x4002_7000 — reset 0x0000_0000 -/
structure DmaStat where
  /-- `RUN`, bits 15:0, RO. Bit c: channel c running. -/
  run : BitVec 16 := 0
  /-- `FLT`, bits 31:16, RO. Bit 16 + c: channel c stopped by a fault. -/
  flt : BitVec 16 := 0
deriving DecidableEq, Repr

/-- `DMA_CHc_CTL` (spec/15_fabric_arbiter_and_dma.md): DMA_CHc_CTL — 0x4002_7100 + 32 × c, c = 0 to 15 — reset 0x0000_1000 -/
structure DmaChCtl where
  /-- `ARM`, bits 0, RW. Writing 1 arms the channel and records OWNER (R335); writing 0 disarms an idle channel. -/
  arm : Bool := false
  /-- `OWNER`, bits 6:4, RO. Window set of the arming requester. -/
  owner : BitVec 3 := 0
  /-- `BURST`, bits 14:8, RW. Beats per DMA burst, 1 to 64; 0 is treated as 1, above 64 as 64. -/
  burst : BitVec 7 := 16
  /-- `RING`, bits 16, RW. 1: class 2 while the event ring is above 75 % (R340). -/
  ring : Bool := false
deriving DecidableEq, Repr

/-- `DMA_CHc_STAT` (spec/15_fabric_arbiter_and_dma.md): DMA_CHc_STAT — +0x10 — reset 0x0000_0000 -/
structure DmaChStat where
  /-- `STATE`, bits 2:0, RO. 0 idle, 1 armed, 2 running, 3 done, 4 aborted, 5 faulted. -/
  state : BitVec 3 := 0
  /-- `ABORT_LATE`, bits 3, RO. 1: an abort came at or after the commit of the last burst; cleared at the next start. -/
  abortLate : Bool := false
  /-- `CAUSE`, bits 6:4, RO. 1 map refusal, 2 SRAM uncorrectable, 3 NAND uncorrectable, 4 invalid descriptor. -/
  cause : BitVec 3 := 0
  /-- `MISS`, bits 7, RW1C. 1: a start arrived while running. -/
  miss : Bool := false
  /-- `WRITE`, bits 8, RO. 1: the fault was on a write beat. -/
  write : Bool := false
deriving DecidableEq, Repr

/-- `EVR_STAT` (spec/16_event_recorder_and_counters.md): EVR_STAT — 0x4002_8000 — reset 0x0000_0000 -/
structure EvrStat where
  /-- `UNDRAINED`, bits 11:0, RO. Hardware records not yet in the NAND log, 0 to 2,048 (R345). -/
  undrained : BitVec 12 := 0
  /-- `F75`, bits 12, RO. 1: above 75 % (R345). -/
  f75 : Bool := false
  /-- `FLUSHRDY`, bits 13, RO. 1: an erased flush page exists (R348). -/
  flushrdy : Bool := false
  /-- `LOST`, bits 31:16, RO. Records lost (R345, R346); stops at 65,535. -/
  lost : BitVec 16 := 0
deriving DecidableEq, Repr

/-- `EVR_SRC` (spec/16_event_recorder_and_counters.md): EVR_SRC — 0x4002_8004 — reset 0x0000_0000, banked -/
structure EvrSrc where
  /-- `SRC`, bits 1:0, RW. 0 hardware ring, 1 firmware ring, 2 NAND log; 3 is treated as 0. -/
  src : BitVec 2 := 0
  /-- `AUTO`, bits 8, RW. 1: auto-advance on delivery of EVR_WIN3 (R351). -/
  auto : Bool := false
deriving DecidableEq, Repr

/-- `EVR_RSTAT` (spec/16_event_recorder_and_counters.md): EVR_RSTAT — 0x4002_800C — reset 0x0000_0000, banked -/
structure EvrRstat where
  /-- `READY`, bits 0, RO. 1: the window shows the record at the cursor. -/
  ready : Bool := false
  /-- `STALE`, bits 1, RO. 1: the cursor precedes EVR_OLDEST. -/
  stale : Bool := false
  /-- `EMPTY`, bits 2, RO. 1: the cursor is at or after EVR_NEXT. -/
  empty : Bool := false
deriving DecidableEq, Repr

/-- `EVR_OPMIN` (spec/16_event_recorder_and_counters.md): EVR_OPMIN — 0x4002_8030 — reset 0x0000_0000 -/
structure EvrOpmin where
  /-- `MIN`, bits 23:0, RO. Operating minutes (R356). -/
  minF : BitVec 24 := 0
  /-- `SAT`, bits 31, RO. 1: saturated; cleared only by reset. -/
  sat : Bool := false
deriving DecidableEq, Repr

/-- `EVR_PCC` (spec/16_event_recorder_and_counters.md): EVR_PCC — 0x4002_8034 — reset 0x0000_0000 -/
structure EvrPcc where
  /-- `PCC`, bits 15:0, RO. Power-cycle count. -/
  pcc : BitVec 16 := 0
  /-- `SAT`, bits 31, RO. 1: saturated; cleared only by reset. -/
  sat : Bool := false
deriving DecidableEq, Repr

/-- `EVA_FIRST` (spec/16_event_recorder_and_counters.md): EVA_FIRST — 0x4002_D040 — reset 0x0000_01FF, banked -/
structure EvaFirst where
  /-- `SRC`, bits 8:0, RO. Lowest source pending and enabled; 0x1FF when none. -/
  src : BitVec 9 := 511
deriving DecidableEq, Repr

/-- `OTP_STAT` (spec/17_fuses_and_lifecycle.md): OTP_STAT — 0x4002_9000 — reset 0x0000_0000 -/
structure OtpStat where
  /-- `SENSED`, bits 0, RO. 1: sensing after reset is complete. -/
  sensed : Bool := false
  /-- `MARG`, bits 1, RO. 1: at least one word or spare codeword is marginal. -/
  marg : Bool := false
  /-- `UNC`, bits 2, RO. 1: at least one word is faulted. -/
  unc : Bool := false
  /-- `BUL`, bits 3, RO. 1: at least one word is blank under lock. -/
  bul : Bool := false
  /-- `OVR`, bits 4, RO. 1: at least one override is in force. -/
  ovr : Bool := false
  /-- `SPARES`, bits 11:8, RO. Bit k: spare row k is applied. -/
  spares : BitVec 4 := 0
  /-- `NMARG`, bits 23:16, RO. Marginal words at sensing. -/
  nmarg : BitVec 8 := 0
deriving DecidableEq, Repr

/-- `OTP_LOCK` (spec/17_fuses_and_lifecycle.md): OTP_LOCK — 0x4002_9004 — reset 0x0000_0000 -/
structure OtpLock where
  /-- `VLK`, bits 0, RO. 1: VLOCK written or faulted. -/
  vlk : Bool := false
  /-- `OLK`, bits 1, RO. 1: OLOCK written or faulted. -/
  olk : Bool := false
  /-- `CLK`, bits 5:2, RO. Bit b: CLOCKb written or faulted. -/
  clk : BitVec 4 := 0
  /-- `S_V`, bits 8, RW1S. Sticky lock, vendor group (R366). -/
  sV : Bool := false
  /-- `S_O`, bits 9, RW1S. Sticky lock, owner group. -/
  sO : Bool := false
  /-- `S_C`, bits 13:10, RW1S. Bit b: sticky lock, customer block b. -/
  sC : BitVec 4 := 0
  /-- `S_LC`, bits 14, RW1S. Sticky lock, LC1 to LC4. -/
  sLc : Bool := false
deriving DecidableEq, Repr

/-- `OTP_BURN` (spec/17_fuses_and_lifecycle.md): OTP_BURN — 0x4002_9008 — reset 0x0000_0000 -/
structure OtpBurn where
  /-- `WORD`, bits 6:0, RW. Word to burn, or the target of a spare. -/
  word : BitVec 7 := 0
  /-- `SPARE`, bits 7, RW. 1: burn a spare row for WORD (R371). -/
  spare : Bool := false
  /-- `SRC`, bits 8, RW. 0: data from OTP_BDATA; 1: the word's override. -/
  src : Bool := false
deriving DecidableEq, Repr

/-- `OTP_BSTAT` (spec/17_fuses_and_lifecycle.md): OTP_BSTAT — 0x4002_9010 — reset 0x0000_0000 -/
structure OtpBstat where
  /-- `STATE`, bits 2:0, RO. 0 idle, 1 burning, 2 done, 3 refused, 4 verify failed, 5 interrupted, 6 aborted. -/
  state : BitVec 3 := 0
  /-- `ABORT_LATE`, bits 3, RO. 1: abort after the commit point; cleared at the next GO. -/
  abortLate : Bool := false
  /-- `CAUSE`, bits 7:4, RO. Refusal cause (Table 17.3). -/
  cause : BitVec 4 := 0
  /-- `WORD`, bits 14:8, RO. Word of the last burn. -/
  word : BitVec 7 := 0
  /-- `ROW`, bits 17:16, RO. Spare row programmed by the last spare burn. -/
  row : BitVec 2 := 0
deriving DecidableEq, Repr

/-- `OTP_SPAREk` (spec/17_fuses_and_lifecycle.md): OTP_SPAREk — 0x4002_9080 + 4 × k, k = 0 to 3 — reset 0x0000_0000 -/
structure OtpSpare where
  /-- `WORD`, bits 6:0, RO. Target word of the tag. -/
  word : BitVec 7 := 0
  /-- `VALID`, bits 8, RO. 1: spare valid (R371). -/
  valid : Bool := false
  /-- `APPLIED`, bits 9, RO. 1: spare applied to its word. -/
  applied : Bool := false
  /-- `MARG`, bits 10, RO. 1: a codeword of the row is marginal. -/
  marg : Bool := false
  /-- `UNC`, bits 11, RO. 1: a codeword of the row is uncorrectable. -/
  unc : Bool := false
deriving DecidableEq, Repr

/-- `LCU_LCSTAT` (spec/17_fuses_and_lifecycle.md): LCU_LCSTAT — 0x4002_A040 — reset 0x007F_0000, loaded at sensing -/
structure LcuLcstat where
  /-- `STATE`, bits 2:0, RO. Lifecycle code (R373). -/
  state : BitVec 3 := 0
  /-- `NEXT_OK`, bits 3, RO. 1: the next advance meets R375. -/
  nextOk : Bool := false
  /-- `JTAG`, bits 5:4, RO. 0 off, 1 boundary scan only, 2 full. -/
  jtag : BitVec 2 := 0
  /-- `VDBG`, bits 6, RO. 1: vendor debug allowed. -/
  vdbg : Bool := false
  /-- `OTP_ULK`, bits 7, RO. 1: UPD_LOCK of OWNER in force (R378). -/
  otpUlk : Bool := false
  /-- `EVAL`, bits 8, RO. 1: evaluation key accepted for configuration images. -/
  eval : Bool := false
  /-- `BLOCKW`, bits 22:16, RO. First word blocking the next advance; 0x7F when none. -/
  blockw : BitVec 7 := 127
deriving DecidableEq, Repr

/-- `NVC_STAT` (spec/18_configuration_image.md): NVC_STAT — 0x4002_C000 — reset 0x0000_0000 -/
structure NvcStat where
  /-- `READY`, bits 0, RO. 1: flash identified and partition table read. -/
  ready : Bool := false
  /-- `SIZE`, bits 2:1, RO. 0 none, 1 1 GiB, 2 2 GiB, 3 4 GiB. -/
  size : BitVec 2 := 0
  /-- `PT_COPY`, bits 3, RO. 1: the partition table copy in block 1 is in use (R382). -/
  ptCopy : Bool := false
  /-- `BUSY`, bits 4, RO. 1: a program or erase is in progress. -/
  busy : Bool := false
  /-- `RSV_PCT`, bits 15:8, RO. Free reserve blocks as a percentage of those at format. -/
  rsvPct : BitVec 8 := 0
deriving DecidableEq, Repr

/-- `NVC_ERR` (spec/18_configuration_image.md): NVC_ERR — 0x4002_C004 — reset 0x0000_0000 -/
structure NvcErr where
  /-- `CORR`, bits 15:0, RO. Sectors corrected with 5 to 8 bits (R380); stops at 65,535. -/
  corr : BitVec 16 := 0
  /-- `UNC`, bits 23:16, RO. Uncorrectable sectors; stops at 255. -/
  unc : BitVec 8 := 0
  /-- `BADNEW`, bits 31:24, RO. Blocks retired since reset (R382); stops at 255. -/
  badnew : BitVec 8 := 0
deriving DecidableEq, Repr

/-- `NVC_WEAR` (spec/18_configuration_image.md): NVC_WEAR — 0x4002_C008 — reset 0x0000_0000 -/
structure NvcWear where
  /-- `MAXW`, bits 23:0, RO. Highest block write count. -/
  maxw : BitVec 24 := 0
deriving DecidableEq, Repr

/-- `NVC_CFGSTAT` (spec/18_configuration_image.md): NVC_CFGSTAT — 0x4002_C018 — reset 0x0000_0000 -/
structure NvcCfgstat where
  /-- `APPLIED`, bits 7:0, RO. Records applied; stops at 255. -/
  applied : BitVec 8 := 0
  /-- `REJ`, bits 15:8, RO. Records rejected (R390); stops at 255. -/
  rej : BitVec 8 := 0
  /-- `SKIP`, bits 23:16, RO. Records of unknown tag skipped (R388); stops at 255. -/
  skip : BitVec 8 := 0
  /-- `FIRST`, bits 26:24, RO. Cause of the first rejection (Table 18.4); 0 when none. -/
  first : BitVec 3 := 0
  /-- `TRUNC`, bits 27, RO. 1: the walk stopped on cause 1. -/
  trunc : Bool := false
  /-- `SLOT`, bits 28, RO. Configuration slot read (R389). -/
  slot : Bool := false
deriving DecidableEq, Repr

/-- `NVC_CFGREJ` (spec/18_configuration_image.md): NVC_CFGREJ — 0x4002_C01C — reset 0x0000_0000 -/
structure NvcCfgrej where
  /-- `OFFSET`, bits 15:0, RO. Image offset of the first rejected record's header. -/
  offset : BitVec 16 := 0
  /-- `TAG`, bits 23:16, RO. Its TAG. -/
  tag : BitVec 8 := 0
  /-- `INST`, bits 31:24, RO. Its INST. -/
  inst : BitVec 8 := 0
deriving DecidableEq, Repr

/-- `NVC_CFGDROP` (spec/18_configuration_image.md): NVC_CFGDROP — 0x4002_C020 — reset 0x0000_0000 -/
structure NvcCfgdrop where
  /-- `WIN`, bits 6:0, RO. MORTAR windows dropped (R396). -/
  win : BitVec 7 := 0
deriving DecidableEq, Repr

/-- `NVC_SETSTAT` (spec/18_configuration_image.md): NVC_SETSTAT — 0x4002_C024 — reset 0x0000_0000 -/
structure NvcSetstat where
  /-- `VALID`, bits 0, RO. 1: a settings entry was applied at boot. -/
  valid : Bool := false
  /-- `DISC`, bits 1, RO. 1: the newest entry was discarded at boot (R402). -/
  disc : Bool := false
  /-- `PEND`, bits 2, RO. 1: a change waits to be written (R401). -/
  pend : Bool := false
  /-- `FMT`, bits 15:8, RO. FMT of the newest valid entry found. -/
  fmt : BitVec 8 := 0
deriving DecidableEq, Repr

/-- `NVC_PGSEL` (spec/18_configuration_image.md): NVC_PGSEL — 0x4002_C030 — reset 0x0000_0000, banked for the Policy Core and the Warden Core -/
structure NvcPgsel where
  /-- `PAGE`, bits 19:0, RW. Logical page within the partition (R403). -/
  page : BitVec 20 := 0
  /-- `PART`, bits 27:24, RW. Partition type 0 to 7, as in Table 18.2. -/
  part : BitVec 4 := 0
  /-- `READY`, bits 31, RO. 1: the selected page is in NVC_RDWIN; cleared by a write of this register. -/
  ready : Bool := false
deriving DecidableEq, Repr

/-- `NVC_LOGSTAT` (spec/18_configuration_image.md): NVC_LOGSTAT — 0x4002_C034 — reset 0x0000_0008 -/
structure NvcLogstat where
  /-- `FREE`, bits 3:0, RO. Free sector buffers, 0 to 8 (R404). -/
  free : BitVec 4 := 8
  /-- `STAGED`, bits 6:4, RO. Sectors staged in the page being filled, 0 to 3. -/
  staged : BitVec 3 := 0
  /-- `OVF`, bits 15:8, RO. Window writes refused for lack of a free buffer; stops at 255. -/
  ovf : BitVec 8 := 0
  /-- `INCOMPL`, bits 23:16, RO. Sectors discarded as incomplete; stops at 255. -/
  incompl : BitVec 8 := 0
deriving DecidableEq, Repr

/-- `LCU_UPSTAT` (spec/19_firmware_update.md): LCU_UPSTAT — 0x4002_A000 — reset 0x0000_0000 -/
structure LcuUpstat where
  /-- `STATE`, bits 3:0, RO. 0 idle, 1 preparing (erase or format), 2 receiving, 3 verifying, 4 ready, 5 activating, 6 trial, 7 rolled back. -/
  state : BitVec 4 := 0
  /-- `TARGET`, bits 4, RO. 0 firmware, 1 configuration. -/
  target : Bool := false
  /-- `ABORT_LATE`, bits 5, RO. 1: ABORT after the commit point; cleared at the next BEGIN. -/
  abortLate : Bool := false
  /-- `CAUSE`, bits 12:8, RO. Last cause (Table 19.5); 0 none. -/
  cause : BitVec 5 := 0
deriving DecidableEq, Repr

/-- `LCU_BANK` (spec/19_firmware_update.md): LCU_BANK — 0x4002_A008 — reset 0x0000_0000, loaded from the newest pointer record -/
structure LcuBank where
  /-- `ACTIVE`, bits 0, RO. Active bank. -/
  active : Bool := false
  /-- `TRIAL`, bits 1, RO. 1: activation not yet confirmed. -/
  trial : Bool := false
  /-- `ST0`, bits 3:2, RO. State of bank 0 (R417). -/
  st0 : BitVec 2 := 0
  /-- `ST1`, bits 5:4, RO. State of bank 1. -/
  st1 : BitVec 2 := 0
  /-- `CFG_SLOT`, bits 6, RO. Configuration slot named. -/
  cfgSlot : Bool := false
deriving DecidableEq, Repr

/-- `LCU_SVC` (spec/19_firmware_update.md): LCU_SVC — 0x4002_A014 — reset 0x0000_0000 -/
structure LcuSvc where
  /-- `BAUD`, bits 2:0, RO. Present rate, coded as in R408. -/
  baud : BitVec 3 := 0
  /-- `BADFR`, bits 15:8, RO. Frames discarded (R407); stops at 255. -/
  badfr : BitVec 8 := 0
deriving DecidableEq, Repr

/-- `DID_PART` (spec/20_register_index.md): DID_PART — 0x4002_F000 — reset 0x0000_0000, loaded at OTP sensing -/
structure DidPart where
  /-- `PART_ID`, bits 15:0, RO. Part ID from OTP word 0; 0x2448 on this part, 0 when word 0 is blank or faulted (Table 17.2). -/
  partId : BitVec 16 := 0
  /-- `STEP`, bits 19:16, RO. Stepping from OTP word 0: 0 A, 1 B. -/
  step : BitVec 4 := 0
deriving DecidableEq, Repr

/-- `DID_IFVER` (spec/20_register_index.md): DID_IFVER — 0x4002_F004 — reset 0x0001_0100 -/
structure DidIfver where
  /-- `MINOR`, bits 7:0, RO. Minor version of the host register interface. -/
  minor : BitVec 8 := 0
  /-- `MAJOR`, bits 15:8, RO. Major version of the host register interface. -/
  major : BitVec 8 := 1
  /-- `SBLK`, bits 23:16, RO. Layout of the slice status block: 1 the DXL1208 layout (R431). -/
  sblk : BitVec 8 := 1
deriving DecidableEq, Repr

/-- `DID_FEAT` (spec/20_register_index.md): DID_FEAT — 0x4002_F008 — reset 0x0018_00FF -/
structure DidFeat where
  /-- `OPENMB`, bits 0, RO. 1: open-port mailboxes on ports 0 to 3. -/
  openmb : Bool := true
  /-- `CASC`, bits 1, RO. 1: cascade hardware on ports 0 and 1 (sink path, Fast Role Swap, SLC_SWCFG, SLC_SNKPR, SLC_ENI_LO, SLC_ENI_HI). -/
  casc : Bool := true
  /-- `EPR`, bits 2, RO. 1: EPR offers and EPR mode. -/
  epr : Bool := true
  /-- `THATCH`, bits 3, RO. 1: Thatch link and far-end regulation. -/
  thatch : Bool := true
  /-- `SYNC`, bits 4, RO. 1: SlaseLine engine (SYN block). -/
  sync : Bool := true
  /-- `AUX`, bits 5, RO. 1: auxiliary two-wire controller (AUX block). -/
  aux : Bool := true
  /-- `HSTB`, bits 6, RO. 1: SPI target. -/
  hstb : Bool := true
  /-- `PROF`, bits 7, RO. 1: partner profile table at 0x5000_0000. -/
  prof : Bool := true
  /-- `NPORTS`, bits 20:16, RO. Number of slices. -/
  nports : BitVec 5 := 24
deriving DecidableEq, Repr

/-- `SUP_THR` (spec/03_supplies_and_switchover.md): SUP_THR_MAIN — 0x4002_0010 — reset 0x2447_09A4; SUP_THR_BKUP — 0x4002_0014 — reset 0x2446_9190 -/
structure SupThr where
  /-- `UV`, bits 9:0, RWL. Undervoltage threshold, 100 mV units. -/
  uv : BitVec 10 := 420
  /-- `WARN`, bits 19:10, RWL. Warning threshold, 100 mV units. -/
  warn : BitVec 10 := 450
  /-- `OV`, bits 29:20, RWL. Overvoltage threshold, 100 mV units. -/
  ov : BitVec 10 := 580
deriving DecidableEq, Repr

/-- `SUP_HSW` (spec/03_supplies_and_switchover.md): SUP_HSW_MAIN — 0x4002_0018 — reset 0x6451_4096; SUP_HSW_BKUP — 0x4002_001C — reset 0x6451_4096 -/
structure SupHsw where
  /-- `P_FB`, bits 9:0, RWL. Fold-back power, W. -/
  pFb : BitVec 10 := 150
  /-- `ILIM`, bits 17:10, RWL. I_max in 0.5 A units. -/
  ilim : BitVec 8 := 80
  /-- `T_FLT`, bits 24:18, RWL. Fault timer, ms, 1 to 100. -/
  tFlt : BitVec 7 := 20
  /-- `MODE`, bits 25, RWL. 0 fold-back, 1 pre-charge. -/
  mode : Bool := false
  /-- `SHUNT`, bits 31:26, RWL. Shunt resistance in 10 µΩ units, 1 to 63. -/
  shunt : BitVec 6 := 25
deriving DecidableEq, Repr

/-- `CYC_EPPH` (spec/12_cycle_time_and_sync.md): CYC_CN — 0x4002_3008; CYC_EPPH — 0x4002_300C — reset 0x0000_0000 -/
structure CycEpph where
  /-- `PHASE`, bits 15:0, RO. Phase fraction. -/
  phase : BitVec 16 := 0
  /-- `EPOCH`, bits 31:16, RO. Epoch. -/
  epoch : BitVec 16 := 0
deriving DecidableEq, Repr

/-- `CYC_LD1` (spec/12_cycle_time_and_sync.md): CYC_LD0 — 0x4002_3030; CYC_LD1 — 0x4002_3034; CYC_LD2 — 0x4002_3038; CYC_LD3 — 0x4002_303C — reset 0x0000_0000, banked per requester -/
structure CycLd1 where
  /-- `TPHASE`, bits 15:0, RW. Target phase. -/
  tphase : BitVec 16 := 0
  /-- `OP`, bits 23:16, RW. Operation (Table 12.1). -/
  op : BitVec 8 := 0
deriving DecidableEq, Repr

/-- `SYN_TXSTAT` (spec/12_cycle_time_and_sync.md): SYN_TXCMD — 0x4002_4010; SYN_TXSTAT — 0x4002_4014 — reset 0x0000_0000, banked per requester -/
structure SynTxstat where
  /-- `RESULT`, bits 2:0, RO. 0 none, 1 queued, 2 sent, 3 refused, 4 discarded late. -/
  result : BitVec 3 := 0
  /-- `CAUSE`, bits 6:3, RO. Refusal cause (R279). -/
  cause : BitVec 4 := 0
  /-- `QUEUED`, bits 10:8, RO. Commands waiting, 0 to 4. -/
  queued : BitVec 3 := 0
deriving DecidableEq, Repr

/-- `SYN_TX0` (spec/12_cycle_time_and_sync.md): SYN_TX0 to SYN_TX4 — 0x4002_4018 to 0x4002_4028; SYN_TXCTL — 0x4002_402C — reset 0x0000_0000, banked per requester -/
structure SynTx0 where
  /-- `KIND`, bits 1:0, RW. 1 SCHEDULE, 2 SNAPSHOT, 3 TIME-SET; 0 is refused with cause 4. -/
  kind : BitVec 2 := 0
  /-- `AKIND`, bits 3:2, RW. As AKIND in Table 12.2. -/
  akind : BitVec 2 := 0
  /-- `ASAP`, bits 4, RW. 1: target CN + lead (R279). -/
  asap : Bool := false
  /-- `OP`, bits 15:8, RW. Operation. -/
  op : BitVec 8 := 0
  /-- `ADDR`, bits 29:16, RW. Hub address or group. -/
  addr : BitVec 14 := 0
deriving DecidableEq, Repr

/-- `SYN_TX4` (spec/12_cycle_time_and_sync.md): SYN_TX0 to SYN_TX4 — 0x4002_4018 to 0x4002_4028; SYN_TXCTL — 0x4002_402C — reset 0x0000_0000, banked per requester -/
structure SynTx4 where
  /-- `TPHASE`, bits 15:0, RW. Target phase. -/
  tphase : BitVec 16 := 0
deriving DecidableEq, Repr

/-- `FAB_WB` (spec/15_fabric_arbiter_and_dma.md): FAB_WBs_w — 0x4002_6400 + 256 × s + 8 × w; FAB_WAs_w — 0x4002_6404 + 256 × s + 8 × w; s = 0 to 6, w = 0 to 31 — reset 0x0000_0000 -/
structure FabWb where
  /-- `BASE`, bits 31:12, RW. Window base, bits 31:12 (R329). -/
  base : BitVec 20 := 0
deriving DecidableEq, Repr

/-- `FAB_WA` (spec/15_fabric_arbiter_and_dma.md): FAB_WBs_w — 0x4002_6400 + 256 × s + 8 × w; FAB_WAs_w — 0x4002_6404 + 256 × s + 8 × w; s = 0 to 6, w = 0 to 31 — reset 0x0000_0000 -/
structure FabWa where
  /-- `LOG2SZ`, bits 4:0, RW. Size exponent, 12 to 31. -/
  log2sz : BitVec 5 := 0
  /-- `R`, bits 8, RW. Read right. -/
  r : Bool := false
  /-- `W`, bits 9, RW. Write right. -/
  w : Bool := false
  /-- `X`, bits 10, RW. Execute right. -/
  x : Bool := false
  /-- `EN`, bits 31, RW. 1: window enabled. -/
  en : Bool := false
deriving DecidableEq, Repr

/-- `SLC_SNAP_ST` (spec/12_cycle_time_and_sync.md): SLC_SNAP_ST — 0xC14; SLC_HOLD_ST — 0xC34 — reset 0x0000_0000 -/
structure SlcSnapSt where
  /-- `STATE`, bits 3:0, RO. SLC_ATTSTAT.STATE. -/
  state : BitVec 4 := 0
  /-- `ORIENT`, bits 4, RO. SLC_ATTSTAT.ORIENT. -/
  orient : Bool := false
  /-- `PD_CONN`, bits 5, RO. SLC_PDSTAT.PD_CONN. -/
  pdConn : Bool := false
  /-- `PSTATE`, bits 8:6, RO. SLC_PRSTAT.PSTATE. -/
  pstate : BitVec 3 := 0
  /-- `VOLT`, bits 23:12, RO. SLC_CONTRACT.VOLT. -/
  volt : BitVec 12 := 0
deriving DecidableEq, Repr

end Sys2Proof.Machine
end

