-- ==== Sys2Proof/Machine/RegFields.lean ====
section
/-!
DEFINITION. For each register with named fields, the word a read of it returns, and what a permitted write of a word
does to it by the types of Table 0.3: RW takes the bits, RW1C clears them, RW1S sets them, RWL takes them only while the
lock is 0, RO and WO keep what is there (the effect of writing a WO bit is its own command).
-/

namespace Sys2Proof.Machine

/-- What a read of `DID_STRAP` returns: each field at its bits, reserved bits 0 (R4, R5). -/
def DidStrap.toWord (r : DidStrap) : Word :=
  putField r.addr0Lvl 0 |||
  putField r.addr1Lvl 2 |||
  putField r.addrIdx 4 |||
  putBit r.svcEnLow 8 |||
  putField r.taAddr 16

/-- What a read of `SUP_STAT` returns: each field at its bits, reserved bits 0 (R4, R5). -/
def SupStat.toWord (r : SupStat) : Word :=
  putField r.active 0 |||
  putField r.mainSt 2 |||
  putField r.bkupSt 5 |||
  putBit r.cascQ 8 |||
  putBit r.hold 9 |||
  putBit r.pfw 10 |||
  putBit r.emg 11 |||
  putBit r.etst 12 |||
  putBit r.v48Ok 13 |||
  putBit r.vconnOk 14 |||
  putField r.maxpdo 16

/-- What a read of `SUP_LOCK` returns: each field at its bits, reserved bits 0 (R4, R5). -/
def SupLock.toWord (r : SupLock) : Word :=
  putBit r.cfgLk 0

/-- A permitted write of `w` to `SUP_LOCK`: its writable fields (R5, Table 0.3). -/
def SupLock.put (r : SupLock) (w : Word) : SupLock :=
  ( { r with
    cfgLk := r.cfgLk || getBit w 0 } )

/-- What a read of `SUP_VIN` returns: each field at its bits, reserved bits 0 (R4, R5). -/
def SupVin.toWord (r : SupVin) : Word :=
  putField r.vmain 0 |||
  putField r.vbkup 16

/-- What a read of `SUP_VAUX` returns: each field at its bits, reserved bits 0 (R4, R5). -/
def SupVaux.toWord (r : SupVaux) : Word :=
  putField r.vbulk 0 |||
  putField r.vhk 16

/-- What a read of `SUP_RETRY` returns: each field at its bits, reserved bits 0 (R4, R5). -/
def SupRetry.toWord (r : SupRetry) : Word :=
  putField r.onMs 0 |||
  putField r.offMs 8 |||
  putField r.count 24

/-- A permitted write of `w` to `SUP_RETRY`: its RWL fields only while `lk`, the block’s lock bit, is 0 (R5, Table 0.3). -/
def SupRetry.put (r : SupRetry) (lk : Bool) (w : Word) : SupRetry :=
  ( { r with
    onMs := bif lk then r.onMs else getField w 0 8,
    offMs := bif lk then r.offMs else getField w 8 16,
    count := bif lk then r.count else getField w 24 8 } )

/-- What a read of `SUP_TIME` returns: each field at its bits, reserved bits 0 (R4, R5). -/
def SupTime.toWord (r : SupTime) : Word :=
  putField r.qual 0 |||
  putField r.stagMs 8 |||
  putField r.uvfUs 16 |||
  putField r.emgDb 23

/-- A permitted write of `w` to `SUP_TIME`: its RWL fields only while `lk`, the block’s lock bit, is 0 (R5, Table 0.3). -/
def SupTime.put (r : SupTime) (lk : Bool) (w : Word) : SupTime :=
  ( { r with
    qual := bif lk then r.qual else getField w 0 8,
    stagMs := bif lk then r.stagMs else getField w 8 8,
    uvfUs := bif lk then r.uvfUs else getField w 16 7,
    emgDb := bif lk then r.emgDb else getField w 23 8 } )

/-- What a read of `SUP_RSTAT` returns: each field at its bits, reserved bits 0 (R4, R5). -/
def SupRstat.toWord (r : SupRstat) : Word :=
  putField r.mainTry 0 |||
  putField r.bkupTry 8 |||
  putBit r.mainLatch 16 |||
  putBit r.bkupLatch 17 |||
  putField r.mainCause 18 |||
  putField r.bkupCause 20

/-- A permitted write of `w` to `SUP_RSTAT`: its writable fields (R5, Table 0.3). -/
def SupRstat.put (r : SupRstat) (w : Word) : SupRstat :=
  ( { r with
    mainLatch := r.mainLatch && !(getBit w 16),
    bkupLatch := r.bkupLatch && !(getBit w 17) } )

/-- What a read of `SUP_ETST` returns: each field at its bits, reserved bits 0 (R4, R5). -/
def SupEtst.toWord (r : SupEtst) : Word :=
  putField r.kind 0 |||
  putField r.funcS 8 |||
  putField r.durMin 16

/-- A permitted write of `w` to `SUP_ETST`: its writable fields (R5, Table 0.3). -/
def SupEtst.put (r : SupEtst) (w : Word) : SupEtst :=
  ( { r with
    kind := getField w 0 2,
    funcS := getField w 8 8,
    durMin := getField w 16 16 } )

/-- What a read of `SUP_ETRES` returns: each field at its bits, reserved bits 0 (R4, R5). -/
def SupEtres.toWord (r : SupEtres) : Word :=
  putField r.state 0 |||
  putField r.cause 4 |||
  putField r.elapsed 8 |||
  putField r.vmin 16

/-- What a read of `DID_RSTC` returns: each field at its bits, reserved bits 0 (R4, R5). -/
def DidRstc.toWord (r : DidRstc) : Word :=
  putBit r.por 0 |||
  putBit r.ext 1 |||
  putBit r.warden 2 |||
  putBit r.thermal 3 |||
  putField r.wcause 8

/-- What a read of `DID_BOOT` returns: each field at its bits, reserved bits 0 (R4, R5). -/
def DidBoot.toWord (r : DidBoot) : Word :=
  putField r.stage 0 |||
  putBit r.bank 4 |||
  putBit r.fallback 5 |||
  putField r.recCause 8 |||
  putField r.relMs 16

/-- What a read of `DID_STAT` returns: each field at its bits, reserved bits 0 (R4, R5). -/
def DidStat.toWord (r : DidStat) : Word :=
  putBit r.refLost 0 |||
  putBit r.twarn 1 |||
  putBit r.pcoreHeld 2 |||
  putBit r.wcoreHeld 3 |||
  putField r.pcoreWdc 8 |||
  putField r.wcoreWdc 16

/-- What a read of `DID_TEMP` returns: each field at its bits, reserved bits 0 (R4, R5). -/
def DidTemp.toWord (r : DidTemp) : Word :=
  putField r.tdie 0

/-- What a read of `SLC_ATTCFG` returns: each field at its bits, reserved bits 0 (R4, R5). -/
def SlcAttcfg.toWord (r : SlcAttcfg) : Word :=
  putField r.role 0 |||
  putField r.trySel 2 |||
  putField r.rpLvl 4 |||
  putField r.vcls 6 |||
  putField r.tdrp 8 |||
  putField r.duty 16 |||
  putField r.tccdb 24

/-- A permitted write of `w` to `SLC_ATTCFG`: its RWL fields only while `lk`, the block’s lock bit, is 0 (R5, Table 0.3). -/
def SlcAttcfg.put (r : SlcAttcfg) (lk : Bool) (w : Word) : SlcAttcfg :=
  ( { r with
    role := bif lk then r.role else getField w 0 2,
    trySel := bif lk then r.trySel else getField w 2 2,
    rpLvl := bif lk then r.rpLvl else getField w 4 2,
    vcls := bif lk then r.vcls else getField w 6 2,
    tdrp := bif lk then r.tdrp else getField w 8 7,
    duty := bif lk then r.duty else getField w 16 7,
    tccdb := bif lk then r.tccdb else getField w 24 8 } )

/-- What a read of `SLC_ATTSTAT` returns: each field at its bits, reserved bits 0 (R4, R5). -/
def SlcAttstat.toWord (r : SlcAttstat) : Word :=
  putField r.state 0 |||
  putBit r.orient 4 |||
  putField r.partner 5 |||
  putField r.rpSeen 8 |||
  putField r.rpNow 10 |||
  putBit r.nopwr 12 |||
  putBit r.dbclamp 13 |||
  putBit r.vbusPres 14 |||
  putBit r.vbusSafe0 15 |||
  putBit r.foreign 16 |||
  putBit r.vconnOn 17 |||
  putBit r.vconnFlt 18 |||
  putBit r.dbgLink 19

/-- What a read of `SLC_CCMEAS` returns: each field at its bits, reserved bits 0 (R4, R5). -/
def SlcCcmeas.toWord (r : SlcCcmeas) : Word :=
  putField r.cc1 0 |||
  putField r.cc2 16

/-- What a read of `SLC_VCONN` returns: each field at its bits, reserved bits 0 (R4, R5). -/
def SlcVconn.toWord (r : SlcVconn) : Word :=
  putField r.ivc 0 |||
  putField r.vvcIn 16

/-- What a read of `SLC_ATTCTL` returns: each field at its bits, reserved bits 0 (R4, R5). -/
def SlcAttctl.toWord (r : SlcAttctl) : Word :=
  putBit r.cfgLk 0

/-- A permitted write of `w` to `SLC_ATTCTL`: its writable fields (R5, Table 0.3). -/
def SlcAttctl.put (r : SlcAttctl) (w : Word) : SlcAttctl :=
  ( { r with
    cfgLk := r.cfgLk || getBit w 0 } )

/-- What a read of `SLC_PDCFG` returns: each field at its bits, reserved bits 0 (R4, R5). -/
def SlcPdcfg.toWord (r : SlcPdcfg) : Word :=
  putBit r.openF 0 |||
  putBit r.unchk 1 |||
  putField r.maxrev 2 |||
  putBit r.hostrx 4

/-- A permitted write of `w` to `SLC_PDCFG`: its RWL fields only while `lk`, the block’s lock bit, is 0 (R5, Table 0.3). -/
def SlcPdcfg.put (r : SlcPdcfg) (lk : Bool) (w : Word) : SlcPdcfg :=
  ( { r with
    openF := bif lk then r.openF else getBit w 0,
    unchk := bif lk then r.unchk else getBit w 1,
    maxrev := bif lk then r.maxrev else getField w 2 2,
    hostrx := bif lk then r.hostrx else getBit w 4 } )

/-- What a read of `SLC_PDSTAT` returns: each field at its bits, reserved bits 0 (R4, R5). -/
def SlcPdstat.toWord (r : SlcPdstat) : Word :=
  putField r.revSop 0 |||
  putField r.revSop1 2 |||
  putField r.revSop2 4 |||
  putBit r.pdConn 6 |||
  putBit r.pdSilent 7 |||
  putBit r.vcsrc 8 |||
  putBit r.unchkOn 9 |||
  putField r.rpCa 10 |||
  putBit r.hrPend 12 |||
  putBit r.ams 13

/-- What a read of `SLC_PDCNT` returns: each field at its bits, reserved bits 0 (R4, R5). -/
def SlcPdcnt.toWord (r : SlcPdcnt) : Word :=
  putField r.hrTx 0 |||
  putField r.hrRx 8 |||
  putField r.txfail 16 |||
  putField r.crcerr 24

/-- What a read of `SLC_PDCTL` returns: each field at its bits, reserved bits 0 (R4, R5). -/
def SlcPdctl.toWord (r : SlcPdctl) : Word :=
  putBit r.cfgLk 0

/-- A permitted write of `w` to `SLC_PDCTL`: its writable fields (R5, Table 0.3). -/
def SlcPdctl.put (r : SlcPdctl) (w : Word) : SlcPdctl :=
  ( { r with
    cfgLk := r.cfgLk || getBit w 0 } )

/-- What a read of `SLC_CBL_ID` returns: each field at its bits, reserved bits 0 (R4, R5). -/
def SlcCblId.toWord (r : SlcCblId) : Word :=
  putField r.vid 0 |||
  putField r.pid 16

/-- What a read of `SLC_CBL_STAT` returns: each field at its bits, reserved bits 0 (R4, R5). -/
def SlcCblStat.toWord (r : SlcCblStat) : Word :=
  putField r.kind 0 |||
  putField r.ilim 2 |||
  putField r.vmax 4 |||
  putBit r.epr 7 |||
  putBit r.sop2 8 |||
  putField r.tries 9

/-- What a read of `SLC_MBTX_CTL` returns: each field at its bits, reserved bits 0 (R4, R5). -/
def SlcMbtxCtl.toWord (r : SlcMbtxCtl) : Word :=
  putField r.ctx 0 |||
  putField r.len 16

/-- A permitted write of `w` to `SLC_MBTX_CTL`: its writable fields (R5, Table 0.3). -/
def SlcMbtxCtl.put (r : SlcMbtxCtl) (w : Word) : SlcMbtxCtl :=
  ( { r with
    ctx := getField w 0 2,
    len := getField w 16 9 } )

/-- What a read of `SLC_MBTX_STAT` returns: each field at its bits, reserved bits 0 (R4, R5). -/
def SlcMbtxStat.toWord (r : SlcMbtxStat) : Word :=
  putField r.state 0 |||
  putBit r.abortLate 3 |||
  putField r.cause 4 |||
  putField r.msgid 8

/-- What a read of `SLC_MBRX_STAT` returns: each field at its bits, reserved bits 0 (R4, R5). -/
def SlcMbrxStat.toWord (r : SlcMbrxStat) : Word :=
  putField r.count 0 |||
  putField r.ctx 4 |||
  putBit r.isCopy 6 |||
  putBit r.ovr 8 |||
  putBit r.hrst 9 |||
  putBit r.late 10 |||
  putField r.len 16

/-- A permitted write of `w` to `SLC_MBRX_STAT`: its writable fields (R5, Table 0.3). -/
def SlcMbrxStat.put (r : SlcMbrxStat) (w : Word) : SlcMbrxStat :=
  ( { r with
    ovr := r.ovr && !(getBit w 8),
    hrst := r.hrst && !(getBit w 9),
    late := r.late && !(getBit w 10) } )

/-- What a read of `SLC_MBRX_CTL` returns: each field at its bits, reserved bits 0 (R4, R5). -/
def SlcMbrxCtl.toWord (r : SlcMbrxCtl) : Word :=
  putBit r.copy 1

/-- A permitted write of `w` to `SLC_MBRX_CTL`: its writable fields (R5, Table 0.3). -/
def SlcMbrxCtl.put (r : SlcMbrxCtl) (w : Word) : SlcMbrxCtl :=
  ( { r with
    copy := getBit w 1 } )

/-- What a read of `SLC_MBRX_TIME` returns: each field at its bits, reserved bits 0 (R4, R5). -/
def SlcMbrxTime.toWord (r : SlcMbrxTime) : Word :=
  putField r.phase 0 |||
  putField r.cnLo 16

/-- What a read of `SLC_XCFG` returns: each field at its bits, reserved bits 0 (R4, R5). -/
def SlcXcfg.toWord (r : SlcXcfg) : Word :=
  putField r.slew 0 |||
  putField r.xtLim 8 |||
  putField r.settle 16

/-- A permitted write of `w` to `SLC_XCFG`: its RWL fields only while `lk`, the block’s lock bit, is 0 (R5, Table 0.3). -/
def SlcXcfg.put (r : SlcXcfg) (lk : Bool) (w : Word) : SlcXcfg :=
  ( { r with
    slew := bif lk then r.slew else getField w 0 6,
    xtLim := bif lk then r.xtLim else getField w 8 8,
    settle := bif lk then r.settle else getField w 16 4 } )

/-- What a read of `SLC_XSTAT` returns: each field at its bits, reserved bits 0 (R4, R5). -/
def SlcXstat.toWord (r : SlcXstat) : Word :=
  putField r.state 0 |||
  putField r.result 3 |||
  putBit r.abortLate 6 |||
  putField r.cause 8 |||
  putField r.target 16

/-- What a read of `SLC_OFFCFG` returns: each field at its bits, reserved bits 0 (R4, R5). -/
def SlcOffcfg.toWord (r : SlcOffcfg) : Word :=
  putBit r.fix5 0 |||
  putBit r.fix9 1 |||
  putBit r.fix15 2 |||
  putBit r.fix20 3 |||
  putBit r.fix28 4 |||
  putBit r.fix36 5 |||
  putBit r.fix48 6 |||
  putBit r.pps 7 |||
  putBit r.savs 8 |||
  putBit r.eavs 9 |||
  putBit r.epr 10 |||
  putField r.imax 16

/-- A permitted write of `w` to `SLC_OFFCFG`: its RWL fields only while `lk`, the block’s lock bit, is 0 (R5, Table 0.3). -/
def SlcOffcfg.put (r : SlcOffcfg) (lk : Bool) (w : Word) : SlcOffcfg :=
  ( { r with
    fix9 := bif lk then r.fix9 else getBit w 1,
    fix15 := bif lk then r.fix15 else getBit w 2,
    fix20 := bif lk then r.fix20 else getBit w 3,
    fix28 := bif lk then r.fix28 else getBit w 4,
    fix36 := bif lk then r.fix36 else getBit w 5,
    fix48 := bif lk then r.fix48 else getBit w 6,
    pps := bif lk then r.pps else getBit w 7,
    savs := bif lk then r.savs else getBit w 8,
    eavs := bif lk then r.eavs else getBit w 9,
    epr := bif lk then r.epr else getBit w 10,
    imax := bif lk then r.imax else getField w 16 7 } )

/-- What a read of `SLC_PROFLIM` returns: each field at its bits, reserved bits 0 (R4, R5). -/
def SlcProflim.toWord (r : SlcProflim) : Word :=
  putField r.mask 0 |||
  putField r.vceil 12 |||
  putField r.iceil 22

/-- A permitted write of `w` to `SLC_PROFLIM`: its writable fields (R5, Table 0.3). -/
def SlcProflim.put (r : SlcProflim) (w : Word) : SlcProflim :=
  ( { r with
    mask := getField w 0 11,
    vceil := getField w 12 9,
    iceil := getField w 22 6 } )

/-- What a read of `SLC_CONTRACT` returns: each field at its bits, reserved bits 0 (R4, R5). -/
def SlcContract.toWord (r : SlcContract) : Word :=
  putField r.volt 0 |||
  putField r.curr 12 |||
  putField r.pos 19 |||
  putField r.kind 23 |||
  putBit r.epr 26 |||
  putBit r.mismatch 27

/-- What a read of `SLC_OFFCTL` returns: each field at its bits, reserved bits 0 (R4, R5). -/
def SlcOffctl.toWord (r : SlcOffctl) : Word :=
  putBit r.cfgLk 0

/-- A permitted write of `w` to `SLC_OFFCTL`: its writable fields (R5, Table 0.3). -/
def SlcOffctl.put (r : SlcOffctl) (w : Word) : SlcOffctl :=
  ( { r with
    cfgLk := r.cfgLk || getBit w 0 } )

/-- What a read of `SLC_PWMCFG` returns: each field at its bits, reserved bits 0 (R4, R5). -/
def SlcPwmcfg.toWord (r : SlcPwmcfg) : Word :=
  putField r.period 0 |||
  putField r.group 16 |||
  putField r.samp 24

/-- A permitted write of `w` to `SLC_PWMCFG`: its RWL fields only while `lk`, the block’s lock bit, is 0 (R5, Table 0.3). -/
def SlcPwmcfg.put (r : SlcPwmcfg) (lk : Bool) (w : Word) : SlcPwmcfg :=
  ( { r with
    period := bif lk then r.period else getField w 0 15,
    group := bif lk then r.group else getField w 16 4,
    samp := bif lk then r.samp else getField w 24 6 } )

/-- What a read of `SLC_PWMLIM` returns: each field at its bits, reserved bits 0 (R4, R5). -/
def SlcPwmlim.toWord (r : SlcPwmlim) : Word :=
  putField r.minOn 0 |||
  putField r.minOff 8 |||
  putField r.ssRate 16

/-- A permitted write of `w` to `SLC_PWMLIM`: its RWL fields only while `lk`, the block’s lock bit, is 0 (R5, Table 0.3). -/
def SlcPwmlim.put (r : SlcPwmlim) (lk : Bool) (w : Word) : SlcPwmlim :=
  ( { r with
    minOn := bif lk then r.minOn else getField w 0 8,
    minOff := bif lk then r.minOff else getField w 8 8,
    ssRate := bif lk then r.ssRate else getField w 16 8 } )

/-- What a read of `SLC_CMPB0` returns: each field at its bits, reserved bits 0 (R4, R5). -/
def SlcCmpb0.toWord (r : SlcCmpb0) : Word :=
  putField r.b0 0 |||
  putField r.b1 16

/-- A permitted write of `w` to `SLC_CMPB0`: its RWL fields only while `lk`, the block’s lock bit, is 0 (R5, Table 0.3). -/
def SlcCmpb0.put (r : SlcCmpb0) (lk : Bool) (w : Word) : SlcCmpb0 :=
  ( { r with
    b0 := bif lk then r.b0 else getField w 0 16,
    b1 := bif lk then r.b1 else getField w 16 16 } )

/-- What a read of `SLC_CMPB1` returns: each field at its bits, reserved bits 0 (R4, R5). -/
def SlcCmpb1.toWord (r : SlcCmpb1) : Word :=
  putField r.b2 0 |||
  putField r.a1 16

/-- A permitted write of `w` to `SLC_CMPB1`: its RWL fields only while `lk`, the block’s lock bit, is 0 (R5, Table 0.3). -/
def SlcCmpb1.put (r : SlcCmpb1) (lk : Bool) (w : Word) : SlcCmpb1 :=
  ( { r with
    b2 := bif lk then r.b2 else getField w 0 16,
    a1 := bif lk then r.a1 else getField w 16 16 } )

/-- What a read of `SLC_PSCFG` returns: each field at its bits, reserved bits 0 (R4, R5). -/
def SlcPscfg.toWord (r : SlcPscfg) : Word :=
  putField r.rsh 0 |||
  putField r.zslot 8 |||
  putField r.zidx 16 |||
  putBit r.feEn 24

/-- A permitted write of `w` to `SLC_PSCFG`: its RWL fields only while `lk`, the block’s lock bit, is 0 (R5, Table 0.3). -/
def SlcPscfg.put (r : SlcPscfg) (lk : Bool) (w : Word) : SlcPscfg :=
  ( { r with
    rsh := bif lk then r.rsh else getField w 0 7,
    zslot := bif lk then r.zslot else getField w 8 5,
    zidx := bif lk then r.zidx else getField w 16 5,
    feEn := bif lk then r.feEn else getBit w 24 } )

/-- What a read of `SLC_PWMPH` returns: each field at its bits, reserved bits 0 (R4, R5). -/
def SlcPwmph.toWord (r : SlcPwmph) : Word :=
  putField r.next 0 |||
  putField r.loadCn 16 |||
  putBit r.pend 24

/-- A permitted write of `w` to `SLC_PWMPH`: its writable fields (R5, Table 0.3). -/
def SlcPwmph.put (r : SlcPwmph) (w : Word) : SlcPwmph :=
  ( { r with
    next := getField w 0 15,
    loadCn := getField w 16 8 } )

/-- What a read of `SLC_PWMOFS` returns: each field at its bits, reserved bits 0 (R4, R5). -/
def SlcPwmofs.toWord (r : SlcPwmofs) : Word :=
  putField r.offset 0 |||
  putBit r.moving 15

/-- What a read of `SLC_PSSTAT` returns: each field at its bits, reserved bits 0 (R4, R5). -/
def SlcPsstat.toWord (r : SlcPsstat) : Word :=
  putField r.cstate 0 |||
  putBit r.fb 3 |||
  putBit r.clmode 4 |||
  putBit r.dsat 5 |||
  putField r.pbfail 6 |||
  putBit r.limwait 8 |||
  putField r.duty 16

/-- A permitted write of `w` to `SLC_PSSTAT`: its writable fields (R5, Table 0.3). -/
def SlcPsstat.put (r : SlcPsstat) (w : Word) : SlcPsstat :=
  ( { r with
    pbfail := r.pbfail &&& ~~~(getField w 6 2) } )

/-- What a read of `SLC_FESTAT` returns: each field at its bits, reserved bits 0 (R4, R5). -/
def SlcFestat.toWord (r : SlcFestat) : Word :=
  putField r.state 0 |||
  putField r.cap 2 |||
  putField r.nvalid 4 |||
  putField r.comp 16

/-- What a read of `SLC_FERES` returns: each field at its bits, reserved bits 0 (R4, R5). -/
def SlcFeres.toWord (r : SlcFeres) : Word :=
  putField r.rloop 0 |||
  putField r.rej 16

/-- What a read of `SLC_FEVOLT` returns: each field at its bits, reserved bits 0 (R4, R5). -/
def SlcFevolt.toWord (r : SlcFevolt) : Word :=
  putField r.vfar 0 |||
  putField r.vnear 16

/-- What a read of `SLC_TLM_V` returns: each field at its bits, reserved bits 0 (R4, R5). -/
def SlcTlmV.toWord (r : SlcTlmV) : Word :=
  putField r.vbus 0 |||
  putField r.vcnv 16

/-- What a read of `SLC_TLM_I` returns: each field at its bits, reserved bits 0 (R4, R5). -/
def SlcTlmI.toWord (r : SlcTlmI) : Word :=
  putField r.iout 0 |||
  putField r.pout 16

/-- What a read of `SLC_VSET` returns: each field at its bits, reserved bits 0 (R4, R5). -/
def SlcVset.toWord (r : SlcVset) : Word :=
  putField r.vset 0 |||
  putField r.vref 16

/-- What a read of `SLC_PSCTL` returns: each field at its bits, reserved bits 0 (R4, R5). -/
def SlcPsctl.toWord (r : SlcPsctl) : Word :=
  putBit r.cfgLk 0

/-- A permitted write of `w` to `SLC_PSCTL`: its writable fields (R5, Table 0.3). -/
def SlcPsctl.put (r : SlcPsctl) (w : Word) : SlcPsctl :=
  ( { r with
    cfgLk := r.cfgLk || getBit w 0 } )

/-- What a read of `SLC_SWCFG` returns: each field at its bits, reserved bits 0 (R4, R5). -/
def SlcSwcfg.toWord (r : SlcSwcfg) : Word :=
  putBit r.tie 0 |||
  putBit r.prAccSrc 1 |||
  putBit r.prAccSnk 2 |||
  putBit r.drAcc 3 |||
  putBit r.frsEn 4 |||
  putField r.frsReq 6 |||
  putField r.pilot 8 |||
  putField r.pAid 16 |||
  putField r.snkDvdt 24

/-- A permitted write of `w` to `SLC_SWCFG`: its RWL fields only while `lk`, the block’s lock bit, is 0 (R5, Table 0.3). -/
def SlcSwcfg.put (r : SlcSwcfg) (lk : Bool) (w : Word) : SlcSwcfg :=
  ( { r with
    tie := bif lk then r.tie else getBit w 0,
    prAccSrc := bif lk then r.prAccSrc else getBit w 1,
    prAccSnk := bif lk then r.prAccSnk else getBit w 2,
    drAcc := bif lk then r.drAcc else getBit w 3,
    frsEn := bif lk then r.frsEn else getBit w 4,
    frsReq := bif lk then r.frsReq else getField w 6 2,
    pilot := bif lk then r.pilot else getField w 8 6,
    pAid := bif lk then r.pAid else getField w 16 8,
    snkDvdt := bif lk then r.snkDvdt else getField w 24 4 } )

/-- What a read of `SLC_SWSTAT` returns: each field at its bits, reserved bits 0 (R4, R5). -/
def SlcSwstat.toWord (r : SlcSwstat) : Word :=
  putBit r.prole 0 |||
  putBit r.drole 1 |||
  putBit r.attProle 2 |||
  putBit r.attVcsrc 3 |||
  putField r.swap 4 |||
  putField r.last 8 |||
  putField r.lastKind 11 |||
  putBit r.frsArmed 14 |||
  putBit r.frsDet 15 |||
  putBit r.frsOffer 16 |||
  putField r.partFrs 17 |||
  putBit r.aid 19 |||
  putField r.snkp 20

/-- What a read of `SLC_SWCTL` returns: each field at its bits, reserved bits 0 (R4, R5). -/
def SlcSwctl.toWord (r : SlcSwctl) : Word :=
  putBit r.cfgLk 0

/-- A permitted write of `w` to `SLC_SWCTL`: its writable fields (R5, Table 0.3). -/
def SlcSwctl.put (r : SlcSwctl) (w : Word) : SlcSwctl :=
  ( { r with
    cfgLk := r.cfgLk || getBit w 0 } )

/-- What a read of `SLC_PRCFG` returns: each field at its bits, reserved bits 0 (R4, R5). -/
def SlcPrcfg.toWord (r : SlcPrcfg) : Word :=
  putField r.margin 0 |||
  putField r.ripple 8 |||
  putField r.rev 16 |||
  putField r.pkMax 24

/-- A permitted write of `w` to `SLC_PRCFG`: its RWL fields only while `lk`, the block’s lock bit, is 0 (R5, Table 0.3). -/
def SlcPrcfg.put (r : SlcPrcfg) (lk : Bool) (w : Word) : SlcPrcfg :=
  ( { r with
    margin := bif lk then r.margin else getField w 0 8,
    ripple := bif lk then r.ripple else getField w 8 6,
    rev := bif lk then r.rev else getField w 16 6,
    pkMax := bif lk then r.pkMax else getField w 24 8 } )

/-- What a read of `SLC_PRTIME` returns: each field at its bits, reserved bits 0 (R4, R5). -/
def SlcPrtime.toWord (r : SlcPrtime) : Word :=
  putField r.tFuse 0 |||
  putField r.smpTick 16

/-- A permitted write of `w` to `SLC_PRTIME`: its RWL fields only while `lk`, the block’s lock bit, is 0 (R5, Table 0.3). -/
def SlcPrtime.put (r : SlcPrtime) (lk : Bool) (w : Word) : SlcPrtime :=
  ( { r with
    tFuse := bif lk then r.tFuse else getField w 0 10,
    smpTick := bif lk then r.smpTick else getField w 16 10 } )

/-- What a read of `SLC_PRRETRY` returns: each field at its bits, reserved bits 0 (R4, R5). -/
def SlcPrretry.toWord (r : SlcPrretry) : Word :=
  putField r.onMs 0 |||
  putField r.offMs 8 |||
  putField r.count 24

/-- A permitted write of `w` to `SLC_PRRETRY`: its RWL fields only while `lk`, the block’s lock bit, is 0 (R5, Table 0.3). -/
def SlcPrretry.put (r : SlcPrretry) (lk : Bool) (w : Word) : SlcPrretry :=
  ( { r with
    onMs := bif lk then r.onMs else getField w 0 8,
    offMs := bif lk then r.offMs else getField w 8 16,
    count := bif lk then r.count else getField w 24 8 } )

/-- What a read of `SLC_SNKPR` returns: each field at its bits, reserved bits 0 (R4, R5). -/
def SlcSnkpr.toWord (r : SlcSnkpr) : Word :=
  putField r.snkDrop 0 |||
  putField r.snkFilt 16

/-- A permitted write of `w` to `SLC_SNKPR`: its RWL fields only while `lk`, the block’s lock bit, is 0 (R5, Table 0.3). -/
def SlcSnkpr.put (r : SlcSnkpr) (lk : Bool) (w : Word) : SlcSnkpr :=
  ( { r with
    snkDrop := bif lk then r.snkDrop else getField w 0 10,
    snkFilt := bif lk then r.snkFilt else getField w 16 8 } )

/-- What a read of `SLC_CMPTHR0` returns: each field at its bits, reserved bits 0 (R4, R5). -/
def SlcCmpthr0.toWord (r : SlcCmpthr0) : Word :=
  putField r.peak 0 |||
  putField r.short 16

/-- What a read of `SLC_CMPTHR1` returns: each field at its bits, reserved bits 0 (R4, R5). -/
def SlcCmpthr1.toWord (r : SlcCmpthr1) : Word :=
  putField r.ov 0 |||
  putField r.cmp3 16

/-- What a read of `SLC_CMPLVL` returns: each field at its bits, reserved bits 0 (R4, R5). -/
def SlcCmplvl.toWord (r : SlcCmplvl) : Word :=
  putField r.lvl 0 |||
  putField r.mode 8 |||
  putBit r.cmp3Snk 16 |||
  putField r.fuse 24

/-- What a read of `SLC_PRSTAT` returns: each field at its bits, reserved bits 0 (R4, R5). -/
def SlcPrstat.toWord (r : SlcPrstat) : Word :=
  putField r.pstate 0 |||
  putField r.cause 3 |||
  putField r.tries 8 |||
  putField r.scfail 16 |||
  putField r.trips 24

/-- What a read of `SLC_TRIPV` returns: each field at its bits, reserved bits 0 (R4, R5). -/
def SlcTripv.toWord (r : SlcTripv) : Word :=
  putField r.itrip 0 |||
  putField r.vtrip 16

/-- What a read of `SLC_PRCTL` returns: each field at its bits, reserved bits 0 (R4, R5). -/
def SlcPrctl.toWord (r : SlcPrctl) : Word :=
  putBit r.cfgLk 0

/-- A permitted write of `w` to `SLC_PRCTL`: its writable fields (R5, Table 0.3). -/
def SlcPrctl.put (r : SlcPrctl) (w : Word) : SlcPrctl :=
  ( { r with
    cfgLk := r.cfgLk || getBit w 0 } )

/-- What a read of `SUP_FLT` returns: each field at its bits, reserved bits 0 (R4, R5). -/
def SupFlt.toWord (r : SupFlt) : Word :=
  putField r.ports 0 |||
  putBit r.mainLatch 24 |||
  putBit r.bkupLatch 25 |||
  putBit r.mskSup 31

/-- A permitted write of `w` to `SUP_FLT`: its writable fields (R5, Table 0.3). -/
def SupFlt.put (r : SupFlt) (w : Word) : SupFlt :=
  ( { r with
    mskSup := getBit w 31 } )

/-- What a read of `SLC_GRANT` returns: each field at its bits, reserved bits 0 (R4, R5). -/
def SlcGrant.toWord (r : SlcGrant) : Word :=
  putField r.pwr 0 |||
  putBit r.kln 12

/-- A permitted write of `w` to `SLC_GRANT`: its writable fields (R5, Table 0.3). -/
def SlcGrant.put (r : SlcGrant) (w : Word) : SlcGrant :=
  ( { r with
    pwr := getField w 0 12,
    kln := getBit w 12 } )

/-- What a read of `SLC_GNTSTAT` returns: each field at its bits, reserved bits 0 (R4, R5). -/
def SlcGntstat.toWord (r : SlcGntstat) : Word :=
  putField r.eff 0 |||
  putField r.cap 12 |||
  putBit r.nosup 20

/-- What a read of `SLC_PTNID` returns: each field at its bits, reserved bits 0 (R4, R5). -/
def SlcPtnid.toWord (r : SlcPtnid) : Word :=
  putField r.vid 0 |||
  putField r.pid 16

/-- What a read of `BUD_CFG` returns: each field at its bits, reserved bits 0 (R4, R5). -/
def BudCfg.toWord (r : BudCfg) : Word :=
  putField r.round 0 |||
  putField r.eff 8 |||
  putField r.pOvh 16 |||
  putField r.dtw 24 |||
  putBit r.cfgLk 31

/-- A permitted write of `w` to `BUD_CFG`: its RWL fields only while `lk`, the block’s lock bit, is 0 (R5, Table 0.3). -/
def BudCfg.put (r : BudCfg) (lk : Bool) (w : Word) : BudCfg :=
  ( { r with
    round := bif lk then r.round else getField w 0 8,
    eff := bif lk then r.eff else getField w 8 7,
    pOvh := bif lk then r.pOvh else getField w 16 8,
    dtw := bif lk then r.dtw else getField w 24 7,
    cfgLk := r.cfgLk || getBit w 31 } )

/-- What a read of `BUD_IN` returns: each field at its bits, reserved bits 0 (R4, R5). -/
def BudIn.toWord (r : BudIn) : Word :=
  putField r.bMain 0 |||
  putField r.bBkup 16

/-- A permitted write of `w` to `BUD_IN`: its RWL fields only while `lk`, the block’s lock bit, is 0 (R5, Table 0.3). -/
def BudIn.put (r : BudIn) (lk : Bool) (w : Word) : BudIn :=
  ( { r with
    bMain := bif lk then r.bMain else getField w 0 13,
    bBkup := bif lk then r.bBkup else getField w 16 13 } )

/-- What a read of `BUD_STAT` returns: each field at its bits, reserved bits 0 (R4, R5). -/
def BudStat.toWord (r : BudStat) : Word :=
  putField r.avail 0 |||
  putBit r.exh 14 |||
  putBit r.twarnRed 15 |||
  putField r.rnd8 16 |||
  putField r.rsv 19

/-- What a read of `BUD_SUM` returns: each field at its bits, reserved bits 0 (R4, R5). -/
def BudSum.toWord (r : BudSum) : Word :=
  putField r.granted 0 |||
  putField r.deliv 16

/-- What a read of `BUD_PROF` returns: each field at its bits, reserved bits 0 (R4, R5). -/
def BudProf.toWord (r : BudProf) : Word :=
  putField r.count 0 |||
  putField r.dropped 16

/-- What a read of `BUD_PCFGn` returns: each field at its bits, reserved bits 0 (R4, R5). -/
def BudPcfg.toWord (r : BudPcfg) : Word :=
  putField r.pDef 0 |||
  putField r.pPmax 8 |||
  putField r.hlim 16 |||
  putField r.pIdle 25

/-- A permitted write of `w` to `BUD_PCFGn`: its RWL fields only while `lk`, the block’s lock bit, is 0 (R5, Table 0.3). -/
def BudPcfg.put (r : BudPcfg) (lk : Bool) (w : Word) : BudPcfg :=
  ( { r with
    pDef := bif lk then r.pDef else getField w 0 8,
    pPmax := bif lk then r.pPmax else getField w 8 8,
    hlim := getField w 16 9,
    pIdle := bif lk then r.pIdle else getField w 25 7 } )

/-- What a read of `BUD_PSTATn` returns: each field at its bits, reserved bits 0 (R4, R5). -/
def BudPstat.toWord (r : BudPstat) : Word :=
  putField r.etier 0 |||
  putBit r.wait 3 |||
  putField r.waitS 4 |||
  putField r.tgt 12 |||
  putField r.floor 20 |||
  putBit r.prof 28 |||
  putBit r.cprof 29 |||
  putBit r.shedA 30

/-- What a read of `KLN_STAT` returns: each field at its bits, reserved bits 0 (R4, R5). -/
def KlnStat.toWord (r : KlnStat) : Word :=
  putField r.upd 0 |||
  putField r.cnLo 16

/-- What a read of `KLN_CTL` returns: each field at its bits, reserved bits 0 (R4, R5). -/
def KlnCtl.toWord (r : KlnCtl) : Word :=
  putBit r.cfgLk 0

/-- A permitted write of `w` to `KLN_CTL`: its writable fields (R5, Table 0.3). -/
def KlnCtl.put (r : KlnCtl) (w : Word) : KlnCtl :=
  ( { r with
    cfgLk := r.cfgLk || getBit w 0 } )

/-- What a read of `KLN_SHk_A` returns: each field at its bits, reserved bits 0 (R4, R5). -/
def KlnShA.toWord (r : KlnShA) : Word :=
  putField r.ntc 0 |||
  putBit r.en 4 |||
  putField r.tlim 8 |||
  putField r.tfb 20

/-- A permitted write of `w` to `KLN_SHk_A`: its RWL fields only while `lk`, the block’s lock bit, is 0 (R5, Table 0.3). -/
def KlnShA.put (r : KlnShA) (lk : Bool) (w : Word) : KlnShA :=
  ( { r with
    ntc := bif lk then r.ntc else getField w 0 4,
    en := bif lk then r.en else getBit w 4,
    tlim := bif lk then r.tlim else getField w 8 10,
    tfb := bif lk then r.tfb else getField w 20 10 } )

/-- What a read of `KLN_SHk_B` returns: each field at its bits, reserved bits 0 (R4, R5). -/
def KlnShB.toWord (r : KlnShB) : Word :=
  putField r.ths 0 |||
  putField r.thc 16

/-- A permitted write of `w` to `KLN_SHk_B`: its RWL fields only while `lk`, the block’s lock bit, is 0 (R5, Table 0.3). -/
def KlnShB.put (r : KlnShB) (lk : Bool) (w : Word) : KlnShB :=
  ( { r with
    ths := bif lk then r.ths else getField w 0 16,
    thc := bif lk then r.thc else getField w 16 16 } )

/-- What a read of `KLN_SHk_C` returns: each field at its bits, reserved bits 0 (R4, R5). -/
def KlnShC.toWord (r : KlnShC) : Word :=
  putField r.taus 0 |||
  putField r.tauc 16

/-- A permitted write of `w` to `KLN_SHk_C`: its RWL fields only while `lk`, the block’s lock bit, is 0 (R5, Table 0.3). -/
def KlnShC.put (r : KlnShC) (lk : Bool) (w : Word) : KlnShC :=
  ( { r with
    taus := bif lk then r.taus else getField w 0 16,
    tauc := bif lk then r.tauc else getField w 16 16 } )

/-- What a read of `KLN_SHk_D` returns: each field at its bits, reserved bits 0 (R4, R5). -/
def KlnShD.toWord (r : KlnShD) : Word :=
  putField r.beta 0 |||
  putField r.rnom 12 |||
  putField r.rpu 22

/-- A permitted write of `w` to `KLN_SHk_D`: its RWL fields only while `lk`, the block’s lock bit, is 0 (R5, Table 0.3). -/
def KlnShD.put (r : KlnShD) (lk : Bool) (w : Word) : KlnShD :=
  ( { r with
    beta := bif lk then r.beta else getField w 0 12,
    rnom := bif lk then r.rnom else getField w 12 10,
    rpu := bif lk then r.rpu else getField w 22 10 } )

/-- What a read of `KLN_SHk_STAT` returns: each field at its bits, reserved bits 0 (R4, R5). -/
def KlnShStat.toWord (r : KlnShStat) : Word :=
  putField r.tamb 0 |||
  putBit r.nflt 16 |||
  putBit r.alarm 17 |||
  putBit r.fb 18

/-- What a read of `KLN_PCFGn` returns: each field at its bits, reserved bits 0 (R4, R5). -/
def KlnPcfg.toWord (r : KlnPcfg) : Word :=
  putField r.sheaf 0 |||
  putField r.len 4 |||
  putField r.rpm 16

/-- A permitted write of `w` to `KLN_PCFGn`: its RWL fields only while `lk`, the block’s lock bit, is 0 (R5, Table 0.3). -/
def KlnPcfg.put (r : KlnPcfg) (lk : Bool) (w : Word) : KlnPcfg :=
  ( { r with
    sheaf := bif lk then r.sheaf else getField w 0 4,
    len := bif lk then r.len else getField w 4 12,
    rpm := bif lk then r.rpm else getField w 16 16 } )

/-- What a read of `KLN_PSTATn_A` returns: each field at its bits, reserved bits 0 (R4, R5). -/
def KlnPstatA.toWord (r : KlnPstatA) : Word :=
  putField r.tpred 0 |||
  putField r.tmod 16

/-- What a read of `KLN_PSTATn_B` returns: each field at its bits, reserved bits 0 (R4, R5). -/
def KlnPstatB.toWord (r : KlnPstatB) : Word :=
  putField r.ceil 0 |||
  putBit r.der 12 |||
  putField r.rsrc 13 |||
  putBit r.floorHeld 15 |||
  putField r.irms 16

/-- What a read of `CYC_STAT` returns: each field at its bits, reserved bits 0 (R4, R5). -/
def CycStat.toWord (r : CycStat) : Word :=
  putField r.src 0 |||
  putBit r.zcValid 2 |||
  putBit r.aligned 3 |||
  putBit r.slew 4 |||
  putBit r.gwin 5 |||
  putBit r.renum 6 |||
  putField r.qcnt 8

/-- A permitted write of `w` to `CYC_STAT`: its writable fields (R5, Table 0.3). -/
def CycStat.put (r : CycStat) (w : Word) : CycStat :=
  ( { r with
    renum := r.renum && !(getBit w 6) } )

/-- What a read of `CYC_CFG` returns: each field at its bits, reserved bits 0 (R4, R5). -/
def CycCfg.toWord (r : CycCfg) : Word :=
  putBit r.zcEn 0 |||
  putBit r.intHz 1 |||
  putField r.edge 2 |||
  putField r.filt 4 |||
  putField r.psc 12 |||
  putField r.ofs 20

/-- A permitted write of `w` to `CYC_CFG`: its RWL fields only while `lk`, the block’s lock bit, is 0 (R5, Table 0.3). -/
def CycCfg.put (r : CycCfg) (lk : Bool) (w : Word) : CycCfg :=
  ( { r with
    zcEn := bif lk then r.zcEn else getBit w 0,
    intHz := bif lk then r.intHz else getBit w 1,
    edge := bif lk then r.edge else getField w 2 2,
    filt := bif lk then r.filt else getField w 4 8,
    psc := bif lk then r.psc else getField w 12 8,
    ofs := bif lk then r.ofs else getField w 20 10 } )

/-- What a read of `CYC_LDCTL` returns: each field at its bits, reserved bits 0 (R4, R5). -/
def CycLdctl.toWord (r : CycLdctl) : Word :=
  putField r.handle 16

/-- A permitted write of `w` to `CYC_LDCTL`: its writable fields (R5, Table 0.3). -/
def CycLdctl.put (r : CycLdctl) (w : Word) : CycLdctl :=
  ( { r with
    handle := getField w 16 15 } )

/-- What a read of `CYC_LDSTAT` returns: each field at its bits, reserved bits 0 (R4, R5). -/
def CycLdstat.toWord (r : CycLdstat) : Word :=
  putField r.result 0 |||
  putField r.cause 3 |||
  putBit r.late 7 |||
  putField r.handle 16

/-- What a read of `CYC_CTL` returns: each field at its bits, reserved bits 0 (R4, R5). -/
def CycCtl.toWord (r : CycCtl) : Word :=
  putBit r.cfgLk 0

/-- A permitted write of `w` to `CYC_CTL`: its writable fields (R5, Table 0.3). -/
def CycCtl.put (r : CycCtl) (w : Word) : CycCtl :=
  ( { r with
    cfgLk := r.cfgLk || getBit w 0 } )

/-- What a read of `TIMk_CTL` returns: each field at its bits, reserved bits 0 (R4, R5). -/
def TimCtl.toWord (r : TimCtl) : Word :=
  putBit r.en 0 |||
  putBit r.oneshot 1 |||
  putField r.clk 2 |||
  putField r.psc 4 |||
  putBit r.mie 12 |||
  putBit r.oie 13 |||
  putBit r.ldArm 14 |||
  putField r.ldCn 16

/-- A permitted write of `w` to `TIMk_CTL`: its writable fields (R5, Table 0.3). -/
def TimCtl.put (r : TimCtl) (w : Word) : TimCtl :=
  ( { r with
    en := getBit w 0,
    oneshot := getBit w 1,
    clk := getField w 2 2,
    psc := getField w 4 8,
    mie := getBit w 12,
    oie := getBit w 13,
    ldArm := getBit w 14,
    ldCn := getField w 16 8 } )

/-- What a read of `TIMk_STAT` returns: each field at its bits, reserved bits 0 (R4, R5). -/
def TimStat.toWord (r : TimStat) : Word :=
  putBit r.matchF 0 |||
  putBit r.ovf 1

/-- A permitted write of `w` to `TIMk_STAT`: its writable fields (R5, Table 0.3). -/
def TimStat.put (r : TimStat) (w : Word) : TimStat :=
  ( { r with
    matchF := r.matchF && !(getBit w 0),
    ovf := r.ovf && !(getBit w 1) } )

/-- What a read of `CYC_SLOTk` returns: each field at its bits, reserved bits 0 (R4, R5). -/
def CycSlot.toWord (r : CycSlot) : Word :=
  putField r.state 0 |||
  putBit r.late 3 |||
  putBit r.abortLate 4 |||
  putField r.res 5 |||
  putField r.src 8 |||
  putField r.op 16 |||
  putField r.gen 24

/-- What a read of `SYN_STAT` returns: each field at its bits, reserved bits 0 (R4, R5). -/
def SynStat.toWord (r : SynStat) : Word :=
  putField r.state 0 |||
  putBit r.conflict 3 |||
  putField r.miss 4

/-- What a read of `SYN_CFG` returns: each field at its bits, reserved bits 0 (R4, R5). -/
def SynCfg.toWord (r : SynCfg) : Word :=
  putBit r.en 0 |||
  putBit r.master 1 |||
  putField r.addr 2 |||
  putField r.depth 16 |||
  putField r.lead 20

/-- A permitted write of `w` to `SYN_CFG`: its RWL fields only while `lk`, the block’s lock bit, is 0 (R5, Table 0.3). -/
def SynCfg.put (r : SynCfg) (lk : Bool) (w : Word) : SynCfg :=
  ( { r with
    en := bif lk then r.en else getBit w 0,
    master := bif lk then r.master else getBit w 1,
    addr := bif lk then r.addr else getField w 2 14,
    depth := bif lk then r.depth else getField w 16 4,
    lead := bif lk then r.lead else getField w 20 8 } )

/-- What a read of `SYN_CFG2` returns: each field at its bits, reserved bits 0 (R4, R5). -/
def SynCfg2.toWord (r : SynCfg2) : Word :=
  putField r.dom 0 |||
  putField r.dly 16

/-- A permitted write of `w` to `SYN_CFG2`: its RWL fields only while `lk`, the block’s lock bit, is 0 (R5, Table 0.3). -/
def SynCfg2.put (r : SynCfg2) (lk : Bool) (w : Word) : SynCfg2 :=
  ( { r with
    dom := bif lk then r.dom else getField w 0 16,
    dly := bif lk then r.dly else getField w 16 11 } )

/-- What a read of `SYN_CNT` returns: each field at its bits, reserved bits 0 (R4, R5). -/
def SynCnt.toWord (r : SynCnt) : Word :=
  putField r.bad 0 |||
  putField r.foreign 8 |||
  putField r.dup 16 |||
  putField r.drop 24

/-- What a read of `SYN_CTL` returns: each field at its bits, reserved bits 0 (R4, R5). -/
def SynCtl.toWord (r : SynCtl) : Word :=
  putBit r.cfgLk 0

/-- A permitted write of `w` to `SYN_CTL`: its writable fields (R5, Table 0.3). -/
def SynCtl.put (r : SynCtl) (w : Word) : SynCtl :=
  ( { r with
    cfgLk := r.cfgLk || getBit w 0 } )

/-- What a read of `SLC_THCFG` returns: each field at its bits, reserved bits 0 (R4, R5). -/
def SlcThcfg.toWord (r : SlcThcfg) : Word :=
  putBit r.en 0 |||
  putField r.maxver 2 |||
  putField r.caps 8 |||
  putField r.emgscn 16

/-- A permitted write of `w` to `SLC_THCFG`: its RWL fields only while `lk`, the block’s lock bit, is 0 (R5, Table 0.3). -/
def SlcThcfg.put (r : SlcThcfg) (lk : Bool) (w : Word) : SlcThcfg :=
  ( { r with
    en := bif lk then r.en else getBit w 0,
    maxver := bif lk then r.maxver else getField w 2 2,
    caps := bif lk then r.caps else getField w 8 8,
    emgscn := bif lk then r.emgscn else getField w 16 8 } )

/-- What a read of `SLC_THSTAT` returns: each field at its bits, reserved bits 0 (R4, R5). -/
def SlcThstat.toWord (r : SlcThstat) : Word :=
  putField r.state 0 |||
  putField r.ver 4 |||
  putField r.reent 6 |||
  putField r.caps 8 |||
  putBit r.fegnt 16 |||
  putBit r.derate 17 |||
  putBit r.emgscn 18 |||
  putField r.qlen 24

/-- What a read of `SLC_THREP0` returns: each field at its bits, reserved bits 0 (R4, R5). -/
def SlcThrep0.toWord (r : SlcThrep0) : Word :=
  putField r.vin 0 |||
  putField r.iin 16

/-- What a read of `SLC_THREP1` returns: each field at its bits, reserved bits 0 (R4, R5). -/
def SlcThrep1.toWord (r : SlcThrep1) : Word :=
  putField r.tled 0 |||
  putField r.dim 8 |||
  putField r.emg 24

/-- What a read of `SLC_THREP2` returns: each field at its bits, reserved bits 0 (R4, R5). -/
def SlcThrep2.toWord (r : SlcThrep2) : Word :=
  putField r.fault 0 |||
  putField r.flags 8 |||
  putField r.batt 16 |||
  putField r.cnl 24

/-- What a read of `SLC_THCNT` returns: each field at its bits, reserved bits 0 (R4, R5). -/
def SlcThcnt.toWord (r : SlcThcnt) : Word :=
  putField r.badcrc 0 |||
  putField r.noresp 8 |||
  putField r.retx 16 |||
  putField r.drop 24

/-- What a read of `SLC_THDIM` returns: each field at its bits, reserved bits 0 (R4, R5). -/
def SlcThdim.toWord (r : SlcThdim) : Word :=
  putField r.cmd 0 |||
  putBit r.cmdV 14 |||
  putField r.sent 16

/-- What a read of `SLC_THCTL` returns: each field at its bits, reserved bits 0 (R4, R5). -/
def SlcThctl.toWord (r : SlcThctl) : Word :=
  putBit r.cfgLk 0

/-- A permitted write of `w` to `SLC_THCTL`: its writable fields (R5, Table 0.3). -/
def SlcThctl.put (r : SlcThctl) (w : Word) : SlcThctl :=
  ( { r with
    cfgLk := r.cfgLk || getBit w 0 } )

/-- What a read of `HST_CFG` returns: each field at its bits, reserved bits 0 (R4, R5). -/
def HstCfg.toWord (r : HstCfg) : Word :=
  putBit r.aEn 0 |||
  putBit r.bEn 1 |||
  putBit r.pecReq 2 |||
  putField r.gfilt 4 |||
  putField r.base 8 |||
  putField r.rtA 16 |||
  putField r.rtB 20 |||
  putField r.rtS 24

/-- A permitted write of `w` to `HST_CFG`: its RWL fields only while `lk`, the block’s lock bit, is 0 (R5, Table 0.3). -/
def HstCfg.put (r : HstCfg) (lk : Bool) (w : Word) : HstCfg :=
  ( { r with
    aEn := bif lk then r.aEn else getBit w 0,
    bEn := bif lk then r.bEn else getBit w 1,
    pecReq := bif lk then r.pecReq else getBit w 2,
    gfilt := bif lk then r.gfilt else getField w 4 4,
    base := bif lk then r.base else getField w 8 7,
    rtA := bif lk then r.rtA else getField w 16 4,
    rtB := bif lk then r.rtB else getField w 20 4,
    rtS := bif lk then r.rtS else getField w 24 4 } )

/-- What a read of `HST_STAT` returns: each field at its bits, reserved bits 0 (R4, R5). -/
def HstStat.toWord (r : HstStat) : Word :=
  putField r.result 0 |||
  putField r.cause 4 |||
  putBit r.busy 8 |||
  putBit r.mbpend 9

/-- What a read of `HST_CNT` returns: each field at its bits, reserved bits 0 (R4, R5). -/
def HstCnt.toWord (r : HstCnt) : Word :=
  putField r.err 0 |||
  putField r.pecf 8 |||
  putField r.busyn 16

/-- What a read of `HST_CTL` returns: each field at its bits, reserved bits 0 (R4, R5). -/
def HstCtl.toWord (r : HstCtl) : Word :=
  putBit r.cfgLk 0

/-- A permitted write of `w` to `HST_CTL`: its writable fields (R5, Table 0.3). -/
def HstCtl.put (r : HstCtl) (w : Word) : HstCtl :=
  ( { r with
    cfgLk := r.cfgLk || getBit w 0 } )

/-- What a read of `HST_LASTWN` returns: each field at its bits, reserved bits 0 (R4, R5). -/
def HstLastwn.toWord (r : HstLastwn) : Word :=
  putField r.count 0 |||
  putField r.dcrc 8

/-- What a read of `HST_MBCMD` returns: each field at its bits, reserved bits 0 (R4, R5). -/
def HstMbcmd.toWord (r : HstMbcmd) : Word :=
  putField r.cmd 0

/-- A permitted write of `w` to `HST_MBCMD`: its writable fields (R5, Table 0.3). -/
def HstMbcmd.put (r : HstMbcmd) (w : Word) : HstMbcmd :=
  ( { r with
    cmd := getField w 0 8 } )

/-- What a read of `HST_MBSTAT` returns: each field at its bits, reserved bits 0 (R4, R5). -/
def HstMbstat.toWord (r : HstMbstat) : Word :=
  putField r.state 0 |||
  putField r.cause 4

/-- What a read of `AUX_CFG` returns: each field at its bits, reserved bits 0 (R4, R5). -/
def AuxCfg.toWord (r : AuxCfg) : Word :=
  putField r.rate 0 |||
  putField r.stretch 8 |||
  putBit r.cfgLk 31

/-- A permitted write of `w` to `AUX_CFG`: its RWL fields only while `lk`, the block’s lock bit, is 0 (R5, Table 0.3). -/
def AuxCfg.put (r : AuxCfg) (lk : Bool) (w : Word) : AuxCfg :=
  ( { r with
    rate := bif lk then r.rate else getField w 0 2,
    stretch := bif lk then r.stretch else getField w 8 8,
    cfgLk := r.cfgLk || getBit w 31 } )

/-- What a read of `AUX_STAT` returns: each field at its bits, reserved bits 0 (R4, R5). -/
def AuxStat.toWord (r : AuxStat) : Word :=
  putBit r.fault 0 |||
  putBit r.glow 1 |||
  putField r.nack 2 |||
  putField r.recov 8

/-- What a read of `AUX_VALk` returns: each field at its bits, reserved bits 0 (R4, R5). -/
def AuxVal.toWord (r : AuxVal) : Word :=
  putField r.raw 0 |||
  putBit r.valid 16 |||
  putField r.age 24

/-- What a read of `FAB_CFG` returns: each field at its bits, reserved bits 0 (R4, R5). -/
def FabCfg.toWord (r : FabCfg) : Word :=
  putField r.blim 0 |||
  putField r.nres 8 |||
  putBit r.cfgLk 31

/-- A permitted write of `w` to `FAB_CFG`: its RWL fields only while `lk`, the block’s lock bit, is 0 (R5, Table 0.3). -/
def FabCfg.put (r : FabCfg) (lk : Bool) (w : Word) : FabCfg :=
  ( { r with
    blim := bif lk then r.blim else getField w 0 7,
    nres := bif lk then r.nres else getField w 8 5,
    cfgLk := r.cfgLk || getBit w 31 } )

/-- What a read of `FAB_STAT` returns: each field at its bits, reserved bits 0 (R4, R5). -/
def FabStat.toWord (r : FabStat) : Word :=
  putField r.owner 0 |||
  putBit r.owned 3 |||
  putBit r.resv 4 |||
  putBit r.owed 5

/-- What a read of `FAB_MAPCTL` returns: each field at its bits, reserved bits 0 (R4, R5). -/
def FabMapctl.toWord (r : FabMapctl) : Word :=
  putBit r.dirty 1 |||
  putField r.seq 16

/-- What a read of `FAB_PROT` returns: each field at its bits, reserved bits 0 (R4, R5). -/
def FabProt.toWord (r : FabProt) : Word :=
  putField r.start 0 |||
  putField r.ntile 8 |||
  putBit r.lk 31

/-- A permitted write of `w` to `FAB_PROT`: its RWL fields only while `lk`, the block’s lock bit, is 0 (R5, Table 0.3). -/
def FabProt.put (r : FabProt) (lk : Bool) (w : Word) : FabProt :=
  ( { r with
    start := bif lk then r.start else getField w 0 8,
    ntile := bif lk then r.ntile else getField w 8 9,
    lk := r.lk || getBit w 31 } )

/-- What a read of `FAB_FLT1` returns: each field at its bits, reserved bits 0 (R4, R5). -/
def FabFlt1.toWord (r : FabFlt1) : Word :=
  putField r.req 0 |||
  putField r.cause 3 |||
  putBit r.write 5 |||
  putField r.count 8

/-- What a read of `FAB_ECC` returns: each field at its bits, reserved bits 0 (R4, R5). -/
def FabEcc.toWord (r : FabEcc) : Word :=
  putField r.corr 0 |||
  putField r.uncorr 16

/-- What a read of `FAB_CNT` returns: each field at its bits, reserved bits 0 (R4, R5). -/
def FabCnt.toWord (r : FabCnt) : Word :=
  putField r.preempt 0 |||
  putField r.resv 16

/-- What a read of `DMA_STAT` returns: each field at its bits, reserved bits 0 (R4, R5). -/
def DmaStat.toWord (r : DmaStat) : Word :=
  putField r.run 0 |||
  putField r.flt 16

/-- What a read of `DMA_CHc_CTL` returns: each field at its bits, reserved bits 0 (R4, R5). -/
def DmaChCtl.toWord (r : DmaChCtl) : Word :=
  putBit r.arm 0 |||
  putField r.owner 4 |||
  putField r.burst 8 |||
  putBit r.ring 16

/-- A permitted write of `w` to `DMA_CHc_CTL`: its writable fields (R5, Table 0.3). -/
def DmaChCtl.put (r : DmaChCtl) (w : Word) : DmaChCtl :=
  ( { r with
    arm := getBit w 0,
    burst := getField w 8 7,
    ring := getBit w 16 } )

/-- What a read of `DMA_CHc_STAT` returns: each field at its bits, reserved bits 0 (R4, R5). -/
def DmaChStat.toWord (r : DmaChStat) : Word :=
  putField r.state 0 |||
  putBit r.abortLate 3 |||
  putField r.cause 4 |||
  putBit r.miss 7 |||
  putBit r.write 8

/-- A permitted write of `w` to `DMA_CHc_STAT`: its writable fields (R5, Table 0.3). -/
def DmaChStat.put (r : DmaChStat) (w : Word) : DmaChStat :=
  ( { r with
    miss := r.miss && !(getBit w 7) } )

/-- What a read of `EVR_STAT` returns: each field at its bits, reserved bits 0 (R4, R5). -/
def EvrStat.toWord (r : EvrStat) : Word :=
  putField r.undrained 0 |||
  putBit r.f75 12 |||
  putBit r.flushrdy 13 |||
  putField r.lost 16

/-- What a read of `EVR_SRC` returns: each field at its bits, reserved bits 0 (R4, R5). -/
def EvrSrc.toWord (r : EvrSrc) : Word :=
  putField r.src 0 |||
  putBit r.auto 8

/-- A permitted write of `w` to `EVR_SRC`: its writable fields (R5, Table 0.3). -/
def EvrSrc.put (r : EvrSrc) (w : Word) : EvrSrc :=
  ( { r with
    src := getField w 0 2,
    auto := getBit w 8 } )

/-- What a read of `EVR_RSTAT` returns: each field at its bits, reserved bits 0 (R4, R5). -/
def EvrRstat.toWord (r : EvrRstat) : Word :=
  putBit r.ready 0 |||
  putBit r.stale 1 |||
  putBit r.empty 2

/-- What a read of `EVR_OPMIN` returns: each field at its bits, reserved bits 0 (R4, R5). -/
def EvrOpmin.toWord (r : EvrOpmin) : Word :=
  putField r.minF 0 |||
  putBit r.sat 31

/-- What a read of `EVR_PCC` returns: each field at its bits, reserved bits 0 (R4, R5). -/
def EvrPcc.toWord (r : EvrPcc) : Word :=
  putField r.pcc 0 |||
  putBit r.sat 31

/-- What a read of `EVA_FIRST` returns: each field at its bits, reserved bits 0 (R4, R5). -/
def EvaFirst.toWord (r : EvaFirst) : Word :=
  putField r.src 0

/-- What a read of `OTP_STAT` returns: each field at its bits, reserved bits 0 (R4, R5). -/
def OtpStat.toWord (r : OtpStat) : Word :=
  putBit r.sensed 0 |||
  putBit r.marg 1 |||
  putBit r.unc 2 |||
  putBit r.bul 3 |||
  putBit r.ovr 4 |||
  putField r.spares 8 |||
  putField r.nmarg 16

/-- What a read of `OTP_LOCK` returns: each field at its bits, reserved bits 0 (R4, R5). -/
def OtpLock.toWord (r : OtpLock) : Word :=
  putBit r.vlk 0 |||
  putBit r.olk 1 |||
  putField r.clk 2 |||
  putBit r.sV 8 |||
  putBit r.sO 9 |||
  putField r.sC 10 |||
  putBit r.sLc 14

/-- A permitted write of `w` to `OTP_LOCK`: its writable fields (R5, Table 0.3). -/
def OtpLock.put (r : OtpLock) (w : Word) : OtpLock :=
  ( { r with
    sV := r.sV || getBit w 8,
    sO := r.sO || getBit w 9,
    sC := r.sC ||| getField w 10 4,
    sLc := r.sLc || getBit w 14 } )

/-- What a read of `OTP_BURN` returns: each field at its bits, reserved bits 0 (R4, R5). -/
def OtpBurn.toWord (r : OtpBurn) : Word :=
  putField r.word 0 |||
  putBit r.spare 7 |||
  putBit r.src 8

/-- A permitted write of `w` to `OTP_BURN`: its writable fields (R5, Table 0.3). -/
def OtpBurn.put (r : OtpBurn) (w : Word) : OtpBurn :=
  ( { r with
    word := getField w 0 7,
    spare := getBit w 7,
    src := getBit w 8 } )

/-- What a read of `OTP_BSTAT` returns: each field at its bits, reserved bits 0 (R4, R5). -/
def OtpBstat.toWord (r : OtpBstat) : Word :=
  putField r.state 0 |||
  putBit r.abortLate 3 |||
  putField r.cause 4 |||
  putField r.word 8 |||
  putField r.row 16

/-- What a read of `OTP_SPAREk` returns: each field at its bits, reserved bits 0 (R4, R5). -/
def OtpSpare.toWord (r : OtpSpare) : Word :=
  putField r.word 0 |||
  putBit r.valid 8 |||
  putBit r.applied 9 |||
  putBit r.marg 10 |||
  putBit r.unc 11

/-- What a read of `LCU_LCSTAT` returns: each field at its bits, reserved bits 0 (R4, R5). -/
def LcuLcstat.toWord (r : LcuLcstat) : Word :=
  putField r.state 0 |||
  putBit r.nextOk 3 |||
  putField r.jtag 4 |||
  putBit r.vdbg 6 |||
  putBit r.otpUlk 7 |||
  putBit r.eval 8 |||
  putField r.blockw 16

/-- What a read of `NVC_STAT` returns: each field at its bits, reserved bits 0 (R4, R5). -/
def NvcStat.toWord (r : NvcStat) : Word :=
  putBit r.ready 0 |||
  putField r.size 1 |||
  putBit r.ptCopy 3 |||
  putBit r.busy 4 |||
  putField r.rsvPct 8

/-- What a read of `NVC_ERR` returns: each field at its bits, reserved bits 0 (R4, R5). -/
def NvcErr.toWord (r : NvcErr) : Word :=
  putField r.corr 0 |||
  putField r.unc 16 |||
  putField r.badnew 24

/-- What a read of `NVC_WEAR` returns: each field at its bits, reserved bits 0 (R4, R5). -/
def NvcWear.toWord (r : NvcWear) : Word :=
  putField r.maxw 0

/-- What a read of `NVC_CFGSTAT` returns: each field at its bits, reserved bits 0 (R4, R5). -/
def NvcCfgstat.toWord (r : NvcCfgstat) : Word :=
  putField r.applied 0 |||
  putField r.rej 8 |||
  putField r.skip 16 |||
  putField r.first 24 |||
  putBit r.trunc 27 |||
  putBit r.slot 28

/-- What a read of `NVC_CFGREJ` returns: each field at its bits, reserved bits 0 (R4, R5). -/
def NvcCfgrej.toWord (r : NvcCfgrej) : Word :=
  putField r.offset 0 |||
  putField r.tag 16 |||
  putField r.inst 24

/-- What a read of `NVC_CFGDROP` returns: each field at its bits, reserved bits 0 (R4, R5). -/
def NvcCfgdrop.toWord (r : NvcCfgdrop) : Word :=
  putField r.win 0

/-- What a read of `NVC_SETSTAT` returns: each field at its bits, reserved bits 0 (R4, R5). -/
def NvcSetstat.toWord (r : NvcSetstat) : Word :=
  putBit r.valid 0 |||
  putBit r.disc 1 |||
  putBit r.pend 2 |||
  putField r.fmt 8

/-- What a read of `NVC_PGSEL` returns: each field at its bits, reserved bits 0 (R4, R5). -/
def NvcPgsel.toWord (r : NvcPgsel) : Word :=
  putField r.page 0 |||
  putField r.part 24 |||
  putBit r.ready 31

/-- A permitted write of `w` to `NVC_PGSEL`: its writable fields (R5, Table 0.3). -/
def NvcPgsel.put (r : NvcPgsel) (w : Word) : NvcPgsel :=
  ( { r with
    page := getField w 0 20,
    part := getField w 24 4 } )

/-- What a read of `NVC_LOGSTAT` returns: each field at its bits, reserved bits 0 (R4, R5). -/
def NvcLogstat.toWord (r : NvcLogstat) : Word :=
  putField r.free 0 |||
  putField r.staged 4 |||
  putField r.ovf 8 |||
  putField r.incompl 16

/-- What a read of `LCU_UPSTAT` returns: each field at its bits, reserved bits 0 (R4, R5). -/
def LcuUpstat.toWord (r : LcuUpstat) : Word :=
  putField r.state 0 |||
  putBit r.target 4 |||
  putBit r.abortLate 5 |||
  putField r.cause 8

/-- What a read of `LCU_BANK` returns: each field at its bits, reserved bits 0 (R4, R5). -/
def LcuBank.toWord (r : LcuBank) : Word :=
  putBit r.active 0 |||
  putBit r.trial 1 |||
  putField r.st0 2 |||
  putField r.st1 4 |||
  putBit r.cfgSlot 6

/-- What a read of `LCU_SVC` returns: each field at its bits, reserved bits 0 (R4, R5). -/
def LcuSvc.toWord (r : LcuSvc) : Word :=
  putField r.baud 0 |||
  putField r.badfr 8

/-- What a read of `DID_PART` returns: each field at its bits, reserved bits 0 (R4, R5). -/
def DidPart.toWord (r : DidPart) : Word :=
  putField r.partId 0 |||
  putField r.step 16

/-- What a read of `DID_IFVER` returns: each field at its bits, reserved bits 0 (R4, R5). -/
def DidIfver.toWord (r : DidIfver) : Word :=
  putField r.minor 0 |||
  putField r.major 8 |||
  putField r.sblk 16

/-- What a read of `DID_FEAT` returns: each field at its bits, reserved bits 0 (R4, R5). -/
def DidFeat.toWord (r : DidFeat) : Word :=
  putBit r.openmb 0 |||
  putBit r.casc 1 |||
  putBit r.epr 2 |||
  putBit r.thatch 3 |||
  putBit r.sync 4 |||
  putBit r.aux 5 |||
  putBit r.hstb 6 |||
  putBit r.prof 7 |||
  putField r.nports 16

/-- What a read of `SUP_THR` returns: each field at its bits, reserved bits 0 (R4, R5). -/
def SupThr.toWord (r : SupThr) : Word :=
  putField r.uv 0 |||
  putField r.warn 10 |||
  putField r.ov 20

/-- A permitted write of `w` to `SUP_THR`: its RWL fields only while `lk`, the block’s lock bit, is 0 (R5, Table 0.3). -/
def SupThr.put (r : SupThr) (lk : Bool) (w : Word) : SupThr :=
  ( { r with
    uv := bif lk then r.uv else getField w 0 10,
    warn := bif lk then r.warn else getField w 10 10,
    ov := bif lk then r.ov else getField w 20 10 } )

/-- What a read of `SUP_HSW` returns: each field at its bits, reserved bits 0 (R4, R5). -/
def SupHsw.toWord (r : SupHsw) : Word :=
  putField r.pFb 0 |||
  putField r.ilim 10 |||
  putField r.tFlt 18 |||
  putBit r.mode 25 |||
  putField r.shunt 26

/-- A permitted write of `w` to `SUP_HSW`: its RWL fields only while `lk`, the block’s lock bit, is 0 (R5, Table 0.3). -/
def SupHsw.put (r : SupHsw) (lk : Bool) (w : Word) : SupHsw :=
  ( { r with
    pFb := bif lk then r.pFb else getField w 0 10,
    ilim := bif lk then r.ilim else getField w 10 8,
    tFlt := bif lk then r.tFlt else getField w 18 7,
    mode := bif lk then r.mode else getBit w 25,
    shunt := bif lk then r.shunt else getField w 26 6 } )

/-- What a read of `CYC_EPPH` returns: each field at its bits, reserved bits 0 (R4, R5). -/
def CycEpph.toWord (r : CycEpph) : Word :=
  putField r.phase 0 |||
  putField r.epoch 16

/-- What a read of `CYC_LD1` returns: each field at its bits, reserved bits 0 (R4, R5). -/
def CycLd1.toWord (r : CycLd1) : Word :=
  putField r.tphase 0 |||
  putField r.op 16

/-- A permitted write of `w` to `CYC_LD1`: its writable fields (R5, Table 0.3). -/
def CycLd1.put (r : CycLd1) (w : Word) : CycLd1 :=
  ( { r with
    tphase := getField w 0 16,
    op := getField w 16 8 } )

/-- What a read of `SYN_TXSTAT` returns: each field at its bits, reserved bits 0 (R4, R5). -/
def SynTxstat.toWord (r : SynTxstat) : Word :=
  putField r.result 0 |||
  putField r.cause 3 |||
  putField r.queued 8

/-- What a read of `SYN_TX0` returns: each field at its bits, reserved bits 0 (R4, R5). -/
def SynTx0.toWord (r : SynTx0) : Word :=
  putField r.kind 0 |||
  putField r.akind 2 |||
  putBit r.asap 4 |||
  putField r.op 8 |||
  putField r.addr 16

/-- A permitted write of `w` to `SYN_TX0`: its writable fields (R5, Table 0.3). -/
def SynTx0.put (r : SynTx0) (w : Word) : SynTx0 :=
  ( { r with
    kind := getField w 0 2,
    akind := getField w 2 2,
    asap := getBit w 4,
    op := getField w 8 8,
    addr := getField w 16 14 } )

/-- What a read of `SYN_TX4` returns: each field at its bits, reserved bits 0 (R4, R5). -/
def SynTx4.toWord (r : SynTx4) : Word :=
  putField r.tphase 0

/-- A permitted write of `w` to `SYN_TX4`: its writable fields (R5, Table 0.3). -/
def SynTx4.put (r : SynTx4) (w : Word) : SynTx4 :=
  ( { r with
    tphase := getField w 0 16 } )

/-- What a read of `FAB_WB` returns: each field at its bits, reserved bits 0 (R4, R5). -/
def FabWb.toWord (r : FabWb) : Word :=
  putField r.base 12

/-- A permitted write of `w` to `FAB_WB`: its writable fields (R5, Table 0.3). -/
def FabWb.put (r : FabWb) (w : Word) : FabWb :=
  ( { r with
    base := getField w 12 20 } )

/-- What a read of `FAB_WA` returns: each field at its bits, reserved bits 0 (R4, R5). -/
def FabWa.toWord (r : FabWa) : Word :=
  putField r.log2sz 0 |||
  putBit r.r 8 |||
  putBit r.w 9 |||
  putBit r.x 10 |||
  putBit r.en 31

/-- A permitted write of `w` to `FAB_WA`: its writable fields (R5, Table 0.3). -/
def FabWa.put (r : FabWa) (w : Word) : FabWa :=
  ( { r with
    log2sz := getField w 0 5,
    r := getBit w 8,
    w := getBit w 9,
    x := getBit w 10,
    en := getBit w 31 } )

/-- What a read of `SLC_SNAP_ST` returns: each field at its bits, reserved bits 0 (R4, R5). -/
def SlcSnapSt.toWord (r : SlcSnapSt) : Word :=
  putField r.state 0 |||
  putBit r.orient 4 |||
  putBit r.pdConn 5 |||
  putField r.pstate 6 |||
  putField r.volt 12

end Sys2Proof.Machine
end

