-- ==== Sys2Proof/Machine/Shared.lean ====
section
/-!
DEFINITION. The state of the supply block, the device identity block, the event recorder and the event aggregator
(chapters 2, 3, 4 and 16).
-/

namespace Sys2Proof.Machine

/-! ## Supply block -/

/-- One row of the shed table (R69). The tier-0 cap is fixed at 255 and is not stored. -/
structure ShedRow where
  t1 : BitVec 8 := 0xFF
  t2 : BitVec 8 := 0xFF
  t3 : BitVec 8 := 0xFF
  t4 : BitVec 8 := 0xFF
  t5 : BitVec 8 := 0xFF
  t6 : BitVec 8 := 0xFF
  t7 : BitVec 8 := 0xFF
deriving DecidableEq, Repr

/-- The states of a hot-swap path (`SUP_STAT.MAIN_ST` and `BKUP_ST`). -/
inductive PathSt
  | notConfigured | lost | qualifying | staggerOrArmed | connecting | connected | retrying | latched
deriving DecidableEq, Repr

/-- One hot-swap path: its state, whether its input is qualified, its gate pins and its retry bookkeeping. -/
structure Path where
  st : PathSt := .notConfigured
  qual : Bool := false
  /-- MAIN_G or BKUP_G drives the pair; MAIN_PRG or BKUP_PRG drives the pre-charge FET. -/
  gate : Bool := false
  precharge : Bool := false
  /-- The connection under way is a retry attempt (R66). -/
  attempt : Bool := false
  /-- The next attempt also waits for the input to qualify again (R66, overvoltage). -/
  needQual : Bool := false
  /-- The off time before the next attempt has ended. -/
  offDone : Bool := false
  /-- The stagger delay has ended and the return waits for the hold line to fall (R57, R61). -/
  returnDue : Bool := false
  tries : BitVec 8 := 0
  latch : Bool := false
  cause : BitVec 2 := 0
deriving DecidableEq, Repr

/-- The supply block (chapter 3). -/
structure Sup where
  main : Path := {}
  bkup : Path := {}
  active : InputId := .none
  /-- The cascade input is qualified, through this aid port (R51). -/
  cascQ : Bool := false
  cascPort : Option Port := none
  /-- Port 1 is the aid port, port 0 having had no aid contract 2 s after the active input became none (R205). -/
  aidSecond : Bool := false
  /-- The aid port's sink path is faulted and waits its off time (R206). -/
  cascRetry : Bool := false
  /-- The sink path's connection under way is a retry attempt. -/
  cascAttempt : Bool := false
  /-- Attempts counted for the sink path, and its latch-off (R66, R206). -/
  cascTries : BitVec 8 := 0
  cascLatch : Bool := false
  hold : Bool := false
  pfw : Bool := false
  emg : Bool := false
  etst : Bool := false
  vconnOk : Bool := false
  /-- V_max in 100 mV units (R54). -/
  maxpdo : BitVec 9 := 0
  lock : SupLock := {}
  vin : SupVin := {}
  vaux : SupVaux := {}
  thrMain : SupThr := { uv := 420, warn := 450, ov := 580 }
  thrBkup : SupThr := { uv := 400, warn := 420, ov := 580 }
  hswMain : SupHsw := {}
  hswBkup : SupHsw := {}
  retry : SupRetry := {}
  time : SupTime := {}
  etest : SupEtst := {}
  etres : SupEtres := {}
  /-- `SUP_FLT.MSK_SUP`. -/
  mskSup : Bool := false
  shedMain : ShedRow := {}
  shedBkup : ShedRow := {}
  shedCasc : ShedRow := {}
  shedEmg : ShedRow := {}
  tier0 : BitVec 24 := 0xFFFFFF
  tier1 : BitVec 24 := 0xFFFFFF
  tier2 : BitVec 24 := 0xFFFFFF
  /-- PS_EN is high (R68). -/
  psEn : Bool := false
  /-- An input has been active at some time since reset release (R67). -/
  everActive : Bool := false
  /-- The active input has changed from none and V_max takes the next computed value (R55). -/
  vmaxFresh : Bool := false
  /-- The value whose rise waits out its 1 s (R55). -/
  vmaxCand : BitVec 9 := 0
  /-- The supply record marks EMG_N used (R72). -/
  emgUsed : Bool := true
  /-- The supply record marks the backup input present (Table 2.12). -/
  bkupPresent : Bool := true
  /-- The test under way is a duration test; its elapsed time and result wait for the return to main. -/
  etestDur : Bool := false
  /-- The 10 ms windows since the test began, from which `ELAPSED` is formed. -/
  etWindows : Nat := 0
deriving DecidableEq, Repr

/-! ## Device identity and reset -/

/-- The five conditions of R40. -/
inductive Condition
  | unpowered | reset | boot | recovery | operation
deriving DecidableEq, Repr

/-- One core: whether it runs, and what has happened to it (R12, R89, R90). -/
structure Core where
  started : Bool := false
  /-- Stopped by a watchdog expiry or an activation and not yet running again. -/
  restarting : Bool := false
  held : Bool := false
  wdc : BitVec 8 := 0
  /-- Watchdog expiries within the last 60 s (R90). -/
  recent : Nat := 0
deriving DecidableEq, Repr

/-- Device identity, reset causes, boot progress and the clock source (chapters 2, 4 and 20). -/
structure Did where
  cond : Condition := .reset
  part : DidPart := {}
  fwrun : Word := 0
  refLost : Bool := false
  twarn : Bool := false
  policy : Core := {}
  warden : Core := {}
  rstc : DidRstc := {}
  strap : DidStrap := {}
  boot : DidBoot := {}
  temp : BitVec 16 := 0
  /-- Sources active since the previous reset release, for the next `DID_RSTC` (R78). -/
  srcs : DidRstc := {}
  /-- A pre-reset phase runs (R77). -/
  preReset : Bool := false
  /-- The thermal shutdown source is active (Table 4.5). -/
  thermal : Bool := false
  /-- VIN_HK has fallen through 4.50 V and not yet risen above 4.70 V (R53). -/
  hkLow : Bool := false
  pllLocked : Bool := false
  wiped : Bool := false
  /-- The active input has been other than none since the last reset (R84). -/
  inputSeen : Bool := false
  released : Bool := false
  /-- The first bank the ROM tried is not valid, and it reads the other one (R80). -/
  secondBank : Bool := false
deriving DecidableEq, Repr

/-! ## Event recorder -/

/-- A hardware record (Table 16.1). `no` is its record number, of which NUM is the low byte. -/
structure HwRecord where
  type : BitVec 8
  source : BitVec 8
  flags : BitVec 16
  minutes : BitVec 24
  pcc : BitVec 16
  data : BitVec 48
  no : Word
deriving DecidableEq, Repr

/-- A firmware record (R343); its TYPE is 0x80 and its FLAGS are 0. -/
structure FwRecord where
  source : BitVec 8
  seq : Word
  data : BitVec 64
deriving DecidableEq, Repr

/-- A hardware record held before the recorder runs (R346): type, source, data and FLAGS. -/
structure HeldRecord where
  type : BitVec 8
  source : BitVec 8
  data : BitVec 48
  flags : BitVec 16
deriving DecidableEq, Repr

/-- One requester's bank of the reading window (R350). -/
structure EvrBank where
  src : EvrSrc := {}
  cur : Word := 0
  ready : Bool := false
  /-- The record shown, as four words, once READY is set. -/
  win : Vector Word 4 := #v[0, 0, 0, 0]
  /-- The record's sector could not be read, so that an empty slot is shown (R347). -/
  unread : Bool := false
  /-- Records before this number have been cleared for this bank's store (R352). -/
  hwOldest : Word := 0
  fwOldest : Word := 0
deriving DecidableEq, Repr

/-- The event recorder (chapter 16). The NAND log and the flush area stand in `Nand`. -/
structure Evr where
  running : Bool := false
  held : List HeldRecord := []
  /-- The hardware ring, newest first, at most 2,048 records, headers included. -/
  ring : List HwRecord := []
  /-- The next record number. -/
  next : Word := 0
  /-- The first record not yet in the log (`EVR_DRAIN`), and the first not yet copied to the log window. -/
  drain : Word := 0
  copied : Word := 0
  f75 : Bool := false
  lost : BitVec 16 := 0
  /-- Records lost since the last Recorder record of cause 2 (R345). -/
  lostNow : Nat := 0
  /-- The firmware ring, newest first, at most 4,096 records, and the next SEQ. -/
  fwRing : List FwRecord := []
  fwSeq : Word := 0
  /-- Firmware records not yet formed into a log sector. -/
  fwDrained : Word := 0
  opmin : EvrOpmin := {}
  pcc : EvrPcc := {}
  boot : Word := 0
  /-- Minutes since the last periodic counter record (R356). -/
  sincePeriodic : Nat := 0
  bankA : EvrBank := {}
  bankB : EvrBank := {}
  bankS : EvrBank := {}
  bankP : EvrBank := {}
  bankW : EvrBank := {}
deriving DecidableEq, Repr

/-! ## Event aggregator -/

/-- One requester's bank of pending and mask bits (R353). -/
structure EvaBank where
  pend : BitVec 256 := 0
  mask : BitVec 256 := 0
deriving DecidableEq, Repr

/-- The event aggregator: a bank for each of domains A, B and S, the Policy Core and the Warden Core. -/
structure Eva where
  a : EvaBank := {}
  b : EvaBank := {}
  s : EvaBank := {}
  p : EvaBank := {}
  w : EvaBank := {}
deriving DecidableEq, Repr

end Sys2Proof.Machine
end

