-- ==== Sys2Proof/Machine/Blocks.lean ====
section
/-!
DEFINITION. The state of the shared blocks of chapters 11, 12, 14, 15, 17, 18 and 19: budget and kiln, the cycle clock with
its scheduler, timers and SlaseLine, the host ports and the auxiliary bus, fabric and DMA, the OTP array, the flash with its
controller, and the update engine.
-/

namespace Sys2Proof.Machine

/-! ## Budget and kiln (chapter 11) -/

/-- An entry of the profile table (Table 11.2). -/
structure ProfEntry where
  kind : Byte
  flags : Byte
  vid : BitVec 16
  pid : BitVec 16
  mask : BitVec 16
  vceil : BitVec 16
  iceil : Byte
  /-- The reserved byte at offset 11. -/
  pad11 : Byte := 0
  pMin : BitVec 16
  pMax : BitVec 16
  rpm : Word
  tlim : BitVec 16
  /-- A reserved byte at offsets 22 to 31 that is not 0 makes the entry out of range; true when all are 0. -/
  padZero : Bool := true
deriving DecidableEq, Repr

/-- What the Policy Core holds about one port for its rounds (R234 to R244). -/
structure PortBud where
  pcfg : BudPcfg := {}
  pstat : BudPstat := {}
  /-- The wait time of R238 in ms, while the port is waiting. -/
  waitMs : Option Nat := none
  /-- The partner and cable entries matched (R244). -/
  partner : Option ProfEntry := none
  cable : Option ProfEntry := none
  /-- The identities those lookups were made for: PTNID and CBL_ID as words, 0 for none. -/
  ptnSeen : Word := 0
  cblSeen : Word := 0
deriving DecidableEq, Repr

/-- The budget block and the Policy Core's round counter. -/
structure Bud where
  cfg : BudCfg := {}
  inp : BudIn := {}
  stat : BudStat := {}
  sum : BudSum := {}
  prof : BudProf := {}
  ports : Vector PortBud 24 := #v[{}, {}, {}, {}, {}, {}, {}, {}, {}, {}, {}, {}, {}, {}, {}, {}, {}, {}, {}, {}, {}, {}, {}, {}]
  /-- Rounds since the Policy Core started (R237). -/
  rnd : Nat := 0
deriving DecidableEq, Repr

/-- One port in the kiln model (R247 to R251). -/
structure PortKln where
  pcfg : KlnPcfg := {}
  a : KlnPstatA := {}
  b : KlnPstatB := {}
  /-- The conductor node, 1/256 °C. -/
  dtc : Int := 0
  /-- The squares of the snapshot currents of the interval, in mA², and how many there are (R247). -/
  sumSq : Nat := 0
deriving DecidableEq, Repr

/-- One sheaf (R245, R246, R249). -/
structure Sheaf where
  a : KlnShA := {}
  b : KlnShB := {}
  c : KlnShC := {}
  d : KlnShD := {}
  stat : KlnShStat := {}
  /-- The sheaf node, 1/256 °C. -/
  dts : Int := 0
  /-- The converted NTC samples of the interval, their number, and whether one was a sensor fault (R246). -/
  ntcSum : Int := 0
  ntcN : Nat := 0
  ntcFault : Bool := false
deriving DecidableEq, Repr

/-- The kiln block. -/
structure Kln where
  stat : KlnStat := {}
  ctl : KlnCtl := {}
  sheaves : Vector Sheaf 8 := #v[{}, {}, {}, {}, {}, {}, {}, {}]
  ports : Vector PortKln 24 := #v[{}, {}, {}, {}, {}, {}, {}, {}, {}, {}, {}, {}, {}, {}, {}, {}, {}, {}, {}, {}, {}, {}, {}, {}]
  /-- No update has run since the Policy Core started (R247). -/
  first : Bool := true
  /-- Cycles, and snapshots collected, since the previous update (R247). -/
  cycles : Nat := 0
  snaps : Nat := 0
deriving DecidableEq, Repr

/-! ## Cycle time, scheduler, timers and SlaseLine (chapter 12) -/

/-- A value for each of the five banks. -/
structure Banked (α : Type) where
  a : α
  b : α
  s : α
  p : α
  w : α
deriving DecidableEq, Repr

/-- The sources of the cycle clock, coded as `CYC_STAT.SRC`. -/
inductive CycSrc
  | internal | zc | slase
deriving DecidableEq, Repr

/-- One requester's load registers and result (R263). -/
structure LdBank where
  ld0 : Word := 0
  ld1 : CycLd1 := {}
  ld2 : Word := 0
  ld3 : Word := 0
  stat : CycLdstat := {}
deriving DecidableEq, Repr

/-- What an accepted entry keeps (R263). -/
structure SchedEntry where
  tcn : Word
  tphase : BitVec 16
  op : Byte
  arg0 : Word
  arg1 : Word
  src : SchedSrc
  /-- The command ID of a SlaseLine entry. -/
  cmd : Word := 0
deriving DecidableEq, Repr

/-- The states of a slot, coded as `CYC_SLOTk.STATE`. -/
inductive SlotSt
  | free | pending | waiting | done | aborted
deriving DecidableEq, Repr

/-- A scheduler slot (`CYC_SLOTk`) with the entry it keeps. -/
structure SchedSlot where
  st : SlotSt := .free
  late : Bool := false
  abortLate : Bool := false
  res : BitVec 2 := 0
  gen : Byte := 0
  entry : SchedEntry := { tcn := 0, tphase := 0, op := 0, arg0 := 0, arg1 := 0, src := .a }
  /-- The cycle in which the entry runs has begun (R267). -/
  committed : Bool := false
  /-- The order of acceptance, and later the order of finishing. -/
  order : Nat := 0
  /-- The CN at its due instant, while it waits for the hold line; the CN in which it ran. -/
  ranCn : Word := 0
deriving DecidableEq, Repr

/-- A general timer (R270, R271). -/
structure Timer where
  ctl : TimCtl := {}
  cnt : Word := 0
  top : Word := 0xFFFFFFFF
  matchV : Word := 0
  load : Word := 0
  stat : TimStat := {}
deriving DecidableEq, Repr

/-- The cycle clock, the scheduler and the timers. -/
structure Cyc where
  /-- The clock has started (step 7 of Table 4.2). -/
  running : Bool := false
  src : CycSrc := .internal
  cfg : CycCfg := {}
  ctl : CycCtl := {}
  renum : Bool := false
  cn : Word := 0
  epoch : BitVec 16 := 0
  /-- L of the present cycle (`CYC_LEN`), and L_t (R256). -/
  len : Word := 0x3D090000
  lt : Int := 1024000000
  /-- A clamp limits L, by the error term or by the change of L. -/
  slewE : Bool := false
  slewL : Bool := false
  zcper : Word := 0
  /-- e at the last reference instant, ns (`CYC_PERR`). -/
  perr : Int := 0
  snapCn : Word := 0
  snapSeq : BitVec 16 := 0
  /-- A snapshot entry has run at the present strobe (R262). -/
  snapTaken : Bool := false
  banks : Banked LdBank := ⟨{}, {}, {}, {}, {}⟩
  /-- `CYC_LDCTL.HANDLE`. -/
  handle : BitVec 15 := 0
  slots : Vector SchedSlot 128 := Vector.replicate 128 {}
  /-- The next order number for acceptance and finishing. -/
  orders : Nat := 0
  timers : Vector Timer 8 := #v[{}, {}, {}, {}, {}, {}, {}, {}]
  /-- ZC_IN: counted edges since the last capture, the last capture in µs, the last P, and captures in a row that
  passed R254. -/
  zcEdges : Nat := 0
  zcLast : Option Nat := none
  zcP : Nat := 0
  zcGood : Nat := 0
  zcValid : Bool := false
  timeSets : List TimeSet := []
deriving DecidableEq, Repr

/-- One requester's SlaseLine transmit registers (R279). -/
structure SynBank where
  tx0 : SynTx0 := {}
  tx1 : Word := 0
  tx2 : Word := 0
  tx3 : Word := 0
  tx4 : SynTx4 := {}
  cmd : Word := 0
  stat : SynTxstat := {}
deriving DecidableEq, Repr

/-- A command the master has accepted and not yet sent (R279). -/
structure SynCmd where
  id : Word
  /-- 1 SCHEDULE, 2 SNAPSHOT, 3 TIME-SET. -/
  kind : BitVec 2
  akind : BitVec 2
  addr : BitVec 14
  target : Word
  tphase : BitVec 16
  op : Byte
  arg0 : Word
  arg1 : Word
  bank : Bank
deriving DecidableEq, Repr

/-- The SlaseLine engine. -/
structure Syn where
  stat : SynStat := {}
  cfg : SynCfg := {}
  cfg2 : SynCfg2 := {}
  cnt : SynCnt := {}
  ctl : SynCtl := {}
  grp : Vector Word 8 := #v[0, 0, 0, 0, 0, 0, 0, 0]
  banks : Banked SynBank := ⟨{}, {}, {}, {}, {}⟩
  queue : List SynCmd := []
  /-- Accepted commands whose target cycle has not ended: command ID and target (R269). -/
  open_ : List (Word × Word) := []
  nextId : Word := 0
  /-- The last command IDs acted on, newest first, at most 64 (R278). -/
  acted : List Word := []
  /-- Acquisition: valid ticks in a row, the last tick's reference instant in ns and CN, and the last intervals, newest
  first, at most 8, in ns. -/
  run : Nat := 0
  lastT : Int := 0
  lastCn : Word := 0
  intervals : List Nat := []
  /-- The renumbering that lock calls for, made at the next local boundary (R258). -/
  lockAt : Option (Word × BitVec 16) := none
  /-- The last frames the master has put on the line, newest first, at most 3. -/
  line : List (List Byte) := []
deriving DecidableEq, Repr

/-! ## Host ports and the auxiliary bus (chapter 14) -/

/-- One domain's bank of the HST block, with what its bridge keeps. -/
structure HstBank where
  result : BitVec 3 := 0
  cause : BitVec 4 := 0
  cnt : HstCnt := {}
  lastwr : Word := 0
  lastwd : Word := 0
  lastwn : HstLastwn := {}
  /-- `HST_MBCMD.CMD`, `HST_MBARG`, `HST_MBSTAT` and `HST_MBRES`. -/
  mbcmd : Byte := 0
  mbarg : Word := 0
  mbstat : HstMbstat := {}
  mbres : Word := 0
  /-- The read pointer (R301). -/
  ptr : Nat := 0
  /-- The bytes the last read sent to the host, in order. -/
  sent : List Byte := []
  /-- Side-effect beats delivered whose apply beat is due: the address and the value of the cursor at the peek (R328). -/
  applies : List (Nat × Word) := []
deriving DecidableEq, Repr

/-- The host bridges. -/
structure Hst where
  cfg : HstCfg := {}
  ctl : HstCtl := {}
  a : HstBank := {}
  b : HstBank := {}
  s : HstBank := {}
deriving DecidableEq, Repr

/-- An auxiliary device as its record declares it (Table 18.11): address, register, poll interval, scaling, threshold and
hysteresis. -/
structure AuxDev where
  addr : BitVec 7
  reg : Byte
  interval : Nat
  num : Int
  offset : Int
  threshold : Int
  hysteresis : Int
deriving DecidableEq, Repr

/-- The auxiliary two-wire controller. -/
structure Aux where
  cfg : AuxCfg := {}
  stat : AuxStat := {}
  vals : Vector AuxVal 5 := #v[{}, {}, {}, {}, {}]
  devs : Vector (Option AuxDev) 5 := #v[none, none, none, none, none]
deriving DecidableEq, Repr

/-! ## Fabric, mortar map and DMA (chapter 15) -/

/-- One window: its two registers. -/
structure Window where
  wb : FabWb := {}
  wa : FabWa := {}
deriving DecidableEq, Repr

/-- The seven window sets of 32 windows (R329). -/
abbrev WindowSets := Vector (Vector Window 32) 7

/-- The arbiter of R323 between grants. -/
structure Arbiter where
  owner : Option (Fin 8) := none
  resv : Bool := false
  owed : Bool := false
  since : Nat := 0
deriving DecidableEq, Repr

/-- The fabric. -/
structure Fab where
  cfg : FabCfg := {}
  arb : Arbiter := {}
  dirty : Bool := false
  seq : BitVec 16 := 0
  prot : FabProt := {}
  flt0 : Word := 0
  flt1 : FabFlt1 := {}
  ecc : FabEcc := {}
  cnt : FabCnt := {}
  /-- The pending map, in the window registers, and the active one (R332). -/
  pend : WindowSets := Vector.replicate 7 (Vector.replicate 32 {})
  active : WindowSets := Vector.replicate 7 (Vector.replicate 32 {})
deriving DecidableEq, Repr

/-- A DMA descriptor (Table 15.2). -/
structure DmaDesc where
  src : Nat
  dst : Nat
  len : Nat
  sfix : Bool
  dfix : Bool
  evt : Bool
  next : Nat
deriving DecidableEq, Repr

/-- One DMA channel. -/
structure DmaCh where
  ctl : DmaChCtl := {}
  first : Word := 0
  cur : Word := 0
  cnt : Word := 0
  faddr : Word := 0
  stat : DmaChStat := {}
  /-- The descriptor in progress, once read, and the bytes of it already committed. -/
  desc : Option DmaDesc := none
  done : Nat := 0
deriving DecidableEq, Repr

/-! ## One-time-programmable words (chapter 17) -/

/-- A burn in progress: its word, the spare row when it burns one, and the codewords it programs. -/
structure BurnJob where
  word : Fin 128
  row : Option (Fin 4)
  tag : BitVec 40
  data : BitVec 40
deriving DecidableEq, Repr

/-- The OTP array and its controller. -/
structure Otp where
  /-- The array: the codewords of words 0 to 127, and of the spare rows, tag and data (R358, R371). It outlives reset. -/
  cells : Vector (BitVec 40) 128 := Vector.replicate 128 0
  spareTag : Vector (BitVec 40) 4 := #v[0, 0, 0, 0]
  spareData : Vector (BitVec 40) 4 := #v[0, 0, 0, 0]
  sensed : Bool := false
  nmarg : Byte := 0
  margSpare : Bool := false
  /-- `OTP_WRj`, `OTP_MGj`, `OTP_UCj`, `OTP_BLj`, `OTP_ADj` and `OTP_OVj`. -/
  wr : BitVec 128 := 0
  mg : BitVec 128 := 0
  uc : BitVec 128 := 0
  bl : BitVec 128 := 0
  ad : BitVec 128 := 0
  ov : BitVec 128 := 0
  shd : Vector Word 128 := Vector.replicate 128 0
  ovr : Vector Word 128 := Vector.replicate 128 0
  spares : Vector OtpSpare 4 := #v[{}, {}, {}, {}]
  lock : OtpLock := {}
  burn : OtpBurn := {}
  bdata : Word := 0
  bstat : OtpBstat := {}
  job : Option BurnJob := none
  /-- The lifecycle change in progress: the code of the new state (R376). -/
  change : Option (BitVec 3) := none
deriving DecidableEq, Repr

/-! ## NAND flash, configuration and settings (chapter 18) -/

/-- A 16-byte slot of the NAND log, as four words; all zero when empty (R347). -/
structure Rec4 where
  w0 : Word := 0
  w1 : Word := 0
  w2 : Word := 0
  w3 : Word := 0
deriving DecidableEq, Repr

/-- A page of the flush area (R348): the boot number, the drain mark and the records, oldest first. -/
structure FlushPage where
  boot : Word
  drain : Word
  records : List HwRecord
deriving DecidableEq, Repr

/-- A firmware bank: its state (R417), the FW_VER of its image, and the image's bytes. -/
structure FwBank where
  st : BitVec 2 := 0
  ver : Word := 0
  content : List Byte := []
deriving DecidableEq, Repr

/-- A settings entry (R400): its format version, serial, CFG_ID and items. -/
structure SettingsEntry where
  fmt : BitVec 16
  seq : Word
  cfgId : Word
  items : List (BitVec 16 × Word)
  /-- Its MAGIC and CRC pass. -/
  good : Bool := true
deriving DecidableEq, Repr

/-- A pointer record of the BOOT partition (R420); the bank states it names stand in the banks. -/
structure Pointer where
  seq : Word
  active : Bool
  trial : Bool
  prev : Bool
  cfgSlot : Bool
deriving DecidableEq, Repr

/-- What the flash holds. It outlives reset. -/
structure Nand where
  /-- The partition table is valid, and the lifecycle code under which the partitions were written (R377, R384). -/
  formatted : Bool := false
  under : BitVec 3 := 0
  bank0 : FwBank := {}
  bank1 : FwBank := {}
  slot0 : List Byte := []
  slot1 : List Byte := []
  /-- Settings entries and pointer records, newest first. -/
  settings : List SettingsEntry := []
  ptrs : List Pointer := []
  /-- The log's slots, oldest first, from number `logOldest`. -/
  log : List Rec4 := []
  logOldest : Word := 0
  /-- Flush pages, newest first, and the erased pages left. -/
  flush : List FlushPage := []
  flushErased : Nat := 0
  /-- The boot number of the last boot (R356). -/
  bootNo : Word := 0
  /-- Free reserve blocks, now and at format (R382). -/
  free : Nat := 0
  free0 : Nat := 0
  /-- Blocks of the LOG, SETTINGS and FLUSH rings, and whether the log has given one up (R381, R383). -/
  logN : Nat := 0
  setN : Nat := 0
  flushN : Nat := 0
  logTaken : Bool := false
  /-- Banks, and configuration slots, with a block that cannot be replaced (R383). -/
  deadBank : BitVec 2 := 0
  deadSlot : BitVec 2 := 0
deriving DecidableEq, Repr

/-- One core's bank of the page window (R403). -/
structure PageBank where
  sel : NvcPgsel := {}
  win : List Word := []
  /-- The sectors of the page that are uncorrectable. -/
  bad : BitVec 4 := 0
deriving DecidableEq, Repr

/-- The NAND controller and the configuration's results. -/
structure Nvc where
  stat : NvcStat := {}
  err : NvcErr := {}
  wear : NvcWear := {}
  cfgId : Word := 0
  cfgRev : Word := 0
  cfgstat : NvcCfgstat := {}
  cfgrej : NvcCfgrej := {}
  cfgdrop : NvcCfgdrop := {}
  setstat : NvcSetstat := {}
  pgP : PageBank := {}
  pgW : PageBank := {}
  ovf : Byte := 0
  incompl : Byte := 0
  /-- The words of the sector being written in the log window, by index. -/
  logwin : List (Nat × Word) := []
  /-- Sectors staged and not yet programmed, oldest first. -/
  staged : List (List Rec4) := []
  /-- The verified copy of the configuration image (R20) and the profile entries its records gave (R242). -/
  image : List Byte := []
  overlay : List ProfEntry := []
  /-- The image's values of the persistent items (R399). -/
  imgFuncS : Byte := 30
  imgDurMin : BitVec 16 := 180
  /-- The DEVICE record: VID, PID, bcdDevice and XID (R393). -/
  vid : BitVec 16 := 0
  pid : BitVec 16 := 0
  bcd : BitVec 16 := 0
  xid : Word := 0
deriving DecidableEq, Repr

/-! ## Update and the service port (chapter 19) -/

/-- A response of the service port: STATUS, CAUSE and its data (Table 19.1). -/
structure SvcResp where
  cmd : Byte
  seq : Byte
  status : Byte
  cause : Byte := 0
  data : List Byte := []
deriving DecidableEq, Repr

/-- The update engine and the service port. -/
structure Lcu where
  state : BitVec 4 := 0
  target : Bool := false
  abortLate : Bool := false
  cause : BitVec 5 := 0
  rcvd : Nat := 0
  /-- The header BEGIN carried for the transfer in progress. -/
  header : List Byte := []
  active : Bool := false
  trial : Bool := false
  cfgSlot : Bool := false
  baud : BitVec 3 := 0
  badfr : Byte := 0
  /-- The cores are paused for activation (R303, Table 19.6). -/
  paused : Bool := false
  /-- The restart under way is that of a rollback. -/
  rolling : Bool := false
  /-- The host-set owner lock (R378). -/
  hostLock : Bool := false
  /-- The nonce of the last HELLO, while it is good (R410). -/
  nonce : Option (List Byte) := none
  /-- SEQ and CRC of the last frame executed, and the response stored for its repeats (R407). -/
  last : Option (Byte × BitVec 16) := none
  resp : Option SvcResp := none
  /-- The slice whose turn to reload has come, and the number of slices that take turns (R422, R425). -/
  turn : Option Nat := none
  turns : Nat := 0
  /-- The update policy (R398). -/
  reqGauge : Bool := false
  maxBaud : BitVec 3 := 5
  minFw : Word := 0
deriving DecidableEq, Repr

end Sys2Proof.Machine
end

