-- ==== Sys2Proof/Machine/Slice.lean ====
section
/-!
DEFINITION. The state of one port slice (Table 1.1), block by block: the slice's registers under their own names, and the
state the chapters give the slice beside its registers (a pattern under debounce, a frame waiting for GoodCRC, a contract
change under way, a retry sequence). Registers that are functions of other state (the effective grant of R16, the
threshold codes of R215, the receive mailbox head) are not stored: RegMap.lean forms them at the read.
-/

namespace Sys2Proof.Machine

/-! ## Pins -/

/-- What a slice presents on its CC balls apart from VCONN (Table 5.4): open, the passive dead-battery clamp, its own
Rd, Rp (at the level of `SLC_ATTSTAT.RP_NOW`), or the low level of the FRS signal (R201). -/
inductive CcTerm
  | openCc | clamp | rd | rp | frsLow
deriving DecidableEq, Repr

/-- PWMn: high-Z, pre-bias mode or synchronous operation (R42, R169, R175). -/
inductive PwmPin
  | highZ | preBias | sync
deriving DecidableEq, Repr

/-- The SBU balls: high-Z, the Thatch transceiver, or the vendor debug link (R103, R114). -/
inductive SbuPin
  | highZ | thatch | debug
deriving DecidableEq, Repr

/-- The output pins of one slice. -/
structure SlicePins where
  term : CcTerm := .openCc
  pwm : PwmPin := .highZ
  sbu : SbuPin := .highZ
  /-- ISOGn drives the isolation FET pair closed. -/
  isog : Bool := false
  /-- SNKGn drives the sink-path pair (ports 0 and 1). -/
  snkg : Bool := false
  /-- The discharge sink on VBUSn_SNS is on (R107). -/
  disch : Bool := false
  /-- The former VCONN ball is pulled to GND through 1 kΩ (R105). -/
  vconnPull : Bool := false
deriving DecidableEq, Repr

/-! ## Attach -/

/-- One CC ball as a Source classifies it (Table 5.2). -/
inductive CcClass
  | ra | rd | openBall
deriving DecidableEq, Repr

/-- The attach block of a slice (chapter 5). -/
structure SliceAtt where
  attcfg : SlcAttcfg := { role := 1 }
  attstat : SlcAttstat := {}
  ccmeas : SlcCcmeas := {}
  vconn : SlcVconn := {}
  attctl : SlcAttctl := {}
  /-- The last classification of CCn1 and CCn2 as a Source (R95). -/
  c1 : CcClass := .openBall
  c2 : CcClass := .openBall
  /-- The last classification of CCn1 and CCn2 as a Sink, coded as `RP_SEEN` (R96). -/
  rp1 : BitVec 2 := 0
  rp2 : BitVec 2 := 0
  /-- The debounce has ended and the port waits for VBUS: at vSafe0V in AttachWait.SRC, present on the sink side (R101, R110). -/
  rpHeld : Bool := false
  /-- tDRPTry has ended since Try.SNK was entered (R110). -/
  tryDone : Bool := false
  /-- The VCONN switch is open, or was never closed, because VCONN_IN is low (R105). -/
  vconnLow : Bool := false
  /-- A detach has been declared and its step 4 has not come (Table 5.8). -/
  detaching : Bool := false
  /-- VBUS as VBUSn_SNS last classified it, in mV (R97). -/
  vbusMv : Nat := 0
deriving DecidableEq, Repr

/-! ## Message engine -/

/-- Why the slice sends a message: what its GoodCRC, or its failure, then brings about. -/
inductive TxWhy
  | plain
  /-- Accept of a Request (Table 7.4, step 1). -/
  | acceptRequest
  /-- PS_RDY of a contract change: its GoodCRC is the commit point (R149). -/
  | contractReady
  /-- Source_Capabilities or EPR_Source_Capabilities. -/
  | advert
  /-- A swap request of the slice's own, or the Accept or PS_RDY of a swap. -/
  | swapRequest (k : SwapKind)
  | swapAccept (k : SwapKind)
  | swapReady (k : SwapKind)
  /-- Enter Acknowledged and Enter Succeeded of R154, and Exit of R156. -/
  | eprAck | eprSucceeded | eprExit
  /-- A message from the open-port send mailbox (R137). -/
  | mailbox
  | alertMsg
  /-- Soft_Reset after a reload of the microcode, whose Accept the slice answers with an advertisement (R422). -/
  | reload
deriving DecidableEq, Repr

/-- Kinds of contract and of offer object, coded as `SLC_CONTRACT.KIND` (1 to 4). -/
inductive OfferKind
  | fixed | pps | sprAvs | eprAvs
deriving DecidableEq, Repr

/-- One object of an offer set: its position, kind, voltage range in mV, current limit in mA and, for EPR AVS, its
PDP in W; `ma20` is the SPR AVS current of the 20 V range (R141). -/
structure Offer where
  pos : Nat
  kind : OfferKind
  vmin : Nat
  vmax : Nat
  ma : Nat
  ma20 : Nat := 0
  pdp : Nat := 0
deriving DecidableEq, Repr

/-- Transmit priority: 2 to 5 of Table 6.1. -/
inductive TxPrio
  | orderedSet | reply | ams | mailbox
deriving DecidableEq, Repr

/-- A frame the slice has ready, or has sent and holds for its retries. -/
structure TxMsg where
  ctx : Ctx
  kind : MsgKind
  prio : TxPrio
  why : TxWhy := .plain
  /-- It continues an AMS that is open, so it neither waits for R125 nor is discarded under R117. -/
  cont : Bool := false
  words : List Word := []
  /-- The offer that an advertisement carries. -/
  offer : List Offer := []
deriving DecidableEq, Repr

/-- A value per context. -/
structure PerCtx (α : Type) where
  sop : α
  sop1 : α
  sop2 : α
deriving DecidableEq, Repr

/-- Where the power sequence of a Hard Reset stands (R131, Table 9.6). -/
inductive HrPhase
  | idle
  /-- tPSHardReset runs. -/
  | waitPs
  /-- The port is at or on its way to vSafe0V and tSrcRecover runs. -/
  | recover
deriving DecidableEq, Repr

/-- A Hard Reset that waits for the hold line (R131). -/
inductive HrWait
  | none
  /-- Received: its power sequence waits. -/
  | received
  /-- The slice's own: its sending waits. -/
  | toSend
deriving DecidableEq, Repr

/-- The message engine of a slice (chapter 6). -/
structure SlicePd where
  pdcfg : SlcPdcfg := {}
  pdstat : SlcPdstat := {}
  pdcnt : SlcPdcnt := {}
  pdctl : SlcPdctl := {}
  cblVdo : Word := 0
  cblVdo2 : Word := 0
  cblId : SlcCblId := {}
  cblStat : SlcCblStat := {}
  /-- Transmit MessageID counters. -/
  txId : PerCtx (BitVec 3) := ⟨0, 0, 0⟩
  /-- Stored MessageID of the last message accepted; none since the context was reset. -/
  rxId : PerCtx (Option (BitVec 3)) := ⟨none, none, none⟩
  /-- The receive buffers. -/
  rxBuf : PerCtx (Option Frame) := ⟨none, none, none⟩
  /-- The last GoodCRC sent: its context and MessageID (R121). -/
  goodCrc : Option (Ctx × BitVec 3) := none
  /-- Frames that are ready and wait for the line. -/
  ready : List TxMsg := []
  /-- AMS starts discarded under R117, started again when the partner's AMS has ended. -/
  restart : List TxMsg := []
  /-- The frame on the line, or sent and waiting for GoodCRC. -/
  inflight : Option TxMsg := none
  /-- Retries made of the frame in flight. -/
  retries : Nat := 0
  /-- Rp has been at SinkTxNG for tSinkTx (R125). -/
  ngHeld : Bool := false
  /-- The message whose reply tSenderResponse waits for. -/
  waitReply : Option TxMsg := none
  /-- An AMS started by the partner is open (R117). -/
  partnerAms : Bool := false
  /-- An AMS that the slice started is open (R125). -/
  ownOpen : Bool := false
  /-- Hard Resets sent without a message from the partner in between (R130). -/
  hrSent : Nat := 0
  /-- An explicit contract has been held since attach (R130). -/
  hadContract : Bool := false
  /-- A first explicit contract has been committed since attach or the last Hard Reset (R157). -/
  conSince : Bool := false
  /-- Source_Capabilities sent without acknowledgement before the first contract (Table 6.4). -/
  capsTries : Nat := 0
  /-- The first Source_Capabilities of the attach, or since Hard Reset, has been sent (R128). -/
  capsSent : Bool := false
  /-- The cable identity arrived after the first Source_Capabilities and widens the limits (R128). -/
  discovering : Bool := false
  /-- Discovery has ended since attach or the last Hard Reset (R142). -/
  discEnded : Bool := false
  /-- SOP″ discovery has been started (R127, step 4). -/
  discSop2 : Bool := false
  hrPhase : HrPhase := .idle
  hrWait : HrWait := .none
  /-- Unchunked Extended Messages Supported in the slice's last Source_Capabilities, or the partner's (R126). -/
  unchkOffered : Bool := false
  /-- A chunked message is being received, or sent. -/
  chunkRx : Bool := false
  chunkTx : Option TxMsg := none
  /-- BIST Carrier Mode is on the line, or BIST Test Data is being received (R132). -/
  bistCarrier : Bool := false
  /-- BUSY answers to VDMs in a row (nBusyCount). -/
  busyCount : Nat := 0
deriving DecidableEq, Repr

/-! ## Offers and contracts -/

/-- A contract that a Request has asked for and the slice has accepted or is evaluating. -/
structure NewContract where
  mv : Nat
  ma : Nat
  pos : Nat
  kind : OfferKind
  mismatch : Bool
  eprCap : Bool
  unchunked : Bool
deriving DecidableEq, Repr

/-- The steps of a contract change, coded as `SLC_XSTAT.STATE`; a change held by the hold line remembers its step. -/
inductive XStep
  | idle | evaluating | waitTransition | ramping | settling | readySent | rampingBack
deriving DecidableEq, Repr

/-- A current limit of R214 in force: the event that imposed it. -/
inductive LimitCause
  | none | shed | compliance
deriving DecidableEq, Repr

/-- Offers, contracts and transitions (chapter 7). -/
structure SliceOff where
  offcfg : SlcOffcfg := { fix5 := true }
  xcfg : SlcXcfg := {}
  proflim : SlcProflim := {}
  contract : SlcContract := {}
  xstat : SlcXstat := {}
  rdo : Word := 0
  offctl : SlcOffctl := {}
  /-- The offer last sent (R145). -/
  lastOffer : List Offer := []
  lastOfferEpr : Bool := false
  /-- The contract in force, in mV and mA; 0 without an explicit contract. -/
  conMv : Nat := 0
  conMa : Nat := 0
  /-- The Request of the contract in force set EPR Mode Capable (R154). -/
  conEprCap : Bool := false
  xstep : XStep := .idle
  /-- The change in progress is held by the hold line (R148). -/
  xheld : Bool := false
  change : Option NewContract := none
  /-- An advertisement that waits for the hold line, one that waits for the 2 s of R144, and whether those run. -/
  advertDue : Bool := false
  advertLater : Bool := false
  advertHold : Bool := false
  /-- An abort that came while PS_RDY was on the line (R149). -/
  abortPend : Bool := false
  /-- The slice leaves EPR mode on its own account (R156). -/
  eprLeaving : Bool := false
  /-- A current limit of R214 in force. -/
  limit : LimitCause := .none
  /-- The 5 s of R159 run, and a contract has been committed in them. -/
  complRun : Bool := false
  complCon : Bool := false
  /-- Alert bits collected, and those set while the 500 ms hold-off runs (R157): input change, OCP, OTP. -/
  alertBits : BitVec 3 := 0
  alertLater : BitVec 3 := 0
  alertHold : Bool := false
  /-- OCP reported in Event Flags until TRIES returns to 0 (R158). -/
  ocpFlag : Bool := false
deriving DecidableEq, Repr

/-! ## Open-port mailboxes -/

/-- One entry of the receive queue (R134). -/
structure RxEntry where
  ctx : Ctx
  isCopy : Bool
  len : Nat
  words : List Word
  phase : BitVec 16
  cnLo : BitVec 16
deriving DecidableEq, Repr

/-- The mailboxes of an open port (ports 0 to 3). -/
structure SliceMb where
  ctx : BitVec 2 := 0
  len : BitVec 9 := 0
  mbtxStat : SlcMbtxStat := {}
  /-- `SLC_MBTX_DATA0` to `SLC_MBTX_DATA65`. -/
  txData : List Word := []
  rxq : List RxEntry := []
  ovr : Bool := false
  hrst : Bool := false
  late : Bool := false
  /-- `SLC_MBRX_CTL.COPY`. -/
  copyOn : Bool := false
  /-- A host-started AMS waits for the partner's first message on this context (R134, R137). -/
  hostAms : Option Ctx := none
  /-- An unsolicited message routed to the host waits for its reply (R135). -/
  hostOwes : Option Frame := none
deriving DecidableEq, Repr

/-! ## Power stage -/

/-- The converter, its reference, its meters and far-end regulation (chapter 8). -/
structure SlicePs where
  pwmcfg : SlcPwmcfg := {}
  pwmlim : SlcPwmlim := {}
  cmpb0 : SlcCmpb0 := {}
  cmpb1 : SlcCmpb1 := {}
  pscfg : SlcPscfg := {}
  pwmph : SlcPwmph := {}
  pwmofs : SlcPwmofs := {}
  psstat : SlcPsstat := {}
  festat : SlcFestat := {}
  feres : SlcFeres := {}
  fevolt : SlcFevolt := {}
  tlmV : SlcTlmV := {}
  tlmI : SlcTlmI := {}
  psctl : SlcPsctl := {}
  /-- The energy counters in mJ, and the residues in units of 10 pJ (R179). -/
  eno : BitVec 48 := 0
  eni : BitVec 48 := 0
  enoRes : Nat := 0
  eniRes : Nat := 0
  /-- The connector set point V_set in mV. -/
  vset : Nat := 0
  /-- The reference V_ref in units of 6.25 nV, so that every slew of the spec moves it by a whole number a step. -/
  vref : Nat := 0
  /-- Compensator state: on-times in 2^-24 of a period, and errors (R163). -/
  u1 : Int := 0
  u2 : Int := 0
  e1 : Int := 0
  e2 : Int := 0
  /-- The on-time of the present period in PWM steps. -/
  steps : Nat := 0
  /-- V_pre of Table 8.2, in mV, and the periods since the start. -/
  vpre : Nat := 0
  periods : Nat := 0
  /-- The next sample is the first on a new feedback channel (R164). -/
  fbFresh : Bool := false
  /-- The actual start of the period, still moving toward OFFSET (R173). -/
  phase : Nat := 0
  /-- The start under way is the start into a swap (R176, R193). -/
  swapStart : Bool := false
  /-- Steps 4 to 6 of Table 5.7 wait for the hold line to fall (R102). -/
  startHeld : Bool := false
  /-- Far-end samples accepted, newest first, at most 64, in mΩ (R182). -/
  feSamples : List Nat := []
  /-- The shunt current of the previous strobe, mA (R181). -/
  fePrevI : Int := 0
  /-- C is frozen for a contract change, with the C_x it uses (R185), in 10 mV units. -/
  feFrozen : Bool := false
  feCx : Nat := 0
  /-- Cycles since the last valid report (R186). -/
  feQuiet : Nat := 0
  /-- A contract change was in progress, or the hold line asserted, at the last strobe (R181). -/
  feBad : Bool := false
deriving DecidableEq, Repr

/-! ## Role swaps -/

/-- Steps of a swap in progress (Tables 9.3 to 9.5 and 9.7). -/
inductive SwapStep
  | idle
  /-- The slice's request is acknowledged, or the partner's is being answered; the Accept has not been acknowledged. -/
  | asked
  /-- Slice Source: tSrcTransition runs, then VBUS falls (steps 2 and 3 of Table 9.3). -/
  | srcWait | srcRamp
  /-- Slice Source: PS_RDY sent, the partner's awaited (step 5). -/
  | srcReady
  /-- Slice Sink: the partner's PS_RDY is awaited (step 2 of Table 9.4). -/
  | snkWait
  /-- Slice Sink: PS_RDY received, VBUS to fall to 0.8 V (step 3). -/
  | snkVbus
  /-- Slice becomes Source: ISOGn closing, vSafe5V awaited (step 4), then PS_RDY sent (step 5). -/
  | snkRise | snkReady
  /-- VCONN_Swap, slice taking VCONN: switch to close, then PS_RDY sent. -/
  | vcTake
  /-- VCONN_Swap, slice handing over: the partner's PS_RDY is awaited. -/
  | vcGive
  /-- Fast Role Swap, old Source: signal on CC, then FR_Swap awaited, then Accept and PS_RDY. -/
  | frsSignal | frsWaitFr | frsAccept | frsOldReady
  /-- Fast Role Swap, new Source: FR_Swap sent, then PS_RDY of the old Source awaited, then its own. -/
  | frsNew | frsGotReady | frsNewReady
deriving DecidableEq, Repr

/-- Role swaps, Fast Role Swap and the tie port (chapter 9). -/
structure SliceSw where
  swcfg : SlcSwcfg := {}
  swstat : SlcSwstat := {}
  swctl : SlcSwctl := {}
  step : SwapStep := .idle
  /-- Commands of R191 that wait for their condition. -/
  wantPr : Bool := false
  wantDr : Bool := false
  wantVc : Bool := false
  /-- The automatic VCONN_Swap of R191 is allowed: a contract has been committed since the slice became Source, or since the
  last refusal (R197). -/
  autoVc : Bool := false
  /-- The slice's request that has been sent and not answered (R196), and the Waits it has had (R197). -/
  outstanding : Option SwapKind := none
  waits : Nat := 0
  /-- A request answered with Wait, to be sent again after 100 ms (R197). -/
  retry : Option SwapKind := none
  /-- The slice has become Source by a swap and tSwapSourceStart runs (Tables 9.4 and 9.7). -/
  startDue : Bool := false
  /-- tSrcTransition of a PR_Swap has ended and its ramp waits for the hold line (R195). -/
  due : Bool := false
  /-- The swap was asked for by the slice. -/
  mine : Bool := false
  /-- The slice, as new Source, has closed ISOGn after the FRS signal. -/
  frsClosed : Bool := false
  /-- The slice, as old Source, has made its PS_RDY ready. -/
  frsOldRdy : Bool := false
  /-- The FRS signal was sent in the last 20 ms (R203). -/
  frsRecent : Bool := false
  /-- First Source_Capabilities after attach or swap was 500 ms ago (R204). -/
  eprPossible : Bool := false
  /-- The last offer received as Sink. -/
  offered : Option SourceCaps := none
  /-- The request sent as Sink: voltage in mV, current in mA, EPR Mode Capable; and the sink contract in force. -/
  snkReq : Option SrcObject := none
  snkMv : Nat := 0
  snkMa : Nat := 0
  /-- The tie port as Sink is in EPR mode, or has EPR_Mode Enter or Exit under way (R204, R207). -/
  snkEpr : Bool := false
  snkEntering : Bool := false
  /-- The attempt to enter EPR mode has ended without Enter Succeeded. -/
  eprFailed : Bool := false
  /-- PS_RDY of the sink contract is awaited (tPSTransition). -/
  snkWaitRdy : Bool := false
deriving DecidableEq, Repr

/-! ## Protection -/

/-- Comparators, trips and retries (chapter 10). -/
structure SlicePr where
  prcfg : SlcPrcfg := {}
  prtime : SlcPrtime := {}
  prretry : SlcPrretry := {}
  snkpr : SlcSnkpr := {}
  prstat : SlcPrstat := {}
  tripv : SlcTripv := {}
  prctl : SlcPrctl := {}
  /-- Live comparator levels, bit k for comparator k (R211). -/
  lvl : BitVec 4 := 0
  /-- The fuse accumulator in mA^2 x 10 µs (R218). -/
  acc : Nat := 0
  /-- Consecutive periods limited by PEAK and by REV (R216, R217), and whether this period was. -/
  peakRun : Nat := 0
  revRun : Nat := 0
  peakNow : Bool := false
  revNow : Bool := false
  /-- V_ref is falling, in the sense of R217. -/
  falling : Bool := false
  /-- The V_hi kept during a detach, shed or PR_Swap ramp, in mV (R215). -/
  vhiHeld : Option Nat := none
  /-- The retry attempt has begun its ISOGn gate drive, so the fuse constant is ON_MS (R222). -/
  gateStarted : Bool := false
  /-- A successful attempt has been made and its 10 s run (R223). -/
  tenSec : Bool := false
  /-- The next attempt is the vSafe5V restoration of a Hard Reset (R221, R448), and tSrcRecover has ended. -/
  restore : Bool := false
  recovered : Bool := false
  /-- The off time has ended and the attempt waits for the hold line (R225). -/
  attemptDue : Bool := false
  /-- The last sampled OV level (R228). -/
  ovSampled : Bool := false
  /-- Comparators that answer the self-check wrongly, as the tests last found them (R229). -/
  bad : BitVec 4 := 0
deriving DecidableEq, Repr

/-! ## Grant -/

/-- The grant and the cap bus as the slice sees them (R16, R232). -/
structure SliceGr where
  grant : SlcGrant := {}
  /-- The cap on the cap bus, coded as in R69, and the no-supply flag. -/
  cap : BitVec 8 := 0
  nosup : Bool := false
  ptnid : SlcPtnid := {}
deriving DecidableEq, Repr

/-! ## Snapshots -/

/-- A live or held snapshot set (R261). -/
structure SnapSet where
  cn : Word := 0
  v : SlcTlmV := {}
  i : SlcTlmI := {}
  elo : Word := 0
  ehi : BitVec 16 := 0
  st : SlcSnapSt := {}
deriving DecidableEq, Repr

/-! ## Thatch -/

/-- Commands to a luminaire (Table 13.5). -/
inductive ThMsg
  | dim (level : Nat) (fade : Byte)
  | scene (num : Byte) (emergency : Bool)
  | ident (sec : Byte)
  | etest (kind : BitVec 2)
  | derate (pmax : BitVec 16)
  | feGrant (grant : Bool) (comp : BitVec 16)
deriving DecidableEq, Repr

/-- The order of queued commands within a cycle (R288). -/
inductive ThClass
  | fe | sched | derate | scene
deriving DecidableEq, Repr

/-- A queued command. -/
structure ThCmd where
  msg : ThMsg
  cls : ThClass
  /-- The scheduler slot whose entry queued it, with the slot's generation. -/
  slot : Option (Fin 128 × Byte) := none
  seq : Option (BitVec 4) := none
  tries : Nat := 0
  /-- Sent in the present cycle. -/
  sentNow : Bool := false
deriving DecidableEq, Repr

/-- Where discovery, entry or exit stands (R282 to R284, R298). -/
inductive ThStep
  | idle | identity | svids | modes | enter | exiting
deriving DecidableEq, Repr

/-- Thatch (chapter 13). -/
structure SliceTh where
  thcfg : SlcThcfg := {}
  thstat : SlcThstat := {}
  thvdo : Word := 0
  rep0 : SlcThrep0 := {}
  rep1 : SlcThrep1 := {}
  rep2 : SlcThrep2 := {}
  thcnt : SlcThcnt := {}
  thdim : SlcThdim := {}
  thctl : SlcThctl := {}
  step : ThStep := .idle
  /-- Enter Mode attempts made (R284). -/
  enterTries : Nat := 0
  /-- No further attempt until the next attach or Hard Reset (R282). -/
  noMore : Bool := false
  /-- The exit was made under R297, so the re-entry is due 1 s later. -/
  reenter : Bool := false
  queue : List ThCmd := []
  /-- SEQ of the next new command (R289). -/
  nextSeq : BitVec 4 := 1
  /-- The frame that awaits its REPORT: 0 for POLL. -/
  out : Option (BitVec 4) := none
  sentCount : Nat := 0
  /-- The link settle time has ended (Table 13.3). -/
  settled : Bool := false
  /-- POLLs in a row without a valid REPORT (R297). -/
  missPolls : Nat := 0
  /-- FLAGS, FAULT and EMG of the last REPORT of any kind (R292). -/
  lastFlags : Byte := 0
  lastFault : Byte := 0
  lastEmg : Byte := 0
  lastDim : Nat := 0
  /-- An FEGRANT with GRANT 1 has been sent and none with GRANT 0 since (R296). -/
  feAsked : Bool := false
  /-- The limit in force by R295: the P_g sent, the fallback level L_d, and the level before the limit began. -/
  pg : Nat := 0
  ld : Nat := 0
  dimBefore : Nat := 0
  /-- The scheduled DIM or SCENE held while the emergency scene is shown (R294). -/
  held : Option ThCmd := none
  /-- The last frame the slice has put on the link. -/
  frame : List Byte := []
deriving DecidableEq, Repr

/-! ## The slice -/

/-- One port slice, with its registers at their reset values; `reset` sets what differs from port to port. -/
structure Slice where
  att : SliceAtt := {}
  pd : SlicePd := {}
  off : SliceOff := {}
  mb : SliceMb := {}
  ps : SlicePs := {}
  sw : SliceSw := {}
  pr : SlicePr := {}
  gr : SliceGr := {}
  pins : SlicePins := {}
  th : SliceTh := {}
  /-- The live and the held snapshot set. -/
  snap : SnapSet := {}
  hold : SnapSet := {}
deriving DecidableEq, Repr

end Sys2Proof.Machine
end

