-- ==== Sys2Proof/Machine/State.lean ====
section
/-!
DEFINITION. The whole state of the device, the reasons a command can stop, and the state right after reset.
-/

namespace Sys2Proof.Machine

/-- Faults: none. The spec gives every command of the table an effect, so no meaning raises a fault. -/
inductive Fault
deriving DecidableEq, Repr

/-- Reasons for which a command has no meaning. -/
inductive Refusal
  /-- Raised by `exec` for a row that has no meaning in the model yet; safe, since nothing follows from a refusal. -/
  | notModelled (mnemonic : String)
deriving DecidableEq, Repr

/-- The device: the 24 slices, the shared blocks, the memories, the model's counter of free values, and the commands that
wait. -/
structure State where
  slices : Vector Slice 24
  sup : Sup
  did : Did
  evr : Evr
  eva : Eva
  bud : Bud
  kln : Kln
  cyc : Cyc
  syn : Syn
  hst : Hst
  aux : Aux
  fab : Fab
  dma : Vector DmaCh 16
  nvc : Nvc
  nand : Nand
  otp : Otp
  lcu : Lcu
  /-- System SRAM and the profile table, sparse and in canonical form: addresses strictly rising, no byte 0. -/
  mem : List Host.Cell
  /-- The model's own field: how many free values have been taken. -/
  free : Nat
  /-- Commands that wait, first in, first out. -/
  pending : List Instr
deriving DecidableEq, Repr

/-! ## Reset (R75, R78, R429) -/

/-- A slice at reset: ports 0 and 1 have the dead-battery clamp and the tie registers (Tables 5.1 and 20.2, R429). -/
def Slice.reset (n : Fin 24) : Slice :=
  let zidx : BitVec 5 := BitVec.ofNat 5 n.val
  if n.val < 2 then
    { att := { attstat := { state := 15, dbclamp := true } }
      ps := { pscfg := { zidx := zidx } }, pins := { term := .clamp } }
  else
    { ps := { pscfg := { zidx := zidx } }
      sw := { swcfg := { prAccSnk := false, drAcc := false, frsEn := false, frsReq := 0, pilot := 0, pAid := 0, snkDvdt := 0 } }
      pr := { snkpr := { snkDrop := 0, snkFilt := 0 } } }

/-- The 24 slices at reset. -/
def slicesReset : Vector Slice 24 :=
  #v[Slice.reset 0, Slice.reset 1, Slice.reset 2, Slice.reset 3, Slice.reset 4, Slice.reset 5, Slice.reset 6, Slice.reset 7,
     Slice.reset 8, Slice.reset 9, Slice.reset 10, Slice.reset 11, Slice.reset 12, Slice.reset 13, Slice.reset 14,
     Slice.reset 15, Slice.reset 16, Slice.reset 17, Slice.reset 18, Slice.reset 19, Slice.reset 20, Slice.reset 21,
     Slice.reset 22, Slice.reset 23]

/-- The machine right after a power-on reset, its cause waiting for `DID_RSTC` (R78). What outlives reset (the OTP array and
the flash) is blank here. -/
def State.reset : State :=
  { slices := slicesReset, sup := {}, did := { srcs := { por := true } }, evr := {}, eva := {}, bud := {}, kln := {}, cyc := {}, syn := {}, hst := {}
    aux := {}, fab := {}
    dma := #v[{}, {}, {}, {}, {}, {}, {}, {}, {}, {}, {}, {}, {}, {}, {}, {}]
    nvc := {}, nand := {}, otp := {}, lcu := {}, mem := [], free := 0, pending := [] }

end Sys2Proof.Machine
end

