-- ==== Sys2Proof/Machine/Views.lean ====
section
/-!
DEFINITION. Projections of the state that several blocks need, and the words of registers that are functions of other state.
-/

namespace Sys2Proof.Machine

/-- The slice of a port. -/
def State.slice (s : State) (p : Port) : Slice := s.slices.get p

/-- The 24 ports, in order. -/
def allPorts : List Port := [0, 1, 2, 3, 4, 5, 6, 7, 8, 9, 10, 11, 12, 13, 14, 15, 16, 17, 18, 19, 20, 21, 22, 23]

/-- The eight sheaves. -/
def allSheaves : List (Fin 8) := [0, 1, 2, 3, 4, 5, 6, 7]

/-- The 16 DMA channels. -/
def allChannels : List (Fin 16) := [0, 1, 2, 3, 4, 5, 6, 7, 8, 9, 10, 11, 12, 13, 14, 15]

/-! ## Supply -/

/-- `SUP_STAT.ACTIVE` (R52). -/
def inputCode : InputId → BitVec 2
  | .none => 0 | .main => 1 | .backup => 2 | .cascade => 3

/-- `SUP_STAT.MAIN_ST` and `BKUP_ST`. -/
def PathSt.code : PathSt → BitVec 3
  | .notConfigured => 0 | .lost => 1 | .qualifying => 2 | .staggerOrArmed => 3 | .connecting => 4 | .connected => 5
  | .retrying => 6 | .latched => 7

/-- `SUP_STAT` as a read returns it. -/
def supStat (u : Sup) : SupStat :=
  { active := inputCode u.active, mainSt := u.main.st.code, bkupSt := u.bkup.st.code, cascQ := u.cascQ, hold := u.hold, pfw := u.pfw
    emg := u.emg, etst := u.etst, v48Ok := u.maxpdo = 480, vconnOk := u.vconnOk, maxpdo := u.maxpdo }

/-- `SUP_RSTAT` as a read returns it. -/
def supRstat (u : Sup) : SupRstat :=
  { mainTry := u.main.tries, bkupTry := u.bkup.tries, mainLatch := u.main.latch, bkupLatch := u.bkup.latch
    mainCause := u.main.cause, bkupCause := u.bkup.cause }

/-- The tier of a port, from `SUP_TIER0` to `SUP_TIER2` (R69). -/
def portTier (s : State) (p : Port) : Nat :=
  let w := if p.val < 8 then s.sup.tier0 else if p.val < 16 then s.sup.tier1 else s.sup.tier2
  (w.extractLsb' (3 * (p.val % 8)) 3).toNat

/-! ## Grants -/

/-- `SLC_GRANT` as the slice takes it: above 240 W it counts as 240 W; 0.1 W units. -/
def SliceGr.grantPwr (g : SliceGr) : Nat := min g.grant.pwr.toNat 2400

/-- The effective grant of a slice in 0.1 W units: the smaller of grant register and cap (R16). -/
def SliceGr.eff (g : SliceGr) : Nat := if g.cap = 255 then g.grantPwr else min g.grantPwr (10 * g.cap.toNat)

/-- The effective grant of a port (R16). -/
def effGrant (s : State) (p : Port) : Nat := (s.slice p).gr.eff

/-- An effective grant below 0.5 W counts as 0 for R102 and R108. -/
def SliceGr.none (g : SliceGr) : Bool := g.eff < 5

/-- The power at the last strobe, in mW; a negative one counts as 0. -/
def snapPower (s : State) (p : Port) : Nat := (s.slice p).snap.i.pout.toInt.toNat * 10

/-- The port holds an explicit contract as Source. -/
def hasSourceContract (s : State) (p : Port) : Bool :=
  (s.slice p).off.contract.kind ≠ 0 && !(s.slice p).sw.swstat.prole

/-- The current of a Fast Role Swap code in mA: none, default USB power, 1.5 A and 3.0 A. -/
def frsCurrent (c : BitVec 2) : Nat := if c = 0 then 0 else if c = 1 then 900 else if c = 2 then 1500 else 3000

/-- The stagger group of a port, 0 for none (R171). -/
def staggerGroup (c : SlcPwmcfg) : Nat := if c.group.toNat ≤ 8 then c.group.toNat else 0

/-! ## Cores -/

/-- The Policy Core executes. -/
def policyRuns (s : State) : Bool := s.did.policy.started && !s.did.policy.restarting && !s.did.policy.held

/-- The Warden Core executes. -/
def wardenRuns (s : State) : Bool := s.did.warden.started && !s.did.warden.restarting && !s.did.warden.held

/-- Die temperature in 1/16 °C. -/
def dieTemp (s : State) : Int := s.did.temp.toInt

/-- `DID_STAT` as a read returns it. -/
def didStat (d : Did) : DidStat :=
  { refLost := d.refLost, twarn := d.twarn, pcoreHeld := d.policy.held, wcoreHeld := d.warden.held
    pcoreWdc := d.policy.wdc, wcoreWdc := d.warden.wdc }

/-! ## Cycle time -/

/-- The source of the cycle clock, as `CYC_STAT.SRC`. -/
def CycSrc.code : CycSrc → BitVec 2
  | .internal => 0 | .zc => 1 | .slase => 2

/-- The state of a slot, as `CYC_SLOTk.STATE`. -/
def SlotSt.code : SlotSt → BitVec 3
  | .free => 0 | .pending => 1 | .waiting => 2 | .done => 3 | .aborted => 4

/-- The source of an entry, as `CYC_SLOTk.SRC`. -/
def srcCode : SchedSrc → BitVec 3
  | .a => 0 | .b => 1 | .s => 2 | .policy => 3 | .slase => 4 | .warden => 5

/-- A slot as `CYC_SLOTk` shows it. -/
def slotWord (x : SchedSlot) : Word :=
  ({ state := x.st.code, late := x.late, abortLate := x.abortLate, res := x.res, src := srcCode x.entry.src, op := x.entry.op
     gen := x.gen } : CycSlot).toWord

/-- The entry is pending or waits for the hold line. -/
def SchedSlot.isOpen (x : SchedSlot) : Bool := x.st = .pending || x.st = .waiting

/-- The number of pending entries (`CYC_STAT.QCNT`). -/
def pendingCount (s : State) : Nat := s.cyc.slots.toList.countP SchedSlot.isOpen

/-- `CYC_STAT.GWIN` (R269). -/
def gwin (s : State) : Bool :=
  s.cyc.slots.toList.any (fun x => x.entry.src == .slase && (x.isOpen || (x.st == .done && x.ranCn == s.cyc.cn)))
    || !s.syn.open_.isEmpty

/-- `CYC_STAT` as a read returns it. -/
def cycStatWord (s : State) : Word :=
  ({ src := s.cyc.src.code, zcValid := s.cyc.zcValid, aligned := s.cyc.running && s.cyc.perr.natAbs ≤ 10000
     slew := s.cyc.slewE || s.cyc.slewL, gwin := gwin s, renum := s.cyc.renum, qcnt := satField 8 (pendingCount s) } : CycStat).toWord

/-! ## Banks (R353, R335) -/

/-- The bank of a window set: how `DMA_CHc_CTL.OWNER` names a requester. -/
def setBank (o : BitVec 3) : Bank :=
  if o = 0 then .a else if o = 1 then .b else if o = 2 then .s else if o = 3 then .p else .w

/-- The bank a requester's accesses use; a DMA channel uses its owner's. SlaseLine and the recorder access no bank. -/
def bankOf (q : Requester) (s : State) : Bank :=
  match q with
  | .domA => .a | .domB => .b | .domS => .s | .policy => .p | .warden => .w
  | .dma c => setBank (s.dma.get c).ctl.owner
  | .slaseLine => .w
  | .recorder => .w

/-- The scheduler's name of a bank's requester. -/
def schedSrcOf : Bank → SchedSrc
  | .a => .a | .b => .b | .s => .s | .p => .policy | .w => .warden

/-- The bank of a scheduler source; a SlaseLine entry has none and never triggers DMA. -/
def schedBank : SchedSrc → Bank
  | .a => .a | .b => .b | .s => .s | .policy => .p | .warden => .w | .slase => .w

/-- One bank of a banked register group. -/
def Banked.get {α : Type} (x : Banked α) : Bank → α
  | .a => x.a | .b => x.b | .s => x.s | .p => x.p | .w => x.w

/-- Change one bank. -/
def Banked.upd {α : Type} (x : Banked α) (k : Bank) (f : α → α) : Banked α :=
  match k with
  | .a => { x with a := f x.a } | .b => { x with b := f x.b } | .s => { x with s := f x.s }
  | .p => { x with p := f x.p } | .w => { x with w := f x.w }

/-- A requester's bank of the reading window. -/
def evrBank (k : Bank) (s : State) : EvrBank :=
  match k with
  | .a => s.evr.bankA | .b => s.evr.bankB | .s => s.evr.bankS | .p => s.evr.bankP | .w => s.evr.bankW

/-- A requester's bank of the aggregator. -/
def evaBank (k : Bank) (s : State) : EvaBank :=
  match k with
  | .a => s.eva.a | .b => s.eva.b | .s => s.eva.s | .p => s.eva.p | .w => s.eva.w

/-- The sources pending and enabled in a bank (R353). -/
def EvaBank.live (x : EvaBank) : BitVec 256 := x.pend &&& x.mask

/-- ALERT_A_N or ALERT_B_N is low (R313); domain S has no alert. -/
def alertAsserted (d : Domain) (s : State) : Bool :=
  match d with
  | .a => s.eva.a.live ≠ 0 | .b => s.eva.b.live ≠ 0 | .s => false

/-- Port `p` reports a fault on the trip summary line: `PSTATE` 3 or 4 (R231). -/
def portFaulted (s : State) (p : Port) : Bool := (s.slice p).pr.prstat.pstate == 3 || (s.slice p).pr.prstat.pstate == 4

/-- FAULT_N is low: in Reset, Boot and Recovery (Table 2.10), and in Operation while a fault is reported (R231). -/
def faultAsserted (s : State) : Bool :=
  match s.did.cond with
  | .unpowered => false
  | .operation => allPorts.any (portFaulted s) || ((s.sup.main.latch || s.sup.bkup.latch) && !s.sup.mskSup)
  | _ => true

/-- The requester of a domain's bridge. -/
def domReq : Domain → Requester
  | .a => .domA | .b => .domB | .s => .domS

/-- The number of a domain: its window set, and its code in a Recorder record (Table 16.2). -/
def domCode : Domain → Nat
  | .a => 0 | .b => 1 | .s => 2

/-! ## Thatch -/

/-- `SLC_THSTAT` as a read returns it. -/
def thstatWord (t : SliceTh) : Word := ({ t.thstat with qlen := satField 4 t.queue.length } : SlcThstat).toWord

/-! ## Update -/

/-- An update is in progress: from the acceptance of BEGIN to its end, confirmation or rollback (R416). -/
def updateOpen (l : Lcu) : Bool := l.state ≠ 0 && l.state ≠ 7

/-- `LCU_UPSTAT` as a read returns it. -/
def upstatWord (l : Lcu) : Word :=
  ({ state := l.state, target := l.target, abortLate := l.abortLate, cause := l.cause } : LcuUpstat).toWord

end Sys2Proof.Machine
end

