-- ==== Sys2Proof/Machine/Ops.lean ====
section
/-!
DEFINITION. The named operations above the state that every block uses: reaching one slice or one bank, raising events and
writing records (chapter 16), and copying snapshots (R262).
-/

namespace Sys2Proof.Machine

/-! ## Reaching a part of the state -/

/-- Change one slice. -/
def onSlice (p : Port) (f : Slice → Slice) (s : State) : State := { s with slices := updAt s.slices p f }

/-- Change the attach block of a slice. -/
def onAtt (p : Port) (f : SliceAtt → SliceAtt) : State → State := onSlice p (fun x => { x with att := f x.att })

/-- Change the message engine of a slice. -/
def onPd (p : Port) (f : SlicePd → SlicePd) : State → State := onSlice p (fun x => { x with pd := f x.pd })

/-- Change the offers and contracts of a slice. -/
def onOff (p : Port) (f : SliceOff → SliceOff) : State → State := onSlice p (fun x => { x with off := f x.off })

/-- Change the mailboxes of a slice. -/
def onMb (p : Port) (f : SliceMb → SliceMb) : State → State := onSlice p (fun x => { x with mb := f x.mb })

/-- Change the power stage of a slice. -/
def onPs (p : Port) (f : SlicePs → SlicePs) : State → State := onSlice p (fun x => { x with ps := f x.ps })

/-- Change the role swaps of a slice. -/
def onSw (p : Port) (f : SliceSw → SliceSw) : State → State := onSlice p (fun x => { x with sw := f x.sw })

/-- Change the protection of a slice. -/
def onPr (p : Port) (f : SlicePr → SlicePr) : State → State := onSlice p (fun x => { x with pr := f x.pr })

/-- Change the grant of a slice. -/
def onGr (p : Port) (f : SliceGr → SliceGr) : State → State := onSlice p (fun x => { x with gr := f x.gr })

/-- Change the Thatch block of a slice. -/
def onTh (p : Port) (f : SliceTh → SliceTh) : State → State := onSlice p (fun x => { x with th := f x.th })

/-- Change the pins of a slice. -/
def onPins (p : Port) (f : SlicePins → SlicePins) : State → State := onSlice p (fun x => { x with pins := f x.pins })

/-- Change what the Policy Core holds about a port. -/
def onPortBud (p : Port) (f : PortBud → PortBud) (s : State) : State :=
  { s with bud := { s.bud with ports := updAt s.bud.ports p f } }

/-- Change a port's part of the kiln model. -/
def onPortKln (p : Port) (f : PortKln → PortKln) (s : State) : State :=
  { s with kln := { s.kln with ports := updAt s.kln.ports p f } }

/-- Change a sheaf. -/
def onSheaf (k : Fin 8) (f : Sheaf → Sheaf) (s : State) : State :=
  { s with kln := { s.kln with sheaves := updAt s.kln.sheaves k f } }

/-- Do something for each port, port 0 first. -/
def overPorts (f : Port → State → State) (s : State) : State := allPorts.foldl (fun s p => f p s) s

/-- Change the supply block. -/
def onSup (f : Sup → Sup) (s : State) : State := { s with sup := f s.sup }

/-- Change the identity block. -/
def onDid (f : Did → Did) (s : State) : State := { s with did := f s.did }

/-- Change the recorder. -/
def onEvr (f : Evr → Evr) (s : State) : State := { s with evr := f s.evr }

/-- Change the update engine. -/
def onLcu (f : Lcu → Lcu) (s : State) : State := { s with lcu := f s.lcu }

/-- Change the NAND controller. -/
def onNvc (f : Nvc → Nvc) (s : State) : State := { s with nvc := f s.nvc }

/-- Change what the flash holds. -/
def onNand (f : Nand → Nand) (s : State) : State := { s with nand := f s.nand }

/-- Change a requester's bank of the scheduler's load registers. -/
def onLdBank (k : Bank) (f : LdBank → LdBank) (s : State) : State :=
  { s with cyc := { s.cyc with banks := s.cyc.banks.upd k f } }

/-- Change a requester's bank of the reading window. -/
def onEvrBank (k : Bank) (f : EvrBank → EvrBank) : State → State := onEvr (fun e =>
  match k with
  | .a => { e with bankA := f e.bankA } | .b => { e with bankB := f e.bankB } | .s => { e with bankS := f e.bankS }
  | .p => { e with bankP := f e.bankP } | .w => { e with bankW := f e.bankW })

/-- Change a requester's bank of the aggregator. -/
def onEvaBank (k : Bank) (f : EvaBank → EvaBank) (s : State) : State :=
  { s with eva := match k with
    | .a => { s.eva with a := f s.eva.a } | .b => { s.eva with b := f s.eva.b } | .s => { s.eva with s := f s.eva.s }
    | .p => { s.eva with p := f s.eva.p } | .w => { s.eva with w := f s.eva.w } }

/-- Take a free value's number. -/
def takeFree (s : State) : State := { s with free := s.free + 1 }

/-! ## Events (R353) -/

/-- A bank with source `n` pending. -/
def EvaBank.set (n : Nat) (x : EvaBank) : EvaBank := { x with pend := x.pend ||| (1 <<< n) }

/-- Raise event source `n` in every bank. -/
def raise (n : Nat) (s : State) : State :=
  { s with eva := { a := s.eva.a.set n, b := s.eva.b.set n, s := s.eva.s.set n, p := s.eva.p.set n, w := s.eva.w.set n } }

/-! ## Records (R341 to R346) -/

/-- The number of hardware records not yet in the log (`EVR_STAT.UNDRAINED`). -/
def undrained (e : Evr) : Nat := (e.next - e.drain).toNat

/-- FLAGS bits 0, 1 and 4 as they stand: saturated counts, and a pre-reset phase (Table 16.1). -/
def autoFlags (s : State) : BitVec 16 :=
  (if s.evr.opmin.sat then 1 else 0) ||| (if s.evr.pcc.sat then 2 else 0) ||| (if s.did.preReset then 16 else 0)

/-- The next slot of the ring takes a record (R344, R345): a full ring loses its oldest undrained record, and `F75` follows
the count. -/
def ringPut (type source : BitVec 8) (flags : BitVec 16) (data : BitVec 48) (s : State) : State :=
  let e := s.evr
  let r : HwRecord :=
    { type := type, source := source, flags := flags ||| autoFlags s, minutes := e.opmin.minF, pcc := e.pcc.pcc, data := data
      no := e.next }
  let full := undrained e = 2048
  let e := { e with
    ring := (r :: e.ring).take 2048, next := e.next + 1, drain := if full then e.drain + 1 else e.drain
    lost := if full then satInc e.lost else e.lost, lostNow := if full then e.lostNow + 1 else e.lostNow }
  let above := 1536 < undrained e
  let s' := { s with evr := { e with f75 := above || (e.f75 && 1024 < undrained e) } }
  if above && !e.f75 then raise 216 s' else s'

/-- The DATA of the sector header whose own number is `n`: the boot number's low half and the number (Table 16.2). -/
def headerData (boot n : Word) : BitVec 48 := (boot.setWidth 16).setWidth 48 ||| (n.setWidth 48 <<< 16)

/-- Write a hardware record, after the sector header where one is due (R344). -/
def ringWrite (type source : BitVec 8) (flags : BitVec 16) (data : BitVec 48) (s : State) : State :=
  let s := if s.evr.next.toNat % 32 = 0 then ringPut 0x0B 0xFF 0 (headerData s.evr.boot s.evr.next) s else s
  ringPut type source flags data s

/-- A hardware record is due: written while the recorder runs; earlier in the boot it is held, up to 16, or counted as lost
(R346). In recovery nothing is written (R87). -/
def hwRecord (type source : BitVec 8) (flags : BitVec 16) (data : BitVec 48) (s : State) : State :=
  if s.evr.running then ringWrite type source flags data s
  else if s.did.cond = .boot then
    if s.evr.held.length < 16 then
      onEvr (fun e => { e with held := e.held ++ [{ type := type, source := source, data := data, flags := flags }] }) s
    else onEvr (fun e => { e with lost := satInc e.lost, lostNow := e.lostNow + 1 }) s
  else s

/-- A firmware record, while the Policy Core runs (R343, R354). -/
def fwRecord (source : Nat) (word : Word) (idx : Nat) (s : State) : State :=
  if policyRuns s then
    onEvr (fun e => { e with
      fwRing := ({ source := BitVec.ofNat 8 source, seq := e.fwSeq
                   data := word.setWidth 64 ||| (BitVec.ofNat 64 idx <<< 32) } :: e.fwRing).take 4096
      fwSeq := e.fwSeq + 1 }) s
  else s

/-- Raise a global source with its firmware record. -/
def globalEvent (n : Nat) (word : Word) (idx : Nat) (s : State) : State := fwRecord n word idx (raise n s)

/-- The register that the firmware record of port event 8p + k carries (Table 16.4). -/
def portWord (p : Port) (k : Nat) (s : State) : Word :=
  let sl := s.slice p
  match k with
  | 0 => sl.att.attstat.toWord
  | 1 => sl.off.contract.toWord
  | 2 => sl.sw.swstat.toWord
  | 3 => sl.pr.prstat.toWord
  | 4 => thstatWord sl.th
  | 6 => (s.kln.ports.get p).b.toWord
  | _ => sl.pd.pdstat.toWord

/-- Raise port source 8p + k with its firmware record; k = 5 has none, and a trip writes its own record instead. -/
def portEvent (p : Port) (k : Nat) (s : State) : State :=
  if k = 5 then raise (8 * p.val + 5) s else globalEvent (8 * p.val + k) (portWord p k s) p.val s

/-- A Supply record: `SUP_STAT` and the bulk voltage (Table 16.2). -/
def supplyRecord (source : BitVec 8) (s : State) : State :=
  hwRecord 1 source 0 ((supStat s.sup).toWord.setWidth 48 ||| (s.sup.vaux.vbulk.setWidth 48 <<< 32)) s

/-- Raise a source of the supply block with its record. -/
def supplyEvent (n : Nat) (s : State) : State := supplyRecord (BitVec.ofNat 8 n) (raise n s)

/-! ## Snapshots (R262) -/

/-- A snapshot entry runs: one copy at a strobe, however many entries run there. -/
def takeSnapshot (s : State) : State :=
  if s.cyc.snapTaken then s else
  let s := overPorts (fun p s => onSlice p (fun x => { x with hold := x.snap }) s) s
  raise 207 { s with cyc := { s.cyc with snapCn := s.cyc.cn, snapSeq := s.cyc.snapSeq + 1, snapTaken := true } }

end Sys2Proof.Machine
end

