-- ==== Sys2Proof/Machine/FuseOps.lean ====
section
/-!
DEFINITION. The OTP codeword, what a word reads as, locks, defaults and the lifecycle state (R358 to R375).
-/

namespace Sys2Proof.Machine

/-! ## Codewords (R359) -/

/-- The Hamming positions of data bits 0 to 31 and of the marker (j = 32): the integers from 3 upward that are not
powers of two. -/
def hammingPos (j : Nat) : Nat :=
  if j < 1 then 3 else if j < 4 then j + 4 else if j < 11 then j + 5 else if j < 26 then j + 6 else j + 7

/-- The position of a raw bit of the codeword: data and marker, then c0 to c5 at the powers of two; c6 has none. -/
def rawPos (i : Nat) : Nat := if i ≤ 32 then hammingPos i else if i ≤ 38 then 2 ^ (i - 33) else 0

/-- The XOR of the positions of the bits that are 1. -/
def syndrome (c : BitVec 40) : BitVec 6 :=
  (List.range 40).foldl (fun acc i => if c.getLsbD i then acc ^^^ BitVec.ofNat 6 (rawPos i) else acc) 0

/-- The parity of all 40 bits. -/
def parity40 (c : BitVec 40) : Bool := (List.range 40).foldl (fun acc i => acc != c.getLsbD i) false

/-- The codeword of data with its written marker (R359). -/
def otpEncode (d : Word) : BitVec 40 :=
  let body : BitVec 40 := d.setWidth 40 ||| (1 <<< 32)
  let c := body ||| ((syndrome body).setWidth 40 <<< 33)
  if parity40 c then c ||| (1 <<< 39) else c

/-- What a codeword reads as. -/
structure OtpWord where
  written : Bool
  faulted : Bool
  data : Word
deriving DecidableEq, Repr

/-- The raw bit at a Hamming position. -/
def bitAtPos (p : Nat) : Option Nat := (List.range 39).find? (fun i => rawPos i == p)

/-- Correct a codeword: none when it is uncorrectable (R359). -/
def otpCorrect (c : BitVec 40) : Option (BitVec 40) :=
  let sy := syndrome c
  if sy = 0 then some c
  else if !parity40 c then none
  else match bitAtPos sy.toNat with
    | some i => some (c ^^^ (1 <<< i))
    | none => none

/-- The reading of a codeword (R359, R360, R362). -/
def otpRead (c : BitVec 40) : OtpWord :=
  match otpCorrect c with
  | none => { written := false, faulted := true, data := 0 }
  | some x => if x.getLsbD 32 then { written := true, faulted := false, data := x.setWidth 32 }
              else { written := false, faulted := false, data := 0 }

/-! ## Groups and locks (R358, R365, R366) -/

/-- The lock groups of Table 17.1. -/
inductive OtpGroup
  | vendor | owner | cust (b : Fin 4) | none
deriving DecidableEq, Repr

/-- The group of a word (Table 17.1). -/
def otpGroup (w : Nat) : OtpGroup :=
  if w = 11 || (32 ≤ w && w ≤ 39) then .owner
  else if w = 0 || (12 ≤ w && w ≤ 31) || (40 ≤ w && w ≤ 47) then .vendor
  else if h : 48 ≤ w ∧ w ≤ 111 then .cust ⟨(w - 48) / 16, by omega⟩
  else .none

/-- The group is locked by its lock word. -/
def lockedByWord (l : OtpLock) : OtpGroup → Bool
  | .vendor => l.vlk
  | .owner => l.olk
  | .cust b => l.clk.getLsbD b.val
  | .none => false

/-- The group is locked by its sticky lock. -/
def lockedSticky (l : OtpLock) : OtpGroup → Bool
  | .vendor => l.sV
  | .owner => l.sO
  | .cust b => l.sC.getLsbD b.val
  | .none => false

/-- The group of a word is locked in either way. -/
def wordLocked (o : Otp) (w : Nat) : Bool := lockedByWord o.lock (otpGroup w) || lockedSticky o.lock (otpGroup w)

/-- Word `w` is written, by sensing and with any spare applied. -/
def otpWritten (o : Otp) (w : Nat) : Bool := o.wr.getLsbD w

/-- Word `w` is faulted, with no spare applied. -/
def otpFaulted (o : Otp) (w : Nat) : Bool := o.uc.getLsbD w

/-- The shadow of word `w`, as its consumers see it. -/
def otpShadow (o : Otp) (w : Fin 128) : Word := o.shd.get w

/-- All the words from `a` to `b` are written and not faulted. -/
def wordsGood (o : Otp) (a b : Nat) : Bool :=
  (List.range (b + 1 - a)).all (fun i => otpWritten o (a + i) && !otpFaulted o (a + i))

/-- The device secret is usable (Table 17.2). -/
def dsecUsable (o : Otp) : Bool := wordsGood o 16 23

/-- The vendor key is usable. -/
def vkeyUsable (o : Otp) : Bool := wordsGood o 24 31

/-- The owner key is usable. -/
def okeyUsable (o : Otp) : Bool := wordsGood o 32 39

/-! ## The lifecycle state (R373 to R375, R378) -/

/-- The lifecycle code: the highest k for which LCk is written or faulted. -/
def lifecycle (o : Otp) : Nat :=
  if otpWritten o 4 || otpFaulted o 4 then 4
  else if otpWritten o 3 || otpFaulted o 3 then 3
  else if otpWritten o 2 || otpFaulted o 2 then 2
  else if otpWritten o 1 || otpFaulted o 1 then 1
  else 0

/-- The words Table 17.5 requires for the advance out of state `k`. -/
def requiredWords (k : Nat) : List Nat :=
  if k = 0 then 0 :: 5 :: (List.range 16).map (· + 16) ++ (List.range 8).map (· + 40)
  else if k = 1 then [6, 11] ++ (List.range 8).map (· + 32)
  else []

/-- The words that block the next advance (R375). -/
def blockingWords (o : Otp) : List Nat :=
  let k := lifecycle o
  if k = 2 then (List.range 48).filter (otpFaulted o)
  else (requiredWords k).filter (fun w => !otpWritten o w || otpFaulted o w)

/-- The smallest of a list of word numbers, 0x7F when it is empty. -/
def firstWord (l : List Nat) : Nat := l.foldl min 0x7F

/-- The next advance meets R375. -/
def nextOk (o : Otp) : Bool := lifecycle o < 4 && (blockingWords o).isEmpty

/-- The OWNER bits in force. -/
def ownerBits (o : Otp) : Word := otpShadow o 11

/-- `LCU_LCSTAT` as a read returns it: its reset value until sensing (R373 to R375). -/
def lcstat (o : Otp) : LcuLcstat :=
  if !o.sensed then {} else
  let k := lifecycle o
  let ow := ownerBits o
  { state := BitVec.ofNat 3 k, nextOk := nextOk o
    jtag := if getBit ow 1 then 0 else if k ≤ 1 then 2 else if k = 2 then 1 else 0
    vdbg := k = 1 && !getBit ow 2, otpUlk := getBit ow 0
    eval := k = 1 && !otpWritten o 6 && !otpFaulted o 6, blockw := BitVec.ofNat 7 (firstWord (blockingWords o)) }

/-- `OTP_STAT` as a read returns it. -/
def otpStat (o : Otp) : OtpStat :=
  { sensed := o.sensed, marg := o.mg ≠ 0 || o.margSpare, unc := o.uc ≠ 0, bul := o.bl ≠ 0, ovr := o.ov ≠ 0
    spares := BitVec.ofNat 4 (((List.ofFn (n := 4) id).map (fun k => if (o.spares.get k).applied then 2 ^ k.val else 0)).sum)
    nmarg := o.nmarg }

end Sys2Proof.Machine
end

