-- ==== Sys2Proof/Machine/DmaOps.lean ====
section
/-!
DEFINITION. Arming, starting and aborting DMA channels (R335, R339). What a channel moves is in Fabric.lean.
-/

namespace Sys2Proof.Machine

/-- The window set of a bank's requester (R335). -/
def bankSet (k : Bank) : BitVec 3 :=
  match k with | .a => 0 | .b => 1 | .s => 2 | .p => 3 | .w => 4

/-- Change channel `c`. -/
def onDma (c : Fin 16) (f : DmaCh → DmaCh) (s : State) : State :=
  { s with dma := updAt s.dma c f }

/-- A channel armed by the requester of bank `k`: `OWNER` records its window set; a running channel is left as it is. -/
def DmaCh.armBy (k : Bank) (x : DmaCh) : DmaCh :=
  if x.stat.state = 2 then x
  else { x with ctl := { x.ctl with arm := true, owner := bankSet k }, stat := { x.stat with state := 1, cause := 0, write := false } }

/-- A start by the owner: a running channel sets `MISS`, an armed one begins its chain (R335). -/
def DmaCh.start (x : DmaCh) : DmaCh :=
  if x.stat.state = 2 then { x with stat := { x.stat with miss := true } }
  else if x.ctl.arm then
    { x with cnt := 0, cur := x.first &&& 0xFFFFFFF0, desc := none, done := 0
             stat := { x.stat with state := 2, abortLate := false, cause := 0, write := false } }
  else x

/-- The requester of bank `k` is the channel's owner. -/
def DmaCh.ownedBy (k : Bank) (x : DmaCh) : Bool := x.ctl.arm && x.ctl.owner == bankSet k

/-- A start written by the requester of bank `k`; any other requester's is ignored. -/
def dmaStartBy (k : Bank) (c : Fin 16) (s : State) : State :=
  if (s.dma.get c).ownedBy k then onDma c DmaCh.start s else s

/-- A trigger entry of the source of bank `k`: every channel of the mask starts; the flag says that none was refused. -/
def dmaTrigger (k : Bank) (mask : BitVec 16) (s : State) : State × Bool :=
  (List.ofFn (n := 16) id).foldl (fun (r : State × Bool) c =>
    if mask.getLsbD c.val then
      if (r.1.dma.get c).ownedBy k then (onDma c DmaCh.start r.1, r.2) else (r.1, false)
    else r) (s, true)

/-- An abort with no commit in the same clock (R339). -/
def DmaCh.abort (x : DmaCh) : DmaCh :=
  if x.stat.state = 2 then { x with desc := none, done := 0, stat := { x.stat with state := 4 } }
  else if x.stat.state = 3 then { x with stat := { x.stat with abortLate := true } }
  else x

/-- An abort written by the requester of bank `k`. -/
def dmaAbortBy (k : Bank) (c : Fin 16) (s : State) : State :=
  if (s.dma.get c).ownedBy k then onDma c DmaCh.abort s else s

end Sys2Proof.Machine
end

