-- ==== Sys2Proof/Machine/PowerOps.lean ====
section
/-!
DEFINITION. A slice's converter, its isolation FETs and discharge sink, and the thresholds of its comparators: starting,
stopping and ramping (R106 to R108, R164 to R177), rated current and threshold codes (R209 to R215), and the self-check
(R229, R230).
-/

namespace Sys2Proof.Machine

/-! ## Settings as the hardware takes them -/

/-- The switching period in steps of 312.5 ps (R169). -/
def SlicePs.period (x : SlicePs) : Nat := clampNat 3200 16000 x.pwmcfg.period.toNat

/-- The soft-start rate in 0.1 V/ms units (R175). -/
def SlicePs.ssRate (x : SlicePs) : Nat := clampNat 5 100 x.pwmlim.ssRate.toNat

/-- The contract slew S in 0.5 V/ms units (`SLC_XCFG.SLEW`). -/
def SliceOff.slew (x : SliceOff) : Nat := clampNat 1 60 x.xcfg.slew.toNat

/-- Voltages of V_ref: 1 mV is 160,000 units of 6.25 nV. -/
def mvUnits (mv : Nat) : Nat := mv * 160000

/-- V_ref in mV, rounded down. -/
def SlicePs.vrefMv (x : SlicePs) : Nat := x.vref / 160000

/-- The compensation C in force, in mV (`SLC_FESTAT.COMP`). -/
def SlicePs.comp (x : SlicePs) : Nat := 10 * x.festat.comp.toNat

/-- The contract voltage V_c in mV, 5.00 V before an explicit contract (R166). -/
def Slice.vc (x : Slice) : Nat := if x.off.conMv = 0 then 5000 else x.off.conMv

/-- The PS_RDY tolerance around `mv` (R146). -/
def readyTol (mv : Nat) : Nat := max (3 * mv / 100) 100

/-- The converter runs (`CSTATE` 1 to 6). -/
def SlicePs.running (x : SlicePs) : Bool := x.psstat.cstate ≠ 0 && x.psstat.cstate ≠ 7

/-- A change of contract, from Accept to commit (Table 7.4). -/
def SliceOff.changing (x : SliceOff) : Bool := x.xstep ≠ .idle && x.xstep ≠ .evaluating

/-! ## Rated current and thresholds (R213 to R215) -/

/-- The current of the Rp level presented, in mA (R213). -/
def rpCurrent (a : SlcAttstat) : Nat := if a.rpNow = 3 then 3000 else if a.rpNow = 2 then 1500 else 900

/-- The contract current I_c of R213, in mA. -/
def Slice.ic (x : Slice) : Nat :=
  match x.off.changing, x.off.change with
  | true, some c => max (if x.off.conMa = 0 then rpCurrent x.att.attstat else x.off.conMa) c.ma
  | _, _ => if x.pd.pdstat.pdConn then x.off.conMa else rpCurrent x.att.attstat

/-- I_L = P_g / V_c in mA (R214). -/
def Slice.iLimit (x : Slice) : Nat := x.gr.eff * 100000 / x.vc

/-- The new Source of a Fast Role Swap, whose limit is the smaller of 3.0 A and its grant at 5 V (R202). -/
def Slice.frsSource (x : Slice) : Bool := x.sw.step = .frsNew || x.sw.step = .frsGotReady || x.sw.step = .frsNewReady

/-- The rated current I_r in mA (R213, R214). -/
def Slice.ir (x : Slice) : Nat :=
  let r := x.ic + max (x.ic * clampNat 5 50 x.pr.prcfg.margin.toNat / 100) 250
  let r := if x.off.limit = .none then r else min r x.iLimit
  if x.frsSource then min r (min 3000 (x.gr.eff * 20)) else r

/-- A current threshold code (R215). -/
def curCode (x : Slice) (ma : Nat) : BitVec 10 := satField 10 (ceilDiv (ma * x.ps.pscfg.rsh.toNat) 1250)

/-- C_x of R185 for a new contract voltage, in mV. -/
def cxOf (vmax comp vnew : Nat) : Nat := min (min comp (vnew / 20)) (min (50000 - vnew) (vmax + 2000 - vnew))

/-- V_hi of R215 as a Source, in units of V_ref. -/
def Slice.vhi (x : Slice) : Nat :=
  match x.off.changing, x.off.change, x.pr.vhiHeld with
  | true, some c, _ => max (mvUnits (x.vc + x.ps.comp)) (mvUnits (c.mv + x.ps.feCx * 10))
  | _, _, some h => mvUnits h
  | _, _, none =>
    if !x.ps.running then mvUnits (max x.ps.vset 5000) else max x.ps.vref (mvUnits x.ps.vset)

/-- The OV code: as Source from V_hi, as Sink from the sink contract voltage (R215, R227). -/
def ovCode (x : Slice) : BitVec 10 :=
  let v := if x.sw.swstat.prole then mvUnits (if x.sw.snkMv = 0 then 5000 else x.sw.snkMv) else x.vhi
  satField 10 (ceilDiv (min (mvUnits 600000) (11 * v + mvUnits 5000)) (mvUnits 600))

/-- `SLC_CMPTHR0` (R215). -/
def cmpthr0 (x : Slice) : SlcCmpthr0 :=
  let rip := 100 * x.pr.prcfg.ripple.toNat
  { peak := curCode x (3 * x.ir / 2 + rip), short := curCode x (2 * x.ir + rip) }

/-- `SLC_CMPTHR1` (R215, R226). -/
def cmpthr1 (x : Slice) : SlcCmpthr1 :=
  { ov := ovCode x
    cmp3 := if x.sw.swstat.prole then x.pr.snkpr.snkDrop else curCode x (100 * clampNat 1 50 x.pr.prcfg.rev.toNat) }

/-- The modes of Table 10.2, two bits for each comparator. The self-check ends within the command that runs it. -/
def cmpModes (x : Slice) : BitVec 8 :=
  if x.ps.running || x.pins.isog then
    if x.sw.swstat.prole then
      (if x.sw.swstat.snkp = 1 || x.sw.swstat.snkp = 2 then 0x55 else 0x15)
    else 0x55
  else if x.sw.swstat.prole && (x.sw.swstat.snkp = 1 || x.sw.swstat.snkp = 2) then 0x50
  else 0x20

/-- The fuse constant in 10 µs units (R218): `ON_MS` from the start of gate drive of an attempt until it succeeds. -/
def fuseTf (x : SlicePr) : Nat :=
  if x.prstat.pstate = 2 && x.gateStarted then (if x.prretry.onMs = 0 then 1 else x.prretry.onMs.toNat) * 100
  else clampNat 10 1000 x.prtime.tFuse.toNat * 100

/-- The trip level k of the fuse (R218). -/
def fuseK (x : Slice) : Nat := x.ir * x.ir * fuseTf x.pr

/-- `SLC_CMPLVL`: levels as last reported, low where the comparator is off (R211, R212, R218). -/
def cmplvl (x : Slice) : SlcCmplvl :=
  let m := cmpModes x
  let on (k : Nat) : Word := putBit (m.getLsbD (2 * k) || m.getLsbD (2 * k + 1)) k
  { lvl := x.pr.lvl &&& getField (on 0 ||| on 1 ||| on 2 ||| on 3) 0 4, mode := m, cmp3Snk := x.sw.swstat.prole
    fuse := if fuseK x = 0 then 255 else satField 8 (256 * x.pr.acc / fuseK x) }

/-! ## Pins -/

/-- The discharge sink is on (R107): ISOGn open, VBUS above 0.8 V, and a detach, `NOPWR`, a trip or ErrorRecovery; also in a
PR_Swap where the converter cannot ramp (R192), and after the FRS signal down to 4.75 V (Table 9.7). -/
def Slice.sink (x : Slice) : Slice :=
  let on := !x.pins.isog && !x.att.attstat.vbusSafe0
    && (x.att.detaching || x.att.attstat.nopwr || (!x.sw.swstat.prole && x.pr.prstat.pstate ≠ 0 && x.pr.prstat.pstate ≠ 4)
        || x.att.attstat.state = 14 || x.sw.step = .srcRamp
        || (4750 ≤ x.att.vbusMv && (x.sw.step = .frsWaitFr || x.sw.step = .frsAccept || x.sw.step = .frsOldReady)))
  { x with pins := { x.pins with disch := on } }

/-- The feedback channel goes back to VCNVn_SNS (R164). -/
def SlicePs.fbBack (x : SlicePs) : SlicePs :=
  if x.psstat.fb then { x with psstat := { x.psstat with fb := false }, fbFresh := true } else x

/-- ISOGn opens. -/
def Slice.openIsog (x : Slice) : Slice :=
  { x with pins := { x.pins with isog := false }, ps := x.ps.fbBack, pr := { x.pr with gateStarted := false } }.sink

/-- The converter stops: PWMn high-Z and the compensator cleared (R170), the fuse accumulator 0 (R218). -/
def Slice.stopConv (x : Slice) : Slice :=
  { x with
    ps := { x.ps with
      psstat := { x.ps.psstat with cstate := 0, clmode := false, dsat := false, duty := 0 }
      u1 := 0, u2 := 0, e1 := 0, e2 := 0, steps := 0, startHeld := false, swapStart := false }
    pr := { x.pr with acc := 0, peakRun := 0, revRun := 0, peakNow := false, revNow := false, falling := false, vhiHeld := none }
    pins := { x.pins with pwm := .highZ } }

/-- The converter stops and ISOGn opens. -/
def Slice.powerOff (x : Slice) : Slice := x.stopConv.openIsog

/-- A ramp of the reference to 0 V begins, for a detach, a Hard Reset or a PR_Swap: `CSTATE` 6, V_hi kept (R106, R215). -/
def Slice.rampDown (x : Slice) : Slice :=
  { x with
    pr := { x.pr with vhiHeld := some (x.vhi / 160000) }
    ps := { x.ps with psstat := { x.ps.psstat with cstate := 6 } }
    pins := { x.pins with pwm := .sync } }

/-! ## Self-check (R229, R230) -/

/-- The 48 bits of a trip record (Table 10.4), from `SLC_TRIPV` and `SLC_PRSTAT`. -/
def tripData (x : SlicePr) (latched : Bool) : BitVec 48 :=
  x.prstat.cause.setWidth 48 ||| (x.tripv.itrip.setWidth 48 <<< 4) ||| (x.tripv.vtrip.setWidth 48 <<< 20)
    ||| (x.prstat.tries.setWidth 48 <<< 36) ||| ((BitVec.ofBool latched).setWidth 48 <<< 44)

/-- Event 8n + 3 with a trip record (R220). -/
def tripEvent (p : Port) (latched : Bool) (s : State) : State :=
  let s := raise (8 * p.val + 3) s
  hwRecord 2 (BitVec.ofNat 8 (8 * p.val + 3)) 0 (tripData (s.slice p).pr latched) s

/-- The self-check of the four comparators, none of which can answer wrongly but those in `pr.bad` (R229, R230). -/
def selfCheck (p : Port) (s : State) : State :=
  let bad := (s.slice p).pr.bad
  if bad = 0 then
    onPr p (fun x => { x with prstat := { x.prstat with
      scfail := 0, pstate := if x.prstat.pstate = 4 then 0 else x.prstat.pstate } }) s
  else
    s |> onPr p (fun x => { x with prstat := { x.prstat with scfail := bad, pstate := 4, cause := 7 } }) |> tripEvent p false

/-- A self-check that finds `bad`. -/
def selfCheckWith (p : Port) (bad : BitVec 4) (s : State) : State := selfCheck p (onPr p (fun x => { x with bad := bad }) s)

/-! ## Starting (Table 8.2) -/

/-- Step 1 of Table 8.2 from the VCNVn_SNS voltage last measured (R175). -/
def Slice.beginStart (x : Slice) : Slice :=
  let vpre := 10 * x.ps.tlmV.vcnv.toNat
  { x with
    ps := { x.ps.fbBack with
      psstat := { x.ps.fbBack.psstat with cstate := if 5000 < vpre then 2 else 1 }
      vpre := vpre, vref := mvUnits vpre, periods := 0, vset := if x.off.conMv = 0 then 5000 else x.ps.vset, startHeld := false }
    pins := { x.pins with pwm := if 5000 < vpre then .sync else .preBias } }

/-- The converter starts, after the self-check that begins every start (R175, R229). -/
def startConv (p : Port) (s : State) : State :=
  let s := selfCheck p s
  if (s.slice p).pr.prstat.pstate = 4 then s else onSlice p Slice.beginStart s

/-- The converter starts into a swap, or to arm for a Fast Role Swap, with ISOGn open (Table 9.4, R200). -/
def startSwapConv (p : Port) (s : State) : State :=
  onPs p (fun x => { x with swapStart := true }) (startConv p s)

/-- Steps 4 to 6 of Table 5.7 for a port in Attached.SRC, or what holds them back (R102, R224, R230). -/
def startPower (p : Port) (s : State) : State :=
  let x := s.slice p
  if x.gr.none then onSlice p (fun x => { x with att := { x.att with attstat := { x.att.attstat with nopwr := true } } }.sink) s
  else if x.pr.prstat.pstate ≠ 0 then s
  else if s.sup.hold then onPs p (fun x => { x with startHeld := true }) s
  else startConv p s

/-- The shed of R108: PWMn high-Z, ISOGn open, `NOPWR` set; it ends a retry sequence, and `TRIES` stays (R225). -/
def Slice.shed (x : Slice) : Slice :=
  let x := x.stopConv
  { x with
    att := { x.att with attstat := { x.att.attstat with nopwr := true } }
    pr := { x.pr with
      prstat := { x.pr.prstat with pstate := if x.pr.prstat.pstate = 1 || x.pr.prstat.pstate = 2 then 0 else x.pr.prstat.pstate }
      attemptDue := false, tenSec := false, restore := false } }.openIsog

/-- The reference arrives where it was going: V_ref takes the set point. -/
def SlicePs.arrive (x : SlicePs) : SlicePs := { x with vref := mvUnits x.vset }

/-! ## Stagger groups (R171 to R173) -/

/-- A write of `SLC_PWMPH`: `NEXT` and `LOAD_CN`, and `PEND` set (R173). -/
def writePwmph (p : Port) (w : Word) (s : State) : State :=
  onPs p (fun x => { x with pwmph := { next := getField w 0 15, loadCn := getField w 16 8, pend := true } }) s

/-- The members of a group whose converter runs, in ascending port order. -/
def groupRunning (s : State) (g : Nat) : List Port :=
  allPorts.filter (fun p => staggerGroup (s.slice p).ps.pwmcfg == g && (s.slice p).ps.running)

/-- The Policy Core spreads the running members of a group evenly (R172). -/
def spreadGroup (g : Nat) (s : State) : State :=
  let ms := groupRunning s g
  ms.zipIdx.foldl (fun s m =>
    let next := roundDiv (m.2 * (s.slice m.1).ps.period) ms.length
    writePwmph m.1 (putField (BitVec.ofNat 15 next) 0 ||| putField ((s.cyc.cn + 2).setWidth 8 : BitVec 8) 16) s) s

/-- What a command does to the slices, followed by the Policy Core's new offsets for each group in which a converter has
started or stopped (R172). -/
def spreading (f : State → State) (s : State) : State :=
  let t := f s
  if !policyRuns t then t else
  [1, 2, 3, 4, 5, 6, 7, 8].foldl (fun t g => if groupRunning s g = groupRunning t g then t else spreadGroup g t) t

end Sys2Proof.Machine
end

