-- ==== Sys2Proof/Machine/Crc.lean ====
section
/-!
DEFINITION. The cyclic redundancy checks of the spec's frames and images, bit by bit.
-/

namespace Sys2Proof.Machine

/-- One bit of a most-significant-bit-first check with polynomial `poly`. -/
def crcBit {n : Nat} (poly : BitVec n) (c : BitVec n) (b : Bool) : BitVec n :=
  if c.msb != b then (c <<< 1) ^^^ poly else c <<< 1

/-- One byte, most significant bit first. -/
def crcByte {n : Nat} (poly : BitVec n) (c : BitVec n) (x : Byte) : BitVec n :=
  [7, 6, 5, 4, 3, 2, 1, 0].foldl (fun c i => crcBit poly c (x.getLsbD i)) c

/-- The CRC-16 of R273 and R287: polynomial 0x1021, initial value 0xFFFF, no reflection or final inversion. -/
def crc16 (bs : List Byte) : BitVec 16 := bs.foldl (crcByte (0x1021 : BitVec 16)) 0xFFFF

/-- A check's two bytes, low byte first. -/
def crc16Bytes (bs : List Byte) : List Byte := [(crc16 bs).setWidth 8, (crc16 bs >>> 8).setWidth 8]

/-- A 16-bit value as two bytes, little-endian. -/
def le16 (x : BitVec 16) : List Byte := [x.setWidth 8, (x >>> 8).setWidth 8]

/-- A word as four bytes, little-endian. -/
def le32 (x : Word) : List Byte := [x.setWidth 8, (x >>> 8).setWidth 8, (x >>> 16).setWidth 8, (x >>> 24).setWidth 8]

end Sys2Proof.Machine
end

