-- ==== Sys2Proof/Machine/ThatchOps.lean ====
section
/-!
DEFINITION. What a slice does on its Thatch link by itself: its command queue, the exchanges of a cycle, the derate
requests and the far-end-regulation grant (chapter 13).
-/

namespace Sys2Proof.Machine

/-! ## Capabilities (R284, Table 13.2) -/

/-- The capability bits defined in version 1.`v`. -/
def thDefined (v : Nat) : Byte :=
  if v = 0 then 0x0F else if v = 1 then 0x3F else if v = 2 then 0x7F else 0xFF

/-- The agreed minor version of R284. -/
def thAgreedVer (cfg : SlcThcfg) (vdo : Word) : BitVec 2 :=
  let m := getField vdo 0 2
  if cfg.maxver.toNat < m.toNat then cfg.maxver else m

/-- The agreed capabilities of R284. -/
def thAgreedCaps (cfg : SlcThcfg) (vdo : Word) : Byte :=
  getField vdo 8 8 &&& cfg.caps &&& thDefined (thAgreedVer cfg vdo).toNat

/-- The VDO of Enter Mode (R284). -/
def thEnterVdo (cfg : SlcThcfg) (vdo : Word) : Word :=
  putField (thAgreedVer cfg vdo) 0 ||| putField (1 : BitVec 4) 4 ||| putField (thAgreedCaps cfg vdo) 8

/-- The capability a command needs (Table 13.5). -/
def thCapBit : ThMsg → Option Nat
  | .dim _ _ => none
  | .scene _ _ => some 1
  | .ident _ => some 2
  | .etest _ => some 3
  | .derate _ => some 5
  | .feGrant _ _ => some 0

/-- A command's capability is agreed (R290). -/
def thAllowed (t : SliceTh) (m : ThMsg) : Bool :=
  match thCapBit m with
  | none => true
  | some i => t.thstat.caps.getLsbD i

/-! ## The queue (R289) -/

/-- Queue a command; a full queue of 8 drops it and counts it. The flag says that it was queued. -/
def thPush (c : ThCmd) (t : SliceTh) : SliceTh × Bool :=
  if !thAllowed t c.msg then (t, false)
  else if 8 ≤ t.queue.length then ({ t with thcnt := { t.thcnt with drop := satInc t.thcnt.drop } }, false)
  else ({ t with queue := t.queue ++ [c] }, true)

/-- The commanded level, full output when none has been commanded (R295). -/
def thCmdLevel (t : SliceTh) : Nat := if t.thdim.cmdV then t.thdim.cmd.toNat else 10000

/-! ## Derate requests (R295) -/

/-- L_d of R295; both powers in the same unit. With no delivered power nothing bounds the level but CMD. -/
def thFallback (t : SliceTh) (pg pd : Nat) : Nat :=
  let l := if pd = 0 then thCmdLevel t else min (thCmdLevel t) (100 * (t.lastDim * pg / (100 * pd)))
  if 0 < pg && l < 100 then 100 else l

/-- Request that the luminaire keep within `pg` (0.1 W), `pd` being delivered (10 mW). -/
def thLimit (pg pd : Nat) (t : SliceTh) : SliceTh :=
  let t := if t.thstat.derate then t else { t with dimBefore := t.lastDim }
  let t := { t with thstat := { t.thstat with derate := true }, pg := pg }
  if t.thstat.caps.getLsbD 5 then (thPush { msg := .derate (BitVec.ofNat 16 pg), cls := .derate } t).1
  else
    let l := thFallback t (10 * pg) pd
    (thPush { msg := .dim l 0, cls := .derate } { t with ld := l }).1

/-- Lift the request (R295). -/
def thLift (t : SliceTh) : SliceTh :=
  let t := { t with thstat := { t.thstat with derate := false } }
  if t.thstat.caps.getLsbD 5 then (thPush { msg := .derate 0xFFFF, cls := .derate } t).1
  else
    let l := if t.thdim.cmdV then t.thdim.cmd.toNat else t.dimBefore
    (thPush { msg := .dim l 0, cls := .derate } t).1

/-- The slice's effective grant is now `pg` (0.1 W), `pd` (10 mW) is delivered and the contract's power is `pc` (10 mW):
request, change or lift a derate (R295). -/
def thGrantChange (pg pd pc : Nat) (t : SliceTh) : SliceTh :=
  if t.thstat.state ≠ 4 then t
  else if t.thstat.derate then
    if pc ≤ 10 * pg then thLift t else if pg = t.pg then t else thLimit pg pd t
  else if 10 * pg < pd then thLimit pg pd t else t

/-! ## Frames (R287, Tables 13.4 and 13.5) -/

/-- The level a DIM carries when it is sent: during the fallback no more than L_d (R295). -/
def thDimLevel (t : SliceTh) (level : Nat) : Nat :=
  if t.thstat.derate && !t.thstat.caps.getLsbD 5 then min level t.ld else level

/-- The FADE a DIM carries: 0 without the FADE capability. -/
def thFade (t : SliceTh) (fade : Byte) : Byte := if t.thstat.caps.getLsbD 6 then fade else 0

/-- Code and payload of a command (Table 13.5). -/
def thPayload (t : SliceTh) : ThMsg → Byte × List Byte
  | .dim level fade => (0x02, le16 (BitVec.ofNat 16 (thDimLevel t level)) ++ [thFade t fade])
  | .scene num e => (0x03, [num, if e then 1 else 0])
  | .ident sec => (0x04, [sec])
  | .etest k => (0x05, [k.setWidth 8])
  | .derate pmax => (0x06, le16 pmax)
  | .feGrant g comp => (0x07, (if g then 1 else 0) :: le16 comp)

/-- A hub frame (Table 13.4). -/
def thFrame (code : Byte) (seq : BitVec 4) (payload : List Byte) : List Byte :=
  let body := [code, seq.setWidth 8, BitVec.ofNat 8 payload.length] ++ payload
  0x96 :: body ++ crc16Bytes body

/-! ## Exchanges (R288, R289) -/

/-- The place of a class in the order of R288. -/
def ThClass.rank : ThClass → Nat
  | .fe => 0 | .sched => 1 | .derate => 2 | .scene => 3

/-- The command to send next: not yet sent in this cycle, the first of the lowest class. -/
def thNext (q : List ThCmd) : Option ThCmd :=
  q.foldl (fun best c =>
    if c.sentNow then best else
    match best with
    | none => some c
    | some b => if c.cls.rank < b.cls.rank then some c else best) none

/-- Replace the first element equal to `c`. -/
def replaceFirst {α : Type} [DecidableEq α] (c d : α) : List α → List α
  | [] => []
  | x :: xs => if x = c then d :: xs else x :: replaceFirst c d xs

/-- The SEQ after `q`: 1 to 15, then 1 again (R289). -/
def thSeqAfter (q : BitVec 4) : BitVec 4 := if q = 15 then 1 else q + 1

/-- Send a queued command: it takes its SEQ when new, and a repeat is counted (R289). -/
def thSendCmd (c : ThCmd) (t : SliceTh) : SliceTh :=
  let isNew := c.seq.isNone
  let q := c.seq.getD t.nextSeq
  let c' := { c with seq := some q, tries := c.tries + 1, sentNow := true }
  let pl := thPayload t c.msg
  let t := { t with
    queue := replaceFirst c c' t.queue, nextSeq := if isNew then thSeqAfter t.nextSeq else t.nextSeq, out := some q
    sentCount := t.sentCount + 1, frame := thFrame pl.1 q pl.2
    thcnt := if isNew then t.thcnt else { t.thcnt with retx := satInc t.thcnt.retx } }
  match c.msg with
  | .dim l _ => { t with thdim := { t.thdim with sent := BitVec.ofNat 14 (thDimLevel t l) } }
  | .feGrant g _ => if g then { t with feAsked := true }
                    else { t with feAsked := false, thstat := { t.thstat with fegnt := false } }
  | _ => t

/-- Begin the next exchange of the cycle, if one may begin: at most four commands, none after phase 0xE000. -/
def thGoOn (phase : BitVec 16) (t : SliceTh) : SliceTh :=
  let t := { t with out := none }
  if 4 ≤ t.sentCount || 0xE000 < phase.toNat then t else
  match thNext t.queue with
  | some c => thSendCmd c t
  | none => t

/-- The strobe of a cycle on one link: POLL goes out and every command may be sent again (R288). -/
def thStrobe (cn : Word) (t : SliceTh) : SliceTh :=
  if (t.thstat.state = 3 && t.settled) || t.thstat.state = 4 || t.thstat.state = 5 then
    { t with out := some 0, sentCount := 0, missPolls := t.missPolls + 1
             queue := t.queue.map (fun c => { c with sentNow := false })
             frame := thFrame 0x01 0 [cn.setWidth 8] }
  else t

/-- The commands of `q` whose SEQ is `n`, and the rest. -/
def thTake (n : BitVec 4) (q : List ThCmd) : List ThCmd × List ThCmd := q.partition (fun c => c.seq == some n)

/-- The frame that was out has had no good REPORT: a command sent three times is dropped and counted (R289). -/
def thFailed (t : SliceTh) : SliceTh × List ThCmd :=
  match t.out with
  | none => (t, [])
  | some q =>
    if q = 0 then (t, []) else
    let lost := t.queue.filter (fun c => c.seq == some q && 3 ≤ c.tries)
    if lost.isEmpty then (t, [])
    else ({ t with queue := t.queue.filter (fun c => !(c.seq == some q && 3 ≤ c.tries))
                   thcnt := { t.thcnt with drop := satInc t.thcnt.drop } }, lost)

/-! ## Leaving the mode (R297, R298) -/

/-- The end of the mode: the queue is dropped, the far-end grant ends, and `STATE` returns to 0 or stays 6. -/
def thLeave (t : SliceTh) : SliceTh :=
  { t with
    queue := [], out := none, settled := false, missPolls := 0, feAsked := false, held := none, enterTries := 0, step := .idle
    thstat := { t.thstat with state := if t.thstat.state = 6 then 6 else 0, fegnt := false, derate := false } }

/-- A detach or ErrorRecovery: the mode ends and R119's registers are cleared. -/
def thClear (t : SliceTh) : SliceTh :=
  { thcfg := t.thcfg, thctl := t.thctl, thcnt := t.thcnt }

/-- A Hard Reset: the mode ends at once, a give-up ends, and discovery is allowed again from the next commit. -/
def thHardReset (t : SliceTh) : SliceTh :=
  { thLeave t with noMore := false, reenter := false
                   thstat := { (thLeave t).thstat with state := 0, reent := 0 } }

end Sys2Proof.Machine
end

