-- ==== Sys2Proof/Machine/FarEnd.lean ====
section
/-!
DEFINITION. Far-end regulation: when it is active, its samples, the loop resistance and the compensation, and its end
(R180 to R186, R296).
-/

namespace Sys2Proof.Machine

/-- The conditions of R180 but the grant. -/
def feWouldAllow (x : Slice) : Bool :=
  x.ps.pscfg.feEn && (x.th.thstat.state = 3 || x.th.thstat.state = 4 || x.th.thstat.state = 5)
    && (x.off.contract.kind = 1 || x.off.contract.kind = 3 || x.off.contract.kind = 4)

/-- Far-end regulation is active (R180). -/
def feAllowed (x : Slice) : Bool := feWouldAllow x && x.th.thstat.fegnt

/-- The four terms of R183 in µV, from V_max in mV, for a sample current in mA. -/
def feTerms (x : Slice) (vmax : Nat) (i : Int) : List Int :=
  [x.ps.feres.rloop.toNat * i, 50 * x.vc, (50000 - x.vc) * 1000, ((vmax : Int) + 2000 - x.vc) * 1000]

/-- The smallest of the terms and the number of the first that is smallest (R183). -/
def feBinding (ts : List Int) : Int × Nat :=
  ts.zipIdx.foldl (fun best t => if t.1 < best.1 then t else best) (ts.headD 0, 0)

/-- C of R183 in 10 mV units, with `CAP`. -/
def feCompute (x : Slice) (vmax : Nat) (i : Int) : Nat × Nat :=
  let b := feBinding (feTerms x vmax i)
  ((if b.1 < 0 then 0 else roundDiv b.1.toNat 10000), b.2)

/-- Apply a new C when R184 calls for it: V_set moves, and FEGRANT goes out with the new C (R296). -/
def feApply (c cap : Nat) (x : Slice) : Slice :=
  let old := x.ps.festat.comp.toNat
  if 2 ≤ c - old || 2 ≤ old - c || cap ≠ x.ps.festat.cap.toNat then
    { x with
      ps := { x.ps with
        vset := x.vc + 10 * c, festat := { x.ps.festat with comp := BitVec.ofNat 12 c, cap := BitVec.ofNat 2 cap, state := 2 } }
      th := (thPush { msg := .feGrant true (BitVec.ofNat 16 c), cls := .fe } x.th).1 }
  else { x with ps := { x.ps with festat := { x.ps.festat with state := 2 } } }

/-- The mean of the accepted samples, truncated (R182). -/
def feMean (l : List Nat) : Nat := l.sum / l.length

/-- A sample is accepted (R182, R183). -/
def feAccept (r : Nat) (vmax : Nat) (i : Int) (x : Slice) : Slice :=
  let l := (r :: x.ps.feSamples).take 64
  let x := { x with ps := { x.ps with
    feSamples := l, festat := { x.ps.festat with nvalid := BitVec.ofNat 7 l.length, state := 1 } } }
  if l.length < 64 then x else
  let x := { x with ps := { x.ps with feres := { x.ps.feres with rloop := BitVec.ofNat 16 (feMean l) } } }
  let c := feCompute x vmax i
  feApply c.1 c.2 x

/-- A sample of R181 is rejected. -/
def feReject (x : Slice) : Slice :=
  { x with ps := { x.ps with
    feres := { x.ps.feres with rej := satInc x.ps.feres.rej }
    festat := { x.ps.festat with state := if x.ps.festat.state = 2 then 2 else 1 } } }

/-- The sample of a report, or its rejection (R181). -/
def feSample (vfar : BitVec 16) (fault : Byte) (hold : Bool) (vmax : Nat) (x : Slice) : Slice :=
  let i := x.snap.i.iout.toInt
  let r := (10 * ((x.snap.v.vbus.toNat : Int) - vfar.toNat)) * 1000
  if i < 100 || 10 * (i - x.ps.fePrevI).natAbs > x.ps.fePrevI.natAbs || x.ps.feBad || hold || fault ≠ 0 then feReject x
  else
    let q := r.tdiv i
    if q < 0 || 2000 < q then feReject x else feAccept q.toNat vmax i x

/-- A report that answers a POLL: `SLC_FEVOLT`, and the sample when far-end regulation is active and the snapshot is that
of the report's strobe (R180, R181, R292). -/
def feReport (p : Port) (cnl : Byte) (vin : BitVec 16) (fault : Byte) (s : State) : State :=
  let s := onPs p (fun x => { x with feQuiet := 0 }) s
  let x := s.slice p
  if x.snap.cn.setWidth 8 ≠ cnl then s else
  let s := onPs p (fun d => { d with fevolt := { vfar := vin, vnear := x.snap.v.vbus } }) s
  if !feAllowed x then s else
  onSlice p (feSample vin fault s.sup.hold (100 * s.sup.maxpdo.toNat)) s

/-- Far-end regulation ends: `STATE` 3, C = 0 and V_ref on its way to V_c (R186). -/
def Slice.feEnd (x : Slice) : Slice :=
  if x.ps.festat.state = 0 then x else
  { x with ps := { x.ps with
    vset := if x.ps.festat.comp = 0 then x.ps.vset else x.vc, festat := { x.ps.festat with state := 3, comp := 0 } } }

/-- R_loop and its samples are discarded (R186). -/
def SlicePs.feForget (x : SlicePs) : SlicePs :=
  { x with feSamples := [], festat := { x.festat with nvalid := 0 }, feres := { x.feres with rloop := 0 } }

/-- Far-end regulation of a port ends (R186). -/
def feEnd (p : Port) (s : State) : State := onSlice p Slice.feEnd s

/-- Far-end regulation ends with its estimate discarded (R186). -/
def feDiscard (p : Port) (s : State) : State := s |> feEnd p |> onPs p SlicePs.feForget

/-- Far-end regulation is off at once, its estimate discarded: detach, Hard Reset, ErrorRecovery (R186). -/
def SlicePs.feClear (x : SlicePs) : SlicePs :=
  { x.feForget with festat := {}, feFrozen := false, feCx := 0, feQuiet := 0 }

/-- R180 has failed for a reason other than the grant: FEGRANT with GRANT 0 goes out, and the regulation ends (R296). -/
def feWithdraw (p : Port) (s : State) : State :=
  s |> onSlice p (fun x => if x.th.feAsked then { x with th := (thPush { msg := .feGrant false 0, cls := .fe } x.th).1 } else x)
    |> feEnd p

/-- A cycle has begun without a report yet (R186). -/
def feCycle (p : Port) (s : State) : State := onPs p (fun x => { x with feQuiet := x.feQuiet + 1 }) s

/-- A phase offset that waits loads at a matching strobe, or at once when a renumbering forces it (R173, R258). -/
def phaseLoad (p : Port) (force : Bool) (s : State) : State :=
  onPs p (fun x =>
    if x.pwmph.pend && (force || (s.cyc.cn.setWidth 8 - x.pwmph.loadCn).toNat < 128) then
      let o := x.pwmph.next.toNat % x.period
      { x with pwmph := { x.pwmph with pend := false }, pwmofs := { offset := BitVec.ofNat 15 o, moving := x.phase ≠ o } }
    else x) s

end Sys2Proof.Machine
end

