-- ==== Sys2Proof/Machine/EngineOps.lean ====
section
/-!
DEFINITION. The protocol layer of a slice: activity of contexts, the transmit queue and collision avoidance, context
resets, protocol errors, and the exits to Hard Reset and ErrorRecovery (R115 to R131, R198, R448).
-/

namespace Sys2Proof.Machine

/-! ## Counters of Table 6.6 -/

/-- nHardResetCount. -/
def nHardResetCount : Nat := 2
/-- nCapsCount. -/
def nCapsCount : Nat := 50
/-- nDiscoverIdentityCount. -/
def nDiscoverIdentityCount : Nat := 20
/-- nBusyCount. -/
def nBusyCount : Nat := 5

/-! ## Contexts -/

/-- The value of one context. -/
def PerCtx.get {α : Type} (x : PerCtx α) : Ctx → α
  | .sop => x.sop | .sop1 => x.sop1 | .sop2 => x.sop2

/-- Change the value of one context. -/
def PerCtx.upd {α : Type} (x : PerCtx α) (c : Ctx) (f : α → α) : PerCtx α :=
  match c with
  | .sop => { x with sop := f x.sop } | .sop1 => { x with sop1 := f x.sop1 } | .sop2 => { x with sop2 := f x.sop2 }

/-- The number of a context in mailbox registers. -/
def ctxCode : Ctx → BitVec 2
  | .sop => 0 | .sop1 => 1 | .sop2 => 2

/-- Pn.SOP is active (Table 6.2). -/
def sopActive (x : Slice) : Bool :=
  !x.pd.pdstat.pdSilent
    && ((x.att.attstat.state = 3 && x.pins.isog && !x.att.detaching) || x.att.attstat.state = 6 || x.sw.swstat.swap ≠ 0)

/-- Pn.SOP1 is active (Table 6.2): the slice sources VCONN, its switch being closed. -/
def sop1Active (x : Slice) : Bool :=
  x.pd.pdstat.vcsrc && x.att.attstat.vconnOn && (sopActive x || (x.att.attstat.state = 3 && x.pins.isog))

/-- A context is active (R118). -/
def ctxActive (x : Slice) : Ctx → Bool
  | .sop => sopActive x
  | .sop1 => sop1Active x
  | .sop2 => sop1Active x && x.pd.cblStat.sop2

/-- A context works at Revision 2.0 (R123). -/
def rev2 (x : Slice) (c : Ctx) : Bool :=
  x.pd.pdcfg.maxrev = 1
    || (match c with
        | .sop => x.pd.pdstat.revSop | .sop1 => x.pd.pdstat.revSop1 | .sop2 => x.pd.pdstat.revSop2) = 1

/-- Messages that a context at Revision 2.0 neither sends nor accepts (R124). -/
def rev3Only : MsgKind → Bool
  | .alert | .getStatus | .getRevision | .revision | .frSwap | .eprRequest | .eprMode | .eprSourceCap | .eprSinkCap
  | .eprGetSourceCap | .eprGetSinkCap | .eprKeepAlive | .eprKeepAliveAck | .sourceCapExt | .status | .ppsStatus
  | .sinkCapExt | .getBatteryCap | .getBatteryStatus | .getManufacturerInfo | .securityRequest | .firmwareUpdateRequest
  | .vendorDefinedExt => true
  | _ => false

/-- A message that a reply answers. -/
def expectsReply : MsgKind → Bool
  | .sourceCap | .eprSourceCap | .request | .eprRequest | .getSourceCap | .getSourceCapExt | .getSinkCap | .getSinkCapExt
  | .getStatus | .getPpsStatus | .getSourceInfo | .getRevision | .softReset | .prSwap | .drSwap | .vconnSwap | .frSwap
  | .eprMode | .eprKeepAlive | .eprGetSourceCap | .eprGetSinkCap | .getBatteryCap | .getBatteryStatus
  | .getManufacturerInfo | .getCountryCodes | .getCountryInfo | .securityRequest | .vdm _ _ .req => true
  | _ => false

/-- The reply to these messages leaves the AMS open: the exchange goes on. -/
def amsGoesOn : MsgKind → Bool
  | .sourceCap | .eprSourceCap | .request | .eprRequest | .prSwap | .vconnSwap | .frSwap | .eprMode => true
  | _ => false

/-! ## Collision avoidance (R125) -/

/-- R125 is in use on Pn.SOP. -/
def caInUse (x : Slice) : Bool := x.pd.pdstat.pdConn && !rev2 x .sop

/-- A frame that starts an AMS of the slice's own. -/
def TxMsg.starts (m : TxMsg) : Bool := (m.prio = .ams || m.prio = .mailbox) && !m.cont

/-- An AMS of the slice's own is pending or in progress. -/
def ownAms (x : Slice) : Bool :=
  x.pd.ownOpen || x.pd.waitReply.isSome || x.pd.ready.any TxMsg.starts || !x.pd.restart.isEmpty
    || (match x.pd.inflight with | some m => m.prio = .ams || m.prio = .mailbox | none => false)

/-- R125 lets the slice start an AMS now. -/
def mayStart (x : Slice) : Bool :=
  if caInUse x then
    (if x.sw.swstat.prole then x.att.attstat.rpSeen = 3 else x.pd.pdstat.rpCa = 2 && x.pd.ngHeld)
  else true

/-- The Rp level that `SLC_ATTCFG.RP_LVL` asks for, coded as `RP_NOW`. -/
def rpConfigured (c : SlcAttcfg) : BitVec 2 := if c.rpLvl = 0 then 1 else if c.rpLvl = 1 then 2 else 3

/-- The Rp level, the collision-avoidance state and `AMS` follow what is pending (R125). -/
def Slice.refresh (x : Slice) : Slice :=
  let ca : BitVec 2 := if caInUse x && !x.sw.swstat.prole then (if ownAms x then 2 else 1) else 0
  let swapNg := x.sw.swstat.swap = 1 || x.sw.swstat.swap = 2
  let rp : BitVec 2 :=
    if x.pins.term ≠ .rp then 0 else if ca = 1 then 3 else if ca = 2 || swapNg then 2 else rpConfigured x.att.attcfg
  let ams := ownAms x || x.pd.partnerAms || x.pd.inflight.isSome || x.off.changing || x.sw.swstat.swap ≠ 0
  { x with
    pd := { x.pd with pdstat := { x.pd.pdstat with rpCa := ca, ams := ams }, ngHeld := x.pd.ngHeld && ca = 2 }
    att := { x.att with attstat := { x.att.attstat with rpNow := rp } } }

/-! ## The transmit queue (R117, R120) -/

/-- The place of a frame in Table 6.1: priority first, then SOP, SOP′ and SOP″. -/
def txRank (m : TxMsg) : Nat :=
  (match m.prio with | .orderedSet => 0 | .reply => 3 | .ams => 6 | .mailbox => 9)
    + (match m.ctx with | .sop => 0 | .sop1 => 1 | .sop2 => 2)

/-- The frame may go out now (R117, R125, R137). -/
def sendable (x : Slice) (m : TxMsg) : Bool :=
  !m.starts
    || (mayStart x && !x.pd.ownOpen && x.pd.waitReply.isNone && !x.pd.partnerAms && x.mb.hostAms.isNone && !x.off.changing
        && x.sw.swstat.swap = 0)

/-- The frame to send next, and the others. -/
def pickTx (x : Slice) : Option TxMsg :=
  x.pd.ready.foldl (fun best m =>
    if !sendable x m then best else
    match best with
    | none => some m
    | some b => if txRank m < txRank b then some m else best) none

/-- Remove the first element equal to `m`. -/
def removeFirst {α : Type} [DecidableEq α] (m : α) : List α → List α
  | [] => []
  | x :: xs => if x = m then xs else x :: removeFirst m xs

/-- Put the next frame on the line, if one may go out (R117); for a mailbox message this is its commit point (R138). -/
def Slice.transmit (x : Slice) : Slice :=
  if x.pd.inflight.isSome then x else
  match pickTx x with
  | none => x
  | some m =>
    let x := { x with pd := { x.pd with inflight := some m, retries := 0, ready := removeFirst m x.pd.ready } }
    if m.prio = .mailbox then
      { x with mb := { x.mb with mbtxStat := { x.mb.mbtxStat with state := 2, msgid := x.pd.txId.get m.ctx } } }
    else x

/-- The line and the Rp level follow what is ready. -/
def Slice.pump (x : Slice) : Slice := x.refresh.transmit.refresh

/-- Let a port send. -/
def pump (p : Port) (s : State) : State := onSlice p Slice.pump s

/-- The slice has no context or revision to carry the message, or is PD silent (R122): it is not sent. -/
def carries (x : Slice) (m : TxMsg) : Bool := ctxActive x m.ctx && !(rev2 x m.ctx && rev3Only m.kind) && !x.pd.pdstat.pdSilent

/-- Make a frame ready. -/
def queueMsg (p : Port) (m : TxMsg) (s : State) : State :=
  onSlice p (fun x => if carries x m then { x with pd := { x.pd with ready := x.pd.ready ++ [m] } }.pump else x) s

/-- Start an AMS with a message. -/
def startAms (p : Port) (c : Ctx) (kind : MsgKind) (words : List Word) : State → State :=
  queueMsg p { ctx := c, kind := kind, prio := .ams, words := words }

/-- Answer a message of the partner. -/
def reply (p : Port) (c : Ctx) (kind : MsgKind) (words : List Word) : State → State :=
  queueMsg p { ctx := c, kind := kind, prio := .reply, words := words }

/-- A reply whose GoodCRC brings something about. -/
def replyWhy (p : Port) (kind : MsgKind) (why : TxWhy) : State → State :=
  queueMsg p { ctx := .sop, kind := kind, prio := .reply, why := why }

/-- The AMS the slice started has ended. -/
def Slice.endOwn (x : Slice) : Slice := { x with pd := { x.pd with ownOpen := false, waitReply := none } }.pump

/-- The partner's AMS has ended: what R117 discarded starts again. -/
def Slice.endPartner (x : Slice) : Slice :=
  { x with pd := { x.pd with partnerAms := false, ready := x.pd.ready ++ x.pd.restart, restart := [] } }.pump

/-- Every AMS has ended, as after a contract change. -/
def endAms (p : Port) (s : State) : State := onSlice p (fun x => x.endOwn.endPartner) s

/-! ## Context resets (R119, R138) -/

/-- A send-mailbox message queued on a context is discarded with a cause; one on the line ends in state 4 (R138). -/
def SliceMb.discard (cause : BitVec 4) (x : SliceMb) : SliceMb :=
  if x.mbtxStat.state = 1 then { x with mbtxStat := { x.mbtxStat with state := 6, cause := cause } }
  else if x.mbtxStat.state = 2 then { x with mbtxStat := { x.mbtxStat with state := 4 } }
  else x

/-- Resetting a context (R119): MessageIDs, buffers, AMS and a queued mailbox message. -/
def Slice.resetCtx (c : Ctx) (cause : BitVec 4) (x : Slice) : Slice :=
  let keep (m : TxMsg) : Bool := m.ctx ≠ c
  let on (m : Option TxMsg) : Option TxMsg := match m with | some y => if keep y then some y else none | none => none
  let d := x.pd
  { x with
    pd := { d with
      txId := d.txId.upd c (fun _ => 0), rxId := d.rxId.upd c (fun _ => none), rxBuf := d.rxBuf.upd c (fun _ => none)
      ready := d.ready.filter keep, restart := d.restart.filter keep, inflight := on d.inflight, waitReply := on d.waitReply
      chunkRx := d.chunkRx && c ≠ .sop, chunkTx := on d.chunkTx
      ownOpen := d.ownOpen && c ≠ .sop, partnerAms := d.partnerAms && c ≠ .sop }
    mb := { (if x.mb.ctx = ctxCode c then x.mb.discard cause else x.mb) with
      hostAms := if x.mb.hostAms = some c then none else x.mb.hostAms
      hostOwes := match x.mb.hostOwes with | some f => if f.ctx = c then none else some f | none => none } }

/-- Without an explicit contract: `SLC_CONTRACT` and what goes with it (Table 6.3). -/
def Slice.clearContract (x : Slice) : Slice :=
  { x with
    off := { x.off with
      contract := {}, conMv := 0, conMa := 0, conEprCap := false, limit := .none, complRun := false, complCon := false, eprLeaving := false
      advertDue := false, advertLater := false, advertHold := false, abortPend := false, alertBits := 0, alertLater := 0, alertHold := false }
    pd := { x.pd with pdstat := { x.pd.pdstat with pdConn := false }, conSince := false, capsTries := 0, capsSent := false }
    ps := { x.ps with psstat := { x.ps.psstat with limwait := false, clmode := false }, vset := 5000 }
    sw := { x.sw with snkMv := 0, snkMa := 0, snkReq := none, snkEpr := false, snkEntering := false, eprFailed := false, snkWaitRdy := false
                      swstat := { x.sw.swstat with aid := false, frsOffer := false, frsArmed := false, partFrs := 0 } } }

/-- A contract change in progress ends with an abort cause (R150, R151). -/
def Slice.endChange (cause : BitVec 3) (x : Slice) : Slice :=
  if x.off.xstep = .idle then x else
  { x with
    off := { x.off with
      xstep := .idle, xheld := false, change := none, abortPend := false
      xstat := { x.off.xstat with state := 0, result := 2, cause := cause } }
    ps := { x.ps with feFrozen := false, feCx := 0 } }

/-- A swap in progress ends with a result (`SLC_SWSTAT.LAST`). -/
def Slice.endSwap (result : BitVec 3) (x : Slice) : Slice :=
  { x with sw := { x.sw with
    step := .idle, outstanding := none, waits := 0, due := false, mine := false, frsClosed := false, frsOldRdy := false
    swstat := if x.sw.swstat.swap = 0 then x.sw.swstat
              else { x.sw.swstat with last := result, lastKind := x.sw.swstat.swap, swap := 0, frsDet := false } } }

/-! ## VCONN (R104, R105) -/

/-- The VCONN switch opens, and the former VCONN ball is pulled to GND. -/
def Slice.vconnOpen (x : Slice) : Slice :=
  if x.att.attstat.vconnOn then
    { x with att := { x.att with attstat := { x.att.attstat with vconnOn := false } }, pins := { x.pins with vconnPull := true } }
  else x

/-- The VCONN switch closes, within the class and unless a fault bars it; a low VCONN_IN keeps it open (R105). -/
def Slice.vconnClose (ok : Bool) (x : Slice) : Slice :=
  if (x.att.attcfg.vcls = 1 || x.att.attcfg.vcls = 2) && !x.att.attstat.vconnFlt then
    { x with
      att := { x.att with attstat := { x.att.attstat with vconnOn := ok }, vconnLow := !ok }
      pd := { x.pd with pdstat := { x.pd.pdstat with vcsrc := true } } }
  else x

/-! ## Detach and ErrorRecovery (R106, R115) -/

/-- What a detach and ErrorRecovery clear (Table 6.3, R103, R138, R186, R223, R225, R298). -/
def Slice.clearAttach (x : Slice) : Slice :=
  let x := (((x.resetCtx .sop 9).resetCtx .sop1 9).resetCtx .sop2 9).endChange 6 |>.clearContract |>.endSwap 7 |>.vconnOpen
  { x with
    att := { x.att with
      attstat := { x.att.attstat with orient := false, partner := 0, rpSeen := 0, nopwr := false, foreign := false, vconnFlt := false, dbgLink := false }
      vconnLow := false, rpHeld := false, tryDone := false }
    pd := { x.pd with
      pdstat := {}, cblVdo := 0, cblVdo2 := 0, cblId := {}, cblStat := {}, hrSent := 0, hadContract := false, discovering := false, discEnded := false
      discSop2 := false, hrPhase := .idle, hrWait := .none, bistCarrier := false, busyCount := 0, unchkOffered := false
      goodCrc := none, retries := 0 }
    off := { x.off with lastOffer := [], lastOfferEpr := false, ocpFlag := false }
    mb := { x.mb with rxq := [] }
    ps := x.ps.feClear
    th := thClear x.th
    gr := { x.gr with ptnid := {} }
    sw := { x.sw with
      wantPr := false, wantDr := false, wantVc := false, autoVc := false, retry := none, startDue := false, frsRecent := false, eprPossible := false, offered := none
      swstat := { x.sw.swstat with prole := false, drole := false, attProle := false, attVcsrc := false, snkp := 0 } }
    pr := { x.pr with
      prstat := { x.pr.prstat with pstate := if x.pr.prstat.pstate = 4 then 4 else 0, tries := 0 }
      tenSec := false, restore := false, recovered := false, attemptDue := false }
    pins := { x.pins with sbu := .highZ, snkg := false } }

/-- At detach and ErrorRecovery the Policy Core forgets a port's profile matches and its wait time, and writes the reset value
back to `SLC_PROFLIM` (R238, R244). -/
def policyForget (p : Port) (s : State) : State :=
  if !policyRuns s then s else
  s |> onPortBud p (fun b => { b with partner := none, cable := none, ptnSeen := 0, cblSeen := 0, waitMs := none })
    |> onOff p (fun o => { o with proflim := {} })

/-- ErrorRecovery (R115); a write to a port in state 0 or 15 never comes here. -/
def errorRecovery (p : Port) (s : State) : State :=
  let s := policyForget p (portEvent p 7 s)
  onSlice p (fun x =>
    let x := x.clearAttach.powerOff
    { x with
      att := { x.att with attstat := { x.att.attstat with state := 14, rpNow := 0 }, detaching := false }
      pins := { x.pins with term := .openCc } }.sink) s

/-- A detach as Source is declared (Table 5.8 steps 1 and 2, R106, R225). -/
def detach (p : Port) (s : State) : State :=
  let x := s.slice p
  let ramp := x.ps.running && x.pr.prstat.pstate ≠ 2 && x.pins.isog
  let s := onSlice p (fun x =>
    let x := if ramp then x.rampDown else x.stopConv
    let held := x.pr.vhiHeld
    let c := x.clearAttach
    let c := { c with att := { c.att with detaching := true }, pr := { c.pr with vhiHeld := held } }
    if ramp && !s.sup.hold then c else c.openIsog) s
  policyForget p (portEvent p 0 s)

/-! ## Resets and errors (R129 to R131, R198) -/

/-- A power transition (R122): from the Accept of a Request to PS_RDY, and each step of a swap that moves VBUS. -/
def powerTransition (x : Slice) : Bool :=
  x.off.changing || x.sw.snkWaitRdy
    || (match x.sw.step with
        | .idle | .asked | .vcTake | .vcGive => false
        | _ => true)

/-- PD silence (R130). -/
def pdSilence (p : Port) (s : State) : State :=
  let s := onPd p (fun d => { d with
    pdstat := { d.pdstat with pdSilent := true }, ready := [], restart := [], inflight := none, waitReply := none, ownOpen := false
    discovering := false }) s
  portEvent p 7 s

/-- The roles after a Hard Reset (Table 9.6). -/
def hrRoles (x : Slice) : Slice :=
  let w := x.sw.swstat
  let prole := if w.swap = 1 || w.swap = 2 then w.attProle else w.prole
  let drole := if w.swap = 0 then w.prole else w.attProle
  let vcsrc := if w.swap = 0 then !w.prole else w.attVcsrc
  let x := { x with
    sw := { x.sw with swstat := { w with prole := prole, drole := drole } }
    pd := { x.pd with pdstat := { x.pd.pdstat with vcsrc := vcsrc } }
    att := { x.att with attstat := { x.att.attstat with state := if prole then 6 else 3 } }
    pins := { x.pins with term := if prole then .rd else .rp } }
  if vcsrc then x else x.vconnOpen

/-- What a Hard Reset resets at once: the three contexts and what Table 6.3 names with them, frames not sent, any contract
change, Thatch and far-end regulation (R119, R131, R138, R186, R298). -/
def Slice.hrContexts (x : Slice) : Slice :=
  let x := (((x.resetCtx .sop 8).resetCtx .sop1 8).resetCtx .sop2 8).endChange 5 |>.clearContract
  { x with
    pd := { x.pd with
      pdstat := { x.pd.pdstat with revSop := 0, unchkOn := false, pdSilent := false }
      cblStat := { x.pd.cblStat with tries := 0 }, discovering := false, discEnded := false, bistCarrier := false, unchkOffered := false }
    mb := { x.mb with hrst := x.mb.hrst || !x.mb.rxq.isEmpty }
    ps := x.ps.feClear
    th := thHardReset x.th
    pins := { x.pins with sbu := if x.pins.sbu = .thatch then .highZ else x.pins.sbu } }

/-- The power sequence of a Hard Reset starts: roles, SNKGn open, tPSHardReset runs; with VBUS off after a trip only
tSrcRecover remains (R131, R198, R448). -/
def hrPower (p : Port) (s : State) : State :=
  let swapping := (s.slice p).sw.swstat.swap ≠ 0
  let s := onSlice p (fun x =>
    let x := hrRoles x |>.endSwap 5
    let x := if x.pins.isog then x else if x.pr.prstat.pstate = 2 then x else x.stopConv
    let off := x.pr.prstat.pstate = 1 || x.pr.prstat.pstate = 2
    { x with
      pd := { x.pd with hrPhase := if off then .recover else .waitPs, hrWait := .none, pdstat := { x.pd.pdstat with hrPend := false } }
      sw := { x.sw with eprPossible := false, offered := none, retry := none, startDue := false
                        swstat := { x.sw.swstat with snkp := 0, frsArmed := false } }
      pr := if off then { x.pr with restore := true, recovered := false } else x.pr
      pins := { x.pins with snkg := false } }.pump) s
  if swapping then portEvent p 2 s else s

/-- The slice sends the Hard Reset ordered set (R131). -/
def emitHardReset (p : Port) (s : State) : State :=
  let s := onPd p (fun d => { d with pdcnt := { d.pdcnt with hrTx := satInc d.pdcnt.hrTx }, hrSent := d.hrSent + 1 }) s
  s |> onSlice p Slice.hrContexts |> hrPower p

/-- The slice sends Hard Reset, at once or when the hold line falls; beyond nHardResetCount it ends in ErrorRecovery or PD
silence (R130, R131). -/
def sendHardReset (p : Port) (s : State) : State :=
  let x := s.slice p
  if nHardResetCount ≤ x.pd.hrSent then
    if x.pd.hadContract then errorRecovery p s else pdSilence p s
  else if s.sup.hold then
    onPd p (fun d => { d with
      hrWait := if d.hrWait = .received then .received else .toSend, pdstat := { d.pdstat with hrPend := true } }) s
  else emitHardReset p s

/-- Hard Reset for a protocol error, or Soft_Reset on SOP (R129); a Soft_Reset is not held by R125. -/
def sendSoftReset (p : Port) (c : Ctx) (s : State) : State :=
  s |> onSlice p (Slice.resetCtx c 12)
    |> queueMsg p { ctx := c, kind := .softReset, prio := .ams, cont := true }

/-- Cable Reset: SOP1 and SOP2 are reset; after discovery has ended it starts again (R119, R127). -/
def sendCableReset (p : Port) (s : State) : State :=
  onSlice p (fun x =>
    let x := (x.resetCtx .sop1 12).resetCtx .sop2 12
    if x.pd.discovering then x
    else { x with pd := { x.pd with discovering := true, discEnded := false, cblStat := { x.pd.cblStat with tries := 0 } } }) s

/-- A protocol error on a context (R129). -/
def protocolError (p : Port) (c : Ctx) (s : State) : State :=
  match c with
  | .sop => if powerTransition (s.slice p) then sendHardReset p s else sendSoftReset p .sop s
  | _ => sendSoftReset p .sop1 s

/-! ## Discovery of the cable marker (R127) -/

/-- Discover Identity goes out on SOP′, counted as one attempt. -/
def discoverSend (p : Port) (s : State) : State :=
  let x := s.slice p
  if x.pd.discovering && sop1Active x && x.pd.cblStat.tries.toNat < nDiscoverIdentityCount then
    s |> onPd p (fun d => { d with cblStat := { d.cblStat with tries := d.cblStat.tries + 1 } })
      |> startAms p .sop1 (.vdm 0xFF00 .discoverIdentity .req) []
  else s

/-- Discovery starts from step 1 of R127. -/
def discoverStart (p : Port) (s : State) : State :=
  s |> onPd p (fun d => { d with discovering := true, discEnded := false, discSop2 := false, cblStat := { d.cblStat with tries := 0 } })
    |> discoverSend p

end Sys2Proof.Machine
end

