-- ==== Sys2Proof/Machine/OfferOps.lean ====
section
/-!
DEFINITION. Offers: their limits and objects, when they are sent, aborts of a contract change and Alert (R139 to R151,
R154, R156, R157).
-/

namespace Sys2Proof.Machine

/-! ## Limits (R139 to R142) -/

/-- The limits of R141: V_lim in mV, I_lim in mA, P_g in 0.1 W, and EPR_cbl. -/
structure OfferLimits where
  vlim : Nat
  ilim : Nat
  pg : Nat
  epr : Bool
deriving DecidableEq, Repr

/-- V_cbl in mV, I_cbl in mA and EPR_cbl (Table 7.2); the lowest where several rows apply. -/
def cableLimits (x : Slice) : Nat × Nat × Bool :=
  let c := x.pd.cblStat
  let known := x.pd.discEnded && (c.kind = 1 || c.kind = 2)
  let active := c.kind = 2
  if !known || (active && (x.att.attcfg.vcls = 1 || x.att.vconnLow)) || x.att.attstat.vconnFlt then (20000, 3000, false)
  else
    let v := if c.vmax = 0 then 20000 else if c.vmax = 1 then 30000 else if c.vmax = 2 then 40000 else 50000
    if c.ilim = 2 then (v, 5000, c.epr) else (v, 3000, false)

/-- The limits as they stand (R141). -/
def offerLimits (x : Slice) (maxpdo : BitVec 9) : OfferLimits :=
  let (v, i, e) := cableLimits x
  { vlim := min (100 * maxpdo.toNat) (min (100 * x.off.proflim.vceil.toNat) v)
    ilim := min (100 * min 50 x.off.offcfg.imax.toNat) (min (100 * x.off.proflim.iceil.toNat) i)
    pg := x.gr.eff, epr := e }

/-- min(I_lim, P_g / V) in mA, rounded down to a multiple of `q`. -/
def OfferLimits.ma (l : OfferLimits) (mv q : Nat) : Nat := min l.ilim (l.pg * 100000 / mv) / q * q

/-- A voltage limit rounded down to 100 mV. -/
def OfferLimits.vhi (l : OfferLimits) (top : Nat) : Nat := min top l.vlim / 100 * 100

/-- A Fixed object above 5 V (Table 7.1). -/
def fixedOffer (l : OfferLimits) (mv : Nat) : Option Offer :=
  let i := l.ma mv 10
  if mv ≤ l.vlim && 500 ≤ i then some { pos := 0, kind := .fixed, vmin := mv, vmax := mv, ma := i } else none

/-- The PPS APDO (R141). -/
def ppsOffer (l : OfferLimits) : Option Offer :=
  let v := l.vhi 21000
  let i := l.ma v 50
  if 5000 ≤ v && 1000 ≤ i then some { pos := 0, kind := .pps, vmin := 3300, vmax := v, ma := i } else none

/-- The SPR AVS APDO (R141). -/
def sprAvsOffer (l : OfferLimits) : Option Offer :=
  let v := l.vhi 20000
  let i := l.ma 15000 10
  if 15000 ≤ v && 1000 ≤ i then
    some { pos := 0, kind := .sprAvs, vmin := 9000, vmax := v, ma := i, ma20 := if v < 20000 then 0 else l.ma v 10 }
  else none

/-- The EPR AVS APDO (R141). -/
def eprAvsOffer (l : OfferLimits) : Option Offer :=
  let v := l.vhi 48000
  let pdp := min (l.pg / 10) (min (v * l.ilim / 1000000) 240)
  if 20000 ≤ v && 15 ≤ pdp then some { pos := 0, kind := .eprAvs, vmin := 15000, vmax := v, ma := l.ilim, pdp := pdp } else none

/-- Present objects take positions from `n` upward. -/
def placeOffers (n : Nat) (os : List (Option Offer)) : List Offer :=
  (os.filterMap id).zipIdx.map (fun o => { o.1 with pos := n + o.2 })

/-- An object that `SLC_OFFCFG` enables and the mask of `SLC_PROFLIM` allows; `b` is its bit in both. -/
def allowed (x : Slice) (b : Nat) (o : Option Offer) : Option Offer :=
  if getBit (x.off.offcfg.toWord) b && x.off.proflim.mask.getLsbD b then o else none

/-- The SPR part; at Revision 2.0 without APDOs (R140, R143). -/
def sprOffer (x : Slice) (maxpdo : BitVec 9) : List Offer :=
  let l := offerLimits x maxpdo
  let apdo (o : Option Offer) : Option Offer := if rev2 x .sop then none else o
  placeOffers 1
    [some { pos := 0, kind := .fixed, vmin := 5000, vmax := 5000, ma := l.ma 5000 10 },
     allowed x 1 (fixedOffer l 9000), allowed x 2 (fixedOffer l 15000), allowed x 3 (fixedOffer l 20000),
     apdo (allowed x 7 (ppsOffer l)), apdo (allowed x 8 (sprAvsOffer l))]

/-- The EPR part (R141, R143). -/
def eprOffer (x : Slice) (maxpdo : BitVec 9) : List Offer :=
  let l := offerLimits x maxpdo
  if l.epr && x.off.offcfg.epr && x.off.proflim.mask.getLsbD 10 && !rev2 x .sop then
    placeOffers 8 [allowed x 4 (fixedOffer l 28000), allowed x 5 (fixedOffer l 36000), allowed x 6 (fixedOffer l 48000),
                   allowed x 9 (eprAvsOffer l)]
  else []

/-- The offer that would be sent now: in EPR mode both parts. -/
def buildOffer (x : Slice) (maxpdo : BitVec 9) : List Offer :=
  sprOffer x maxpdo ++ (if x.off.contract.epr then eprOffer x maxpdo else [])

/-- The flags of the fixed 5 V object (R143): bit 0 Dual-Role Power, 1 Dual-Role Data, 2 Unconstrained Power, 3 Unchunked
Extended Messages Supported, 4 EPR Mode Capable. -/
def offerFlags (x : Slice) (s : State) : Word :=
  putBit (x.att.attcfg.role = 2) 0 ||| putBit (x.att.attcfg.role = 2) 1 ||| putBit (s.sup.active = .main) 2
    ||| putBit x.pd.pdcfg.unchk 3 ||| putBit (!(eprOffer x s.sup.maxpdo).isEmpty && x.pd.pdstat.vcsrc) 4

/-! ## Whether a contract fits an offer (R144, R145) -/

/-- The current an object allows at a voltage. -/
def Offer.maAt (o : Offer) (mv : Nat) : Nat := if o.kind = .sprAvs && 15000 < mv then o.ma20 else o.ma

/-- The object allows a voltage and a current. -/
def Offer.admits (o : Offer) (mv ma : Nat) : Bool :=
  o.vmin ≤ mv && mv ≤ o.vmax && (if o.kind = .eprAvs then mv * ma ≤ o.pdp * 1000000 else ma ≤ o.maAt mv)

/-- The object of a contract, found by kind and, for a Fixed object, by voltage (R144). -/
def findOffer (os : List Offer) (kind : OfferKind) (mv : Nat) : Option Offer :=
  os.find? (fun o => o.kind = kind && (kind ≠ .fixed || o.vmin = mv))

/-- A contract fits an offer (R144). -/
def fitsOffer (os : List Offer) (kind : OfferKind) (mv ma : Nat) : Bool :=
  match findOffer os kind mv with
  | some o => o.admits mv ma
  | none => false

/-- The kind a contract register names. -/
def kindOfCode (k : BitVec 3) : Option OfferKind :=
  if k = 1 then some .fixed else if k = 2 then some .pps else if k = 3 then some .sprAvs else if k = 4 then some .eprAvs else none

/-- The code of a kind. -/
def kindCode : OfferKind → BitVec 3
  | .fixed => 1 | .pps => 2 | .sprAvs => 3 | .eprAvs => 4

/-- The present contract fits an offer; without one, vSafe5V always does. -/
def contractFits (x : Slice) (os : List Offer) : Bool :=
  match kindOfCode x.off.contract.kind with
  | some k => fitsOffer os k x.off.conMv x.off.conMa
  | none => true

/-- The only difference is a rise of less than 0.25 A or 5 W (R144). -/
def minorRise : List Offer → List Offer → Bool
  | [], [] => true
  | a :: as, b :: bs =>
    { a with ma := b.ma, ma20 := b.ma20, pdp := b.pdp } = b && a.ma ≤ b.ma && b.ma < a.ma + 250 && a.ma20 ≤ b.ma20
      && b.ma20 < a.ma20 + 250 && a.pdp ≤ b.pdp && b.pdp < a.pdp + 5 && minorRise as bs
  | _, _ => false

/-! ## Advertisements (R144) -/

/-- A frame that advertises. -/
def TxMsg.isAdvert (m : TxMsg) : Bool := m.why = .advert

/-- An advertisement of the slice that has not gone out. -/
def advertWaiting (x : Slice) : Bool := x.pd.ready.any TxMsg.isAdvert || x.pd.restart.any TxMsg.isAdvert

/-- The advertisement as it would go out now. -/
def advertMsg (x : Slice) (s : State) : TxMsg :=
  { ctx := .sop, kind := if x.off.contract.epr then .eprSourceCap else .sourceCap, prio := .ams, why := .advert
    words := [offerFlags x s], offer := buildOffer x s.sup.maxpdo }

/-- Advertisements that have not gone out carry the limits as they stand now. -/
def renewAdverts (p : Port) (s : State) : State :=
  onSlice p (fun x =>
    let m := advertMsg x s
    let f (y : TxMsg) : TxMsg := if y.isAdvert then { m with prio := y.prio, cont := y.cont } else y
    { x with pd := { x.pd with ready := x.pd.ready.map f, restart := x.pd.restart.map f } }) s

/-- Advertise: as an AMS of the slice's own, once the hold line is low (R58, R144). -/
def advertise (p : Port) (s : State) : State :=
  let x := s.slice p
  if s.sup.hold then onOff p (fun o => { o with advertDue := true }) s
  else if x.sw.swstat.prole || !sopActive x then s
  else
    let s := onOff p (fun o => { o with advertDue := false, advertLater := false }) s
    let s := onPd p (fun d => { d with capsSent := true }) s
    if advertWaiting x then pump p (renewAdverts p s) else queueMsg p (advertMsg (s.slice p) s) s

/-! ## Aborts (R149 to R151) -/

/-- The PS_RDY of a contract change is on the line. -/
def readyOnLine (x : Slice) : Bool :=
  match x.pd.inflight with | some m => m.why = .contractReady | none => false

/-- The Accept of a Request has not gone out. -/
def acceptWaiting (x : Slice) : Bool := x.pd.ready.any (fun m => m.why == TxWhy.acceptRequest)

/-- The output goes back to V_old + C (R151, R185). -/
def Slice.rampBack (cause : BitVec 3) (x : Slice) : Slice :=
  { x with
    off := { x.off with
      xstep := .rampingBack, xheld := false, xstat := { x.off.xstat with state := 7, result := 2, cause := cause } }
    pd := { x.pd with ready := x.pd.ready.filter (fun m => m.why != TxWhy.contractReady) }
    ps := { x.ps with vset := x.vc + x.ps.comp } }

/-- Abort a contract change with a cause of 1 to 4 (R149 to R151). -/
def abortChange (p : Port) (cause : BitVec 3) (s : State) : State :=
  let x := s.slice p
  match x.off.xstep with
  | .idle => s
  | .rampingBack => s
  | .evaluating =>
    if acceptWaiting x then
      s |> onSlice p (fun x =>
            let x := { x with pd := { x.pd with ready := x.pd.ready.filter (fun m => m.why != TxWhy.acceptRequest) } }
            x.endChange cause)
        |> reply p .sop .reject []
    else onSlice p (Slice.rampBack cause) s
  | _ => if readyOnLine x then onOff p (fun o => { o with abortPend := true }) s else onSlice p (Slice.rampBack cause) s

/-! ## Alert (R157) -/

/-- The Alert bits: 0 Source Input Change, 1 OCP, 2 OTP. -/
def alertInput : BitVec 3 := 1
/-- The OCP Alert bit. -/
def alertOcp : BitVec 3 := 2
/-- The OTP Alert bit. -/
def alertOtp : BitVec 3 := 4

/-- An Alert is ready, on the line, or about to start again. -/
def alertWaiting (x : Slice) : Bool :=
  let f (m : TxMsg) : Bool := m.why = .alertMsg
  x.pd.ready.any f || x.pd.restart.any f || (match x.pd.inflight with | some m => f m | none => false)

/-- Send the collected bits, if an Alert may be collected now. -/
def tryAlert (p : Port) (s : State) : State :=
  let x := s.slice p
  if x.off.alertBits = 0 || x.off.alertHold || alertWaiting x then s
  else queueMsg p { ctx := .sop, kind := .alert, prio := .ams, why := .alertMsg } s

/-- A bit for the next Alert: dropped before the first contract; a re-advertisement at Revision 2.0; kept for the next one
while an Alert is on the line or its 500 ms run (R157). -/
def alertBit (p : Port) (b : BitVec 3) (s : State) : State :=
  let x := s.slice p
  if !x.pd.conSince || x.sw.swstat.prole then s
  else if rev2 x .sop then advertise p s
  else if x.off.alertHold || (match x.pd.inflight with | some m => m.why = .alertMsg | none => false) then
    onOff p (fun o => { o with alertLater := o.alertLater ||| b }) s
  else s |> onOff p (fun o => { o with alertBits := o.alertBits ||| b }) |> tryAlert p

/-! ## Changes of a limit (R139, R144, R150, R156) -/

/-- The new contract of a change is outside a limit: the abort cause that R150 gives for it. -/
def changeCause (x : Slice) : Option (BitVec 3) :=
  match x.off.change with
  | none => none
  | some c =>
    let (v, i, e) := cableLimits x
    if x.gr.eff * 100000 < c.mv * c.ma then some 2
    else if v < c.mv || i < c.ma || (8 ≤ c.pos && !e) then some 4
    else none

/-- A limit of R139 has changed: a contract change outside it is aborted; a contract outside the new offer, or EPR mode
without EPR objects, is re-advertised at once, and any other change of the offer after its 2 s. -/
def limitsChanged (p : Port) (s : State) : State :=
  let x := s.slice p
  if x.sw.swstat.prole || !x.pd.capsSent then s else
  let s := renewAdverts p s
  if x.off.xstep ≠ .idle then
    match changeCause x with
    | some c => abortChange p c s
    | none => s
  else
    let new := buildOffer x s.sup.maxpdo
    let leaving := x.off.contract.epr && (eprOffer x s.sup.maxpdo).isEmpty
    let s := if leaving then onOff p (fun o => { o with eprLeaving := true }) s else s
    if leaving && !x.off.eprLeaving && x.off.limit = .shed && (offerLimits x s.sup.maxpdo).vlim < x.off.conMv then
      sendHardReset p s
    else if (leaving && !x.off.eprLeaving) || !contractFits x new then advertise p s
    else if new = x.off.lastOffer || minorRise x.off.lastOffer new then s
    else if x.off.advertHold then onOff p (fun o => { o with advertLater := true }) s
    else advertise p s

/-- An EPR mode entry of the partner is under way: Enter Acknowledged sent, Enter Succeeded not yet acknowledged. -/
def eprEntryBusy (x : Slice) : Bool :=
  let f (m : TxMsg) : Bool := m.why = .eprAck || m.why = .eprSucceeded
  x.pd.ready.any f || (match x.pd.inflight with | some m => f m | none => false)

/-- The power of the contract in 10 mW units. -/
def conPower (x : Slice) : Nat := x.off.conMv * x.off.conMa / 10000

end Sys2Proof.Machine
end

