-- ==== Sys2Proof/Machine/GrantOps.lean ====
section
/-!
DEFINITION. What follows a change of a port's effective grant: shed, restart, current limits, the Fast Role Swap signal and
arming (R16, R17, R71, R108, R159, R200, R201, R214, R295), and what a tie port as Sink requests (R204 to R208).
-/

namespace Sys2Proof.Machine

/-! ## Tie ports as Sink (R204, R205) -/

/-- A tie port: port 0 or 1 with role 2 and `TIE`. -/
def isTie (x : Slice) (p : Port) : Bool := p.val < 2 && x.att.attcfg.role = 2 && x.sw.swcfg.tie

/-- The aid port (R205). -/
def aidPort (s : State) : Option Port :=
  let sink (p : Port) : Bool := isTie (s.slice p) p && (s.slice p).att.attstat.state = 6
  if sink 0 && !(s.sup.aidSecond && sink 1) then some 0 else if sink 1 then some 1 else none

/-- P_AID in W (`SLC_SWCFG.P_AID`). -/
def aidPower (x : Slice) : Nat := clampNat 15 240 x.sw.swcfg.pAid.toNat

/-- The pilot current in mA (`SLC_SWCFG.PILOT`). -/
def pilotMa (x : Slice) : Nat := 50 * clampNat 1 60 x.sw.swcfg.pilot.toNat

/-- The object of the pilot contract. -/
def pilotReq (x : Slice) : SrcObject := { pos := 1, mv := 5000, ma := pilotMa x }

/-- The highest-voltage Fixed object of 20 V or more of an offer. -/
def highestFixed (c : SourceCaps) : Option SrcObject :=
  c.fixed.foldl (fun best o =>
    if o.mv < 20000 then best else
    match best with
    | none => some o
    | some b => if b.mv < o.mv then some o else best) none

/-- The hub wants aid through this port (R204). -/
def wantsAid (p : Port) (s : State) : Bool := (s.sup.active = .none || s.sup.active = .cascade) && aidPort s = some p

/-- What the port requests from an offer, and whether the request sets Capability Mismatch (R204). -/
def sinkChoice (p : Port) (c : SourceCaps) (s : State) : SrcObject × Bool :=
  let x := s.slice p
  if !wantsAid p s || !(c.eprCap || x.sw.eprPossible) || (c.eprCap && !x.sw.snkEpr && !rev2 x .sop && !x.sw.eprFailed) then
    (pilotReq x, false)
  else
    match highestFixed c with
    | none => (pilotReq x, false)
    | some o =>
      let i := min o.ma (aidPower x * 1000000 / o.mv)
      ({ pos := o.pos, mv := o.mv, ma := i }, o.mv * i < aidPower x * 1000000)

/-- Send the Request or EPR_Request of R204: the object, the voltage, the current and the flags (bit 0 EPR Mode Capable,
1 Capability Mismatch, 2 Unchunked Extended Messages Supported). -/
def sinkRequest (p : Port) (answer : Bool) (s : State) : State :=
  let x := s.slice p
  match x.sw.offered with
  | none => s
  | some c =>
    if x.att.attstat.state ≠ 6 || x.sw.swstat.swap ≠ 0 then s else
    let (o, mism) := sinkChoice p c s
    let capable := wantsAid p s && c.eprCap && !rev2 x .sop
    let s := onSw p (fun w => { w with snkReq := some o }) s
    queueMsg p
      { ctx := .sop, kind := if x.sw.snkEpr then .eprRequest else .request, prio := if answer then .reply else .ams
        words := [BitVec.ofNat 32 o.pos, BitVec.ofNat 32 o.mv, BitVec.ofNat 32 o.ma,
                  putBit capable 0 ||| putBit mism 1 ||| putBit x.pd.pdcfg.unchk 2] } s

/-! ## Fast Role Swap (R200, R201) -/

/-- The conditions of R200. -/
def frsReady (p : Port) (s : State) : Bool :=
  let x := s.slice p
  isTie x p && x.sw.swcfg.frsEn && x.att.attstat.state = 6 && x.pd.pdstat.pdConn && !rev2 x .sop
    && 2 ≤ x.att.attstat.rpSeen.toNat && x.sw.swstat.partFrs ≠ 0 && (s.sup.active = .main || s.sup.active = .backup)
    && frsCurrent x.sw.swstat.partFrs ≤ 20 * x.gr.eff && x.sw.swstat.swap = 0

/-- Arm or disarm for Fast Role Swap as R200 says: armed, the converter runs with ISOGn open. -/
def frsCheck (p : Port) (s : State) : State :=
  let x := s.slice p
  if 2 ≤ p.val || x.sw.swstat.swap ≠ 0 then s
  else if frsReady p s then
    if x.sw.swstat.frsArmed then s
    else s |> onSw p (fun w => { w with swstat := { w.swstat with frsArmed := true } }) |> startSwapConv p
  else if x.sw.swstat.frsArmed then
    onSlice p (fun x => { x.stopConv with sw := { x.sw with swstat := { x.sw.swstat with frsArmed := false } } }) s
  else s

/-- The FRS signal in place of the shed (R201): the CC line is pulled low while converter and ISOGn keep VBUS; another swap
or a contract change ends. -/
def frsSignal (p : Port) (s : State) : State :=
  let s := onSlice p (fun x =>
    let x := (x.endChange 2).endSwap 7
    { x with
      sw := { x.sw with step := .frsSignal, frsRecent := true, swstat := { x.sw.swstat with swap := 2 } }
      pins := { x.pins with term := .frsLow } }.pump) s
  portEvent p 2 s

/-- The port signals Fast Role Swap when its cap falls to 0 with no supply (R201). -/
def frsSignals (p : Port) (x : Slice) : Bool :=
  isTie x p && x.att.attstat.state = 3 && x.pins.isog && x.gr.nosup && x.gr.cap = 0 && x.sw.swstat.frsOffer
    && x.sw.swstat.swap ≠ 2

/-! ## A change of the effective grant -/

/-- The effective grant has become 0 on a port that sources VBUS (R71, R108, R201). -/
def grantGone (p : Port) (byCap : Bool) (s : State) : State :=
  if byCap && frsSignals p (s.slice p) then frsSignal p s
  else onSlice p (fun x => (x.endChange 2).shed.pump) s

/-- The effective grant has risen above 0 on a port with `NOPWR`: a new contract follows, and the start waits for its slot
(R71, R102, R174). -/
def grantBack (p : Port) (s : State) : State :=
  onSlice p (fun x =>
    let x := x.clearContract
    let x := { x with att := { x.att with attstat := { x.att.attstat with nopwr := false } } }.sink
    if x.pr.prstat.pstate = 0 then { x with ps := { x.ps with psstat := { x.ps.psstat with cstate := 7 } } }.pump else x.pump) s

/-- The limits of R17 and R214, and the 5 s of R159, after the effective grant has moved from `old` (0.1 W). -/
def grantLimits (old : Nat) (byCap : Bool) (x : Slice) : Slice :=
  let new := x.gr.eff
  let below := x.ps.tlmI.pout.toNat > 10 * new
  let fell := new < old
  let limit := if fell && below && byCap then .shed else x.off.limit
  { x with
    off := { x.off with
      limit := limit
      complRun := below && (x.off.complRun || (fell && !byCap && limit = .none)), complCon := below && x.off.complCon }
    ps := { x.ps with psstat := { x.ps.psstat with limwait := limit ≠ .none && conPower x ≤ 10 * new } } }

/-- The effective grant of a port has moved from `old`, by its cap or by its register (R16, R17, R139, R157, R214, R295). -/
def grantMoved (p : Port) (old : SliceGr) (byCap : Bool) (s : State) : State :=
  let x := s.slice p
  let fell := x.gr.eff < old.eff
  let sources := (x.att.attstat.state = 3 || x.att.attstat.state = 12) && !x.att.detaching
  let s := if fell && byCap then alertBit p alertInput s else s
  let s :=
    if sources && x.gr.none && !x.att.attstat.nopwr then grantGone p byCap s
    else if sources && !x.gr.none && x.att.attstat.nopwr then grantBack p s
    else if sources && !x.gr.none && x.gr.eff ≠ old.eff then
      let s := onSlice p (grantLimits old.eff byCap) s
      let s := limitsChanged p s
      if fell && x.ps.tlmI.pout.toNat > 10 * x.gr.eff && x.pd.capsSent && (s.slice p).off.xstep = .idle then advertise p s else s
    else s
  let s := onTh p (thGrantChange x.gr.eff x.ps.tlmI.pout.toNat (conPower x)) s
  frsCheck p s

/-- The Policy Core writes `SLC_GRANT` (R16, R232); a kiln derate that begins sets the OTP Alert bit (R157). -/
def setGrant (p : Port) (g : SlcGrant) (s : State) : State :=
  let old := (s.slice p).gr
  let s := onGr p (fun x => { x with grant := g }) s
  let s := if g.kln && !old.grant.kln then alertBit p alertOtp s else s
  grantMoved p old false s

/-- The Policy Core writes `SLC_PROFLIM` (R139). -/
def writeProflim (p : Port) (v : SlcProflim) (s : State) : State :=
  s |> onOff p (fun o => { o with proflim := v }) |> limitsChanged p

end Sys2Proof.Machine
end

