-- ==== Sys2Proof/Machine/RecorderOps.lean ====
section
/-!
DEFINITION. The recorder's stores and its start: records as words, the NAND log, the flush area, the reading window, and
what the recorder does when it starts (R341, R345 to R352, R356, R404).
-/

namespace Sys2Proof.Machine

/-! ## Records as four words (Table 16.1, R343) -/

/-- A hardware record's 16 bytes as four words. -/
def hwWords (r : HwRecord) : Rec4 :=
  { w0 := putField r.type 0 ||| putField r.source 8 ||| putField r.flags 16
    w1 := putField r.minutes 0 ||| putField (r.pcc.setWidth 8) 24
    w2 := putField (r.pcc >>> 8) 0 ||| putField (r.data.setWidth 24) 8
    w3 := putField ((r.data >>> 24).setWidth 24) 0 ||| putField (r.no.setWidth 8) 24 }

/-- A firmware record's 16 bytes as four words. -/
def fwWords (r : FwRecord) : Rec4 :=
  { w0 := 0x80 ||| putField r.source 8, w1 := r.seq, w2 := r.data.setWidth 32, w3 := (r.data >>> 32).setWidth 32 }

/-- TYPE of a slot. -/
def Rec4.type (r : Rec4) : Byte := r.w0.setWidth 8

/-- The slot holds a hardware record. -/
def Rec4.isHw (r : Rec4) : Bool := 1 ≤ r.type.toNat && r.type.toNat ≤ 11

/-- MINUTES of a hardware record. -/
def Rec4.minutes (r : Rec4) : BitVec 24 := r.w1.setWidth 24

/-- PCC of a hardware record. -/
def Rec4.pcc (r : Rec4) : BitVec 16 := (r.w1 >>> 24).setWidth 16 ||| (r.w2.setWidth 8 : BitVec 8).setWidth 16 <<< 8

/-- The low half of the boot number in a sector header. -/
def Rec4.hdrBoot (r : Rec4) : BitVec 16 := getField r.w2 8 16

/-- The record number in a sector header: DATA bits 47:16. -/
def Rec4.hdrNo (r : Rec4) : Word := (getField r.w3 0 24).setWidth 32 <<< 8 ||| (getField r.w2 24 8).setWidth 32

/-! ## The NAND log (R347) -/

/-- The log's capacity in slots: its blocks, of 8,192 slots each (R381). -/
def logCapacity (n : Nand) : Nat := n.logN * 8192

/-- Append slots to the log; a full log loses its oldest block, and a flash without a log keeps nothing. -/
def logAppend (rs : List Rec4) (s : State) : State :=
  let l := s.nand.log ++ rs
  if s.nand.logN = 0 then s
  else if logCapacity s.nand < l.length then
    onNand (fun n => { n with log := l.drop 8192, logOldest := n.logOldest + 8192 }) s
  else onNand (fun n => { n with log := l }) s

/-- `rs` filled with empty slots to whole pages of 128. -/
def padPage (rs : List Rec4) : List Rec4 := rs ++ List.replicate ((128 - rs.length % 128) % 128) ({} : Rec4)

/-! ## The flush page (R348) -/

/-- Pages that the erased flush area offers: its blocks of 64 pages, less the partition's header page; with fewer than 2
blocks it is written no more (R383). -/
def flushPages (n : Nand) : Nat := if n.flushN < 2 then 0 else 64 * n.flushN - 1

/-- PFW_N has fallen: staged sectors are discarded (R404), and the 64 newest records go into a flush page (R348). -/
def powerFailFlush (s : State) : State :=
  if !s.evr.running then s else
  let s := onNvc (fun n => { n with staged := [] }) s
  let s := onEvr (fun e => { e with copied := e.drain &&& 0xFFFFFFE0 }) s
  if s.nand.flushErased = 0 then s else
  let page : FlushPage :=
    { boot := s.evr.boot, drain := s.evr.drain
      records := ((s.evr.ring.take 64).map (fun r => { r with flags := r.flags ||| 4 })).reverse }
  onNand (fun n => { n with flush := page :: n.flush, flushErased := n.flushErased - 1 }) s

/-- The highest record number in the log's last sector of boot `boot`, none without such a sector (R349). -/
def lastLogged (boot : Word) (log : List Rec4) : Option Nat :=
  (log.foldl (fun (acc : Bool × Option Nat) r =>
    if r.type = 0x0B then (if r.hdrBoot = boot.setWidth 16 then (true, some r.hdrNo.toNat) else (false, acc.2))
    else if acc.1 && r.isHw then (true, acc.2.map (· + 1)) else acc) (false, none)).2

/-- The merge of R349: the newest flush page's records that the log lacks are appended, and the area is erased. -/
def flushMerge (s : State) : State :=
  let s := match s.nand.flush with
    | [] => s
    | pg :: _ =>
      let highest := (lastLogged pg.boot s.nand.log).getD 0
      let keep := pg.records.filter (fun r => highest < r.no.toNat && pg.drain.toNat < r.no.toNat)
      if keep.isEmpty then s else logAppend (padPage (keep.map hwWords)) s
  onNand (fun n => { n with flush := [], flushErased := flushPages n }) s

/-! ## Counters (R356) -/

/-- The largest counts among the hardware records of the log and of the flush area's newest page: the counts never fall,
so they are those of the newest record. -/
def storedCounts (n : Nand) : BitVec 24 × BitVec 16 :=
  let rs := n.log.filter Rec4.isHw ++ (match n.flush with | [] => [] | pg :: _ => pg.records.map hwWords)
  rs.foldl (fun a r => (if a.1 < r.minutes then r.minutes else a.1, if a.2 < r.pcc then r.pcc else a.2)) (0, 0)

/-- A Recorder record of a cause (Table 16.2). -/
def recorderRecord (source : Byte) (low cause : Nat) (high : Nat) : State → State :=
  hwRecord 0x0A source 0 (BitVec.ofNat 48 (low + 256 * cause + 65536 * high))

/-- A count has reached its largest value: event 223 and a record of cause 4 (R356). -/
def saturated (which : Nat) (s : State) : State := recorderRecord 223 which 4 0 (raise 223 s)

/-- The count of records lost is reported (cause 2) and begins again. -/
def reportLost (s : State) : State :=
  if s.evr.lostNow = 0 then s else
  let n := s.evr.lostNow
  s |> onEvr (fun e => { e with lostNow := 0 }) |> recorderRecord 0xFF 0 2 n

/-! ## The recorder's start (R78, R346) -/

/-- The DATA of a Reset record: `DID_RSTC` and the low half of `DID_BOOT`. -/
def resetData (r : DidRstc) (b : DidBoot) : BitVec 48 := r.toWord.setWidth 48 ||| ((b.toWord.setWidth 16 : BitVec 16).setWidth 48 <<< 32)

/-- The partitions stand under the present key: log and flush area can be read (R377, R384). -/
def partitionsGood (s : State) : Bool := s.nand.formatted && s.nand.under.toNat = lifecycle s.otp

/-- The counters are loaded, PCC advancing at a power-on reset, and the boot number advances (R356). -/
def loadCounters (s : State) : State :=
  let (m, p) := if partitionsGood s then storedCounts s.nand else (0, 0)
  let p := if s.did.rstc.por then satInc p else p
  s |> onNand (fun n => { n with bootNo := n.bootNo + 1 })
    |> onEvr (fun e => { e with
        opmin := { minF := m, sat := m = 0xFFFFFF }, pcc := { pcc := p, sat := p = 0xFFFF }, boot := s.nand.bootNo + 1 })

/-- The recorder starts at the end of step 3: header, Reset record, held records, and the count of those lost (R346). The
flush merge follows where the partitions can be read. -/
def recorderStart (s : State) : State :=
  let s := s |> loadCounters |> onEvr (fun e => { e with running := true })
  let s := ringWrite 3 0xFF 0 (resetData s.did.rstc s.did.boot) s
  let s := s.evr.held.foldl (fun s h => ringWrite h.type h.source h.flags h.data s) s
  let s := s |> onEvr (fun e => { e with held := [] }) |> reportLost |> (fun s => if partitionsGood s then flushMerge s else s)
  let s := if s.evr.opmin.sat then saturated 0 s else s
  if s.evr.pcc.sat then saturated 1 s else s

/-! ## Draining (R345, R404) -/

/-- The slot of the ring in which record `n` stands: the record itself, or the newer one that took its slot. -/
def ringSlot (e : Evr) (n : Word) : Rec4 :=
  let i := (e.next - 1 - n).toNat
  match e.ring[if i < 2048 then i else i - 2048]? with
  | some r => hwWords r
  | none => {}

/-- The sector from which the next drain copies: the one not yet copied, or that of `EVR_DRAIN` when it has moved on. -/
def drainBase (e : Evr) : Word :=
  if serialBefore e.copied (e.drain &&& 0xFFFFFFE0) then e.drain &&& 0xFFFFFFE0 else e.copied

/-- Stage a sector; with no buffer free its 128 writes have no effect and are counted. The flag says that it was staged. -/
def stageSector (rs : List Rec4) (s : State) : State × Bool :=
  if 8 ≤ s.nvc.staged.length then (onNvc (fun n => { n with ovf := satAdd n.ovf 128 }) s, false)
  else (onNvc (fun n => { n with staged := n.staged ++ [rs] }) s, true)

/-- A complete sector of the hardware ring is copied to the log window. -/
def drainHw (s : State) : State :=
  let e := s.evr
  let b := drainBase e
  if !e.running || (e.next - b).toNat < 32 then s else
  match stageSector ((List.range 32).map (fun i => ringSlot e (b + BitVec.ofNat 32 i))) s with
  | (s, false) => s
  | (s, true) => s |> onEvr (fun e => { e with copied := b + 32 }) |> reportLost

/-- A sector of 32 firmware records is copied to the log window. -/
def drainFw (s : State) : State :=
  let e := s.evr
  if !e.running || (e.fwSeq - e.fwDrained).toNat < 32 then s else
  let rs := (List.range 32).map (fun i =>
    match e.fwRing[(e.fwSeq - 1 - e.fwDrained).toNat - i]? with
    | some r => fwWords r
    | none => {})
  match stageSector rs s with
  | (s, false) => s
  | (s, true) => onEvr (fun e => { e with fwDrained := e.fwDrained + 32 }) s

/-- A programmed hardware sector moves `EVR_DRAIN` past its records, and `F75` may clear (R345, R404). -/
def sectorLogged (rs : List Rec4) (s : State) : State :=
  match rs with
  | r :: _ =>
    if r.type = 0x0B && serialBefore s.evr.drain (r.hdrNo + 32) then
      onEvr (fun e =>
        let e := { e with drain := r.hdrNo + 32 }
        { e with f75 := e.f75 && 1024 < undrained e }) s
    else s
  | [] => s

/-- The page of the oldest staged sectors is programmed, four at most (R404). -/
def programPage (s : State) : State :=
  let rs := s.nvc.staged.take 4
  if rs.isEmpty then s else
  let s := onNvc (fun n => { n with staged := n.staged.drop 4 }) s
  let s := logAppend (padPage rs.flatten) s
  rs.foldl (fun s r => sectorLogged r s) s

/-- A word committed to `NVC_LOGWIN` at index `i` (R404). -/
def logWinWrite (i : Nat) (w : Word) (s : State) : State :=
  if 8 ≤ s.nvc.staged.length then onNvc (fun n => { n with ovf := satInc n.ovf }) s
  else
    let ws := (i, w) :: s.nvc.logwin.filter (fun x => x.1 != i)
    if i ≠ 127 then onNvc (fun n => { n with logwin := ws }) s
    else if ws.length = 128 then
      let at_ (j : Nat) : Word := match ws.find? (fun x => x.1 == j) with | some x => x.2 | none => 0
      let rs := (List.range 32).map (fun k =>
        ({ w0 := at_ (4 * k), w1 := at_ (4 * k + 1), w2 := at_ (4 * k + 2), w3 := at_ (4 * k + 3) } : Rec4))
      onNvc (fun n => { n with logwin := [], staged := n.staged ++ [rs] }) s
    else onNvc (fun n => { n with logwin := [], incompl := satInc n.incompl }) s

/-! ## The reading window (R350 to R352) -/

/-- The oldest readable number of the store a bank selects. -/
def evrOldest (x : EvrBank) (s : State) : Word :=
  let later (a b : Word) : Word := if serialBefore a b then b else a
  if x.src.src = 1 then later (s.evr.fwSeq - BitVec.ofNat 32 s.evr.fwRing.length) x.fwOldest
  else if x.src.src = 2 then s.nand.logOldest
  else later (s.evr.next - BitVec.ofNat 32 s.evr.ring.length) x.hwOldest

/-- The number after the newest. -/
def evrNext (x : EvrBank) (s : State) : Word :=
  if x.src.src = 1 then s.evr.fwSeq
  else if x.src.src = 2 then s.nand.logOldest + BitVec.ofNat 32 s.nand.log.length
  else s.evr.next

/-- `STALE`. -/
def evrStale (x : EvrBank) (s : State) : Bool := serialBefore x.cur (evrOldest x s)

/-- `EMPTY`. -/
def evrEmpty (x : EvrBank) (s : State) : Bool := !serialBefore x.cur (evrNext x s)

/-- The record at a bank's cursor, read from its store. -/
def evrLookup (x : EvrBank) (s : State) : Rec4 :=
  if x.src.src = 1 then
    match s.evr.fwRing[(s.evr.fwSeq - 1 - x.cur).toNat]? with | some r => fwWords r | none => {}
  else if x.src.src = 2 then s.nand.log.getD (x.cur - s.nand.logOldest).toNat {}
  else match s.evr.ring[(s.evr.next - 1 - x.cur).toNat]? with | some r => hwWords r | none => {}

/-- The window shows a record: `READY` is 1 and neither `STALE` nor `EMPTY` is. -/
def evrShown (x : EvrBank) (s : State) : Bool := x.ready && !evrStale x s && !evrEmpty x s

/-- A word of `EVR_WIN0` to `EVR_WIN3`: the record as fetched; a record that came to an empty cursor shows as it stands. -/
def evrWin (x : EvrBank) (j : Fin 4) (s : State) : Word :=
  if !evrShown x s then 0
  else if x.win = #v[0, 0, 0, 0] && !x.unread then
    let r := evrLookup x s
    (#v[r.w0, r.w1, r.w2, r.w3] : Vector Word 4).get j
  else x.win.get j

/-- A fetch begins. -/
def evrFetch (x : EvrBank) : EvrBank := { x with ready := false, win := #v[0, 0, 0, 0], unread := false }

/-- What a read of sectors counts: `corr` corrected, `unc` uncorrectable, which raise event 217 (R380). -/
def sectorsRead (corr unc : Nat) (s : State) : State :=
  let s := onNvc (fun v => { v with err := { v.err with corr := satAdd v.err.corr corr, unc := satAdd v.err.unc unc } }) s
  if unc = 0 then s else globalEvent 217 s.nvc.stat.toWord 0 s

/-- The sectors a single read counts. -/
def sectorRead (r : SectorRead) (s : State) : State :=
  match r with
  | .clean => s | .corrected => sectorsRead 1 0 s | .bad => sectorsRead 0 1 s

/-- The fetch of a bank ends: `READY` is set, with the record in the window. A record of the log stands in a sector, which
reads as empty slots where it cannot be corrected (R347). -/
def evrFetched (k : Bank) (rd : SectorRead) (s : State) : State :=
  let x := evrBank k s
  if x.ready then s else
  if evrStale x s || evrEmpty x s then onEvrBank k (fun x => { x with ready := true, win := #v[0, 0, 0, 0] }) s else
  if x.src.src = 2 && rd = .bad then
    sectorRead rd (onEvrBank k (fun x => { x with ready := true, win := #v[0, 0, 0, 0], unread := true }) s)
  else
    let r := evrLookup x s
    let s := onEvrBank k (fun x => { x with ready := true, win := #v[r.w0, r.w1, r.w2, r.w3] }) s
    if x.src.src = 2 then sectorRead rd s else s

/-- The cursor of a bank advances by 1 (R351). -/
def evrAdvance (k : Bank) : State → State := onEvrBank k (fun x => evrFetch { x with cur := x.cur + 1 })

/-- A read of `EVR_WIN3` by this bank would carry the side effect. -/
def evrSideEffect (k : Bank) (s : State) : Bool := (evrBank k s).src.auto && evrShown (evrBank k s) s

/-- The Warden Core clears a ring in every bank, with a Recorder record of cause 1 (R352). -/
def clearRing (fw : Bool) (dom : Nat) (s : State) : State :=
  let mark (x : EvrBank) : EvrBank := if fw then { x with fwOldest := s.evr.fwSeq } else { x with hwOldest := s.evr.next }
  let s := onEvr (fun e => { e with
    bankA := mark e.bankA, bankB := mark e.bankB, bankS := mark e.bankS, bankP := mark e.bankP, bankW := mark e.bankW }) s
  recorderRecord 0xFF (if fw then 1 else 0) 1 dom s

end Sys2Proof.Machine
end

