-- ==== Sys2Proof/Machine/SupplyOps.lean ====
section
/-!
DEFINITION. The supply block's shared operations: caps, the hold line, the active input, connecting a path, losing every
input, and the highest offer voltage (R50 to R71).
-/

namespace Sys2Proof.Machine

/-! ## Caps (R69, R70) -/

/-- The cap of a row for a tier; tier 0 is never capped (R69). -/
def ShedRow.cap (r : ShedRow) (t : Nat) : BitVec 8 :=
  if t = 0 then 255 else if t = 1 then r.t1 else if t = 2 then r.t2 else if t = 3 then r.t3 else if t = 4 then r.t4
  else if t = 5 then r.t5 else if t = 6 then r.t6 else r.t7

/-- The cap of a port (R70). -/
def portCap (s : State) (p : Port) : BitVec 8 :=
  let t := portTier s p
  let row := match s.sup.active with
    | .main => s.sup.shedMain | .backup => s.sup.shedBkup | _ => s.sup.shedCasc
  if s.sup.active = .none then 0
  else
    let c := row.cap t
    let e := s.sup.shedEmg.cap t
    if s.sup.emg && e.toNat < c.toNat then e else c

/-- Every port's cap is computed and driven on the cap bus; a change raises event 200, and each slice takes its new effective
grant (R16, R70). -/
def capUpdate (s : State) : State :=
  let ns := s.sup.active = .none
  let moved := allPorts.filter (fun p => portCap s p != (s.slice p).gr.cap)
  let before := s
  let s := overPorts (fun p s => onGr p (fun g => { g with cap := portCap before p, nosup := ns }) s) s
  let s := if moved.isEmpty then s else supplyEvent 200 s
  moved.foldl (fun s p => grantMoved p (before.slice p).gr true s) s

/-! ## V_max (R54, R55) -/

/-- V_max of R54 in 100 mV units, from the mean voltage of the active input in mV. -/
def vmaxOf (mv : Nat) : BitVec 9 := BitVec.ofNat 9 (min 480 ((mv - 4000) / 100))

/-- Publish V_max; every slice rebuilds its offers (R56, R139). -/
def publishVmax (v : BitVec 9) (s : State) : State :=
  if v = s.sup.maxpdo then s else
  overPorts (fun p s => limitsChanged p s) (onSup (fun u => { u with maxpdo := v }) s)

/-! ## Power-fail warning (R67) -/

/-- PFW_N falls: event 197 and the power-fail flush (R67, R348). -/
def pfwAssert (s : State) : State :=
  if s.sup.pfw then s else
  powerFailFlush (supplyEvent 197 (onSup (fun u => { u with pfw := true }) s))

/-- PFW_N is released. -/
def pfwRelease (s : State) : State := onSup (fun u => { u with pfw := false }) s

/-! ## The hold line (R25, R57, R148) -/

/-- A contract change pauses while the hold line is asserted (R148). -/
def SliceOff.pause (o : SliceOff) : SliceOff :=
  match o.xstep with
  | .waitTransition | .ramping | .settling => { o with xheld := true, xstat := { o.xstat with state := 6 } }
  | _ => o

/-- The hold line is asserted; a window that runs goes on (R57). -/
def holdAssert (s : State) : State :=
  if s.sup.hold then s else
  overPorts (fun p s => onOff p SliceOff.pause s) (onSup (fun u => { u with hold := true }) s)

/-! ## The active input (R52, R84, R109) -/

/-- The first active input after reset: each enabled port among 2 to 23 presents Rp (R84). -/
def portsPresent (s : State) : State :=
  if !s.did.released then s else
  overPorts (fun p s => onSlice p (fun x =>
    if 2 ≤ p.val && x.att.attstat.state = 0 && x.att.attcfg.role ≠ 0 && x.att.attcfg.role ≠ 3 then
      { x with att := { x.att with attstat := { x.att.attstat with state := 1 } }, pins := { x.pins with term := .rp } }.refresh
    else x) s) s

/-- The sink path of a port opens (R206, R207). -/
def Slice.openSnkg (x : Slice) : Slice :=
  { x with sw := { x.sw with swstat := { x.sw.swstat with snkp := 0 } }, pins := { x.pins with snkg := false } }

/-- What follows a change of the active input: caps, Alert, V_max, sink requests, arming (R54, R55, R70, R157, R200, R204). -/
def activeMoved (old : InputId) (s : State) : State :=
  let s := capUpdate s
  let s := if s.sup.active = .none then publishVmax 0 s else s
  let s := overPorts (fun p s => alertBit p alertInput s) s
  let s := [(0 : Port), 1].foldl (fun s p => sinkRequest p false s) s
  let s := [(0 : Port), 1].foldl (fun s p => frsCheck p s) s
  if old = .none && !s.did.inputSeen then portsPresent (onDid (fun d => { d with inputSeen := true }) s) else s

/-- The active input becomes `x`, with event 193 for main and 196 for cascade (R57); from cascade the sink paths open at that
moment (R207). -/
def setActive (x : InputId) (s : State) : State :=
  let old := s.sup.active
  if old = x then s else
  let s := onSup (fun u => { u with
    active := x, everActive := u.everActive || x ≠ .none, vmaxFresh := old = .none && x ≠ .none
    aidSecond := u.aidSecond && (x = .none || x = .cascade) }) s
  let s := if old = .cascade then
      (s |> onSlice 0 Slice.openSnkg |> onSlice 1 Slice.openSnkg |> onSup (fun u => { u with cascQ := false, cascPort := none }))
    else s
  let s := match x with
    | .main => supplyEvent 193 s
    | .cascade => supplyEvent 196 s
    | _ => s
  activeMoved old s

/-! ## Paths (R62 to R66) -/

/-- The path of an input. -/
def Sup.path (u : Sup) : PathId → Path
  | .main => u.main | .backup => u.bkup

/-- Change the path of an input. -/
def onPath (x : PathId) (f : Path → Path) : State → State := onSup (fun u =>
  match x with
  | .main => { u with main := f u.main } | .backup => { u with bkup := f u.bkup })

/-- The input of a path. -/
def pathInput : PathId → InputId
  | .main => .main | .backup => .backup

/-- The bus-side voltage of a path in mV. -/
def busMv (u : Sup) : PathId → Nat
  | .main => 10 * u.vin.vmain.toNat | .backup => 10 * u.vin.vbkup.toNat

/-- The hot-swap settings of a path. -/
def Sup.hsw (u : Sup) : PathId → SupHsw
  | .main => u.hswMain | .backup => u.hswBkup

/-- The thresholds of a path. -/
def Sup.thr (u : Sup) : PathId → SupThr
  | .main => u.thrMain | .backup => u.thrBkup

/-- A connection of a path begins: in pre-charge mode the pre-charge FET first, when V_DS exceeds 8.0 V (R62, R64). -/
def connectPath (x : PathId) (attempt : Bool) (s : State) : State :=
  let pre := (s.sup.hsw x).mode && 10 * s.sup.vaux.vbulk.toNat + 8000 < busMv s.sup x
  onPath x (fun h => { h with
    st := if attempt then .retrying else .connecting, attempt := attempt, gate := !pre, precharge := pre, offDone := false
    needQual := false, returnDue := false }) s

/-- A path is off in state `st`. -/
def Path.off (st : PathSt) (h : Path) : Path :=
  { h with st := st, gate := false, precharge := false, attempt := false, returnDue := false }

/-- A path is connecting, or an attempt of it runs. -/
def Path.busy (h : Path) : Bool := h.st = .connecting || h.attempt

/-- The sink path of the aid port begins to close: it ramps the bulk, or acts as an ideal diode when the bulk is near or
above VBUSn (R206); the self-check comes first (R229), and a SNKDROP trip ends (R226). -/
def connectSink (p : Port) (s : State) : State :=
  let s := selfCheck p (holdAssert s)
  if (s.slice p).pr.prstat.pstate = 4 then s else
  let ramp := s.sup.vaux.vbulk.toNat + 100 < (s.slice p).ps.tlmV.vbus.toNat
  s |> onSlice p (fun x => { x with
        sw := { x.sw with swstat := { x.sw.swstat with snkp := if ramp then 1 else 2 } }, pins := { x.pins with snkg := true }
        pr := { x.pr with prstat := { x.pr.prstat with pstate := 0 } } })
    |> onSup (fun u => { u with cascRetry := false })

/-- The qualified input of highest priority that waits connects, the active input being none: a switch-over from none (R57,
R206). -/
def connectNext (s : State) : State :=
  if s.sup.active ≠ .none || !s.sup.lock.cfgLk || s.sup.main.busy || s.sup.bkup.busy then s
  else if s.sup.main.qual && s.sup.main.st = .qualifying then connectPath .main false (holdAssert s)
  else if s.sup.bkup.qual && (s.sup.bkup.st = .qualifying || s.sup.bkup.st = .staggerOrArmed) then
    connectPath .backup false (holdAssert s)
  else
    match s.sup.cascPort with
    | some p => if s.sup.cascQ && !s.sup.cascRetry && !s.sup.cascLatch && !(s.slice p).pins.snkg then connectSink p s else s
    | none => s

/-- Configuration load applies the configured thresholds and connects the qualified input of highest priority (R82). -/
def supplyConfigured (s : State) : State :=
  let settle (x : PathId) (present : Bool) (s : State) : State :=
    let t := s.sup.thr x
    let v := busMv s.sup x
    let ok := (s.sup.path x).qual && 100 * t.uv.toNat + 1000 ≤ v && v ≤ 100 * t.ov.toNat
    onPath x (fun h => if !present then { h with st := .notConfigured, qual := false }
                       else { h with st := if ok then .qualifying else .lost, qual := ok }) s
  s |> settle .main true |> settle .backup s.sup.bkupPresent |> connectNext

/-- Every input is lost: the hold line, every cap 0 with the no-supply flag, PS_EN low and PFW_N (R59, R67). -/
def noSupply (s : State) : State :=
  let s := s |> holdAssert |> setActive .none |> onSup (fun u => { u with psEn := false })
  if s.sup.everActive then pfwAssert s else s

/-- The backup path takes the load: armed, its ideal diode conducts when the bulk node has fallen to it; otherwise it connects
by its hot-swap rules (R57). -/
def takeBackup (armed : Bool) (s : State) : State :=
  if armed then onPath .backup (fun h => { h with st := .connecting }) s else connectPath .backup false s

/-- The active input is lost: the switch-over to the input that takes its place, or the loss of every supply (R57, R59). -/
def activeLost (s : State) : State :=
  if s.sup.main.qual && s.sup.active ≠ .main then
    s |> holdAssert |> setActive .main |> connectPath .main false
  else if s.sup.bkup.qual && s.sup.active ≠ .backup then
    let armed := s.sup.active = .main && s.sup.bkup.st = .staggerOrArmed
    s |> holdAssert |> setActive .backup |> takeBackup armed
  else
    connectNext (noSupply s)

end Sys2Proof.Machine
end

