-- ==== Sys2Proof/Machine/EtestOps.lean ====
section
/-!
DEFINITION. Emergency tests: start, refusal, and the end with its result and its return to main (R72 to R74).
-/

namespace Sys2Proof.Machine

/-- The time of the test so far, in the units of its kind (`SUP_ETRES.ELAPSED`). -/
def etElapsed (u : Sup) : BitVec 8 := satField 8 (if u.etestDur then u.etWindows / 6000 else u.etWindows / 100)

/-- A test is refused (R73); `SUP_ETST.KIND` 0 and 3 are refused too. -/
def etestRefused (kind : BitVec 2) (s : State) : Bool :=
  kind = 0 || kind = 3 || s.sup.active ≠ .main || s.sup.bkup.st ≠ .staggerOrArmed || !s.sup.bkup.qual || s.sup.emg || s.sup.etst
    || updateOpen s.lcu

/-- Start a test of a kind, or refuse it; the flag says that it has started (R73). -/
def etestStart (kind : BitVec 2) (s : State) : State × Bool :=
  if etestRefused kind s then
    (onSup (fun u => { u with etres := { u.etres with state := 5, cause := 7 } }) s, false)
  else
    let s := onSup (fun u => { u with
      etst := true, etestDur := kind = 2, etWindows := 0, main := u.main.off .qualifying
      etres := { state := 1, vmin := satField 10 (u.vin.vbkup.toNat / 10) } }) s
    (s |> supplyEvent 199 |> holdAssert |> setActive .backup |> takeBackup true, true)

/-- A test ends: its result, event 199, and main, still qualified, returns at once or after the stagger delay (R60, R61,
R74). -/
def etestFinish (result cause : BitVec 3) (atOnce : Bool) (s : State) : State :=
  if !s.sup.etst then s else
  let s := onSup (fun u => { u with
    etst := false, etres := { u.etres with state := result, cause := cause, elapsed := etElapsed u } }) s
  let s := supplyEvent 199 s
  if !s.sup.main.qual || s.sup.active = .main then s
  else if atOnce then s |> holdAssert |> connectPath .main false
  else onPath .main (fun h => { h with st := .staggerOrArmed }) s

end Sys2Proof.Machine
end

