-- ==== Sys2Proof/Machine/SchedOps.lean ====
section
/-!
DEFINITION. Scheduler slots as other blocks reach them, and what follows a dropped Thatch command (R289, R293).
-/

namespace Sys2Proof.Machine

/-- Change slot `k`. -/
def onSlot (k : Fin 128) (f : SchedSlot → SchedSlot) (s : State) : State :=
  { s with cyc := { s.cyc with slots := updAt s.cyc.slots k f } }

/-- The command of a scheduled entry was refused or dropped: the slot's `RES` reads 2 (R293). -/
def slotSkipped (k : Option (Fin 128 × Byte)) (s : State) : State :=
  match k with
  | some (i, g) => if (s.cyc.slots.get i).gen = g then onSlot i (fun x => { x with res := 2 }) s else s
  | none => s

/-- The frame that was out on a port has failed: after the third attempt its command is dropped (R289). -/
def thFailedCmd (p : Port) (s : State) : State :=
  let (t, lost) := thFailed (s.slice p).th
  lost.foldl (fun s c => slotSkipped c.slot s) (onTh p (fun _ => t) s)

end Sys2Proof.Machine
end

