-- ==== Sys2Proof/Machine/Thatch.lean ====
section
/-!
DEFINITION. Thatch luminaire mode: discovery, entry, the link's exchanges, loss, exit and recovery (chapter 13).
-/

namespace Sys2Proof.Machine

/-- The SVID of Thatch. -/
def thatchSvid : BitVec 16 := 0x2F1D

/-- The SVID of the PD SID, under which Discover Identity and Discover SVIDs are sent. -/
def pdSid : BitVec 16 := 0xFF00

/-- The conditions of R282, as they stand now. -/
def thDiscoverable (sl : Slice) : Bool :=
  sl.th.thcfg.en && sl.att.attstat.state = 3 && !sl.sw.swstat.drole && sl.pd.conSince && sl.off.xstep = .idle
    && sl.sw.step = .idle && !eprEntryBusy sl && sl.th.thstat.state = 0 && sl.th.step = .idle && !sl.th.noMore
    && !sl.th.reenter

/-- Where discovery or entry goes, with what `STATE` shows, and the message that goes out. -/
def thAdvance (p : Port) (step : ThStep) (state : BitVec 3) (kind : MsgKind) (words : List Word) (s : State) : State :=
  s |> onTh p (fun t => { t with step := step, thstat := { t.thstat with state := state } })
    |> startAms p .sop kind words

/-- Discovery or entry ends with `STATE` at `state`. -/
def thStop (p : Port) (state : BitVec 3) (s : State) : State :=
  onTh p (fun t => { t with step := .idle, thstat := { t.thstat with state := state } }) s

/-- THATCH_DISCOVERY_START (R282). -/
def execThatchDiscoveryStart (p : Port) (s : State) : Host.Outcome State Fault Refusal :=
  .next (if thDiscoverable (s.slice p) then thAdvance p .identity 1 (.vdm pdSid .discoverIdentity .req) [] s else s)

/-- What an answer to Discover Identity on SOP brings (R244, R282): the identity from an ACK, and Discover SVIDs. -/
def thIdentityAnswer (p : Port) (id : Option (BitVec 16 × BitVec 16)) (s : State) : State :=
  if (s.slice p).th.step ≠ .identity then s else
  let s := match id with
    | some (v, d) => onGr p (fun g => { g with ptnid := { vid := v, pid := d } }) s
    | none => s
  thAdvance p .svids 1 (.vdm pdSid .discoverSvids .req) [] s

/-- What an answer to Discover SVIDs brings; no answer or a NAK gives no list (R282). -/
def thSvidsAnswer (p : Port) (svids : List (BitVec 16)) (s : State) : State :=
  if (s.slice p).th.step ≠ .svids then s
  else if svids.contains thatchSvid then thAdvance p .modes 1 (.vdm thatchSvid .discoverModes .req) [] s
  else s |> thStop p 0 |> onTh p (fun t => { t with noMore := true })

/-- DISCOVER_SVIDS_ACK (R282). -/
def execDiscoverSvidsAck (p : Port) (svids : List (BitVec 16)) (s : State) : Host.Outcome State Fault Refusal :=
  .next (thSvidsAnswer p svids s)

/-- Send Enter Mode for object position 1 (R284). -/
def thSendEnter (p : Port) (s : State) : State :=
  let t := (s.slice p).th
  s |> onTh p (fun t => { t with enterTries := t.enterTries + 1 })
    |> thAdvance p .enter 2 (.vdm thatchSvid .enterMode .req) [thEnterVdo t.thcfg t.thvdo]

/-- What an answer to Discover Modes brings; anything but exactly one VDO of `MAJOR` 1 gives state 6 (R283). -/
def thModesAnswer (p : Port) (vdos : List Word) (s : State) : State :=
  if (s.slice p).th.step ≠ .modes then s else
  match vdos with
  | [v] =>
    let s := onTh p (fun t => { t with thvdo := v, enterTries := 0 }) s
    if getField v 4 4 = 1 then thSendEnter p s else thStop p 6 s
  | _ => thStop p 6 s

/-- DISCOVER_MODES_ACK (R283). -/
def execDiscoverModesAck (p : Port) (vdos : List Word) (s : State) : Host.Outcome State Fault Refusal :=
  .next (thModesAnswer p vdos s)

/-- ENTER_MODE_ACK: an ACK enters the mode, a NAK gives up, a BUSY answer is retried up to nBusyCount times
(R284, Table 13.3 steps 1 and 2). -/
def enterModeAnswer (p : Port) (ans : VdmType) (s : State) : State :=
  let sl := s.slice p
  if sl.th.step ≠ .enter then s else
  match ans with
  | .ack =>
    s |> onTh p (fun t => { t with
          step := .idle, settled := false, missPolls := 0, queue := [], out := none, lastFlags := 0, lastFault := 0, lastEmg := 0
          thstat := { t.thstat with state := 3, ver := thAgreedVer t.thcfg t.thvdo, caps := thAgreedCaps t.thcfg t.thvdo } })
      |> onPd p (fun d => { d with busyCount := 0 })
      |> onPins p (fun x => { x with sbu := .thatch })
  | .busy =>
    if sl.pd.busyCount < nBusyCount then
      s |> onPd p (fun d => { d with busyCount := d.busyCount + 1 })
        |> startAms p .sop (.vdm thatchSvid .enterMode .req) [thEnterVdo sl.th.thcfg sl.th.thvdo]
    else thStop p 6 s
  | _ => thStop p 6 s

/-- ENTER_MODE_ACK (R284). -/
def execEnterModeAck (p : Port) (ans : VdmType) (s : State) : Host.Outcome State Fault Refusal :=
  .next (enterModeAnswer p ans s)

/-- ENTER_MODE_TIMEOUT: Enter Mode is sent again, up to 3 attempts in all (R284). -/
def execEnterModeTimeout (p : Port) (s : State) : Host.Outcome State Fault Refusal :=
  .next (if (s.slice p).th.step ≠ .enter then s
    else if (s.slice p).th.enterTries < 3 then thSendEnter p s else thStop p 6 s)

/-- LINK_SETTLE_END: polling begins at the next strobe (R285). -/
def execLinkSettleEnd (p : Port) (s : State) : Host.Outcome State Fault Refusal :=
  .next (if (s.slice p).th.thstat.state = 3 then onTh p (fun t => { t with settled := true }) s else s)

/-! ## REPORT (R288, R289, R292) -/

/-- The EMG test state of a REPORT changes to pass, fail or refused. -/
def emgTestResult (old new : Byte) : Bool :=
  let n := (new.extractLsb' 5 3).toNat
  old.extractLsb' 5 3 ≠ new.extractLsb' 5 3 && 3 ≤ n && n ≤ 5

/-- The commands queued when a link comes up (R285); a link that was lost sends FEGRANT again (R297). -/
def thLinkUp (sl : Slice) (wasLost : Bool) (t : SliceTh) : SliceTh :=
  let t := if t.thdim.cmdV && !wasLost then (thPush { msg := .dim t.thdim.cmd.toNat 0, cls := .sched } t).1 else t
  if feWouldAllow sl then (thPush { msg := .feGrant true 0, cls := .fe } t).1 else t

/-- Queue the DIM or SCENE held while the emergency scene was shown (R294). -/
def thUnhold (t : SliceTh) : SliceTh :=
  match t.held with
  | some c => (thPush { c with cls := .scene } { t with held := none }).1
  | none => t

/-- A valid REPORT that answers a POLL: its registers and the link's coming up (R285, R292, R297). -/
def thPollReport (p : Port) (r : ThReport) (s : State) : State :=
  let sl := s.slice p
  let old := sl.th.thstat.state
  let up := old = 3 || old = 5
  let s := onTh p (fun t => { t with
    rep0 := { vin := r.vin, iin := r.iin }, rep1 := { tled := r.tled, dim := r.dim, emg := r.emg }
    rep2 := { fault := r.fault, flags := r.flags, batt := r.batt, cnl := r.cnl }
    missPolls := 0, thstat := { t.thstat with state := 4 } }) s
  let s := if up then onTh p (thLinkUp (s.slice p) (old = 5)) s else s
  let s := if up then portEvent p 4 s else s
  feReport p r.cnl r.vin r.fault s

/-- What every REPORT shows: the far-end grant, the emergency scene and the event of R292 (R296). -/
def thFlags (p : Port) (r : ThReport) (s : State) : State :=
  let t := (s.slice p).th
  let feok := r.flags.getLsbD 0
  let event := feok != t.lastFlags.getLsbD 0 || (t.lastFault = 0 && r.fault ≠ 0) || emgTestResult t.lastEmg r.emg
  let had := t.thstat.fegnt
  let gnt := feok && (had || t.feAsked)
  let s := onTh p (fun t => { t with
    lastFlags := r.flags, lastFault := r.fault, lastEmg := r.emg, lastDim := r.dim.toNat
    thstat := { t.thstat with fegnt := gnt, emgscn := r.flags.getLsbD 3 } }) s
  let s := if r.flags.getLsbD 3 then s else onTh p thUnhold s
  let s := if event then portEvent p 4 s else s
  if had && !gnt then feEnd p s else s

/-- REPORT: a valid REPORT ends the exchange it answers (R288, R289, R292). -/
def execReport (p : Port) (seq : BitVec 4) (r : ThReport) (phase : BitVec 16) (s : State) : Host.Outcome State Fault Refusal :=
  let t := (s.slice p).th
  .next <|
    match t.out with
    | none => s
    | some q =>
      let s := if q = 0 && seq = 0 then thPollReport p r s else s
      let s := thFlags p r s
      let s :=
        if q ≠ 0 && seq = q then
          let (done, rest) := thTake q (s.slice p).th.queue
          let s := onTh p (fun t => { t with queue := rest }) s
          if r.flags.getLsbD 2 then done.foldl (fun s c => slotSkipped c.slot s) s else s
        else if q ≠ 0 then thFailedCmd p s else s
      onTh p (thGoOn phase) s

/-- THATCH_NO_RESPONSE: no REPORT within 300 µs (R288). -/
def execThatchNoResponse (p : Port) (phase : BitVec 16) (s : State) : Host.Outcome State Fault Refusal :=
  .next (if (s.slice p).th.out.isNone then s else
    s |> onTh p (fun t => { t with thcnt := { t.thcnt with noresp := satInc t.thcnt.noresp } })
      |> thFailedCmd p |> onTh p (thGoOn phase))

/-- THATCH_BAD_FRAME: a frame is discarded and counted; the exchange ends without a REPORT (R287). -/
def execThatchBadFrame (p : Port) (phase : BitVec 16) (s : State) : Host.Outcome State Fault Refusal :=
  let s := onTh p (fun t => { t with thcnt := { t.thcnt with badcrc := satInc t.thcnt.badcrc } }) s
  .next (if (s.slice p).th.out.isNone then s else s |> thFailedCmd p |> onTh p (thGoOn phase))

/-! ## Loss, exit and recovery (R297, R298) -/

/-- The link or the mode is left: the SBU mux goes high-Z and far-end regulation ends with its estimate discarded. -/
def thOff (p : Port) (s : State) : State :=
  s |> onPins p (fun x => { x with sbu := if x.sbu = .thatch then .highZ else x.sbu })
    |> feDiscard p

/-- Exit the mode (R298): the queue is dropped, the mux disconnected and Exit Mode sent; event 8n + 4. -/
def thExit (p : Port) (s : State) : State :=
  let st := (s.slice p).th.thstat.state
  if st = 3 || st = 4 || st = 5 then
    s |> onTh p (fun t => { thLeave t with step := .exiting })
      |> thOff p
      |> startAms p .sop (.vdm thatchSvid .exitMode .req) []
      |> portEvent p 4
  else s

/-- THATCH_LINK_LOST: 16 POLLs in a row without a valid REPORT (R285, R297). -/
def execThatchLinkLost (p : Port) (s : State) : Host.Outcome State Fault Refusal :=
  let t := (s.slice p).th
  .next (if 16 ≤ t.missPolls && (t.thstat.state = 3 || t.thstat.state = 4) then
    s |> onTh p (fun t => { t with thstat := { t.thstat with state := 5 } }) |> feEnd p |> portEvent p 4
  else s)

/-- THATCH_GIVE_UP: 64 cycles without a valid REPORT; the slice exits to re-enter 1 s later, at most three times
(R297). -/
def execThatchGiveUp (p : Port) (s : State) : Host.Outcome State Fault Refusal :=
  let t := (s.slice p).th
  .next (if 64 ≤ t.missPolls && t.thstat.state = 5 then
    let again := t.thstat.reent < 3
    s |> thExit p
      |> onTh p (fun t => { t with reenter := again, thstat := { t.thstat with state := if again then 0 else 6 } })
  else s)

/-- THATCH_REENTRY: 1 s after a loss exit the slice re-enters from Discover Modes (R297). -/
def execThatchReentry (p : Port) (s : State) : Host.Outcome State Fault Refusal :=
  .next (if (s.slice p).th.reenter then
    s |> onTh p (fun t => { t with reenter := false, thstat := { t.thstat with reent := t.thstat.reent + 1 } })
      |> thAdvance p .modes 1 (.vdm thatchSvid .discoverModes .req) []
  else s)

/-- A write of `SLC_THCTL`: the lock bit, EXIT and REENTER (R297, R298). -/
def writeThctl (p : Port) (w : Word) (s : State) : State :=
  let s := onTh p (fun t => { t with thctl := t.thctl.put w }) s
  let s := if getBit w 8 then thExit p s else s
  if getBit w 9 && (s.slice p).th.thstat.state = 6 then
    onTh p (fun t => { t with noMore := false, reenter := false, thstat := { t.thstat with state := 0, reent := 0 } }) s
  else s

/-- THATCH_EXIT: a write of `SLC_THCTL.EXIT` (R298). -/
def execThatchExit (p : Port) (s : State) : Host.Outcome State Fault Refusal := .next (writeThctl p 0x100 s)

/-- THATCH_REENTER: a write of `SLC_THCTL.REENTER` (R297). -/
def execThatchReenter (p : Port) (s : State) : Host.Outcome State Fault Refusal := .next (writeThctl p 0x200 s)

/-- What VDM_RESPONSE_TIMEOUT does. -/
def vdmResponseTimeout (p : Port) (s : State) : State :=
  let step := (s.slice p).th.step
  let s := if step = .idle || step = .enter then s else onSlice p Slice.endOwn s
  match step with
  | .identity => thIdentityAnswer p none s
  | .svids => thSvidsAnswer p [] s
  | .modes => thModesAnswer p [] s
  | .exiting => onTh p (fun t => { t with step := .idle }) s
  | _ => s

/-- VDM_RESPONSE_TIMEOUT: discovery or exit goes on without the answer (R244). -/
def execVdmResponseTimeout (p : Port) (s : State) : Host.Outcome State Fault Refusal := .next (vdmResponseTimeout p s)

/-- The scheduled commands of `OP` 0x01 for one port (R293, R294): what is queued, and whether the port is skipped. -/
def thScheduled (sub : Nat) (arg1 : Word) (slot : Fin 128 × Byte) (t : SliceTh) : SliceTh × Bool :=
  if t.thstat.state ≠ 4 then (t, true) else
  let mk (m : ThMsg) : ThCmd := { msg := m, cls := .sched, slot := some slot }
  let hold (c : ThCmd) (t : SliceTh) : SliceTh × Bool :=
    if t.thstat.emgscn then ({ t with held := some c }, false)
    else let (t', ok) := thPush c t; (t', !ok)
  match sub with
  | 1 =>
    let level := getField arg1 0 14
    hold (mk (.dim level.toNat (getField arg1 16 8))) { t with thdim := { t.thdim with cmd := level, cmdV := true } }
  | 2 => hold (mk (.scene (getField arg1 0 8) false)) t
  | 3 => let (t', ok) := thPush (mk (.ident (getField arg1 0 8))) t; (t', !ok)
  | _ =>
    if t.thstat.emgscn then (t, true)
    else let (t', ok) := thPush (mk (.etest (getField arg1 0 2))) t; (t', !ok)

/-- The emergency scene that the Policy Core queues on one port (R294). -/
def thEmergency (on : Bool) (t : SliceTh) : SliceTh :=
  if t.thstat.state ≠ 4 then t else
  if on then
    let n := if t.thcfg.emgscn = 0 then 1 else t.thcfg.emgscn
    (thPush { msg := .scene n true, cls := .scene } t).1
  else thUnhold (thPush { msg := .scene 0 false, cls := .scene } t).1

end Sys2Proof.Machine
end

