-- ==== Sys2Proof/Machine/Cycle.lean ====
section
/-!
DEFINITION. Zero-cross capture, the cycle clock, snapshots, the scheduler, the timers and SlaseLine (chapter 12).
-/

namespace Sys2Proof.Machine

/-! ## The cycle clock (R255 to R258) -/

/-- The clock's source by R257. -/
def wantedSource (s : State) : CycSrc :=
  if s.syn.stat.state = 2 && s.syn.cfg.en && !s.syn.cfg.master then .slase
  else if s.cyc.zcValid then .zc else .internal

/-- A period or an error in ns, in the units of L (R256). -/
def nsToLen (ns : Int) : Int := Int.tdiv (ns * 512) 10

/-- `x` held to `lo` to `hi`. -/
def clampInt (lo hi x : Int) : Int := if x < lo then lo else if hi < x then hi else x

/-- L_int of R256. -/
def internalLen (c : CycCfg) : Int := if c.intHz then 853333333 else 1024000000

/-- A reference instant of the source in use: period and error in ns, M cycles per reference (R256). -/
def reference (pNs eNs : Int) (m : Nat) (s : State) : State :=
  let p := nsToLen pNs
  let step := Int.tdiv (nsToLen eNs) (4 * m)
  let held := clampInt (-(Int.tdiv p 50)) (Int.tdiv p 50) step
  { s with cyc := { s.cyc with lt := p + held, slewE := held ≠ step, perr := eNs } }

/-- e: the time from the last local boundary, less L when it is L / 2 or more, in ns (R256). -/
def referenceError (since : Int) (s : State) : Int :=
  let lNs : Int := (s.cyc.len.toNat * 5 / 256 : Nat)
  if lNs ≤ 2 * since then since - lNs else since

/-- The length of the next cycle (R256), and whether the change of L was held. -/
def nextLen (c : Cyc) : Int × Bool :=
  let l : Int := c.len.toNat
  let d := c.lt - l
  let h := clampInt (-(Int.tdiv l 50)) (Int.tdiv l 50) d
  (l + h, h ≠ d)

/-- With the internal source every boundary is its reference, with e = 0 (R256, R257). -/
def internalReference (s : State) : State :=
  if wantedSource s = .internal then
    { s with cyc := { s.cyc with src := .internal, lt := internalLen s.cyc.cfg, slewE := false, perr := 0 } }
  else s

/-! ## Zero-cross capture (R253, R254) -/

/-- Edges per capture and cycles per capture (R253). -/
def zcEvery (c : CycCfg) : Nat × Nat :=
  let n := c.psc.toNat + 1
  if c.edge = 2 then
    let n := if n % 2 = 1 then n + 1 else n
    (n, n / 2)
  else (n, n)

/-- An edge of this polarity is counted. -/
def zcCounts (c : CycCfg) (rising : Bool) : Bool :=
  if c.edge = 2 then true else if c.edge = 1 then !rising else rising

/-- The reference instant of a capture, for a clock that follows ZC_IN; `since` is the time of the edge from the last
local boundary, ns. -/
def zcReference (p m : Nat) (since : Int) (s : State) : State :=
  if wantedSource s = .zc then
    let e := referenceError (since + s.cyc.cfg.ofs.toInt * 1000) s
    reference p e m { s with cyc := { s.cyc with src := .zc } }
  else s

/-- A capture at `t` µs (R253, R254). -/
def zcCaptureAt (t : Nat) (since : Int) (s : State) : State :=
  let c := s.cyc
  let m := (zcEvery c.cfg).2
  match c.zcLast with
  | none => { s with cyc := { c with zcLast := some t } }
  | some t0 =>
    let p := (t - t0) * 1000 / m
    let inRange := 15000000 ≤ p && p ≤ 22500000
    let near := c.zcP ≠ 0 && 100 * (max p c.zcP - min p c.zcP) ≤ c.zcP
    let good := if inRange && near then c.zcGood + 1 else 0
    let valid := c.cfg.zcEn && (if inRange && near then c.zcValid || 8 ≤ good else false)
    zcReference p m since { s with cyc := { c with
      zcLast := some t, zcP := p, zcper := BitVec.ofNat 32 p, zcGood := good, zcValid := valid } }

/-- What ZC_CAPTURE does. -/
def zcCapture (t : Nat) (rising : Bool) (since : Int) (s : State) : State :=
  if !s.cyc.running || !zcCounts s.cyc.cfg rising then s
  else if s.cyc.zcEdges + 1 < (zcEvery s.cyc.cfg).1 then { s with cyc := { s.cyc with zcEdges := s.cyc.zcEdges + 1 } }
  else zcCaptureAt t since { s with cyc := { s.cyc with zcEdges := 0 } }

/-- ZC_CAPTURE: an accepted edge of ZC_IN at `t` µs, `since` ns after the last local boundary (R253). -/
def execZcCapture (t : Nat) (rising : Bool) (since : Int) (s : State) : Host.Outcome State Fault Refusal := .next (zcCapture t rising since s)

/-- ZC_TIMEOUT: no capture within 1.5 × M × P (R254). -/
def execZcTimeout (s : State) : Host.Outcome State Fault Refusal :=
  .next { s with cyc := { s.cyc with zcValid := false, zcGood := 0 } }

/-! ## Timers (R270, R271) -/

/-- One tick of a timer that counts cycle-boundary strobes, or the tick after it has reached TOP (R270). -/
def timerTick (t : Timer) : Timer :=
  if !t.ctl.en then t
  else if t.cnt = t.top then
    if t.ctl.oneshot then { t with ctl := { t.ctl with en := false }, stat := { t.stat with ovf := true } }
    else { t with cnt := 0, stat := { matchF := t.stat.matchF || t.matchV = 0, ovf := true } }
  else { t with cnt := t.cnt + 1, stat := { t.stat with matchF := t.stat.matchF || t.cnt + 1 = t.matchV } }

/-- TIMER_MATCH on timer `k`: its count has reached TOP and the next tick comes (`atTop`), or it equals MATCH (R270). -/
def timerMatch (atTop : Bool) (t : Timer) : Timer :=
  if !t.ctl.en then t
  else if atTop then timerTick { t with cnt := t.top }
  else { t with cnt := t.matchV, stat := { t.stat with matchF := true } }

/-- Change timer `k`. -/
def onTimer (k : Fin 8) (f : Timer → Timer) (s : State) : State :=
  { s with cyc := { s.cyc with timers := updAt s.cyc.timers k f } }

/-- TIMER_MATCH (R270). -/
def execTimerMatch (k : Fin 8) (atTop : Bool) (s : State) : Host.Outcome State Fault Refusal :=
  .next (onTimer k (timerMatch atTop) s)

/-- The load rule of R173 and R271: (CN − `at`) mod 256 is 0 to 127. -/
def loadDue (cn : Word) (at_ : Byte) : Bool := (cn.setWidth 8 - at_ : Byte).toNat < 128

/-- An armed timer loads at this strobe, or at a renumbering (R258, R271). -/
def timerLoad (force : Bool) (cn : Word) (t : Timer) : Timer :=
  if t.ctl.ldArm && (force || loadDue cn t.ctl.ldCn) then
    { t with cnt := t.load, ctl := { t.ctl with ldArm := false } }
  else t

/-! ## The scheduler (R263 to R269) -/

/-- The number of pending entries from sources other than SlaseLine (R264). -/
def hostPending (s : State) : Nat := s.cyc.slots.toList.countP (fun x => x.isOpen && x.entry.src != .slase)

/-- The DIM, SCENE, IDENT and ETEST arguments of R293. -/
def thArgsOk (sub : Nat) (arg1 : Word) : Bool :=
  match sub with
  | 1 => (arg1 &&& 0xFF00C000) == 0 && (getField arg1 0 14).toNat ≤ 10000
  | 2 => (arg1 &&& 0xFFFFFF00) == 0
  | 3 => (arg1 &&& 0xFFFFFF00) == 0
  | 4 => (arg1 &&& 0xFFFFFFFC) == 0 && (getField arg1 0 2).toNat ≤ 2
  | _ => false

/-- The arguments of an operation are valid (R264, Tables 12.1 and R293). -/
def argsOk (op : Byte) (arg0 arg1 : Word) : Bool :=
  if op = 1 then getField arg0 0 24 != 0 && thArgsOk (getField arg0 24 8).toNat arg1
  else if op = 2 then getField arg0 0 24 != 0 && getField arg0 24 8 == 0 && (arg1 &&& 0xFFFFFE00) == 0
  else if op = 3 then arg0 == 0 && (arg1 == 1 || arg1 == 2)
  else if op = 4 then arg0 == 0 && arg1 == 0
  else if op = 5 then getField arg0 0 16 != 0 && getField arg0 16 16 == 0 && arg1 == 0
  else false

/-- The operation is known and allowed from the source (Table 12.1). -/
def opAllowed (op : Byte) (src : SchedSrc) : Bool :=
  op == 1 || op == 2 || op == 3 || op == 4 || (op == 5 && src != .slase)

/-- The refusal cause of an entry, 0 when it is accepted (R264). -/
def submitCause (e : SchedEntry) (s : State) : BitVec 4 :=
  if pendingCount s = 128 || (e.src ≠ .slase && 112 ≤ hostPending s) then 1
  else if !opAllowed e.op e.src then 2
  else if !argsOk e.op e.arg0 e.arg1 then 3
  else 0

/-- All the slot numbers. -/
def allSlots : List (Fin 128) := List.ofFn id

/-- The slot a new entry takes: a free one, or the one whose entry finished first (R264). -/
def slotFor (s : State) : Option (Fin 128) :=
  match allSlots.find? (fun k => (s.cyc.slots.get k).st == .free) with
  | some k => some k
  | none => allSlots.foldl (fun best k =>
      let x := s.cyc.slots.get k
      if x.isOpen then best else
      match best with
      | none => some k
      | some b => if x.order < (s.cyc.slots.get b).order then some k else best) none

/-- The target CN and phase are past at (CN, `phase`) (R260, R266). -/
def pastDue (e : SchedEntry) (cn : Word) (phase : BitVec 16) : Bool :=
  let d := e.tcn - cn
  d.msb || (d == 0 && (if e.op = 4 then 0 else e.tphase.toNat) ≤ phase.toNat)

/-- Submit an entry at phase `phase` of the present cycle: the cause, and the slot of an accepted entry (R263, R264). -/
def submit (e : SchedEntry) (phase : BitVec 16) (s : State) : State × BitVec 4 × Option (Fin 128) :=
  let c := submitCause e s
  if c ≠ 0 then (s, c, none) else
  match slotFor s with
  | none => (s, 1, none)
  | some k =>
    let before := pendingCount s
    let s := onSlot k (fun x =>
      { st := .pending, gen := x.gen + 1, entry := e, late := pastDue e s.cyc.cn phase, order := s.cyc.orders }) s
    let s := { s with cyc := { s.cyc with orders := s.cyc.orders + 1 } }
    let s := if before = 115 then globalEvent 205 (cycStatWord s) 0 s else s
    (s, 0, some k)

/-- The handle of a slot: `GEN` × 128 + slot (R263). -/
def slotHandle (k : Fin 128) (s : State) : BitVec 15 := BitVec.ofNat 15 ((s.cyc.slots.get k).gen.toNat * 128 + k.val)

/-- `CYC_LDSTAT` after a submission (R263). -/
def ldstatOf (r : State × BitVec 4 × Option (Fin 128)) : CycLdstat :=
  match r.2.2 with
  | some k => { result := 1, late := (r.1.cyc.slots.get k).late, handle := slotHandle k r.1 }
  | none => { result := 2, cause := r.2.1 }

/-- Submit what a requester's load registers hold. -/
def schedGo (q : Requester) (phase : BitVec 16) (s : State) : State :=
  let bk := bankOf q s
  let ld := s.cyc.banks.get bk
  let r := submit { tcn := ld.ld0, tphase := ld.ld1.tphase, op := ld.ld1.op, arg0 := ld.ld2, arg1 := ld.ld3, src := schedSrcOf bk } phase s
  onLdBank bk (fun x => { x with stat := ldstatOf r }) r.1

/-- The result of an abort by handle (R267): 3, 4 or 5, with the slot it reaches. -/
def abortResult (bk : Bank) (h : BitVec 15) (s : State) : BitVec 3 × Option (Fin 128) :=
  let k : Fin 128 := ⟨h.toNat % 128, Nat.mod_lt _ (by decide)⟩
  let x := s.cyc.slots.get k
  if !x.isOpen || x.gen.toNat ≠ h.toNat / 128 || (bk ≠ .w && (x.entry.src = .slase || x.entry.src ≠ schedSrcOf bk)) then (5, none)
  else if x.committed || x.st = .waiting then (4, some k) else (3, some k)

/-- A write of `CYC_LDCTL.ABORT` (R267). -/
def schedAbort (q : Requester) (h : BitVec 15) (s : State) : State :=
  let bk := bankOf q s
  let r := abortResult bk h s
  let s := match r.2 with
    | none => s
    | some k =>
      if r.1 = 3 then
        let s' := onSlot k (fun x => { x with st := .aborted, order := s.cyc.orders }) s
        { s' with cyc := { s'.cyc with orders := s'.cyc.orders + 1 } }
      else onSlot k (fun x => { x with abortLate := true }) s
  onLdBank bk (fun x => { x with stat := { x.stat with result := r.1 } }) s

/-- A write of `CYC_LDCTL` at phase `phase`: the handle, then GO, then ABORT (R263). -/
def writeLdctl (q : Requester) (phase : BitVec 16) (w : Word) (s : State) : State :=
  let s := { s with cyc := { s.cyc with handle := getField w 16 15 } }
  let s := if getBit w 0 then schedGo q phase s else s
  if getBit w 1 then schedAbort q s.cyc.handle s else s

/-- SCHED_GO: a write of `CYC_LDCTL.GO` at phase `phase` of the cycle (R263). -/
def execSchedGo (q : Requester) (phase : BitVec 16) (s : State) : Host.Outcome State Fault Refusal :=
  .next (writeLdctl q phase (1 ||| putField s.cyc.handle 16) s)

/-- SCHED_ABORT: a write of `CYC_LDCTL.ABORT` with a handle (R267). -/
def execSchedAbort (q : Requester) (handle : BitVec 15) (s : State) : Host.Outcome State Fault Refusal :=
  .next (writeLdctl q 0 (2 ||| putField handle 16) s)

/-- The ports of a mask. -/
def maskPorts (m : Word) : List Port := allPorts.filter (fun p => m.getLsbD p.val)

/-- Carry an entry out (R265): the new state and `RES`. -/
def carryOut (k : Fin 128) (e : SchedEntry) (gen : Byte) (s : State) : State × BitVec 2 :=
  if e.op = 1 then
    (maskPorts e.arg0).foldl (fun (r : State × BitVec 2) p =>
      let (t, skip) := thScheduled (getField e.arg0 24 8).toNat e.arg1 (k, gen) (r.1.slice p).th
      (onTh p (fun _ => t) r.1, if skip then 2 else r.2)) (s, 1)
  else if e.op = 2 then
    ((maskPorts e.arg0).foldl (fun s p => onPortBud p (fun b => { b with pcfg := { b.pcfg with hlim := getField e.arg1 0 9 } }) s) s, 1)
  else if e.op = 3 then
    let (s', ok) := etestStart (getField e.arg1 0 2) s
    (s', if ok then 1 else 3)
  else if e.op = 4 then (takeSnapshot s, 1)
  else
    let (s', ok) := dmaTrigger (schedBank e.src) (getField e.arg0 0 16) s
    (s', if ok then 1 else 2)

/-- Run an entry: it is done, with its result (R265, R268). -/
def runEntry (k : Fin 128) (late : Bool) (s : State) : State :=
  let x := s.cyc.slots.get k
  let late := late || x.late
  let (s, r) := carryOut k x.entry x.gen s
  let s := onSlot k (fun y => { y with
    st := .done, late := late, res := (if r = 1 && y.res = 2 then 2 else r), order := s.cyc.orders, ranCn := s.cyc.cn }) s
  let s := { s with cyc := { s.cyc with orders := s.cyc.orders + 1 } }
  if late then globalEvent 206 (slotWord (s.cyc.slots.get k)) k.val s else s

/-- The entry in slot `k` is due with operation `op`: it runs, or waits for the hold line when it changes a grant (R26). -/
def dispatchEntry (k : Fin 128) (op : Byte) (s : State) : State :=
  let x := s.cyc.slots.get k
  if x.st ≠ .pending || x.entry.op ≠ op || !x.committed then s
  else if s.sup.hold && op = 2 then onSlot k (fun y => { y with st := .waiting, ranCn := s.cyc.cn }) s
  else runEntry k false s

/-- The hold line has fallen: waiting entries run in order of acceptance; one whose cycle has passed is late (R26). -/
def runWaiting (s : State) : State :=
  let ks := sortBy (fun a b => (s.cyc.slots.get a).order ≤ (s.cyc.slots.get b).order)
    (allSlots.filter (fun k => (s.cyc.slots.get k).st == .waiting))
  ks.foldl (fun s k => runEntry k ((s.cyc.slots.get k).ranCn ≠ s.cyc.cn) s) s

/-- THATCH_COMMAND: the due entry of `OP` 0x01 in a slot runs (R293). -/
def execThatchCommand (k : Fin 128) (s : State) : Host.Outcome State Fault Refusal := .next (dispatchEntry k 1 s)

/-- HOST_LIMIT: the due entry of `OP` 0x02 runs, or waits for the hold line (R26, R265). -/
def execHostLimit (k : Fin 128) (s : State) : Host.Outcome State Fault Refusal := .next (dispatchEntry k 2 s)

/-- EMERGENCY_TEST: the due entry of `OP` 0x03 runs (R265). -/
def execEmergencyTest (k : Fin 128) (s : State) : Host.Outcome State Fault Refusal := .next (dispatchEntry k 3 s)

/-- SNAPSHOT: the due entry of `OP` 0x04 runs (R262). -/
def execSnapshot (k : Fin 128) (s : State) : Host.Outcome State Fault Refusal := .next (dispatchEntry k 4 s)

/-- DMA_TRIGGER: the due entry of `OP` 0x05 runs (R335). -/
def execDmaTrigger (k : Fin 128) (s : State) : Host.Outcome State Fault Refusal := .next (dispatchEntry k 5 s)

/-! ## The cycle boundary (R15, R255, R256, R258) -/

/-- What a renumbering by `d` does beside the numbers themselves (R258). -/
def renumberBy (d : Word) (s : State) : State :=
  let s := { s with cyc := { s.cyc with
    renum := true
    slots := mapVec (fun x =>
      if x.st = .pending && !x.committed then { x with entry := { x.entry with tcn := x.entry.tcn + d } } else x) s.cyc.slots
    timers := mapVec (timerLoad true s.cyc.cn) s.cyc.timers } }
  overPorts (fun p s => phaseLoad p true s) s

/-- CN and the epoch take new values at this boundary (R258). -/
def renumber (cn : Word) (ep : BitVec 16) (s : State) : State :=
  let d := cn - s.cyc.cn
  let s := { s with cyc := { s.cyc with cn := cn, epoch := ep } }
  if d = 0 then s else renumberBy d s

/-- CN advances; the epoch takes its wrap (R255). -/
def advanceCn (s : State) : State :=
  let cn := s.cyc.cn + 1
  let s := { s with cyc := { s.cyc with cn := cn } }
  if cn = 0 then
    let s := { s with cyc := { s.cyc with epoch := s.cyc.epoch + 1 } }
    globalEvent 225 (putField s.cyc.epoch 16) 0 s
  else s

/-- The renumberings due at this boundary: SlaseLine lock, and TIME-SETs that name the cycle that begins (R258). -/
def applyRenumberings (s : State) : State :=
  let s := match s.syn.lockAt with
    | some (cn, ep) => renumber cn ep { s with syn := { s.syn with lockAt := none } }
    | none => s
  let cn := s.cyc.cn
  match s.cyc.timeSets.find? (fun t => t.apply == cn) with
  | some t => renumber t.newCn t.newEp { s with cyc := { s.cyc with timeSets := s.cyc.timeSets.filter (fun u => u.apply != cn) } }
  | none => s

/-- Every slice latches its live snapshot set at the strobe (R15, R261). -/
def latchSnapshots (ms : List SnapMeas) (s : State) : State :=
  overPorts (fun p s =>
    let m := ms.getD p.val {}
    let sl := s.slice p
    onSlice p (fun x => { x with
      ps := { x.ps with fePrevI := x.snap.i.iout.toInt, feBad := x.off.changing || s.sup.hold }
      snap := {
      cn := s.cyc.cn, v := { vbus := m.vbus, vcnv := m.vcnv }, i := { iout := m.iout, pout := m.pout }
      elo := sl.ps.eno.setWidth 32, ehi := (sl.ps.eno >>> 32).setWidth 16
      st := { state := sl.att.attstat.state, orient := sl.att.attstat.orient, pdConn := sl.pd.pdstat.pdConn
              pstate := sl.pr.prstat.pstate, volt := sl.off.contract.volt } } }) s) s

/-- The square of a port's snapshot current joins its sum (R247). -/
def addSquare (p : Port) (s : State) : State :=
  let i := (s.slice p).snap.i.iout.toInt.toNat
  onPortKln p (fun k => { k with sumSq := k.sumSq + i * i }) s

/-- One more cycle, and one more snapshot, of the kiln's interval. -/
def countSnap (s : State) : State := { s with kln := { s.kln with cycles := s.kln.cycles + 1, snaps := s.kln.snaps + 1 } }

/-- The kiln's running sums take the snapshot currents; a negative current counts as 0 (R247). -/
def collectCurrents (s : State) : State := countSnap (overPorts addSquare s)

/-- Entries whose cycle begins are committed; one accepted after its due instant runs from here (R267, R268). -/
def commitEntries (s : State) : State :=
  { s with cyc := { s.cyc with slots := mapVec (fun x =>
      if x.st = .pending && (x.entry.tcn = s.cyc.cn || x.late) then { x with committed := true } else x) s.cyc.slots } }

/-- The bytes of a SlaseLine frame (R273). -/
def synFrame (kind : Byte) (payload : List Byte) : List Byte :=
  let body := [0x10 ||| kind, BitVec.ofNat 8 payload.length] ++ payload
  0xC3 :: body ++ crc16Bytes body

/-- The master's TICK of the cycle that begins (R274, R275). -/
def tickFrame (s : State) : List Byte :=
  synFrame 1 (le16 s.syn.cfg2.dom ++ le32 s.cyc.cn ++ le16 s.cyc.epoch ++ le16 (s.syn.cfg.addr.setWidth 16)
    ++ [if s.cyc.src = .zc then 1 else 0])

/-- Put frames on the line. -/
def synSend (fs : List (List Byte)) (s : State) : State :=
  { s with syn := { s.syn with line := (fs.reverse ++ s.syn.line).take 3 } }

/-- The boundary's number, length and strobe (R255 to R258). -/
def boundaryClock (s : State) : State :=
  let s := s |> advanceCn |> applyRenumberings |> internalReference
  let (l, h) := nextLen s.cyc
  { s with cyc := { s.cyc with
    len := BitVec.ofInt 32 l, slewL := h, snapTaken := false
    timers := mapVec (fun t => if t.ctl.clk = 3 then timerTick (timerLoad false s.cyc.cn t) else timerLoad false s.cyc.cn t) s.cyc.timers } }

/-- CYCLE_BOUNDARY: CN advances, the strobe is driven and the next length is set; `ms` gives, port by port, what the
slice ADCs have measured (R255). -/
def cycleBoundary (ms : List SnapMeas) (s : State) : State :=
  if !s.cyc.running then s else
  let s := s |> boundaryClock |> overPorts (fun p s => phaseLoad p false s) |> latchSnapshots ms |> collectCurrents
    |> commitEntries |> overPorts (fun p s => onTh p (thStrobe s.cyc.cn) s) |> overPorts feCycle
  let s := { s with syn := { s.syn with open_ := s.syn.open_.filter (fun o => !(o.2 - s.cyc.cn).msb) } }
  if s.syn.stat.state = 4 then synSend [tickFrame s] s else s

/-- CYCLE_BOUNDARY (R255). -/
def execCycleBoundary (ms : List SnapMeas) (s : State) : Host.Outcome State Fault Refusal := .next (cycleBoundary ms s)

/-! ## SlaseLine (R272 to R281) -/

/-- A frame of another domain: counted and discarded (R273). -/
def synForeign (s : State) : State :=
  { s with syn := { s.syn with cnt := { s.syn.cnt with foreign := satInc s.syn.cnt.foreign } } }

/-- Change the state of `SYN_STAT`. -/
def setSynState (n : BitVec 3) (s : State) : State := { s with syn := { s.syn with stat := { s.syn.stat with state := n } } }

/-- The mean of the last intervals, ns (R256). -/
def meanInterval (l : List Nat) : Nat := if l.isEmpty then 0 else l.sum / l.length

/-- The domain cycle whose boundary lies nearest to the next local boundary, after a TICK whose reference instant came
`since` ns after the last one (R258). -/
def nearestCycle (tick : SynTick) (since : Int) (period : Nat) (s : State) : Word × BitVec 16 :=
  let lNs : Int := (s.cyc.len.toNat * 5 / 256 : Nat)
  if 2 * (lNs - since) ≤ period then (tick.cn, tick.epoch)
  else (tick.cn + 1, if tick.cn + 1 = 0 then tick.epoch + 1 else tick.epoch)

/-- A TICK taken as a reference instant at `r` ns by a hub that is acquiring (R276). -/
def tickAcquire (tick : SynTick) (r since : Int) (s : State) : State :=
  let y := s.syn
  let gap := r - y.lastT
  let follows := 0 < y.run && tick.cn = y.lastCn + 1 && 15000000 ≤ gap && gap ≤ 22500000
  let run := if follows then y.run + 1 else 1
  let ints := if follows then (gap.toNat :: y.intervals).take 8 else []
  let s := { s with syn := { y with run := run, lastT := r, lastCn := tick.cn, intervals := ints
                                    stat := { y.stat with state := 1 } } }
  if run < 8 then s else
  let s := { s with syn := { s.syn with stat := { s.syn.stat with state := 2, miss := 0 }
                                        lockAt := some (nearestCycle tick since (meanInterval ints) s) } }
  globalEvent 204 s.syn.stat.toWord 0 s

/-- A TICK that a locked hub takes: it matches within 10 % of L and by CN; any other is no reference (R276). -/
def tickLocked (tick : SynTick) (r since : Int) (s : State) : State :=
  let e := referenceError since s
  let lNs : Int := (s.cyc.len.toNat * 5 / 256 : Nat)
  let cn := if e < 0 then s.cyc.cn + 1 else s.cyc.cn
  if 10 * e.natAbs ≤ lNs.toNat && tick.cn = cn then
    let gap := (r - s.syn.lastT).toNat
    let ints := if tick.cn = s.syn.lastCn + 1 then (gap :: s.syn.intervals).take 8 else s.syn.intervals
    let s := { s with syn := { s.syn with lastT := r, lastCn := tick.cn, intervals := ints, stat := { s.syn.stat with miss := 0 } } }
    if wantedSource s = .slase then reference (meanInterval ints) e 1 { s with cyc := { s.cyc with src := .slase } } else s
  else s

/-- A TICK heard by a master that is not transmitting (R280). -/
def tickConflict (tick : SynTick) (s : State) : State :=
  let below := (tick.maddr.setWidth 14 : BitVec 14).toNat < s.syn.cfg.addr.toNat
  let s := { s with syn := { s.syn with stat := { s.syn.stat with conflict := true, state := if below then 5 else s.syn.stat.state } } }
  globalEvent 203 s.syn.stat.toWord 0 s

/-- SLASELINE_TICK: a valid TICK whose SYNC byte began at `t` ns, `since` ns after the last local boundary; `tx` says
that a master was transmitting (R276, R280). -/
def slaselineTick (tick : SynTick) (t since : Int) (tx : Bool) (s : State) : State :=
  let dly : Int := s.syn.cfg2.dly.toNat * 1000
  let st := s.syn.stat.state
  if !s.syn.cfg.en || st = 0 then s
  else if tick.dom ≠ s.syn.cfg2.dom then synForeign s
  else if st = 4 then (if tx then s else tickConflict tick s)
  else if st = 2 then tickLocked tick (t - dly) (since - dly) s
  else if st = 5 then s
  else tickAcquire tick (t - dly) (since - dly) s

/-- SLASELINE_TICK (R276). -/
def execSlaselineTick (tick : SynTick) (t since : Int) (tx : Bool) (s : State) : Host.Outcome State Fault Refusal :=
  .next (slaselineTick tick t since tx s)

/-- TICK_MISSED: no matching TICK at a boundary; after 8 the hub is lost (R276). -/
def tickMissed (s : State) : State :=
  if s.syn.stat.state ≠ 2 then s else
  let s := { s with syn := { s.syn with stat := { s.syn.stat with miss := satInc s.syn.stat.miss } } }
  if s.syn.stat.miss.toNat < 8 then s
  else
    let s := { s with syn := { s.syn with stat := { s.syn.stat with state := 3 }, run := 0, intervals := [] } }
    globalEvent 203 s.syn.stat.toWord 0 s

/-- TICK_MISSED (R276). -/
def execTickMissed (s : State) : Host.Outcome State Fault Refusal := .next (tickMissed s)

/-- A SCHEDULE or SNAPSHOT frame is addressed to the hub (R278). -/
def synAddressed (akind : Nat) (addr : Nat) (s : State) : Bool :=
  (akind == 0 && addr == s.syn.cfg.addr.toNat)
    || (akind == 1 && addr ≤ 255 && (s.syn.grp.toList.getD (addr / 32) 0).getLsbD (addr % 32))
    || akind == 2

/-- The hub has acted on a command (R278). -/
def actedOn (cmd : Word) (s : State) : State := { s with syn := { s.syn with acted := (cmd :: s.syn.acted).take 64 } }

/-- A repeated command: counted and ignored (R278). -/
def synDup (s : State) : State := { s with syn := { s.syn with cnt := { s.syn.cnt with dup := satInc s.syn.cnt.dup } } }

/-- Submit a SlaseLine entry; a refusal is counted (R264). -/
def synSubmit (e : SchedEntry) (phase : BitVec 16) (s : State) : State :=
  let r := submit e phase s
  if r.2.1 = 0 then r.1
  else { r.1 with syn := { r.1.syn with cnt := { r.1.syn.cnt with drop := satInc r.1.syn.cnt.drop } } }

/-- A frame of the hub's own domain while it is locked: act on it unless it is a repeat (R278). -/
def synCommand (dom : BitVec 16) (cmd : Word) (addressed : Bool) (act : State → State) (s : State) : State :=
  if dom ≠ s.syn.cfg2.dom then synForeign s
  else if s.syn.stat.state ≠ 2 || !addressed then s
  else if s.syn.acted.contains cmd then synDup s
  else act (actedOn cmd s)

/-- SCHEDULE: a received SCHEDULE frame at phase `phase` of the cycle (R278). -/
def execSchedule (a : SynAddr) (tcn : Word) (tphase : BitVec 16) (op : Byte) (arg0 arg1 : Word) (phase : BitVec 16)
    (s : State) : Host.Outcome State Fault Refusal :=
  .next (synCommand a.dom a.cmd (synAddressed a.akind.toNat a.addr.toNat s)
    (synSubmit { tcn := tcn, tphase := tphase, op := op, arg0 := arg0, arg1 := arg1, src := .slase, cmd := a.cmd } phase) s)

/-- SNAPSHOT_FRAME: a received SNAPSHOT frame (R278). -/
def execSnapshotFrame (a : SynAddr) (tcn : Word) (phase : BitVec 16) (s : State) : Host.Outcome State Fault Refusal :=
  .next (synCommand a.dom a.cmd (synAddressed a.akind.toNat a.addr.toNat s)
    (synSubmit { tcn := tcn, tphase := 0, op := 4, arg0 := 0, arg1 := 0, src := .slase, cmd := a.cmd } phase) s)

/-- A renumbering is due at the boundary of cycle `t.apply` (R258). -/
def addTimeSet (t : TimeSet) (s : State) : State := { s with cyc := { s.cyc with timeSets := t :: s.cyc.timeSets } }

/-- TIME_SET: a received TIME-SET frame (R278). -/
def execTimeSet (dom : BitVec 16) (cmd : Word) (t : TimeSet) (s : State) : Host.Outcome State Fault Refusal :=
  .next (synCommand dom cmd true (addTimeSet t) s)

/-- SLASELINE_BAD_FRAME: a malformed frame, or one of another domain (R273). -/
def execSlaselineBadFrame (foreign : Bool) (s : State) : Host.Outcome State Fault Refusal :=
  .next (if foreign then synForeign s
    else { s with syn := { s.syn with cnt := { s.syn.cnt with bad := satInc s.syn.cnt.bad } } })

/-- The frame time of a command's kind, µs (Table 12.2). -/
def frameTimeUs (kind : BitVec 2) : Nat := if kind = 1 then 300 else if kind = 2 then 190 else 220

/-- L_min of R281, in cycles. -/
def leadMin (kind : BitVec 2) (s : State) : Nat :=
  ceilDiv ((s.syn.cfg.depth.toNat * 40 + 3 * frameTimeUs kind) * 1000 * 256) (s.cyc.len.toNat * 5) + 1

/-- Change a requester's transmit bank. -/
def onSynBank (bk : Bank) (f : SynBank → SynBank) (s : State) : State :=
  { s with syn := { s.syn with banks := s.syn.banks.upd bk f } }

/-- The command a requester's transmit registers hold, with its target (R279). -/
def synCmdOf (bk : Bank) (s : State) : SynCmd :=
  let x := s.syn.banks.get bk
  let t := if x.tx0.asap then
      s.cyc.cn + BitVec.ofNat 32 (max (max 2 s.syn.cfg.lead.toNat) (leadMin x.tx0.kind s))
    else x.tx1
  { id := s.syn.nextId, kind := x.tx0.kind, akind := x.tx0.akind, addr := x.tx0.addr, target := t, tphase := x.tx4.tphase
    op := x.tx0.op, arg0 := x.tx2, arg1 := x.tx3, bank := bk }

/-- The lead of a command is below L_min. -/
def leadShort (c : SynCmd) (s : State) : Bool :=
  let d := c.target - s.cyc.cn
  d.msb || d.toNat < leadMin c.kind s

/-- A field of the command is invalid (R279, cause 4). -/
def synInvalid (c : SynCmd) : Bool :=
  c.kind == 0
    || (c.kind != 3 && (c.akind == 3 || (c.akind == 1 && 255 < c.addr.toNat)))
    || (c.kind == 1 && !(opAllowed c.op .slase && argsOk c.op c.arg0 c.arg1))

/-- The refusal cause of a command, 0 when it is accepted (R279). -/
def synCause (c : SynCmd) (asap : Bool) (s : State) : BitVec 4 :=
  if s.syn.stat.state ≠ 4 then 1
  else if !asap && leadShort c s then 2
  else if 4 ≤ s.syn.queue.length then 3
  else if synInvalid c then 4
  else 0

/-- A write of `SYN_TXCTL.GO` (R279). -/
def synGo (q : Requester) (s : State) : State :=
  let bk := bankOf q s
  let c := synCmdOf bk s
  let cause := synCause c (s.syn.banks.get bk).tx0.asap s
  if cause ≠ 0 then onSynBank bk (fun x => { x with stat := { x.stat with result := 3, cause := cause } }) s
  else
    let s := onSynBank bk (fun x => { x with cmd := c.id, stat := { x.stat with result := 1, cause := 0 } }) s
    { s with syn := { s.syn with nextId := s.syn.nextId + 1, queue := s.syn.queue ++ [c], open_ := s.syn.open_ ++ [(c.id, c.target)] } }

/-- SYN_GO (R279). -/
def execSynGo (q : Requester) (s : State) : Host.Outcome State Fault Refusal := .next (synGo q s)

/-- The bytes of one copy of a command (R274). -/
def commandFrame (c : SynCmd) (rep : Byte) (s : State) : List Byte :=
  let head := le16 s.syn.cfg2.dom ++ le32 c.id ++ [rep]
  let addr := [c.akind.setWidth 8] ++ le16 (c.addr.setWidth 16)
  if c.kind = 1 then synFrame 2 (head ++ addr ++ le32 c.target ++ le16 c.tphase ++ [c.op] ++ le32 c.arg0 ++ le32 c.arg1)
  else if c.kind = 2 then synFrame 3 (head ++ addr ++ le32 c.target)
  else synFrame 4 (head ++ le32 c.target ++ le32 c.arg0 ++ le16 (c.arg1.setWidth 16))

/-- What the master does for itself with a command it sends (R258, R279). -/
def ownCommand (c : SynCmd) (s : State) : State :=
  if c.kind = 3 then addTimeSet { apply := c.target, newCn := c.arg0, newEp := c.arg1.setWidth 16 } s
  else if !synAddressed c.akind.toNat c.addr.toNat s then s
  else if c.kind = 2 then
    synSubmit { tcn := c.target, tphase := 0, op := 4, arg0 := 0, arg1 := 0, src := .slase, cmd := c.id } 0 s
  else synSubmit { tcn := c.target, tphase := c.tphase, op := c.op, arg0 := c.arg0, arg1 := c.arg1, src := .slase, cmd := c.id } 0 s

/-- SYN_COMMAND_SEND: the master checks the lead of the oldest waiting command again, then sends it three times or
discards it (R279). -/
def synCommandSend (s : State) : State :=
  match s.syn.queue with
  | [] => s
  | c :: rest =>
    let s := { s with syn := { s.syn with queue := rest } }
    if s.syn.stat.state ≠ 4 || leadShort c s then
      onSynBank c.bank (fun x => { x with stat := { x.stat with result := 4 } })
        { s with syn := { s.syn with open_ := s.syn.open_.filter (fun o => o.1 != c.id) } }
    else
      s |> ownCommand c |> synSend [commandFrame c 0 s, commandFrame c 1 s, commandFrame c 2 s]
        |> onSynBank c.bank (fun x => { x with stat := { x.stat with result := 2 } })

/-- SYN_COMMAND_SEND (R279). -/
def execSynCommandSend (s : State) : Host.Outcome State Fault Refusal := .next (synCommandSend s)

/-- A write of `SYN_CTL`: the lock bit and CNT_CLR. -/
def writeSynCtl (w : Word) (s : State) : State :=
  { s with syn := { s.syn with ctl := s.syn.ctl.put w, cnt := if getBit w 8 then {} else s.syn.cnt } }

/-- SYN_CNT_CLEAR: a write of `SYN_CTL.CNT_CLR` (R273). -/
def execSynCntClear (s : State) : Host.Outcome State Fault Refusal := .next (writeSynCtl 0x100 s)

end Sys2Proof.Machine
end

