-- ==== Sys2Proof/Machine/ProtectOps.lean ====
section
/-!
DEFINITION. Trips, retry attempts and latch-off (R216 to R225), and what begins when VBUS reaches vSafe5V (R101, R128).
-/

namespace Sys2Proof.Machine

/-- `SLC_PRRETRY.COUNT` as the slice takes it: unlimited on a tier-0 port (R223). -/
def retryCount (p : Port) (s : State) : Nat := if portTier s p = 0 then 0 else (s.slice p).pr.prretry.count.toNat

/-- A swap is in progress or a power transition runs (R221). -/
def inExchange (x : Slice) : Bool := powerTransition x || x.sw.swstat.swap ≠ 0

/-- A Source port trips with a cause; `i` in mA and `v` in 10 mV are those of the last conversion (Table 10.3, R219 to R223).
A cause during an off time, a latch or a failed self-check has no effect. -/
def trip (p : Port) (cause : BitVec 4) (i v : BitVec 16) (s : State) : State :=
  let x := s.slice p
  let st := x.pr.prstat
  if (st.pstate ≠ 0 && st.pstate ≠ 2) || !(x.ps.running || x.pins.isog) then s else
  let tries := if st.pstate = 2 then satInc st.tries else st.tries
  let n := retryCount p s
  let latched := st.pstate = 2 && n ≠ 0 && n ≤ tries.toNat
  let s := onSlice p (fun x =>
    let x := { x with pr := { x.pr with
      tripv := { itrip := i, vtrip := v }, tenSec := false, attemptDue := false
      prstat := { x.pr.prstat with cause := cause, pstate := if latched then 3 else 1, trips := satInc x.pr.prstat.trips, tries := tries } } }
    let x := { x with sw := { x.sw with swstat := { x.sw.swstat with frsArmed := false } } }
    x.powerOff.pump) s
  let s := tripEvent p latched s
  if inExchange x then
    s |> onPr p (fun r => { r with restore := true, recovered := false }) |> sendHardReset p
  else s

/-- A retry attempt starts: the self-check and the converter start (R222); not while the hold line is asserted, nor, for the
restoration after a Hard Reset, before tSrcRecover has ended (R221, R225). -/
def startAttempt (p : Port) (s : State) : State :=
  let x := s.slice p
  if x.pr.prstat.pstate ≠ 1 || x.sw.swstat.prole then s
  else if s.sup.hold || (x.pr.restore && !x.pr.recovered) then onPr p (fun r => { r with attemptDue := true }) s
  else
    let s := s |> onPr p (fun r => { r with attemptDue := false, acc := 0, gateStarted := false }) |> selfCheck p
    if (s.slice p).pr.prstat.pstate = 4 then s
    else s |> onPr p (fun r => { r with prstat := { r.prstat with pstate := 2 } }) |> onSlice p Slice.beginStart

/-- VBUS has reached vSafe5V on a Source: VCONN closes where it is owed, discovery starts where Pn.SOP1 is active, and the
first Source_Capabilities goes out where it is not (R127, R128, R198). -/
def engineStart (p : Port) (s : State) : State :=
  let x := s.slice p
  if x.att.attstat.state ≠ 3 || x.att.detaching || !x.pins.isog || x.pd.capsSent || x.pd.discovering || x.pd.pdstat.pdSilent || x.off.xstep ≠ .idle
      || x.sw.swstat.swap ≠ 0 || x.sw.startDue || x.pd.hrPhase = .waitPs then s else
  let s := onSlice p (fun x =>
    let x := { x with pd := { x.pd with hrPhase := .idle } }
    if x.pd.pdstat.vcsrc && x.att.attstat.partner ≠ 1 && !x.att.attstat.vconnOn && !x.att.vconnLow then x.vconnClose s.sup.vconnOk else x) s
  if sop1Active (s.slice p) && !x.pd.discEnded then discoverStart p s else advertise p s

end Sys2Proof.Machine
end

