-- ==== Sys2Proof/Machine/SwapOps.lean ====
section
/-!
DEFINITION. The steps that role swaps share: sending requests, carrying out what an Accept begins, and completion
(R187 to R197, Tables 9.3 to 9.7).
-/

namespace Sys2Proof.Machine

/-- The code of a kind of swap (`SLC_SWSTAT.SWAP`). -/
def swapCode : SwapKind → BitVec 3
  | .pr => 1 | .fr => 2 | .dr => 3 | .vconn => 4

/-- The message that requests a swap. -/
def swapMsg : SwapKind → MsgKind
  | .pr => .prSwap | .fr => .frSwap | .dr => .drSwap | .vconn => .vconnSwap

/-- A swap has reached its completion point: `SLC_SWSTAT` and event 8n + 2 (R188). -/
def swapDone (p : Port) (f : Slice → Slice) (s : State) : State :=
  s |> onSlice p (fun x => (f x).endSwap 1) |> onSlice p (fun x => x.endOwn.endPartner) |> portEvent p 2

/-- The slice has become Source, or Sink, by a swap: a new contract follows. -/
def Slice.newRole (prole : Bool) (x : Slice) : Slice :=
  let x := x.clearContract
  { x with
    sw := { x.sw with eprPossible := false, offered := none, autoVc := false, swstat := { x.sw.swstat with prole := prole } }
    att := { x.att with attstat := { x.att.attstat with state := if prole then 6 else 3 } } }

/-! ## Requests of the slice's own (R191, R197) -/

/-- R191 lets the slice send a swap request now. -/
def maySwap (s : State) (x : Slice) : Bool :=
  x.att.attcfg.role = 2 && !s.sup.hold && !x.off.changing && x.off.xstep = .idle && x.sw.swstat.swap = 0
    && x.sw.outstanding.isNone && !x.pd.partnerAms && sopActive x

/-- Send a swap request. -/
def sendSwap (p : Port) (k : SwapKind) (s : State) : State :=
  s |> onSw p (fun w => { w with outstanding := some k, mine := true })
    |> queueMsg p { ctx := .sop, kind := swapMsg k, prio := .ams, why := .swapRequest k }

/-- VCONN_Swap is due without a command (R191). -/
def autoVconn (x : Slice) : Bool :=
  x.att.attstat.state = 3 && !x.pd.pdstat.vcsrc && (x.att.attcfg.vcls = 1 || x.att.attcfg.vcls = 2) && x.sw.autoVc
    && !rev2 x .sop

/-- Requests that wait go out as soon as their conditions let them (R191). -/
def trySwaps (p : Port) (s : State) : State :=
  let x := s.slice p
  if 2 ≤ p.val || !maySwap s x then s
  else if x.sw.wantPr then sendSwap p .pr (onSw p (fun w => { w with wantPr := false }) s)
  else if x.sw.wantDr then sendSwap p .dr (onSw p (fun w => { w with wantDr := false }) s)
  else if x.sw.wantVc || autoVconn x then sendSwap p .vconn (onSw p (fun w => { w with wantVc := false, autoVc := false }) s)
  else s

/-- The slice gives its request up with a result (R196, R197). -/
def dropSwap (p : Port) (result : BitVec 3) (k : SwapKind) (s : State) : State :=
  onSlice p (fun x => { x with sw := { x.sw with
    outstanding := none, waits := 0, retry := none, step := .idle, mine := false
    swstat := { x.sw.swstat with swap := 0, last := result, lastKind := swapCode k } } }.endOwn) s

/-! ## After the GoodCRC for the Accept (Tables 9.3 to 9.5) -/

/-- PR_Swap, slice Source: C is 0 and tSrcTransition runs. -/
def Slice.prFromSource (x : Slice) : Slice :=
  let x := x.feEnd
  { x with sw := { x.sw with step := .srcWait, due := false } }

/-- PR_Swap, slice Sink: SNKGn opens and the converter starts to 5.0 V with ISOGn open. -/
def prFromSink (p : Port) (s : State) : State :=
  s |> onSlice p (fun x => { x.openSnkg with sw := { x.openSnkg.sw with step := .snkWait } }) |> startSwapConv p

/-- The slice takes VCONN or hands it over (Table 9.5). -/
def vconnAccepted (p : Port) (s : State) : State :=
  let x := s.slice p
  if x.pd.pdstat.vcsrc then onSw p (fun w => { w with step := .vcGive }) s
  else
    s |> onSlice p (fun x => { x.vconnClose s.sup.vconnOk with sw := { x.sw with step := .vcTake } })
      |> onPd p (fun d => { d with pdstat := { d.pdstat with vcsrc := false } })
      |> replyWhy p .psRdy (.swapReady .vconn)

/-- The old Source of a Fast Role Swap sends PS_RDY once VBUS is at or below 5.5 V (Table 9.7, step 6). -/
def frsOldGate (p : Port) (s : State) : State :=
  let x := s.slice p
  if x.sw.step = .frsOldReady && !x.sw.frsOldRdy && x.att.vbusMv ≤ 5500 then
    s |> onSw p (fun w => { w with frsOldRdy := true }) |> replyWhy p .psRdy (.swapReady .fr)
  else s

/-- The Accept of a swap is acknowledged, whichever side sent it. -/
def swapAccepted (p : Port) (k : SwapKind) (s : State) : State :=
  let x := s.slice p
  match k with
  | .dr => swapDone p (fun x => { x with sw := { x.sw with swstat := { x.sw.swstat with drole := !x.sw.swstat.drole } } }) s
  | .vconn => vconnAccepted p s
  | .pr => if x.sw.swstat.prole then prFromSink p s else onSlice p Slice.prFromSource s
  | .fr =>
    if x.sw.step = .frsAccept then
      frsOldGate p (onSw p (fun w => { w with step := .frsOldReady, frsOldRdy := false }) s)
    else s

/-! ## PR_Swap (Tables 9.3 and 9.4) -/

/-- Step 2 of Table 9.3: VBUS ramps down, by the converter or, where R106 lists it, by the discharge sink. -/
def prRamp (p : Port) (s : State) : State :=
  if s.sup.hold then onSw p (fun w => { w with due := true }) s
  else onSlice p (fun x =>
    let x := { x with sw := { x.sw with step := .srcRamp, due := false } }
    if x.ps.running && x.pins.isog then x.rampDown else x.powerOff) s

/-- Step 3 of Table 9.3: VBUS is down, Rd replaces Rp, and PS_RDY goes out. -/
def prVbusDown (p : Port) (s : State) : State :=
  s |> onSlice p (fun x => { x.powerOff with
        sw := { x.sw with step := .srcReady }, pins := { x.powerOff.pins with term := .rd } }.refresh)
    |> replyWhy p .psRdy (.swapReady .pr)

/-- ISOGn closes into a swap and Rp at the SinkTxNG level replaces Rd (Table 9.4 step 3, R202). -/
def Slice.swapClose (x : Slice) : Slice :=
  { x with
    ps := { x.ps with psstat := { x.ps.psstat with cstate := if x.ps.running then 4 else x.ps.psstat.cstate } }
    pins := { x.pins with isog := true, term := .rp } }

/-- Step 3 of Table 9.4, once the partner's PS_RDY has come and VBUS is at or below 0.8 V (R193, R195). -/
def prGate (p : Port) (s : State) : State :=
  let x := s.slice p
  if x.sw.step = .snkVbus && x.att.attstat.vbusSafe0 && !s.sup.hold then
    onSlice p (fun x => { x.swapClose with sw := { x.sw with step := .snkRise } }.refresh) s
  else s

/-! ## Fast Role Swap, new Source (Table 9.7) -/

/-- The new Source's PS_RDY: ISOGn is enhanced and the old Source's PS_RDY has come (step 7). -/
def frsFinish (p : Port) (s : State) : State :=
  let w := (s.slice p).sw
  if w.step = .frsGotReady && w.frsClosed then
    s |> onSw p (fun w => { w with step := .frsNewReady }) |> replyWhy p .psRdy (.swapReady .fr)
  else s

/-- VBUS has fallen below 4.75 V: the new Source enhances ISOGn and presents Rp (step 4, R202). -/
def frsClose (p : Port) (s : State) : State :=
  s |> onSlice p (fun x => { x.swapClose with sw := { x.sw with frsClosed := true } }.refresh) |> frsFinish p

end Sys2Proof.Machine
end

