-- ==== Sys2Proof/Machine/Supply.lean ====
section
/-!
DEFINITION. The commands of the supply block: qualification and loss, switch-over, connection and retry of the paths, the
highest offer voltage, emergency demand and emergency tests (R50 to R74, R206).
-/

namespace Sys2Proof.Machine

/-! ## The hold line falls (R25, R57) -/

/-- The step of a change, as `SLC_XSTAT.STATE` shows it while it is not held. -/
def XStep.code : XStep → BitVec 3
  | .idle => 0 | .evaluating => 1 | .waitTransition => 2 | .ramping => 3 | .settling => 4 | .readySent => 5 | .rampingBack => 7

/-- A suspended change resumes when the new contract is within the effective grant and V_max, and is aborted otherwise
(R58, R148). -/
def resumeChange (p : Port) (s : State) : State :=
  let x := s.slice p
  if !x.off.xheld then s else
  match x.off.change with
  | none => s
  | some c =>
    if x.gr.eff * 100000 < c.mv * c.ma then abortChange p 2 s
    else if 100 * s.sup.maxpdo.toNat < c.mv then abortChange p 3 s
    else onOff p (fun o => { o with xheld := false, xstat := { o.xstat with state := o.xstep.code } }) s

/-- First: each slice resumes what the hold line suspended (R25, R102, R195). -/
def releaseTransitions (p : Port) (s : State) : State :=
  let s := resumeChange p s
  let s := if (s.slice p).ps.startHeld then startPower p (onPs p (fun d => { d with startHeld := false }) s) else s
  let s := if (s.slice p).sw.due then prRamp p s else s
  prGate p s

/-- Second: the Hard Resets that wait (R131), and attempts that are due (R225). -/
def releaseResets (p : Port) (s : State) : State :=
  let s := match (s.slice p).pd.hrWait with
    | .none => s
    | .received => hrPower p s
    | .toSend => emitHardReset p s
  if (s.slice p).pr.attemptDue then startAttempt p s else s

/-- Third: each slice re-advertises where it has to, and sends a swap request that waited (R191). -/
def releaseAdverts (p : Port) (s : State) : State :=
  trySwaps p (if (s.slice p).off.advertDue then advertise p s else s)

/-- A return to a higher-priority input begins once the hold line is low (R57, R60, R61). -/
def startReturn (x : PathId) (s : State) : State :=
  let h := s.sup.path x
  let main := x = .main && h.st = .staggerOrArmed && (s.sup.active = .backup || s.sup.active = .cascade)
  let backup := x = .backup && h.st = .qualifying && s.sup.active = .cascade
  if !h.qual || s.sup.etst || !(main || backup) then onPath x (fun h => { h with returnDue := false }) s
  else if s.sup.hold then onPath x (fun h => { h with returnDue := true }) s
  else s |> holdAssert |> connectPath x false

/-- A fall of V_max takes effect at once at the end of a switch-over window (R55). -/
def vmaxFall (vin : Nat) (s : State) : State :=
  if s.sup.active ≠ .none && (vmaxOf vin).toNat < s.sup.maxpdo.toNat then publishVmax (vmaxOf vin) s else s

/-- The hold line falls, with `vin` mV at the active input: V_max, then the order of R25, scheduled operations that waited
(R26), and event 195 last (R57, R61). -/
def holdRelease (vin : Nat) (s : State) : State :=
  if !s.sup.hold then s else
  let s := onSup (fun u => { u with hold := false }) s
  let s := vmaxFall vin s
  let s := overPorts releaseTransitions s
  let s := overPorts releaseResets s
  let s := overPorts releaseAdverts s
  let s := supplyEvent 195 (runWaiting s)
  let s := if s.sup.main.returnDue then startReturn .main s else s
  if s.sup.bkup.returnDue then startReturn .backup s else s

/-- SWITCHOVER_WINDOW_END: 2 ms after assertion the hold line falls, whether or not the new path is good (R57). -/
def execSwitchoverWindowEnd (vin : Nat) (s : State) : Host.Outcome State Fault Refusal := .next (spreading (holdRelease vin) s)

/-! ## Qualification, loss and power-fail warning (R50, R51, R59, R67) -/

/-- PFW_N is released once the active input is at its warning threshold plus 1.0 V, or cascade is active (R67). -/
def pfwFollow (s : State) : State :=
  let above (x : PathId) : Bool := 100 * (s.sup.thr x).warn.toNat + 1000 ≤ busMv s.sup x
  let clear := match s.sup.active with
    | .none => false | .main => above .main | .backup => above .backup | .cascade => true
  if s.sup.pfw && clear then pfwRelease s else s

/-- The event of an input that is lost. -/
def lossEvent : PathId → Nat
  | .main => 192 | .backup => 194

/-- A qualified input with `mv` on its bus takes its place: it connects, waits its stagger delay, is armed, or waits its
off time (R57, R60, R66). -/
def inputQualified (x : PathId) (mv : Nat) (s : State) : State :=
  let h := s.sup.path x
  if h.qual || h.latch || !s.otp.sensed || (h.st = .notConfigured && s.sup.lock.cfgLk) then s else
  let s := onSup (fun u => { u with vin := match x with
    | .main => { u.vin with vmain := BitVec.ofNat 16 (mv / 10) } | .backup => { u.vin with vbkup := BitVec.ofNat 16 (mv / 10) } }) s
  let waits := (x = .main && (s.sup.active = .backup || s.sup.active = .cascade)) || (x = .backup && s.sup.active = .main)
  let s := onPath x (fun h => { h with
    qual := true, st := if h.st = .retrying then .retrying else if waits then .staggerOrArmed else .qualifying }) s
  if h.st = .retrying then
    if h.offDone then connectPath x true s else onPath x (fun h => { h with needQual := false }) s
  else connectNext s

/-- INPUT_QUALIFIED (R50, R82). -/
def execInputQualified (x : PathId) (mv : Nat) (s : State) : Host.Outcome State Fault Refusal := .next (spreading (inputQualified x mv) s)

/-- A qualified input is lost (R50, R59, R60, R74). -/
def inputLost (x : PathId) (s : State) : State :=
  let h := s.sup.path x
  if !h.qual then s else
  let inUse := h.st = .connecting || h.st = .connected || (x = .backup && h.st = .staggerOrArmed)
  let test := s.sup.etst
  let active := s.sup.active = pathInput x
  let s := onPath x (fun h => { h.off (if h.st = .retrying then .retrying else .lost) with
    qual := false, needQual := h.st = .retrying, offDone := false }) s
  let s := if inUse || active || (test && x = .main) then supplyEvent (lossEvent x) s else s
  if test && x = .main then etestFinish 4 4 false s
  else if test && active then setActive .main (etestFinish 3 1 true s)
  else if active then pfwFollow (activeLost s)
  else connectNext s

/-- INPUT_LOST (R59). -/
def execInputLost (x : PathId) (s : State) : Host.Outcome State Fault Refusal := .next (spreading (inputLost x) s)

/-- INPUT_WARNING: the active input falls below its warning threshold with no other input qualified, or rises 1.0 V above
it (R67). -/
def execInputWarning (low : Bool) (s : State) : Host.Outcome State Fault Refusal :=
  .next (
    let others := match s.sup.active with
      | .main => s.sup.bkup.qual || s.sup.cascQ
      | .backup => s.sup.main.qual || s.sup.cascQ
      | _ => true
    if low then (if others then s else pfwAssert s)
    else if s.sup.active = .none then s else pfwRelease s)

/-- BACKUP_PATH_CONDUCT: the ideal diode of an armed backup, or of one that has taken the load, conducts (R57, Table 3.2). -/
def execBackupPathConduct (s : State) : Host.Outcome State Fault Refusal :=
  .next (
    if s.sup.bkup.qual && (s.sup.bkup.st = .staggerOrArmed || s.sup.bkup.st = .connecting) && !s.sup.bkup.precharge then
      onPath .backup (fun h => { h with gate := true }) s
    else s)

/-- CASCADE_QUALIFIED: the aid port's VBUS has held its contract; the sink path connects where it is the only input (R51,
R206). -/
def execCascadeQualified (p : Port) (s : State) : Host.Outcome State Fault Refusal :=
  .next (
    let w := (s.slice p).sw
    if aidPort s ≠ some p || w.snkMv < 20000 || w.snkWaitRdy || s.sup.cascQ then s
    else connectNext (onSup (fun u => { u with cascQ := true, cascPort := some p }) s))

/-- The cascade input is lost: SNKGn opens, and an active cascade gives way (R51, R59, R206). -/
def cascadeLost (p : Port) (s : State) : State :=
  if !s.sup.cascQ || s.sup.cascPort ≠ some p then s else
  let s := s |> onSlice p Slice.openSnkg
    |> onSup (fun u => { u with cascQ := false, cascPort := none, cascLatch := false, cascAttempt := false })
  if s.sup.active = .cascade then pfwFollow (activeLost s) else s

/-- CASCADE_LOST (R51). -/
def execCascadeLost (p : Port) (s : State) : Host.Outcome State Fault Refusal := .next (spreading (cascadeLost p) s)

/-! ## Connection (R61, R62, R64, R206) -/

/-- An input whose path is good becomes active; the other path waits or is armed, and the hold line falls (R57, R61, R68). -/
def pathGood (x : PathId) (vin : Nat) (s : State) : State :=
  let h := s.sup.path x
  if !h.gate || !(h.st = .connecting || h.attempt) then s else
  let s := onPath x (fun h => { h with st := .connected, attempt := false, tries := 0, needQual := false }) s
  let s := setActive (pathInput x) s
  let s := onSup (fun u => { u with psEn := s.did.released }) s
  let s := match x with
    | .main => onPath .backup (fun h => if h.qual && h.st ≠ .retrying then h.off .staggerOrArmed else h) s
    | .backup => onPath .main (fun h => if h.qual && h.st = .qualifying then { h with st := .staggerOrArmed } else h) s
  pfwFollow (holdRelease vin s)

/-- PATH_GOOD (R62). -/
def execPathGood (x : PathId) (vin : Nat) (s : State) : Host.Outcome State Fault Refusal := .next (spreading (pathGood x vin) s)

/-- SINK_PATH_GOOD: cascade becomes the active input (R206). -/
def execSinkPathGood (p : Port) (vin : Nat) (s : State) : Host.Outcome State Fault Refusal :=
  .next (
    if !(s.slice p).pins.snkg || s.sup.cascPort ≠ some p || s.sup.active ≠ .none then s else
    s |> onSw p (fun w => { w with swstat := { w.swstat with snkp := 2 } })
      |> onSup (fun u => { u with cascTries := 0, cascAttempt := false, psEn := s.did.released })
      |> spreading (fun s => s |> setActive .cascade |> holdRelease vin |> pfwFollow))

/-- STAGGER_DELAY_END: the return to a higher-priority input begins, or waits for the hold line (R57, R60). -/
def execStaggerDelayEnd (x : PathId) (s : State) : Host.Outcome State Fault Refusal := .next (startReturn x s)

/-- PRECHARGE_DONE: the main pair closes (R64). -/
def execPrechargeDone (x : PathId) (s : State) : Host.Outcome State Fault Refusal :=
  .next (if (s.sup.path x).precharge then onPath x (fun h => { h with gate := true }) s else s)

/-! ## Faults and retries (R63 to R66, R206) -/

/-- The counted attempts have reached `SUP_RETRY.COUNT`; 0 is unlimited. -/
def retriesDone (tries : BitVec 8) (s : State) : Bool :=
  s.sup.retry.count ≠ 0 && s.sup.retry.count.toNat ≤ tries.toNat

/-- A connection or an attempt fails: the gate turns off, the path waits its off time, or latches off with a record. A path
that latches is no longer qualified (R50). -/
def pathFails (x : PathId) (cause : BitVec 2) (counted qual : Bool) (s : State) : State :=
  let h := s.sup.path x
  let tries := if counted then satInc h.tries else h.tries
  let latched := counted && retriesDone tries s
  let s := onPath x (fun h => { h.off (if latched then .latched else .retrying) with
    qual := h.qual && qual && !latched, needQual := !qual, offDone := false, tries := tries, latch := latched, cause := cause }) s
  let s := if latched then supplyRecord 0xFF s else s
  if s.sup.active = pathInput x && !(s.sup.path x).qual then pfwFollow (activeLost s) else connectNext s

/-- PATH_FAULT: a first connection has stayed at I_lim for `T_FLT` (R63). -/
def execPathFault (x : PathId) (s : State) : Host.Outcome State Fault Refusal :=
  .next (let h := s.sup.path x
         if h.st = .connecting && h.gate then spreading (pathFails x 1 false true) s else s)

/-- PRECHARGE_TIMEOUT (R64). -/
def execPrechargeTimeout (x : PathId) (s : State) : Host.Outcome State Fault Refusal :=
  .next (let h := s.sup.path x
         if h.precharge && !h.gate then spreading (pathFails x 2 h.attempt true) s else s)

/-- PATH_OVERVOLTAGE: the connection or attempt fails with cause 3, it counts, and the input is lost (R66). -/
def execPathOvervoltage (x : PathId) (s : State) : Host.Outcome State Fault Refusal :=
  .next (let h := s.sup.path x
         if h.busy then spreading (fun s => pathFails x 3 true false (if h.qual then supplyEvent (lossEvent x) s else s)) s else s)

/-- The sink path fails: SNKGn opens with `SNKP` 3, and the path waits its off time or latches off (R66, R206). -/
def sinkPathFails (p : Port) (counted : Bool) (s : State) : State :=
  let tries := if counted then satInc s.sup.cascTries else s.sup.cascTries
  let latched := counted && retriesDone tries s
  let s := onSlice p (fun x => { x.openSnkg with
    sw := { x.openSnkg.sw with swstat := { x.openSnkg.sw.swstat with snkp := 3 } } }) s
  let s := onSup (fun u => { u with cascTries := tries, cascLatch := latched, cascRetry := !latched, cascAttempt := false }) s
  if latched then supplyRecord 0xFF s else s

/-- SINK_PATH_TIMEOUT (R206). -/
def execSinkPathTimeout (p : Port) (s : State) : Host.Outcome State Fault Refusal :=
  .next (if (s.slice p).pins.snkg && s.sup.active ≠ .cascade then sinkPathFails p s.sup.cascAttempt s else s)

/-- SUPPLY_RETRY_ATTEMPT: the off time of a path ends (R66, R206). A backup that is no longer needed is armed instead. -/
def execSupplyRetryAttempt (x : InputId) (s : State) : Host.Outcome State Fault Refusal :=
  .next (
    let retry (x : PathId) (s : State) : State :=
      let h := s.sup.path x
      if h.st ≠ .retrying || h.attempt then s
      else if !h.qual then onPath x (fun h => { h with offDone := true }) s
      else if x = .backup && s.sup.active = .main then onPath x (fun h => h.off .staggerOrArmed) s
      else connectPath x true s
    match x with
    | .none => s
    | .main => retry .main s
    | .backup => retry .backup s
    | .cascade =>
      if !s.sup.cascRetry then s
      else connectNext (onSup (fun u => { u with cascRetry := false, cascAttempt := true }) s))

/-- SUPPLY_ATTEMPT_FAIL: an attempt is not good within `ON_MS`; it counts unless the bulk rose by 1.0 V (R66). -/
def execSupplyAttemptFail (x : InputId) (rose : Bool) (s : State) : Host.Outcome State Fault Refusal :=
  .next (
    let fail (x : PathId) : State := if (s.sup.path x).attempt then spreading (pathFails x (s.sup.path x).cause (!rose) true) s else s
    match x with
    | .none => s
    | .main => fail .main
    | .backup => fail .backup
    | .cascade =>
      match s.sup.cascPort with
      | some p => if s.sup.cascAttempt && (s.slice p).pins.snkg then sinkPathFails p (!rose) s else s
      | none => s)

/-- A write of `SUP_RSTAT`: a latch written with 1 clears, its count returns to 0 and a new qualification starts (R66). -/
def writeSupRstat (w : Word) (s : State) : State :=
  let clear (h : Path) : Path :=
    if h.latch then { h with latch := false, tries := 0, st := .qualifying, qual := false, needQual := false } else h
  let s := if getBit w 16 then onPath .main clear s else s
  if getBit w 17 then onPath .backup clear s else s

/-- SUPPLY_LATCH_CLEAR (R66). -/
def execSupplyLatchClear (w : Word) (s : State) : Host.Outcome State Fault Refusal := .next (writeSupRstat w s)

/-! ## The highest offer voltage (R54, R55) -/

/-- The measured supply voltages, 10 mV units. -/
def setSupplyMeas (vmain vbkup vbulk vhk : BitVec 16) (s : State) : State :=
  onSup (fun u => { u with vin := { vmain := vmain, vbkup := vbkup }, vaux := { vbulk := vbulk, vhk := vhk } }) s

/-- A test counts its windows and keeps the lowest backup voltage (R73). -/
def etestWindow (s : State) : State :=
  if !s.sup.etst then s else
  onSup (fun u =>
    let u := { u with etWindows := u.etWindows + 1 }
    let v := satField 10 (u.vin.vbkup.toNat / 10)
    { u with etres := { u.etres with elapsed := etElapsed u, vmin := if v.toNat < u.etres.vmin.toNat then v else u.etres.vmin } }) s

/-- VMAX_WINDOW: V_max is computed from the window's mean; it falls at once, rises at once after none when the window is
whole, and otherwise waits its 1 s (R54, R55). -/
def execVmaxWindow (vin : Nat) (whole : Bool) (vmain vbkup vbulk vhk : BitVec 16) (s : State) :
    Host.Outcome State Fault Refusal :=
  .next (
    let s := etestWindow (setSupplyMeas vmain vbkup vbulk vhk s)
    if s.sup.active = .none then s else
    let v := vmaxOf vin
    if s.sup.vmaxFresh && whole then publishVmax v (onSup (fun u => { u with vmaxFresh := false, vmaxCand := 0 }) s)
    else if v.toNat ≤ s.sup.maxpdo.toNat then publishVmax v (onSup (fun u => { u with vmaxCand := 0 }) s)
    else onSup (fun u => { u with vmaxCand := if u.vmaxCand = 0 || v.toNat < u.vmaxCand.toNat then v else u.vmaxCand }) s)

/-- VMAX_RISE: the value that the computed V_max has kept for 1 s is published (R55). -/
def execVmaxRise (s : State) : Host.Outcome State Fault Refusal :=
  .next (
    if s.sup.active = .none || s.sup.vmaxFresh || s.sup.vmaxCand.toNat ≤ s.sup.maxpdo.toNat then s
    else publishVmax s.sup.vmaxCand (onSup (fun u => { u with vmaxCand := 0 }) s))

/-! ## Emergency demand and tests (R72 to R74, R294) -/

/-- The Policy Core relays the emergency scene, or its end, to every luminaire. -/
def relayScene (on : Bool) (s : State) : State :=
  if policyRuns s then overPorts (fun p s => onTh p (thEmergency on) s) s else s

/-- EMG_ASSERT (R72). -/
def execEmgAssert (s : State) : Host.Outcome State Fault Refusal :=
  .next (
    if !s.sup.emgUsed || s.sup.emg then s else
    spreading (fun s =>
      onSup (fun u => { u with emg := true }) s |> supplyEvent 198 |> capUpdate |> etestFinish 4 5 true |> relayScene true) s)

/-- EMG_RELEASE (R72). -/
def execEmgRelease (s : State) : Host.Outcome State Fault Refusal :=
  .next (
    if !s.sup.emg then s else
    spreading (fun s => onSup (fun u => { u with emg := false }) s |> capUpdate |> relayScene false) s)

/-- A write of `SUP_ETST`: kind and lengths, which persist (R399), then `START` and `ABORT` (R73, R74). -/
def writeSupEtst (w : Word) (s : State) : State :=
  let new : SupEtst := { kind := getField w 0 2, funcS := getField w 8 8, durMin := getField w 16 16 }
  let old := s.sup.etest
  let s := onSup (fun u => { u with etest := new }) s
  let s := if new.funcS ≠ old.funcS || new.durMin ≠ old.durMin then
      onNvc (fun n => { n with setstat := { n.setstat with pend := true } }) s else s
  let s := if getBit w 2 then (etestStart new.kind s).1 else s
  if getBit w 3 then etestFinish 4 6 true s else s

/-- The word that writes `SUP_ETST` back with one more bit. -/
def etestWord (s : State) (b : Nat) : Word := s.sup.etest.toWord ||| putBit true b

/-- ETEST_START: `START` is written, with the kind (R73). -/
def execEtestStart (kind : BitVec 2) (s : State) : Host.Outcome State Fault Refusal :=
  .next (spreading (writeSupEtst ({ s.sup.etest with kind := kind }.toWord ||| putBit true 2)) s)

/-- ETEST_ABORT: `ABORT` is written (R74). -/
def execEtestAbort (s : State) : Host.Outcome State Fault Refusal := .next (writeSupEtst (etestWord s 3) s)

/-- ETEST_END: the test's length has passed, with `bkupMv` on the backup bus and what the gauge says (R74). -/
def execEtestEnd (gaugeLow : Bool) (bkupMv : Nat) (s : State) : Host.Outcome State Fault Refusal :=
  .next (
    if s.sup.etestDur && bkupMv < 100 * s.sup.thrBkup.uv.toNat + 2000 then etestFinish 3 2 false s
    else if gaugeLow then etestFinish 3 3 false s
    else etestFinish 2 0 false s)

end Sys2Proof.Machine
end

