-- ==== Sys2Proof/Machine/Attach.lean ====
section
/-!
DEFINITION. Attach, orientation, VCONN, detach and discharge: the commands of chapter 5 (R93 to R115).
-/

namespace Sys2Proof.Machine

/-- A slice acts from its release until the next pre-reset phase (R83, R84); the Policy Core's new phase offsets follow
(R172). -/
def whenReleased (f : State → State) (s : State) : State := if s.did.released then spreading f s else s

/-! ## Classification (R95 to R97) -/

/-- One CC ball as a Source classifies it, for the Rp level presented, in mV (Table 5.2). -/
def ccClass (rpNow : BitVec 2) (mv : Nat) : CcClass :=
  let ra := if rpNow = 3 then 800 else if rpNow = 2 then 400 else 200
  let op := if rpNow = 3 then 2600 else 1600
  if mv < ra then .ra else if mv ≤ op then .rd else .openBall

/-- One CC ball as a Sink classifies it, as `RP_SEEN` (Table 5.3). -/
def rpClass (mv : Nat) : BitVec 2 := if mv < 200 then 0 else if mv < 660 then 1 else if mv ≤ 1230 then 2 else 3

/-- The larger of the two Rp levels seen. -/
def rpSeenOf (a : SliceAtt) : BitVec 2 := if a.rp1.toNat < a.rp2.toNat then a.rp2 else a.rp1

/-- A state in which the port presents Rp, and one in which it presents Rd (Table 5.4). -/
def presentsRp (st : BitVec 4) : Bool := st = 1 || st = 2 || st = 3 || st = 7 || st = 10 || st = 11 || st = 12
/-- A state in which the port presents Rd. -/
def presentsRd (st : BitVec 4) : Bool := st = 4 || st = 5 || st = 6 || st = 8 || st = 9 || st = 13

/-- Either ball shows Rd. -/
def SliceAtt.rdSeen (a : SliceAtt) : Bool := a.c1 = .rd || a.c2 = .rd

/-! ## Moving between the states (Table 5.4) -/

/-- Enter a state with its terminations; nothing is debounced in it yet. -/
def Slice.enter (st : BitVec 4) (x : Slice) : Slice :=
  let x := { x with
    att := { x.att with attstat := { x.att.attstat with state := st }, rpHeld := false, tryDone := false }
    pins := { x.pins with term := if presentsRp st then .rp else if presentsRd st then .rd else .openCc } }
  x.refresh

/-- The unattached state of a port: the sink side where the role is dual (Tables 5.1 and 5.8). -/
def Slice.unattached (x : Slice) : Slice :=
  let x := x.enter (if x.att.attcfg.role = 2 then 4 else 1)
  { x with att := { x.att with attstat := { x.att.attstat with partner := 0, foreign := false }, detaching := false } }

/-- The vendor debug link may be connected on this port (R114). -/
def debugAllowed (p : Port) (s : State) : Bool :=
  (lcstat s.otp).vdbg && p.val < 4 && !allPorts.any (fun q => (s.slice q).att.attstat.dbgLink)

/-- A debug accessory state, with the vendor debug link where it is allowed (R113, R114). -/
def enterDebug (p : Port) (st : BitVec 4) (partner : BitVec 3) (s : State) : State :=
  let link := debugAllowed p s
  onSlice p (fun x =>
    let x := x.enter st
    { x with
      att := { x.att with attstat := { x.att.attstat with partner := partner, foreign := false, dbgLink := link } }
      pins := { x.pins with sbu := if link then .debug else x.pins.sbu } }) s

/-- Attached.SRC: orientation, partner, roles, the event, VCONN where the other ball shows Ra, and the start of power
(Table 5.7, R100, R102, R105). -/
def attachSource (p : Port) (s : State) : State :=
  let a := (s.slice p).att
  if a.c1 = .rd && a.c2 = .rd then startPower p (enterDebug p 12 5 s) else
  let cable := a.c1 = .ra || a.c2 = .ra
  let vconn := cable && (a.attcfg.vcls = 1 || a.attcfg.vcls = 2)
  let s := onSlice p (fun x =>
    let x := x.enter 3
    { x with
      att := { x.att with attstat := { x.att.attstat with
        orient := a.c1 ≠ .rd, partner := if cable then 2 else 1, foreign := false } }
      pd := { x.pd with pdstat := { x.pd.pdstat with vcsrc := vconn } }
      sw := { x.sw with swstat := { x.sw.swstat with prole := false, drole := false, attProle := false, attVcsrc := vconn } } }) s
  let s := portEvent p 0 s
  let s := if cable then onSlice p (Slice.vconnClose s.sup.vconnOk) s else s
  startPower p s

/-- The end of step 2 of Table 5.7: VBUS above 0.8 V keeps the port waiting, and `TRY` 2 gives Try.SNK (R101, R110). -/
def attachWaitDone (p : Port) (s : State) : State :=
  let a := (s.slice p).att
  if !a.attstat.vbusSafe0 then onAtt p (fun a => { a with rpHeld := true }) s
  else if a.attcfg.role = 2 && a.attcfg.trySel = 2 && a.attstat.state = 2 then
    onSlice p (fun x => { x with att := { x.att with attstat := { x.att.attstat with foreign := false } } }.enter 9) s
  else attachSource p s

/-- Attached.SNK, or DebugAccessory.SNK where both balls show Rp (R110, R114). -/
def attachSink (p : Port) (s : State) : State :=
  let a := (s.slice p).att
  if a.rp1 ≠ 0 && a.rp2 ≠ 0 then enterDebug p 13 7 s else
  let s := onSlice p (fun x =>
    let x := x.enter 6
    { x with
      att := { x.att with attstat := { x.att.attstat with orient := a.rp1 = 0, partner := 6, rpSeen := rpSeenOf a } }
      sw := { x.sw with swstat := { x.sw.swstat with prole := true, drole := true, attProle := true, attVcsrc := false } } }) s
  frsCheck p (portEvent p 0 s)

/-- A sink-side debounce has ended: Attached.SNK as soon as VBUS is present (R110). -/
def sinkHeld (p : Port) (s : State) : State :=
  let a := (s.slice p).att
  if a.attstat.vbusPres && (a.attstat.state ≠ 9 || a.tryDone) then attachSink p s
  else onAtt p (fun a => { a with rpHeld := true }) s

/-! ## CC_SAMPLE (R95 to R97, R100, R110) -/

/-- The classes of both balls after a sample; `none` is an invalid sample, and a ball that carries VCONN is not
classified. -/
def SliceAtt.sample (cc1 cc2 : Option Nat) (a : SliceAtt) : SliceAtt :=
  let set (old : BitVec 12) (v : Option Nat) : BitVec 12 := match v with | some mv => satField 12 (mv / 2) | none => old
  let st := a.attstat.state
  let vc1 := a.attstat.vconnOn && a.attstat.orient
  let vc2 := a.attstat.vconnOn && !a.attstat.orient
  let src (old : CcClass) (vc : Bool) (v : Option Nat) : CcClass :=
    match v with | some mv => if vc || !presentsRp st then old else ccClass a.attstat.rpNow mv | none => old
  let snk (old : BitVec 2) (vc : Bool) (v : Option Nat) : BitVec 2 :=
    match v with | some mv => if vc || presentsRp st then old else rpClass mv | none => old
  { a with
    ccmeas := { cc1 := set a.ccmeas.cc1 cc1, cc2 := set a.ccmeas.cc2 cc2 }
    c1 := src a.c1 vc1 cc1, c2 := src a.c2 vc2 cc2, rp1 := snk a.rp1 vc1 cc1, rp2 := snk a.rp2 vc2 cc2 }

/-- What a sample brings without a debounce. -/
def ccMoves (p : Port) (changed : Bool) (s : State) : State :=
  let a := (s.slice p).att
  let rp := rpSeenOf a
  let st := a.attstat.state
  if st = 1 then
    if a.rdSeen then onSlice p (fun x => x.enter 2) s
    else if a.c1 = .openBall && a.c2 = .openBall then
      onAtt p (fun a => { a with attstat := { a.attstat with partner := 0 } }) s
    else s
  else if st = 2 then
    if !a.rdSeen then onSlice p Slice.unattached s
    else if changed then onAtt p (fun a => { a with rpHeld := false, attstat := { a.attstat with foreign := false } }) s
    else s
  else if st = 4 then
    let partner : BitVec 3 := if rp = 0 then 0 else if a.rp1 ≠ 0 && a.rp2 ≠ 0 then 7 else 6
    let s := onAtt p (fun a => { a with attstat := { a.attstat with partner := partner, rpSeen := rp } }) s
    if rp = 0 then s else onSlice p (fun x => x.enter 5) s
  else if st = 5 || st = 8 || st = 9 then
    onAtt p (fun a => { a with rpHeld := a.rpHeld && rp ≠ 0, attstat := { a.attstat with rpSeen := rp } }) s
  else if st = 6 then
    let line := if a.attstat.orient then a.rp2 else a.rp1
    s |> onAtt p (fun a => { a with attstat := { a.attstat with rpSeen := line } }) |> pump p |> frsCheck p
  else s

/-- CC_SAMPLE: both balls are sampled, with the VCONN current in mA and the VCONN_IN voltage in mV that the slice measures at
the same pace; `rpBoth` says that Rp is detected on both while the port is a Source (R97, R105, R115). -/
def ccSample (p : Port) (cc1 cc2 : Option Nat) (rpBoth : Bool) (ivc vvcIn : Nat) (s : State) : State :=
  let s := onAtt p (fun a => { a with vconn := { ivc := satField 10 ivc, vvcIn := satField 8 (vvcIn / 25) } }) s
  let a := (s.slice p).att
  if (a.attstat.state = 3 || a.attstat.state = 12) && rpBoth then errorRecovery p s else
  let b := a.sample cc1 cc2
  ccMoves p (a.c1 ≠ b.c1 || a.c2 ≠ b.c2) (onAtt p (fun _ => b) s)

/-- CC_SAMPLE (R97). -/
def execCcSample (p : Port) (cc1 cc2 : Option Nat) (rpBoth : Bool) (ivc vvcIn : Nat) (s : State) :
    Host.Outcome State Fault Refusal :=
  .next (whenReleased (ccSample p cc1 cc2 rpBoth ivc vvcIn) s)

/-! ## Debounces and the dual-role timers (R100, R109, R110, R113) -/

/-- The pattern has held for its debounce. -/
def ccDebounced (p : Port) (s : State) : State :=
  let a := (s.slice p).att
  let st := a.attstat.state
  let rp := rpSeenOf a
  if st = 1 && a.c1 = .ra && a.c2 = .ra then
    onSlice p (fun x => { x.enter 11 with att := { (x.enter 11).att with attstat := { (x.enter 11).att.attstat with partner := 4 } } }) s
  else if st = 1 && !a.rdSeen && (a.c1 = .ra || a.c2 = .ra) then
    onAtt p (fun a => { a with attstat := { a.attstat with partner := 3 } }) s
  else if (st = 1 || st = 2 || st = 7 || st = 10) && a.rdSeen then attachWaitDone p s
  else if st = 11 && a.c1 ≠ .ra && a.c2 ≠ .ra then onSlice p Slice.unattached s
  else if st = 12 && (a.c1 = .openBall || a.c2 = .openBall) then detach p s
  else if st = 5 && rp ≠ 0 then
    if a.attcfg.trySel = 1 && s.sup.active ≠ .none then onSlice p (fun x => x.enter 7) s else sinkHeld p s
  else if (st = 5 || st = 8) && rp = 0 then onSlice p Slice.unattached s
  else if (st = 8 || st = 9) && rp ≠ 0 then sinkHeld p s
  else s

/-- CC_DEBOUNCE_EXPIRY (R100, R110, R113). -/
def execCcDebounceExpiry (p : Port) (s : State) : Host.Outcome State Fault Refusal :=
  .next (whenReleased (ccDebounced p) s)

/-- FOREIGN_VBUS (R101). -/
def execForeignVbus (p : Port) (s : State) : Host.Outcome State Fault Refusal :=
  .next (whenReleased (fun s =>
    let a := (s.slice p).att.attstat
    if a.state = 2 && !a.vbusSafe0 then
      s |> onAtt p (fun a => { a with attstat := { a.attstat with foreign := true } }) |> portEvent p 7
    else s) s)

/-- VBUS_SAFE0_DEBOUNCE: VBUS has been at vSafe0V for tPDDebounce after the debounce of AttachWait.SRC (R101). -/
def execVbusSafe0Debounce (p : Port) (s : State) : Host.Outcome State Fault Refusal :=
  .next (whenReleased (fun s =>
    let a := (s.slice p).att
    if a.attstat.state = 2 && a.attstat.vbusSafe0 && a.rpHeld then attachWaitDone p s else s) s)

/-- DRP_TOGGLE: a dual-role port toggles while an input is active and stays in Unattached.SNK otherwise; in TryWait.SRC
tDRP has passed without Rd (R109, R110). -/
def execDrpToggle (p : Port) (s : State) : Host.Outcome State Fault Refusal :=
  .next (whenReleased (fun s =>
    let a := (s.slice p).att
    let st := a.attstat.state
    if a.attcfg.role ≠ 2 then s
    else if st = 1 then onSlice p Slice.unattached s
    else if st = 4 && s.sup.active ≠ .none then
      onSlice p (fun x => { x.enter 1 with att := { (x.enter 1).att with c1 := .openBall, c2 := .openBall } }) s
    else if st = 10 && !a.rdSeen then onSlice p Slice.unattached s
    else s) s)

/-- DRP_TRY_EXPIRY: tDRPTry ends in Try.SRC or Try.SNK (R110). -/
def execDrpTryExpiry (p : Port) (s : State) : Host.Outcome State Fault Refusal :=
  .next (whenReleased (fun s =>
    let a := (s.slice p).att
    if a.attstat.state = 7 then onSlice p (fun x => x.enter 8) s
    else if a.attstat.state = 9 then
      let s := onAtt p (fun a => { a with tryDone := true }) s
      if a.rpHeld then sinkHeld p s else s
    else s) s)

/-- TRY_TIMEOUT: tTryTimeout has passed in Try.SNK (R110). -/
def execTryTimeout (p : Port) (s : State) : Host.Outcome State Fault Refusal :=
  .next (whenReleased (fun s => if (s.slice p).att.attstat.state = 9 then onSlice p (fun x => x.enter 10) s else s) s)

/-! ## Sink side (R111) -/

/-- A Hard Reset, a PR_Swap or a Fast Role Swap exempts the port from the detach rules (R108). -/
def vbusExempt (x : Slice) : Bool := x.pd.hrPhase ≠ .idle || x.sw.swstat.swap = 1 || x.sw.swstat.swap = 2

/-- SINK_VBUS_LOST: an attached Sink has lost VBUS for tPDDebounce (R111). -/
def execSinkVbusLost (p : Port) (s : State) : Host.Outcome State Fault Refusal :=
  .next (whenReleased (fun s =>
    let x := s.slice p
    if x.att.attstat.state = 13 then policyForget p (onSlice p (fun x => x.clearAttach.unattached) s)
    else if x.att.attstat.state ≠ 6 || vbusExempt x then s
    else s |> onSlice p (fun x => x.clearAttach.powerOff.unattached) |> portEvent p 0 |> policyForget p) s)

/-! ## VBUS (R97) -/

/-- VBUS has reached vSafe5V: a Source begins its messages, and a new Source of a PR_Swap sends PS_RDY (Tables 5.7 and 9.4). -/
def vbusSafe5 (p : Port) (s : State) : State :=
  let x := s.slice p
  if x.sw.step = .snkRise && x.pins.isog then
    s |> onSw p (fun w => { w with step := .snkReady }) |> replyWhy p .psRdy (.swapReady .pr)
  else engineStart p s

/-- The Hard Reset has completed on a Sink that sees VBUS again; a sink-side trip ends (R199, R227). -/
def sinkRecovered (p : Port) (s : State) : State :=
  onSlice p (fun x => { x with
    pd := { x.pd with hrPhase := .idle }
    pr := { x.pr with
      restore := false, prstat := { x.pr.prstat with pstate := if x.pr.prstat.pstate = 1 then 0 else x.pr.prstat.pstate } } }) s

/-- VBUS at `mv` is classified, and the states that wait on a level move. -/
def vbusLevel (p : Port) (mv : Nat) (s : State) : State :=
  let s := onSlice p (fun x => { x with att := { x.att with
    vbusMv := mv, attstat := { x.att.attstat with vbusPres := 4000 ≤ mv, vbusSafe0 := mv ≤ 800 } } }.sink) s
  let x := s.slice p
  let s := if x.att.rpHeld && 4000 ≤ mv && (x.att.attstat.state = 5 || x.att.attstat.state = 8 || x.att.attstat.state = 9) then
      sinkHeld p s else s
  let s := if 4000 ≤ mv && x.sw.swstat.prole && x.pd.hrPhase = .recover then sinkRecovered p s else s
  let s := if mv ≤ 800 && x.sw.step = .srcRamp then prVbusDown p s else s
  let s := prGate p s
  let s := if mv < 4750 && x.frsSource && !x.sw.frsClosed then frsClose p s else s
  let s := frsOldGate p s
  if 4750 ≤ mv && mv ≤ 5500 then vbusSafe5 p s else s

/-- VBUS_CLASSIFICATION_CHANGE (R97). -/
def execVbusClassificationChange (p : Port) (mv : Nat) (s : State) : Host.Outcome State Fault Refusal :=
  .next (whenReleased (vbusLevel p mv) s)

/-! ## Detach and discharge (Table 5.8, R106, R107) -/

/-- SOURCE_DETACH: the CC line has been open for 12 ms (R106). -/
def execSourceDetach (p : Port) (s : State) : Host.Outcome State Fault Refusal :=
  .next (whenReleased (fun s =>
    let x := s.slice p
    if x.att.attstat.state = 3 && !x.att.detaching && x.pins.term = .rp then detach p s else s) s)

/-- The port waits for VBUS to fall: a detach, a shed, a trip, ErrorRecovery or a Hard Reset. -/
def discharging (x : Slice) : Bool :=
  x.att.detaching || x.att.attstat.nopwr || x.att.attstat.state = 14 || x.pd.hrPhase ≠ .idle || x.pr.prstat.pstate = 1
    || x.pr.prstat.pstate = 3

/-- DISCHARGE_DONE: VBUS has reached 0.8 V, ISOGn opens and PWMn goes high-Z (R106, R107). -/
def execDischargeDone (p : Port) (s : State) : Host.Outcome State Fault Refusal :=
  .next (whenReleased (fun s =>
    let x := s.slice p
    if x.sw.step = .srcRamp then vbusLevel p 800 s
    else if !discharging x then s
    else
      onSlice p (fun x => { x with att := { x.att with
        vbusMv := 800, attstat := { x.att.attstat with vbusPres := false, vbusSafe0 := true } } }.powerOff) s) s)

/-- DETACH_RAMP_TIMEOUT: ISOGn opens and the discharge sink takes over (R106). -/
def execDetachRampTimeout (p : Port) (s : State) : Host.Outcome State Fault Refusal :=
  .next (whenReleased (fun s =>
    let x := s.slice p
    if x.att.detaching && x.ps.psstat.cstate = 6 && x.pins.isog then onSlice p Slice.powerOff s else s) s)

/-- VCONN_DISCHARGE_END: the former VCONN ball is released; after a detach whose discharge is done, step 4 of Table 5.8
follows (R105). -/
def execVconnDischargeEnd (p : Port) (s : State) : Host.Outcome State Fault Refusal :=
  .next (whenReleased (fun s =>
    let s := onPins p (fun x => { x with vconnPull := false }) s
    let x := s.slice p
    if x.att.detaching && x.att.attstat.vbusSafe0 && !x.pins.isog && !x.ps.running then onSlice p (fun x => x.unattached.sink) s
    else s) s)

/-! ## VCONN (R105) -/

/-- VCONN_OVERCURRENT: the switch opens for the rest of the attach, and the cable counts as unmarked (R105, R142). -/
def execVconnOvercurrent (p : Port) (s : State) : Host.Outcome State Fault Refusal :=
  .next (whenReleased (fun s =>
    if !(s.slice p).att.attstat.vconnOn then s else
    s |> onSlice p (fun x =>
          let x := x.vconnOpen
          { x with att := { x.att with attstat := { x.att.attstat with vconnFlt := true } }, pd := { x.pd with discovering := false } })
      |> portEvent p 3 |> limitsChanged p) s)

/-- What VCONN_IN_LOW does. -/
def vconnInLow (s : State) : State :=
  overPorts (fun p s =>
    if (s.slice p).att.attstat.vconnOn then
      s |> onSlice p (fun x => { x.vconnOpen with att := { x.vconnOpen.att with vconnLow := true } }) |> limitsChanged p
    else s) (onSup (fun u => { u with vconnOk := false }) s)

/-- VCONN_IN_LOW: every VCONN switch opens (R53, R105). -/
def execVconnInLow (s : State) : Host.Outcome State Fault Refusal := .next (vconnInLow s)

/-- A switch that a low VCONN_IN held open closes, and discovery that waited for it starts (R105, R127). -/
def vconnBack (p : Port) (s : State) : State :=
  if !(s.slice p).att.vconnLow then s else
  let s := onSlice p (Slice.vconnClose true) s
  let s := limitsChanged p s
  let x := s.slice p
  if x.att.attstat.vconnOn && x.att.attstat.state = 3 && x.pins.isog && !x.pd.discEnded && !x.pd.discovering then discoverStart p s
  else s

/-- What VCONN_IN_RESTORED does. -/
def vconnInRestored (s : State) : State :=
  overPorts vconnBack (onSup (fun u => { u with vconnOk := true }) s)

/-- VCONN_IN_RESTORED (R105). -/
def execVconnInRestored (s : State) : Host.Outcome State Fault Refusal := .next (vconnInRestored s)

/-! ## ErrorRecovery (R115) -/

/-- A write of `SLC_ATTCTL`: the lock (R8) and `ERRREC`, which has no effect in state 0 or 15 (R115). -/
def writeAttctl (p : Port) (w : Word) (s : State) : State :=
  let s := onAtt p (fun a => { a with attctl := { cfgLk := a.attctl.cfgLk || getBit w 0 } }) s
  let st := (s.slice p).att.attstat.state
  if getBit w 8 && st ≠ 0 && st ≠ 15 then errorRecovery p s else s

/-- ERRREC_WRITE (R115). -/
def execErrrecWrite (p : Port) (s : State) : Host.Outcome State Fault Refusal := .next (whenReleased (writeAttctl p 0x100) s)

/-- ERROR_RECOVERY_END (R115). -/
def execErrorRecoveryEnd (p : Port) (s : State) : Host.Outcome State Fault Refusal :=
  .next (whenReleased (fun s =>
    if (s.slice p).att.attstat.state = 14 then onSlice p (fun x => x.unattached.sink) s else s) s)

end Sys2Proof.Machine
end

