-- ==== Sys2Proof/Config.lean ====
section
/-!
DEFINITION. What an implementation fixes and the spec does not, and the free values: opaque constants, so that nothing in
the model or in a proof depends on what they are.
-/

namespace Sys2Proof

/-- Free value (R246): the temperature in 1/65536 °C that an NTC conversion gives where its formula has no value. -/
opaque Config.ntcUnstated : Nat → Nat → Nat → Nat → Nat → Int

/-- Free value (R249): the current limit in mA when the thermal resistance or r′ is 0, from the headroom. -/
opaque Config.kilnUnlimited : Nat → Nat

/-- Free value (R154): the code that Enter Failed carries for the first, second, third or fourth reason of R154. -/
opaque Config.eprReasonCode : Word → Word

/-- Free value (R369): an abort of a burn comes before its first programming pulse. -/
opaque Config.beforeFirstPulse : Nat → Bool

/-- SHA-256 of a byte string. The spec names it and does not define it. -/
opaque Config.sha256 : List Byte → List Byte

/-- The ECDSA P-256 signature (third) over a digest (second) verifies under the public key (first). -/
opaque Config.ecdsaOk : List Byte → List Byte → List Byte → Bool

/-- SHA-256 of the evaluation public key, a constant of the firmware (R374). -/
opaque Config.evalKeyHash : List Byte

/-- The Duroksen test root hash held in the boot ROM (R413). -/
opaque Config.testRootHash : List Byte

/-- Free value (R330): the window of a set (3 to 6) and an index that a bank's Warden firmware writes: `FAB_WB` and `FAB_WA`. -/
opaque Config.firmwareWindow : List Byte → Nat → Nat → Word × Word

/-- Free value (R331): the `FAB_PROT` word that a bank's Warden firmware writes. -/
opaque Config.firmwareProt : List Byte → Word

/-- Free value (R410): the nonce that HELLO gives. -/
opaque Config.nonce : Nat → List Byte

/-- Free value: the size code of the fitted flash, where the device has not identified it (R379, R427). -/
opaque Config.flashSize : BitVec 2

/-- Free value: how many blocks of the fitted flash bear a factory mark (R379, R382). -/
opaque Config.factoryBad : Nat

/-- A byte of the ROM by its offset; the spec gives no contents. -/
opaque Config.romByte : Nat → Byte

/-- Free value: the phase of the cycle at a fabric access; the model has no time within a cycle (R255, R263). -/
opaque Config.phaseNow : Nat → BitVec 16

end Sys2Proof
end

