-- ==== Sys2Proof/Machine/MemOps.lean ====
section
/-!
DEFINITION. System SRAM, the profile table and the ROM as the fabric reaches them: bytes by absolute address, words in the
byte order of R3. Memory is a sparse list in one canonical form, so that equal memories are equal data.
-/

namespace Sys2Proof.Machine

/-! ## Address ranges -/

/-- System SRAM: 1 MiB from here, in 256 tiles of 4 KiB. -/
def sramBase : Nat := 0x10000000

/-- Size of system SRAM. -/
def sramSize : Nat := 0x100000

/-- The profile table: 128 KiB from here (R242). -/
def profBase : Nat := 0x50000000

/-- Size of the profile table. -/
def profSize : Nat := 0x20000

/-- Size of the boot ROM, at address 0. -/
def romSize : Nat := 0x20000

/-- The address is a byte of system SRAM or of the profile table. -/
def inRam (a : Nat) : Bool :=
  (sramBase ≤ a && a < sramBase + sramSize) || (profBase ≤ a && a < profBase + profSize)

/-! ## The canonical list -/

/-- What an unlisted address reads as: the wipe writes 0 (R79). -/
def memDefault : Byte := 0

/-- The byte at an address. -/
def memGet (m : List Host.Cell) (a : Nat) : Byte :=
  match m with
  | [] => memDefault
  | (b, v) :: rest => if b = a then v else memGet rest a

/-- Write a byte; a byte equal to what an unlisted address reads as takes its entry away. -/
def memSet (a : Nat) (v : Byte) : List Host.Cell → List Host.Cell
  | [] => if v = memDefault then [] else [(a, v)]
  | (b, w) :: rest =>
    if b < a then (b, w) :: memSet a v rest
    else
      let tail := if b = a then rest else (b, w) :: rest
      if v = memDefault then tail else (a, v) :: tail

/-- Every address of a list lies at or above `lo`, rising, and no byte is what an unlisted address reads as. -/
def memFrom (lo : Nat) : List Host.Cell → Bool
  | [] => true
  | (a, v) :: rest => decide (lo ≤ a) && v != memDefault && memFrom (a + 1) rest

/-- The canonical form: addresses strictly rising, no entry equal to the default. -/
def Memory.wf (m : List Host.Cell) : Bool := memFrom 0 m

/-- Forget the bytes from `lo` up to `hi`. -/
def memClear (lo hi : Nat) (m : List Host.Cell) : List Host.Cell := m.filter (fun c => c.1 < lo || hi ≤ c.1)

/-- Write consecutive bytes. -/
def memPut (a : Nat) (bs : List Byte) (m : List Host.Cell) : List Host.Cell :=
  match bs with
  | [] => m
  | b :: rest => memPut (a + 1) rest (memSet a b m)

/-! ## The state's memory -/

/-- Change the memory. -/
def onMem (f : List Host.Cell → List Host.Cell) (s : State) : State := { s with mem := f s.mem }

/-- The byte a read finds: SRAM or profile table, ROM, or 0 where nothing is (R299). -/
def readByte (s : State) (a : Nat) : Byte :=
  if inRam a then memGet s.mem a else if a < romSize then Config.romByte a else 0

/-- The word at an address, byte 0 lowest (R3). -/
def readMemWord (s : State) (a : Nat) : Word := readByte s (a + 3) ++ readByte s (a + 2) ++ readByte s (a + 1) ++ readByte s a

/-- Byte `i` of a word. -/
def byteOf (w : Word) (i : Nat) : Byte := getField w (8 * i) 8

/-- Write a word to memory; outside SRAM and the profile table it has no effect (R299). -/
def writeMemWord (a : Nat) (w : Word) (s : State) : State :=
  if inRam a then onMem (memPut a [byteOf w 0, byteOf w 1, byteOf w 2, byteOf w 3]) s else s

/-- Replace the bytes from `a` over `n` bytes by `bs` with zeros after them. -/
def writeBlock (a n : Nat) (bs : List Byte) (s : State) : State := onMem (fun m => memPut a bs (memClear a (a + n) m)) s

end Sys2Proof.Machine
end

