-- ==== Sys2Proof/Machine/BootOps.lean ====
section
/-!
DEFINITION. Entering reset, the pre-reset phase and recovery, and the steps between boot stages (R75 to R88, Table 2.11).
-/

namespace Sys2Proof.Machine

/-! ## Pins (Table 2.11) -/

/-- Steps 1 to 3 of Table 2.11 on one slice: the converter stops, the gates turn off, and CC, VCONN and SBU are released; ports
0 and 1 return to the clamp. -/
def Slice.pinsOff (p : Port) (x : Slice) : Slice :=
  let x := x.powerOff.openSnkg.vconnOpen
  { x with pins := { x.pins with term := if p.val < 2 then .clamp else .openCc, sbu := .highZ, disch := false, vconnPull := false } }

/-- Steps 1 to 3 of Table 2.11: every slice, the hot-swap gates and PS_EN. -/
def pinsOff (s : State) : State :=
  s |> overPorts (fun p s => onSlice p (Slice.pinsOff p) s)
    |> onSup (fun u => { u with
        psEn := false, main := { u.main with gate := false, precharge := false }, bkup := { u.bkup with gate := false, precharge := false } })
    |> onDid (fun d => { d with released := false })

/-! ## Reset (R75 to R77) -/

/-- What reset leaves of the identity block: the sources since the last release, and the thermal source. -/
def Did.afterReset (d : Did) : Did := { srcs := d.srcs, thermal := d.thermal }

/-- Internal reset is asserted: every register takes its reset value; the OTP array and the flash stay as they are, and
memory waits for the wipe. -/
def resetDevice (s : State) : State :=
  { State.reset with
    did := s.did.afterReset, nand := s.nand, mem := s.mem, free := s.free, pending := s.pending
    otp := { State.reset.otp with cells := s.otp.cells, spareTag := s.otp.spareTag, spareData := s.otp.spareData } }

/-- A pre-reset phase begins (R77): the pins of Table 2.11, and a record that gives the cause. -/
def preReset (record : State → State) (s : State) : State :=
  s |> pinsOff |> onDid (fun d => { d with preReset := true }) |> record

/-- The Warden Core, or the ROM in recovery, requests a device reset with a cause (R77, R87): the record is of type 0x03 with
FLAGS bit 3 (R342). -/
def wardenReset (cause : BitVec 4) (s : State) : State :=
  if s.did.preReset || s.did.cond = .reset || s.did.cond = .unpowered then s else
  let s := onDid (fun d => { d with srcs := { d.srcs with warden := true, wcause := cause } }) s
  preReset (fun s => hwRecord 3 0xFF 8 (resetData s.did.srcs s.did.boot) s) s

/-! ## Boot stages and recovery (R79, R86, R87) -/

/-- Set `DID_BOOT.STAGE`. -/
def setStage (n : BitVec 4) : State → State := onDid (fun d => { d with boot := { d.boot with stage := n } })

/-- The boot stands at stage `n`. -/
def atStage (n : BitVec 4) (s : State) : Bool := s.did.cond = .boot && !s.did.preReset && s.did.boot.stage = n

/-- Recovery with a cause (R86, R87): the ROM runs and no core does, the recorder is stopped, and records held are
dropped. -/
def enterRecovery (cause : BitVec 3) (s : State) : State :=
  s |> onDid (fun d => { d with
        cond := .recovery, boot := { d.boot with stage := 8, recCause := cause }
        policy := { d.policy with started := false }, warden := { d.warden with started := false } })
    |> onEvr (fun e => { e with running := false, held := [] })

end Sys2Proof.Machine
end

