-- ==== Sys2Proof/Machine/Fuses.lean ====
section
/-!
DEFINITION. Sensing, overrides, burning, the margin audit and the end of a lifecycle change (R361 to R376).
-/

namespace Sys2Proof.Machine

/-- Change the OTP controller's state. -/
def onOtp (f : Otp → Otp) (s : State) : State := { s with otp := f s.otp }

/-! ## Sensing (R361, R362, R371) -/

/-- All the words. -/
def allWords : List (Fin 128) := List.ofFn id

/-- All the spare rows. -/
def allRows : List (Fin 4) := List.ofFn id

/-- A bitmap of the words that meet a condition. -/
def wordMap (f : Nat → Bool) : BitVec 128 :=
  (List.range 128).foldl (fun m w => if f w then m ||| (1 <<< w) else m) 0

/-- Spare row `k` as sensing finds it: its registers' fields but APPLIED (R371). -/
def sparePre (o : Otp) (marg : List (Fin 4)) (k : Fin 4) : OtpSpare :=
  let t := otpRead (o.spareTag.get k)
  let d := otpRead (o.spareData.get k)
  { word := t.data.setWidth 7, valid := t.written && d.written && getField t.data 8 8 == 0x5A
    marg := marg.contains k, unc := t.faulted || d.faulted }

/-- The spare applied to word `w`: a valid one of the highest row, for a faulted word outside words 1 to 10. -/
def spareFor (o : Otp) (sp : Vector OtpSpare 4) (w : Nat) : Option (Fin 4) :=
  if !(otpRead (o.cells.toList.getD w 0)).faulted || (1 ≤ w && w ≤ 10) then none
  else (allRows.filter (fun k => (sp.get k).valid && (sp.get k).word.toNat == w)).getLast?

/-- Sense the array (R361): bitmaps, shadows, spares and locks. -/
def otpSense (r : SensingRead) (o : Otp) : Otp :=
  let sp0 : Vector OtpSpare 4 := #v[sparePre o r.marginalSpare 0, sparePre o r.marginalSpare 1, sparePre o r.marginalSpare 2, sparePre o r.marginalSpare 3]
  let reads := mapVec otpRead o.cells
  let at_ (w : Nat) : OtpWord := reads.toList.getD w { written := false, faulted := false, data := 0 }
  let sp := spareFor o sp0
  let wr := wordMap (fun w => (at_ w).written || (sp w).isSome)
  let uc := wordMap (fun w => (at_ w).faulted && (sp w).isNone)
  let shut (w : Nat) : Bool := wr.getLsbD w || uc.getLsbD w
  let lock : OtpLock :=
    { vlk := shut 5, olk := shut 6, clk := BitVec.ofNat 4 (((List.range 4).map (fun b => if shut (7 + b) then 2 ^ b else 0)).sum) }
  let applied (k : Fin 4) : OtpSpare :=
    { (sp0.get k) with applied := (List.range 128).any (fun w => sp w == some k) }
  { o with
    sensed := true, nmarg := satField 8 r.marginal.length, margSpare := !r.marginalSpare.isEmpty, wr := wr, uc := uc
    mg := wordMap (fun w => r.marginal.any (fun m => m.val == w)), ad := 0, ov := 0, lock := lock
    bl := wordMap (fun w => lockedByWord lock (otpGroup w) && !wr.getLsbD w && !uc.getLsbD w)
    shd := Vector.ofFn (fun w => match sp w.val with
      | some k => (otpRead (o.spareData.get k)).data
      | none => (at_ w.val).data)
    ovr := Vector.replicate 128 0
    spares := #v[applied 0, applied 1, applied 2, applied 3] }

/-- The DATA of a Fuse record (Table 16.2). -/
def fuseData (w cond : Nat) (shadow : Word) : BitVec 48 :=
  BitVec.ofNat 48 w ||| (BitVec.ofNat 48 cond <<< 8) ||| (shadow.setWidth 48 <<< 16)

/-- The Fuse records of a sensing, in word order within each condition. -/
def fuseRecords (s : State) : State :=
  let o := s.otp
  let s := allWords.foldl (fun s w => if o.mg.getLsbD w.val then
    s |> raise 219 |> hwRecord 5 219 0 (fuseData w.val 1 (o.shd.get w)) else s) s
  let s := allWords.foldl (fun s w => if o.uc.getLsbD w.val then hwRecord 5 0xFF 0 (fuseData w.val 2 (o.shd.get w)) s else s) s
  allWords.foldl (fun s w => if o.bl.getLsbD w.val then hwRecord 5 0xFF 0 (fuseData w.val 3 (o.shd.get w)) s else s) s

/-- A strap level from its voltage in mV (R37): below 0.55 V, 1.65 V and 2.75 V. -/
def strapLevel (mv : Nat) : BitVec 2 := if mv < 550 then 0 else if mv < 1650 then 1 else if mv < 2750 then 2 else 3

/-- OTP_SENSING_DONE: shadows, lifecycle and the straps (R38, R361). -/
def otpSensingDone (r : SensingRead) (s : State) : State :=
  let s := onOtp (otpSense r) s
  let w0 := otpShadow s.otp 0
  let l0 := strapLevel r.addr0Mv
  let l1 := strapLevel r.addr1Mv
  let s := { s with did := { s.did with
    part := { partId := w0.setWidth 16, step := getField w0 16 4 }
    strap := { addr0Lvl := l0, addr1Lvl := l1, addrIdx := BitVec.ofNat 4 (4 * l1.toNat + l0.toNat), svcEnLow := r.svcEnLow } } }
  fuseRecords s

/-- OTP_SENSING_DONE (R361). -/
def execOtpSensingDone (r : SensingRead) (s : State) : Host.Outcome State Fault Refusal :=
  .next (if atStage 1 s && !s.otp.sensed then otpSensingDone r s else s)

/-! ## Overrides (R367) -/

/-- An override of word `w` is accepted: blank, not faulted, unlocked, in OWNER, TRIM or CUST. -/
def overrideOk (o : Otp) (w : Nat) : Bool :=
  !otpWritten o w && !otpFaulted o w && !wordLocked o w && (w = 11 || (40 ≤ w && w ≤ 111))

/-- The Warden Core writes `OTP_OVRw` (R367). -/
def writeOverride (w : Fin 128) (v : Word) (s : State) : State :=
  if overrideOk s.otp w.val then
    onOtp (fun o => { o with
      ov := o.ov ||| (1 <<< w.val), ovr := o.ovr.set w.val v w.isLt, shd := o.shd.set w.val v w.isLt }) s
  else s

/-- Set sticky locks (R366): the bits of `OTP_LOCK` that a write of 1 sets. -/
def setSticky (w : Word) (s : State) : State := onOtp (fun o => { o with lock := o.lock.put w }) s

/-! ## Burning (R368 to R371) -/

/-- The lowest blank spare row. -/
def blankRow (o : Otp) : Option (Fin 4) :=
  allRows.find? (fun k => o.spareTag.get k == 0 && o.spareData.get k == 0)

/-- R371 allows a spare for word `w`: faulted at sensing, outside words 1 to 10, in a group that is not locked. -/
def spareAllowed (o : Otp) (w : Nat) : Bool :=
  otpFaulted o w && !(1 ≤ w && w ≤ 10) && !wordLocked o w

/-- A normal read of word `w` now is not all zero, or its marker read 1 at sensing (R360). -/
def burnWritten (o : Otp) (w : Fin 128) : Bool := otpWritten o w.val || (o.cells.get w ≠ 0 && !otpFaulted o w.val)

/-- The first cause of Table 17.3 that refuses a burn, 0 when none does. -/
def burnCause (w : Fin 128) (spare : Bool) (s : State) : BitVec 4 :=
  let o := s.otp
  if !spare && burnWritten o w then 1
  else if wordLocked o w.val then 2
  else if !spare && otpFaulted o w.val then 3
  else if (1 ≤ w.val && w.val ≤ 4) || (12 ≤ w.val && w.val ≤ 15) || 112 ≤ w.val then 4
  else if s.sup.vaux.vhk.toNat < 475 || s.sup.pfw then 5
  else if (dieTemp s < 0) || 1600 < dieTemp s then 6
  else if spare && (!spareAllowed o w.val || (blankRow o).isNone) then 7
  else if 16 ≤ w.val && w.val ≤ 23 && lifecycle o ≠ 0 then 8
  else if o.job.isSome || o.change.isSome then 9
  else 0

/-- The job of a burn of word `w`: the codeword of its data, and of the tag of a spare row (R369, R371). -/
def burnJob (w : Fin 128) (spare : Bool) (data : Word) (o : Otp) : BurnJob :=
  let row := if spare then blankRow o else none
  { word := w, row := row, tag := if spare then otpEncode (BitVec.ofNat 32 (w.val + 0x5A00)) else 0, data := otpEncode data }

/-- A write of `OTP_BURN` with GO by the Warden Core (R368, R369). -/
def burnGo (s : State) : State :=
  let o := s.otp
  let w : Fin 128 := ⟨o.burn.word.toNat, o.burn.word.isLt⟩
  let c := burnCause w o.burn.spare s
  if c ≠ 0 then onOtp (fun o => { o with bstat := { o.bstat with state := 3, cause := c, word := o.burn.word, abortLate := false } }) s
  else
    let d := if o.burn.src then o.ovr.get w else o.bdata
    let j := burnJob w o.burn.spare d o
    onOtp (fun o => { o with
      job := some j
      bstat := { state := 1, cause := 0, abortLate := false, word := o.burn.word
                 row := match j.row with | some k => BitVec.ofNat 2 k.val | none => o.bstat.row } }) s

/-- A write of `OTP_BURN.ABORT`: nothing is programmed before the first pulse, and after it the burn completes. Which
of the two holds is not the model's to say, since no event marks the first pulse: a free value decides (R369). A lifecycle
change ends with the abort of its burn (R376). -/
def burnAbort (s : State) : State :=
  if s.otp.job.isNone then s else
  let s' := { s with free := s.free + 1 }
  if Config.beforeFirstPulse s.free then
    onOtp (fun o => { o with job := none, change := none, bstat := { o.bstat with state := 6 } }) s'
  else onOtp (fun o => { o with bstat := { o.bstat with abortLate := true } }) s'

/-- The Warden Core writes `OTP_BURN`. -/
def writeBurn (w : Word) (s : State) : State :=
  let s := onOtp (fun o => { o with burn := o.burn.put w }) s
  let s := if getBit w 16 then burnGo s else s
  if getBit w 17 then burnAbort s else s

/-- What a burn leaves in the array. -/
def burnStore (j : BurnJob) (tag data : BitVec 40) (o : Otp) : Otp :=
  match j.row with
  | some k => { o with spareTag := o.spareTag.set k.val tag k.isLt, spareData := o.spareData.set k.val data k.isLt }
  | none => { o with cells := o.cells.set j.word.val data j.word.isLt }

/-- OTP_BURN_DONE: programming and verify have ended; `tag` and `data` are the codewords both margin reads give (R369). -/
def execOtpBurnDone (tag data : BitVec 40) (s : State) : Host.Outcome State Fault Refusal :=
  .next (match s.otp.job with
    | none => s
    | some j =>
      let ok := data = j.data && (j.row.isNone || tag = j.tag)
      onOtp (fun o => { burnStore j tag data o with job := none, bstat := { o.bstat with state := if ok then 2 else 4 } }) s)

/-- OTP_BURN_INTERRUPT: a committed burn stops after the bit in progress; `tag` and `data` are what the array holds, bits
of the intended codewords set over what stood there (R370). -/
def execOtpBurnInterrupt (tag data : BitVec 40) (s : State) : Host.Outcome State Fault Refusal :=
  .next (match s.otp.job with
    | none => s
    | some j =>
      let old := match j.row with | some k => (s.otp.spareTag.get k, s.otp.spareData.get k) | none => ((0 : BitVec 40), s.otp.cells.get j.word)
      let t := old.1 ||| (tag &&& j.tag)
      let d := old.2 ||| (data &&& j.data)
      onOtp (fun o => { burnStore j t d o with job := none, bstat := { o.bstat with state := 5 } }) s)

/-- The margin audit (R372): `differ` are the words that differ. -/
def otpAudit (differ : List (Fin 128)) (s : State) : State :=
  let s := onOtp (fun o => { o with ad := wordMap (fun w => differ.any (fun d => d.val == w)) }) s
  let s := allWords.foldl (fun s w => if differ.contains w then hwRecord 5 219 8 (fuseData w.val 1 (s.otp.shd.get w)) s else s) s
  if differ.isEmpty then s else raise 219 s

/-! ## The lifecycle change (R375, R376) -/

/-- The refusals of a lifecycle change: R375, and those of Table 17.3 that apply to it. -/
def lifecycleAllowed (authorised : Bool) (s : State) : Bool :=
  let o := s.otp
  let k := lifecycle o
  nextOk o && (k ≠ 3 || authorised) && !o.lock.sLc && !(s.sup.vaux.vhk.toNat < 475 || s.sup.pfw)
    && !(dieTemp s < 0 || 1600 < dieTemp s) && o.job.isNone && o.change.isNone

/-- Start an accepted lifecycle change: LCk burns the new code (R373, R376). -/
def lifecycleStart (s : State) : State :=
  let k := lifecycle s.otp + 1
  let w : Fin 128 := ⟨min k 4, by omega⟩
  onOtp (fun o => { o with
    change := some (BitVec.ofNat 3 k)
    job := some { word := w, row := none, tag := 0, data := otpEncode (BitVec.ofNat 32 k) }
    bstat := { o.bstat with state := 1, cause := 0, abortLate := false, word := BitVec.ofNat 7 w.val } }) s

end Sys2Proof.Machine
end

