-- ==== Sys2Proof/Machine/Budget.lean ====
section
/-!
DEFINITION. Budget rounds, partner profiles, the NTC inputs and the kiln model (chapter 11).
-/

namespace Sys2Proof.Machine

/-! ## The power available (R235) -/

/-- The input budget B of R235 in mW, held to 6,000 W. -/
def inputBudgetMw (s : State) : Nat :=
  let casc := match s.sup.cascPort with
    | some p => (s.slice p).sw.snkMv * (s.slice p).sw.snkMa / 1000
    | none => 0
  let main := s.bud.inp.bMain.toNat * 1000
  let bkup := s.bud.inp.bBkup.toNat * 1000
  let b := match s.sup.active with
    | .main => main
    | .backup => bkup
    | .cascade => casc
    | .none => if s.sup.main.qual then main else if s.sup.bkup.qual then bkup else if s.sup.cascQ then casc else 0
  min b 6000000

/-- The power A available for ports, in 0.1 W units, truncated (R235). -/
def available (s : State) : Nat :=
  let b := inputBudgetMw s
  let ovh := s.bud.cfg.pOvh.toNat * 1000
  let eff := clampNat 70 100 s.bud.cfg.eff.toNat
  let d := if s.did.twarn then clampNat 25 100 s.bud.cfg.dtw.toNat else 100
  if b ≤ ovh then 0 else (b - ovh) * eff * d / 1000000

/-! ## Floors, targets and ceilings (R236, Table 11.1) -/

/-- `BUD_PCFGn.P_PMAX` held to its range, in 0.1 W. -/
def portMax (s : State) (p : Port) : Nat := 10 * clampNat 15 240 (s.bud.ports.get p).pcfg.pPmax.toNat

/-- The port is an attached port of R237. -/
def isAttachedState (n : BitVec 4) : Bool := n == 3 || n == 6 || n == 12 || n == 13

/-- The floor and the target of a port, in 0.1 W, the floor clipped to the target (Table 11.1). -/
def floorTarget (s : State) (p : Port) : Nat × Nat :=
  let sl := s.slice p
  let st := sl.att.attstat.state
  let pb := s.bud.ports.get p
  let ft :=
    if sl.att.attcfg.role = 0 then (0, 0)
    else if st = 6 || st = 13 then
      let f := if sl.sw.swcfg.frsEn then 5 * frsCurrent sl.sw.swstat.partFrs / 100 else 0
      (f, f)
    else
      let r := match (if st = 3 || st = 12 then pb.partner else none) with
        | some e => (10 * e.pMin.toNat, 10 * e.pMax.toNat)
        | none => (10 * clampNat 5 100 pb.pcfg.pIdle.toNat, 10 * clampNat 15 240 pb.pcfg.pDef.toNat)
      if sl.off.contract.mismatch then (r.1, portMax s p) else r
  (min ft.1 ft.2, ft.2)

/-- The terms of K other than the kiln ceiling, in 0.1 W (R236). -/
def otherCeilings (s : State) (p : Port) : Nat :=
  let cap := (s.slice p).gr.cap.toNat
  let hlim := (s.bud.ports.get p).pcfg.hlim.toNat
  let k := portMax s p
  let k := if cap = 255 then k else min k (10 * cap)
  if 240 < hlim then k else min k (10 * hlim)

/-- The ceiling K of a port, in 0.1 W (R236). -/
def portCeiling (s : State) (p : Port) : Nat :=
  let kb := (s.kln.ports.get p).b
  if kb.der then min (otherCeilings s p) kb.ceil.toNat else otherCeilings s p

/-! ## Profile lookup (R243, R244) -/

/-- The 16-bit value at an offset of a profile entry, little-endian. -/
def profHalf (s : State) (base off : Nat) : BitVec 16 := readByte s (base + off + 1) ++ readByte s (base + off)

/-- Entry `k` of the profile table as it stands in its SRAM (Table 11.2). -/
def profEntry (s : State) (k : Nat) : ProfEntry :=
  let b := profBase + 32 * k
  { kind := readByte s b, flags := readByte s (b + 1), vid := profHalf s b 2, pid := profHalf s b 4
    mask := profHalf s b 6, vceil := profHalf s b 8, iceil := readByte s (b + 10), pad11 := readByte s (b + 11)
    pMin := profHalf s b 12, pMax := profHalf s b 14, rpm := profHalf s b 18 ++ profHalf s b 16, tlim := profHalf s b 20 }

/-- The entry of a KIND that R244 takes for an identity: the exact one, else the wildcard entry of the vendor. -/
def profLookup (s : State) (kind : Byte) (vid pid : BitVec 16) : Option ProfEntry :=
  let es := (List.range s.bud.prof.count.toNat).map (profEntry s)
  match es.find? (fun e => e.kind == kind && !e.flags.getLsbD 0 && e.vid == vid && e.pid == pid) with
  | some e => some e
  | none => es.find? (fun e => e.kind == kind && e.flags.getLsbD 0 && e.vid == vid)

/-- The lookups of one port at the start of a round (R244). -/
def lookupPort (p : Port) (s : State) : State :=
  let sl := s.slice p
  let pb := s.bud.ports.get p
  let ptn := sl.gr.ptnid.toWord
  let cbl := sl.pd.cblId.toWord
  let s :=
    if ptn ≠ 0 && ptn ≠ pb.ptnSeen then
      let m := profLookup s 1 sl.gr.ptnid.vid sl.gr.ptnid.pid
      let s := onPortBud p (fun b => { b with partner := m, ptnSeen := ptn }) s
      match m with
      | some e => writeProflim p { mask := e.mask.setWidth 11, vceil := e.vceil.setWidth 9, iceil := e.iceil.setWidth 6 } s
      | none => s
    else s
  if cbl ≠ 0 && cbl ≠ pb.cblSeen then
    onPortBud p (fun b => { b with cable := profLookup s 2 sl.pd.cblId.vid sl.pd.cblId.pid, cblSeen := cbl }) s
  else s

/-! ## The round (R237 to R240) -/

/-- What a round works out for one port. -/
structure RoundPort where
  port : Port
  tier : Nat
  etier : Nat
  /-- The wait time, in ms, 0 when not waiting. -/
  wait : Nat
  attached : Bool
  source : Bool
  f : Nat
  t : Nat
  k : Nat
  g : Nat := 0
  granted : Nat := 0
  refused : Bool := false
deriving DecidableEq, Repr

/-- The effective tier of R238. -/
def effectiveTier (tier waitMs : Nat) (waiting : Bool) : Nat :=
  if waiting && 1 ≤ tier then max 1 (tier - waitMs / 10000) else tier

/-- A port's figures at the start of a round, `dt` ms after the previous one. -/
def roundPort (s : State) (dt : Nat) (p : Port) : RoundPort :=
  let ft := floorTarget s p
  let tier := portTier s p
  let st := (s.slice p).att.attstat.state
  let w := (s.bud.ports.get p).waitMs
  let wms := match w with | some x => x + dt | none => 0
  { port := p, tier := tier, etier := effectiveTier tier wms w.isSome, wait := wms
    attached := isAttachedState st, source := st = 3 || st = 12
    f := min ft.1 ft.2, t := ft.2, k := portCeiling s p }

/-- Whether one port comes before another in a round: by effective tier, then the longer wait, then number. -/
def roundBefore (a b : RoundPort) : Bool :=
  a.etier < b.etier || (a.etier == b.etier &&
    (b.wait / 1000 < a.wait / 1000 || (a.wait / 1000 == b.wait / 1000 && a.port.val ≤ b.port.val)))

/-- Stage A: floors, in order; the available power may go below 0 for tier-0 floors. -/
def stageA : List RoundPort → Int → List RoundPort × Int
  | [], a => ([], a)
  | r :: rs, a =>
    let f := min r.f r.k
    let ok := r.tier = 0 || (f : Int) ≤ a
    let r' := if ok then { r with g := f, granted := f } else { r with refused := true }
    let (rs', a') := stageA rs (if ok then a - f else a)
    (r' :: rs', a')

/-- Stage B: growth, in order. -/
def stageB : List RoundPort → Int → List RoundPort × Int
  | [], a => ([], a)
  | r :: rs, a =>
    let add := max 0 (min ((min r.t r.k : Nat) - (r.g : Int)) a)
    let (rs', a') := stageB rs (a - add)
    ({ r with g := r.g + add.toNat } :: rs', a')

/-- The port an eighth round serves first: the attached port with the longest wait above 0, the lowest on a tie. -/
def reservedPort (rs : List RoundPort) : Option RoundPort :=
  rs.foldl (fun best r =>
    if r.attached && 1000 ≤ r.wait then
      match best with
      | none => some r
      | some b =>
        if b.wait / 1000 < r.wait / 1000 || (b.wait / 1000 == r.wait / 1000 && r.port.val < b.port.val) then some r else best
    else best) none

/-- The order of stage B (R237). -/
def growthOrder (first : Option RoundPort) (order : List RoundPort) : List RoundPort :=
  let rest := match first with
    | some f => order.filter (fun (r : RoundPort) => r.port != f.port)
    | none => order
  first.toList ++ rest.filter RoundPort.attached ++ rest.filter (fun r => !r.attached)

/-- The allocation of a round: what every port is granted, and what is left (R237). -/
def allocate (s : State) (dt : Nat) : List RoundPort × Int × Option Port :=
  let order : List RoundPort := sortBy roundBefore (allPorts.map (roundPort s dt))
  let (as, a) := stageA order (available s)
  let first := if s.bud.rnd % 8 = 7 then reservedPort as else none
  let (bs, a') := stageB (growthOrder first as) a
  (bs, a', first.map RoundPort.port)

/-- The port is waiting at the end of a round (R238). -/
def stillWaiting (r : RoundPort) : Bool := r.source && r.g < min r.t r.k

/-- A round's record of one port: `BUD_PSTATn` and its wait time (R238). -/
def finishPort (r : RoundPort) : PortBud → PortBud := fun b =>
  let w := stillWaiting r
  let ms := if w then (match b.waitMs with | some _ => r.wait | none => 0) else 0
  { b with
    waitMs := if w then some ms else none
    pstat := { etier := BitVec.ofNat 3 (effectiveTier r.tier ms w), wait := w, waitS := satField 8 (ms / 1000)
               tgt := satField 8 (min r.t r.k / 10), floor := satField 8 (r.granted / 10)
               prof := b.partner.isSome, cprof := b.cable.isSome, shedA := r.refused } }

/-- Write a port's grant when it has changed, in power or in `KLN` (R234, R250). -/
def writeRoundGrant (r : RoundPort) (s : State) : State :=
  let g := (s.slice r.port).gr.grant
  let kln := (s.kln.ports.get r.port).b.der
  let pwr := satField 12 r.g
  if g.pwr = pwr && g.kln = kln then s else setGrant r.port { pwr := pwr, kln := kln } s

/-- The new grant is below the present one. -/
def isDecrease (s : State) (r : RoundPort) : Bool := r.g < (s.slice r.port).gr.grant.pwr.toNat

/-- A budget round (R234 to R241), `dt` ms after the round before it. The Policy Core runs it, and defers it while the
hold line is asserted. -/
def budgetRound (dt : Nat) (s : State) : State :=
  if !policyRuns s || s.sup.hold then s else
  let s := overPorts lookupPort s
  let a0 := available s
  let (rs, a, first) := allocate s dt
  let down := rs.filter (isDecrease s)
  let up := rs.filter (fun r => !isDecrease s r)
  let s := (down ++ up).foldl (fun s r => writeRoundGrant r s) s
  let s := rs.foldl (fun s r => onPortBud r.port (finishPort r) s) s
  let waiting := rs.any stillWaiting
  let exh := a < 0 || (a < 10 && waiting)
  let reserved := s.bud.rnd % 8 = 7
  let was := s.bud.stat.exh
  let granted := (allPorts.map (fun p => effGrant s p)).sum / 10
  let deliv := (allPorts.map (fun p => snapPower s p)).sum / 1000
  let st : BudStat :=
    { avail := satField 14 (a0 / 10), exh := exh, twarnRed := s.did.twarn, rnd8 := BitVec.ofNat 3 s.bud.rnd
      rsv := if reserved then (match first with | some p => BitVec.ofNat 5 p.val | none => 31) else s.bud.stat.rsv }
  let s := { s with bud := { s.bud with
    rnd := s.bud.rnd + 1, stat := st, sum := { granted := satField 14 granted, deliv := satField 14 deliv } } }
  if exh && !was then globalEvent 201 st.toWord 0 s else s

/-- The Policy Core starts, or starts again (R241, R247): the first round is round 0, wait times are 0, and a grant limited by
a kiln derate stands as the kiln ceiling. A port whose identity has gone meanwhile is forgotten (R244). -/
def policyStart (s : State) : State :=
  let s := { s with
    bud := { s.bud with rnd := 0 }
    kln := { s.kln with first := true, cycles := 0, snaps := 0, stat := {} } }
  overPorts (fun p s =>
    let g := (s.slice p).gr.grant
    let s := s |> onPortBud p (fun b => { b with waitMs := none })
      |> onPortKln p (fun k => { k with sumSq := 0, b := { k.b with der := g.kln, ceil := if g.kln then g.pwr else k.b.ceil } })
    let b := s.bud.ports.get p
    if (b.ptnSeen ≠ 0 || b.cblSeen ≠ 0) && !isAttachedState (s.slice p).att.attstat.state then policyForget p s else s) s

/-- BUDGET_ROUND: the Policy Core recomputes all grants (R237); the first round of a boot, after configuration load, is step 8
of Table 4.2. -/
def execBudgetRound (dt : Nat) (s : State) : Host.Outcome State Fault Refusal :=
  .next (
    if s.did.cond = .boot && !s.cyc.running then s else
    let s := spreading (budgetRound dt) s
    if s.did.cond = .boot && s.did.boot.stage = 5 && 0 < s.bud.rnd then onDid (fun d => { d with boot := { d.boot with stage := 6 } }) s
    else s)

/-! ## NTC inputs (R246) -/

/-- The number that stands for 1 in the fixed-point logarithm. -/
def lnOne : Nat := 2 ^ 48

/-- The series for 2 artanh z, `z` in units of 1 / `lnOne`: the sum of 2 z^(2i+1) / (2i+1). -/
def artanhSum (z2 : Nat) : Nat → Nat → Nat → Nat
  | 0, _, _ => 0
  | k + 1, term, odd => 2 * term / odd + artanhSum z2 k (term * z2 / lnOne) (odd + 2)

/-- ln 2 in units of 1 / `lnOne`, from the same series at z = 1/3. -/
def lnTwo : Nat := artanhSum (lnOne / 9) 30 (lnOne / 3) 1

/-- ln (a / b) for 1 ≤ a / b < 2, in units of 1 / `lnOne`. -/
def lnNear (a b : Nat) : Nat :=
  let z := lnOne * (a - b) / (a + b)
  artanhSum (z * z / lnOne) 30 z 1

/-- ln (a / b) in units of 1 / `lnOne`, for positive a and b. -/
def lnRatio (a b : Nat) : Int :=
  let la := Nat.log2 a
  let lb := Nat.log2 b
  let k : Int := (la : Int) - lb
  let a' := a * 2 ^ lb
  let b' := b * 2 ^ la
  if b' ≤ a' then k * lnTwo + lnNear a' b' else (k - 1) * lnTwo + lnNear (2 * a') b'

/-- The sensed temperature of R246 in 1/256 °C. The result is truncated; where the formula has no value,
the result is free. -/
def ntcConvert (d : KlnShD) (v vdda : Nat) : Int :=
  let rpu := d.rpu.toNat
  let rnom := d.rnom.toNat
  let beta := d.beta.toNat
  if rpu = 0 || rnom = 0 || beta = 0 || vdda ≤ v || v = 0 then Config.ntcUnstated rpu rnom beta v vdda else
  let den : Int := 100 * (lnOne * beta : Nat) + 29815 * lnRatio (rpu * v) (rnom * (vdda - v))
  if den ≤ 0 then Config.ntcUnstated rpu rnom beta v vdda else
  let num : Int := (256 * 29815 * lnOne * beta : Nat)
  Int.tdiv (num * 10 - 699264 * den) (10 * den)

/-- One sheaf's part of an NTC sample: `mv` holds the eight input voltages. -/
def ntcSheaf (mv : List Nat) (vdda : Nat) (sh : Sheaf) : Sheaf :=
  if !sh.a.en || 8 ≤ sh.a.ntc.toNat then sh else
  let v := mv.getD sh.a.ntc.toNat 0
  if 100 * v < 3 * vdda || 97 * vdda < 100 * v then { sh with ntcFault := true }
  else { sh with ntcSum := sh.ntcSum + ntcConvert sh.d v vdda, ntcN := sh.ntcN + 1 }

/-- NTC_SAMPLE: every 100 ms each NTC named by an enabled sheaf is sampled (R246). -/
def execNtcSample (mv : List Nat) (vdda : Nat) (s : State) : Host.Outcome State Fault Refusal :=
  .next (if policyRuns s then { s with kln := { s.kln with sheaves := mapVec (ntcSheaf mv vdda) s.kln.sheaves } } else s)

/-! ## The kiln update (R247 to R251) -/

/-- The integer square root, bit by bit from bit `k`: the largest r with r² at most n. -/
def isqrtFrom (n : Nat) : Nat → Nat → Nat
  | 0, r => if (r + 1) * (r + 1) ≤ n then r + 1 else r
  | k + 1, r => isqrtFrom n k (if (r + 2 ^ (k + 1)) * (r + 2 ^ (k + 1)) ≤ n then r + 2 ^ (k + 1) else r)

/-- The integer square root of R249. -/
def isqrt (n : Nat) : Nat := isqrtFrom n 40 0

/-- The cycles between kiln updates (R247). -/
def kilnEvery (s : State) : Nat := if s.cyc.src = .internal && s.cyc.cfg.intHz then 60 else 50

/-- The source of r′ and its value in µΩ/m (R248). -/
def loopPerMetre (s : State) (p : Port) : BitVec 2 × Nat :=
  let rl := (s.slice p).ps.feres.rloop.toNat
  let cfg := (s.kln.ports.get p).pcfg
  let len := cfg.len.toNat
  if rl ≠ 0 && len ≠ 0 then (1, rl * 10000 / len)
  else match (s.bud.ports.get p).cable with
    | some e => (2, e.rpm.toNat)
    | none => (3, cfg.rpm.toNat * 10)

/-- The conductor limit of a port in a sheaf, 1/256 °C (R249). -/
def conductorLimit (s : State) (p : Port) (sh : Sheaf) : Int :=
  let own := match (s.bud.ports.get p).cable with | some e => e.tlim.toNat | none => 0
  (256 * (if own ≠ 0 then own else sh.a.tlim.toNat) / 10 : Nat)

/-- The ports that name sheaf `k`. -/
def sheafMembers (s : State) (k : Fin 8) : List Port :=
  allPorts.filter (fun p => (s.kln.ports.get p).pcfg.sheaf.toNat == k.val)

/-- The smoothing factor of R249 for a time constant of `tau` s. -/
def kilnAlpha (dtMs tau : Nat) : Nat := min 65536 (65536 * dtMs / (max 10 tau * 1000))

/-- What an update works out for one member. -/
structure KilnMember where
  port : Port
  rsrc : BitVec 2
  rp : Nat
  q : Nat
  isq : Nat
deriving DecidableEq, Repr

/-- The current at which the prediction reaches the limit, in mA (R249); with no resistance the spec states no value. -/
def kilnIlim (h : Int) (rp th : Nat) : Nat :=
  if h ≤ 0 then 0
  else if rp * th = 0 then Config.kilnUnlimited h.toNat
  else isqrt (h.toNat * 10 ^ 12 / (rp * th))

/-- R250 and R251 for one port: its ceiling and whether it is derated, after an update with this prediction. -/
def kilnDerate (s : State) (p : Port) (pred lim : Int) (ilim : Nat) (b : KlnPstatB) : KlnPstatB :=
  let sl := s.slice p
  let v := sl.off.conMv * ilim / 100000
  let ft := floorTarget s p
  let hold (c : Nat) : KlnPstatB :=
    let up := portTier s p = 0 && c < ft.1
    { b with der := true, ceil := satField 12 (if up then ft.1 else c), floorHeld := up }
  let cap := min ft.2 (otherCeilings s p)
  if b.der then
    let c := b.ceil.toNat
    let c' := if v ≤ c then v else min v (c + max (c * 5 / 100) 10)
    if cap ≤ c' then { b with der := false, floorHeld := false } else hold c'
  else if hasSourceContract s p && lim < pred then hold v
  else { b with floorHeld := false }

/-- One member after an update (R249, R250); the event 8n + 6 at a derate's start and end. -/
def kilnPort (dtMs : Nat) (first : Bool) (sh : Sheaf) (qs : Nat) (tamb dtsSs dts : Int) (m : KilnMember) (s : State) : State :=
  let k := s.kln.ports.get m.port
  let thc := sh.b.thc.toNat
  let ths := sh.b.ths.toNat
  let ss : Int := (m.q * thc / 1000000 : Nat)
  let ac := kilnAlpha dtMs sh.c.tauc.toNat
  let dtc := if first then ss else k.dtc + Int.tdiv ((ss - k.dtc) * ac) 65536
  let pred := tamb + dtsSs + ss
  let tmod := tamb + dts + dtc
  let lim := conductorLimit s m.port sh
  let h := lim - tamb - ((qs - m.q) * ths / 1000000 : Nat)
  let b := kilnDerate s m.port pred lim (kilnIlim h m.rp (ths + thc)) { k.b with rsrc := m.rsrc, irms := satField 16 (isqrt m.isq) }
  let s := onPortKln m.port (fun k => { k with
    dtc := dtc, b := b, a := { tpred := int16 (Int.tdiv (pred * 10) 256), tmod := int16 (Int.tdiv (tmod * 10) 256) } }) s
  if b.der ≠ k.b.der then portEvent m.port 6 s else s

/-- The modelled present temperature of a port, from its nodes. -/
def overLimit (s : State) (sh : Sheaf) (tamb dts : Int) (m : KilnMember) : Int :=
  tamb + dts + (s.kln.ports.get m.port).dtc - conductorLimit s m.port sh

/-- One sheaf's update (R246, R249). -/
def kilnSheaf (dtMs : Nat) (first : Bool) (k : Fin 8) (s : State) : State :=
  let sh := s.kln.sheaves.get k
  if !sh.a.en then s else
  let named := sh.a.ntc.toNat < 8
  let fb := !named || sh.ntcFault || sh.ntcN = 0
  let tamb : Int := if fb then (256 * sh.a.tfb.toNat / 10 : Nat) else Int.tdiv sh.ntcSum sh.ntcN
  let nflt := named && sh.ntcFault
  let n := s.kln.snaps
  let ms := (sheafMembers s k).map (fun p =>
    let (src, rp) := loopPerMetre s p
    let isq := if n = 0 then 0 else (s.kln.ports.get p).sumSq / n
    { port := p, rsrc := src, rp := rp, q := isq * rp / 1000000, isq := isq : KilnMember })
  let qs := (ms.map (·.q)).sum
  let dtsSs : Int := (qs * sh.b.ths.toNat / 1000000 : Nat)
  let as := kilnAlpha dtMs sh.c.taus.toNat
  let dts := if first then dtsSs else sh.dts + Int.tdiv ((dtsSs - sh.dts) * as) 65536
  let s := ms.foldl (fun s m => kilnPort dtMs first sh qs tamb dtsSs dts m s) s
  let overs := ms.map (overLimit s sh tamb dts)
  let hot := overs.any (fun d => 1280 < d)
  let alarm := hot || (sh.stat.alarm && !overs.all (fun d => d < 0))
  let st : KlnShStat := { tamb := int16 tamb, nflt := nflt, alarm := alarm, fb := fb }
  let s := onSheaf k (fun x => { x with stat := st, dts := dts, ntcSum := 0, ntcN := 0, ntcFault := false }) s
  if (nflt && !sh.stat.nflt) || (alarm && !sh.stat.alarm) then globalEvent 202 st.toWord k.val s else s

/-- A kiln update (R247 to R251). -/
def kilnUpdate (s : State) : State :=
  if !policyRuns s || s.cyc.cn.toNat % kilnEvery s ≠ 0 then s else
  let dtMs := s.kln.cycles * s.cyc.len.toNat * 5 / 256000000
  let first := s.kln.first
  let s := allSheaves.foldl (fun s k => kilnSheaf dtMs first k s) s
  { s with kln := { s.kln with
    first := false, cycles := 0, snaps := 0
    stat := { upd := s.kln.stat.upd + 1, cnLo := s.cyc.cn.setWidth 16 }
    ports := mapVec (fun k => { k with sumSq := 0 }) s.kln.ports } }

/-- KILN_UPDATE: at CN mod M = 0 the kiln updates every sheaf (R249). -/
def execKilnUpdate (s : State) : Host.Outcome State Fault Refusal := .next (kilnUpdate s)

end Sys2Proof.Machine
end

