-- ==== Sys2Proof/Machine/MapOps.lean ====
section
/-!
DEFINITION. The mortar map: windows, rights, protected tiles, default windows, the apply of a pending map, and the report of
a refused beat (R299, R329 to R333).
-/

namespace Sys2Proof.Machine

/-- The rights of a window (R329). -/
inductive Right
  | read | write | execute
deriving DecidableEq, Repr

/-- The base of a window: bits below its size are ignored. -/
def windowBase (w : Window) : Nat := (w.wb.base.toNat * 4096) / 2 ^ w.wa.log2sz.toNat * 2 ^ w.wa.log2sz.toNat

/-- The window is enabled and its size lies in the range 12 to 31. -/
def windowLive (w : Window) : Bool := w.wa.en && 12 ≤ w.wa.log2sz.toNat

/-- The window grants a right on an address. -/
def windowGrants (a : Nat) (r : Right) (w : Window) : Bool :=
  windowLive w && windowBase w ≤ a && a < windowBase w + 2 ^ w.wa.log2sz.toNat
    && (match r with | .read => w.wa.r | .write => w.wa.w | .execute => w.wa.x)

/-- The window set that checks a requester; none for the Warden Core (Table 15.1, R335). -/
def setOf (q : Requester) (s : State) : Option (Fin 7) :=
  match q with
  | .domA => some 0
  | .domB => some 1
  | .domS => some 2
  | .policy => some 3
  | .warden => none
  | .dma c => let o := (s.dma.get c).ctl.owner; some (if o = 0 then 0 else if o = 1 then 1 else if o = 2 then 2 else if o = 3 then 3 else 4)
  | .slaseLine => some 5
  | .recorder => some 6

/-- The protected tiles as an address range (R331). -/
def protRange (f : FabProt) : Nat × Nat :=
  let st := f.start.toNat
  (sramBase + 4096 * st, sramBase + 4096 * min 256 (st + f.ntile.toNat))

/-- The requester is a host bridge, or a DMA channel that a domain owns. -/
def isHostSide (q : Requester) (s : State) : Bool :=
  match setOf q s with
  | some k => k.val < 3
  | none => false

/-- The requester is a core, or a DMA channel that a core owns. -/
def isCoreSide (q : Requester) (s : State) : Bool :=
  match setOf q s with
  | some k => k.val = 3 || k.val = 4
  | none => true

/-- The NAND windows that only cores reach: `NVC_PGSEL`, `NVC_LOGWIN` and `NVC_RDWIN` (R403). -/
def isNandWindow (a : Nat) : Bool := a = 0x4002C030 || (0x4002C200 ≤ a && a < 0x4002C400) || (0x4002C800 ≤ a && a < 0x4002D000)

/-- The fabric lets the beat through (R329, R331, R403). -/
def mapAllows (q : Requester) (a : Nat) (r : Right) (s : State) : Bool :=
  let pr := protRange s.fab.prot
  if isHostSide q s && pr.1 ≤ a && a < pr.2 then false
  else if isNandWindow a && !isCoreSide q s then false
  else match setOf q s with
    | none => true
    | some k => (s.fab.active.get k).toList.any (windowGrants a r)

/-! ## Loading and applying maps (R299, R332) -/

/-- A window from a base, a size exponent and R and W rights. -/
def mkWindow (base log2 : Nat) (r w : Bool) : Window :=
  { wb := { base := BitVec.ofNat 20 (base / 4096) }, wa := { log2sz := BitVec.ofNat 5 log2, r := r, w := w, en := true } }

/-- The default windows of a domain, in the order of Table 14.1. -/
def defaultWindows (d : Domain) : List Window :=
  let host := match d with | .a => true | .b => true | .s => false
  [mkWindow 0x40000000 17 true host, mkWindow 0x40020000 14 true host, mkWindow 0x40024000 12 true host,
   mkWindow 0x40025000 12 true true, mkWindow 0x40026000 13 true false,
   mkWindow 0x40028000 12 true host, mkWindow 0x4002D000 12 true host,
   mkWindow 0x40029000 12 true false, mkWindow 0x4002A000 13 true false, mkWindow 0x4002C000 12 true false,
   mkWindow 0x4002F000 12 true false]
    ++ (if host then [mkWindow 0x50000000 17 true false] else [])

/-- Write a whole window set of the pending map. -/
def setWindows (k : Fin 7) (ws : List Window) (s : State) : State :=
  { s with fab := { s.fab with
    dirty := true, pend := s.fab.pend.set k.val (Vector.ofFn (fun i : Fin 32 => ws.getD i.val {})) k.isLt } }

/-- Change one window of the pending map. -/
def onWindow (k : Fin 7) (i : Fin 32) (f : Window → Window) (s : State) : State :=
  { s with fab := { s.fab with dirty := true, pend := updAt s.fab.pend k (fun v => updAt v i f) } }

/-- `FAB_MAPCTL` as a read returns it. -/
def mapctlWord (f : Fab) : Word := ({ dirty := f.dirty, seq := f.seq } : FabMapctl).toWord

/-- The pending map becomes active (R332). -/
def mapApply (s : State) : State :=
  let s := { s with fab := { s.fab with active := s.fab.pend, dirty := false, seq := s.fab.seq + 1 } }
  globalEvent 215 (mapctlWord s.fab) 0 s

/-- MAP_APPLY: a write of `FAB_MAPCTL.APPLY`, which only the Warden Core makes (R330, R332). -/
def execMapApply (s : State) : Host.Outcome State Fault Refusal := .next (mapApply s)

/-! ## Faults (R333) -/

/-- The index of a requester (Table 15.1). -/
def reqIndex : Requester → BitVec 3
  | .domA => 0 | .domB => 1 | .domS => 2 | .policy => 3 | .warden => 4 | .dma _ => 5 | .slaseLine => 6 | .recorder => 7

/-- The index a firmware record carries for a requester: its domain (R343). -/
def reqDomain : Requester → Nat
  | .domB => 1 | .domS => 2 | _ => 0

/-- A refused or uncorrectable beat of a requester other than DMA: cause 1 map, 2 SRAM, 3 NAND (R333). -/
def fabricFault (q : Requester) (a : Nat) (cause : BitVec 2) (write : Bool) (s : State) : State :=
  let s := { s with fab := { s.fab with
    flt0 := BitVec.ofNat 32 a
    flt1 := { req := reqIndex q, cause := cause, write := write, count := satInc s.fab.flt1.count } } }
  globalEvent 212 s.fab.flt1.toWord (reqDomain q) s

end Sys2Proof.Machine
end

