-- ==== Sys2Proof/Machine/NandOps.lean ====
section
/-!
DEFINITION. The blocks of the flash: how many a size has and what a format leaves free, the retirement of a failing block, and
the event of wear (R381 to R383).
-/

namespace Sys2Proof.Machine

/-! ## Sizes (R381) -/

/-- B, the blocks of a flash, by its size code (Table 18.1). -/
def flashBlocks (size : BitVec 2) : Nat := if size = 1 then 8192 else if size = 2 then 16384 else if size = 3 then 32768 else 0

/-- L, the blocks of its log. -/
def logBlocks (size : BitVec 2) : Nat := min 8192 (flashBlocks size - 328 - ceilDiv (flashBlocks size) 50)

/-- The blocks above its log. -/
def reserveBlocks (size : BitVec 2) : Nat := flashBlocks size - 328 - logBlocks size

/-- The size code of the fitted flash: as identified, or free (R379, R427). -/
def flashSize (s : State) : BitVec 2 := if s.nvc.stat.size = 0 then Config.flashSize else s.nvc.stat.size

/-- What a format makes of the blocks: factory marks are read anew and use up reserve blocks (R382, R427). -/
def Nand.freshBlocks (size : BitVec 2) (n : Nand) : Nand :=
  let k := reserveBlocks size - Config.factoryBad
  { n with free := k, free0 := k, logN := logBlocks size, setN := 32, flushN := 8, logTaken := false, deadBank := 0, deadSlot := 0 }

/-! ## Retirement (R382, R383) -/

/-- `NVC_STAT.RSV_PCT`: the free reserve blocks as a percentage of those at format. -/
def reservePct (n : Nand) : Byte := BitVec.ofNat 8 (100 * n.free / n.free0)

/-- Event 218. -/
def nandWear (s : State) : State := globalEvent 218 s.nvc.stat.toWord 0 s

/-- No block can take the place of a failing one. -/
def irreplaceable (n : Nand) : Bool := n.free = 0 && n.logN ≤ 64

/-- What becomes of a partition with a block that is not replaced; `high` is configuration slot 1 (R383). -/
def Nand.leftOut (part : Nat) (high : Bool) (n : Nand) : Nand :=
  match part with
  | 2 => { n with bank0 := { n.bank0 with st := 3 }, deadBank := n.deadBank ||| 1 }
  | 3 => { n with bank1 := { n.bank1 with st := 3 }, deadBank := n.deadBank ||| 2 }
  | 4 => { n with deadSlot := n.deadSlot ||| (if high then 2 else 1) }
  | 5 => { n with setN := n.setN - 1 }
  | 6 => { n with flushN := n.flushN - 1, flushErased := if n.flushN ≤ 2 then 0 else n.flushErased }
  | 7 => { n with logN := n.logN - 1 }
  | _ => n

/-- The log gives up its oldest block, with the records that it holds (R383). -/
def Nand.takeLog (n : Nand) : Nand :=
  { n with
    logN := n.logN - 1, logTaken := true, log := n.log.drop 8192, logOldest := n.logOldest + BitVec.ofNat 32 (min 8192 n.log.length) }

/-- A block of partition `part` is retired: `BADNEW` advances, and a reserve block, or the log's oldest block, takes its place.
Event 218 comes when the reserve falls below 25 % of that at format, at the first block taken from the log, and at each block
that is not replaced (R382, R383). -/
def retireBlock (part : Nat) (high : Bool) (s : State) : State :=
  let n := s.nand
  let s := onNvc (fun v => { v with err := { v.err with badnew := satInc v.err.badnew } }) s
  if 0 < n.free then
    let s := onNand (fun n => { n with free := n.free - 1 }) s
    let s := onNvc (fun v => { v with stat := { v.stat with rsvPct := reservePct s.nand } }) s
    if n.free0 ≤ 4 * n.free && 4 * (n.free - 1) < n.free0 then nandWear s else s
  else if 64 < n.logN then
    let s := onNand Nand.takeLog s
    if n.logTaken then s else nandWear s
  else nandWear (onNand (Nand.leftOut part high) s)

/-- The highest write count is renewed, and event 218 comes when it passes 50,000 (R382). -/
def noteWear (w : BitVec 24) (s : State) : State :=
  let old := s.nvc.wear.maxw
  let s := if old < w then onNvc (fun v => { v with wear := { maxw := w } }) s else s
  if old.toNat ≤ 50000 && 50000 < w.toNat then nandWear s else s

/-- An erase or program in partition `part` (R382). -/
def flashOp (part : Nat) (high : Bool) (o : FlashOp) (s : State) : State :=
  let s := noteWear o.wear s
  if o.fails then retireBlock part high s else s

end Sys2Proof.Machine
end

