-- ==== Sys2Proof/Machine/ConfigImage.lean ====
section
/-!
DEFINITION. The configuration image: its acceptance, the walk over its records, the checks that follow, the settings and
the locks (chapter 18, step 7 of Table 4.2).
-/

namespace Sys2Proof.Machine

/-! ## Reading bytes -/

/-- The byte of an image at an offset. -/
def imgByte (img : List Byte) (o : Nat) : Byte := img.getD o 0

/-- The 16-bit value at an offset, little-endian. -/
def imgHalf (img : List Byte) (o : Nat) : BitVec 16 := imgByte img (o + 1) ++ imgByte img o

/-- The word at an offset, little-endian. -/
def imgWord (img : List Byte) (o : Nat) : Word := imgHalf img (o + 2) ++ imgHalf img o

/-- `n` bytes from an offset. -/
def imgSlice (img : List Byte) (o n : Nat) : List Byte := (img.drop o).take n

/-! ## Acceptance (R385, R386) -/

/-- The digest that eight OTP words from `w` hold: bytes 0 to 3 in the first, little-endian (Table 17.1). -/
def otpDigest (o : Otp) (w : Nat) : List Byte :=
  (List.range 8).flatMap (fun i => le32 (o.shd.toList.getD (w + i) 0))

/-- A public key is accepted for configuration images in the present lifecycle state (R374, R386). -/
def configKeyOk (o : Otp) (pub : List Byte) : Bool :=
  let owner := okeyUsable o && Config.sha256 pub == otpDigest o 32
  let k := lifecycle o
  if k = 1 then owner || ((lcstat o).eval && Config.sha256 pub == Config.evalKeyHash)
  else if k = 2 || k = 3 then owner
  else false

/-- The stepping of OTP word 0 lies in an image's range; offsets 10 and 11 of either header. -/
def steppingOk (o : Otp) (hdr : List Byte) : Bool :=
  let st := (getField (otpShadow o 0) 16 4).toNat
  (imgByte hdr 10).toNat ≤ st && st ≤ (imgByte hdr 11).toNat

/-- The image is accepted (R386). -/
def imageOk (o : Otp) (img : List Byte) : Bool :=
  let rec_ := (imgWord img 16).toNat
  let len := (imgWord img 12).toNat
  let pub := imgSlice img (64 + rec_) 64
  imgSlice img 0 4 == [0x44, 0x58, 0x43, 0x46] && imgByte img 4 == 1 && imgHalf img 6 == 64 && imgHalf img 8 == 0x2448
    && imgHalf img 8 == (otpShadow o 0).setWidth 16
    && steppingOk o img && len == 64 + rec_ + 128 && len ≤ 524288 && len ≤ img.length
    && configKeyOk o pub
    && Config.ecdsaOk pub (Config.sha256 (imgSlice img 0 (128 + rec_))) (imgSlice img (128 + rec_) 64)

/-! ## The walk (R387 to R391) -/

/-- Payload lengths and instances of the known tags (Table 18.5): the full length in bytes, and whether INST is allowed. -/
def tagInfo (tag : Byte) : Option (Nat × (Nat → Bool)) :=
  let only0 : Nat → Bool := fun i => i = 0
  if tag = 0x01 then some (20, only0)
  else if tag = 0x02 then some (40, only0)
  else if tag = 0x03 then some (44, only0)
  else if tag = 0x10 then some (68, fun i => i < 24)
  else if tag = 0x20 then some (65504, fun i => i < 256)
  else if tag = 0x21 then some (16, fun i => i < 8)
  else if tag = 0x22 then some (4, fun i => 1 ≤ i && i ≤ 8)
  else if tag = 0x30 then some (40, only0)
  else if tag = 0x40 then some (72, only0)
  else if tag = 0x41 then some (256, fun i => i < 3)
  else if tag = 0x42 then some (16, fun i => i < 5)
  else if tag = 0x50 then some (4, fun i => i < 24 || i = 255)
  else if tag = 0x60 then some (8, only0)
  else none

/-- The full payload length of a tag; an AUX record of devices 1 to 4 holds 12 bytes. -/
def fullLen (tag inst : Byte) : Nat :=
  match tagInfo tag with
  | none => 0
  | some (n, _) => if tag = 0x42 && inst ≠ 0 then 12 else n

/-- A record in the walk. -/
structure ImgRec where
  off : Nat
  tag : Byte
  inst : Byte
  words : List Word
deriving DecidableEq, Repr

/-- A word of a record, if the payload reaches it. -/
def ImgRec.word? (r : ImgRec) (i : Nat) : Option Word := r.words[i]?

/-- The bits a payload word may set, and those it must hold as they reset: word `i` of a record (R390, cause 3). For a
register image these are the bits of its RW and RWL fields and its RO fields' reset values. -/
def wordMask (tag : Byte) (inst i : Nat) : Word × Word :=
  let tie := inst < 2
  let open_ := inst < 4
  if tag = 0x01 then
    (match i with | 0 => 0xFFFFFFFF | 1 => 0x0000FFFF | 2 => 0xFFFFFFFF | 3 => 0x3FFFFFFF | _ => 0x00001F7F, 0)
  else if tag = 0x02 then
    (match i with
      | 0 => 0x00000003 | 1 => 0x3FFFFFFF | 2 => 0x3FFFFFFF | 3 => 0xFFFFFFFF | 4 => 0xFFFFFFFF | 5 => 0xFFFFFFFF
      | 6 => 0x7FFFFFFF | 7 => 0xFFFFFF03 | 8 => 0x7FFF7FFF | _ => 0x1FFF1FFF, 0)
  else if tag = 0x03 then
    if i < 8 then (if i % 2 = 0 then (0xFFFFFF00, 0x000000FF) else (0xFFFFFFFF, 0)) else (0x00FFFFFF, 0)
  else if tag = 0x10 then
    match i with
    | 0 => (0xFF7F7FFF, 0)
    | 1 => (if open_ then 0x0000001F else 0x0000000E, 0)
    | 2 => (0x007F07FE, 1)
    | 3 => (0x000FFF3F, 0)
    | 4 => (0x3F0F7FFF, 0)
    | 5 => (0x00FFFFFF, 0)
    | 6 => (0x000001FF, 0)
    | 7 => (0xFFFFFFFF, 0)
    | 8 => (0xFFFFFFFF, 0)
    | 9 => (0x011F1F7F, 0)
    | 10 => (if tie then 0x0FFF3FDF else 0, 0)
    | 11 => (0xFF3F3FFF, 0)
    | 12 => (0x03FF03FF, 0)
    | 13 => (0xFFFFFFFF, 0)
    | 14 => (if tie then 0x00FF03FF else 0, 0)
    | _ => (0xFFFFFFFF, 0)
  else if tag = 0x21 then (if i = 0 then 0x3FF3FF1F else 0xFFFFFFFF, 0)
  else if tag = 0x22 then (0x00FFFFFF, 0)
  else if tag = 0x30 then (match i with | 0 => 0x0FFFFFFF | 1 => 0x07FFFFFF | _ => 0xFFFFFFFF, 0)
  else if tag = 0x40 then (match i with | 0 => 0x0FFF7FF7 | 17 => 0x0000FF03 | _ => 0xFFFFFFFF, 0)
  else if tag = 0x41 then (if i % 2 = 0 then 0xFFFFF000 else 0x8000071F, 0)
  else if tag = 0x42 then (if i = 0 then 0xFFFFFF7F else 0xFFFFFFFF, 0)
  else if tag = 0x50 then (0x00FFFF0D, 0)
  else if tag = 0x60 then (if i = 0 then 0x0000000F else 0xFFFFFFFF, 0)
  else (0xFFFFFFFF, 0)

/-- Every word of a record keeps the bits it may not set (cause 3). -/
def maskOk (r : ImgRec) : Bool :=
  (List.range r.words.length).all (fun i =>
    let (m, f) := wordMask r.tag r.inst.toNat i
    ((r.words.getD i 0) &&& ~~~m) == f)

/-- A field of a word lies within `lo` to `hi`; an absent word is not checked. -/
def fieldIn (r : ImgRec) (i lo_ len lo hi : Nat) : Bool :=
  match r.word? i with
  | none => true
  | some w =>
    let v := (w.toNat >>> lo_) % 2 ^ len
    lo ≤ v && v ≤ hi

/-- The ranges of a PORT record that its registers do not treat as the nearer limit. -/
def portRanges (r : ImgRec) : Bool :=
  fieldIn r 0 8 7 50 100 && fieldIn r 0 16 7 30 70 && fieldIn r 0 24 8 100 200
    && fieldIn r 2 16 7 5 127 && fieldIn r 3 8 8 10 80 && fieldIn r 3 16 4 0 10
    && fieldIn r 4 0 15 3200 16000 && fieldIn r 9 0 7 10 120
    && (2 ≤ r.inst.toNat || (fieldIn r 10 8 6 0 60 && fieldIn r 10 24 4 1 10 && fieldIn r 14 0 10 10 1000))
    && fieldIn r 12 16 10 0 1000

/-- One threshold register of a SUPPLY record (R393). -/
def thrOk (r : ImgRec) (i : Nat) : Bool :=
  match r.word? i with
  | none => true
  | some w =>
    let uv := (getField w 0 10).toNat
    let warn := (getField w 10 10).toNat
    let ov := (getField w 20 10).toNat
    360 ≤ uv && uv ≤ 500 && uv + 10 ≤ warn && warn < ov && 500 ≤ ov && ov ≤ 600

/-- One hot-swap register of a SUPPLY record (R393). -/
def hswOk (r : ImgRec) (i : Nat) : Bool :=
  fieldIn r i 0 10 1 1023 && fieldIn r i 10 8 1 255 && fieldIn r i 18 7 1 100 && fieldIn r i 26 6 1 63

/-- The rules of R393 for a SUPPLY record. -/
def supplyRanges (r : ImgRec) : Bool :=
  thrOk r 1 && thrOk r 2 && hswOk r 3 && hswOk r 4 && fieldIn r 5 0 8 1 255
    && fieldIn r 6 0 8 1 255 && fieldIn r 6 16 7 5 100 && fieldIn r 6 23 8 1 255
    && fieldIn r 7 8 8 5 255 && fieldIn r 7 16 16 1 480 && fieldIn r 8 24 7 25 100

/-- The walk so far. -/
structure Walk where
  state : State
  applied : List (Byte × Byte) := []
  rej : Nat := 0
  skip : Nat := 0
  first : Option (Nat × Nat × Byte × Byte) := none
  trunc : Bool := false
  /-- The ports that applied STAGGER records name, the AUX addresses, and the profile overlay. -/
  staggered : Word := 0
  auxAddrs : List (BitVec 7) := []
  overlay : List ProfEntry := []
  /-- THATCH: the record for every port, and the ports with a record of their own. -/
  thOwn : List Byte := []
  /-- COMPSEL of ports that take a table entry: port and entry (R394). -/
  compsel : List (Byte × Nat) := []
  mortar : List (Byte × List Window) := []

/-- The rules of a tag beyond its words' bits (cause 6). -/
def rangesOk (w : Walk) (r : ImgRec) : Bool :=
  if r.tag = 0x02 then supplyRanges r
  else if r.tag = 0x10 then portRanges r
  else if r.tag = 0x20 then r.words.length % 8 == 0
  else if r.tag = 0x21 then
    fieldIn r 0 8 10 300 900 && fieldIn r 0 20 10 0 900 && fieldIn r 3 0 12 3000 4095 && fieldIn r 3 12 10 100 1000
      && fieldIn r 3 22 10 100 1000
  else if r.tag = 0x22 then (r.words.getD 0 0 &&& w.staggered) == 0
  else if r.tag = 0x30 then fieldIn r 1 16 11 0 2000
  else if r.tag = 0x40 then
    match r.word? 0 with
    | none => true
    | some v =>
      let b := (getField v 8 7).toNat
      b % 16 == 0 && 0x10 ≤ b && b ≤ 0x60
  else if r.tag = 0x42 then
    fieldIn r 0 0 7 0x08 0x77 && fieldIn r 0 16 16 1 600 && !w.auxAddrs.contains (getField (r.words.getD 0 0) 0 7)
  else if r.tag = 0x60 then fieldIn r 0 1 3 0 5
  else true

/-- The first cause of Table 18.4, beyond cause 1, that rejects a record; 0 when it is applied. -/
def rejectCause (w : Walk) (r : ImgRec) (len : Nat) : Nat :=
  if fullLen r.tag r.inst < len then 2
  else if !maskOk r then 3
  else if !(match tagInfo r.tag with | some (_, f) => f r.inst.toNat | none => false) then 4
  else if w.applied.contains (r.tag, r.inst) then 5
  else if !rangesOk w r then 6
  else 0

/-! ## Applying records (R393 to R398) -/

/-- The port a record's INST names. -/
def instPort (i : Byte) : Option Port := if h : i.toNat < 24 then some ⟨i.toNat, h⟩ else none

/-- Apply `f` to the word at `i`, when the payload reaches it. -/
def withWord (r : ImgRec) (i : Nat) (f : Word → State → State) (s : State) : State :=
  match r.word? i with
  | some w => f w s
  | none => s

/-- DEVICE (R393). -/
def applyDevice (r : ImgRec) (s : State) : State :=
  s |> withWord r 0 (fun w s => { s with nvc := { s.nvc with vid := getField w 0 16, pid := getField w 16 16 } })
    |> withWord r 1 (fun w s => { s with nvc := { s.nvc with bcd := getField w 0 16 } })
    |> withWord r 2 (fun w s => { s with nvc := { s.nvc with xid := w } })
    |> withWord r 3 (fun w s => { s with cyc := { s.cyc with cfg := s.cyc.cfg.put false w } })
    |> withWord r 4 (fun w s => { s with fab := { s.fab with cfg := s.fab.cfg.put false w } })

/-- SUPPLY (R393). -/
def applySupply (r : ImgRec) (s : State) : State :=
  s |> withWord r 0 (fun w => onSup (fun u => { u with bkupPresent := !getBit w 0, emgUsed := !getBit w 1 }))
    |> withWord r 1 (fun w => onSup (fun u => { u with thrMain := u.thrMain.put false w }))
    |> withWord r 2 (fun w => onSup (fun u => { u with thrBkup := u.thrBkup.put false w }))
    |> withWord r 3 (fun w => onSup (fun u => { u with hswMain := u.hswMain.put false w }))
    |> withWord r 4 (fun w => onSup (fun u => { u with hswBkup := u.hswBkup.put false w }))
    |> withWord r 5 (fun w => onSup (fun u => { u with retry := u.retry.put false w }))
    |> withWord r 6 (fun w => onSup (fun u => { u with time := u.time.put false w }))
    |> withWord r 7 (fun w => onSup (fun u => { u with etest := u.etest.put (w &&& 0xFFFFFF00) }))
    |> withWord r 8 (fun w s => { s with bud := { s.bud with cfg := s.bud.cfg.put false w } })
    |> withWord r 9 (fun w s => { s with bud := { s.bud with inp := s.bud.inp.put false w } })

/-- A word that leaves `SUP_SHEDr_LO` or `_HI` its caps: tiers 1 to 3, or 4 to 7. -/
def shedWord (hi : Bool) (w : Word) (x : ShedRow) : ShedRow :=
  if hi then { x with t4 := getField w 0 8, t5 := getField w 8 8, t6 := getField w 16 8, t7 := getField w 24 8 }
  else { x with t1 := getField w 8 8, t2 := getField w 16 8, t3 := getField w 24 8 }

/-- SHED (R393): rows 0 to 3 are main, backup, cascade and EMG. -/
def applyShed (r : ImgRec) (s : State) : State :=
  s |> withWord r 0 (fun w => onSup (fun u => { u with shedMain := shedWord false w u.shedMain }))
    |> withWord r 1 (fun w => onSup (fun u => { u with shedMain := shedWord true w u.shedMain }))
    |> withWord r 2 (fun w => onSup (fun u => { u with shedBkup := shedWord false w u.shedBkup }))
    |> withWord r 3 (fun w => onSup (fun u => { u with shedBkup := shedWord true w u.shedBkup }))
    |> withWord r 4 (fun w => onSup (fun u => { u with shedCasc := shedWord false w u.shedCasc }))
    |> withWord r 5 (fun w => onSup (fun u => { u with shedCasc := shedWord true w u.shedCasc }))
    |> withWord r 6 (fun w => onSup (fun u => { u with shedEmg := shedWord false w u.shedEmg }))
    |> withWord r 7 (fun w => onSup (fun u => { u with shedEmg := shedWord true w u.shedEmg }))
    |> withWord r 8 (fun w => onSup (fun u => { u with tier0 := getField w 0 24 }))
    |> withWord r 9 (fun w => onSup (fun u => { u with tier1 := getField w 0 24 }))
    |> withWord r 10 (fun w => onSup (fun u => { u with tier2 := getField w 0 24 }))

/-- PORT (R394, Table 18.6). -/
def applyPort (p : Port) (r : ImgRec) (s : State) : State :=
  s |> withWord r 0 (fun w => onAtt p (fun a => { a with attcfg := a.attcfg.put false w }))
    |> withWord r 1 (fun w => onPd p (fun d => { d with pdcfg := d.pdcfg.put false w }))
    |> withWord r 2 (fun w => onOff p (fun o => { o with offcfg := o.offcfg.put false w }))
    |> withWord r 3 (fun w => onOff p (fun o => { o with xcfg := o.xcfg.put false w }))
    |> withWord r 4 (fun w => onPs p (fun x => { x with pwmcfg := x.pwmcfg.put false (w &&& 0xFFF0FFFF) }))
    |> withWord r 5 (fun w => onPs p (fun x => { x with pwmlim := x.pwmlim.put false w }))
    |> withWord r 7 (fun w => onPs p (fun x => { x with cmpb0 := x.cmpb0.put false w }))
    |> withWord r 8 (fun w => onPs p (fun x => { x with cmpb1 := x.cmpb1.put false w }))
    |> withWord r 9 (fun w => onPs p (fun x => { x with pscfg := x.pscfg.put false w }))
    |> withWord r 10 (fun w => onSw p (fun x => { x with swcfg := x.swcfg.put false w }))
    |> withWord r 11 (fun w => onPr p (fun x => { x with prcfg := x.prcfg.put false w }))
    |> withWord r 12 (fun w => onPr p (fun x => { x with prtime := x.prtime.put false w }))
    |> withWord r 13 (fun w => onPr p (fun x => { x with prretry := x.prretry.put false w }))
    |> withWord r 14 (fun w => onPr p (fun x => { x with snkpr := x.snkpr.put false w }))
    |> withWord r 15 (fun w => onPortBud p (fun b => { b with pcfg := b.pcfg.put false w }))
    |> withWord r 16 (fun w => onPortKln p (fun k => { k with pcfg := k.pcfg.put false w }))

/-- SHEAF (R395). -/
def applySheaf (k : Fin 8) (r : ImgRec) (s : State) : State :=
  s |> withWord r 0 (fun w => onSheaf k (fun h => { h with a := h.a.put false w }))
    |> withWord r 1 (fun w => onSheaf k (fun h => { h with b := h.b.put false w }))
    |> withWord r 2 (fun w => onSheaf k (fun h => { h with c := h.c.put false w }))
    |> withWord r 3 (fun w => onSheaf k (fun h => { h with d := h.d.put false w }))

/-- STAGGER: the ports of group INST (R395). -/
def applyStagger (g : Byte) (ports : Word) (s : State) : State :=
  overPorts (fun p s => if ports.getLsbD p.val then
    onPs p (fun x => { x with pwmcfg := { x.pwmcfg with group := g.setWidth 4 } }) s else s) s

/-- SYNC (R396). -/
def applySync (r : ImgRec) (s : State) : State :=
  let s := s |> withWord r 0 (fun w s => { s with syn := { s.syn with cfg := s.syn.cfg.put false w } })
    |> withWord r 1 (fun w s => { s with syn := { s.syn with cfg2 := s.syn.cfg2.put false w } })
  { s with syn := { s.syn with grp := Vector.ofFn (fun k : Fin 8 => r.words.getD (k.val + 2) (s.syn.grp.get k)) } }

/-- Eight words of mask bits as one bank's mask. -/
def maskOf (r : ImgRec) (at_ : Nat) : BitVec 256 :=
  (List.range 8).foldl (fun m j => m ||| ((r.words.getD (at_ + j) 0).setWidth 256 <<< (32 * j))) 0

/-- HOST (R396). -/
def applyHost (r : ImgRec) (s : State) : State :=
  let s := s |> withWord r 0 (fun w s => { s with hst := { s.hst with cfg := s.hst.cfg.put false w } })
    |> withWord r 17 (fun w s => { s with aux := { s.aux with cfg := s.aux.cfg.put false w } })
  { s with eva := { s.eva with a := { s.eva.a with mask := maskOf r 1 }, b := { s.eva.b with mask := maskOf r 9 } } }

/-- The windows of a MORTAR record, in pairs. -/
def pairWindows : List Word → List Window
  | b :: a :: rest => { wb := ({} : FabWb).put b, wa := ({} : FabWa).put a } :: pairWindows rest
  | [b] => [{ wb := ({} : FabWb).put b, wa := {} }]
  | [] => []

/-- AUX: one device (R397). -/
def auxOf (r : ImgRec) : AuxDev :=
  let w0 := r.words.getD 0 0
  let w3 := r.words.getD 3 0
  { addr := getField w0 0 7, reg := getField w0 8 8, interval := (getField w0 16 16).toNat
    num := (r.words.getD 1 0).toInt, offset := (r.words.getD 2 0).toInt
    threshold := (getField w3 0 16).toNat, hysteresis := (getField w3 16 16).toNat }

/-- THATCH: one register image (R397). -/
def applyThatch (p : Port) (w : Word) (s : State) : State := onTh p (fun t => { t with thcfg := t.thcfg.put false w }) s

/-- UPDATE (R398). -/
def applyUpdate (r : ImgRec) (s : State) : State :=
  s |> withWord r 0 (fun w s => { s with lcu := { s.lcu with reqGauge := getBit w 0, maxBaud := getField w 1 3 } })
    |> withWord r 1 (fun w s => { s with lcu := { s.lcu with minFw := w } })

/-- A profile entry from eight payload words (Table 11.2). -/
def profOf (w : Nat → Word) : ProfEntry :=
  { kind := getField (w 0) 0 8, flags := getField (w 0) 8 8, vid := getField (w 0) 16 16, pid := getField (w 1) 0 16
    mask := getField (w 1) 16 16, vceil := getField (w 2) 0 16, iceil := getField (w 2) 16 8, pad11 := getField (w 2) 24 8
    pMin := getField (w 3) 0 16, pMax := getField (w 3) 16 16, rpm := w 4, tlim := getField (w 5) 0 16
    padZero := getField (w 5) 16 16 == 0 && w 6 == 0 && w 7 == 0 }

/-- The entries of a PROFILE payload. -/
def profEntries (ws : List Word) : List ProfEntry :=
  (List.range (ws.length / 8)).map (fun i => profOf (fun j => ws.getD (8 * i + j) 0))

/-- Apply an accepted record. -/
def applyRecord (w : Walk) (r : ImgRec) : Walk :=
  let on (f : State → State) : Walk := { w with state := f w.state }
  if r.tag = 0x01 then on (applyDevice r)
  else if r.tag = 0x02 then on (applySupply r)
  else if r.tag = 0x03 then on (applyShed r)
  else if r.tag = 0x10 then
    match instPort r.inst with
    | some p =>
      let c := r.words.getD 6 0
      { on (applyPort p r) with
        compsel := if getBit c 8 then w.compsel ++ [(r.inst, (getField c 0 8).toNat)] else w.compsel }
    | none => w
  else if r.tag = 0x20 then { w with overlay := w.overlay ++ profEntries r.words }
  else if r.tag = 0x21 then (if h : r.inst.toNat < 8 then on (applySheaf ⟨r.inst.toNat, h⟩ r) else w)
  else if r.tag = 0x22 then
    { on (applyStagger r.inst (r.words.getD 0 0)) with staggered := w.staggered ||| r.words.getD 0 0 }
  else if r.tag = 0x30 then on (applySync r)
  else if r.tag = 0x40 then on (applyHost r)
  else if r.tag = 0x41 then { w with mortar := w.mortar ++ [(r.inst, pairWindows r.words)] }
  else if r.tag = 0x42 then
    if h : r.inst.toNat < 5 then
      { on (fun s => { s with aux := { s.aux with devs := s.aux.devs.set r.inst.toNat (some (auxOf r)) h } }) with
        auxAddrs := (auxOf r).addr :: w.auxAddrs }
    else w
  else if r.tag = 0x50 then
    match r.word? 0, instPort r.inst with
    | some v, some p => { on (applyThatch p v) with thOwn := r.inst :: w.thOwn }
    | some v, none => on (fun s => overPorts (fun p s =>
        if w.thOwn.contains (BitVec.ofNat 8 p.val) then s else applyThatch p v s) s)
    | none, _ => w
  else on (applyUpdate r)

/-- What a rejected record leaves (Table 18.5): a PORT record disables its port, a HOST record both hosts. -/
def applyRejected (r : ImgRec) (s : State) : State :=
  if r.tag = 0x10 then
    match instPort r.inst with
    | some p => onAtt p (fun a => { a with attcfg := { a.attcfg with role := 0 } }) s
    | none => s
  else if r.tag = 0x40 then { s with hst := { s.hst with cfg := { s.hst.cfg with aEn := false, bEn := false } } }
  else s

/-- One record of the walk (R390). -/
def walkOne (w : Walk) (r : ImgRec) (len : Nat) : Walk :=
  if (tagInfo r.tag).isNone then { w with skip := w.skip + 1 }
  else
    let c := rejectCause w r len
    if c = 0 then { applyRecord w r with applied := w.applied ++ [(r.tag, r.inst)] }
    else
      let dup := w.applied.contains (r.tag, r.inst)
      { w with
        state := if dup then w.state else applyRejected r w.state, rej := w.rej + 1
        first := match w.first with | none => some (c, r.off, r.tag, r.inst) | some f => some f }

/-- The walk over the record area from `off` to `stop`; `n` bounds the records left. -/
def walk (img : List Byte) (stop : Nat) : Nat → Nat → Walk → Walk
  | 0, _, w => w
  | n + 1, off, w =>
    if stop ≤ off then w
    else
      let tag := imgByte img off
      let inst := imgByte img (off + 1)
      let len := (imgHalf img (off + 2)).toNat
      if len % 4 ≠ 0 || stop < off + 4 + len then
        { w with rej := w.rej + 1, trunc := true
                 first := match w.first with | none => some (1, off, tag, inst) | some f => some f }
      else
        let ws := (List.range (len / 4)).map (fun i => imgWord img (off + 4 + 4 * i))
        walk img stop n (off + 4 + len) (walkOne w { off := off, tag := tag, inst := inst, words := ws } len)

/-! ## Compensator tables (R165) -/

/-- The part of a TYPE in an update image: its offset and length (R412). -/
def imagePart (img : List Byte) (type : Byte) : Option (Nat × Nat) :=
  ((List.range (imgByte img 22).toNat).find? (fun i => imgByte img (64 + 48 * i) == type)).map
    (fun i => ((imgWord img (64 + 48 * i + 4)).toNat, (imgWord img (64 + 48 * i + 8)).toNat))

/-- The content of the active bank; the bank booted is the active one once the pointer record says so (R420, R426). -/
def activeContent (s : State) : List Byte := if s.lcu.active then s.nand.bank1.content else s.nand.bank0.content

/-- An entry of the active bank's compensator table: b0 with b1, and b2 with a1, as register words. -/
def compEntry (s : State) (e : Nat) : Option (Word × Word) :=
  let img := activeContent s
  match imagePart img 4 with
  | some (off, len) => if e < len / 8 then some (imgWord img (off + 8 * e), imgWord img (off + 8 * e + 4)) else none
  | none => none

/-- A hardware record of an adjustment at configuration load (type 0x08 of Table 16.2), at the Warden Core's request. -/
def adjustRecord (index adjust : Nat) (value : Word) (s : State) : State :=
  hwRecord 8 0xFF 8 (BitVec.ofNat 48 index ||| (BitVec.ofNat 48 adjust <<< 8) ||| (value.setWidth 48 <<< 16)) s

/-- Load entry 0, the reset coefficients, with its record (R165). -/
def loadEntry0 (p : Port) (s : State) : State :=
  s |> onPs p (fun x => { x with cmpb0 := {}, cmpb1 := {} })
    |> adjustRecord p.val 4 (({} : SlcCmpb0).toWord)

/-- Load the table entry a port record names. -/
def loadEntry (p : Port) (e : Nat) (s : State) : State :=
  match compEntry s e with
  | some (a, b) => onPs p (fun x => { x with cmpb0 := x.cmpb0.put false a, cmpb1 := x.cmpb1.put false b }) s
  | none => loadEntry0 p s

/-- The check of R165 on one port's coefficients. -/
def checkComp (p : Port) (s : State) : State :=
  let x := (s.slice p).ps
  let sum := x.cmpb0.b0.toInt + x.cmpb0.b1.toInt + x.cmpb1.b2.toInt
  let a1 := x.cmpb1.a1.toInt
  if sum ≤ 0 || a1 < -16383 || 16383 < a1 then loadEntry0 p s else s

/-! ## The other checks (R65, R104, R147, R171) -/

/-- The ports whose `ROLE` is 1 or 2. -/
def enabledPorts (s : State) : List Port :=
  allPorts.filter (fun p => (s.slice p).att.attcfg.role == 1 || (s.slice p).att.attcfg.role == 2)

/-- R65 for both paths. -/
def checkPrecharge (s : State) : State :=
  let few := (enabledPorts s).length ≤ 8
  let s := if s.sup.hswMain.mode && !few && 600 < s.bud.inp.bMain.toNat then
      let s := onSup (fun u => { u with hswMain := { u.hswMain with mode := false } }) s
      adjustRecord 0xFF 1 s.sup.hswMain.toWord s
    else s
  if s.sup.hswBkup.mode && !few && 600 < s.bud.inp.bBkup.toNat then
    let s := onSup (fun u => { u with hswBkup := { u.hswBkup with mode := false } }) s
    adjustRecord 0xFF 1 s.sup.hswBkup.toWord s
  else s

/-- The VCONN allowance of a port in 0.1 W (R104). -/
def vconnAllowance (s : State) (p : Port) : Nat :=
  let v := (s.slice p).att.attcfg.vcls
  if v = 1 then 1 else if v = 2 then 10 else 0

/-- The allowances of the enabled ports together. -/
def vconnSum (s : State) : Nat := ((enabledPorts s).map (vconnAllowance s)).sum

/-- R104: class 2 falls to class 1 from port 23 downward until the sum fits. -/
def checkVconn (s : State) : State :=
  allPorts.reverse.foldl (fun s p =>
    if 60 < vconnSum s && (enabledPorts s).contains p && (s.slice p).att.attcfg.vcls = 2 then
      let s := onAtt p (fun a => { a with attcfg := { a.attcfg with vcls := 1 } }) s
      adjustRecord p.val 2 (s.slice p).att.attcfg.toWord s
    else s) s

/-- R147: `XT_LIM` rises to XT_min, in 5 ms units. -/
def checkXt (p : Port) (s : State) : State :=
  let x := (s.slice p).off.xcfg
  let slew := clampNat 1 60 x.slew.toNat
  let ts := max 1 x.settle.toNat
  let need := ceilDiv (50 * slew + 86 + ts * slew) (5 * slew)
  if x.xtLim.toNat < need then
    let s := onOff p (fun o => { o with xcfg := { o.xcfg with xtLim := BitVec.ofNat 8 need } }) s
    adjustRecord p.val 3 (s.slice p).off.xcfg.toWord s
  else s

/-- R171: a member whose `PERIOD` differs from its group's lowest-numbered port leaves the group. -/
def checkStagger (s : State) : State :=
  let s0 := s
  overPorts (fun p s =>
    let x := (s0.slice p).ps.pwmcfg
    let g := staggerGroup x
    if g = 0 then s else
    match allPorts.find? (fun q => staggerGroup (s0.slice q).ps.pwmcfg == g) with
    | some q =>
      if (s0.slice q).ps.pwmcfg.period = x.period then s
      else
        let s := onPs p (fun y => { y with pwmcfg := { y.pwmcfg with group := 0 } }) s
        adjustRecord p.val 5 (s.slice p).ps.pwmcfg.toWord s
    | none => s) s

/-! ## The profile table (R242) -/

/-- An entry's fields lie in the ranges of Table 11.2. -/
def profValid (e : ProfEntry) : Bool :=
  (e.flags &&& 0xFE) == 0 && (!e.flags.getLsbD 0 || e.pid == 0) && e.pad11 == 0 && e.padZero &&
  (if e.kind = 1 then
    (e.mask &&& 0xF800) == 0 && 50 ≤ e.vceil.toNat && e.vceil.toNat ≤ 480 && 5 ≤ e.iceil.toNat && e.iceil.toNat ≤ 50
      && e.pMin.toNat ≤ 240 && 1 ≤ e.pMax.toNat && e.pMax.toNat ≤ 240 && e.rpm == 0 && e.tlim == 0
  else if e.kind = 2 then
    e.mask == 0 && e.vceil == 0 && e.iceil == 0 && e.pMin == 0 && e.pMax == 0
      && 1000 ≤ e.rpm.toNat && e.rpm.toNat ≤ 1000000 && (e.tlim == 0 || (300 ≤ e.tlim.toNat && e.tlim.toNat ≤ 900))
  else false)

/-- The key of an entry: KIND, VID, wildcard flag and PID, ascending (R242). -/
def profKey (e : ProfEntry) : Nat :=
  ((e.kind.toNat * 65536 + e.vid.toNat) * 2 + (if e.flags.getLsbD 0 then 1 else 0)) * 65536 + e.pid.toNat

/-- Overlay one entry: it replaces the entry of the same key, or is added; one that will be dropped replaces nothing. -/
def profOverlay (es : List (ProfEntry × Bool)) (e : ProfEntry) : List (ProfEntry × Bool) :=
  if profValid e && es.any (fun x => profKey x.1 == profKey e && profValid x.1) then
    es.map (fun x => if profKey x.1 == profKey e && profValid x.1 then (e, false) else x)
  else es ++ [(e, false)]

/-- Drop default entries, the highest key first, until the result fits in 4,096 (R242, step 3). -/
def profFit : Nat → List (ProfEntry × Bool) → List (ProfEntry × Bool)
  | 0, es => es
  | n + 1, es =>
    if es.length ≤ 4096 then es else
    match (es.filter (·.2)).foldl (fun best x => match best with
        | none => some x
        | some b => if profKey b.1 < profKey x.1 then some x else best) none with
    | none => es
    | some d => profFit n (es.erase d)

/-- The bytes of an entry (Table 11.2). -/
def profBytes (e : ProfEntry) : List Byte :=
  [e.kind, e.flags] ++ le16 e.vid ++ le16 e.pid ++ le16 e.mask ++ le16 e.vceil ++ [e.iceil, e.pad11] ++ le16 e.pMin
    ++ le16 e.pMax ++ le32 e.rpm ++ le16 e.tlim ++ List.replicate 10 0

/-- The default entries of the active bank. -/
def profDefaults (s : State) : List ProfEntry :=
  let img := activeContent s
  match imagePart img 5 with
  | some (off, len) => (List.range (len / 32)).map (fun i => profOf (fun j => imgWord img (off + 32 * i + 4 * j)))
  | none => []

/-- Build the profile table from the defaults and the overlay (R242). -/
def buildProfiles (s : State) : State :=
  let notEmpty (e : ProfEntry) : Bool := e.kind ≠ 0
  let defs := ((profDefaults s).filter notEmpty).map (fun e => (e, true))
  let all := (s.nvc.overlay.filter notEmpty).foldl profOverlay defs
  let fit := profFit all.length all
  let sorted := sortBy (fun a b => decide (profKey a ≤ profKey b)) (fit.map (·.1))
  let bad := sorted.filter (fun e => !profValid e)
  let good := (sorted.filter profValid).map (fun e => if e.pMax.toNat < e.pMin.toNat then { e with pMin := e.pMax } else e)
  let s := bad.foldl (fun s e => adjustRecord 0xFF 6 (e.pid ++ e.vid) s) s
  let s := writeBlock profBase profSize (good.flatMap profBytes) s
  { s with bud := { s.bud with prof := {
      count := satField 13 good.length, dropped := satField 13 (all.length - fit.length + bad.length) } } }

/-! ## Settings (R399 to R402) -/

/-- Apply one persistent item. -/
def applyItem (s : State) (it : BitVec 16 × Word) : State :=
  if it.1 = 1 then { s with lcu := { s.lcu with hostLock := it.2 = 1 } }
  else if it.1 = 2 then onSup (fun u => { u with etest := { u.etest with funcS := it.2.setWidth 8 } }) s
  else if it.1 = 3 then onSup (fun u => { u with etest := { u.etest with durMin := it.2.setWidth 16 } }) s
  else s

/-- The settings format version that the running firmware writes: SET_FMT of its image (Table 19.3). -/
def settingsFmt (s : State) : BitVec 16 := imgHalf (activeContent s) 20

/-- Write a settings entry with the next SEQ; a ring of fewer than 2 blocks takes no entry (R383). -/
def putSettings (items : List (BitVec 16 × Word)) (s : State) : State :=
  if s.nand.setN < 2 then s else
  let seq := match s.nand.settings.find? (·.good) with | some e => e.seq + 1 | none => 0
  { s with nand := { s.nand with settings :=
      { fmt := settingsFmt s, seq := seq, cfgId := s.nvc.cfgId, items := items } :: s.nand.settings } }

/-- Apply the newest valid entry, or discard it once (R402). -/
def applySettings (s : State) : State :=
  match s.nand.settings.find? (·.good) with
  | none => s
  | some e =>
    if e.fmt ≠ settingsFmt s || e.cfgId ≠ s.nvc.cfgId then
      putSettings [] { s with nvc := { s.nvc with setstat := { s.nvc.setstat with disc := true, fmt := e.fmt.setWidth 8 } } }
    else
      let s := e.items.foldl applyItem s
      { s with nvc := { s.nvc with setstat := { s.nvc.setstat with valid := true, fmt := e.fmt.setWidth 8 } } }

/-- The items whose values differ from the image (R400). -/
def changedItems (s : State) : List (BitVec 16 × Word) :=
  (if s.lcu.hostLock then [((1 : BitVec 16), (1 : Word))] else [])
    ++ (if s.sup.etest.funcS = s.nvc.imgFuncS then [] else [((2 : BitVec 16), s.sup.etest.funcS.setWidth 32)])
    ++ (if s.sup.etest.durMin = s.nvc.imgDurMin then [] else [((3 : BitVec 16), s.sup.etest.durMin.setWidth 32)])

/-- A persistent item has changed: a new entry waits to be written (R401). -/
def settingsChanged (s : State) : State :=
  { s with nvc := { s.nvc with setstat := { s.nvc.setstat with pend := true } } }

/-- The host-set owner lock (mailbox command 0x03). -/
def setOwnerLock (on : Bool) (s : State) : State := settingsChanged { s with lcu := { s.lcu with hostLock := on } }

/-- The entry is written and `PEND` cleared; it stays set where the ring takes no entry (R383). -/
def settingsWrite (o : FlashOp) (s : State) : State :=
  let s := flashOp 5 false o s
  if s.nand.setN < 2 then s else
  let s := putSettings (changedItems s) s
  { s with nvc := { s.nvc with setstat := { s.nvc.setstat with pend := false } } }

/-- SETTINGS_WRITE: the entry is written, unless PFW_N is asserted or the Warden Core is stopped (R401); a ring of fewer than 2
blocks is not written any more. -/
def execSettingsWrite (o : FlashOp) (s : State) : Host.Outcome State Fault Refusal :=
  .next (if s.nvc.setstat.pend && !s.sup.pfw && wardenRuns s && 2 ≤ s.nand.setN then settingsWrite o s else s)

/-! ## Windows (R396, R330) -/

/-- A MORTAR window is dropped (R396): a bad size, X rights, or an overlap with ROM or a protected tile. -/
def windowDropped (s : State) (w : Window) : Bool :=
  let n := w.wa.log2sz.toNat
  let bad := w.wa.en && (n < 12 || 31 < n)
  let lo := windowBase w
  let hi := lo + 2 ^ n
  let prot := protRange s.fab.prot
  bad || w.wa.x || lo < 0x10000000 || (lo < prot.2 && prot.1 < hi)

/-- Load the window set of a domain from its record, or the default windows (R299, R330). -/
def loadDomainWindows (m : List (Byte × List Window)) (d : Domain) (s : State) : State :=
  let given := match m.find? (fun x => x.1 == BitVec.ofNat 8 (domCode d)) with | some x => x.2 | none => []
  let kept := given.map (fun w => if w.wa.en && windowDropped s w then {} else w)
  let dropped := (given.filter (fun w => w.wa.en && windowDropped s w)).length
  let ws := if kept.any (fun w => w.wa.en) then kept else defaultWindows d
  let s := { s with nvc := { s.nvc with cfgdrop := { win := satAdd s.nvc.cfgdrop.win dropped } } }
  setWindows (match d with | .a => 0 | .b => 1 | .s => 2) ws s

/-! ## Configuration load (step 7 of Table 4.2) -/

/-- `NVC_CFGSTAT` and `NVC_CFGREJ` after a walk. -/
def walkResults (slot : Bool) (w : Walk) (s : State) : State :=
  let f := w.first.getD (0, 0, 0, 0)
  { s with nvc := { s.nvc with
    cfgstat := { applied := satField 8 w.applied.length, rej := satField 8 w.rej, skip := satField 8 w.skip
                 first := BitVec.ofNat 3 f.1, trunc := w.trunc, slot := slot }
    cfgrej := { offset := BitVec.ofNat 16 f.2.1, tag := f.2.2.1, inst := f.2.2.2 }, overlay := w.overlay } }

/-- The lock bits of every block (R392, step 4). -/
def setLocks (s : State) : State :=
  let s := overPorts (fun p s =>
    onSlice p (fun x => { x with
      att := { x.att with attctl := { cfgLk := true } }, pd := { x.pd with pdctl := { cfgLk := true } }
      off := { x.off with offctl := { cfgLk := true } }, ps := { x.ps with psctl := { cfgLk := true } }
      sw := { x.sw with swctl := { cfgLk := true } }, pr := { x.pr with prctl := { cfgLk := true } }
      th := { x.th with thctl := { cfgLk := true } } }) s) s
  { s with
    sup := { s.sup with lock := { cfgLk := true } }, bud := { s.bud with cfg := { s.bud.cfg with cfgLk := true } }
    kln := { s.kln with ctl := { cfgLk := true } }, cyc := { s.cyc with ctl := { cfgLk := true } }
    syn := { s.syn with ctl := { cfgLk := true } }, hst := { s.hst with ctl := { cfgLk := true } }
    aux := { s.aux with cfg := { s.aux.cfg with cfgLk := true } }, fab := { s.fab with cfg := { s.fab.cfg with cfgLk := true } } }

/-- The SlaseLine engine takes up its configuration: disabled, master or acquiring (R276). -/
def startSlase (s : State) : State :=
  let st : BitVec 3 := if !s.syn.cfg.en then 0 else if s.syn.cfg.master then 4 else 1
  { s with syn := { s.syn with stat := { s.syn.stat with state := st } } }

/-- The records of an image, walked on a state (R390). -/
def walkImage (img : List Byte) (s : State) : Walk :=
  let rec_ := (imgWord img 16).toNat
  walk img (64 + rec_) rec_ 64 { state := s }

/-- What the walk leaves in the controller's registers, and the image itself (R391, R399). -/
def keepImage (img : List Byte) (slot : Bool) (w : Walk) (s : State) : State :=
  let s := walkResults slot w s
  { s with nvc := { s.nvc with
    cfgId := imgWord img 24, cfgRev := imgWord img 28, image := img
    imgFuncS := s.sup.etest.funcS, imgDurMin := s.sup.etest.durMin } }

/-- The compensator entries that port records name (R394). -/
def loadComps (l : List (Byte × Nat)) (s : State) : State :=
  l.foldl (fun s c => match instPort c.1 with | some p => loadEntry p c.2 s | none => s) s

/-- The checks over the whole configuration (R392, step 2). -/
def checkAll (s : State) : State :=
  s |> checkPrecharge |> checkVconn |> overPorts checkXt |> overPorts checkComp |> checkStagger

/-- The windows of the three domains, and the map made active (R332). -/
def loadWindows (m : List (Byte × List Window)) (s : State) : State :=
  s |> loadDomainWindows m .a |> loadDomainWindows m .b |> loadDomainWindows m .s |> mapApply

/-- The two-wire address and the cycle clock come into use. -/
def startClock (s : State) : State :=
  { s with
    did := { s.did with strap := { s.did.strap with taAddr := s.hst.cfg.base + s.did.strap.addrIdx.setWidth 7 } }
    cyc := { s.cyc with
      running := true, lt := if s.cyc.cfg.intHz then 853333333 else 1024000000
      len := if s.cyc.cfg.intHz then 853333333 else 0x3D090000 } }

/-- The image's contents are loaded: records, checks, settings, locks, and the blocks that start with them (R392). -/
def loadImage (img : List Byte) (slot : Bool) (s : State) : State :=
  let w := walkImage img s
  w.state |> keepImage img slot w |> loadComps w.compsel |> checkAll |> buildProfiles |> loadWindows w.mortar
    |> applySettings |> setLocks |> startSlase |> startClock |> supplyConfigured

/-- CONFIG_LOAD: step 7 of Table 4.2; a missing image enters recovery with cause 4 (R386, R389, R392). -/
def configLoad (s : State) : State :=
  if s.did.cond ≠ .boot || s.did.boot.stage ≠ 5 || s.cyc.running then s else
  let slot := s.lcu.cfgSlot
  let img := if slot then s.nand.slot1 else s.nand.slot0
  if imageOk s.otp img then loadImage img slot s else enterRecovery 4 s

/-- CONFIG_LOAD (R392). -/
def execConfigLoad (s : State) : Host.Outcome State Fault Refusal := .next (configLoad s)

end Sys2Proof.Machine
end

