-- ==== Sys2Proof/Machine/UpdateOps.lean ====
section
/-!
DEFINITION. The update image and its checks, pointer and Bank records, and which bank the ROM reads (R411 to R413, R417,
R419, R420, R426).
-/

namespace Sys2Proof.Machine

/-! ## The header (R411 to R414) -/

/-- N of a header. -/
def hdrN (h : List Byte) : Nat := (imgByte h 22).toNat

/-- The length of a header with N manifest entries. -/
def hdrLen (n : Nat) : Nat := 64 + 48 * n + 320

/-- A manifest entry: TYPE, OFFSET and LENGTH. -/
structure PartEntry where
  type : Byte
  off : Nat
  len : Nat
  hash : List Byte
deriving DecidableEq, Repr

/-- The manifest. -/
def hdrParts (h : List Byte) : List PartEntry :=
  (List.range (hdrN h)).map (fun i =>
    let o := 64 + 48 * i
    { type := imgByte h o, off := (imgWord h (o + 4)).toNat, len := (imgWord h (o + 8)).toNat, hash := imgSlice h (o + 16) 32 })

/-- LENGTH of a part lies in its row of Table 19.4. -/
def partLenOk (e : PartEntry) : Bool :=
  if e.type = 1 then 4 ≤ e.len && e.len ≤ 2097152
  else if e.type = 2 then 4 ≤ e.len && e.len ≤ 4194304
  else if e.type = 3 then 4 ≤ e.len && e.len ≤ 8192
  else if e.type = 4 then 8 ≤ e.len && e.len ≤ 2048 && e.len % 8 = 0
  else if e.type = 5 then 32 ≤ e.len && e.len ≤ 131072 && e.len % 32 = 0
  else if e.type = 6 then 4 ≤ e.len && e.len ≤ 65536
  else false

/-- Two parts do not overlap. -/
def apart (a b : PartEntry) : Bool := a.off + a.len ≤ b.off || b.off + b.len ≤ a.off

/-- Every part keeps to R412 and Table 19.4, each type stands once, and no two parts overlap. -/
def partsOk (h : List Byte) : Bool :=
  let es := hdrParts h
  let img := (imgWord h 12).toNat
  es.all (fun e => partLenOk e && e.off % 16 == 0 && decide (hdrLen (hdrN h) ≤ e.off) && decide (e.off + e.len ≤ img))
    && ([1, 2, 3, 4, 5, 6] : List Byte).all (fun t => (es.filter (fun e => e.type == t)).length == 1)
    && es.zipIdx.all (fun a => es.zipIdx.all (fun b => a.2 == b.2 || apart a.1 b.1))

/-- Table 17.4 accepts the signing role in the present lifecycle state: 1 test, 2 release, 3 return. -/
def roleAccepted (o : Otp) (role : Byte) : Bool :=
  let k := lifecycle o
  if k = 0 then role = 1 else if k = 4 then role = 3 else role = 2

/-- The root key is the one of VKEY or, in the BLANK state, that of the test root hash (R413). -/
def rootOk (o : Otp) (pub : List Byte) : Bool :=
  (vkeyUsable o && Config.sha256 pub == otpDigest o 24) || (lifecycle o = 0 && Config.sha256 pub == Config.testRootHash)

/-- The key block of a header is accepted (R413). -/
def keyBlockOk (o : Otp) (h : List Byte) : Bool :=
  let k := 64 + 48 * hdrN h
  let root := imgSlice h k 64
  rootOk o root && Config.ecdsaOk root (Config.sha256 (imgSlice h k 192)) (imgSlice h (k + 192) 64)
    && imgByte h (k + 128) == imgByte h 23 && imgHalf h (k + 132) == imgHalf h 8 && roleAccepted o (imgByte h 23)

/-- HDR_SIG verifies under ROLE_PUB. -/
def hdrSigOk (h : List Byte) : Bool :=
  let k := 64 + 48 * hdrN h
  Config.ecdsaOk (imgSlice h (k + 64) 64) (Config.sha256 (imgSlice h 0 (k + 256))) (imgSlice h (k + 256) 64)

/-- The header's part is this device: PART_ID is 0x2448 and the part ID of OTP word 0 (Tables 17.2 and 19.5). -/
def partIdOk (o : Otp) (h : List Byte) : Bool := imgHalf h 8 == 0x2448 && imgHalf h 8 == (otpShadow o 0).setWidth 16

/-- The first cause of 1 to 8 that refuses a firmware header, 0 when none does; `minFw` is MIN_FWVER where cause 8 is
checked (R414, R415). -/
def fwHeaderCause (o : Otp) (minFw : Option Word) (h : List Byte) : BitVec 5 :=
  if imgSlice h 0 4 ≠ [0x44, 0x58, 0x55, 0x50] then 1
  else if !partIdOk o h then 2
  else if !steppingOk o h then 3
  else if imgByte h 4 ≠ 1 then 4
  else if (imgHalf h 6).toNat ≠ hdrLen (hdrN h) || hdrN h ≠ 6 || 16515072 < (imgWord h 12).toNat || !partsOk h then 5
  else if !keyBlockOk o h then 6
  else if !hdrSigOk h then 7
  else match minFw with
    | some m => if imgWord h 16 < m then 8 else 0
    | none => 0

/-- The first cause of 1 to 5 that refuses the header of a configuration image. -/
def cfgHeaderCause (o : Otp) (h : List Byte) : BitVec 5 :=
  if imgSlice h 0 4 ≠ [0x44, 0x58, 0x43, 0x46] then 1
  else if !partIdOk o h then 2
  else if !steppingOk o h then 3
  else if imgByte h 4 ≠ 1 then 4
  else if imgHalf h 6 ≠ 64 || 524288 < (imgWord h 12).toNat then 5
  else 0

/-! ## The whole image (R80, R419) -/

/-- The hash of a part matches. -/
def partHashOk (img : List Byte) (e : PartEntry) : Bool := Config.sha256 (imgSlice img e.off e.len) == e.hash

/-- The parts of the given types verify. -/
def partsVerify (img : List Byte) (types : List Byte) : Bool :=
  types.all (fun t => (hdrParts img).any (fun e => e.type == t && partHashOk img e))

/-- Entry 0 of the compensator part equals the reset values of `SLC_CMPB0` and `SLC_CMPB1` (R165). -/
def compZeroOk (img : List Byte) : Bool :=
  match imagePart img 4 with
  | some (off, _) => imgWord img off == ({} : SlcCmpb0).toWord && imgWord img (off + 4) == ({} : SlcCmpb1).toWord
  | none => false

/-- The cause that END finds in a firmware image, 0 when every check passes (R419). -/
def fwEndCause (o : Otp) (hdr img : List Byte) : BitVec 5 :=
  if imgSlice img 0 hdr.length ≠ hdr || !partsVerify img [1, 2, 3, 4, 5, 6] then 15
  else if !keyBlockOk o img then 6
  else if !hdrSigOk img then 7
  else if !compZeroOk img then 5
  else 0

/-- The cause that END finds in a configuration image: the checks of R386 (R419). -/
def cfgEndCause (o : Otp) (hdr img : List Byte) : BitVec 5 :=
  let rec_ := (imgWord img 16).toNat
  let pub := imgSlice img (64 + rec_) 64
  if imgSlice img 0 hdr.length ≠ hdr then 15
  else if (imgWord img 12).toNat ≠ 64 + rec_ + 128 then 5
  else if !configKeyOk o pub then 6
  else if !Config.ecdsaOk pub (Config.sha256 (imgSlice img 0 (128 + rec_))) (imgSlice img (128 + rec_) 64) then 7
  else if imageOk o img then 0 else 5

/-! ## Banks, pointer records and Bank records (R417, R420, Table 16.2) -/

/-- A firmware bank. -/
def bankAt (b : Bool) (s : State) : FwBank := if b then s.nand.bank1 else s.nand.bank0

/-- Change a firmware bank. -/
def onBankAt (b : Bool) (f : FwBank → FwBank) : State → State :=
  onNand (fun n => if b then { n with bank1 := f n.bank1 } else { n with bank0 := f n.bank0 })

/-- Write a pointer record with the next SEQ; `LCU_BANK` follows it. -/
def writePointer (active trial prev cfgSlot : Bool) (s : State) : State :=
  let seq : Word := match s.nand.ptrs with | p :: _ => p.seq + 1 | [] => 0
  s |> onNand (fun n => { n with
        ptrs := { seq := seq, active := active, trial := trial, prev := prev, cfgSlot := cfgSlot } :: n.ptrs })
    |> onLcu (fun l => { l with active := active, trial := trial, cfgSlot := cfgSlot })

/-- PREV of the newest pointer record. -/
def prevBank (s : State) : Bool := match s.nand.ptrs with | p :: _ => p.prev | [] => false

/-- `LCU_BANK` takes the newest valid pointer record; with none, bank 0 and slot 0 (R420). -/
def loadPointer (s : State) : State :=
  match s.nand.ptrs with
  | p :: _ => onLcu (fun l => { l with active := p.active, trial := p.trial, cfgSlot := p.cfgSlot }) s
  | [] => onLcu (fun l => { l with active := false, trial := false, cfgSlot := false }) s

/-- A Bank record, written at the Warden Core's request: 1 fallback at boot, 2 rollback, 3 activation (Table 16.2). -/
def bankRecord (source : Byte) (bank : Bool) (cause : Nat) : State → State :=
  hwRecord 9 source 8 (BitVec.ofNat 48 ((if bank then 1 else 0) + 256 * cause))

/-- A return to a bank: pointer record with TRIAL 0 and the other bank failed, event 222 and a Bank record (R80, R425, R426). -/
def returnTo (bank : Bool) (cause : Nat) (s : State) : State :=
  s |> onBankAt (!bank) (fun b => { b with st := 3 }) |> writePointer bank false (prevBank s) s.lcu.cfgSlot
    |> raise 222 |> bankRecord 222 bank cause

/-! ## The boot ROM's bank (R80, R426) -/

/-- The ROM takes PREV first: the newest record is unconfirmed and PREV is valid. -/
def trialReturn (s : State) : Bool := s.lcu.trial && (bankAt (prevBank s) s).st = 2 && prevBank s != s.lcu.active

/-- The bank the ROM reads. -/
def romBank (s : State) : Bool :=
  let first := if trialReturn s then prevBank s else s.lcu.active
  if s.did.secondBank then !first else first

/-- The bank's header and the parts of the given types verify, under keys and a role of the present lifecycle state
(R80, R374, R377). -/
def bankVerifies (types : List Byte) (b : Bool) (s : State) : Bool :=
  let img := (bankAt b s).content
  (bankAt b s).st = 2 && partitionsGood s && dsecUsable s.otp && fwHeaderCause s.otp none img == 0 && partsVerify img types

/-! ## What a bank's firmware sets (R330, R331) -/

/-- The windows of sets 3 to 6 that the Warden firmware writes: free values of its image. -/
def firmwareSet (img : List Byte) (k : Nat) : List Window :=
  (List.range 32).map (fun i =>
    let w := Config.firmwareWindow img k i
    { wb := ({} : FabWb).put w.1, wa := ({} : FabWa).put w.2 })

/-- The Warden Core writes its firmware's windows, locks `FAB_PROT` and applies the map. -/
def firmwareMap (img : List Byte) (s : State) : State :=
  let s := s |> setWindows 3 (firmwareSet img 3) |> setWindows 4 (firmwareSet img 4) |> setWindows 5 (firmwareSet img 5)
    |> setWindows 6 (firmwareSet img 6)
  let pr := s.fab.prot.put s.fab.prot.lk (Config.firmwareProt img)
  mapApply { s with fab := { s.fab with prot := { pr with lk := true } } }

/-! ## Activation and rollback (Table 19.6, R423, R425) -/

/-- R423: a settings entry of another format gives way to one with no items, and every item takes its image value. -/
def settingsReturn (s : State) : State :=
  match s.nand.settings.find? (·.good) with
  | none => s
  | some e =>
    if e.fmt = settingsFmt s then s else
    let s := onLcu (fun l => { l with hostLock := false }) s
    putSettings [] (onSup (fun u => { u with etest := { u.etest with funcS := s.nvc.imgFuncS, durMin := s.nvc.imgDurMin } }) s)

/-- Step 3 of Table 19.6: both cores stop and hosts are answered busy; settings and profile table follow the bank named. -/
def activationRestart (s : State) : State :=
  s |> onDid (fun d => { d with
        policy := { d.policy with restarting := d.policy.started }, warden := { d.warden with restarting := d.warden.started } })
    |> onLcu (fun l => { l with paused := true, turn := none })
    |> settingsReturn |> buildProfiles

/-- The slices that have taken the new microcode. -/
def slicesTaken (l : Lcu) : Nat :=
  match l.turn with
  | some n => n
  | none => l.turns

/-- Rollback to PREV, whose cores start again; `STATE` becomes 7 (R425). -/
def rollback (s : State) : State :=
  let n := slicesTaken s.lcu
  s |> returnTo (prevBank s) 2 |> onLcu (fun l => { l with state := 7, rolling := true, turns := n }) |> activationRestart

end Sys2Proof.Machine
end

