-- ==== Sys2Proof/Machine/Boot.lean ====
section
/-!
DEFINITION. The commands of reset, boot, core restarts and die temperature (chapter 4, R12, R24, R53).
-/

namespace Sys2Proof.Machine

/-! ## Reset sources (R75 to R78) -/

/-- POWER_ON_RESET: internal reset at once, with no pre-reset phase (R75, R77). -/
def execPowerOnReset (s : State) : Host.Outcome State Fault Refusal :=
  .next (resetDevice (onDid (fun d => { d with srcs := { d.srcs with por := true } }) s))

/-- EXTERNAL_RESET: internal reset at once, with no pre-reset phase (R75, R77). -/
def execExternalReset (s : State) : Host.Outcome State Fault Refusal :=
  .next (resetDevice (onDid (fun d => { d with srcs := { d.srcs with ext := true } }) s))

/-- WARDEN_RESET_REQUEST: the Warden Core, or the ROM in recovery, requests a device reset (R77, R87). -/
def execWardenResetRequest (cause : BitVec 4) (s : State) : Host.Outcome State Fault Refusal :=
  .next (if wardenRuns s || s.did.cond = .recovery then wardenReset cause s else s)

/-- The `n` oldest records not yet in the log go into it (R77). -/
def preResetFlush (n : Nat) (s : State) : State :=
  if !s.evr.running || !s.nand.formatted then s else
  let k := min n (undrained s.evr)
  if k = 0 then s else
  logAppend (padPage ((List.range k).map (fun i => ringSlot s.evr (s.evr.drain + BitVec.ofNat 32 i)))) s

/-- PRE_RESET_COMPLETE: the flush has written `flushed` records, all of them or as many as the 5 ms allow, and internal reset
is asserted (R77). -/
def execPreResetComplete (flushed : Nat) (s : State) : Host.Outcome State Fault Refusal :=
  .next (if s.did.preReset then resetDevice (preResetFlush flushed s) else s)

/-- RESET_RELEASE: `DID_RSTC` is loaded and the boot begins (R76, R78). -/
def execResetRelease (s : State) : Host.Outcome State Fault Refusal :=
  .next (
    if s.did.cond ≠ .reset || s.did.thermal then s else
    onDid (fun d => { d with cond := .boot, rstc := d.srcs, srcs := {}, boot := { d.boot with stage := 1 } }) s)

/-! ## Clock source (R23, R24, R81) -/

/-- A record of type 0x06: `DID_TEMP` and a cause. -/
def clockRecord (source : Byte) (cause : Nat) (s : State) : State :=
  hwRecord 6 source 0 (s.did.temp.setWidth 48 ||| (BitVec.ofNat 48 cause <<< 16)) s

/-- The PLL runs from the internal oscillator from here on. -/
def referenceLost (s : State) : State := clockRecord 0xFF 1 (onDid (fun d => { d with refLost := true }) s)

/-- The PLL is locked, and the wipe starts. -/
def pllLocked (s : State) : State := setStage 2 (onDid (fun d => { d with pllLocked := true }) s)

/-- PLL_LOCK (R23). -/
def execPllLock (s : State) : Host.Outcome State Fault Refusal :=
  .next (if atStage 1 s && s.otp.sensed then pllLocked s else s)

/-- PLL_LOCK_TIMEOUT (R81). -/
def execPllLockTimeout (s : State) : Host.Outcome State Fault Refusal :=
  .next (if atStage 1 s && s.otp.sensed then pllLocked (referenceLost s) else s)

/-- REFERENCE_LOST (R24). -/
def execReferenceLost (s : State) : Host.Outcome State Fault Refusal :=
  .next (if s.did.pllLocked && !s.did.refLost then referenceLost s else s)

/-! ## Boot (R79 to R88) -/

/-- WIPE_DONE: memory is zero; SVC_EN sampled low gives recovery, otherwise the recorder starts (R79, R86, R346). -/
def wipeDone (s : State) : State :=
  let s := loadPointer (onDid (fun d => { d with wiped := true }) { s with mem := [] })
  if s.did.strap.svcEnLow then enterRecovery 1 s else setStage 3 (recorderStart s)

/-- WIPE_DONE (R79). -/
def execWipeDone (s : State) : Host.Outcome State Fault Refusal := .next (if atStage 2 s then wipeDone s else s)

/-- A bank has failed: the ROM starts again at step 5 with the other bank, or enters recovery with cause 3 (R80, R86). -/
def bankFailed (s : State) : State :=
  let s := onDid (fun d => { d with warden := { d.warden with started := false } }) s
  if s.did.secondBank then enterRecovery 3 s else
  let s := onDid (fun d => { d with secondBank := true }) s
  setStage 3 (onDid (fun d => { d with boot := { d.boot with fallback := romBank s != s.lcu.active } }) s)

/-- The flash has answered at step 5 (R379, R382). -/
def flashFound (f : FlashInfo) (s : State) : State :=
  onNvc (fun n => { n with
    stat := { n.stat with ready := true, size := f.size, ptCopy := f.ptCopy, rsvPct := reservePct s.nand }, wear := { maxw := f.maxw } }) s

/-- A bank's partition has an uncorrectable sector, and the block is retired (R380, R382). -/
def bankUnread (b : Bool) (s : State) : State := retireBlock (if b then 3 else 2) false (sectorsRead 0 1 s)

/-- The Warden Core starts from a bank: map, `FAB_PROT` and the vendor sticky lock (R330, R331, R366). -/
def wardenStart (b : Bool) (s : State) : State :=
  let s := onDid (fun d => { d with
    boot := { d.boot with bank := b }, fwrun := (bankAt b s).ver, warden := { d.warden with started := true } }) s
  let s := firmwareMap (bankAt b s).content s
  if lifecycle s.otp = 0 then s else onOtp (fun o => { o with lock := { o.lock with sV := true } }) s

/-- WARDEN_FIRMWARE_VERIFIED: step 5. `readOk` says that the flash read of the bank had no uncorrectable sector (R79, R80). No
bank can be read where both copies of the partition table fail (R382). -/
def wardenFirmware (f : FlashInfo) (readOk : Bool) (s : State) : State :=
  if f.size = 0 then enterRecovery 2 s else
  let s := flashFound f s
  if f.ptBad then enterRecovery 3 s else
  let b := romBank s
  if !readOk then bankFailed (bankUnread b s)
  else if bankVerifies [1] b s then setStage 4 (wardenStart b s) else bankFailed s

/-- WARDEN_FIRMWARE_VERIFIED (R80). -/
def execWardenFirmwareVerified (f : FlashInfo) (readOk : Bool) (s : State) : Host.Outcome State Fault Refusal :=
  .next (if atStage 3 s then wardenFirmware f readOk s else s)

/-- The pointer after a boot from the other bank, or from PREV of an unconfirmed record (R80, R426). -/
def bootPointer (s : State) : State :=
  let b := s.did.boot.bank
  if trialReturn s && b = prevBank s then returnTo b 2 s
  else if s.did.boot.fallback then returnTo b 1 s
  else s

/-- POLICY_FIRMWARE_VERIFIED: step 6, the rest of the bank (R79, R80). -/
def policyFirmware (readOk : Bool) (s : State) : State :=
  if !readOk then bankFailed (bankUnread s.did.boot.bank s)
  else if bankVerifies [2, 3, 4, 5, 6] s.did.boot.bank s then
    let s := onDid (fun d => { d with policy := { d.policy with started := true } }) s
    setStage 5 (policyStart (bootPointer s))
  else bankFailed s

/-- POLICY_FIRMWARE_VERIFIED (R79). -/
def execPolicyFirmwareVerified (readOk : Bool) (s : State) : Host.Outcome State Fault Refusal :=
  .next (if atStage 4 s then policyFirmware readOk s else s)

/-! ## Slice release (R82 to R84, R112, R229) -/

/-- Step 1 of Table 5.9: both CC balls through the clamp, and VBUS. -/
def handoverSample (h : HandoverSample) (x : Slice) : Slice :=
  let a := x.att.sample (some h.cc1) (some h.cc2)
  { x with att := { a with
      vbusMv := h.vbus, attstat := { a.attstat with vbusPres := 4000 ≤ h.vbus, vbusSafe0 := h.vbus ≤ 800 } } }

/-- The clamp is released. -/
def Slice.unclamp (x : Slice) : Slice := { x with att := { x.att with attstat := { x.att.attstat with dbclamp := false } } }

/-- Port 0 or 1 at slice release: Rp for role 1, the handover of Table 5.9 for role 2, the clamp for role 0 (R84, R112). -/
def releaseTie (p : Port) (h : HandoverSample) (s : State) : State :=
  let s := onSlice p (handoverSample h) s
  let a := (s.slice p).att
  if a.attcfg.role = 1 then onSlice p (fun x => x.unclamp.enter 1) s
  else if a.attcfg.role = 2 then
    let s := onSlice p (fun x => x.unclamp.enter 4) s
    if a.attstat.vbusPres && (a.rp1 ≠ 0) != (a.rp2 ≠ 0) then attachSink p s else s
  else s

/-- The comparators that a list of results names for a port; a port not named passes. -/
def badFor (p : Port) (l : List (Port × BitVec 4)) : BitVec 4 :=
  match l.find? (fun x => x.1 == p) with
  | some x => x.2
  | none => 0

/-- SLICE_RELEASE: every slice checks its comparators; ports 0 and 1 act at once, the others when an input is active. -/
def sliceRelease (relMs : Nat) (bad : List (Port × BitVec 4)) (h0 h1 : HandoverSample) (s : State) : State :=
  let s := onDid (fun d => { d with
    cond := .operation, released := true, boot := { d.boot with stage := 7, relMs := satField 8 relMs } }) s
  let s := onSup (fun u => { u with psEn := u.active ≠ .none }) s
  let s := overPorts (fun p s => selfCheckWith p (badFor p bad) s) s
  let s := if s.did.inputSeen then portsPresent s else s
  s |> releaseTie 0 h0 |> releaseTie 1 h1

/-- SLICE_RELEASE (R83). -/
def execSliceRelease (relMs : Nat) (bad : List (Port × BitVec 4)) (h0 h1 : HandoverSample) (s : State) :
    Host.Outcome State Fault Refusal :=
  .next (if atStage 6 s then sliceRelease relMs bad h0 h1 s else s)

/-! ## Core restarts (R12, R89, R90) -/

/-- One core. -/
def coreOf (c : CoreId) (s : State) : Core := match c with | .policy => s.did.policy | .warden => s.did.warden

/-- Change one core. -/
def onCore (c : CoreId) (f : Core → Core) : State → State :=
  onDid (fun d => match c with | .policy => { d with policy := f d.policy } | .warden => { d with warden := f d.warden })

/-- The core executes. -/
def coreRuns (c : CoreId) (s : State) : Bool := match c with | .policy => policyRuns s | .warden => wardenRuns s

/-- A record of type 0x07: the core, a cause and its expiries since reset. -/
def coreRecord (c : CoreId) (cause : Nat) (s : State) : State :=
  let id := match c with | .policy => 0 | .warden => 1
  hwRecord 7 229 0 (BitVec.ofNat 48 (id + 256 * cause + 65536 * (coreOf c s).wdc.toNat)) s

/-- A watchdog expires; `recent` is how many times it did within the 60 s before. The eighth holds the core (R12, R90). -/
def watchdogExpiry (c : CoreId) (recent : Nat) (s : State) : State :=
  let hold := 8 ≤ recent + 1
  let s := onCore c (fun k => { k with
    wdc := satInc k.wdc, recent := recent + 1, held := hold, restarting := !hold }) s
  coreRecord c (if hold then 2 else 1) (raise 229 s)

/-- What WATCHDOG_EXPIRY does. -/
def watchdogExpiryAt (c : CoreId) (recent : Nat) (s : State) : State :=
  if !coreRuns c s then s else
  let s := watchdogExpiry c recent s
  if s.lcu.state = 6 then rollback s else s

/-- WATCHDOG_EXPIRY; before the confirmation of new firmware it also brings the rollback (R12, R90, R425). -/
def execWatchdogExpiry (c : CoreId) (recent : Nat) (s : State) : Host.Outcome State Fault Refusal := .next (watchdogExpiryAt c recent s)

/-- CORE_RESTART_DONE's effect: the core resumes; the Policy Core starts its rounds anew (R89, R241). -/
def coreResume (c : CoreId) (s : State) : State :=
  let s := onCore c (fun k => { k with restarting := false }) s
  match c with
  | .policy => policyStart s
  | .warden => s

/-- What CORE_RESTART_DONE does. -/
def coreRestartDone (c : CoreId) (r : RestartCheck) (s : State) : State :=
  if !(coreOf c s).restarting || (coreOf c s).held || s.lcu.paused then s else
  match r with
  | .good => coreResume c s
  | .badFirmware => wardenReset 3 s
  | .badConfig => wardenReset 2 s

/-- CORE_RESTART_DONE: the protected copies are checked first (R20, R89). -/
def execCoreRestartDone (c : CoreId) (r : RestartCheck) (s : State) : Host.Outcome State Fault Refusal := .next (coreRestartDone c r s)

/-! ## Die temperature (R92) -/

/-- A reading of the sensor is taken outside reset. -/
def dieReading (t : BitVec 16) (s : State) : State :=
  if s.did.cond = .reset || s.did.cond = .unpowered then s else onDid (fun d => { d with temp := t }) s

/-- What DIE_TEMP_WARNING does. -/
def dieTempWarning (t : BitVec 16) (s : State) : State :=
  let s := dieReading t s
  if s.did.cond = .reset || s.did.cond = .unpowered || s.did.twarn || t.toInt < 2000 then s else
  let s := clockRecord 226 2 (raise 226 (onDid (fun d => { d with twarn := true }) s))
  overPorts (fun p s => alertBit p alertOtp s) s

/-- DIE_TEMP_WARNING: a reading at or above 125 °C (R92, R157). -/
def execDieTempWarning (t : BitVec 16) (s : State) : Host.Outcome State Fault Refusal := .next (dieTempWarning t s)

/-- What DIE_TEMP_WARNING_CLEAR does. -/
def dieTempWarningClear (t : BitVec 16) (s : State) : State :=
  let s := dieReading t s
  if t.toInt ≤ 1840 then onDid (fun d => { d with twarn := false }) s else s

/-- DIE_TEMP_WARNING_CLEAR: a reading at or below 115 °C (R92). -/
def execDieTempWarningClear (t : BitVec 16) (s : State) : Host.Outcome State Fault Refusal := .next (dieTempWarningClear t s)

/-- What THERMAL_SHUTDOWN does. -/
def thermalShutdown (t : BitVec 16) (s : State) : State :=
  let s := dieReading t s
  if s.did.cond = .reset || s.did.cond = .unpowered || s.did.thermal || t.toInt < 2320 then s else
  let s := raise 227 (onDid (fun d => { d with thermal := true, srcs := { d.srcs with thermal := true } }) s)
  if s.did.preReset then clockRecord 227 3 s else preReset (clockRecord 227 3) s

/-- THERMAL_SHUTDOWN: a reading at or above 145 °C starts the pre-reset phase (R77, R92). -/
def execThermalShutdown (t : BitVec 16) (s : State) : Host.Outcome State Fault Refusal := .next (thermalShutdown t s)

/-- What THERMAL_RESTART does. -/
def thermalRestart (t : BitVec 16) (s : State) : State :=
  let s := dieReading t s
  if t.toInt < 1760 then onDid (fun d => { d with thermal := false }) s else s

/-- THERMAL_RESTART: below 110 °C the thermal source ends, in reset as well (R76, R92). -/
def execThermalRestart (t : BitVec 16) (s : State) : Host.Outcome State Fault Refusal := .next (thermalRestart t s)

/-! ## VIN_HK (R53) -/

/-- VIN_HK_LOW: through 4.50 V (R53). -/
def execVinHkLow (s : State) : Host.Outcome State Fault Refusal :=
  .next (if s.did.hkLow || s.did.cond = .reset || s.did.cond = .unpowered then s else supplyEvent 228 (onDid (fun d => { d with hkLow := true }) s))

/-- VIN_HK_RESTORED: above 4.70 V the low condition ends (R53). -/
def execVinHkRestored (s : State) : Host.Outcome State Fault Refusal :=
  .next (onDid (fun d => { d with hkLow := false }) s)

end Sys2Proof.Machine
end

