-- ==== Sys2Proof/Machine/Contract.lean ====
section
/-!
DEFINITION. Requests, contract changes, EPR mode, status answers and the grant (R143 to R159, R185, R232).
-/

namespace Sys2Proof.Machine

/-! ## Evaluating a Request (R145) -/

/-- The contract of a pending change is at one of these steps: a further Request is a protocol error. -/
def inTransition (x : Slice) : Bool := x.off.changing && x.off.xstep ≠ .rampingBack

/-- The answer to a Request, with its `RESULT`: 0 Accept, 4 Reject, 5 Wait; `readvert` is row 7 of Table 7.3. -/
structure Verdict where
  result : BitVec 3
  readvert : Bool := false
  offer : Option Offer := none
deriving DecidableEq, Repr

/-- The output voltage that a Request asks for from an object. -/
def askedMv (o : Offer) (r : RequestMsg) : Nat := if o.kind = .fixed then o.vmin else r.mv

/-- Table 7.3 for a Request on an offer as sent and an offer as it would be sent now. -/
def judge (x : Slice) (new : List Offer) (hold : Bool) (r : RequestMsg) : Verdict :=
  if hold || x.off.xstep = .rampingBack then { result := 5 } else
  match x.off.lastOffer.find? (fun o => o.pos = r.pos) with
  | none => { result := 4 }
  | some o =>
    let mv := askedMv o r
    let step := if o.kind = .pps then 20 else 100
    if r.pos = 0 || (8 ≤ o.pos && !(r.epr && x.off.contract.epr)) || (r.epr && !r.copyOk) then { result := 4 }
    else if o.kind ≠ .fixed && rev2 x .sop then { result := 4 }
    else if o.kind ≠ .fixed && (mv < o.vmin || o.vmax < mv || mv % step ≠ 0) then { result := 4 }
    else if !o.admits mv r.ma then { result := 4 }
    else if !fitsOffer new o.kind mv r.ma then { result := 4, readvert := true }
    else { result := 0, offer := some o }

/-- The first Request after attach or Hard Reset sets the SOP revision; the cable's revision follows it down (R123), and
unchunked messages are agreed (R126). -/
def Slice.requestRev (r : RequestMsg) (x : Slice) : Slice :=
  let d := x.pd
  let low := r.rev2 || d.pdcfg.maxrev = 1
  let sop : BitVec 2 := if d.pdstat.revSop = 0 then (if low then 1 else 2) else d.pdstat.revSop
  let down (v : BitVec 2) : BitVec 2 := if v ≠ 0 && sop = 1 then 1 else v
  { x with pd := { d with pdstat := { d.pdstat with
    revSop := sop, revSop1 := down d.pdstat.revSop1, revSop2 := down d.pdstat.revSop2
    unchkOn := d.pdcfg.unchk && r.unchunked && sop ≠ 1 } } }

/-- An accepted Request: the change is evaluated, `TARGET` holds V_new, and C is frozen at C_x (R146, R185). -/
def Slice.acceptRequest (vmax : Nat) (o : Offer) (r : RequestMsg) (x : Slice) : Slice :=
  let mv := askedMv o r
  let active := x.ps.festat.state = 2
  { x with
    off := { x.off with
      xstep := .evaluating, xheld := false, abortPend := false
      change := some { mv := mv, ma := r.ma, pos := r.pos, kind := o.kind, mismatch := r.mismatch, eprCap := r.eprCap
                       unchunked := r.unchunked }
      xstat := { x.off.xstat with state := 1, abortLate := false, target := BitVec.ofNat 12 (mv / 20) } }
    ps := { x.ps with feFrozen := active, feCx := if active then cxOf vmax x.ps.comp mv / 10 else 0 } }

/-- A Request or EPR_Request is answered (R145). -/
def request (p : Port) (r : RequestMsg) (s : State) : State :=
  let x := s.slice p
  if x.sw.swstat.prole || !sopActive x then s
  else if inTransition x || x.off.xstep = .evaluating then protocolError p .sop s
  else
    let s := onSlice p (fun x => (Slice.requestRev r x)) (onOff p (fun o => { o with rdo := r.rdo }) s)
    let x := s.slice p
    let v := judge x (buildOffer x s.sup.maxpdo) s.sup.hold r
    match v.offer with
    | some o => s |> onSlice p (Slice.acceptRequest (100 * s.sup.maxpdo.toNat) o r) |> replyWhy p .accept .acceptRequest
    | none =>
      let s := onOff p (fun o => { o with xstat := { o.xstat with result := v.result } }) s
      let s := reply p .sop (if v.result = 5 then .wait else .reject) [] s
      if v.readvert then advertise p s else s

/-- REQUEST (R145). -/
def execRequest (p : Port) (r : RequestMsg) (s : State) : Host.Outcome State Fault Refusal := .next (whenReleased (request p r) s)

/-! ## The steps of a change (Table 7.4) -/

/-- GoodCRC for the Accept: tSrcTransition runs, or is held by the hold line (R148). -/
def acceptAcked (p : Port) (s : State) : State :=
  if (s.slice p).off.xstep ≠ .evaluating then s else
  let s := onSlice p (fun x => { x with off := { x.off with
    xstep := .waitTransition, xstat := { x.off.xstat with state := 2 } } }.refresh) s
  if s.sup.hold then onOff p SliceOff.pause s else s

/-- A step of a change runs and is not held. -/
def atStep (x : Slice) (k : XStep) : Bool := x.off.xstep = k && !x.off.xheld

/-- What SRC_TRANSITION_EXPIRY does in a released slice. -/
def srcTransitionExpiry (p : Port) (s : State) : State :=
  let x := s.slice p
  if x.sw.step = .srcWait then prRamp p s
  else if !atStep x .waitTransition then s
  else
    match x.off.change with
    | none => s
    | some c =>
      let v := c.mv + 10 * x.ps.feCx
      let there := x.ps.vref = mvUnits v
      onSlice p (fun x => { x with
        ps := { x.ps with vset := v }
        off := { x.off with
          xstep := if there then .settling else .ramping
          xstat := { x.off.xstat with state := if there then 4 else 3 } } }) s

/-- SRC_TRANSITION_EXPIRY: the reference starts toward V_new + C_x; in a PR_Swap, VBUS starts to fall (R146, R192). -/
def execSrcTransitionExpiry (p : Port) (s : State) : Host.Outcome State Fault Refusal := .next (whenReleased (srcTransitionExpiry p) s)

/-- RAMP_DONE: the reference has reached V_new, and the settle time begins (R146). -/
def execRampDone (p : Port) (s : State) : Host.Outcome State Fault Refusal :=
  .next (whenReleased (fun s =>
    if atStep (s.slice p) .ramping then
      s |> onPs p SlicePs.arrive
        |> onOff p (fun o => { o with xstep := .settling, xstat := { o.xstat with state := 4 } })
    else s) s)

/-- SETTLE_DONE: PS_RDY is sent (R146). -/
def execSettleDone (p : Port) (s : State) : Host.Outcome State Fault Refusal :=
  .next (whenReleased (fun s =>
    if atStep (s.slice p) .settling then
      s |> onOff p (fun o => { o with xstep := .readySent, xstat := { o.xstat with state := 5 } })
        |> replyWhy p .psRdy .contractReady
    else s) s)

/-- The new contract takes the place of the old one (R149, R185, R214). -/
def Slice.commit (c : NewContract) (x : Slice) : Slice :=
  let within := c.mv * c.ma ≤ x.gr.eff * 100000
  { x with
    off := { x.off with
      contract := { volt := BitVec.ofNat 12 (c.mv / 20), curr := BitVec.ofNat 7 (c.ma / 50), pos := BitVec.ofNat 4 c.pos
                    kind := kindCode c.kind, epr := x.off.contract.epr, mismatch := c.mismatch }
      conMv := c.mv, conMa := c.ma, conEprCap := c.eprCap, xstep := .idle, xheld := false, change := none, abortPend := false
      xstat := { x.off.xstat with state := 0, result := 1, abortLate := x.off.abortPend }
      limit := if within then .none else x.off.limit, complCon := x.off.complRun && within }
    pd := { x.pd with pdstat := { x.pd.pdstat with pdConn := true }, hadContract := true, conSince := true }
    ps := { x.ps with
      feFrozen := false, feCx := 0
      festat := { x.ps.festat with comp := if x.ps.feFrozen then BitVec.ofNat 12 x.ps.feCx else x.ps.festat.comp }
      psstat := { x.ps.psstat with clmode := false, limwait := x.ps.psstat.limwait && !within } }
    sw := { x.sw with autoVc := true, swstat := { x.sw.swstat with frsOffer := false } } }

/-- What follows a commit: Exit of EPR mode, collected Alerts, swaps, offers that changed meanwhile, derates
(R144, R156, R157, R191, R295). -/
def afterCommit (p : Port) (s : State) : State :=
  let x := s.slice p
  let s := if x.off.eprLeaving && x.off.contract.epr && x.off.contract.pos.toNat < 8 then
      queueMsg p { ctx := .sop, kind := .eprMode, prio := .ams, why := .eprExit, words := [5] } s
    else s
  let s := onTh p (thGrantChange x.gr.eff x.ps.tlmI.pout.toNat (conPower x)) s
  s |> tryAlert p |> trySwaps p |> limitsChanged p

/-- GoodCRC for PS_RDY: the commit point (R149). -/
def commitContract (p : Port) (s : State) : State :=
  let x := s.slice p
  match x.off.change with
  | none => s
  | some c =>
    if x.off.xstep ≠ .readySent then s else
    s |> onSlice p (Slice.commit c) |> portEvent p 1 |> endAms p |> afterCommit p

/-- TRANSITION_TIMEOUT: PS_RDY has not begun by `XT_LIM`; time under the hold line does not count (R147). -/
def execTransitionTimeout (p : Port) (s : State) : Host.Outcome State Fault Refusal :=
  .next (whenReleased (fun s =>
    let x := s.slice p
    if !inTransition x || x.off.xheld || readyOnLine x then s else
    s |> onSlice p (fun x =>
          let x := x.endChange 0
          { x with off := { x.off with xstat := { x.off.xstat with result := 3 } } })
      |> portEvent p 7 |> sendHardReset p) s)

/-- ABORT_RAMP_BACK_DONE: the output has settled back, and a new offer goes out (R151). -/
def execAbortRampBackDone (p : Port) (s : State) : Host.Outcome State Fault Refusal :=
  .next (whenReleased (fun s =>
    if (s.slice p).off.xstep ≠ .rampingBack then s else
    s |> onSlice p (fun x => { x with
          off := { x.off with xstep := .idle, xheld := false, change := none, xstat := { x.off.xstat with state := 0 } }
          ps := { x.ps.arrive with feFrozen := false, feCx := 0 } })
      |> endAms p |> advertise p) s)

/-! ## Commands and advertisements (R144, R150) -/

/-- A write of `SLC_XCTL`: `ABORT`, then `READV`. -/
def writeXctl (p : Port) (w : Word) (s : State) : State :=
  let s := if getBit w 0 then abortChange p 1 s else s
  if getBit w 1 then advertise p s else s

/-- XCTL_ABORT (R150). -/
def execXctlAbort (p : Port) (s : State) : Host.Outcome State Fault Refusal := .next (whenReleased (writeXctl p 1) s)

/-- READV (R144). -/
def execReadv (p : Port) (s : State) : Host.Outcome State Fault Refusal := .next (whenReleased (writeXctl p 2) s)

/-- READV_HOLDOFF_EXPIRY: 2 s after the last advertisement, a changed offer may go out (R144). -/
def execReadvHoldoffExpiry (p : Port) (s : State) : Host.Outcome State Fault Refusal :=
  .next (whenReleased (fun s =>
    let s' := onOff p (fun o => { o with advertHold := false, advertLater := false }) s
    if (s.slice p).off.advertLater then limitsChanged p s' else s') s)

/-- GET_SOURCE_CAP: the present offer is the reply; it waits for the hold line (R144). -/
def execGetSourceCap (p : Port) (epr : Bool) (s : State) : Host.Outcome State Fault Refusal :=
  .next (whenReleased (fun s =>
    let x := s.slice p
    if !sopActive x || (epr && rev2 x .sop) then s
    else if s.sup.hold then onOff p (fun o => { o with advertDue := true }) s
    else
      let both := epr || x.off.contract.epr
      let offer := sprOffer x s.sup.maxpdo ++ (if both then eprOffer x s.sup.maxpdo else [])
      queueMsg p { ctx := .sop, kind := if both then .eprSourceCap else .sourceCap, prio := .reply, why := .advert
                   words := [offerFlags x s], offer := offer } s) s)

/-! ## Status answers (R152, R158) -/

/-- The temperature flag of R152: 1 while a kiln derate is pending, 2 while a limit of R159 is in force. -/
def tempFlag (x : Slice) : Word := if x.off.limit = .compliance then 2 else if x.gr.grant.kln then 1 else 0

/-- The fields of PPS_Status: output voltage in 20 mV, output current in 50 mA, the operating mode and the temperature
flag. -/
def ppsStatusWords (x : Slice) : List Word :=
  [BitVec.ofNat 32 (x.ps.tlmV.vbus.toNat / 2), BitVec.ofNat 32 (x.ps.tlmI.iout.toInt.natAbs / 50), putBit x.ps.psstat.clmode 0,
   tempFlag x]

/-- GET_PPS_STATUS (R152). -/
def execGetPpsStatus (p : Port) (s : State) : Host.Outcome State Fault Refusal :=
  .next (whenReleased (fun s => reply p .sop .ppsStatus (ppsStatusWords (s.slice p)) s) s)

/-- The fields of Status, in the order of R158: temperature, input, event flags (bit 0 OCP, bit 1 OTP), temperature status
and power status (bit 0 limited by source inputs, bit 1 limited by temperature). -/
def statusWords (p : Port) (s : State) : List Word :=
  let x := s.slice p
  [BitVec.ofInt 32 ((dieTemp s).tdiv 16), putBit (s.sup.active ≠ .none) 0,
   putBit x.off.ocpFlag 0 ||| putBit (x.gr.grant.kln || s.did.twarn) 1, tempFlag x + 1,
   putBit (x.gr.eff < x.gr.grantPwr) 0 ||| putBit x.gr.grant.kln 1]

/-- GET_STATUS (R158). -/
def execGetStatus (p : Port) (s : State) : Host.Outcome State Fault Refusal :=
  .next (whenReleased (fun s => reply p .sop .status (statusWords p s) s) s)

/-- GET_REVISION: Revision 3.2, version 1.1, on a context at Revision 3.x (R124). -/
def execGetRevision (p : Port) (s : State) : Host.Outcome State Fault Refusal :=
  .next (whenReleased (fun s => reply p .sop .revision [3, 2, 1, 1] s) s)

/-! ## EPR mode (R154 to R156) -/

/-- Why an entry fails, in the order of R154: 1 the flag, 2 VCONN, 3 the cable, 4 the offer; 0 when it does not. -/
def eprEntryReason (x : Slice) (maxpdo : BitVec 9) : Word :=
  let c := x.off.contract
  if !(c.kind ≠ 0 && c.pos.toNat < 8 && x.off.conEprCap) then 1
  else if !x.pd.pdstat.vcsrc then 2
  else if !(x.pd.cblStat.epr && x.pd.cblStat.ilim = 2) then 3
  else if (eprOffer x maxpdo).isEmpty then 4
  else 0

/-- EPR_MODE_ENTER (R154). R154 gives the reasons no codes (log entry 20). -/
def execEprModeEnter (p : Port) (s : State) : Host.Outcome State Fault Refusal :=
  .next (whenReleased (fun s =>
    let x := s.slice p
    if x.sw.swstat.prole || !sopActive x then s else
    let r := eprEntryReason x s.sup.maxpdo
    if r = 0 then queueMsg p { ctx := .sop, kind := .eprMode, prio := .reply, why := .eprAck, words := [2] } s
    else reply p .sop .eprMode [4, Config.eprReasonCode r] s) s)

/-- GoodCRC for Enter Acknowledged: Enter Succeeded follows (R154). -/
def eprAckAcked (p : Port) : State → State :=
  queueMsg p { ctx := .sop, kind := .eprMode, prio := .reply, why := .eprSucceeded, words := [3] }

/-- GoodCRC for Enter Succeeded: EPR mode, and EPR_Source_Capabilities as a new AMS (R154). -/
def eprEntered (p : Port) (s : State) : State :=
  s |> onOff p (fun o => { o with contract := { o.contract with epr := true } }) |> endAms p |> advertise p

/-- EPR mode has been left by an EPR_Mode Exit (R156). -/
def eprLeft (p : Port) (s : State) : State :=
  s |> onOff p (fun o => { o with contract := { o.contract with epr := false }, eprLeaving := false }) |> endAms p |> limitsChanged p

/-- EPR_MODE_EXIT: at or below 20 V the slice leaves EPR mode with the partner (R156). -/
def execEprModeExit (p : Port) (s : State) : Host.Outcome State Fault Refusal :=
  .next (whenReleased (fun s =>
    let x := s.slice p
    if x.sw.swstat.prole || !sopActive x then s
    else if x.off.conMv ≤ 20000 then eprLeft p s
    else sendHardReset p s) s)

/-- EPR_KEEPALIVE (R155). -/
def execEprKeepalive (p : Port) (s : State) : Host.Outcome State Fault Refusal :=
  .next (whenReleased (fun s => if (s.slice p).off.contract.epr then reply p .sop .eprKeepAliveAck [] s else s) s)

/-- EPR_KEEPALIVE_TIMEOUT (R155). -/
def execEprKeepaliveTimeout (p : Port) (s : State) : Host.Outcome State Fault Refusal :=
  .next (whenReleased (fun s =>
    let x := s.slice p
    if x.off.contract.epr && !x.sw.swstat.prole then sendHardReset p s else s) s)

/-- PPS_TIMEOUT (R152). -/
def execPpsTimeout (p : Port) (s : State) : Host.Outcome State Fault Refusal :=
  .next (whenReleased (fun s =>
    let x := s.slice p
    if x.off.contract.kind = 2 && !x.sw.swstat.prole && x.off.xstep = .idle then sendHardReset p s else s) s)

/-! ## Alerts and the grant (R157, R159, R232) -/

/-- ALERT_HOLDOFF_EXPIRY: the bits set meanwhile may go out (R157). -/
def execAlertHoldoffExpiry (p : Port) (s : State) : Host.Outcome State Fault Refusal :=
  .next (whenReleased (fun s =>
    s |> onOff p (fun o => { o with alertHold := false, alertBits := o.alertBits ||| o.alertLater, alertLater := 0 })
      |> tryAlert p) s)

/-- COMPLIANCE_EXPIRY: 5 s after the grant register fell, with a mean delivered power of `mean` (10 mW) in the last second,
a partner that has not reduced its draw is limited (R159). -/
def execComplianceExpiry (p : Port) (mean : Nat) (s : State) : Host.Outcome State Fault Refusal :=
  .next (whenReleased (fun s =>
    let x := s.slice p
    if !x.off.complRun then s else
    let reduced := (x.off.complCon && conPower x ≤ 10 * x.gr.eff) || mean ≤ 10 * x.gr.eff
    let s := onOff p (fun o => { o with
      complRun := false, complCon := false, limit := if reduced then o.limit else .compliance }) s
    if reduced then s else portEvent p 6 s) s)

/-- GRANT_WRITE: the Policy Core writes `SLC_GRANT` (R16, R232). -/
def execGrantWrite (p : Port) (w : Word) (s : State) : Host.Outcome State Fault Refusal :=
  .next (spreading (setGrant p (({} : SlcGrant).put w)) s)

end Sys2Proof.Machine
end

