-- ==== Sys2Proof/Machine/HostOps.lean ====
section
/-!
DEFINITION. The banks of the host bridges and the submission of a Warden mailbox request (R302, R314).
-/

namespace Sys2Proof.Machine

/-! ## Banks -/

/-- The CRC-8 of R306: polynomial 0x07, initial value 0, no reflection or final inversion. -/
def crc8 (bs : List Byte) : Byte := bs.foldl (crcByte (0x07 : Byte)) 0

/-- One domain's bank. -/
def Hst.bank (h : Hst) : Domain → HstBank
  | .a => h.a | .b => h.b | .s => h.s

/-- Change one domain's bank. -/
def onHst (d : Domain) (f : HstBank → HstBank) (s : State) : State :=
  { s with hst := match d with
    | .a => { s.hst with a := f s.hst.a }
    | .b => { s.hst with b := f s.hst.b }
    | .s => { s.hst with s := f s.hst.s } }

/-- A mailbox request of the domain is pending (`HST_STAT.MBPEND`). -/
def mbPending (d : Domain) (s : State) : Bool := (s.hst.bank d).mbstat.state == 1

/-- `HST_STAT` of a domain as a read returns it. -/
def hstStatWord (d : Domain) (s : State) : Word :=
  let b := s.hst.bank d
  ({ result := b.result, cause := b.cause, busy := false, mbpend := mbPending d s } : HstStat).toWord

/-! ## The Warden mailbox (R314, R315) -/

/-- A domain's rights field of `HST_CFG`. -/
def mbRights (d : Domain) (c : HstCfg) : BitVec 4 :=
  match d with | .a => c.rtA | .b => c.rtB | .s => c.rtS

/-- The right a command needs (Table 14.4): its bit, for a known command. -/
def mbRightBit (cmd : Byte) : Option Nat :=
  if cmd = 1 then some 0 else if cmd = 2 then some 1 else if cmd = 3 then some 2 else if cmd = 4 then some 3 else none

/-- The argument is one that Table 14.4 gives the command. -/
def mbArgOk (cmd : Byte) (arg : Word) : Bool :=
  if cmd = 1 then arg = 0 || arg = 1 else if cmd = 2 then arg = 0x2448 else if cmd = 3 then arg = 0 || arg = 1 else arg = 0

/-- The refusal cause of a request, 0 when the Warden Core takes it (R314). -/
def mbCause (d : Domain) (cmd : Byte) (arg : Word) (s : State) : BitVec 3 :=
  if !wardenRuns s then 3
  else match mbRightBit cmd with
    | none => 2
    | some i => if !(mbRights d s.hst.cfg).getLsbD i then 1 else if mbArgOk cmd arg then 0 else 4

/-- A write of `HST_MBCMD` with GO: submit what the domain's bank holds; GO while a request is pending has no effect. -/
def mailboxGo (d : Domain) (s : State) : State :=
  let b := s.hst.bank d
  if b.mbstat.state = 1 then s else
  let c := mbCause d b.mbcmd b.mbarg s
  onHst d (fun b => { b with mbstat := { state := if c = 0 then 1 else 3, cause := c } }) s

/-- A write of `HST_CTL`: the lock bit, and CNT_CLR for the writer's own bank. -/
def writeHstCtl (d : Domain) (w : Word) (s : State) : State :=
  let s := { s with hst := { s.hst with ctl := s.hst.ctl.put w } }
  if getBit w 8 then onHst d (fun b => { b with cnt := {} }) s else s

end Sys2Proof.Machine
end

