-- ==== Sys2Proof/Machine/Swap.lean ====
section
/-!
DEFINITION. Role swaps, Fast Role Swap and the tie port as Sink: the commands of chapter 9 (R187 to R208).
-/

namespace Sys2Proof.Machine

/-! ## Requests of the partner (Table 9.1, R187 to R190, R196) -/

/-- The slice's own swap request is on the line or unanswered (R196). -/
def swapOutstanding (x : Slice) : Bool :=
  let f (m : TxMsg) : Bool := match m.why with | .swapRequest _ => true | _ => false
  x.sw.outstanding.isSome && !x.pd.ready.any f && !x.pd.restart.any f

/-- As Sink, the slice gives up its own request for the partner's, with `LAST` 6 (R196). -/
def Slice.yieldSwap (x : Slice) : Slice :=
  match x.sw.outstanding with
  | none => x
  | some k =>
    { x with
      sw := { x.sw with
        outstanding := none, waits := 0, retry := none, mine := false, step := .idle
        swstat := { x.sw.swstat with swap := 0, last := 6, lastKind := swapCode k } }
      pd := { x.pd with waitReply := none, ownOpen := false } }

/-- Accept a swap of the partner's: it is in progress (R188). -/
def acceptSwap (p : Port) (k : SwapKind) (s : State) : State :=
  s |> onSw p (fun w => { w with step := .asked, mine := false, swstat := { w.swstat with swap := swapCode k } })
    |> replyWhy p .accept (.swapAccept k)

/-- Answer a swap request on a port with role 2: collisions first, then the port's own rule (R196). -/
def answerSwap (p : Port) (k : SwapKind) (ok : Slice → State → Bool) (waits : Bool) (s : State) : State :=
  let x := s.slice p
  if swapOutstanding x && !x.sw.swstat.prole then reply p .sop .wait [] s
  else
    let s := if swapOutstanding x then onSlice p Slice.yieldSwap s else s
    if waits && s.sup.hold then reply p .sop .wait [] s
    else if ok (s.slice p) s then acceptSwap p k s
    else reply p .sop .reject [] s

/-- The answer that a port without the message gives: Not_Supported, or Reject at Revision 2.0 (R124). -/
def unsupported (p : Port) (c : Ctx) (s : State) : State :=
  reply p c (if rev2 (s.slice p) c then .reject else .notSupported) [] s

/-- A PR_Swap is accepted (R189). -/
def prAcceptable (x : Slice) (s : State) : Bool :=
  if x.sw.swstat.prole then
    x.sw.swcfg.prAccSnk && 5 ≤ x.gr.eff && (s.sup.active = .main || s.sup.active = .backup) && !x.sw.swstat.aid
  else x.sw.swcfg.prAccSrc

/-- PR_SWAP (R189). -/
def execPrSwap (p : Port) (s : State) : Host.Outcome State Fault Refusal :=
  .next (whenReleased (fun s =>
    let x := s.slice p
    if !sopActive x then s
    else if 2 ≤ p.val then unsupported p .sop s
    else if x.att.attcfg.role ≠ 2 then reply p .sop .reject [] s
    else if x.off.changing || x.sw.snkWaitRdy then sendHardReset p s
    else answerSwap p .pr prAcceptable true s) s)

/-- An alternate mode is entered: Thatch, from Enter Mode acknowledged to its exit. -/
def modeEntered (x : Slice) : Bool := x.th.thstat.state = 3 || x.th.thstat.state = 4 || x.th.thstat.state = 5

/-- DR_SWAP (Table 9.1). -/
def execDrSwap (p : Port) (s : State) : Host.Outcome State Fault Refusal :=
  .next (whenReleased (fun s =>
    let x := s.slice p
    if !sopActive x then s
    else if 2 ≤ p.val || x.att.attcfg.role ≠ 2 then reply p .sop .reject [] s
    else answerSwap p .dr (fun x _ => x.sw.swcfg.drAcc && !modeEntered x) false s) s)

/-- A VCONN_Swap is accepted (R190). -/
def vconnAcceptable (x : Slice) (s : State) : Bool :=
  if x.pd.pdstat.vcsrc then x.sw.swstat.prole
  else (x.att.attcfg.vcls = 1 || x.att.attcfg.vcls = 2) && s.sup.vconnOk

/-- VCONN_SWAP (R190). -/
def execVconnSwap (p : Port) (s : State) : Host.Outcome State Fault Refusal :=
  .next (whenReleased (fun s =>
    let x := s.slice p
    if !sopActive x then s
    else if 2 ≤ p.val || x.att.attcfg.role ≠ 2 then reply p .sop .reject [] s
    else answerSwap p .vconn vconnAcceptable true s) s)

/-- FR_SWAP: only after the slice's own FRS signal (Table 9.1, R203). -/
def execFrSwap (p : Port) (s : State) : Host.Outcome State Fault Refusal :=
  .next (whenReleased (fun s =>
    let x := s.slice p
    if !sopActive x then s
    else if 2 ≤ p.val then unsupported p .sop s
    else if x.att.attcfg.role = 2 && x.sw.frsRecent && x.sw.step = .frsWaitFr then
      s |> onSw p (fun w => { w with step := .frsAccept }) |> replyWhy p .accept (.swapAccept .fr)
    else sendHardReset p s) s)

/-! ## Requests of the slice's own (R191, R197) -/

/-- A write of `SLC_SWCTL`: the lock and the requests, which a port without role 2 ignores (R191). -/
def writeSwctl (p : Port) (w : Word) (s : State) : State :=
  let s := onSw p (fun x => { x with swctl := { cfgLk := x.swctl.cfgLk || getBit w 0 } }) s
  if 2 ≤ p.val || (s.slice p).att.attcfg.role ≠ 2 then s else
  s |> onSw p (fun x => { x with
        wantPr := x.wantPr || getBit w 8, wantDr := x.wantDr || getBit w 9, wantVc := x.wantVc || getBit w 10 })
    |> trySwaps p

/-- REQ_PR (R191). -/
def execReqPr (p : Port) (s : State) : Host.Outcome State Fault Refusal := .next (whenReleased (writeSwctl p 0x100) s)

/-- REQ_DR (R191). -/
def execReqDr (p : Port) (s : State) : Host.Outcome State Fault Refusal := .next (whenReleased (writeSwctl p 0x200) s)

/-- REQ_VC (R191). -/
def execReqVc (p : Port) (s : State) : Host.Outcome State Fault Refusal := .next (whenReleased (writeSwctl p 0x400) s)

/-- The partner's answer to the slice's request (R196, R197, R203). -/
def swapAnswer (p : Port) (a : SwapReply) (s : State) : State :=
  let x := s.slice p
  match x.sw.outstanding with
  | none => protocolError p .sop s
  | some .fr => if a = .accept then onSw p (fun w => { w with outstanding := none }) s else sendHardReset p s
  | some k =>
    match a with
    | .accept => s |> onSw p (fun w => { w with outstanding := none, waits := 0, step := .asked }) |> swapAccepted p k
    | .reject => dropSwap p 2 k s
    | .notSupported => dropSwap p 4 k s
    | .wait =>
      if 2 ≤ x.sw.waits then dropSwap p 3 k s
      else onSlice p (fun x => { x with sw := { x.sw with
            outstanding := none, waits := x.sw.waits + 1, retry := some k, step := .idle
            swstat := { x.sw.swstat with swap := 0 } } }.endOwn) s

/-- SWAP_ANSWER (R197). -/
def execSwapAnswer (p : Port) (a : SwapReply) (s : State) : Host.Outcome State Fault Refusal :=
  .next (whenReleased (swapAnswer p a) s)

/-- What SWAP_RETRY_TIMER does in a released slice. -/
def swapRetryTimer (p : Port) (s : State) : State :=
  match (s.slice p).sw.retry with
  | none => s
  | some k =>
    s |> onSw p (fun w => { w with
          retry := none, wantPr := w.wantPr || k = .pr, wantDr := w.wantDr || k = .dr, wantVc := w.wantVc || k = .vconn })
      |> trySwaps p

/-- SWAP_RETRY_TIMER: 100 ms after a Wait the request is sent again (R197). -/
def execSwapRetryTimer (p : Port) (s : State) : Host.Outcome State Fault Refusal := .next (whenReleased (swapRetryTimer p) s)

/-! ## PS_RDY and completion (Tables 9.3 to 9.5 and 9.7) -/

/-- The slice has become Source by a swap; its first Source_Capabilities follows tSwapSourceStart. -/
def becomeSource (p : Port) (s : State) : State :=
  swapDone p (fun x => { x.newRole false with sw := { (x.newRole false).sw with startDue := true } }) s

/-- The slice has become Sink by a swap. -/
def becomeSink (p : Port) (s : State) : State := swapDone p (Slice.newRole true) s

/-- The partner's PS_RDY during a swap; in any other step it is a protocol error (R129). -/
def swapPsRdy (p : Port) (s : State) : State :=
  match (s.slice p).sw.step with
  | .srcReady => becomeSink p s
  | .frsOldReady => becomeSink p s
  | .snkWait => prGate p (onSw p (fun w => { w with step := .snkVbus }) s)
  | .vcGive =>
    swapDone p (fun x => { x.vconnOpen with pd := { x.vconnOpen.pd with pdstat := { x.vconnOpen.pd.pdstat with vcsrc := false } } }) s
  | .frsNew => frsFinish p (onSw p (fun w => { w with step := .frsGotReady }) s)
  | _ => protocolError p .sop s

/-- SWAP_PS_RDY (R192 to R194, R203). -/
def execSwapPsRdy (p : Port) (s : State) : Host.Outcome State Fault Refusal := .next (whenReleased (swapPsRdy p) s)

/-- The slice's PS_RDY of a swap is acknowledged: the swap is complete where the slice is the new Source or the new VCONN
source (Table 9.2). -/
def swapReadyAcked (p : Port) (k : SwapKind) (s : State) : State :=
  let x := s.slice p
  match k with
  | .pr => if x.sw.step = .snkReady then becomeSource p s else s
  | .fr => if x.sw.step = .frsNewReady then becomeSource p s else s
  | .vconn =>
    if x.sw.step ≠ .vcTake then s else
    let s := swapDone p (fun x => { x with pd := { x.pd with pdstat := { x.pd.pdstat with vcsrc := true } } }) s
    if x.pd.cblStat.kind = 0 then discoverStart p s else limitsChanged p s
  | .dr => s

/-- SWAP_SOURCE_START: the new Source's first Source_Capabilities (Tables 9.4 and 9.7). -/
def execSwapSourceStart (p : Port) (s : State) : Host.Outcome State Fault Refusal :=
  .next (whenReleased (fun s =>
    if (s.slice p).sw.startDue then advertise p (onSw p (fun w => { w with startDue := false }) s) else s) s)

/-! ## Timeouts (R192 to R194, R199, R203) -/

/-- PS_SOURCE_ON_TIMEOUT (R192). -/
def execPsSourceOnTimeout (p : Port) (s : State) : Host.Outcome State Fault Refusal :=
  .next (whenReleased (fun s => if (s.slice p).sw.step = .srcReady then errorRecovery p s else s) s)

/-- PS_SOURCE_OFF_TIMEOUT (R193). -/
def execPsSourceOffTimeout (p : Port) (s : State) : Host.Outcome State Fault Refusal :=
  .next (whenReleased (fun s => if (s.slice p).sw.step = .snkWait then errorRecovery p s else s) s)

/-- SWAP_VBUS_TIMEOUT (R193). -/
def execSwapVbusTimeout (p : Port) (s : State) : Host.Outcome State Fault Refusal :=
  .next (whenReleased (fun s =>
    let x := s.slice p
    if x.sw.step = .snkVbus && !x.att.attstat.vbusSafe0 then sendHardReset p s else s) s)

/-- VCONN_SOURCE_TIMEOUT (R194). -/
def execVconnSourceTimeout (p : Port) (s : State) : Host.Outcome State Fault Refusal :=
  .next (whenReleased (fun s => if (s.slice p).sw.step = .vcGive then sendHardReset p s else s) s)

/-- SINK_VBUS_WAIT_TIMEOUT (R199). -/
def execSinkVbusWaitTimeout (p : Port) (s : State) : Host.Outcome State Fault Refusal :=
  .next (whenReleased (fun s =>
    let x := s.slice p
    if x.sw.swstat.prole && x.pd.hrPhase ≠ .idle && !x.att.attstat.vbusPres then errorRecovery p s else s) s)

/-! ## Fast Role Swap (R200 to R203) -/

/-- FRS_SIGNAL_END: the old Source releases CC, presents Rd and opens ISOGn (Table 9.7, step 3). -/
def execFrsSignalEnd (p : Port) (s : State) : Host.Outcome State Fault Refusal :=
  .next (whenReleased (fun s =>
    if (s.slice p).sw.step ≠ .frsSignal then s else
    onSlice p (fun x =>
      let x := { x with sw := { x.sw with step := .frsWaitFr } }.powerOff
      { x with pins := { x.pins with term := .rd } }.refresh) s) s)

/-- FRS_DETECT: an armed slice takes over; another swap or a contract change ends without a Hard Reset (R202, R203). -/
def execFrsDetect (p : Port) (s : State) : Host.Outcome State Fault Refusal :=
  .next (whenReleased (fun s =>
    if !(s.slice p).sw.swstat.frsArmed then s else
    let s := onSlice p (fun x =>
      let x := (x.endSwap 7).openSnkg
      { x with
        sw := { x.sw with
          step := .frsNew, snkWaitRdy := false, outstanding := some .fr, frsClosed := false, mine := true
          swstat := { x.sw.swstat with swap := 2, frsDet := true, frsArmed := false } }
        pd := { x.pd with ownOpen := false, waitReply := none } }) s
    let s := portEvent p 2 s
    let s := queueMsg p { ctx := .sop, kind := .frSwap, prio := .ams, why := .swapRequest .fr, cont := true } s
    if (s.slice p).att.vbusMv < 4750 then frsClose p s else s) s)

/-- FRS_SWAP_TIMEOUT: 20 ms after the start of its signal the old Source has no FR_Swap (R203). -/
def execFrsSwapTimeout (p : Port) (s : State) : Host.Outcome State Fault Refusal :=
  .next (whenReleased (fun s =>
    let s := onSw p (fun w => { w with frsRecent := false }) s
    let st := (s.slice p).sw.step
    if st = .frsSignal || st = .frsWaitFr then errorRecovery p s else s) s)

/-! ## The tie port as Sink (R204, R205, R208) -/

/-- AID_PORT_TIMEOUT: port 1 becomes the aid port too (R205). -/
def execAidPortTimeout (s : State) : Host.Outcome State Fault Refusal :=
  .next (
    if s.sup.active ≠ .none || (s.slice 0).sw.swstat.aid then s else
    onSup (fun u => { u with aidSecond := true }) s |> sinkRequest 0 false |> sinkRequest 1 false)

/-- EPR_WAIT_TIMER: 500 ms after the first Source_Capabilities (R204). -/
def execEprWaitTimer (p : Port) (s : State) : Host.Outcome State Fault Refusal :=
  .next (whenReleased (fun s =>
    let w := (s.slice p).sw
    if w.offered.isNone || w.eprPossible then s
    else sinkRequest p false (onSw p (fun w => { w with eprPossible := true }) s)) s)

/-- A Source_Capabilities received as Sink: the revision, unchunked messages, and the Request (R123, R126, R204). -/
def sourceCapabilities (p : Port) (c : SourceCaps) (s : State) : State :=
  let x := s.slice p
  if x.att.attstat.state ≠ 6 || !sopActive x then s else
  let low := c.rev2 || x.pd.pdcfg.maxrev = 1
  let s := onSlice p (fun x =>
    let sop : BitVec 2 := if x.pd.pdstat.revSop = 0 then (if low then 1 else 2) else x.pd.pdstat.revSop
    { x with
      pd := { x.pd with pdstat := { x.pd.pdstat with revSop := sop, unchkOn := x.pd.pdcfg.unchk && c.unchunked && sop ≠ 1 } }
      sw := { x.sw with offered := some c } }) s
  sinkRequest p true s

/-- SOURCE_CAPABILITIES (R204). -/
def execSourceCapabilities (p : Port) (c : SourceCaps) (s : State) : Host.Outcome State Fault Refusal :=
  .next (whenReleased (sourceCapabilities p c) s)

/-- The objects of the answer to Get_Sink_Cap or EPR_Get_Sink_Cap, in mV and mA (R208). -/
def sinkObjects (p : Port) (epr : Bool) (x : Slice) : List (Nat × Nat) :=
  let aid (mv : Nat) : Nat × Nat := (mv, min 5000 (aidPower x * 1000000 / mv))
  (5000, pilotMa x)
    :: (if isTie x p then aid 20000 :: (if epr then [aid 28000, aid 36000, aid 48000] else []) else [])

/-- GET_SINK_CAP: on a dual-role port the sink objects, with Dual-Role Power and `FRS_REQ` on a tie port; the partner has
then read that current (R201, R208). -/
def execGetSinkCap (p : Port) (epr : Bool) (s : State) : Host.Outcome State Fault Refusal :=
  .next (whenReleased (fun s =>
    let x := s.slice p
    if !sopActive x || (epr && rev2 x .sop) then s
    else if 2 ≤ p.val || x.att.attcfg.role ≠ 2 then unsupported p .sop s
    else
      let flags := if isTie x p then putBit true 0 ||| putField x.sw.swcfg.frsReq 1 else 0
      let words := flags :: (sinkObjects p epr x).flatMap (fun o => [BitVec.ofNat 32 o.1, BitVec.ofNat 32 o.2])
      s |> onSw p (fun w => { w with swstat := { w.swstat with
            frsOffer := w.swstat.frsOffer || (isTie x p && w.swcfg.frsReq ≠ 0) } })
        |> reply p .sop (if epr then .eprSinkCap else .sinkCap) words) s)

/-- The PS_RDY of a sink contract: it is committed; the first one is followed by Get_Sink_Cap, and the aid port enters or
leaves EPR mode (R200, R204, R207). -/
def sinkCommit (p : Port) (s : State) : State :=
  let x := s.slice p
  match x.sw.snkReq with
  | none => s
  | some o =>
    let first := !x.pd.conSince
    let aid := wantsAid p s && 20000 ≤ o.mv
    let s := onSlice p (fun x => { x with
      off := { x.off with
        contract := { volt := BitVec.ofNat 12 (o.mv / 20), curr := BitVec.ofNat 7 (o.ma / 50), pos := BitVec.ofNat 4 o.pos, kind := 1
                      epr := x.sw.snkEpr } }
      pd := { x.pd with pdstat := { x.pd.pdstat with pdConn := true }, hadContract := true, conSince := true }
      sw := { x.sw with snkMv := o.mv, snkMa := o.ma, snkWaitRdy := false, swstat := { x.sw.swstat with aid := aid } } }) s
    let s := endAms p s
    let s := if first && isTie x p then startAms p .sop .getSinkCap [] s else s
    let capable := match x.sw.offered with | some c => c.eprCap | none => false
    let s :=
      if wantsAid p s && capable && !rev2 x .sop && !x.sw.snkEpr && !x.sw.eprFailed && !x.sw.snkEntering then
        startAms p .sop .eprMode [1] (onSw p (fun w => { w with snkEntering := true }) s)
      else if x.sw.snkEpr && !wantsAid p s && o.mv = 5000 then
        queueMsg p { ctx := .sop, kind := .eprMode, prio := .ams, why := .eprExit, words := [5] } s
      else s
    s |> frsCheck p |> trySwaps p

end Sys2Proof.Machine
end

