-- ==== Sys2Proof/Machine/Message.lean ====
section
/-!
DEFINITION. The message engine: receiving and acknowledging frames, timeouts, resets, cable discovery, and the messages that
the slice answers by itself (R116 to R133, R448).
-/

namespace Sys2Proof.Machine

/-! ## Table 6.7 and the receive queue (R133 to R135) -/

/-- A port that is open (R18). -/
def portOpen (p : Port) (x : Slice) : Bool := p.val < 4 && x.pd.pdcfg.openF

/-- The rows of Table 6.7 on a port: none where the message is not in it, otherwise whether the Host column marks it. -/
def unsupportedRow (p : Port) (x : Slice) (k : MsgKind) : Option Bool :=
  match k with
  | .getSinkCap | .getSinkCapExt | .eprGetSinkCap => if p.val < 2 && x.att.attcfg.role = 2 then none else some false
  | .prSwap | .frSwap => if 2 ≤ p.val then some false else none
  | .getBatteryCap | .getBatteryStatus | .getManufacturerInfo | .getCountryCodes | .getCountryInfo | .securityRequest
  | .vendorDefinedExt | .unstructuredVdm => some true
  | .firmwareUpdateRequest | .enterUsb | .dataReset | .reserved => some false
  | .vdm svid _ .req => if svid = pdSid || svid = thatchSvid then none else some true
  | _ => none

/-- The answer of Table 6.7: NAK for a Structured VDM, nothing for an Unstructured VDM at Revision 2.0 (R124), and otherwise
Not_Supported or Reject. -/
def answerUnsupported (p : Port) (c : Ctx) (k : MsgKind) (s : State) : State :=
  match k with
  | .vdm svid cmd _ => reply p c (.vdm svid cmd .nak) [] s
  | .unstructuredVdm => if rev2 (s.slice p) c then onSlice p Slice.endPartner s else unsupported p c s
  | _ => unsupported p c s

/-- Put a message into the receive queue; a full queue sets `OVR` (R134). The flag says that it was stored. -/
def mbPush (p : Port) (f : Frame) (isCopy : Bool) (phase : BitVec 16) (s : State) : State × Bool :=
  let m := (s.slice p).mb
  if 4 ≤ m.rxq.length then (onMb p (fun m => { m with ovr := true }) s, false)
  else
    let e : RxEntry := { ctx := f.ctx, isCopy := isCopy, len := f.len, words := f.words, phase := phase, cnLo := s.cyc.cn.setWidth 16 }
    (portEvent p 5 (onMb p (fun m => { m with rxq := m.rxq ++ [e] }) s), true)

/-- What UNSUPPORTED_MESSAGE does in a released slice. -/
def unsupportedMessage (p : Port) (c : Ctx) (phase : BitVec 16) (s : State) : State :=
  let x := s.slice p
  match x.pd.rxBuf.get c with
  | none => s
  | some f =>
    let s := onPd p (fun d => { d with rxBuf := d.rxBuf.upd c (fun _ => none) }) s
    match unsupportedRow p x f.kind with
    | none => s
    | some host =>
      if host && portOpen p x && x.pd.pdcfg.hostrx then
        let (s', stored) := mbPush p f false phase s
        if stored then onMb p (fun m => { m with hostOwes := some f }) s' else answerUnsupported p c f.kind s'
      else answerUnsupported p c f.kind s

/-- UNSUPPORTED_MESSAGE: the message in the receive buffer is answered, or goes to the host of an open port (R133 to R135). -/
def execUnsupportedMessage (p : Port) (c : Ctx) (phase : BitVec 16) (s : State) : Host.Outcome State Fault Refusal := .next (whenReleased (unsupportedMessage p c phase) s)

/-- What HOST_REPLY_TIMEOUT does in a released slice. -/
def hostReplyTimeout (p : Port) (s : State) : State :=
  let m := (s.slice p).mb
  match m.hostOwes with
  | none => s
  | some f =>
    if m.mbtxStat.state = 2 then s else
    s |> onSlice p (fun x => { x with
          mb := { x.mb with hostOwes := none, late := true }
          pd := { x.pd with ready := x.pd.ready.map (fun t => if t.prio == TxPrio.mailbox then { t with cont := false } else t) } })
      |> answerUnsupported p f.ctx f.kind |> portEvent p 5

/-- HOST_REPLY_TIMEOUT: the host has not answered within 10 ms (R135). -/
def execHostReplyTimeout (p : Port) (s : State) : Host.Outcome State Fault Refusal := .next (whenReleased (hostReplyTimeout p) s)

/-! ## Receiving (R117, R120 to R126, R129, R134) -/

/-- A received revision that is lower than the context's lowers it (R123). -/
def lowerRev (c : Ctx) (low : Bool) (d : SlicePd) : SlicePd :=
  if !low then d else
  let t := d.pdstat
  { d with pdstat := match c with
    | .sop => if t.revSop = 2 then { t with revSop := 1 } else t
    | .sop1 => if t.revSop1 = 2 then { t with revSop1 := 1 } else t
    | .sop2 => if t.revSop2 = 2 then { t with revSop2 := 1 } else t }

/-- A valid message of the partner's own discards the frames that would start an AMS (R117): the slice's start again later,
the mailbox's ends in state 6 with cause 10 (R138). -/
def Slice.preempt (x : Slice) : Slice :=
  let starts := x.pd.ready.filter TxMsg.starts
  let own := starts.filter (fun m => m.prio != TxPrio.mailbox)
  let mail := starts.any (fun m => m.prio == TxPrio.mailbox)
  { x with
    pd := { x.pd with ready := x.pd.ready.filter (fun m => !m.starts), restart := x.pd.restart ++ own }
    mb := if mail then x.mb.discard 10 else x.mb }

/-- The message answers the message whose reply is awaited: the AMS ends, or goes on. -/
def Slice.answered (m : TxMsg) (x : Slice) : Slice :=
  { x with pd := { x.pd with waitReply := none, ownOpen := x.pd.ownOpen && amsGoesOn m.kind } }

/-- Accept, Reject and Wait are unexpected unless an answer is awaited, and PS_RDY unless a step awaits it (R129). -/
def unexpected (x : Slice) (awaited : Option TxMsg) (k : MsgKind) : Bool :=
  match k with
  | .accept | .reject | .wait => awaited.isNone
  | .psRdy =>
    !x.sw.snkWaitRdy
      && !(x.sw.step = .srcReady || x.sw.step = .frsOldReady || x.sw.step = .snkWait || x.sw.step = .vcGive || x.sw.step = .frsNew)
  | _ => false

/-- The Policy Engine's part for messages that have no command of their own: answers to what the slice has sent. -/
def engineAnswer (p : Port) (awaited : Option TxMsg) (f : Frame) (s : State) : State :=
  let x := s.slice p
  match f.kind with
  | .accept =>
    match awaited with
    | some m =>
      if m.kind = .request || m.kind = .eprRequest then onSw p (fun w => { w with snkWaitRdy := true }) s
      else if m.why = .reload then advertise p s else s
    | none => s
  | .psRdy => if x.sw.snkWaitRdy then sinkCommit p s else s
  | .eprMode =>
    if !x.sw.swstat.prole then s
    else if f.arg = 3 then onSw p (fun w => { w with snkEpr := true, snkEntering := false }) s
    else if f.arg = 4 then sinkRequest p false (onSw p (fun w => { w with snkEntering := false, eprFailed := true }) s)
    else if f.arg = 5 then
      s |> onSw p (fun w => { w with snkEpr := false }) |> onOff p (fun o => { o with contract := { o.contract with epr := false } })
    else s
  | .sinkCap => frsCheck p (onSw p (fun w => { w with swstat := { w.swstat with partFrs := getField f.arg 0 2 } }) s)
  | .vdm _ .discoverIdentity ty =>
    if f.ctx ≠ .sop then s
    else match ty with
      | .ack => thIdentityAnswer p (some (getField f.arg 0 16, getField f.arg 16 16)) s
      | .req => s
      | _ => thIdentityAnswer p none s
  | .vdm _ .discoverSvids .nak => thSvidsAnswer p [] s
  | .vdm _ .discoverModes .nak => thModesAnswer p [] s
  | .vdm _ .exitMode .ack => onTh p (fun t => { t with step := if t.step = .exiting then .idle else t.step }) s
  | _ => s

/-- The accepted message is handed on: to the host whose message it answers, or to the Policy Engine, with a copy where
`COPY` asks for one (R121, R134). -/
def handOn (p : Port) (f : Frame) (awaited : Option TxMsg) (phase : BitVec 16) (s : State) : State :=
  let x := s.slice p
  if x.mb.hostAms = some f.ctx then
    pump p (mbPush p f false phase (onMb p (fun m => { m with hostAms := none }) s)).1
  else
    let s := if x.mb.copyOn && portOpen p x && f.ctx = .sop && !(x.pd.pdcfg.hostrx && unsupportedRow p x f.kind = some true) then
        (mbPush p f true phase s).1 else s
    engineAnswer p awaited f s

/-- A chunk of an extended message, or the partner's request for the next chunk (R126). -/
def chunkReceived (p : Port) (c : Ctx) (s : State) : State :=
  match (s.slice p).pd.chunkTx with
  | some m => onPd p (fun d => { d with chunkTx := none, inflight := some m, retries := 0 }) s
  | none => reply p c .fragment [] (onPd p (fun d => { d with chunkRx := true }) s)

/-- A valid frame on an active context, not a duplicate: it is taken (R120 to R126, R129). -/
def takeFrame (p : Port) (f : Frame) (phase : BitVec 16) (s : State) : State :=
  let s := onPd p (fun d =>
    let d := lowerRev f.ctx f.rev2 d
    { d with rxId := d.rxId.upd f.ctx (fun _ => some f.msgId), rxBuf := d.rxBuf.upd f.ctx (fun _ => some f), hrSent := 0 }) s
  let x := s.slice p
  let awaited := match x.pd.waitReply with
    | some m => if m.ctx = f.ctx then some m else none
    | none => none
  if f.kind = .fragment then chunkReceived p f.ctx s
  else if f.ctx = .sop && !f.rolesOk then protocolError p .sop s
  else if f.extended && f.unchunked && !(f.ctx = .sop && x.pd.pdstat.unchkOn) then unsupported p f.ctx s
  else if rev2 x f.ctx && (f.extended || rev3Only f.kind) then reply p f.ctx .reject [] s
  else
    let s := onPd p (fun d => { d with chunkRx := false }) s
    let s := match awaited with
      | some m => onSlice p (Slice.answered m) s
      | none =>
        if x.mb.hostAms = some f.ctx then s
        else onSlice p (fun x => { x.preempt with pd := { x.preempt.pd with partnerAms := x.pd.partnerAms || expectsReply f.kind } }) s
    if unexpected x awaited f.kind && x.mb.hostAms ≠ some f.ctx then protocolError p f.ctx s
    else
      let s := handOn p f awaited phase s
      let s := onSlice p (fun x => if x.pd.partnerAms then x.pump else x.endPartner) s
      trySwaps p s

/-- A frame as the protocol hardware takes it: CRC, activity, GoodCRC, duplicates (R116, R118, R120, R121). -/
def receiveFrame (p : Port) (f : Frame) (phase : BitVec 16) (s : State) : State :=
  let x := s.slice p
  if !f.crcOk then onPd p (fun d => { d with pdcnt := { d.pdcnt with crcerr := satInc d.pdcnt.crcerr } }) s
  else if !ctxActive x f.ctx then s
  else
    let s := onPd p (fun d => { d with goodCrc := some (f.ctx, f.msgId) }) s
    if x.pd.rxId.get f.ctx = some f.msgId && f.kind ≠ .softReset then s else takeFrame p f phase s

/-- PD_MESSAGE_RECEIVED (R121). -/
def execPdMessageReceived (p : Port) (f : Frame) (phase : BitVec 16) (s : State) : Host.Outcome State Fault Refusal :=
  .next (whenReleased (receiveFrame p f phase) s)

/-! ## GoodCRC (R120, R137, R138, R149) -/

/-- A mailbox message is acknowledged: state 3, the event, and the partner's first message is awaited (R137). An offer of
the host's counts as the slice's own advertisement (R136). -/
def mailboxAcked (p : Port) (m : TxMsg) (s : State) : State :=
  let s := portEvent p 5 (onMb p (fun b => { b with mbtxStat := { b.mbtxStat with state := 3 } }) s)
  if m.cont then onSlice p (fun x => { x with mb := { x.mb with hostOwes := none } }.endPartner) s
  else if m.offer.isEmpty then onMb p (fun b => { b with hostAms := some m.ctx }) s
  else s |> onOff p (fun o => { o with lastOffer := m.offer, lastOfferEpr := m.kind = .eprSourceCap, advertHold := true })
         |> onPd p (fun d => { d with waitReply := some m, ownOpen := true })

/-- What the GoodCRC for the slice's own message brings about. -/
def ownAcked (p : Port) (m : TxMsg) (s : State) : State :=
  let awaits := expectsReply m.kind && !(m.kind = .eprMode && m.prio = .reply)
  let s :=
    if awaits then
      onPd p (fun d => { d with waitReply := some m, ownOpen := d.ownOpen || m.prio = .ams }) s
    else s
  match m.why with
  | .plain =>
    if awaits then s
    else if m.prio = .reply then onSlice p Slice.endPartner s else onSlice p Slice.endOwn s
  | .acceptRequest => acceptAcked p s
  | .contractReady => commitContract p s
  | .advert =>
    s |> onOff p (fun o => { o with lastOffer := m.offer, lastOfferEpr := m.kind = .eprSourceCap, advertHold := true })
      |> onPd p (fun d => { d with capsTries := 0 })
  | .swapRequest k => onSw p (fun w => { w with swstat := { w.swstat with swap := swapCode k } }) s
  | .swapAccept k => swapAccepted p k s
  | .swapReady k => swapReadyAcked p k s
  | .eprAck => eprAckAcked p s
  | .eprSucceeded => eprEntered p s
  | .eprExit =>
    if (s.slice p).sw.swstat.prole then
      s |> onSw p (fun w => { w with snkEpr := false }) |> onOff p (fun o => { o with contract := { o.contract with epr := false } })
        |> onSlice p Slice.endOwn
    else eprLeft p s
  | .mailbox => s
  | .reload => s
  | .alertMsg => s |> onOff p (fun o => { o with alertBits := 0, alertHold := true }) |> onSlice p Slice.endOwn

/-- GoodCRC for the frame on the line; with `more`, further chunks of the message follow (R120, R126). -/
def goodCrcReceived (p : Port) (more : Bool) (s : State) : State :=
  match (s.slice p).pd.inflight with
  | none => s
  | some m =>
    let s := onPd p (fun d => { d with txId := d.txId.upd m.ctx (· + 1), inflight := none, retries := 0 }) s
    if more then onPd p (fun d => { d with chunkTx := some m }) s else
    let s := if m.prio = .mailbox then mailboxAcked p m s else ownAcked p m s
    trySwaps p (pump p s)

/-- GOODCRC_RECEIVED (R120). -/
def execGoodcrcReceived (p : Port) (more : Bool) (s : State) : Host.Outcome State Fault Refusal :=
  .next (whenReleased (goodCrcReceived p more) s)

/-! ## Failures and timers (R122, R126, R129, R130) -/

/-- nRetryCount of a context (R124). -/
def nRetryCount (x : Slice) (c : Ctx) : Nat := if rev2 x c then 3 else 2

/-- A transmission has failed (Table 6.4, R122). -/
def txFailed (p : Port) (m : TxMsg) (s : State) : State :=
  let s := onPd p (fun d => { d with
    inflight := none, retries := 0, chunkTx := none, pdcnt := { d.pdcnt with txfail := satInc d.pdcnt.txfail } }) s
  let x := s.slice p
  if m.prio = .mailbox then pump p (onMb p (fun b => { b with mbtxStat := { b.mbtxStat with state := 4 } }) s)
  else if m.isAdvert && !x.pd.conSince then
    let n := x.pd.capsTries + 1
    let s := onPd p (fun d => { d with capsTries := n }) s
    if nCapsCount ≤ n then pdSilence p s else pump p s
  else
    match m.ctx with
    | .sop =>
      if powerTransition x || m.kind = .softReset || m.why = .swapRequest .fr then sendHardReset p s
      else s |> onSlice p (Slice.endSwap 7) |> sendSoftReset p .sop
    | _ => if m.kind = .softReset then sendCableReset p s else sendSoftReset p .sop1 s

/-- What CRC_RECEIVE_TIMEOUT does in a released slice. -/
def crcReceiveTimeout (p : Port) (s : State) : State :=
  let x := s.slice p
  match x.pd.inflight with
  | none => s
  | some m =>
    if x.pd.retries < nRetryCount x m.ctx then onPd p (fun d => { d with retries := d.retries + 1 }) s
    else txFailed p m s

/-- CRC_RECEIVE_TIMEOUT: the frame is sent again, or its transmission has failed (R122). -/
def execCrcReceiveTimeout (p : Port) (s : State) : Host.Outcome State Fault Refusal := .next (whenReleased (crcReceiveTimeout p) s)

/-- A reply that the slice awaits has not come, or the partner's AMS or a host's has ended (R117, R129, R137, R156). -/
def senderResponseTimeout (p : Port) (s : State) : State :=
  let x := s.slice p
  match x.pd.waitReply with
  | some m =>
    let s := onPd p (fun d => { d with waitReply := none }) s
    match m.kind with
    | .vdm _ _ _ => onPd p (fun d => { d with waitReply := some m }) s
    | .softReset => if m.ctx = .sop then sendHardReset p s else sendCableReset p s
    | .frSwap => sendHardReset p s
    | _ =>
      if x.off.eprLeaving && (m.kind = .sourceCap || m.kind = .eprSourceCap) then sendHardReset p s
      else if powerTransition x then protocolError p m.ctx s
      else s |> onSlice p (Slice.endSwap 7) |> protocolError p m.ctx
  | none =>
    if x.mb.hostAms.isSome then trySwaps p (pump p (onMb p (fun m => { m with hostAms := none }) s))
    else trySwaps p (onSlice p Slice.endPartner s)

/-- SENDER_RESPONSE_TIMEOUT (R129). -/
def execSenderResponseTimeout (p : Port) (s : State) : Host.Outcome State Fault Refusal :=
  .next (whenReleased (senderResponseTimeout p) s)

/-- NO_RESPONSE_TIMEOUT: tNoResponse has passed since a Hard Reset of the slice's (R130). -/
def execNoResponseTimeout (p : Port) (s : State) : Host.Outcome State Fault Refusal :=
  .next (whenReleased (fun s => if (s.slice p).pd.hrSent = 0 then s else sendHardReset p s) s)

/-- SOURCE_CAP_TIMER: before the first contract Source_Capabilities goes out again (Table 6.4, R145). -/
def execSourceCapTimer (p : Port) (s : State) : Host.Outcome State Fault Refusal :=
  .next (whenReleased (fun s =>
    let x := s.slice p
    if x.pd.capsSent && !x.pd.conSince && x.pd.waitReply.isNone && x.pd.inflight.isNone && x.off.xstep = .idle && !advertWaiting x then
      advertise p s
    else s) s)

/-- What CHUNK_TIMEOUT does in a released slice. -/
def chunkTimeout (p : Port) (t : ChunkTimer) (s : State) : State :=
  let x := s.slice p
  let drop (s : State) : State :=
    if x.pd.chunkRx then onPd p (fun d => { d with chunkRx := false, rxBuf := { d.rxBuf with sop := none } }) s else s
  match t with
  | .senderRequest | .receiverRequest =>
    match x.pd.chunkTx with
    | some m => txFailed p m s
    | none => drop s
  | .senderResponse | .receiverResponse => drop s
  | .notSupported => if x.pd.chunkRx then unsupported p .sop (drop s) else s

/-- CHUNK_TIMEOUT: a chunked message being sent has failed; one being received is discarded, after the last timer with
Not_Supported (R126). -/
def execChunkTimeout (p : Port) (t : ChunkTimer) (s : State) : Host.Outcome State Fault Refusal := .next (whenReleased (chunkTimeout p t) s)

/-- SINKTX_EXPIRY: Rp has been at SinkTxNG for tSinkTx (R125). -/
def execSinktxExpiry (p : Port) (s : State) : Host.Outcome State Fault Refusal :=
  .next (whenReleased (fun s =>
    if (s.slice p).pd.pdstat.rpCa = 2 then trySwaps p (pump p (onPd p (fun d => { d with ngHeld := true }) s)) else s) s)

/-! ## Resets (R119, R131, R198, R448) -/

/-- SOFT_RESET: the context is reset before the Accept is sent (Table 6.3). -/
def execSoftReset (p : Port) (c : Ctx) (s : State) : Host.Outcome State Fault Refusal :=
  .next (whenReleased (fun s =>
    if !ctxActive (s.slice p) c then s else
    s |> onSlice p (Slice.resetCtx c 12) |> reply p c .accept []) s)

/-- The port acts on a received Hard Reset (R224, R448). -/
def takesHardReset (x : Slice) : Bool :=
  (x.att.attstat.state = 3 || x.att.attstat.state = 6) && !x.att.detaching && x.pr.prstat.pstate ≠ 3

/-- What HARD_RESET does in a released slice. -/
def hardReset (p : Port) (s : State) : State :=
  if !takesHardReset (s.slice p) then s else
  let s := onPd p (fun d => { d with pdcnt := { d.pdcnt with hrRx := satInc d.pdcnt.hrRx } }) s
  let s := onSlice p Slice.hrContexts s
  if s.sup.hold then onPd p (fun d => { d with hrWait := .received, pdstat := { d.pdstat with hrPend := true } }) s
  else hrPower p s

/-- HARD_RESET: the contexts are reset at once; the power sequence waits for the hold line (R131, R448). -/
def execHardReset (p : Port) (s : State) : Host.Outcome State Fault Refusal := .next (whenReleased (hardReset p) s)

/-- HARD_RESET_PS_START: tPSHardReset has passed; a Source takes VBUS to vSafe0V (R131, R198). -/
def execHardResetPsStart (p : Port) (s : State) : Host.Outcome State Fault Refusal :=
  .next (whenReleased (fun s =>
    if (s.slice p).pd.hrPhase ≠ .waitPs then s else
    onSlice p (fun x =>
      let x := { x with pd := { x.pd with hrPhase := .recover } }
      if x.sw.swstat.prole then x.powerOff
      else if x.ps.running && x.pins.isog then x.rampDown
      else x.powerOff) s) s)

/-- SRC_RECOVER_END: the Source restores vSafe5V, or enters ErrorRecovery without supply; with a retry sequence under way
the restoration is its next attempt (R198, R199, R221). -/
def execSrcRecoverEnd (p : Port) (s : State) : Host.Outcome State Fault Refusal :=
  .next (whenReleased (fun s =>
    let x := s.slice p
    if x.pd.hrPhase ≠ .recover || x.sw.swstat.prole then s
    else if x.pr.prstat.pstate = 1 && x.pr.restore then
      let s := onPr p (fun r => { r with recovered := true }) s
      if x.pr.attemptDue then startAttempt p s else s
    else if x.gr.none || s.sup.active = .none then errorRecovery p s
    else startPower p (onSlice p Slice.powerOff s)) s)

/-! ## Cable discovery (R127, R128) -/

/-- Discovery has ended: the first Source_Capabilities goes out if it has not, and the limits follow (R128). -/
def discoveryEnded (p : Port) (s : State) : State :=
  let s := onSlice p (fun x => { x with pd := { x.pd with discovering := false, discEnded := true } }.endOwn) s
  if (s.slice p).pd.capsSent then limitsChanged p s else advertise p s

/-- The answer to Discover Identity on SOP′ or SOP″ is recorded (R123, R127). -/
def cableAnswer (p : Port) (a : CableAnswer) (s : State) : State :=
  let x := s.slice p
  match a.ctx with
  | .sop => s
  | .sop2 =>
    if !x.pd.discSop2 then s else
    onSlice p (fun x => { x with pd := { x.pd with discSop2 := false, cblVdo2 := if a.nak then 0 else a.vdo2 } }.endOwn) s
  | .sop1 =>
    if !x.pd.discovering then s
    else if a.nak then discoveryEnded p (onPd p (fun d => { d with cblStat := { d.cblStat with kind := 3 } }) s)
    else
      let low := a.rev2 || x.pd.pdcfg.maxrev = 1 || x.pd.pdstat.revSop = 1
      let rev : BitVec 2 := if low then 1 else 2
      let s := onPd p (fun d => { d with
        cblVdo := a.vdo1, cblId := { vid := a.vid, pid := a.pid }
        cblStat := { d.cblStat with kind := if a.active then 2 else 1, ilim := a.ilim, vmax := a.vmax, epr := a.epr, sop2 := a.sop2 }
        pdstat := { d.pdstat with revSop1 := rev, revSop2 := rev }, discSop2 := a.active && a.sop2 }) s
      let s := discoveryEnded p s
      if a.active && a.sop2 then startAms p .sop2 (.vdm pdSid .discoverIdentity .req) [] s else s

/-- CABLE_IDENTITY_ANSWER (R127). -/
def execCableIdentityAnswer (p : Port) (a : CableAnswer) (s : State) : Host.Outcome State Fault Refusal :=
  .next (whenReleased (cableAnswer p a) s)

/-- DISCOVER_IDENTITY_TIMER: no cable answer within tDiscoverIdentity (R127, R128). -/
def execDiscoverIdentityTimer (p : Port) (s : State) : Host.Outcome State Fault Refusal :=
  .next (whenReleased (fun s =>
    let x := s.slice p
    if !x.pd.discovering then s
    else
      let s := onSlice p Slice.endOwn s
      if nDiscoverIdentityCount ≤ x.pd.cblStat.tries.toNat then
        discoveryEnded p (onPd p (fun d => { d with cblStat := { d.cblStat with kind := 3 } }) s)
      else
        let s := if x.pd.cblStat.tries = 3 && !x.pd.capsSent then advertise p s else s
        discoverSend p s) s)

/-! ## Messages the slice answers (R133) -/

/-- DISCOVER_IDENTITY: the identity of the DEVICE record (R133). -/
def execDiscoverIdentity (p : Port) (s : State) : Host.Outcome State Fault Refusal :=
  .next (whenReleased (fun s =>
    reply p .sop (.vdm pdSid .discoverIdentity .ack)
      [s.nvc.vid.setWidth 32, s.nvc.pid.setWidth 32, s.nvc.bcd.setWidth 32, s.nvc.xid] s) s)

/-- ALERT: a received Alert is answered with Get_Status (R133). -/
def execAlert (p : Port) (s : State) : Host.Outcome State Fault Refusal :=
  .next (whenReleased (fun s => if rev2 (s.slice p) .sop then s else startAms p .sop .getStatus [] s) s)

/-- BIST: mode 0 is Carrier Mode, 1 Test Data; other modes are ignored (R133). Test Data needs no more than its GoodCRC. -/
def execBist (p : Port) (mode : BitVec 4) (s : State) : Host.Outcome State Fault Refusal :=
  .next (whenReleased (fun s =>
    if mode = 0 && sopActive (s.slice p) then onPd p (fun d => { d with bistCarrier := true }) s else s) s)

/-- BIST_CARRIER_MODE_END (R132). -/
def execBistCarrierModeEnd (p : Port) (s : State) : Host.Outcome State Fault Refusal :=
  .next (whenReleased (onPd p (fun d => { d with bistCarrier := false })) s)

/-- A write of `SLC_PDCTL`: the lock and `CNT_CLR` (R132). -/
def writePdctl (p : Port) (w : Word) (s : State) : State :=
  onPd p (fun d => { d with
    pdctl := { cfgLk := d.pdctl.cfgLk || getBit w 0 }, pdcnt := if getBit w 8 then {} else d.pdcnt }) s

/-- PD_CNT_CLEAR (R132). -/
def execPdCntClear (p : Port) (s : State) : Host.Outcome State Fault Refusal := .next (writePdctl p 0x100 s)

/-! ## Timers of a tie port as Sink (R132, R204) -/

/-- SINK_WAIT_CAP_TIMEOUT: without Source_Capabilities the Sink sends Hard Reset. -/
def execSinkWaitCapTimeout (p : Port) (s : State) : Host.Outcome State Fault Refusal :=
  .next (whenReleased (fun s =>
    let x := s.slice p
    if x.att.attstat.state = 6 && x.sw.offered.isNone && sopActive x then sendHardReset p s else s) s)

/-- PS_TRANSITION_TIMEOUT: no PS_RDY after the Source's Accept; the Sink sends Hard Reset. -/
def execPsTransitionTimeout (p : Port) (s : State) : Host.Outcome State Fault Refusal :=
  .next (whenReleased (fun s => if (s.slice p).sw.snkWaitRdy then sendHardReset p s else s) s)

/-- SINK_REQUEST_TIMER: after a Wait the Request goes out again. -/
def execSinkRequestTimer (p : Port) (s : State) : Host.Outcome State Fault Refusal :=
  .next (whenReleased (fun s => if (s.slice p).sw.snkWaitRdy then s else sinkRequest p false s) s)

/-- EPR_SINK_KEEPALIVE_TIMER. -/
def execEprSinkKeepaliveTimer (p : Port) (s : State) : Host.Outcome State Fault Refusal :=
  .next (whenReleased (fun s => if (s.slice p).sw.snkEpr then startAms p .sop .eprKeepAlive [] s else s) s)

/-- ENTER_EPR_TIMEOUT: the attempt to enter EPR mode ends, and the port requests without it. -/
def execEnterEprTimeout (p : Port) (s : State) : Host.Outcome State Fault Refusal :=
  .next (whenReleased (fun s =>
    let w := (s.slice p).sw
    if !w.snkEntering || w.snkEpr then s else
    s |> onSlice p Slice.endOwn |> onSw p (fun w => { w with snkEntering := false, eprFailed := true }) |> sinkRequest p false) s)

end Sys2Proof.Machine
end

