-- ==== Sys2Proof/Machine/Mailbox.lean ====
section
/-!
DEFINITION. The open-port mailboxes: the message a host writes, its checks, its abort, and the receive queue (R134 to R138).
The layout of a message header and of the objects checked is that of USB Power Delivery.
-/

namespace Sys2Proof.Machine

/-! ## The message in the data words -/

/-- Byte `i` of the message: byte 0 of the header is bits 7:0 of word 0. -/
def mbByte (w : List Word) (i : Nat) : Byte := ((w.getD (i / 4) 0) >>> (8 * (i % 4))).setWidth 8

/-- The 16-bit field that begins at byte `i`. -/
def mbHalf (w : List Word) (i : Nat) : BitVec 16 := (mbByte w i).setWidth 16 ||| ((mbByte w (i + 1)).setWidth 16 <<< 8)

/-- The 32-bit object that begins at byte `i`. -/
def mbObject (w : List Word) (i : Nat) : Word := (mbHalf w i).setWidth 32 ||| ((mbHalf w (i + 2)).setWidth 32 <<< 16)

/-- The header's Extended bit. -/
def mbExtended (w : List Word) : Bool := (mbHalf w 0).getLsbD 15

/-- The number of data objects. -/
def mbObjects (w : List Word) : Nat := ((mbHalf w 0).extractLsb' 12 3).toNat

/-- The length that the header gives. -/
def mbLength (w : List Word) : Nat :=
  if mbExtended w then 4 + ((mbHalf w 2).extractLsb' 0 9).toNat else 2 + 4 * mbObjects w

/-- Control messages by type. -/
def controlKind : Nat → MsgKind
  | 3 => .accept | 4 => .reject | 5 => .ping | 6 => .psRdy | 7 => .getSourceCap | 8 => .getSinkCap | 9 => .drSwap
  | 10 => .prSwap | 11 => .vconnSwap | 12 => .wait | 13 => .softReset | 14 => .dataReset | 16 => .notSupported
  | 17 => .getSourceCapExt | 18 => .getStatus | 19 => .frSwap | 20 => .getPpsStatus | 21 => .getCountryCodes
  | 22 => .getSinkCapExt | 23 => .getSourceInfo | 24 => .getRevision | _ => .reserved

/-- A command of a Structured VDM by number. -/
def vdmCmd (n : BitVec 5) : VdmCmd :=
  if n = 1 then .discoverIdentity else if n = 2 then .discoverSvids else if n = 3 then .discoverModes
  else if n = 4 then .enterMode else if n = 5 then .exitMode else if n = 6 then .attention else .other n

/-- A VDM by its header. -/
def vdmKind (h : Word) : MsgKind :=
  if !getBit h 15 then .unstructuredVdm
  else
    let t : BitVec 2 := getField h 6 2
    .vdm (getField h 16 16) (vdmCmd (getField h 0 5)) (if t = 0 then .req else if t = 1 then .ack else if t = 2 then .nak else .busy)

/-- Data messages by type. -/
def dataKind (w : List Word) : Nat → MsgKind
  | 1 => .sourceCap | 2 => .request | 3 => .bist | 4 => .sinkCap | 5 => .batteryStatus | 6 => .alert | 7 => .getCountryInfo
  | 8 => .enterUsb | 9 => .eprRequest | 10 => .eprMode | 11 => .sourceInfo | 12 => .revision | 15 => vdmKind (mbObject w 2)
  | _ => .reserved

/-- Extended messages by type; Extended_Control is told apart by its first data byte. -/
def extendedKind (w : List Word) : Nat → MsgKind
  | 1 => .sourceCapExt | 2 => .status | 3 => .getBatteryCap | 4 => .getBatteryStatus | 6 => .getManufacturerInfo
  | 8 => .securityRequest | 10 => .firmwareUpdateRequest | 12 => .ppsStatus | 15 => .sinkCapExt
  | 16 =>
    let t := mbByte w 4
    if t = 1 then .eprGetSourceCap else if t = 2 then .eprGetSinkCap else if t = 3 then .eprKeepAlive
    else if t = 4 then .eprKeepAliveAck else .reserved
  | 17 => .eprSourceCap | 18 => .eprSinkCap | 30 => .vendorDefinedExt | _ => .reserved

/-- The message's kind; a GoodCRC is `none`. -/
def mbKind (w : List Word) : Option MsgKind :=
  let t := ((mbHalf w 0).extractLsb' 0 5).toNat
  if mbExtended w then some (extendedKind w t)
  else if mbObjects w ≠ 0 then some (dataKind w t)
  else if t = 1 then none else some (controlKind t)

/-- The slice reserves the type (R136). -/
def mbReserved : MsgKind → Bool
  | .accept | .reject | .wait | .psRdy | .request | .eprRequest | .eprMode | .eprKeepAlive | .eprKeepAliveAck | .softReset
  | .alert | .prSwap | .drSwap | .vconnSwap | .frSwap | .hardReset | .cableReset => true
  | .vdm svid .enterMode _ => svid = thatchSvid
  | .vdm svid .exitMode _ => svid = thatchSvid
  | _ => false

/-! ## An offer of the host's (R136) -/

/-- An object of a Source_Capabilities as an offer object; Battery and Variable objects have no counterpart. -/
def pdoOffer (pos : Nat) (o : Word) : Option Offer :=
  let t : BitVec 4 := getField o 28 4
  if getField o 30 2 = 0#2 then
    let mv := 50 * (getField o 10 10).toNat
    some { pos := pos, kind := .fixed, vmin := mv, vmax := mv, ma := 10 * (getField o 0 10).toNat }
  else if t = 12 then
    some { pos := pos, kind := .pps, vmin := 100 * (getField o 8 8).toNat, vmax := 100 * (getField o 17 8).toNat
           ma := 50 * (getField o 0 7).toNat }
  else if t = 13 then
    some { pos := pos, kind := .eprAvs, vmin := 100 * (getField o 8 8).toNat, vmax := 100 * (getField o 17 9).toNat, ma := 5000
           pdp := (getField o 0 8).toNat }
  else if t = 14 then
    some { pos := pos, kind := .sprAvs, vmin := 9000, vmax := if getField o 0 10 = 0#10 then 15000 else 20000
           ma := 10 * (getField o 10 10).toNat, ma20 := 10 * (getField o 0 10).toNat }
  else none

/-- An object passes against the effective grant, V_max and the cable limits. -/
def pdoPasses (l : OfferLimits) (o : Offer) : Bool :=
  o.vmax ≤ l.vlim
    && (match o.kind with
        | .eprAvs => 10 * o.pdp ≤ l.pg
        | .sprAvs => o.ma ≤ l.ilim && 15000 * o.ma ≤ l.pg * 100000 && o.ma20 ≤ l.ilim && 20000 * o.ma20 ≤ l.pg * 100000
        | _ => o.ma ≤ l.ilim && o.vmax * o.ma ≤ l.pg * 100000)

/-- The objects of a Source_Capabilities of the host, or none where one of them fails; empty positions are left out. -/
def hostOffer (x : Slice) (maxpdo : BitVec 9) (w : List Word) : Option (List Offer) :=
  let base := if mbExtended w then 4 else 2
  let n := (mbLength w - base) / 4
  let (v, i, e) := cableLimits x
  let l : OfferLimits := { vlim := min (100 * maxpdo.toNat) v, ilim := i, pg := x.gr.eff, epr := e }
  let os := (List.range n).map (fun k => (k + 1, mbObject w (base + 4 * k)))
  (os.filter (fun o => o.2 != 0)).mapM (fun o =>
    match pdoOffer o.1 o.2 with
    | some f => if pdoPasses l f && (f.pos < 8 || e) then some f else none
    | none => none)

/-! ## Sending (R136 to R138) -/

/-- The context that `CTX` names. -/
def mbCtx (c : BitVec 2) : Option Ctx := if c = 0 then some .sop else if c = 1 then some .sop1 else if c = 2 then some .sop2 else none

/-- An advertisement of the host's. -/
def isCaps : MsgKind → Bool
  | .sourceCap | .eprSourceCap => true
  | _ => false

/-- The refusal cause of R136, the lowest that applies, or the frame to queue. -/
def mbCheck (p : Port) (x : Slice) (maxpdo : BitVec 9) : BitVec 4 ⊕ TxMsg :=
  let w := x.mb.txData
  let len := x.mb.len.toNat
  if !portOpen p x then .inl 1 else
  match mbKind w with
  | none => .inl 2
  | some k =>
    if mbReserved k then .inl 2
    else
      let offer := if isCaps k then hostOffer x maxpdo w else some []
      match offer, mbCtx x.mb.ctx with
      | none, _ => .inl 3
      | some _, none => .inl 4
      | some os, some c =>
        if !ctxActive x c || x.pd.pdstat.pdSilent then .inl 4
        else if len < 2 || 264 < len || len ≠ mbLength w then .inl 5
        else if rev2 x c && (mbExtended w || rev3Only k) then .inl 6
        else
          let answers := match x.mb.hostOwes with | some f => f.ctx = c | none => false
          .inr { ctx := c, kind := k, prio := .mailbox, why := .mailbox, cont := answers, words := w.take ((len + 3) / 4), offer := os }

/-- SEND: the message is checked and queued, or refused; no effect while one is queued or on the line (R136). -/
def mbSend (p : Port) (s : State) : State :=
  let x := s.slice p
  if x.mb.mbtxStat.state = 1 || x.mb.mbtxStat.state = 2 then s else
  match mbCheck p x s.sup.maxpdo with
  | .inl c => onMb p (fun m => { m with mbtxStat := { state := 5, cause := c } }) s
  | .inr m =>
    onSlice p (fun x =>
      { x with mb := { x.mb with mbtxStat := { state := 1 } }, pd := { x.pd with ready := x.pd.ready ++ [m] } }.pump) s

/-- ABORT: before the commit point the message is discarded with cause 11; after it the write is late (R138). -/
def mbAbort (p : Port) (s : State) : State :=
  let x := s.slice p
  if x.mb.mbtxStat.state = 1 then
    onSlice p (fun x => { x with
      mb := x.mb.discard 11, pd := { x.pd with ready := x.pd.ready.filter (fun m => m.prio != TxPrio.mailbox) } }.pump) s
  else if x.mb.mbtxStat.state = 2 || x.mb.mbtxStat.state = 3 || x.mb.mbtxStat.state = 4 then
    onMb p (fun m => { m with mbtxStat := { m.mbtxStat with abortLate := true } }) s
  else s

/-- A write of `SLC_MBTX_CTL`; on a port that is not open only its `SEND` is answered, with cause 1 (R136). -/
def writeMbtxCtl (p : Port) (w : Word) (s : State) : State :=
  let s := if portOpen p (s.slice p) then onMb p (fun m => { m with ctx := getField w 0 2, len := getField w 16 9 }) s else s
  let s := if getBit w 4 then mbSend p s else s
  if getBit w 5 then mbAbort p s else s

/-- MBTX_SEND: `SEND` is written with the context and the length (R136). -/
def execMbtxSend (p : Port) (ctx : BitVec 2) (len : BitVec 9) (s : State) : Host.Outcome State Fault Refusal :=
  .next (whenReleased (writeMbtxCtl p (putField ctx 0 ||| putBit true 4 ||| putField len 16)) s)

/-- MBTX_ABORT: `ABORT` is written (R138). -/
def execMbtxAbort (p : Port) (s : State) : Host.Outcome State Fault Refusal :=
  .next (whenReleased (fun s =>
    let m := (s.slice p).mb
    writeMbtxCtl p (putField m.ctx 0 ||| putBit true 5 ||| putField m.len 16) s) s)

/-- A write of `SLC_MBRX_CTL`: `POP` removes the head entry, and `COPY` is set (R134). -/
def writeMbrxCtl (p : Port) (w : Word) (s : State) : State :=
  if !portOpen p (s.slice p) then s else
  onMb p (fun m => { m with rxq := if getBit w 0 then m.rxq.tail else m.rxq, copyOn := getBit w 1 }) s

/-- MBRX_POP (R134). -/
def execMbrxPop (p : Port) (s : State) : Host.Outcome State Fault Refusal :=
  .next (whenReleased (fun s => writeMbrxCtl p (putBit true 0 ||| putBit (s.slice p).mb.copyOn 1) s) s)

end Sys2Proof.Machine
end

