-- ==== Sys2Proof/Machine/PowerStage.lean ====
section
/-!
DEFINITION. The port power stage: the switching period with reference and compensator, the converter start, the PPS current
loop, telemetry and energy, phase offsets and start slots (R160 to R186).
-/

namespace Sys2Proof.Machine

/-! ## The reference (R166, R167, R175) -/

/-- Move `v` toward `target` by at most `d`. -/
def approach (v target d : Nat) : Nat := if v < target then min target (v + d) else max target (v - d)

/-- Where V_ref is going, and how far it moves in one PWM step of 312.5 ps. -/
def refGoal (x : Slice) : Nat × Nat :=
  let c := x.ps.psstat.cstate
  if c = 6 then (0, 250)
  else if c = 1 || c = 2 then (mvUnits 5000, 5 * x.ps.ssRate)
  else (mvUnits x.ps.vset, 25 * x.off.slew)

/-- V_ref is falling in the sense of R217: it has just moved down, or the feedback voltage, at 15 mV a code, has not come
within the PS_RDY tolerance of it since. The REV count restarts when the fall ends. -/
def SlicePr.fall (code : BitVec 12) (v : Nat) (moved : Bool) (x : SlicePr) : SlicePr :=
  let lags := v + mvUnits (readyTol (v / 160000)) < mvUnits (15 * code.toNat)
  let falling := moved || (x.falling && lags)
  { x with falling := falling, revRun := if x.falling && !falling then 0 else x.revRun }

/-- V_ref moves through one period, unless the hold line holds it (R25); far-end regulation that withdraws is off once it has
arrived (R186). -/
def Slice.moveRef (code : BitVec 12) (hold : Bool) (x : Slice) : Slice :=
  let (target, rate) := refGoal x
  let v := if hold then x.ps.vref else approach x.ps.vref target (rate * x.ps.period)
  { x with
    ps := { x.ps with
      vref := v
      festat := if !hold && x.ps.festat.state = 3 && v = mvUnits x.ps.vset then { x.ps.festat with state := 0 } else x.ps.festat }
    pr := x.pr.fall code v (v < x.ps.vref) }

/-- The start of a converter goes on: synchronous operation, and the pre-bias check once V_ref is 5.0 V (Table 8.2, R175). -/
def Slice.startStep (x : Slice) : Slice :=
  let c := x.ps.psstat.cstate
  let n := x.ps.periods + 1
  let sync := x.pins.pwm = .preBias && (mvUnits (x.ps.vpre + 200) ≤ x.ps.vref || 64 ≤ n)
  let c' : BitVec 3 := if (c = 1 || c = 2) && x.ps.vref = mvUnits 5000 then 3 else if c = 1 && sync then 2 else c
  { x with
    ps := { x.ps with periods := n, psstat := { x.ps.psstat with cstate := c' } }
    pins := { x.pins with pwm := if sync then .sync else x.pins.pwm } }

/-! ## The compensator (R163, R164) -/

/-- V_ref in 1/16 code. -/
def SlicePs.vref16 (x : SlicePs) : Int := (x.vref / 150000 : Nat)

/-- The largest on-time u_hi. -/
def SlicePs.uHi (x : SlicePs) : Int := (2 ^ 24 * (x.period - x.pwmlim.minOff.toNat) / x.period : Nat)

/-- The on-time of the next period, in PWM steps. -/
def onSteps (x : SlicePs) (u : Int) : Nat :=
  let steps := u.toNat * x.period / 2 ^ 24
  if 2 * steps < x.pwmlim.minOn.toNat then 0 else max steps x.pwmlim.minOn.toNat

/-- The new on-time u0 from the errors and the last two on-times. -/
def compensate (x : SlicePs) (e0 e1 e2 : Int) (cut : Bool) : Int :=
  let du := x.cmpb0.b0.toInt * e0 + x.cmpb0.b1.toInt * e1 + x.cmpb1.b2.toInt * e2 + (x.cmpb1.a1.toInt * (x.u1 - x.u2)).fdiv 16384
  let u := x.u1 + du
  let u := if cut then min u x.u1 else u
  max 0 (min u x.uHi)

/-- One run of the compensator on the sample `code`; `cut` says that the peak limit ended the last on-time. -/
def SlicePs.compensator (code : BitVec 12) (cut : Bool) (x : SlicePs) : SlicePs :=
  let e0 := x.vref16 - 16 * code.toNat
  let e1 := if x.fbFresh then e0 else x.e1
  let e2 := if x.fbFresh then e0 else x.e2
  let u := compensate x e0 e1 e2 cut
  let steps := onSteps x u
  { x with
    u1 := u, u2 := x.u1, e1 := e0, e2 := e1, fbFresh := false, steps := steps
    psstat := { x.psstat with dsat := u = x.uHi, duty := satField 16 (65536 * steps / x.period) } }

/-! ## The period (R169, R173, R216, R217) -/

/-- The period start moves toward `OFFSET` by lengthening one off-time by at most a sixteenth of a period. -/
def SlicePs.movePhase (x : SlicePs) : SlicePs :=
  if !x.pwmofs.moving then x else
  let o := x.pwmofs.offset.toNat
  let left := (o + x.period - x.phase % x.period) % x.period
  let d := min left (x.period / 16)
  { x with phase := (x.phase + d) % x.period, pwmofs := { x.pwmofs with moving := d ≠ left } }

/-- Periods without PEAK or REV break their runs. -/
def SlicePr.nextPeriod (x : SlicePr) : SlicePr :=
  { x with peakRun := if x.peakNow then x.peakRun else 0, revRun := if x.revNow then x.revRun else 0
           peakNow := false, revNow := false, lvl := x.lvl &&& 0x6 }

/-- One switching period with the loop sample `code`. -/
def Slice.pwmPeriod (code : BitVec 12) (hold : Bool) (x : Slice) : Slice :=
  let cut := x.pr.peakNow
  let x := (x.moveRef code hold).startStep
  { x with ps := (x.ps.compensator code cut).movePhase, pr := x.pr.nextPeriod }

/-- PWM_PERIOD (R163). -/
def execPwmPeriod (p : Port) (code : BitVec 12) (s : State) : Host.Outcome State Fault Refusal :=
  .next (whenReleased (fun s =>
    if (s.slice p).ps.running then onSlice p (Slice.pwmPeriod code s.sup.hold) s else s) s)

/-! ## Starting and isolation (Table 8.2, R164, R176) -/

/-- PREBIAS_PASS: the check has held for 1 ms and ISOGn's gate drive begins; a start into a swap keeps ISOGn open, and the
hold line pauses the check (R176, R177, R193, R200). -/
def execPrebiasPass (p : Port) (s : State) : Host.Outcome State Fault Refusal :=
  .next (whenReleased (fun s =>
    let x := s.slice p
    let c := x.ps.psstat.cstate
    if !(c = 1 || c = 2 || c = 3) || s.sup.hold then s else
    onSlice p (fun x =>
      let x := { x with ps := { x.ps with vref := mvUnits 5000 } }
      if x.ps.swapStart then { x with ps := { x.ps with psstat := { x.ps.psstat with cstate := 3 } } }
      else
        { x with
          ps := { x.ps with psstat := { x.ps.psstat with cstate := 4 } }
          pr := { x.pr with gateStarted := true }
          pins := { x.pins with isog := true, pwm := .sync } }.sink) s) s)

/-- PREBIAS_FAIL: the check has not passed within 10 ms; the port trips with cause 6 (R176). -/
def execPrebiasFail (p : Port) (cause : BitVec 2) (i v : BitVec 16) (s : State) : Host.Outcome State Fault Refusal :=
  .next (whenReleased (fun s =>
    let c := (s.slice p).ps.psstat.cstate
    if !(c = 1 || c = 2 || c = 3) || s.sup.hold then s else
    s |> onPs p (fun x => { x with psstat := { x.psstat with pbfail := cause } }) |> trip p 6 i v) s)

/-- FEEDBACK_SWITCH: 1 ms after VBUS first reached 4.75 V with ISOGn closed (R164). -/
def execFeedbackSwitch (p : Port) (s : State) : Host.Outcome State Fault Refusal :=
  .next (whenReleased (fun s =>
    let x := s.slice p
    if !x.ps.running || !x.pins.isog || x.ps.psstat.fb then s else
    onPs p (fun x => { x with
      fbFresh := true, psstat := { x.psstat with fb := true, cstate := if x.psstat.cstate = 4 then 5 else x.psstat.cstate } }) s) s)

/-! ## The PPS current loop (R168) -/

/-- V_set after one update: 2 mV for each 10 mA of difference, within 3.3 V and the requested voltage. -/
def ppsSet (x : Slice) (mean : Int) : Nat :=
  let d := (mean - x.off.conMa) * 2
  let v := (x.ps.vset : Int) - d.tdiv 10
  (max 3300 (min (x.off.conMv : Int) v)).toNat

/-- PPS_CURRENT_LOOP: every 10 µs, with the mean current of the last 10 µs in mA (R168). -/
def execPpsCurrentLoop (p : Port) (meanMa : Int) (s : State) : Host.Outcome State Fault Refusal :=
  .next (whenReleased (fun s =>
    let x := s.slice p
    if x.off.contract.kind ≠ 2 || x.sw.swstat.prole || x.off.changing || x.ps.psstat.cstate ≠ 5 then s else
    let v := ppsSet x meanMa
    onPs p (fun d => { d with vset := v, psstat := { d.psstat with clmode := v < x.off.conMv } }) s) s)

/-! ## Telemetry and energy (R178, R179) -/

/-- A signed quotient rounded to the nearest, halves away from zero. -/
def roundQuot (a : Int) (b : Nat) : Int := if a < 0 then -(roundDiv a.natAbs b : Nat) else (roundDiv a.natAbs b : Nat)

/-- The shunt value as R161 has it; 0 is not in its range and counts as 1. -/
def SlicePs.rsh (x : SlicePs) : Nat := max 1 x.pscfg.rsh.toNat

/-- The live levels that the last telemetry means give: SHORT and OV against their codes; PEAK and REV follow the periods
(R211, R215). -/
def levelsAt (x : Slice) : BitVec 4 :=
  let i := x.ps.tlmI.iout.toInt
  let short := 0 ≤ i && (cmpthr0 x).short.toNat * 1250 < i.toNat * x.ps.pscfg.rsh.toNat
  let ov := (cmpthr1 x).ov.toNat * 6 < x.ps.tlmV.vbus.toNat
  (x.pr.lvl &&& (if x.sw.swstat.prole then 0x1 else 0x9)) ||| (if short then 0x2 else 0) ||| (if ov then 0x4 else 0)

/-- TELEMETRY_UPDATE: the means of the last 1 ms, voltages and current in 1/16 code, and the die temperature in 1/16 °C
(R178). -/
def execTelemetryUpdate (p : Port) (vbus16 vcnv16 : Nat) (i16 : Int) (tdie : BitVec 16) (s : State) :
    Host.Outcome State Fault Refusal :=
  .next (whenReleased (fun s =>
    let s := onDid (fun d => { d with temp := tdie }) s
    onSlice p (fun y => { y with pr := { y.pr with lvl := levelsAt y } }) <| onPs p (fun x =>
      let r := x.rsh
      let pw := if i16 < 0 then 0 else roundDiv (15 * vbus16 * (500 * i16.toNat)) (256 * r * 10000)
      { x with
        tlmV := { vbus := satField 16 (roundDiv (15 * vbus16) 160), vcnv := satField 16 (roundDiv (15 * vcnv16) 160) }
        tlmI := { iout := int16 (roundQuot (500 * i16) (16 * r)), pout := satField 16 pw } }) s) s)

/-- Add an energy in units of 10 pJ to a counter of mJ; the flag says that it has wrapped. -/
def addEnergy (e : BitVec 48) (res add : Nat) : BitVec 48 × Nat × Bool :=
  let total := res + add
  let n := e.toNat + total / 100000000
  (BitVec.ofNat 48 n, total % 100000000, 2 ^ 48 ≤ n)

/-- ENERGY_ACCUMULATE: the VBUS and current codes of a 10 µs interval (R161, R179). -/
def execEnergyAccumulate (p : Port) (cv : BitVec 12) (ci : BitVec 12) (s : State) : Host.Outcome State Fault Refusal :=
  .next (whenReleased (fun s =>
    let x := (s.slice p).ps
    let mag := 15 * cv.toNat * (500 * ci.toInt.natAbs) / x.rsh
    if 0 ≤ ci.toInt then
      let (e, r, wrap) := addEnergy x.eno x.enoRes mag
      let s := onPs p (fun d => { d with eno := e, enoRes := r }) s
      if wrap then globalEvent 224 ((e >>> 32).setWidth 32) p.val s else s
    else if p.val < 2 then
      let (e, r, wrap) := addEnergy x.eni x.eniRes mag
      let s := onPs p (fun d => { d with eni := e, eniRes := r }) s
      if wrap then globalEvent 224 ((e >>> 32).setWidth 32) p.val s else s
    else s) s)

/-! ## Phase offsets and start slots (R173, R174) -/

/-- PWMPH_WRITE (R173). -/
def execPwmphWrite (p : Port) (next : BitVec 15) (loadCn : BitVec 8) (s : State) : Host.Outcome State Fault Refusal :=
  .next (writePwmph p (putField next 0 ||| putField loadCn 16) s)

/-- The half-cycle boundary of index `h` matches the slot of a port. -/
def slotMatches (x : Slice) (h : Nat) : Bool :=
  let z := max 1 x.ps.pscfg.zslot.toNat
  h % z = x.ps.pscfg.zidx.toNat % z

/-- The aligned actions of a port: a waiting soft start, and a waiting lift of a limit (R174). -/
def slotActions (h : Nat) (p : Port) (s : State) : State :=
  let x := s.slice p
  if !slotMatches x h then s else
  let s := if x.ps.psstat.limwait then
      onSlice p (fun x => { x with
        off := { x.off with limit := .none }, ps := { x.ps with psstat := { x.ps.psstat with limwait := false } } }) s
    else s
  if x.ps.psstat.cstate = 7 then
    startPower p (onPs p (fun d => { d with psstat := { d.psstat with cstate := 0 } }) s)
  else s

/-- HALF_CYCLE_BOUNDARY: phase 0x0000, or 0x8000 with `half`, of the present CN (R174). -/
def execHalfCycleBoundary (half : Bool) (s : State) : Host.Outcome State Fault Refusal :=
  .next (whenReleased (overPorts (slotActions (2 * s.cyc.cn.toNat + (if half then 1 else 0)))) s)

/-! ## Far-end regulation (R186, R296) -/

/-- FE_REPORT_LOSS: no valid report for 16 cycles (R186). -/
def execFeReportLoss (p : Port) (s : State) : Host.Outcome State Fault Refusal :=
  .next (whenReleased (fun s => if (s.slice p).ps.festat.state = 0 then s else feWithdraw p s) s)

end Sys2Proof.Machine
end

