-- ==== Sys2Proof/Machine/Protect.lean ====
section
/-!
DEFINITION. Comparators, the electronic fuse, trips, retry attempts and the self-check (R209 to R230). A trip command carries
the shunt current in mA and VBUS in 10 mV of the last conversion (Table 10.3, step 1).
-/

namespace Sys2Proof.Machine

/-! ## Cycle-by-cycle limiting (R216, R217) -/

/-- `SLC_PRCFG.PK_MAX` as the slice takes it. -/
def pkMax (x : SlicePr) : Nat := if x.prcfg.pkMax = 0 then 1 else x.prcfg.pkMax.toNat

/-- Comparators run continuously on a Source port: the converter runs or ISOGn is closed (Table 10.2). -/
def sourceWatched (x : Slice) : Bool := !x.sw.swstat.prole && (x.ps.running || x.pins.isog)

/-- PEAK ends the on-time of this period; one period counts once. -/
def SlicePr.peak (x : SlicePr) : SlicePr :=
  if x.peakNow then x else { x with peakNow := true, peakRun := x.peakRun + 1, lvl := x.lvl ||| 0x1 }

/-- REV ends the low-side conduction of this period; one period counts once. -/
def SlicePr.rev (x : SlicePr) : SlicePr :=
  if x.revNow then x else { x with revNow := true, revRun := x.revRun + 1, lvl := x.lvl ||| 0x8 }

/-- A comparator is reported high (R211). -/
def raiseLevel (p : Port) (m : BitVec 4) : State → State := onPr p (fun r => { r with lvl := r.lvl ||| m })

/-- PEAK_LIMIT: PEAK goes high during an on-time, and `PK_MAX` periods in a row trip the port with cause 2 (R216). -/
def execPeakLimit (p : Port) (i v : BitVec 16) (s : State) : Host.Outcome State Fault Refusal :=
  .next (whenReleased (fun s =>
    if !(s.slice p).ps.running then s else
    let s := onPr p SlicePr.peak s
    let x := s.slice p
    if pkMax x.pr ≤ x.pr.peakRun then trip p 2 i v s else s) s)

/-- REV_LIMIT: REV goes high while PWMn is low; outside a fall of V_ref, `PK_MAX` periods in a row trip with cause 5 (R217). -/
def execRevLimit (p : Port) (i v : BitVec 16) (s : State) : Host.Outcome State Fault Refusal :=
  .next (whenReleased (fun s =>
    let x := s.slice p
    if !x.ps.running || x.sw.swstat.prole || x.pins.pwm ≠ .sync then s else
    let s := onPr p SlicePr.rev s
    let x := s.slice p
    if pkMax x.pr ≤ x.pr.revRun && !x.pr.falling then trip p 5 i v s else s) s)

/-! ## Trips at once, and the fuse (R218, R219) -/

/-- SHORT_TRIP (R219). -/
def execShortTrip (p : Port) (i v : BitVec 16) (s : State) : Host.Outcome State Fault Refusal :=
  .next (whenReleased (fun s => if (s.slice p).ps.running || (s.slice p).pins.isog then trip p 3 i v (raiseLevel p 0x2 s) else s) s)

/-- OV_TRIP: OV goes high on a Source in continuous mode (R219). -/
def execOvTrip (p : Port) (i v : BitVec 16) (s : State) : Host.Outcome State Fault Refusal :=
  .next (whenReleased (fun s => if sourceWatched (s.slice p) then trip p 4 i v (raiseLevel p 0x4 s) else s) s)

/-- One update of the fuse accumulator from the mean current in mA (R218). -/
def fuseStep (ir : Nat) (mean : Int) (acc : Nat) : Nat := acc + mean.toNat * mean.toNat - ir * ir

/-- FUSE_UPDATE: every 10 µs, with the mean current of the interval; the trip level ends in cause 1 (R218). -/
def execFuseUpdate (p : Port) (mean : Int) (i v : BitVec 16) (s : State) : Host.Outcome State Fault Refusal :=
  .next (whenReleased (fun s =>
    if !(s.slice p).ps.running then s else
    let s := onSlice p (fun x => { x with pr := { x.pr with acc := fuseStep x.ir mean x.pr.acc } }) s
    let x := s.slice p
    if fuseK x ≤ x.pr.acc then trip p 1 i v s else s) s)

/-! ## Retry (R222 to R225) -/

/-- PROT_RETRY_ATTEMPT: the off time has ended; `bad` is what the self-check finds (R222, R229). -/
def execProtRetryAttempt (p : Port) (bad : BitVec 4) (s : State) : Host.Outcome State Fault Refusal :=
  .next (whenReleased (fun s => startAttempt p (onPr p (fun r => { r with bad := bad }) s)) s)

/-- ATTEMPT_NOT_SETTLED: `XT_LIM` has passed since the start of gate drive (R222). -/
def execAttemptNotSettled (p : Port) (i v : BitVec 16) (s : State) : Host.Outcome State Fault Refusal :=
  .next (whenReleased (fun s =>
    let r := (s.slice p).pr
    if r.prstat.pstate = 2 && r.gateStarted then trip p 10 i v s else s) s)

/-- ATTEMPT_SUCCESS: VBUS has settled; `PSTATE` returns to 0, the 10 s of R223 run, and the OCP Alert bit is set (R157, R222). -/
def execAttemptSuccess (p : Port) (s : State) : Host.Outcome State Fault Refusal :=
  .next (whenReleased (fun s =>
    let r := (s.slice p).pr
    if r.prstat.pstate ≠ 2 || !r.gateStarted then s else
    s |> onSlice p (fun x => { x with
          off := { x.off with ocpFlag := true }
          pr := { x.pr with gateStarted := false, tenSec := true, restore := false, recovered := false
                            prstat := { x.pr.prstat with pstate := 0 } } }.sink.pump)
      |> alertBit p alertOcp |> engineStart p) s)

/-- TRIES_RESET_TIMER: 10 s after a successful attempt without a trip (R223, R158). -/
def execTriesResetTimer (p : Port) (s : State) : Host.Outcome State Fault Refusal :=
  .next (whenReleased (fun s =>
    if !(s.slice p).pr.tenSec then s else
    onSlice p (fun x => { x with
      off := { x.off with ocpFlag := false }
      pr := { x.pr with tenSec := false, prstat := { x.pr.prstat with tries := 0 } } }) s) s)

/-- Power comes back to an attached Source port that a latch or a failed self-check kept off (R224, R230). -/
def powerAgain (p : Port) (s : State) : State :=
  let x := s.slice p
  if x.att.attstat.state = 3 && !x.att.detaching && !x.att.attstat.nopwr && !x.ps.running && !x.pins.isog then startPower p s
  else s

/-- A latch-off clears: the contexts are reset without a Hard Reset, and power starts anew (R224). -/
def unlatch (p : Port) (s : State) : State :=
  if (s.slice p).pr.prstat.pstate ≠ 3 then s else
  s |> onSlice p (fun x =>
        let x := x.hrContexts
        { x with
          off := { x.off with ocpFlag := false }
          pr := { x.pr with restore := false, recovered := false, prstat := { x.pr.prstat with pstate := 0, tries := 0 } } })
    |> onPd p (fun d => { d with capsSent := false, capsTries := 0, hrPhase := .idle })
    |> powerAgain p

/-- The self-check that software asks for, where no power path is closed; a pass that clears `PSTATE` 4 lets power start
(R229, R230). -/
def softCheck (p : Port) (s : State) : State :=
  let x := s.slice p
  if x.ps.psstat.cstate ≠ 0 || x.pins.isog || x.pins.snkg then s else
  let t := selfCheck p s
  if x.pr.prstat.pstate = 4 && (t.slice p).pr.prstat.pstate = 0 then connectNext (powerAgain p t) else t

/-- A write of `SLC_PRCTL` (R8, R224, R229). -/
def writePrctl (p : Port) (w : Word) (s : State) : State :=
  let s := onPr p (fun r => { r with prctl := { cfgLk := r.prctl.cfgLk || getBit w 0 } }) s
  let s := if getBit w 8 then unlatch p s else s
  if getBit w 9 then softCheck p s else s

/-- UNLATCH (R224). -/
def execUnlatch (p : Port) (s : State) : Host.Outcome State Fault Refusal :=
  .next (whenReleased (spreading (writePrctl p 0x100)) s)

/-- SELFTEST, with the comparators that the check finds wrong (R229, R230). -/
def execSelftest (p : Port) (bad : BitVec 4) (s : State) : Host.Outcome State Fault Refusal :=
  .next (whenReleased (spreading (fun s => writePrctl p 0x200 (onPr p (fun r => { r with bad := bad }) s))) s)

/-! ## The sink side and sampled mode (R226 to R228) -/

/-- A sink-side trip: `CAUSE`, `PSTATE` 1, `SLC_TRIPV`, the event and the record of R220. -/
def sinkTrip (p : Port) (cause : BitVec 4) (i v : BitVec 16) (s : State) : State :=
  s |> onSlice p (fun x => { x with
        sw := { x.sw with swstat := { x.sw.swstat with frsArmed := false } }
        pr := { x.pr with
          tripv := { itrip := i, vtrip := v }
          prstat := { x.pr.prstat with cause := cause, pstate := 1, trips := satInc x.pr.prstat.trips } } }.openSnkg.powerOff.pump)
    |> tripEvent p false

/-- SNKDROP_TRIP: the drop of a closed sink path stays above `SNK_DROP`; the cascade input is lost and the path retried (R226). -/
def execSnkdropTrip (p : Port) (i v : BitVec 16) (s : State) : Host.Outcome State Fault Refusal :=
  .next (whenReleased (fun s =>
    if (s.slice p).sw.swstat.snkp ≠ 2 then s else
    s |> raiseLevel p 0x8 |> sinkTrip p 8 i v |> cascadeLost p
      |> onSw p (fun w => { w with swstat := { w.swstat with snkp := 3 } })
      |> onSup (fun u => { u with cascRetry := true })) s)

/-- SINK_OV_TRIP: OV goes high on a Sink in continuous mode; SNKGn opens and Hard Reset goes out (R227). -/
def execSinkOvTrip (p : Port) (i v : BitVec 16) (s : State) : Host.Outcome State Fault Refusal :=
  .next (whenReleased (fun s =>
    let x := s.slice p
    if !x.sw.swstat.prole || x.pr.prstat.pstate ≠ 0
        || !(x.sw.swstat.snkp = 1 || x.sw.swstat.snkp = 2 || x.ps.running || x.pins.isog) then s else
    s |> raiseLevel p 0x4 |> sinkTrip p 9 i v |> cascadeLost p |> sendHardReset p) s)

/-- OV_SAMPLE: the level of OV at a tick of sampled mode; a rise raises event 8n + 3 with `CAUSE` 4 and trips nothing (R228). -/
def execOvSample (p : Port) (high : Bool) (s : State) : Host.Outcome State Fault Refusal :=
  .next (whenReleased (fun s =>
    let x := s.slice p
    if x.ps.running || x.pins.isog || x.sw.swstat.snkp = 1 || x.sw.swstat.snkp = 2 then s else
    let s := onPr p (fun r => { r with
      ovSampled := high, lvl := if high then r.lvl ||| 0x4 else r.lvl &&& 0xB
      prstat := { r.prstat with cause := if high && !r.ovSampled then 4 else r.prstat.cause } }) s
    if high && !x.pr.ovSampled then raise (8 * p.val + 3) s else s) s)

end Sys2Proof.Machine
end

