-- ==== Sys2Proof/Machine/Recorder.lean ====
section
/-!
DEFINITION. The commands of the event recorder, the event aggregator and the NAND windows (chapters 16 and 18).
-/

namespace Sys2Proof.Machine

/-- A write of `EVR_CUR` (or of `EVR_SRC` when `isSrc`) by a requester starts a fetch (R350). -/
def writeCursor (q : Requester) (isSrc : Bool) (w : Word) (s : State) : State :=
  onEvrBank (bankOf q s) (fun x => evrFetch (if isSrc then { x with src := x.src.put w } else { x with cur := w })) s

/-- EVR_CURSOR_WRITE (R350). -/
def execEvrCursorWrite (q : Requester) (isSrc : Bool) (w : Word) (s : State) : Host.Outcome State Fault Refusal :=
  .next (writeCursor q isSrc w s)

/-- EVR_FETCH_DONE: the record is in the bank's window; `rd` says how the log's sector was read (R347, R350). -/
def execEvrFetchDone (k : Bank) (rd : SectorRead) (s : State) : Host.Outcome State Fault Refusal := .next (evrFetched k rd s)

/-- EVR_WIN3_READ: a requester's read of `EVR_WIN3` has been delivered; `cur` is the cursor when the beat was fetched
(R328, R351). -/
def execEvrWin3Read (q : Requester) (cur : Word) (s : State) : Host.Outcome State Fault Refusal :=
  let k := bankOf q s
  .next (if evrSideEffect k s && (evrBank k s).cur = cur then evrAdvance k s else s)

/-- Clear pending bits 32j to 32j + 31 of a bank (R353). -/
def clearPending (k : Bank) (j : Fin 8) (w : Word) : State → State :=
  onEvaBank k (fun x => { x with pend := x.pend &&& ~~~(w.setWidth 256 <<< (32 * j.val)) })

/-- EVA_CLEAR: a write of 1s to `EVA_PENDj` in the writer's own bank (R353). -/
def execEvaClear (q : Requester) (j : Fin 8) (w : Word) (s : State) : Host.Outcome State Fault Refusal :=
  .next (clearPending (bankOf q s) j w s)

/-- RING_DRAIN: a full sector of the hardware ring, or of firmware records, goes to the log window (R345, R347). -/
def execRingDrain (fw : Bool) (s : State) : Host.Outcome State Fault Refusal := .next (if fw then drainFw s else drainHw s)

/-- A minute passes outside the Reset condition (R356). -/
def minutePasses (s : State) : State :=
  if s.did.cond = .reset || s.did.cond = .unpowered then s else
  let m := satInc s.evr.opmin.minF
  let hits := m = 0xFFFFFF && !s.evr.opmin.sat
  let s := onEvr (fun e => { e with opmin := { minF := m, sat := e.opmin.sat || hits }, sincePeriodic := e.sincePeriodic + 1 }) s
  let s := if hits then saturated 0 s else s
  if 60 ≤ s.evr.sincePeriodic then s |> onEvr (fun e => { e with sincePeriodic := 0 }) |> recorderRecord 0xFF 0 3 0 else s

/-- OPERATING_MINUTE (R356). -/
def execOperatingMinute (s : State) : Host.Outcome State Fault Refusal := .next (minutePasses s)

/-- FLUSH_AREA_ERASE: with PFW_N high and fewer than two erased pages the area is erased (R348). -/
def execFlushAreaErase (o : FlashOp) (s : State) : Host.Outcome State Fault Refusal :=
  .next (if s.evr.running && !s.sup.pfw && s.nand.flushErased < 2 then
    onNand (fun n => { n with flush := [], flushErased := flushPages n }) (flashOp 6 false o s) else s)

/-- LOG_SECTOR_APPEND: the last word of `NVC_LOGWIN` is committed (R404). -/
def execLogSectorAppend (last : Word) (s : State) : Host.Outcome State Fault Refusal := .next (logWinWrite 127 last s)

/-- LOG_PAGE_PROGRAM: four sectors are staged, or 1 s has passed since the first (R404). -/
def execLogPageProgram (o : FlashOp) (s : State) : Host.Outcome State Fault Refusal :=
  .next (if s.nvc.staged.isEmpty then s else programPage (flashOp 7 false o s))

/-- Change a core's bank of the page window; a DMA channel uses its owner's (R403). -/
def onPage (k : Bank) (f : PageBank → PageBank) : State → State := onNvc (fun n =>
  match k with
  | .p => { n with pgP := f n.pgP }
  | .w => { n with pgW := f n.pgW }
  | _ => n)

/-- A write of `NVC_PGSEL`: the Policy Core selects pages of the LOG partition only (R403). -/
def writePgsel (k : Bank) (w : Word) (s : State) : State :=
  let sel := ({} : NvcPgsel).put w
  if k = .p && sel.part ≠ 7 then s else onPage k (fun _ => { sel := sel }) s

/-- NVC_PAGE_SELECT (R403). -/
def execNvcPageSelect (q : Requester) (w : Word) (s : State) : Host.Outcome State Fault Refusal :=
  .next (writePgsel (bankOf q s) w s)

/-- How many of a page's four sectors a mask names. -/
def sectorCount (m : BitVec 4) : Nat := m.cpop.toNat

/-- The page that a core's bank selects. -/
def pageSel (k : Bank) (s : State) : NvcPgsel := if k = .p then s.nvc.pgP.sel else s.nvc.pgW.sel

/-- NVC_PAGE_READY: the selected page's words are in the window; `bad` marks its uncorrectable sectors and `corr` those with 5
to 8 bits corrected. An uncorrectable sector of BOOT, a bank, CONFIG or SETTINGS retires its block (R380, R382, R403). -/
def pageReady (k : Bank) (words : List Word) (bad corr : BitVec 4) (s : State) : State :=
  let sel := pageSel k s
  let s := onPage k (fun x => { sel := { x.sel with ready := true }, win := words, bad := bad }) s
  let s := sectorsRead (sectorCount corr) (sectorCount bad) s
  if bad ≠ 0 && 1 ≤ sel.part.toNat && sel.part.toNat ≤ 5 then retireBlock sel.part.toNat (512 < sel.page.toNat) s else s

/-- NVC_PAGE_READY (R403). -/
def execNvcPageReady (k : Bank) (words : List Word) (bad corr : BitVec 4) (s : State) : Host.Outcome State Fault Refusal :=
  .next (pageReady k words bad corr s)

end Sys2Proof.Machine
end

