-- ==== Sys2Proof/Machine/RegMap.lean ====
section
/-!
DEFINITION. The registers by address (Tables 20.1 to 20.4): the word a read returns and what a permitted write does, block by
block, with the lock that governs each RWL field and the bank that each requester reaches (R4, R5, R428, R430).
-/

namespace Sys2Proof.Machine

/-! ## Requesters and banks (Table 20.4) -/

/-- The domain whose copy of the HST bank a requester reaches: its own, or that of domain A. -/
def hstDomain : Requester → Domain
  | .domB => .b | .domS => .s | _ => .a

/-- The requester has a bank, its own or its owner's. -/
def hasBank : Requester → Bool
  | .slaseLine => false | .recorder => false | _ => true

/-- The requester is the Warden Core, or acts for it. -/
def isWarden (q : Requester) (s : State) : Bool :=
  match q with
  | .warden => true
  | .dma c => (s.dma.get c).ctl.owner = 4
  | _ => false

/-! ## Reading a slice page (Table 20.1) -/

/-- `SLC_MBRX_STAT` as a read returns it. -/
def mbrxStatWord (m : SliceMb) : Word :=
  let h := m.rxq.head?
  ({ count := satField 3 m.rxq.length
     ctx := match h with | some e => ctxCode e.ctx | none => 0
     isCopy := match h with | some e => e.isCopy | none => false
     ovr := m.ovr, hrst := m.hrst, late := m.late
     len := match h with | some e => BitVec.ofNat 9 e.len | none => 0 } : SlcMbrxStat).toWord

/-- A mailbox register of an open port (offsets 0x400 to 0x7FF). -/
def readMbReg (m : SliceMb) (off : Nat) : Word :=
  if off = 0x400 then ({ ctx := m.ctx, len := m.len } : SlcMbtxCtl).toWord
  else if off = 0x404 then m.mbtxStat.toWord
  else if off = 0x408 then mbrxStatWord m
  else if off = 0x40C then ({ copy := m.copyOn } : SlcMbrxCtl).toWord
  else if off = 0x410 then
    match m.rxq with
    | e :: _ => ({ phase := e.phase, cnLo := e.cnLo } : SlcMbrxTime).toWord
    | [] => 0
  else if 0x440 ≤ off && off < 0x548 then m.txData.getD ((off - 0x440) / 4) 0
  else if 0x600 ≤ off && off < 0x708 then
    match m.rxq with
    | e :: _ => if off - 0x600 < e.len then e.words.getD ((off - 0x600) / 4) 0 else 0
    | [] => 0
  else 0

/-- A register of a snapshot set, by its place (R261). -/
def snapWord (x : SnapSet) (i : Nat) : Word :=
  if i = 0 then x.cn else if i = 1 then x.v.toWord else if i = 2 then x.i.toWord else if i = 3 then x.elo
  else if i = 4 then putField x.ehi 0 else if i = 5 then x.st.toWord else 0

/-- `SLC_GNTSTAT` as a read returns it (R16). -/
def gntstatWord (g : SliceGr) : Word :=
  ({ eff := BitVec.ofNat 12 g.eff, cap := g.cap, nosup := g.nosup } : SlcGntstat).toWord

/-- `SLC_VSET` as a read returns it. -/
def vsetWord (x : SlicePs) : Word :=
  ({ vset := satField 13 (x.vset / 10), vref := satField 13 (x.vrefMv / 10) } : SlcVset).toWord

/-- A register of the attach, message engine and contract blocks (offsets 0x100 to 0x3FF). -/
def readSlcLow (x : Slice) (off : Nat) : Word :=
  match off with
  | 0x100 => x.att.attcfg.toWord
  | 0x104 => x.att.attstat.toWord
  | 0x108 => x.att.ccmeas.toWord
  | 0x10C => x.att.vconn.toWord
  | 0x110 => x.att.attctl.toWord
  | 0x200 => x.pd.pdcfg.toWord
  | 0x204 => x.pd.pdstat.toWord
  | 0x208 => x.pd.pdcnt.toWord
  | 0x20C => x.pd.pdctl.toWord
  | 0x210 => x.pd.cblVdo
  | 0x214 => x.pd.cblVdo2
  | 0x218 => x.pd.cblId.toWord
  | 0x21C => x.pd.cblStat.toWord
  | 0x300 => x.off.offcfg.toWord
  | 0x304 => x.off.xcfg.toWord
  | 0x308 => x.off.proflim.toWord
  | 0x310 => x.off.contract.toWord
  | 0x314 => x.off.xstat.toWord
  | 0x31C => x.off.rdo
  | 0x320 => x.off.offctl.toWord
  | _ => 0

/-- A register of the power stage (offsets 0x800 to 0x8FF). -/
def readSlcPower (p : Port) (x : Slice) (off : Nat) : Word :=
  match off with
  | 0x800 => x.ps.pwmcfg.toWord
  | 0x804 => x.ps.pwmlim.toWord
  | 0x808 => x.ps.cmpb0.toWord
  | 0x80C => x.ps.cmpb1.toWord
  | 0x810 => x.ps.pscfg.toWord
  | 0x814 => x.ps.pwmph.toWord
  | 0x818 => x.ps.pwmofs.toWord
  | 0x81C => x.ps.psstat.toWord
  | 0x820 => x.ps.festat.toWord
  | 0x824 => x.ps.feres.toWord
  | 0x828 => x.ps.fevolt.toWord
  | 0x830 => x.ps.tlmV.toWord
  | 0x834 => x.ps.tlmI.toWord
  | 0x838 => x.ps.eno.setWidth 32
  | 0x83C => (x.ps.eno >>> 32).setWidth 32
  | 0x840 => if p.val < 2 then x.ps.eni.setWidth 32 else 0
  | 0x844 => if p.val < 2 then (x.ps.eni >>> 32).setWidth 32 else 0
  | 0x848 => vsetWord x.ps
  | 0x84C => x.ps.psctl.toWord
  | _ => 0

/-- A register of role swaps, protection, grants, snapshots and Thatch (offsets 0x900 to 0xFFF). -/
def readSlcHigh (p : Port) (x : Slice) (off : Nat) : Word :=
  match off with
  | 0x900 => if p.val < 2 then x.sw.swcfg.toWord else 0
  | 0x904 => x.sw.swstat.toWord
  | 0x908 => x.sw.swctl.toWord
  | 0xA00 => x.pr.prcfg.toWord
  | 0xA04 => x.pr.prtime.toWord
  | 0xA08 => x.pr.prretry.toWord
  | 0xA0C => if p.val < 2 then x.pr.snkpr.toWord else 0
  | 0xA10 => (cmpthr0 x).toWord
  | 0xA14 => (cmpthr1 x).toWord
  | 0xA18 => (cmplvl x).toWord
  | 0xA1C => x.pr.prstat.toWord
  | 0xA20 => x.pr.tripv.toWord
  | 0xA24 => x.pr.prctl.toWord
  | 0xB00 => x.gr.grant.toWord
  | 0xB04 => gntstatWord x.gr
  | 0xB08 => x.gr.ptnid.toWord
  | 0xD00 => x.th.thcfg.toWord
  | 0xD04 => thstatWord x.th
  | 0xD08 => x.th.thvdo
  | 0xD0C => x.th.rep0.toWord
  | 0xD10 => x.th.rep1.toWord
  | 0xD14 => x.th.rep2.toWord
  | 0xD18 => x.th.thcnt.toWord
  | 0xD1C => x.th.thdim.toWord
  | 0xD20 => x.th.thctl.toWord
  | _ =>
    if 0xC00 ≤ off && off < 0xC18 then snapWord x.snap ((off - 0xC00) / 4)
    else if 0xC20 ≤ off && off < 0xC38 then snapWord x.hold ((off - 0xC20) / 4)
    else 0

/-- `SLC_CMPTHR0`, `SLC_CMPTHR1` and `SLC_CMPLVL`, which hardware computes: before slice release they read their reset
value 0 (log 84). -/
def computedSlc (off : Nat) : Bool := off = 0xA10 || off = 0xA14 || off = 0xA18

/-- A register of a slice page. -/
def readSlc (p : Port) (off : Nat) (s : State) : Word :=
  let x := s.slice p
  if computedSlc off && s.did.boot.stage ≠ 7 then 0
  else if off < 0x400 then readSlcLow x off
  else if off < 0x800 then (if portOpen p x then readMbReg x.mb off else 0)
  else if off < 0x900 then readSlcPower p x off
  else readSlcHigh p x off

/-! ## Reading the shared core (Tables 20.2 and 20.3) -/

/-- `SUP_FLT` as a read returns it: ports in `PSTATE` 3 or 4, and the path latches. -/
def supFltWord (s : State) : Word :=
  ({ ports := BitVec.ofNat 24 ((allPorts.filter (portFaulted s)).map (fun p => 2 ^ p.val)).sum
     mainLatch := s.sup.main.latch, bkupLatch := s.sup.bkup.latch, mskSup := s.sup.mskSup } : SupFlt).toWord

/-- The low or high word of a shed row (R69). -/
def shedTableWord (r : ShedRow) (high : Bool) : Word :=
  if high then putField r.t4 0 ||| putField r.t5 8 ||| putField r.t6 16 ||| putField r.t7 24
  else putField (0xFF : Byte) 0 ||| putField r.t1 8 ||| putField r.t2 16 ||| putField r.t3 24

/-- A register of the supply block. -/
def readSup (off : Nat) (s : State) : Word :=
  let u := s.sup
  match off with
  | 0x000 => (supStat u).toWord
  | 0x004 => u.lock.toWord
  | 0x008 => u.vin.toWord
  | 0x00C => u.vaux.toWord
  | 0x010 => u.thrMain.toWord
  | 0x014 => u.thrBkup.toWord
  | 0x018 => u.hswMain.toWord
  | 0x01C => u.hswBkup.toWord
  | 0x020 => u.retry.toWord
  | 0x024 => u.time.toWord
  | 0x028 => (supRstat u).toWord
  | 0x02C => u.etest.toWord
  | 0x030 => u.etres.toWord
  | 0x034 => supFltWord s
  | 0x040 => shedTableWord u.shedMain false
  | 0x044 => shedTableWord u.shedMain true
  | 0x048 => shedTableWord u.shedBkup false
  | 0x04C => shedTableWord u.shedBkup true
  | 0x050 => shedTableWord u.shedCasc false
  | 0x054 => shedTableWord u.shedCasc true
  | 0x058 => shedTableWord u.shedEmg false
  | 0x05C => shedTableWord u.shedEmg true
  | 0x060 => putField u.tier0 0
  | 0x064 => putField u.tier1 0
  | 0x068 => putField u.tier2 0
  | _ => 0

/-- The port of an offset in a table of `step` bytes for each port. -/
def portAt (base step off : Nat) : Option Port :=
  if h : base ≤ off ∧ (off - base) / step < 24 then some ⟨(off - base) / step, h.2⟩ else none

/-- A register of the budget block. -/
def readBud (off : Nat) (s : State) : Word :=
  match off with
  | 0x000 => s.bud.cfg.toWord
  | 0x004 => s.bud.inp.toWord
  | 0x008 => s.bud.stat.toWord
  | 0x00C => s.bud.sum.toWord
  | 0x010 => s.bud.prof.toWord
  | _ =>
    if off < 0x0A0 then match portAt 0x040 4 off with
      | some p => (s.bud.ports.get p).pcfg.toWord
      | none => 0
    else match portAt 0x0A0 4 off with
      | some p => (s.bud.ports.get p).pstat.toWord
      | none => 0

/-- The sheaf of an offset. -/
def sheafAt (off : Nat) : Option (Fin 8) :=
  if h : 0x040 ≤ off ∧ (off - 0x040) / 32 < 8 then some ⟨(off - 0x040) / 32, h.2⟩ else none

/-- A register of the kiln block. -/
def readKln (off : Nat) (s : State) : Word :=
  if off = 0 then s.kln.stat.toWord
  else if off = 4 then s.kln.ctl.toWord
  else if off < 0x140 then
    match sheafAt off with
    | none => 0
    | some k =>
      let x := s.kln.sheaves.get k
      let i := off % 32
      if i = 0 then x.a.toWord else if i = 4 then x.b.toWord else if i = 8 then x.c.toWord
      else if i = 12 then x.d.toWord else if i = 16 then x.stat.toWord else 0
  else if off < 0x1A0 then
    match portAt 0x140 4 off with
    | some p => (s.kln.ports.get p).pcfg.toWord
    | none => 0
  else match portAt 0x1A0 8 off with
    | some p => if (off - 0x1A0) % 8 = 0 then (s.kln.ports.get p).a.toWord else (s.kln.ports.get p).b.toWord
    | none => 0

/-- `CYC_EPPH` with a phase: the epoch, and 0 for the phase before the clock runs. -/
def epphWord (phase : BitVec 16) (s : State) : Word :=
  ({ phase := if s.cyc.running then phase else 0, epoch := s.cyc.epoch } : CycEpph).toWord

/-- The timer of an offset. -/
def timerAt (off : Nat) : Option (Fin 8) :=
  if h : 0x100 ≤ off ∧ (off - 0x100) / 32 < 8 then some ⟨(off - 0x100) / 32, h.2⟩ else none

/-- A register of a timer, by its offset. -/
def timerWord (t : Timer) (i : Nat) : Word :=
  if i = 0 then t.ctl.toWord else if i = 4 then t.cnt else if i = 8 then t.top else if i = 12 then t.matchV
  else if i = 16 then t.load else if i = 20 then t.stat.toWord else 0

/-- The slot of an offset. -/
def slotAt (off : Nat) : Option (Fin 128) :=
  if h : 0x200 ≤ off ∧ (off - 0x200) / 4 < 128 then some ⟨(off - 0x200) / 4, h.2⟩ else none

/-- A register of the cycle block. The phase that `CYC_EPPH` shows is a free value: the model has no time within a cycle. -/
def readCyc (k : Bank) (off : Nat) (s : State) : Word :=
  let c := s.cyc
  let b := c.banks.get k
  match off with
  | 0x000 => cycStatWord s
  | 0x004 => c.cfg.toWord
  | 0x008 => c.cn
  | 0x00C => epphWord (Config.phaseNow s.free) s
  | 0x010 => c.len
  | 0x014 => c.zcper
  | 0x018 => BitVec.ofInt 32 c.perr
  | 0x01C => c.snapCn
  | 0x020 => putField c.snapSeq 0
  | 0x030 => b.ld0
  | 0x034 => b.ld1.toWord
  | 0x038 => b.ld2
  | 0x03C => b.ld3
  | 0x040 => ({ handle := c.handle } : CycLdctl).toWord
  | 0x044 => b.stat.toWord
  | 0x048 => c.ctl.toWord
  | _ =>
    if off < 0x200 then match timerAt off with
      | some k => timerWord (c.timers.get k) (off % 32)
      | none => 0
    else match slotAt off with
      | some k => slotWord (c.slots.get k)
      | none => 0

/-- The SlaseLine group register of an offset. -/
def grpAt (off : Nat) : Option (Fin 8) :=
  if h : 0x040 ≤ off ∧ (off - 0x040) / 4 < 8 then some ⟨(off - 0x040) / 4, h.2⟩ else none

/-- A register of the SlaseLine block. -/
def readSyn (k : Bank) (off : Nat) (s : State) : Word :=
  let y := s.syn
  let b := y.banks.get k
  match off with
  | 0x000 => y.stat.toWord
  | 0x004 => y.cfg.toWord
  | 0x008 => y.cfg2.toWord
  | 0x00C => y.cnt.toWord
  | 0x010 => b.cmd
  | 0x014 => ({ b.stat with queued := satField 3 y.queue.length } : SynTxstat).toWord
  | 0x018 => b.tx0.toWord
  | 0x01C => b.tx1
  | 0x020 => b.tx2
  | 0x024 => b.tx3
  | 0x028 => b.tx4.toWord
  | 0x030 => y.ctl.toWord
  | _ => match grpAt off with
    | some g => y.grp.get g
    | none => 0

/-- A register of the host block. -/
def readHst (d : Domain) (off : Nat) (s : State) : Word :=
  let b := s.hst.bank d
  match off with
  | 0x000 => s.hst.cfg.toWord
  | 0x004 => hstStatWord d s
  | 0x008 => b.cnt.toWord
  | 0x00C => s.hst.ctl.toWord
  | 0x010 => b.lastwr
  | 0x014 => b.lastwd
  | 0x018 => b.lastwn.toWord
  | 0x020 => ({ cmd := b.mbcmd } : HstMbcmd).toWord
  | 0x024 => b.mbarg
  | 0x028 => b.mbstat.toWord
  | 0x02C => b.mbres
  | _ => 0

/-- The window set and window of an offset. -/
def windowAt (off : Nat) : Option (Fin 7 × Fin 32) :=
  if h : 0x400 ≤ off ∧ (off - 0x400) / 256 < 7 then
    some (⟨(off - 0x400) / 256, h.2⟩, ⟨(off - 0x400) % 256 / 8, by have := Nat.mod_lt (off - 0x400) (by decide : 0 < 256); omega⟩)
  else none

/-- `FAB_STAT` as a read returns it. -/
def fabStatWord (a : Arbiter) : Word :=
  ({ owner := match a.owner with | some i => BitVec.ofNat 3 i.val | none => 0
     owned := a.owner.isSome, resv := a.owner.isSome && a.resv, owed := a.owed } : FabStat).toWord

/-- A register of the fabric block. -/
def readFab (off : Nat) (s : State) : Word :=
  let f := s.fab
  match off with
  | 0x000 => f.cfg.toWord
  | 0x004 => fabStatWord f.arb
  | 0x008 => mapctlWord f
  | 0x00C => f.prot.toWord
  | 0x010 => f.flt0
  | 0x014 => f.flt1.toWord
  | 0x018 => f.ecc.toWord
  | 0x01C => f.cnt.toWord
  | _ => match windowAt off with
    | some (k, i) => let w := (f.pend.get k).get i; if off % 8 = 0 then w.wb.toWord else w.wa.toWord
    | none => 0

/-- The channel of an offset. -/
def chanAt (off : Nat) : Option (Fin 16) :=
  if h : 0x100 ≤ off ∧ (off - 0x100) / 32 < 16 then some ⟨(off - 0x100) / 32, h.2⟩ else none

/-- A map of the channels in a state. -/
def chanMap (st : BitVec 3) (s : State) : BitVec 16 :=
  BitVec.ofNat 16 ((allChannels.filter (fun c => (s.dma.get c).stat.state == st)).map (fun c => 2 ^ c.val)).sum

/-- A register of the DMA block. -/
def readDma (off : Nat) (s : State) : Word :=
  if off = 0 then ({ run := chanMap 2 s, flt := chanMap 5 s } : DmaStat).toWord
  else match chanAt off with
    | none => 0
    | some c =>
      let x := s.dma.get c
      let i := off % 32
      if i = 0 then x.ctl.toWord else if i = 4 then x.first else if i = 8 then x.cur else if i = 12 then x.cnt
      else if i = 16 then x.stat.toWord else if i = 20 then x.faddr else 0

/-- `EVR_STAT` as a read returns it. -/
def evrStatWord (s : State) : Word :=
  ({ undrained := satField 12 (undrained s.evr), f75 := s.evr.f75, flushrdy := s.evr.running && s.nand.flushErased ≠ 0
     lost := s.evr.lost } : EvrStat).toWord

/-- A banked register of the reading window (R350). -/
def readEvrBank (k : Bank) (off : Nat) (s : State) : Word :=
  let x := evrBank k s
  match off with
  | 0x004 => x.src.toWord
  | 0x008 => x.cur
  | 0x00C => ({ ready := x.ready, stale := evrStale x s, empty := s.evr.running && evrEmpty x s } : EvrRstat).toWord
  | 0x010 => evrOldest x s
  | 0x014 => evrNext x s
  | 0x020 => evrWin x 0 s
  | 0x024 => evrWin x 1 s
  | 0x028 => evrWin x 2 s
  | 0x02C => evrWin x 3 s
  | _ => 0

/-- A register of the event recorder. -/
def readEvr (q : Requester) (off : Nat) (s : State) : Word :=
  match off with
  | 0x000 => evrStatWord s
  | 0x018 => s.evr.drain
  | 0x01C => s.evr.fwSeq
  | 0x030 => s.evr.opmin.toWord
  | 0x034 => s.evr.pcc.toWord
  | 0x038 => s.evr.boot
  | _ => if hasBank q then readEvrBank (bankOf q s) off s else 0

/-- Word `j` of a 128-bit map. -/
def mapWord (m : BitVec 128) (j : Nat) : Word := m.extractLsb' (32 * j) 32

/-- The OTP word of an offset in a table. -/
def otpAt (base off : Nat) : Option (Fin 128) :=
  if h : base ≤ off ∧ (off - base) / 4 < 128 then some ⟨(off - base) / 4, h.2⟩ else none

/-- A register of the OTP block. The shadows of the device secret read 0 (R363). -/
def readOtp (off : Nat) (s : State) : Word :=
  let o := s.otp
  let j := off % 16 / 4
  if off = 0x000 then (otpStat o).toWord
  else if off = 0x004 then o.lock.toWord
  else if off = 0x008 then o.burn.toWord
  else if off = 0x00C then o.bdata
  else if off = 0x010 then o.bstat.toWord
  else if off < 0x020 then 0
  else if off < 0x030 then mapWord o.wr j
  else if off < 0x040 then mapWord o.mg j
  else if off < 0x050 then mapWord o.uc j
  else if off < 0x060 then mapWord o.bl j
  else if off < 0x070 then mapWord o.ad j
  else if off < 0x080 then mapWord o.ov j
  else if off < 0x090 then (o.spares.get (⟨j, by omega⟩ : Fin 4)).toWord
  else if off < 0x100 then 0
  else if off < 0x300 then
    match otpAt 0x100 off with
    | some w => if 16 ≤ w.val && w.val ≤ 23 then 0 else o.shd.get w
    | none => 0
  else match otpAt 0x300 off with
    | some w => o.ovr.get w
    | none => 0

/-- `LCU_BANK` as a read returns it. -/
def lcuBankWord (s : State) : Word :=
  ({ active := s.lcu.active, trial := s.lcu.trial, st0 := s.nand.bank0.st, st1 := s.nand.bank1.st, cfgSlot := s.lcu.cfgSlot } : LcuBank).toWord

/-- A register of the update block. The bank registers are loaded from the newest pointer record, at step 3 (R420). -/
def readLcu (off : Nat) (s : State) : Word :=
  match off with
  | 0x000 => upstatWord s.lcu
  | 0x004 => BitVec.ofNat 32 s.lcu.rcvd
  | 0x008 => if s.did.wiped then lcuBankWord s else 0
  | 0x00C => if s.did.wiped then s.nand.bank0.ver else 0
  | 0x010 => if s.did.wiped then s.nand.bank1.ver else 0
  | 0x014 => ({ baud := s.lcu.baud, badfr := s.lcu.badfr } : LcuSvc).toWord
  | 0x040 => (lcstat s.otp).toWord
  | _ => 0

/-- The auxiliary value of an offset. -/
def auxAt (off : Nat) : Option (Fin 5) :=
  if h : 0x010 ≤ off ∧ (off - 0x010) / 4 < 5 then some ⟨(off - 0x010) / 4, h.2⟩ else none

/-- A register of the auxiliary block. -/
def readAux (off : Nat) (s : State) : Word :=
  if off = 0 then s.aux.cfg.toWord
  else if off = 4 then s.aux.stat.toWord
  else match auxAt off with
    | some k => (s.aux.vals.get k).toWord
    | none => 0

/-- `NVC_LOGSTAT` as a read returns it (R404). -/
def logstatWord (n : Nvc) : Word :=
  ({ free := satField 4 (8 - n.staged.length), staged := BitVec.ofNat 3 (n.staged.length % 4), ovf := n.ovf, incompl := n.incompl } : NvcLogstat).toWord

/-- A core's bank of the page window. -/
def pageBank (k : Bank) (s : State) : PageBank := if k = .p then s.nvc.pgP else s.nvc.pgW

/-- A register of the NAND controller. -/
def readNvc (k : Bank) (off : Nat) (s : State) : Word :=
  let n := s.nvc
  match off with
  | 0x000 => n.stat.toWord
  | 0x004 => n.err.toWord
  | 0x008 => n.wear.toWord
  | 0x010 => n.cfgId
  | 0x014 => n.cfgRev
  | 0x018 => n.cfgstat.toWord
  | 0x01C => n.cfgrej.toWord
  | 0x020 => n.cfgdrop.toWord
  | 0x024 => n.setstat.toWord
  | 0x030 => (pageBank k s).sel.toWord
  | 0x034 => logstatWord n
  | _ =>
    if 0x800 ≤ off then (if (pageBank k s).sel.ready then (pageBank k s).win.getD ((off - 0x800) / 4) 0 else 0) else 0

/-- `EVA_FIRST`: the lowest source that is pending and enabled, 0x1FF when there is none. -/
def evaFirst (x : EvaBank) : Word :=
  match (List.range 256).find? (fun i => x.live.getLsbD i) with
  | some i => ({ src := BitVec.ofNat 9 i } : EvaFirst).toWord
  | none => ({} : EvaFirst).toWord

/-- A register of the event aggregator (R353). -/
def readEva (k : Bank) (off : Nat) (s : State) : Word :=
  let x := evaBank k s
  if off < 0x020 then x.pend.extractLsb' (8 * off) 32
  else if off < 0x040 then x.mask.extractLsb' (8 * (off - 0x020)) 32
  else if off = 0x040 then evaFirst x
  else 0

/-- A register of the identity block (Table 20.3). -/
def readDid (off : Nat) (s : State) : Word :=
  match off with
  | 0x000 => s.did.part.toWord
  | 0x004 => ({} : DidIfver).toWord
  | 0x008 => ({} : DidFeat).toWord
  | 0x00C => s.did.fwrun
  | 0x010 => (didStat s.did).toWord
  | 0x014 => s.did.rstc.toWord
  | 0x018 => s.did.strap.toWord
  | 0x01C => s.did.boot.toWord
  | 0x020 => ({ tdie := s.did.temp } : DidTemp).toWord
  | _ => 0

/-- A register of a page of the shared core. -/
def readShared (q : Requester) (page off : Nat) (s : State) : Word :=
  match page with
  | 0 => readSup off s
  | 1 => readBud off s
  | 2 => readKln off s
  | 3 => readCyc (bankOf q s) off s
  | 4 => readSyn (bankOf q s) off s
  | 5 => readHst (hstDomain q) off s
  | 6 => readFab off s
  | 7 => readDma off s
  | 8 => readEvr q off s
  | 9 => readOtp off s
  | 10 => readLcu off s
  | 11 => readAux off s
  | 12 => readNvc (bankOf q s) off s
  | 13 => if hasBank q then readEva (bankOf q s) off s else 0
  | 15 => readDid off s
  | _ => 0

/-- The base of the register space. -/
def regBase : Nat := 0x40000000

/-- The base of the shared core's pages. -/
def sharedBase : Nat := 0x40020000

/-- The address lies in the register space. -/
def isReg (a : Nat) : Bool := regBase ≤ a && a < 0x40030000

/-- The slice whose page holds an address. -/
def sliceAt (a : Nat) : Option Port :=
  if h : regBase ≤ a ∧ (a - regBase) / 0x1000 < 24 then some ⟨(a - regBase) / 0x1000, h.2⟩ else none

/-- The word a read of a register address returns; an address no table lists reads 0 (R428). -/
def readReg (q : Requester) (a : Nat) (s : State) : Word :=
  match sliceAt a with
  | some p => readSlc p (a % 0x1000) s
  | none => if sharedBase ≤ a then readShared q ((a - sharedBase) / 0x1000) (a % 0x1000) s else 0

/-! ## Writing a slice page -/

/-- Before the slices are released, a control register's actions have no port to act on: only its lock bit is written. -/
def ctlWord (w : Word) (s : State) : Word := if s.did.released then w else w &&& 1

/-- A write of an attach, message engine or contract register. -/
def writeSlcLow (p : Port) (off : Nat) (w : Word) (s : State) : State :=
  match off with
  | 0x100 => onAtt p (fun x => { x with attcfg := x.attcfg.put x.attctl.cfgLk w }) s
  | 0x110 => writeAttctl p (ctlWord w s) s
  | 0x200 => onPd p (fun x => { x with pdcfg :=
      let c := x.pdcfg.put x.pdctl.cfgLk w
      if p.val < 4 then c else { c with openF := false, hostrx := false } }) s
  | 0x20C => writePdctl p w s
  | 0x300 => onOff p (fun x => { x with offcfg := x.offcfg.put x.offctl.cfgLk w }) s
  | 0x304 => onOff p (fun x => { x with xcfg := x.xcfg.put x.offctl.cfgLk w }) s
  | 0x308 => writeProflim p ((s.slice p).off.proflim.put w) s
  | 0x318 => writeXctl p (if s.did.released then w else 0) s
  | 0x320 => onOff p (fun x => { x with offctl := x.offctl.put w }) s
  | _ => s

/-- A write of a mailbox register (R134 to R138). -/
def writeMbReg (p : Port) (off : Nat) (w : Word) (s : State) : State :=
  if 4 ≤ p.val then s
  else if off = 0x400 then writeMbtxCtl p (if s.did.released then w else w &&& ~~~(0x30 : Word)) s
  else if !portOpen p (s.slice p) then s
  else if off = 0x408 then
    onMb p (fun m => { m with ovr := m.ovr && !getBit w 8, hrst := m.hrst && !getBit w 9, late := m.late && !getBit w 10 }) s
  else if off = 0x40C then writeMbrxCtl p w s
  else if 0x440 ≤ off && off < 0x548 then
    onMb p (fun m => { m with
      txData := (List.range 66).map (fun i => if i = (off - 0x440) / 4 then w else m.txData.getD i 0) }) s
  else s

/-- A write of a power-stage register. -/
def writeSlcPower (p : Port) (off : Nat) (w : Word) (s : State) : State :=
  match off with
  | 0x800 => onPs p (fun x => { x with pwmcfg := x.pwmcfg.put x.psctl.cfgLk w }) s
  | 0x804 => onPs p (fun x => { x with pwmlim := x.pwmlim.put x.psctl.cfgLk w }) s
  | 0x808 => onPs p (fun x => { x with cmpb0 := x.cmpb0.put x.psctl.cfgLk w }) s
  | 0x80C => onPs p (fun x => { x with cmpb1 := x.cmpb1.put x.psctl.cfgLk w }) s
  | 0x810 => onPs p (fun x => { x with pscfg := x.pscfg.put x.psctl.cfgLk w }) s
  | 0x814 => writePwmph p w s
  | 0x81C => onPs p (fun x => { x with psstat := x.psstat.put w }) s
  | 0x84C => onPs p (fun x => { x with psctl := x.psctl.put w }) s
  | _ => s

/-- A write of a role-swap, protection, grant or Thatch register; of `SLC_GRANT` only by the Policy Core (R232). -/
def writeSlcHigh (q : Requester) (p : Port) (off : Nat) (w : Word) (s : State) : State :=
  match off with
  | 0x900 => if p.val < 2 then onSw p (fun x => { x with swcfg := x.swcfg.put x.swctl.cfgLk w }) s else s
  | 0x908 => if p.val < 2 then writeSwctl p (ctlWord w s) s else s
  | 0xA00 => onPr p (fun x => { x with prcfg := x.prcfg.put x.prctl.cfgLk w }) s
  | 0xA04 => onPr p (fun x => { x with prtime := x.prtime.put x.prctl.cfgLk w }) s
  | 0xA08 => onPr p (fun x => { x with prretry := x.prretry.put x.prctl.cfgLk w }) s
  | 0xA0C => if p.val < 2 then onPr p (fun x => { x with snkpr := x.snkpr.put x.prctl.cfgLk w }) s else s
  | 0xA24 => writePrctl p (ctlWord w s) s
  | 0xB00 => if q = .policy then setGrant p ((s.slice p).gr.grant.put w) s else s
  | 0xD00 => onTh p (fun x => { x with thcfg := x.thcfg.put x.thctl.cfgLk w }) s
  | 0xD20 => writeThctl p (ctlWord w s) s
  | _ => s

/-- A write of a register of a slice page. -/
def writeSlc (q : Requester) (p : Port) (off : Nat) (w : Word) (s : State) : State :=
  if off < 0x400 then writeSlcLow p off w s
  else if off < 0x800 then writeMbReg p off w s
  else if off < 0x900 then writeSlcPower p off w s
  else writeSlcHigh q p off w s

/-! ## Writing the shared core -/

/-- A write of the low or high word of a shed row, which its lock ends; tier 0 is fixed. -/
def ShedRow.putWord (lk high : Bool) (w : Word) (r : ShedRow) : ShedRow := if lk then r else shedWord high w r

/-- A write of a register of the supply block. -/
def writeSup (off : Nat) (w : Word) (s : State) : State :=
  let lk := s.sup.lock.cfgLk
  match off with
  | 0x004 => onSup (fun u => { u with lock := u.lock.put w }) s
  | 0x010 => onSup (fun u => { u with thrMain := u.thrMain.put lk w }) s
  | 0x014 => onSup (fun u => { u with thrBkup := u.thrBkup.put lk w }) s
  | 0x018 => onSup (fun u => { u with hswMain := u.hswMain.put lk w }) s
  | 0x01C => onSup (fun u => { u with hswBkup := u.hswBkup.put lk w }) s
  | 0x020 => onSup (fun u => { u with retry := u.retry.put lk w }) s
  | 0x024 => onSup (fun u => { u with time := u.time.put lk w }) s
  | 0x028 => writeSupRstat w s
  | 0x02C => writeSupEtst w s
  | 0x034 => onSup (fun u => { u with mskSup := getBit w 31 }) s
  | 0x040 => onSup (fun u => { u with shedMain := u.shedMain.putWord lk false w }) s
  | 0x044 => onSup (fun u => { u with shedMain := u.shedMain.putWord lk true w }) s
  | 0x048 => onSup (fun u => { u with shedBkup := u.shedBkup.putWord lk false w }) s
  | 0x04C => onSup (fun u => { u with shedBkup := u.shedBkup.putWord lk true w }) s
  | 0x050 => onSup (fun u => { u with shedCasc := u.shedCasc.putWord lk false w }) s
  | 0x054 => onSup (fun u => { u with shedCasc := u.shedCasc.putWord lk true w }) s
  | 0x058 => onSup (fun u => { u with shedEmg := u.shedEmg.putWord lk false w }) s
  | 0x05C => onSup (fun u => { u with shedEmg := u.shedEmg.putWord lk true w }) s
  | 0x060 => onSup (fun u => { u with tier0 := if lk then u.tier0 else getField w 0 24 }) s
  | 0x064 => onSup (fun u => { u with tier1 := if lk then u.tier1 else getField w 0 24 }) s
  | 0x068 => onSup (fun u => { u with tier2 := if lk then u.tier2 else getField w 0 24 }) s
  | _ => s

/-- A write of a register of the budget block. -/
def writeBud (off : Nat) (w : Word) (s : State) : State :=
  let lk := s.bud.cfg.cfgLk
  if off = 0x000 then { s with bud := { s.bud with cfg := s.bud.cfg.put lk w } }
  else if off = 0x004 then { s with bud := { s.bud with inp := s.bud.inp.put lk w } }
  else if off < 0x0A0 then
    match portAt 0x040 4 off with
    | some p => onPortBud p (fun b => { b with pcfg := b.pcfg.put lk w }) s
    | none => s
  else s

/-- A write of a register of the kiln block. -/
def writeKln (off : Nat) (w : Word) (s : State) : State :=
  let lk := s.kln.ctl.cfgLk
  if off = 4 then { s with kln := { s.kln with ctl := s.kln.ctl.put w } }
  else if off < 0x140 then
    match sheafAt off with
    | none => s
    | some k =>
      let i := off % 32
      onSheaf k (fun x =>
        if i = 0 then { x with a := x.a.put lk w } else if i = 4 then { x with b := x.b.put lk w }
        else if i = 8 then { x with c := x.c.put lk w } else if i = 12 then { x with d := x.d.put lk w } else x) s
  else if off < 0x1A0 then
    match portAt 0x140 4 off with
    | some p => onPortKln p (fun x => { x with pcfg := x.pcfg.put lk w }) s
    | none => s
  else s

/-- A write of a register of a timer. -/
def Timer.putWord (i : Nat) (w : Word) (t : Timer) : Timer :=
  if i = 0 then { t with ctl := t.ctl.put w } else if i = 4 then { t with cnt := w } else if i = 8 then { t with top := w }
  else if i = 12 then { t with matchV := w } else if i = 16 then { t with load := w }
  else if i = 20 then { t with stat := t.stat.put w } else t

/-- A write of a register of the cycle block. The phase at which GO acts is a free value. -/
def writeCyc (q : Requester) (off : Nat) (w : Word) (s : State) : State :=
  let k := bankOf q s
  match off with
  | 0x000 => { s with cyc := { s.cyc with renum := s.cyc.renum && !getBit w 6 } }
  | 0x004 => { s with cyc := { s.cyc with cfg := s.cyc.cfg.put s.cyc.ctl.cfgLk w } }
  | 0x030 => onLdBank k (fun b => { b with ld0 := w }) s
  | 0x034 => onLdBank k (fun b => { b with ld1 := b.ld1.put w }) s
  | 0x038 => onLdBank k (fun b => { b with ld2 := w }) s
  | 0x03C => onLdBank k (fun b => { b with ld3 := w }) s
  | 0x040 => writeLdctl q (Config.phaseNow s.free) w (takeFree s)
  | 0x048 => { s with cyc := { s.cyc with ctl := s.cyc.ctl.put w } }
  | _ =>
    if off < 0x200 then match timerAt off with
      | some k => onTimer k (Timer.putWord (off % 32) w) s
      | none => s
    else s

/-- Change a requester's bank of the SlaseLine transmit registers. -/
def onTxBank (k : Bank) (f : SynBank → SynBank) (s : State) : State :=
  { s with syn := { s.syn with banks := s.syn.banks.upd k f } }

/-- A write of a register of the SlaseLine block. -/
def writeSyn (q : Requester) (off : Nat) (w : Word) (s : State) : State :=
  let k := bankOf q s
  let lk := s.syn.ctl.cfgLk
  match off with
  | 0x004 => { s with syn := { s.syn with cfg := s.syn.cfg.put lk w } }
  | 0x008 => { s with syn := { s.syn with cfg2 := s.syn.cfg2.put lk w } }
  | 0x018 => onTxBank k (fun b => { b with tx0 := b.tx0.put w }) s
  | 0x01C => onTxBank k (fun b => { b with tx1 := w }) s
  | 0x020 => onTxBank k (fun b => { b with tx2 := w }) s
  | 0x024 => onTxBank k (fun b => { b with tx3 := w }) s
  | 0x028 => onTxBank k (fun b => { b with tx4 := b.tx4.put w }) s
  | 0x02C => if getBit w 0 then synGo q s else s
  | 0x030 => writeSynCtl w s
  | _ => match grpAt off with
    | some g => if lk then s else { s with syn := { s.syn with grp := s.syn.grp.set g.val w g.isLt } }
    | none => s

/-- A write of a register of the host block; GO acts with the argument that stands in the bank. -/
def writeHst (d : Domain) (off : Nat) (w : Word) (s : State) : State :=
  match off with
  | 0x000 => { s with hst := { s.hst with cfg := s.hst.cfg.put s.hst.ctl.cfgLk w } }
  | 0x00C => writeHstCtl d w s
  | 0x020 =>
    let s := onHst d (fun b => { b with mbcmd := getField w 0 8 }) s
    if getBit w 8 then mailboxGo d s else s
  | 0x024 => onHst d (fun b => { b with mbarg := w }) s
  | _ => s

/-- A write of a register of the fabric block, which the Warden Core alone makes (R330). -/
def writeFab (q : Requester) (off : Nat) (w : Word) (s : State) : State :=
  if !isWarden q s then s
  else if off = 0x000 then { s with fab := { s.fab with cfg := s.fab.cfg.put s.fab.cfg.cfgLk w } }
  else if off = 0x008 then (if getBit w 0 then mapApply s else s)
  else if off = 0x00C then { s with fab := { s.fab with prot := s.fab.prot.put s.fab.prot.lk w } }
  else match windowAt off with
    | some (k, i) =>
      onWindow k i (fun x => if off % 8 = 0 then { x with wb := x.wb.put w } else { x with wa := x.wa.put w }) s
    | none => s

/-- A write of `DMA_CHc_CTL`: its fields, ARM, START, ABORT, and the disarming of a channel that does not run (R335,
R339). -/
def writeDmaCtl (k : Bank) (c : Fin 16) (w : Word) (s : State) : State :=
  let s := onDma c (fun x => { x with ctl := { x.ctl with burst := getField w 8 7, ring := getBit w 16 } }) s
  let s := if getBit w 0 then onDma c (DmaCh.armBy k) s else s
  let s := if getBit w 1 then dmaStartBy k c s else s
  let s := if getBit w 2 then dmaAbortBy k c s else s
  if getBit w 0 then s else
  onDma c (fun x =>
    if x.stat.state = 2 then x
    else { x with ctl := { x.ctl with arm := false }, stat := { x.stat with state := if x.stat.state = 1 then 0 else x.stat.state } }) s

/-- A write of a register of the DMA block. -/
def writeDma (q : Requester) (off : Nat) (w : Word) (s : State) : State :=
  match chanAt off with
  | none => s
  | some c =>
    let i := off % 32
    if !hasBank q then s
    else if i = 0 then writeDmaCtl (bankOf q s) c w s
    else if i = 4 then onDma c (fun x => { x with first := w }) s
    else if i = 16 then onDma c (fun x => { x with stat := x.stat.put w }) s
    else s

/-- A write of a register of the event recorder. -/
def writeEvr (q : Requester) (off : Nat) (w : Word) (s : State) : State :=
  if off = 0x004 && hasBank q then writeCursor q true w s
  else if off = 0x008 && hasBank q then writeCursor q false w s
  else s

/-- A write of a register of the OTP block, which the Warden Core alone makes (R364). -/
def writeOtp (q : Requester) (off : Nat) (w : Word) (s : State) : State :=
  if !isWarden q s then s
  else if off = 0x004 then setSticky w s
  else if off = 0x008 then writeBurn w s
  else if off = 0x00C then onOtp (fun o => { o with bdata := w }) s
  else if 0x300 ≤ off then
    match otpAt 0x300 off with
    | some j => writeOverride j w s
    | none => s
  else s

/-- A write of a register of the NAND controller; the fabric lets only cores and their channels come here (R403). -/
def writeNvc (q : Requester) (off : Nat) (w : Word) (s : State) : State :=
  if off = 0x030 then writePgsel (bankOf q s) w s
  else if 0x200 ≤ off && off < 0x400 then logWinWrite ((off - 0x200) / 4) w s
  else s

/-- A write of word `j` of the masks of a bank. -/
def EvaBank.putMask (j : Nat) (w : Word) (x : EvaBank) : EvaBank :=
  { x with mask := (x.mask &&& ~~~((0xFFFFFFFF : BitVec 256) <<< (32 * j))) ||| (w.setWidth 256 <<< (32 * j)) }

/-- A write of a register of the event aggregator (R353). -/
def writeEva (k : Bank) (off : Nat) (w : Word) (s : State) : State :=
  if h : off < 0x020 then clearPending k ⟨off / 4, by omega⟩ w s
  else if off < 0x040 then onEvaBank k (EvaBank.putMask ((off - 0x020) / 4) w) s
  else s

/-- A write of a register of a page of the shared core. -/
def writeShared (q : Requester) (page off : Nat) (w : Word) (s : State) : State :=
  match page with
  | 0 => writeSup off w s
  | 1 => writeBud off w s
  | 2 => writeKln off w s
  | 3 => if hasBank q then writeCyc q off w s else s
  | 4 => if hasBank q then writeSyn q off w s else s
  | 5 => writeHst (hstDomain q) off w s
  | 6 => writeFab q off w s
  | 7 => writeDma q off w s
  | 8 => writeEvr q off w s
  | 9 => writeOtp q off w s
  | 11 => if off = 0 then { s with aux := { s.aux with cfg := s.aux.cfg.put s.aux.cfg.cfgLk w } } else s
  | 12 => writeNvc q off w s
  | 13 => if hasBank q then writeEva (bankOf q s) off w s else s
  | _ => s

/-- A permitted write of a register address; an address no table lists takes no effect (R428). -/
def writeReg (q : Requester) (a : Nat) (w : Word) (s : State) : State :=
  match sliceAt a with
  | some p => writeSlc q p (a % 0x1000) w s
  | none => if sharedBase ≤ a then writeShared q ((a - sharedBase) / 0x1000) (a % 0x1000) w s else s

end Sys2Proof.Machine
end

