-- ==== Sys2Proof/Machine/Fabric.lean ====
section
/-!
DEFINITION. The fabric: the arbiter, bursts and beats, ECC results and the DMA engine (R319 to R340).
-/

namespace Sys2Proof.Machine

/-! ## The arbiter (R323) -/

/-- One requester's request: held, its class, and its age in clocks. -/
structure ArbReq where
  held : Bool := false
  cls : Nat := 0
  age : Nat := 0
deriving DecidableEq, Repr

/-- The eight requester indices, lowest first. -/
def arbIndices : List (Fin 8) := [0, 1, 2, 3, 4, 5, 6, 7]

/-- `i` goes before `j` in `best`: higher class, then higher age, then lower index. -/
def arbBefore (r : Vector ArbReq 8) (i j : Fin 8) : Bool :=
  (r.get j).cls < (r.get i).cls
    || ((r.get i).cls == (r.get j).cls
        && ((r.get j).age < (r.get i).age || ((r.get i).age == (r.get j).age && i.val < j.val)))

/-- `i` goes before `j` in `oldest`: higher age, then lower index. -/
def arbOlder (r : Vector ArbReq 8) (i j : Fin 8) : Bool :=
  (r.get j).age < (r.get i).age || ((r.get i).age == (r.get j).age && i.val < j.val)

/-- The candidate that goes before all the others. -/
def arbPick (before : Fin 8 → Fin 8 → Bool) : List (Fin 8) → Option (Fin 8)
  | [] => none
  | i :: rest =>
    match arbPick before rest with
    | none => some i
    | some j => if before j i then some j else some i

/-- The requests held, but for the owner's. -/
def arbCands (r : Vector ArbReq 8) (owner : Option (Fin 8)) : List (Fin 8) :=
  arbIndices.filter (fun i => (r.get i).held && owner != some i)

/-- A free clock: the reserved grant when one is owed or due, else the best request (R323). -/
def arbFree (n : Nat) (r : Vector ArbReq 8) (a : Arbiter) : Arbiter :=
  let a := { a with owner := none }
  let c := arbCands r none
  if a.owed || n - 1 ≤ a.since then
    match arbPick (arbOlder r) c with
    | none => a
    | some i => { owner := some i, resv := true, owed := false, since := 0 }
  else
    match arbPick (arbBefore r) c with
    | none => a
    | some i => { owner := some i, resv := false, owed := a.owed, since := a.since + 1 }

/-- One fabric clock of R323; `fixed` says that the owner's grant is locked or that the clock is its commit clock. -/
def arbClock (n : Nat) (r : Vector ArbReq 8) (fixed : Bool) (a : Arbiter) : Arbiter :=
  match a.owner with
  | none => arbFree n r a
  | some o =>
    if fixed then a
    else if (r.get o).held then
      match arbPick (arbBefore r) (arbCands r (some o)) with
      | none => a
      | some w =>
        if (r.get o).cls < (r.get w).cls && (!a.resv || (r.get w).cls == 3) then
          { owner := some w, resv := false, owed := a.owed || a.resv, since := a.since + 1 }
        else a
    else arbFree n r a

/-- N of R323. -/
def arbN (s : State) : Nat := clampNat 2 16 s.fab.cfg.nres.toNat

/-- The class a requester's requests carry (Table 15.1, R340). -/
def reqClass (q : Requester) (s : State) : Nat :=
  match q with
  | .domA => 0 | .domB => 0 | .domS => 0 | .policy => 2 | .warden => 3 | .slaseLine => 1 | .recorder => 1
  | .dma c => if (s.dma.get c).ctl.ring && s.evr.f75 then 2 else 1

/-- A requester's index as an arbiter index. -/
def reqFin (q : Requester) : Fin 8 := ⟨(reqIndex q).toNat, (reqIndex q).isLt⟩

/-- The requests when only some requesters ask, all raised in this clock. -/
def onlyReqs (l : List (Fin 8 × Nat)) : Vector ArbReq 8 :=
  Vector.ofFn (fun i => match l.find? (fun x => x.1 == i) with
    | some x => { held := true, cls := x.2 }
    | none => {})

/-- The arbiter decides; a reserved grant is counted. -/
def arbStep (r : Vector ArbReq 8) (s : State) : State :=
  let a := arbClock (arbN s) r false s.fab.arb
  let fresh := a.resv && a.owner.isSome && a ≠ s.fab.arb
  { s with fab := { s.fab with arb := a, cnt := if fresh then { s.fab.cnt with resv := s.fab.cnt.resv + 1 } else s.fab.cnt } }

/-- The grant that a requester's burst takes. -/
def grantTo (q : Requester) (s : State) : State := arbStep (onlyReqs [(reqFin q, reqClass q s)]) s

/-- The burst has ended, and the clock after it is free. -/
def grantEnd (s : State) : State := { s with fab := { s.fab with arb := { s.fab.arb with owner := none } } }

/-- A class-3 request of the Warden Core preempts the requester's burst, which restarts when the preemptor has ended
(R324). -/
def preemptOnce (q : Requester) (s : State) : State :=
  let s := arbStep (onlyReqs [(reqFin q, reqClass q s), (4, 3)]) s
  let s := { s with fab := { s.fab with cnt := { s.fab.cnt with preempt := satInc s.fab.cnt.preempt } } }
  grantTo q s

/-- `n` preemptions of the requester's burst. -/
def preempted (q : Requester) : Nat → State → State
  | 0, s => s
  | n + 1, s => preempted q n (preemptOnce q s)

/-! ## Beats (R320, R321, R329, R333) -/

/-- The address is a word of an uncorrectable sector in the window of the requester's bank (R403). -/
def nandBad (q : Requester) (a : Nat) (s : State) : Bool :=
  0x4002C800 ≤ a && a < 0x4002D000 && (pageBank (bankOf q s) s).sel.ready
    && (pageBank (bankOf q s) s).bad.getLsbD ((a - 0x4002C800) / 512)

/-- The word at an address, with no check: register or memory. -/
def fabricWord (q : Requester) (a : Nat) (s : State) : Word := if isReg a then readReg q a s else readMemWord s a

/-- A read beat: its word, or the cause of its fault (1 map, 3 NAND). -/
def peekBeat (q : Requester) (a : Nat) (s : State) : Except (BitVec 2) Word :=
  if !mapAllows q a .read s then .error 1
  else if nandBad q a s then .error 3
  else .ok (fabricWord q a s)

/-- A read of `CYC_EPPH` has taken a free value. -/
def afterBeat (a : Nat) (s : State) : State := if a = 0x4002300C then takeFree s else s

/-- A read beat of a requester other than DMA: its word, or none with the fault recorded. -/
def beatRead (q : Requester) (a : Nat) (s : State) : State × Option Word :=
  match peekBeat q a s with
  | .error c => (fabricFault q a c false s, none)
  | .ok w => (afterBeat a s, some w)

/-- A read of this address by this requester carries a side effect: `EVR_WIN3` with auto-advance (R351); DMA, SlaseLine and the
recorder take none (R327). -/
def sideEffectBeat (q : Requester) (a : Nat) (s : State) : Bool :=
  a = 0x4002802C && (match q with
    | .domA => true | .domB => true | .domS => true | .policy => true | .warden => true
    | _ => false)
    && evrSideEffect (bankOf q s) s

/-- A write takes effect in its target. -/
def writeWord (q : Requester) (a : Nat) (w : Word) (s : State) : State :=
  if isReg a then writeReg q a w s else writeMemWord a w s

/-- The writes that act after all the others of their burst: `CYC_LDCTL` and `SYN_TXCTL` (R263, R279). -/
def actsLast (a : Nat) : Bool := a = 0x40023040 || a = 0x4002402C

/-- Apply the beats of a burst in its commit clock, in address order (R320). -/
def applyBeats (q : Requester) (l : List (Nat × Word)) (s : State) : State :=
  (l.filter (fun x => !actsLast x.1) ++ l.filter (fun x => actsLast x.1)).foldl (fun s x => writeWord q x.1 x.2 s) s

/-- The beats of consecutive words. -/
def burstBeats (a : Nat) (ws : List Word) : List (Nat × Word) := ws.zipIdx.map (fun x => (a + 4 * x.2, x.1))

/-- The first beat that the map refuses as a write. -/
def refusedBeat (q : Requester) (l : List (Nat × Word)) (s : State) : Option Nat :=
  (l.find? (fun x => !mapAllows q x.1 .write s)).map (fun x => x.1)

/-- A write burst of a requester other than DMA: committed whole, or refused with nothing committed (R320, R333). -/
def burstWrite (q : Requester) (a : Nat) (ws : List Word) (s : State) : State × Bool :=
  let s := grantTo q s
  match refusedBeat q (burstBeats a ws) s with
  | some x => (grantEnd (fabricFault q x 1 true s), false)
  | none => (grantEnd (spreading (applyBeats q (burstBeats a ws)) s), true)

/-- The requester can make accesses: a core that runs, a domain outside reset, an engine. -/
def requesterRuns (q : Requester) (s : State) : Bool :=
  match q with
  | .policy => policyRuns s
  | .warden => wardenRuns s
  | .dma _ => false
  | _ => s.did.cond = .operation || s.did.cond = .recovery || s.did.cond = .boot

/-- REGISTER_WRITE: one word written by a requester; the transfers of DMA channels have a command of their own
(R4, R5, R232, R428). -/
def execRegisterWrite (q : Requester) (addr w : Word) (s : State) : Host.Outcome State Fault Refusal :=
  .next (if requesterRuns q s && addr.toNat % 4 = 0 then (burstWrite q addr.toNat [w] s).1 else s)

/-! ## DMA (R335 to R340) -/

/-- The channel's `DMA_CHc_STAT` as its firmware record carries it. -/
def dmaEvent (n : Nat) (c : Fin 16) (s : State) : State := globalEvent n (s.dma.get c).stat.toWord c.val s

/-- A fault stops a channel (R338). -/
def dmaFault (c : Fin 16) (cause : BitVec 3) (write : Bool) (addr : Option Nat) (s : State) : State :=
  let s := onDma c (fun x => { x with
    stat := { x.stat with state := 5, cause := cause, write := write }
    faddr := match addr with | some a => BitVec.ofNat 32 a | none => x.faddr }) s
  dmaEvent 214 c s

/-- A descriptor from its four words, none when it is invalid (R336). -/
def descOf (w0 w1 w2 w3 : Word) : Option DmaDesc :=
  let len := (getField w2 0 24).toNat
  if !getBit w2 31 || getField w2 27 4 ≠ 0 || len = 0 || len % 4 ≠ 0 || w0.toNat % 4 ≠ 0 || w1.toNat % 4 ≠ 0 || w3.toNat % 16 ≠ 0 then none
  else some { src := w0.toNat, dst := w1.toNat, len := len, sfix := getBit w2 24, dfix := getBit w2 25, evt := getBit w2 26, next := w3.toNat }

/-- Read beats at these addresses for a channel: their words, or the fault of the first that is refused. -/
def dmaRead (c : Fin 16) (as_ : List Nat) (s : State) : Except (BitVec 2 × Nat) (List Word) :=
  as_.foldr (fun a acc =>
    match peekBeat (.dma c) a s with
    | .error e => .error (e, a)
    | .ok w => match acc with
      | .error e => .error e
      | .ok ws => .ok (w :: ws)) (.ok [])

/-- The channel reads its descriptor, when it has none in hand, in one burst of four beats (R336). -/
def dmaFetch (c : Fin 16) (s : State) : State :=
  let x := s.dma.get c
  if x.desc.isSome then s else
  let a := x.cur.toNat
  match dmaRead c [a, a + 4, a + 8, a + 12] s with
  | .error e => dmaFault c (e.1.setWidth 3) false (some e.2) s
  | .ok ws =>
    match descOf (ws.getD 0 0) (ws.getD 1 0) (ws.getD 2 0) (ws.getD 3 0) with
    | none => dmaFault c 4 false none s
    | some d => onDma c (fun x => { x with desc := some d, done := 0 }) s

/-- The beats of the next DMA burst of a descriptor: min(`BURST`, `BLIM`), fewer at its end (R337). -/
def dmaBeats (x : DmaCh) (d : DmaDesc) (s : State) : Nat :=
  min (min (clampNat 1 64 x.ctl.burst.toNat) (clampNat 1 64 s.fab.cfg.blim.toNat)) ((d.len - x.done) / 4)

/-- The addresses of `n` beats from a base, all the same when it is fixed. -/
def dmaAddrs (base done n : Nat) (fixed : Bool) : List Nat :=
  (List.range n).map (fun i => if fixed then base else base + done + 4 * i)

/-- After a commit: the descriptor goes on, the chain goes on to the next descriptor, or it ends (R337). -/
def dmaAdvance (c : Fin 16) (d : DmaDesc) (n : Nat) (s : State) : State :=
  let s := onDma c (fun x => { x with cnt := x.cnt + BitVec.ofNat 32 (4 * n), done := x.done + 4 * n }) s
  if (s.dma.get c).done < d.len then s
  else if d.next ≠ 0 then
    let s := onDma c (fun x => { x with cur := BitVec.ofNat 32 d.next, desc := none, done := 0 }) s
    if d.evt then raise 213 s else s
  else
    raise 213 (onDma c (fun x => { x with desc := none, done := 0, stat := { x.stat with state := 3 } }) s)

/-- One DMA burst of a running channel: the descriptor when it is not in hand, the read burst, the write burst and its
commit (R336 to R338). -/
def dmaBurst (c : Fin 16) (s : State) : State :=
  let s := dmaFetch c s
  let x := s.dma.get c
  match x.desc with
  | none => s
  | some d =>
    if x.stat.state ≠ 2 then s else
    let n := dmaBeats x d s
    let src := dmaAddrs d.src x.done n d.sfix
    let dst := dmaAddrs d.dst x.done n d.dfix
    match dmaRead c src s with
    | .error e => dmaFault c (e.1.setWidth 3) false (some e.2) s
    | .ok ws =>
      let beats := dst.zip ws
      match refusedBeat (.dma c) beats s with
      | some a => dmaFault c 1 true (some a) s
      | none =>
        let s := src.foldl (fun s a => afterBeat a s) s
        dmaAdvance c d n (spreading (applyBeats (.dma c) beats) s)

/-- A DMA burst with its grants, and the preemptions that its bursts met (R324, R337). -/
def dmaBurstCommit (c : Fin 16) (preempts : Nat) (s : State) : State :=
  if (s.dma.get c).stat.state ≠ 2 then s else
  let s := s |> grantTo (.dma c) |> preempted (.dma c) preempts
  grantEnd (dmaBurst c s)

/-- DMA_BURST_COMMIT (R337). -/
def execDmaBurstCommit (c : Fin 16) (preempts : Nat) (s : State) : Host.Outcome State Fault Refusal :=
  .next (dmaBurstCommit c preempts s)

/-- DMA_ARM: a write of `DMA_CHc_CTL` with ARM = 1, BURST and RING (R335). -/
def execDmaArm (q : Requester) (c : Fin 16) (burst : BitVec 7) (ring : Bool) (s : State) : Host.Outcome State Fault Refusal :=
  .next (if hasBank q then writeDmaCtl (bankOf q s) c (1 ||| putField burst 8 ||| putBit ring 16) s else s)

/-- DMA_START: a write of START by a requester; only the owner's starts the chain (R335). -/
def execDmaStart (q : Requester) (c : Fin 16) (s : State) : Host.Outcome State Fault Refusal :=
  .next (if hasBank q then dmaStartBy (bankOf q s) c s else s)

/-- What DMA_ABORT does. -/
def dmaAbort (q : Requester) (c : Fin 16) (withCommit : Bool) (s : State) : State :=
  if !hasBank q then s
  else if withCommit && (s.dma.get c).ownedBy (bankOf q s) then dmaAbortBy (bankOf q s) c (dmaBurstCommit c 0 s)
  else dmaAbortBy (bankOf q s) c s

/-- DMA_ABORT: a write of ABORT; `withCommit` says that it came in the clock of the commit of the burst in progress, which
comes first (R339). -/
def execDmaAbort (q : Requester) (c : Fin 16) (withCommit : Bool) (s : State) : Host.Outcome State Fault Refusal := .next (dmaAbort q c withCommit s)

/-! ## Error correction (R334) -/

/-- ECC_CORRECTION: a read of `addr` by a requester meets one wrong bit, which is corrected, or two, which is an uncorrectable
fault of cause 2 (R333, R334, R338). -/
def execEccCorrection (q : Requester) (addr : Word) (double : Bool) (s : State) : Host.Outcome State Fault Refusal :=
  .next (if !inRam addr.toNat then s
    else if !double then { s with fab := { s.fab with ecc := { s.fab.ecc with corr := satInc s.fab.ecc.corr } } }
    else
      let s := { s with fab := { s.fab with ecc := { s.fab.ecc with uncorr := satInc s.fab.ecc.uncorr } } }
      match q with
      | .dma c => if (s.dma.get c).stat.state = 2 then dmaFault c 2 false (some addr.toNat) s else s
      | _ => fabricFault q addr.toNat 2 false s)

end Sys2Proof.Machine
end

