-- ==== Sys2Proof/Machine/HostPorts.lean ====
section
/-!
DEFINITION. The two-wire target, the SPI target, the Warden mailbox and the auxiliary bus (chapter 14).
-/

namespace Sys2Proof.Machine

/-! ## Bridges in general (R300 to R306) -/

/-- A condition of R303 holds; a staged write completes within its command, so only the other two can. -/
def hostBusy (d : Domain) (s : State) : Bool := s.lcu.paused || mbPending d s

/-- Host A or B is active (R300). -/
def hostActive (d : Domain) (s : State) : Bool :=
  s.cyc.running && (match d with | .a => s.hst.cfg.aEn | .b => s.hst.cfg.bEn | .s => true)

/-- The bytes of words in the fabric order, byte 0 of each word first (R3). -/
def wordBytes (ws : List Word) : List Byte := ws.flatMap le32

/-- Whole words from bytes in the fabric order. -/
def bytesWords : List Byte → List Word
  | a :: b :: c :: d :: rest => (d ++ c ++ b ++ a) :: bytesWords rest
  | _ => []

/-- The error event of a domain: 208 for A, 210 for B (R304, R307, R312). -/
def hostEvent (d : Domain) (s : State) : State :=
  match d with
  | .a => globalEvent 208 (hstStatWord .a s) 0 s
  | .b => globalEvent 210 (hstStatWord .b s) 1 s
  | .s => s

/-- A transaction discarded with a cause; `ev` raises the domain's event. -/
def hostDiscard (d : Domain) (cause : BitVec 4) (ev : Bool) (s : State) : State :=
  let s := onHst d (fun b => { b with result := 3, cause := cause, cnt := { b.cnt with err := satInc b.cnt.err } }) s
  if ev then hostEvent d s else s

/-- A busy refusal, counted (R303, R311). -/
def hostRefuse (d : Domain) (cause : BitVec 4) (s : State) : State :=
  onHst d (fun b => { b with result := 4, cause := cause, cnt := { b.cnt with busyn := satInc b.cnt.busyn } }) s

/-- Commit staged words as one burst (R302): entirely, or refused by the mortar map with cause 7. -/
def hostCommit (d : Domain) (addr : Nat) (data : List Byte) (s : State) : State :=
  let ws := bytesWords data
  match burstWrite (domReq d) addr ws s with
  | (s, false) => hostDiscard d 7 false s
  | (s, true) =>
    onHst d (fun b => { b with
      result := 1, cause := 0, ptr := addr + 4 * ws.length, lastwr := BitVec.ofNat 32 addr, lastwd := ws.headD 0
      lastwn := { count := BitVec.ofNat 5 ws.length, dcrc := crc8 data } }) s

/-! ## The two-wire target (R301 to R309) -/

/-- The address byte on the bus: the target's address with the R/W bit. -/
def twAddrByte (read : Bool) (s : State) : Byte := (s.did.strap.taAddr.setWidth 8 <<< 1) ||| (if read then 1 else 0)

/-- The bytes the PEC of a write covers (R306). -/
def twWriteCover (w : TwWrite) (s : State) : List Byte := twAddrByte false s :: le32 w.addr ++ [w.count] ++ w.data

/-- What the target does with a write whose address phase stood (Table 14.3, R306): the discard cause, 0 to commit. -/
def twWriteCause (w : TwWrite) (s : State) : BitVec 4 :=
  let p := w.addr.msb
  let n := w.data.length
  let countOk := 1 ≤ w.count.toNat && w.count.toNat ≤ 16
  if !p && s.hst.cfg.pecReq then 6
  else if (w.addr.toNat % 4) ≠ 0 then 11
  else if p then
    if !countOk || 4 * w.count.toNat < n then 4
    else if n < 4 * w.count.toNat then 3
    else match w.pec with
      | none => 3
      | some b => if b = crc8 (twWriteCover w s) then 0 else 5
  else if 64 < n then 4
  else if n % 4 ≠ 0 then 3
  else 0

/-- The fabric address of an address phase: bit 31 cleared (R301). -/
def hostAddr (w : Word) : Nat := w.toNat % 2 ^ 31

/-- A failed PEC, counted with event 209 (R306). -/
def twPecFail (s : State) : State :=
  let s := s |> hostDiscard .a 5 false |> onHst .a (fun b => { b with cnt := { b.cnt with pecf := satInc b.cnt.pecf } })
  globalEvent 209 (hstStatWord .a s) 0 s

/-- TWO_WIRE_WRITE: at STOP the staged write is committed or discarded (R302, R306, R307). -/
def twoWireWrite (w : TwWrite) (s : State) : State :=
  if !hostActive .a s then s
  else if hostBusy .a s then hostRefuse .a 0 s
  else if !w.addr.msb && s.hst.cfg.pecReq then hostDiscard .a 6 true s
  else if w.data.isEmpty && w.pec.isNone then onHst .a (fun b => { b with ptr := hostAddr w.addr }) s
  else
    let c := twWriteCause w s
    if c = 0 then hostCommit .a (hostAddr w.addr) w.data s
    else if c = 5 then twPecFail s
    else hostDiscard .a c true s

/-- TWO_WIRE_WRITE (R302). -/
def execTwoWireWrite (w : TwWrite) (s : State) : Host.Outcome State Fault Refusal := .next (twoWireWrite w s)

/-- What a read found beat by beat. -/
structure ReadRun where
  state : State
  bytes : List Byte := []
  /-- The causes met: a beat refused by the map, a word late for the bus. -/
  refused : Bool := false
  late : Bool := false

/-- Read beats for a bridge: `n` whole beats are clocked, the last `extra` bytes of another too; a side-effect beat is
fetched as a peek, and delivered whole it leaves an apply beat due (R304, R305, R328). -/
def readBeats (d : Domain) (lateAt : Option Nat) : Nat → Nat → Nat → ReadRun → ReadRun
  | 0, _, _, r => r
  | n + 1, i, addr, r =>
    if r.late || lateAt = some i then
      readBeats d lateAt n (i + 1) (addr + 4) { r with late := true, bytes := r.bytes ++ [0xFF, 0xFF, 0xFF, 0xFF] }
    else
      match beatRead (domReq d) addr r.state with
      | (s, none) =>
        readBeats d lateAt n (i + 1) (addr + 4) { r with state := s, refused := true, bytes := r.bytes ++ [0xFF, 0xFF, 0xFF, 0xFF] }
      | (s, some w) =>
        let s := if sideEffectBeat (domReq d) addr s then
            onHst d (fun b => { b with applies := b.applies ++ [(addr, (evrBank (bankOf (domReq d) s) s).cur)] }) s
          else s
        readBeats d lateAt n (i + 1) (addr + 4) { r with state := s, bytes := r.bytes ++ le32 w }

/-- A last beat of which only `extra` bytes were delivered: its data is sent and its side effect not taken (R305). -/
def readPart (d : Domain) (extra addr : Nat) (r : ReadRun) : ReadRun :=
  if extra = 0 then r
  else if r.late then { r with bytes := r.bytes ++ List.replicate extra 0xFF }
  else match beatRead (domReq d) addr r.state with
    | (s, none) => { r with state := s, refused := true, bytes := r.bytes ++ List.replicate extra 0xFF }
    | (s, some w) => { r with state := s, bytes := r.bytes ++ (le32 w).take extra }

/-- Read `bytes` bytes from `addr` upward for a domain, of which `cap` at most are data. -/
def hostReadRun (d : Domain) (addr cap : Nat) (q : HostRead) (s : State) : ReadRun :=
  let n := min q.bytes cap
  let r := readBeats d q.lateAt (n / 4) 0 addr { state := grantTo (domReq d) s }
  let r := readPart d (n % 4) (addr + 4 * (n / 4)) r
  { r with state := grantEnd r.state }

/-- The end of a read: the pointer, the bytes sent and the causes met (R301, R304). -/
def finishRead (d : Domain) (addr : Nat) (tail : List Byte) (q : HostRead) (r : ReadRun) : State :=
  let n := r.bytes.length
  let cause : BitVec 4 := if r.late then 8 else if r.refused then 7 else 0
  let s := onHst d (fun b => { b with
    result := 2, cause := cause, ptr := addr + 4 * (n / 4), sent := (r.bytes ++ tail).take (max q.bytes n)
    cnt := if cause = 0 then b.cnt else { b.cnt with err := satInc b.cnt.err } }) r.state
  if cause = 0 then s else hostEvent d s

/-- The PEC of a read with P = 1, and 0xFF for the bytes beyond it (R301, R306). -/
def twReadTail (a : Word) (q : HostRead) (bytes : List Byte) (s : State) : List Byte :=
  crc8 (twAddrByte false s :: le32 a ++ [q.count, twAddrByte true s] ++ bytes) :: List.replicate q.bytes 0xFF

/-- TWO_WIRE_READ (R301, R304). -/
def twoWireRead (q : HostRead) (s : State) : State :=
  if !hostActive .a s then s
  else if hostBusy .a s then hostRefuse .a 0 s
  else match q.addr with
    | none =>
      let addr := s.hst.a.ptr
      finishRead .a addr [] q (hostReadRun .a addr q.bytes q s)
    | some a =>
      let addr := hostAddr a
      if !a.msb && s.hst.cfg.pecReq then hostDiscard .a 6 true s
      else if addr % 4 ≠ 0 then
        hostEvent .a (onHst .a (fun b => { b with
          result := 2, cause := 11, sent := List.replicate q.bytes 0xFF, cnt := { b.cnt with err := satInc b.cnt.err } }) s)
      else if a.msb then
        let r := hostReadRun .a addr (4 * q.count.toNat) q s
        finishRead .a addr (twReadTail a q r.bytes s) q r
      else finishRead .a addr [] q (hostReadRun .a addr q.bytes q s)

/-- TWO_WIRE_READ (R304). -/
def execTwoWireRead (q : HostRead) (s : State) : Host.Outcome State Fault Refusal := .next (twoWireRead q s)

/-- What TWO_WIRE_BUS_ERROR does. -/
def twoWireBusError (f : TwFault) (s : State) : State :=
  if !hostActive .a s then s
  else match f with
    | .ackSlotWrite => hostDiscard .a 1 true s
    | .ackSlotRead => hostDiscard .a 1 true s
    | .insideByte => hostDiscard .a 2 true s

/-- TWO_WIRE_BUS_ERROR: a START or STOP out of place (Table 14.3). -/
def execTwoWireBusError (f : TwFault) (s : State) : Host.Outcome State Fault Refusal := .next (twoWireBusError f s)

/-! ## The SPI target (R310 to R312) -/

/-- The status byte (R311). -/
def spiStatus (s : State) : Byte :=
  0x50 ||| (if hostBusy .b s then 1 else 0) ||| (if s.hst.b.result = 3 then 2 else 0)
    ||| (if alertAsserted .b s then 4 else 0) ||| (if mbPending .b s then 8 else 0)

/-- SPI_WRITE: at the rise of HCS_N (R312). -/
def spiWrite (w : SpiWrite) (s : State) : State :=
  if !hostActive .b s then s
  else if hostBusy .b s then hostRefuse .b 12 s
  else if w.insideByte then hostDiscard .b 9 true s
  else if w.addr.toNat % 4 ≠ 0 then hostDiscard .b 11 true s
  else if 64 < w.data.length then hostDiscard .b 4 true s
  else if w.data.length % 4 ≠ 0 then hostDiscard .b 3 true s
  else if w.data.isEmpty then onHst .b (fun b => { b with ptr := hostAddr w.addr }) s
  else hostCommit .b (hostAddr w.addr) w.data s

/-- SPI_WRITE (R312). -/
def execSpiWrite (w : SpiWrite) (s : State) : Host.Outcome State Fault Refusal := .next (spiWrite w s)

/-- SPI_READ (R312). -/
def spiRead (addr : Word) (bytes : Nat) (lateAt : Option Nat) (s : State) : State :=
  let q : HostRead := { addr := some addr, count := 0, bytes := bytes, lateAt := lateAt }
  if !hostActive .b s then s
  else if hostBusy .b s then
    onHst .b (fun b => { b with sent := List.replicate bytes 0xFF }) (hostRefuse .b 12 s)
  else if addr.toNat % 4 ≠ 0 then
    hostEvent .b (onHst .b (fun b => { b with
      result := 2, cause := 11, sent := List.replicate bytes 0xFF, cnt := { b.cnt with err := satInc b.cnt.err } }) s)
  else finishRead .b (hostAddr addr) [] q (hostReadRun .b (hostAddr addr) bytes q s)

/-- SPI_READ (R312). -/
def execSpiRead (addr : Word) (bytes : Nat) (lateAt : Option Nat) (s : State) : Host.Outcome State Fault Refusal :=
  .next (spiRead addr bytes lateAt s)

/-- SPI_UNKNOWN_COMMAND: ignored with cause 10 and event 210 (R310). -/
def execSpiUnknownCommand (s : State) : Host.Outcome State Fault Refusal :=
  .next (if !hostActive .b s then s
    else if hostBusy .b s then hostRefuse .b 12 s
    else hostDiscard .b 10 true s)

/-- The apply beat of the oldest delivered side-effect beat (R328): checked as a read, and the cursor advances only when
it still equals its value at the peek. -/
def applyBeat (d : Domain) (s : State) : State :=
  match (s.hst.bank d).applies with
  | [] => s
  | (addr, cur) :: rest =>
    let s := onHst d (fun b => { b with applies := rest }) s
    if mapAllows (domReq d) addr .read s then
      if (evrBank (bankOf (domReq d) s) s).cur = cur && sideEffectBeat (domReq d) addr s then evrAdvance (bankOf (domReq d) s) s else s
    else
      onHst d (fun b => { b with cause := 7 }) (fabricFault (domReq d) addr 1 false s)

/-- APPLY_BEAT (R328). -/
def execApplyBeat (d : Domain) (s : State) : Host.Outcome State Fault Refusal := .next (applyBeat d s)

/-! ## The Warden mailbox (R314, R315) -/

/-- The Warden Core completes the domain's pending request when it is command `cmd` (R314). -/
def mailboxDo (d : Domain) (cmd : Byte) (act : Word → State → State × Word) (s : State) : State :=
  let b := s.hst.bank d
  if b.mbstat.state ≠ 1 || b.mbcmd ≠ cmd || !wardenRuns s then s else
  let (s, res) := act b.mbarg s
  onHst d (fun b => { b with mbstat := { state := 2, cause := 0 }, mbres := res }) s

/-- CLEAR_EVENT_RING: mailbox command 0x01 of a domain (R352, Table 14.4). -/
def execClearEventRing (d : Domain) (s : State) : Host.Outcome State Fault Refusal :=
  .next (mailboxDo d 1 (fun arg s => (clearRing (arg = 1) (domCode d) s, 0)) s)

/-- DEVICE_RESET: mailbox command 0x02, a Warden device reset with WCAUSE 4 (R314). -/
def execDeviceReset (d : Domain) (s : State) : Host.Outcome State Fault Refusal :=
  let b := s.hst.bank d
  .next (if b.mbstat.state = 1 && b.mbcmd = 2 then wardenReset 4 s else s)

/-- OWNER_LOCK: mailbox command 0x03 sets or clears the owner lock, kept in the settings partition (R314). -/
def execOwnerLock (d : Domain) (s : State) : Host.Outcome State Fault Refusal :=
  .next (mailboxDo d 3 (fun arg s => (setOwnerLock (arg = 1) s, arg)) s)

/-- OTP_MARGIN_AUDIT: mailbox command 0x04; `differ` are the words whose fresh margin reads differ (R372). -/
def execOtpMarginAudit (d : Domain) (differ : List (Fin 128)) (s : State) : Host.Outcome State Fault Refusal :=
  .next (mailboxDo d 4 (fun _ s => (otpAudit differ s, BitVec.ofNat 32 differ.length)) s)

/-- HST_CNT_CLEAR: a write of `HST_CTL.CNT_CLR` (R302). -/
def execHstCntClear (d : Domain) (s : State) : Host.Outcome State Fault Refusal := .next (writeHstCtl d 0x100 s)

/-! ## The auxiliary bus (R316 to R318) -/

/-- Change value register `k`. -/
def onAuxVal (k : Fin 5) (f : AuxVal → AuxVal) (s : State) : State :=
  { s with aux := { s.aux with vals := updAt s.aux.vals k f } }

/-- Change `AUX_STAT`. -/
def onAuxStat (f : AuxStat → AuxStat) (s : State) : State := { s with aux := { s.aux with stat := f s.aux.stat } }

/-- The scaled value of a raw reading: the numerator over 65,536, rounded down, plus the offset (R318). -/
def auxScaled (dev : AuxDev) (raw : BitVec 16) : Int := (raw.toNat : Int) * dev.num / 65536 + dev.offset

/-- The bit of device `k` in `AUX_STAT.NACK`. -/
def auxBit (k : Fin 5) : BitVec 5 := 1 <<< k.val

/-- The gauge's scaled value against its threshold and hysteresis (R318). -/
def gaugeCheck (dev : AuxDev) (raw : BitVec 16) (s : State) : State :=
  let v := auxScaled dev raw
  if v < dev.threshold then
    if s.aux.stat.glow then s
    else
      let s := onAuxStat (fun a => { a with glow := true }) s
      globalEvent 232 (s.aux.vals.get 0).toWord 0 s
  else if dev.threshold + dev.hysteresis ≤ v then onAuxStat (fun a => { a with glow := false }) s
  else s

/-- A good read of device `k` (R316). -/
def auxGood (k : Fin 5) (dev : AuxDev) (raw : BitVec 16) (s : State) : State :=
  let s := s |> onAuxVal k (fun _ => { raw := raw, valid := true, age := 0 })
    |> onAuxStat (fun a => { a with nack := a.nack &&& ~~~auxBit k })
  if k = 0 then gaugeCheck dev raw s else s

/-- A poll of device `k` that gave no value: the last value stays and its age advances (R316). -/
def auxMissed (k : Fin 5) (s : State) : State := onAuxVal k (fun v => { v with age := satInc v.age }) s

/-- A NACK of device `k`; the first after a good read raises event 231 (R316). -/
def auxNack (k : Fin 5) (s : State) : State :=
  let firstNack := (s.aux.vals.get k).valid && !s.aux.stat.nack.getLsbD k.val
  let s := s |> auxMissed k |> onAuxStat (fun a => { a with nack := a.nack ||| auxBit k })
  if firstNack then globalEvent 231 s.aux.stat.toWord k.val s else s

/-- AUX_POLL: the Policy Core polls a declared device; `recovered` says that the controller freed a hung bus first
(R316, R317). -/
def auxPoll (k : Fin 5) (recovered : Bool) (r : AuxResult) (s : State) : State :=
  if !policyRuns s then s else
  match s.aux.devs.get k with
  | none => s
  | some dev =>
    let s := if recovered then
        let s := onAuxStat (fun a => { a with fault := false, recov := satInc a.recov }) s
        globalEvent 230 s.aux.stat.toWord 0 s
      else s
    match r with
    | .good raw => auxGood k dev raw s
    | .nack => auxNack k s
    | .hung => s |> onAuxStat (fun a => { a with fault := true }) |> auxMissed k

/-- AUX_POLL (R316). -/
def execAuxPoll (k : Fin 5) (recovered : Bool) (r : AuxResult) (s : State) : Host.Outcome State Fault Refusal :=
  .next (auxPoll k recovered r s)

end Sys2Proof.Machine
end

