-- ==== Sys2Proof/Machine/Update.lean ====
section
/-!
DEFINITION. The service port's commands, the update engine and the lifecycle change (chapter 19, R374 to R377).
-/

namespace Sys2Proof.Machine

/-! ## Frames and responses (R405 to R409) -/

/-- What a command does, and its response: STATUS, CAUSE and data (Table 19.1). -/
structure SvcOut where
  state : State
  status : Byte
  cause : Byte := 0
  data : List Byte := []

/-- The response codes of R409. -/
def svcDone (data : List Byte) (s : State) : SvcOut := { state := s, status := 0, data := data }
/-- Accepted, in progress. -/
def svcAccepted (s : State) : SvcOut := { state := s, status := 1 }
/-- Bad length or argument. -/
def svcBadArg (s : State) : SvcOut := { state := s, status := 3 }
/-- Not allowed in this mode or state. -/
def svcNotAllowed (s : State) : SvcOut := { state := s, status := 4 }
/-- Authorisation failed. -/
def svcAuthFailed (s : State) : SvcOut := { state := s, status := 5 }
/-- Refused with a cause. -/
def svcRefused (cause : Byte) (s : State) : SvcOut := { state := s, status := 6, cause := cause }
/-- Busy. -/
def svcBusy (s : State) : SvcOut := { state := s, status := 7 }

/-- The bytes of a frame that its CRC covers: LEN, SEQ, CMD and the payload. -/
def svcFrame (cmd seq : Byte) (payload : List Byte) : List Byte :=
  le16 (BitVec.ofNat 16 payload.length) ++ [seq, cmd] ++ payload

/-- The service port serves commands: in Recovery and Operation, and not once a pre-reset phase runs. -/
def svcActive (s : State) : Bool := (s.did.cond = .recovery || s.did.cond = .operation) && !s.did.preReset

/-- The mode is Recovery. -/
def inRecovery (s : State) : Bool := s.did.cond = .recovery

/-- A command before its own checks: one that is not HELLO or STATUS waits for the mailbox request of domain S and for a
lifecycle change, of which the last lets only STATUS through; one not for this mode is not allowed (R376, R409). -/
def svcGate (cmd : Byte) (recToo : Bool) (f : State → SvcOut) (s : State) : SvcOut :=
  if s.otp.change.isSome && cmd ≠ 0x03 then svcBusy s
  else if mbPending .s s && cmd ≠ 0x01 && cmd ≠ 0x03 then svcBusy s
  else if inRecovery s && !recToo then svcNotAllowed s
  else f s

/-- A service frame: a repeat is answered with the stored response and not executed again (R407). -/
def svcRun (cmd seq : Byte) (payload : List Byte) (recToo : Bool) (f : State → SvcOut) (s : State) : State :=
  let key := (seq, crc16 (svcFrame cmd seq payload))
  if !svcActive s || s.lcu.last = some key then s else
  let r := svcGate cmd recToo f s
  onLcu (fun l => { l with
    last := some key
    resp := some { cmd := cmd + 0x80, seq := seq, status := r.status, cause := r.cause, data := r.data } }) r.state

/-! ## Authorisation (R410) -/

/-- The bytes of a block. -/
def authBytes (a : Option AuthBlock) : List Byte :=
  match a with
  | some b => b.pub ++ b.sig
  | none => []

/-- The block authorises the command: the nonce is good, the key's digest is OKEY, and the signature verifies. -/
def authOk (cmd : Byte) (payload : List Byte) (a : Option AuthBlock) (s : State) : Bool :=
  match a, s.lcu.nonce with
  | some b, some n =>
    okeyUsable s.otp && Config.sha256 b.pub == otpDigest s.otp 32
      && Config.ecdsaOk b.pub (Config.sha256 (cmd :: payload ++ le32 (otpShadow s.otp 0) ++ n)) b.sig
  | _, _ => false

/-- An authorised command: in the PROVISIONED, DEPLOYED and RETURNED states the block must verify, and its nonce is then
void (R409, R410). -/
def svcAuth (cmd : Byte) (payload : List Byte) (a : Option AuthBlock) (f : State → SvcOut) (s : State) : SvcOut :=
  if lifecycle s.otp < 2 then f s
  else if authOk cmd payload a s then f (onLcu (fun l => { l with nonce := none }) s)
  else svcAuthFailed s

/-! ## The line (R405, R407, R408) -/

/-- SERVICE_FRAME_BAD (R407). -/
def execServiceFrameBad (s : State) : Host.Outcome State Fault Refusal :=
  .next (if svcActive s then onLcu (fun l => { l with badfr := satInc l.badfr }) s else s)

/-- SERVICE_BAUD_TIMEOUT (R405). -/
def execServiceBaudTimeout (s : State) : Host.Outcome State Fault Refusal := .next (onLcu (fun l => { l with baud := 0 }) s)

/-- SET_BAUD (R408). -/
def execSvcSetBaud (seq code : Byte) (s : State) : Host.Outcome State Fault Refusal :=
  .next (svcRun 0x02 seq [code] true (fun s =>
    if 5 < code.toNat || (!inRecovery s && s.lcu.maxBaud.toNat < code.toNat) then svcBadArg s
    else svcDone [] (onLcu (fun l => { l with baud := code.setWidth 3 }) s)) s)

/-! ## HELLO and STATUS (R409) -/

/-- HELLO: identity, lifecycle, mode, bank registers and update state, with a fresh nonce and event 211. -/
def svcHello (s : State) : SvcOut :=
  let n := Config.nonce s.free
  let s := onLcu (fun l => { l with nonce := some n }) (takeFree s)
  let s := globalEvent 211 (upstatWord s.lcu) 0 s
  svcDone (le32 (otpShadow s.otp 0) ++ [BitVec.ofNat 8 (lifecycle s.otp), if inRecovery s then 0 else 1]
    ++ le32 (lcuBankWord s) ++ le32 s.nand.bank0.ver ++ le32 s.nand.bank1.ver ++ le32 (upstatWord s.lcu) ++ n) s

/-- HELLO (R409). -/
def execSvcHello (seq : Byte) (s : State) : Host.Outcome State Fault Refusal := .next (svcRun 0x01 seq [] true svcHello s)

/-- Something accepted earlier is still in progress: an activation, a burn or a lifecycle change. -/
def svcBusyNow (s : State) : Bool := s.lcu.paused || s.otp.job.isSome || s.otp.change.isSome || mbPending .s s

/-- STATUS: progress and completion. -/
def svcStatus (s : State) : SvcOut :=
  { state := s, status := if svcBusyNow s then 1 else 0, cause := s.lcu.cause.setWidth 8
    data := le32 (upstatWord s.lcu) ++ le32 (BitVec.ofNat 32 s.lcu.rcvd) ++ le32 s.otp.bstat.toWord ++ le32 (lcstat s.otp).toWord }

/-- STATUS (R409). -/
def execSvcStatus (seq : Byte) (s : State) : Host.Outcome State Fault Refusal := .next (svcRun 0x03 seq [] true svcStatus s)

/-! ## BEGIN (R414 to R417, R427) -/

/-- The owner lock is set (R378). -/
def ownerLocked (s : State) : Bool := getBit (ownerBits s.otp) 0 || s.lcu.hostLock

/-- REQ_GAUGE applies: device 0 has no valid read, or one of age 3 or more (R398). -/
def gaugeBars (s : State) : Bool :=
  s.lcu.reqGauge && (!(s.aux.vals.get 0).valid || 3 ≤ (s.aux.vals.get 0).age.toNat)

/-- The first of causes 9 to 14 that holds, 0 when none does (Table 19.5). -/
def updateCause (s : State) : BitVec 5 :=
  if s.sup.active ≠ .main then 9
  else if s.aux.stat.glow || gaugeBars s then 10
  else if ownerLocked s then 11
  else if s.sup.etst || s.sup.emg then 12
  else if gwin s then 13
  else if !wardenRuns s then 14
  else 0

/-- An update command refused with a cause of Table 19.5. -/
def updateRefused (c : BitVec 5) (s : State) : SvcOut := svcRefused (c.setWidth 8) (onLcu (fun l => { l with cause := c }) s)

/-- The Lifecycle record of step 5 of Table 17.6, as the first slot of a new log (Table 16.2). -/
def lifecycleSlot (old new_ : Nat) (s : State) : Rec4 :=
  hwWords {
    type := 4, source := 220, flags := 8 ||| autoFlags s, minutes := s.evr.opmin.minF, pcc := s.evr.pcc.pcc
    data := BitVec.ofNat 48 (old + 256 * new_), no := 0 }

/-- The flash is formatted under the present key; partitions of an older state leave a log that begins with a Lifecycle
record (R377, R427). -/
def flashFormat (s : State) : State :=
  let k := lifecycle s.otp
  let log := if s.nand.formatted then padPage [lifecycleSlot s.nand.under.toNat k s] else []
  let n := ({ ({} : Nand) with formatted := true, under := BitVec.ofNat 3 k, log := log, bootNo := s.nand.bootNo }).freshBlocks (flashSize s)
  let s := loadPointer { s with nand := { n with flushErased := flushPages n } }
  onNvc (fun v => { v with stat := { v.stat with rsvPct := reservePct n }, err := { v.err with badnew := satAdd v.err.badnew Config.factoryBad } }) s

/-- Erase what the transfer writes: the bank that is not active, or the slot that is not in use (R417). -/
def eraseTarget (cfg : Bool) (s : State) : State :=
  if cfg then onNand (fun n => if s.lcu.cfgSlot then { n with slot0 := [] } else { n with slot1 := [] }) s
  else onBankAt (!s.lcu.active) (fun _ => { st := 1 }) s

/-- The transfer begins. -/
def beginTransfer (cfg : Bool) (hdr : List Byte) (s : State) : State :=
  let s := if inRecovery s && !partitionsGood s then flashFormat s else s
  eraseTarget cfg s |> onLcu (fun l => { l with
    state := 2, target := cfg, abortLate := false, cause := 0, rcvd := 0, header := hdr })

/-- The transfer in progress ends with a STATE. -/
def endTransfer (st : BitVec 4) (c : BitVec 5) : State → State :=
  onLcu (fun l => { l with state := st, cause := c, rcvd := 0, header := [] })

/-- The header's first failing cause, by target and mode. -/
def headerCause (cfg : Bool) (hdr : List Byte) (s : State) : BitVec 5 :=
  if cfg then cfgHeaderCause s.otp hdr else fwHeaderCause s.otp (if inRecovery s then none else some s.lcu.minFw) hdr

/-- The payload carries a whole header for its target. -/
def headerWhole (target : Byte) (hdr : List Byte) : Bool :=
  if target = 0 then hdr.length = hdrLen (hdrN hdr) else hdr.length = 64

/-- The partition that a transfer writes, and whether in its upper slot. -/
def targetPart (s : State) : Nat × Bool := if s.lcu.target then (4, !s.lcu.cfgSlot) else (if s.lcu.active then 2 else 3, false)

/-- The transfer's bank or slot has a block that could not be replaced: it is written no more (R383). -/
def targetDead (cfg : Bool) (s : State) : Bool :=
  if cfg then s.nand.deadSlot.getLsbD (if s.lcu.cfgSlot then 0 else 1) else s.nand.deadBank.getLsbD (if s.lcu.active then 0 else 1)

/-- A flash operation of the transfer: a block that fails is replaced and the transfer goes on to `ok`, or it ends with cause
16 (R383, Table 19.5). -/
def transferOp (o : FlashOp) (ok : State → SvcOut) (s : State) : SvcOut :=
  let t := flashOp (targetPart s).1 (targetPart s).2 o s
  if o.fails && irreplaceable s.nand then updateRefused 16 (endTransfer 0 16 t) else ok t

/-- BEGIN: resume, refuse, or erase and receive; `o` says how the erase went (R414 to R417). -/
def svcBegin (target : Byte) (hdr : List Byte) (o : FlashOp) (s : State) : SvcOut :=
  let cfg := target = 1
  if 1 < target.toNat || !headerWhole target hdr then svcBadArg s
  else if cfg && (lifecycle s.otp = 0 || lifecycle s.otp = 4) then svcNotAllowed s
  else if updateOpen s.lcu then
    if (s.lcu.state = 2 || s.lcu.state = 4) && s.lcu.target = cfg && s.lcu.header = hdr then
      svcDone (le32 (BitVec.ofNat 32 s.lcu.rcvd)) s
    else svcBusy s
  else
    let c := headerCause cfg hdr s
    let c := if c = 0 && !inRecovery s then updateCause s else c
    if c ≠ 0 then updateRefused c s
    else if partitionsGood s && targetDead cfg s then updateRefused 16 s
    else transferOp o svcAccepted (beginTransfer cfg hdr s)

/-- BEGIN (R414). -/
def execSvcBegin (seq target : Byte) (header : List Byte) (o : FlashOp) (s : State) : Host.Outcome State Fault Refusal :=
  .next (svcRun 0x10 seq ([target, 0, 0, 0] ++ header) true (svcBegin target header o) s)

/-! ## DATA and END (R418, R419) -/

/-- The bytes received so far. -/
def targetBytes (s : State) : List Byte :=
  if s.lcu.target then (if s.lcu.cfgSlot then s.nand.slot0 else s.nand.slot1) else (bankAt (!s.lcu.active) s).content

/-- Append bytes to the target. -/
def targetAppend (bs : List Byte) (s : State) : State :=
  if s.lcu.target then
    onNand (fun n => if s.lcu.cfgSlot then { n with slot0 := n.slot0 ++ bs } else { n with slot1 := n.slot1 ++ bs }) s
  else onBankAt (!s.lcu.active) (fun b => { b with content := b.content ++ bs }) s

/-- IMG_LEN of the transfer's header. -/
def imgLen (s : State) : Nat := (imgWord s.lcu.header 12).toNat

/-- The frame continues the transfer: its offset, its length, and whole words but for the frame that ends the image. -/
def dataOk (offset : Nat) (data : List Byte) (s : State) : Bool :=
  let last := offset + data.length = imgLen s
  offset = s.lcu.rcvd && 1 ≤ data.length && data.length ≤ 1020 && offset + data.length ≤ imgLen s
    && (last || data.length % 4 = 0)

/-- DATA; `o` says how the program went (R418). -/
def svcData (offset : Word) (data : List Byte) (o : FlashOp) (s : State) : SvcOut :=
  if s.lcu.state ≠ 2 then svcNotAllowed s
  else if !dataOk offset.toNat data s then svcBadArg s
  else transferOp o (fun s => svcDone [] (targetAppend data s |> onLcu (fun l => { l with rcvd := l.rcvd + data.length }))) s

/-- DATA (R418). -/
def execSvcData (seq : Byte) (offset : Word) (data : List Byte) (o : FlashOp) (s : State) : Host.Outcome State Fault Refusal :=
  .next (svcRun 0x11 seq (le32 offset ++ data) true (svcData offset data o) s)

/-- The image verifies: the bank is valid, and `STATE` is 4. -/
def transferReady (s : State) : State :=
  let s := if s.lcu.target then s
    else onBankAt (!s.lcu.active) (fun b => { b with st := 2, ver := imgWord s.lcu.header 16 }) s
  onLcu (fun l => { l with state := 4, cause := 0 }) s

/-- END: the image is read back and checked; the outcome stands in `LCU_UPSTAT` (R419). -/
def svcEnd (s : State) : SvcOut :=
  if s.lcu.state ≠ 2 then svcNotAllowed s
  else if s.lcu.rcvd ≠ imgLen s then svcBadArg s
  else
    let img := targetBytes s
    let c := if s.lcu.target then cfgEndCause s.otp s.lcu.header img else fwEndCause s.otp s.lcu.header img
    if c = 0 then svcAccepted (transferReady s) else svcAccepted (endTransfer 0 c s)

/-- END (R419). -/
def execSvcEnd (seq : Byte) (s : State) : Host.Outcome State Fault Refusal := .next (svcRun 0x12 seq [] true svcEnd s)

/-! ## ACTIVATE and ABORT (R415, R416, R421) -/

/-- Firmware activation in Operation, to the end of step 3 of Table 19.6. -/
def activateFirmware (s : State) : State :=
  let old := s.lcu.active
  s |> writePointer (!old) true old s.lcu.cfgSlot |> raise 221 |> bankRecord 221 (!old) 3
    |> onLcu (fun l => { l with state := 5, rolling := false, turns := 0 }) |> activationRestart

/-- ACTIVATE (R421). -/
def svcActivate (s : State) : SvcOut :=
  let c := if s.lcu.state ≠ 4 then 17 else if inRecovery s then 0 else updateCause s
  let l := s.lcu
  if c ≠ 0 then updateRefused c s
  else if l.target then svcDone [] (endTransfer 0 0 (writePointer l.active l.trial (prevBank s) (!l.cfgSlot) s))
  else if inRecovery s then svcDone [] (endTransfer 0 0 (writePointer (!l.active) false l.active l.cfgSlot s))
  else svcAccepted (activateFirmware s)

/-- ACTIVATE (R421). -/
def execSvcActivate (seq : Byte) (s : State) : Host.Outcome State Fault Refusal := .next (svcRun 0x13 seq [] true svcActivate s)

/-- ABORT: a transfer ends; after the commit point it is ignored (R416, R419, R421). -/
def svcAbort (s : State) : SvcOut :=
  if s.lcu.state = 2 || s.lcu.state = 4 then svcDone [] (endTransfer 0 0 s)
  else if s.lcu.state = 5 || s.lcu.state = 6 then svcNotAllowed (onLcu (fun l => { l with abortLate := true }) s)
  else svcNotAllowed s

/-- ABORT (R416). -/
def execSvcAbort (seq : Byte) (s : State) : Host.Outcome State Fault Refusal := .next (svcRun 0x14 seq [] true svcAbort s)

/-- UPDATE_TIMEOUT: 10 minutes without a valid frame abandon a transfer (R416). -/
def execUpdateTimeout (s : State) : Host.Outcome State Fault Refusal :=
  .next (if s.lcu.state = 2 || s.lcu.state = 4 then endTransfer 0 s.lcu.cause s else s)

/-- The cores run the firmware of the active bank (Table 19.6, step 4): its windows, and a Policy Core that starts. -/
def activationResume (s : State) : State :=
  let s := onDid (fun d => { d with
    fwrun := (bankAt s.lcu.active s).ver, policy := { d.policy with restarting := false }, warden := { d.warden with restarting := false } }) s
  let n := if s.lcu.rolling then s.lcu.turns else 24
  let s := onLcu (fun l => { l with
    paused := false, state := if l.rolling then 7 else 6, turns := n, turn := if n = 0 then none else some 0
    rcvd := 0, header := [] }) s
  policyStart (firmwareMap (activeContent s) s)

/-- What ACTIVATION_RESTART_DONE does. -/
def activationRestartDone (r : RestartCheck) (s : State) : State :=
  if !s.lcu.paused then s else
  match r with
  | .badConfig => wardenReset 2 s
  | .badFirmware => if s.lcu.rolling then wardenReset 3 s else rollback s
  | .good => activationResume s

/-- ACTIVATION_RESTART_DONE: step 3 of Table 19.6 has ended, with a result. A configuration copy that fails its check resets
the device (R20); a part that fails brings the rollback, and in a rollback a reset with the cause of R89 (R421, R425). -/
def execActivationRestartDone (r : RestartCheck) (s : State) : Host.Outcome State Fault Refusal := .next (activationRestartDone r s)

/-- FIRMWARE_CONFIRM: both cores run, the map is applied and a budget round has ended (R424). -/
def execFirmwareConfirm (s : State) : Host.Outcome State Fault Refusal :=
  .next (
    if s.lcu.state = 6 && policyRuns s && wardenRuns s && 0 < s.bud.rnd then
      let s := s |> writePointer s.lcu.active false (prevBank s) s.lcu.cfgSlot |> onLcu (fun l => { l with state := 0 })
      globalEvent 221 (upstatWord s.lcu) 0 s
    else s)

/-- ROLLBACK: 10 s have passed from the commit point without confirmation (R425). -/
def execRollback (s : State) : Host.Outcome State Fault Refusal :=
  .next (if s.lcu.state = 5 || s.lcu.state = 6 then rollback s else s)

/-! ## Slice reload (R422) -/

/-- The turn of a slice may begin: no AMS, contract change or swap is in progress, and the hold line is low. -/
def reloadReady (p : Port) (s : State) : Bool :=
  let x := s.slice p
  !s.sup.hold && x.pd.inflight.isNone && x.pd.waitReply.isNone && !x.pd.ownOpen && !x.pd.partnerAms && x.mb.hostAms.isNone
    && !x.off.changing && x.sw.swstat.swap = 0

/-- The microcode and the Thatch profile set are loaded; a port with a contract that is not PD silent sends Soft_Reset, and
its queued mailbox message on SOP waits for the end of the turn. -/
def reloadSlice (p : Port) (s : State) : State :=
  let x := s.slice p
  if x.off.contract.kind = 0 || x.pd.pdstat.pdSilent then s else
  let kept := x.pd.ready.filter (fun m => m.prio == TxPrio.mailbox && m.ctx == Ctx.sop)
  let s := s |> onSlice p (Slice.resetCtx .sop 12)
    |> queueMsg p { ctx := .sop, kind := .softReset, prio := .ams, cont := true, why := .reload }
  onSlice p (fun y => { y with
    pd := { y.pd with ready := y.pd.ready ++ kept }, mb := { x.mb with hostAms := y.mb.hostAms, hostOwes := y.mb.hostOwes } }) s

/-- SLICE_RELOAD: the slices take their turns from port 0 upward (R422). -/
def execSliceReload (p : Port) (s : State) : Host.Outcome State Fault Refusal :=
  .next (
    if s.lcu.paused || s.lcu.turn ≠ some p.val || !reloadReady p s then s else
    reloadSlice p (onLcu (fun l => { l with turn := if p.val + 1 < l.turns then some (p.val + 1) else none }) s))

/-! ## Register access (R302, R304, R409) -/

/-- REG_READ: `n` words as a bridge of domain S reads them. -/
def svcRegRead (addr : Word) (n : Byte) (s : State) : SvcOut :=
  if n.toNat = 0 || 16 < n.toNat || addr.toNat % 4 ≠ 0 then svcBadArg s
  else if hostBusy .s s then svcBusy s
  else
    let q : HostRead := { addr := some addr, count := n, bytes := 4 * n.toNat, lateAt := none }
    let a := hostAddr addr
    let s := finishRead .s a [] q (hostReadRun .s a (4 * n.toNat) q s)
    let b := s.hst.s
    if b.cause = 0 then svcDone b.sent s else { state := s, status := 6, cause := b.cause.setWidth 8, data := b.sent }

/-- REG_READ (R409). -/
def execSvcRegRead (seq : Byte) (addr : Word) (n : Byte) (s : State) : Host.Outcome State Fault Refusal :=
  .next (svcRun 0x20 seq (le32 addr ++ [n]) false (svcRegRead addr n) s)

/-- A burst of domain S: 0, or the cause of its refusal. -/
def svcCommit (addr : Nat) (ws : List Word) (s : State) : State × BitVec 4 :=
  let s := hostCommit .s addr (wordBytes ws) s
  (s, if s.hst.s.result = 3 then s.hst.s.cause else 0)

/-- REG_WRITE: one staged burst. -/
def svcRegWrite (addr : Word) (ws : List Word) (s : State) : SvcOut :=
  if ws.isEmpty || 16 < ws.length || addr.toNat % 4 ≠ 0 then svcBadArg s
  else if hostBusy .s s then svcBusy s
  else match svcCommit (hostAddr addr) ws s with
    | (s, c) => if c = 0 then svcDone [] s else svcRefused (c.setWidth 8) s

/-- REG_WRITE (R409). -/
def execSvcRegWrite (seq : Byte) (addr : Word) (words : List Word) (s : State) : Host.Outcome State Fault Refusal :=
  .next (svcRun 0x21 seq (le32 addr ++ wordBytes words) false (svcRegWrite addr words) s)

/-- MAILBOX: `HST_MBARG`, then `HST_MBCMD` with GO, of domain S (R314). -/
def svcMailbox (cmd : Byte) (arg : Word) (s : State) : SvcOut :=
  if hostBusy .s s then svcBusy s
  else match svcCommit 0x40025024 [arg] s with
    | (s, c) =>
      if c ≠ 0 then svcRefused (c.setWidth 8) s
      else match svcCommit 0x40025020 [cmd.setWidth 32 ||| 0x100] s with
        | (s, c) =>
          if c ≠ 0 then svcRefused (c.setWidth 8) s
          else if s.hst.s.mbstat.state = 3 then svcRefused (s.hst.s.mbstat.cause.setWidth 8) s
          else svcAccepted s

/-- MAILBOX (R409). -/
def execSvcMailbox (seq cmd : Byte) (arg : Word) (s : State) : Host.Outcome State Fault Refusal :=
  .next (svcRun 0x22 seq ([cmd, 0, 0, 0] ++ le32 arg) false (svcMailbox cmd arg) s)

/-! ## Fuses and lifecycle (R366 to R368, R375, R376, R410) -/

/-- The Warden Core burns a word on request. -/
def svcBurn (burn data : Word) (s : State) : SvcOut :=
  if !wardenRuns s then svcRefused 14 s else
  let s := writeBurn ((burn &&& 0x1FF) ||| 0x10000) (onOtp (fun o => { o with bdata := data }) s)
  if s.otp.bstat.state = 3 then svcRefused (s.otp.bstat.cause.setWidth 8) s else svcAccepted s

/-- OTP_BURN: `WORD`, `SPARE` and `SRC` as in `OTP_BURN`, and `DATA` (R368, R410). -/
def execSvcOtpBurn (seq : Byte) (burn data : Word) (auth : Option AuthBlock) (s : State) : Host.Outcome State Fault Refusal :=
  let payload := le32 burn ++ le32 data
  .next (svcRun 0x30 seq (payload ++ authBytes auth) false (svcAuth 0x30 payload auth (svcBurn burn data)) s)

/-- The Warden Core writes an override on request. -/
def svcOverride (word value : Word) (s : State) : SvcOut :=
  if !wardenRuns s then svcRefused 14 s
  else if h : word.toNat < 128 then
    if overrideOk s.otp word.toNat then svcDone [] (writeOverride ⟨word.toNat, h⟩ value s) else svcRefused 0 s
  else svcBadArg s

/-- OTP_OVERRIDE (R367, R410). -/
def execSvcOtpOverride (seq : Byte) (word value : Word) (auth : Option AuthBlock) (s : State) : Host.Outcome State Fault Refusal :=
  let payload := le32 word ++ le32 value
  .next (svcRun 0x31 seq (payload ++ authBytes auth) false (svcAuth 0x31 payload auth (svcOverride word value)) s)

/-- The Warden Core sets sticky locks on request: bits 14:8. -/
def svcSticky (bits : Word) (s : State) : SvcOut :=
  if !wardenRuns s then svcRefused 14 s else svcDone [] (setSticky (bits &&& 0x7F00) s)

/-- STICKY_LOCK (R366, R410). -/
def execSvcStickyLock (seq : Byte) (bits : Word) (auth : Option AuthBlock) (s : State) : Host.Outcome State Fault Refusal :=
  .next (svcRun 0x32 seq (le32 bits ++ authBytes auth) false (svcAuth 0x32 (le32 bits) auth (svcSticky bits)) s)

/-- The lifecycle change moves one state forward, by the Warden Core or in recovery by the ROM (R375, R376). -/
def svcLifecycle (code : Byte) (s : State) : SvcOut :=
  if code.toNat ≠ lifecycle s.otp + 1 then svcBadArg s
  else if !inRecovery s && !wardenRuns s then svcRefused 14 s
  else if lifecycleAllowed true s then svcAccepted (lifecycleStart s)
  else svcRefused 0 s

/-- LIFECYCLE (R376, R410). -/
def execSvcLifecycle (seq code : Byte) (auth : Option AuthBlock) (s : State) : Host.Outcome State Fault Refusal :=
  let payload := [code, 0, 0, 0]
  .next (svcRun 0x33 seq (payload ++ authBytes auth) true (svcAuth 0x33 payload auth (svcLifecycle code)) s)

/-- Steps 4 to 6 of Table 17.6: what stood under the old key is gone, the new log begins with the Lifecycle record, event
220 in Operation, and the reset (R376, R377). -/
def lifecycleErased (k : BitVec 3) (s : State) : State :=
  let slot := lifecycleSlot (lifecycle s.otp) k.toNat s
  let s := onNand (fun n => { n with
    under := k, bank0 := {}, bank1 := {}, slot0 := [], slot1 := [], settings := [], log := padPage [slot], logOldest := 0, flush := [] }) s
  let s := if s.did.cond = .operation then raise 220 s else s
  wardenReset 1 s

/-- LIFECYCLE_ERASE_DONE (R376). -/
def execLifecycleEraseDone (s : State) : Host.Outcome State Fault Refusal :=
  .next (match s.otp.change with
    | some k => if s.otp.job.isNone then lifecycleErased k s else s
    | none => s)

/-- RESET: a Warden request with `WCAUSE` 5 (R409). -/
def execSvcReset (seq : Byte) (arg : Word) (s : State) : Host.Outcome State Fault Refusal :=
  .next (svcRun 0x3F seq (le32 arg) true (fun s => if arg = 0x2448 then svcDone [] (wardenReset 5 s) else svcBadArg s) s)

end Sys2Proof.Machine
end

