-- ==== Sys2Proof/Machine/Dispatch.lean ====
section
/-!
DEFINITION. The dispatch of commands: one arm per row of spec/opcode_table.json, each a direct call of its meaning.
-/

namespace Sys2Proof.Machine

/-- What a command does to everything but the queue. -/
def exec (i : Instr) (s : State) : Host.Outcome State Fault Refusal :=
  match i with
  | .powerOnReset => Sys2Proof.Machine.execPowerOnReset s
  | .externalReset => Sys2Proof.Machine.execExternalReset s
  | .wardenResetRequest cause => Sys2Proof.Machine.execWardenResetRequest cause s
  | .preResetComplete flushed => Sys2Proof.Machine.execPreResetComplete flushed s
  | .resetRelease => Sys2Proof.Machine.execResetRelease s
  | .otpSensingDone r => Sys2Proof.Machine.execOtpSensingDone r s
  | .pllLock => Sys2Proof.Machine.execPllLock s
  | .pllLockTimeout => Sys2Proof.Machine.execPllLockTimeout s
  | .referenceLost => Sys2Proof.Machine.execReferenceLost s
  | .wipeDone => Sys2Proof.Machine.execWipeDone s
  | .wardenFirmwareVerified f readOk => Sys2Proof.Machine.execWardenFirmwareVerified f readOk s
  | .policyFirmwareVerified readOk => Sys2Proof.Machine.execPolicyFirmwareVerified readOk s
  | .configLoad => Sys2Proof.Machine.execConfigLoad s
  | .sliceRelease relMs bad h0 h1 => Sys2Proof.Machine.execSliceRelease relMs bad h0 h1 s
  | .watchdogExpiry c recent => Sys2Proof.Machine.execWatchdogExpiry c recent s
  | .coreRestartDone c r => Sys2Proof.Machine.execCoreRestartDone c r s
  | .dieTempWarning t => Sys2Proof.Machine.execDieTempWarning t s
  | .dieTempWarningClear t => Sys2Proof.Machine.execDieTempWarningClear t s
  | .thermalShutdown t => Sys2Proof.Machine.execThermalShutdown t s
  | .thermalRestart t => Sys2Proof.Machine.execThermalRestart t s
  | .vinHkLow => Sys2Proof.Machine.execVinHkLow s
  | .vinHkRestored => Sys2Proof.Machine.execVinHkRestored s
  | .vconnInLow => Sys2Proof.Machine.execVconnInLow s
  | .vconnInRestored => Sys2Proof.Machine.execVconnInRestored s
  | .inputQualified x mv => Sys2Proof.Machine.execInputQualified x mv s
  | .inputLost x => Sys2Proof.Machine.execInputLost x s
  | .inputWarning low => Sys2Proof.Machine.execInputWarning low s
  | .backupPathConduct => Sys2Proof.Machine.execBackupPathConduct s
  | .cascadeQualified p => Sys2Proof.Machine.execCascadeQualified p s
  | .cascadeLost p => Sys2Proof.Machine.execCascadeLost p s
  | .pathGood x vin => Sys2Proof.Machine.execPathGood x vin s
  | .sinkPathGood p vin => Sys2Proof.Machine.execSinkPathGood p vin s
  | .sinkPathTimeout p => Sys2Proof.Machine.execSinkPathTimeout p s
  | .switchoverWindowEnd vin => Sys2Proof.Machine.execSwitchoverWindowEnd vin s
  | .vmaxWindow vin whole vmain vbkup vbulk vhk => Sys2Proof.Machine.execVmaxWindow vin whole vmain vbkup vbulk vhk s
  | .vmaxRise => Sys2Proof.Machine.execVmaxRise s
  | .staggerDelayEnd x => Sys2Proof.Machine.execStaggerDelayEnd x s
  | .pathFault x => Sys2Proof.Machine.execPathFault x s
  | .prechargeDone x => Sys2Proof.Machine.execPrechargeDone x s
  | .prechargeTimeout x => Sys2Proof.Machine.execPrechargeTimeout x s
  | .pathOvervoltage x => Sys2Proof.Machine.execPathOvervoltage x s
  | .supplyRetryAttempt x => Sys2Proof.Machine.execSupplyRetryAttempt x s
  | .supplyAttemptFail x rose => Sys2Proof.Machine.execSupplyAttemptFail x rose s
  | .supplyLatchClear w => Sys2Proof.Machine.execSupplyLatchClear w s
  | .emgAssert => Sys2Proof.Machine.execEmgAssert s
  | .emgRelease => Sys2Proof.Machine.execEmgRelease s
  | .etestStart kind => Sys2Proof.Machine.execEtestStart kind s
  | .etestAbort => Sys2Proof.Machine.execEtestAbort s
  | .etestEnd gaugeLow bkupMv => Sys2Proof.Machine.execEtestEnd gaugeLow bkupMv s
  | .ccSample p cc1 cc2 rpBoth ivc vvcIn => Sys2Proof.Machine.execCcSample p cc1 cc2 rpBoth ivc vvcIn s
  | .ccDebounceExpiry p => Sys2Proof.Machine.execCcDebounceExpiry p s
  | .foreignVbus p => Sys2Proof.Machine.execForeignVbus p s
  | .sourceDetach p => Sys2Proof.Machine.execSourceDetach p s
  | .dischargeDone p => Sys2Proof.Machine.execDischargeDone p s
  | .detachRampTimeout p => Sys2Proof.Machine.execDetachRampTimeout p s
  | .vconnDischargeEnd p => Sys2Proof.Machine.execVconnDischargeEnd p s
  | .vconnOvercurrent p => Sys2Proof.Machine.execVconnOvercurrent p s
  | .drpToggle p => Sys2Proof.Machine.execDrpToggle p s
  | .drpTryExpiry p => Sys2Proof.Machine.execDrpTryExpiry p s
  | .tryTimeout p => Sys2Proof.Machine.execTryTimeout p s
  | .sinkVbusLost p => Sys2Proof.Machine.execSinkVbusLost p s
  | .errrecWrite p => Sys2Proof.Machine.execErrrecWrite p s
  | .errorRecoveryEnd p => Sys2Proof.Machine.execErrorRecoveryEnd p s
  | .pdMessageReceived p f phase => Sys2Proof.Machine.execPdMessageReceived p f phase s
  | .goodcrcReceived p more => Sys2Proof.Machine.execGoodcrcReceived p more s
  | .request p r => Sys2Proof.Machine.execRequest p r s
  | .getSourceCap p epr => Sys2Proof.Machine.execGetSourceCap p epr s
  | .softReset p c => Sys2Proof.Machine.execSoftReset p c s
  | .hardReset p => Sys2Proof.Machine.execHardReset p s
  | .hardResetPsStart p => Sys2Proof.Machine.execHardResetPsStart p s
  | .srcRecoverEnd p => Sys2Proof.Machine.execSrcRecoverEnd p s
  | .cableIdentityAnswer p a => Sys2Proof.Machine.execCableIdentityAnswer p a s
  | .discoverIdentityTimer p => Sys2Proof.Machine.execDiscoverIdentityTimer p s
  | .discoverIdentity p => Sys2Proof.Machine.execDiscoverIdentity p s
  | .getStatus p => Sys2Proof.Machine.execGetStatus p s
  | .getPpsStatus p => Sys2Proof.Machine.execGetPpsStatus p s
  | .getRevision p => Sys2Proof.Machine.execGetRevision p s
  | .alert p => Sys2Proof.Machine.execAlert p s
  | .getSinkCap p epr => Sys2Proof.Machine.execGetSinkCap p epr s
  | .unsupportedMessage p c phase => Sys2Proof.Machine.execUnsupportedMessage p c phase s
  | .bist p mode => Sys2Proof.Machine.execBist p mode s
  | .sourceCapabilities p c => Sys2Proof.Machine.execSourceCapabilities p c s
  | .eprModeEnter p => Sys2Proof.Machine.execEprModeEnter p s
  | .eprModeExit p => Sys2Proof.Machine.execEprModeExit p s
  | .eprKeepalive p => Sys2Proof.Machine.execEprKeepalive p s
  | .eprKeepaliveTimeout p => Sys2Proof.Machine.execEprKeepaliveTimeout p s
  | .ppsTimeout p => Sys2Proof.Machine.execPpsTimeout p s
  | .crcReceiveTimeout p => Sys2Proof.Machine.execCrcReceiveTimeout p s
  | .senderResponseTimeout p => Sys2Proof.Machine.execSenderResponseTimeout p s
  | .noResponseTimeout p => Sys2Proof.Machine.execNoResponseTimeout p s
  | .sourceCapTimer p => Sys2Proof.Machine.execSourceCapTimer p s
  | .chunkTimeout p t => Sys2Proof.Machine.execChunkTimeout p t s
  | .sinktxExpiry p => Sys2Proof.Machine.execSinktxExpiry p s
  | .alertHoldoffExpiry p => Sys2Proof.Machine.execAlertHoldoffExpiry p s
  | .mbtxSend p ctx len => Sys2Proof.Machine.execMbtxSend p ctx len s
  | .mbtxAbort p => Sys2Proof.Machine.execMbtxAbort p s
  | .mbrxPop p => Sys2Proof.Machine.execMbrxPop p s
  | .hostReplyTimeout p => Sys2Proof.Machine.execHostReplyTimeout p s
  | .pdCntClear p => Sys2Proof.Machine.execPdCntClear p s
  | .readv p => Sys2Proof.Machine.execReadv p s
  | .readvHoldoffExpiry p => Sys2Proof.Machine.execReadvHoldoffExpiry p s
  | .xctlAbort p => Sys2Proof.Machine.execXctlAbort p s
  | .srcTransitionExpiry p => Sys2Proof.Machine.execSrcTransitionExpiry p s
  | .rampDone p => Sys2Proof.Machine.execRampDone p s
  | .settleDone p => Sys2Proof.Machine.execSettleDone p s
  | .transitionTimeout p => Sys2Proof.Machine.execTransitionTimeout p s
  | .abortRampBackDone p => Sys2Proof.Machine.execAbortRampBackDone p s
  | .complianceExpiry p mean => Sys2Proof.Machine.execComplianceExpiry p mean s
  | .grantWrite p w => Sys2Proof.Machine.execGrantWrite p w s
  | .pwmPeriod p code => Sys2Proof.Machine.execPwmPeriod p code s
  | .peakLimit p cur v => Sys2Proof.Machine.execPeakLimit p cur v s
  | .revLimit p cur v => Sys2Proof.Machine.execRevLimit p cur v s
  | .shortTrip p cur v => Sys2Proof.Machine.execShortTrip p cur v s
  | .ovTrip p cur v => Sys2Proof.Machine.execOvTrip p cur v s
  | .fuseUpdate p mean cur v => Sys2Proof.Machine.execFuseUpdate p mean cur v s
  | .protRetryAttempt p bad => Sys2Proof.Machine.execProtRetryAttempt p bad s
  | .attemptNotSettled p cur v => Sys2Proof.Machine.execAttemptNotSettled p cur v s
  | .triesResetTimer p => Sys2Proof.Machine.execTriesResetTimer p s
  | .unlatch p => Sys2Proof.Machine.execUnlatch p s
  | .selftest p bad => Sys2Proof.Machine.execSelftest p bad s
  | .snkdropTrip p cur v => Sys2Proof.Machine.execSnkdropTrip p cur v s
  | .sinkOvTrip p cur v => Sys2Proof.Machine.execSinkOvTrip p cur v s
  | .ovSample p high => Sys2Proof.Machine.execOvSample p high s
  | .prebiasPass p => Sys2Proof.Machine.execPrebiasPass p s
  | .prebiasFail p cause cur v => Sys2Proof.Machine.execPrebiasFail p cause cur v s
  | .feedbackSwitch p => Sys2Proof.Machine.execFeedbackSwitch p s
  | .ppsCurrentLoop p meanMa => Sys2Proof.Machine.execPpsCurrentLoop p meanMa s
  | .telemetryUpdate p vbus16 vcnv16 i16 tdie => Sys2Proof.Machine.execTelemetryUpdate p vbus16 vcnv16 i16 tdie s
  | .energyAccumulate p cv ci => Sys2Proof.Machine.execEnergyAccumulate p cv ci s
  | .pwmphWrite p next loadCn => Sys2Proof.Machine.execPwmphWrite p next loadCn s
  | .halfCycleBoundary half => Sys2Proof.Machine.execHalfCycleBoundary half s
  | .feReportLoss p => Sys2Proof.Machine.execFeReportLoss p s
  | .reqPr p => Sys2Proof.Machine.execReqPr p s
  | .reqDr p => Sys2Proof.Machine.execReqDr p s
  | .reqVc p => Sys2Proof.Machine.execReqVc p s
  | .prSwap p => Sys2Proof.Machine.execPrSwap p s
  | .drSwap p => Sys2Proof.Machine.execDrSwap p s
  | .vconnSwap p => Sys2Proof.Machine.execVconnSwap p s
  | .frSwap p => Sys2Proof.Machine.execFrSwap p s
  | .swapAnswer p a => Sys2Proof.Machine.execSwapAnswer p a s
  | .swapPsRdy p => Sys2Proof.Machine.execSwapPsRdy p s
  | .swapRetryTimer p => Sys2Proof.Machine.execSwapRetryTimer p s
  | .psSourceOnTimeout p => Sys2Proof.Machine.execPsSourceOnTimeout p s
  | .psSourceOffTimeout p => Sys2Proof.Machine.execPsSourceOffTimeout p s
  | .swapVbusTimeout p => Sys2Proof.Machine.execSwapVbusTimeout p s
  | .swapSourceStart p => Sys2Proof.Machine.execSwapSourceStart p s
  | .vconnSourceTimeout p => Sys2Proof.Machine.execVconnSourceTimeout p s
  | .sinkVbusWaitTimeout p => Sys2Proof.Machine.execSinkVbusWaitTimeout p s
  | .frsSignalEnd p => Sys2Proof.Machine.execFrsSignalEnd p s
  | .frsDetect p => Sys2Proof.Machine.execFrsDetect p s
  | .frsSwapTimeout p => Sys2Proof.Machine.execFrsSwapTimeout p s
  | .aidPortTimeout => Sys2Proof.Machine.execAidPortTimeout s
  | .eprWaitTimer p => Sys2Proof.Machine.execEprWaitTimer p s
  | .budgetRound dt => Sys2Proof.Machine.execBudgetRound dt s
  | .ntcSample mv vdda => Sys2Proof.Machine.execNtcSample mv vdda s
  | .kilnUpdate => Sys2Proof.Machine.execKilnUpdate s
  | .zcCapture t rising since => Sys2Proof.Machine.execZcCapture t rising since s
  | .zcTimeout => Sys2Proof.Machine.execZcTimeout s
  | .cycleBoundary ms => Sys2Proof.Machine.execCycleBoundary ms s
  | .timerMatch k atTop => Sys2Proof.Machine.execTimerMatch k atTop s
  | .schedGo q phase => Sys2Proof.Machine.execSchedGo q phase s
  | .schedAbort q handle => Sys2Proof.Machine.execSchedAbort q handle s
  | .thatchCommand k => Sys2Proof.Machine.execThatchCommand k s
  | .hostLimit k => Sys2Proof.Machine.execHostLimit k s
  | .emergencyTest k => Sys2Proof.Machine.execEmergencyTest k s
  | .snapshot k => Sys2Proof.Machine.execSnapshot k s
  | .dmaTrigger k => Sys2Proof.Machine.execDmaTrigger k s
  | .slaselineTick tick t since tx => Sys2Proof.Machine.execSlaselineTick tick t since tx s
  | .tickMissed => Sys2Proof.Machine.execTickMissed s
  | .schedule a tcn tphase op arg0 arg1 phase => Sys2Proof.Machine.execSchedule a tcn tphase op arg0 arg1 phase s
  | .snapshotFrame a tcn phase => Sys2Proof.Machine.execSnapshotFrame a tcn phase s
  | .timeSet dom cmd t => Sys2Proof.Machine.execTimeSet dom cmd t s
  | .slaselineBadFrame foreign => Sys2Proof.Machine.execSlaselineBadFrame foreign s
  | .synGo q => Sys2Proof.Machine.execSynGo q s
  | .synCommandSend => Sys2Proof.Machine.execSynCommandSend s
  | .synCntClear => Sys2Proof.Machine.execSynCntClear s
  | .thatchDiscoveryStart p => Sys2Proof.Machine.execThatchDiscoveryStart p s
  | .discoverSvidsAck p svids => Sys2Proof.Machine.execDiscoverSvidsAck p svids s
  | .discoverModesAck p vdos => Sys2Proof.Machine.execDiscoverModesAck p vdos s
  | .enterModeAck p ans => Sys2Proof.Machine.execEnterModeAck p ans s
  | .enterModeTimeout p => Sys2Proof.Machine.execEnterModeTimeout p s
  | .linkSettleEnd p => Sys2Proof.Machine.execLinkSettleEnd p s
  | .report p seq r phase => Sys2Proof.Machine.execReport p seq r phase s
  | .thatchNoResponse p phase => Sys2Proof.Machine.execThatchNoResponse p phase s
  | .thatchBadFrame p phase => Sys2Proof.Machine.execThatchBadFrame p phase s
  | .thatchLinkLost p => Sys2Proof.Machine.execThatchLinkLost p s
  | .thatchGiveUp p => Sys2Proof.Machine.execThatchGiveUp p s
  | .thatchReentry p => Sys2Proof.Machine.execThatchReentry p s
  | .thatchExit p => Sys2Proof.Machine.execThatchExit p s
  | .thatchReenter p => Sys2Proof.Machine.execThatchReenter p s
  | .twoWireWrite w => Sys2Proof.Machine.execTwoWireWrite w s
  | .twoWireRead q => Sys2Proof.Machine.execTwoWireRead q s
  | .twoWireBusError f => Sys2Proof.Machine.execTwoWireBusError f s
  | .spiWrite w => Sys2Proof.Machine.execSpiWrite w s
  | .spiRead addr bytes lateAt => Sys2Proof.Machine.execSpiRead addr bytes lateAt s
  | .spiUnknownCommand => Sys2Proof.Machine.execSpiUnknownCommand s
  | .applyBeat d => Sys2Proof.Machine.execApplyBeat d s
  | .clearEventRing d => Sys2Proof.Machine.execClearEventRing d s
  | .deviceReset d => Sys2Proof.Machine.execDeviceReset d s
  | .ownerLock d => Sys2Proof.Machine.execOwnerLock d s
  | .otpMarginAudit d differ => Sys2Proof.Machine.execOtpMarginAudit d differ s
  | .hstCntClear d => Sys2Proof.Machine.execHstCntClear d s
  | .auxPoll k recovered r => Sys2Proof.Machine.execAuxPoll k recovered r s
  | .mapApply => Sys2Proof.Machine.execMapApply s
  | .eccCorrection q addr double => Sys2Proof.Machine.execEccCorrection q addr double s
  | .dmaArm q c burst ring => Sys2Proof.Machine.execDmaArm q c burst ring s
  | .dmaStart q c => Sys2Proof.Machine.execDmaStart q c s
  | .dmaAbort q c withCommit => Sys2Proof.Machine.execDmaAbort q c withCommit s
  | .dmaBurstCommit c preempts => Sys2Proof.Machine.execDmaBurstCommit c preempts s
  | .evrCursorWrite q isSrc w => Sys2Proof.Machine.execEvrCursorWrite q isSrc w s
  | .evrFetchDone k rd => Sys2Proof.Machine.execEvrFetchDone k rd s
  | .evrWin3Read q cur => Sys2Proof.Machine.execEvrWin3Read q cur s
  | .evaClear q j w => Sys2Proof.Machine.execEvaClear q j w s
  | .ringDrain fw => Sys2Proof.Machine.execRingDrain fw s
  | .operatingMinute => Sys2Proof.Machine.execOperatingMinute s
  | .flushAreaErase o => Sys2Proof.Machine.execFlushAreaErase o s
  | .logSectorAppend last => Sys2Proof.Machine.execLogSectorAppend last s
  | .logPageProgram o => Sys2Proof.Machine.execLogPageProgram o s
  | .nvcPageSelect q w => Sys2Proof.Machine.execNvcPageSelect q w s
  | .nvcPageReady k words bad corr => Sys2Proof.Machine.execNvcPageReady k words bad corr s
  | .settingsWrite o => Sys2Proof.Machine.execSettingsWrite o s
  | .otpBurnDone tag data => Sys2Proof.Machine.execOtpBurnDone tag data s
  | .otpBurnInterrupt tag data => Sys2Proof.Machine.execOtpBurnInterrupt tag data s
  | .lifecycleEraseDone => Sys2Proof.Machine.execLifecycleEraseDone s
  | .serviceFrameBad => Sys2Proof.Machine.execServiceFrameBad s
  | .serviceBaudTimeout => Sys2Proof.Machine.execServiceBaudTimeout s
  | .svcHello seq => Sys2Proof.Machine.execSvcHello seq s
  | .svcSetBaud seq code => Sys2Proof.Machine.execSvcSetBaud seq code s
  | .svcStatus seq => Sys2Proof.Machine.execSvcStatus seq s
  | .svcBegin seq target header o => Sys2Proof.Machine.execSvcBegin seq target header o s
  | .svcData seq offset data o => Sys2Proof.Machine.execSvcData seq offset data o s
  | .svcEnd seq => Sys2Proof.Machine.execSvcEnd seq s
  | .svcActivate seq => Sys2Proof.Machine.execSvcActivate seq s
  | .svcAbort seq => Sys2Proof.Machine.execSvcAbort seq s
  | .svcRegRead seq addr n => Sys2Proof.Machine.execSvcRegRead seq addr n s
  | .svcRegWrite seq addr words => Sys2Proof.Machine.execSvcRegWrite seq addr words s
  | .svcMailbox seq cmd arg => Sys2Proof.Machine.execSvcMailbox seq cmd arg s
  | .svcOtpBurn seq burn data auth => Sys2Proof.Machine.execSvcOtpBurn seq burn data auth s
  | .svcOtpOverride seq word value auth => Sys2Proof.Machine.execSvcOtpOverride seq word value auth s
  | .svcStickyLock seq bits auth => Sys2Proof.Machine.execSvcStickyLock seq bits auth s
  | .svcLifecycle seq code auth => Sys2Proof.Machine.execSvcLifecycle seq code auth s
  | .svcReset seq arg => Sys2Proof.Machine.execSvcReset seq arg s
  | .updateTimeout => Sys2Proof.Machine.execUpdateTimeout s
  | .activationRestartDone r => Sys2Proof.Machine.execActivationRestartDone r s
  | .sliceReload p => Sys2Proof.Machine.execSliceReload p s
  | .firmwareConfirm => Sys2Proof.Machine.execFirmwareConfirm s
  | .rollback => Sys2Proof.Machine.execRollback s
  | .registerWrite q addr w => Sys2Proof.Machine.execRegisterWrite q addr w s
  | .vbusClassificationChange p mv => Sys2Proof.Machine.execVbusClassificationChange p mv s
  | .vbusSafe0Debounce p => Sys2Proof.Machine.execVbusSafe0Debounce p s
  | .attemptSuccess p => Sys2Proof.Machine.execAttemptSuccess p s
  | .sinkWaitCapTimeout p => Sys2Proof.Machine.execSinkWaitCapTimeout p s
  | .psTransitionTimeout p => Sys2Proof.Machine.execPsTransitionTimeout p s
  | .sinkRequestTimer p => Sys2Proof.Machine.execSinkRequestTimer p s
  | .eprSinkKeepaliveTimer p => Sys2Proof.Machine.execEprSinkKeepaliveTimer p s
  | .enterEprTimeout p => Sys2Proof.Machine.execEnterEprTimeout p s
  | .bistCarrierModeEnd p => Sys2Proof.Machine.execBistCarrierModeEnd p s
  | .vdmResponseTimeout p => Sys2Proof.Machine.execVdmResponseTimeout p s

end Sys2Proof.Machine
end

