-- ==== Sys2Proof/Safety.lean ====
section
/-!
DEFINITION. What claims say about a step: it goes on, and the state keeps its form.
-/

namespace Sys2Proof.Machine

/-- The command answers a next state. -/
def Completes (c : Instr) (s : State) : Prop := ∃ t, exec c s = .next t

/-- The state's memory has its canonical form. -/
def State.memOk (s : State) : Bool := Memory.wf s.mem

/-- Event source `n` is pending in the banks of all five requesters (R353). -/
def Eva.raised (n : Nat) (x : Eva) : Bool :=
  x.a.pend.getLsbD n && x.b.pend.getLsbD n && x.s.pend.getLsbD n && x.p.pend.getLsbD n && x.w.pend.getLsbD n

/-- What only a few commands touch: the memory and the queue. -/
def State.kept (s : State) : List Host.Cell × List Instr := (s.mem, s.pending)

/-- The other slices as port `p` leaves them: all of them but their stagger phases, which R172 spreads anew. -/
def hideSlice (p : Port) (v : Vector Slice 24) : Vector Slice 24 :=
  Vector.ofFn (fun i => if i = p then {} else { v.get i with ps := { (v.get i).ps with pwmph := {} } })

/-- Everything outside one port: the other 23 slices but for their stagger phases, the Policy Core's figures of the other
ports, and every shared block but the recorder and the aggregator, where events and records go. -/
def State.beside (p : Port) (s : State) : State :=
  { s with
    slices := hideSlice p s.slices, evr := {}, eva := {}
    bud := { s.bud with ports := updAt s.bud.ports p (fun _ => {}) } }

/-- The bytes of system SRAM and the profile table read alike in two states. -/
def sameMemory (s t : State) : Prop := ∀ a, readByte t a = readByte s a

/-! ## Service frames (R407, R409) -/

/-- A service frame that is executed: the port serves, the frame repeats none, no lifecycle change runs and no mailbox
request of domain S is pending. -/
def svcFresh (cmd seq : Byte) (payload : List Byte) (s : State) : Bool :=
  svcActive s && s.lcu.last != some (seq, crc16 (svcFrame cmd seq payload)) && s.otp.change.isNone && !mbPending .s s

/-- STATUS and CAUSE of the response stored. -/
def svcAnswer (s : State) : Option (Byte × Byte) := s.lcu.resp.map (fun r => (r.status, r.cause))

/-- A frame has been answered, and nothing else has changed. -/
def svcAnswered (cmd seq : Byte) (payload : List Byte) (status cause : Byte) (data : List Byte) (s : State) : State :=
  { s with lcu := { s.lcu with
      last := some (seq, crc16 (svcFrame cmd seq payload))
      resp := some { cmd := cmd + 0x80, seq := seq, status := status, cause := cause, data := data } } }

/-! ## Kinds of command -/

/-- The commands that may write memory. -/
def storesMemory : Instr → Bool
  | .activationRestartDone _ => true
  | .configLoad => true
  | .dmaAbort _ _ _ => true
  | .dmaBurstCommit _ _ => true
  | .registerWrite _ _ _ => true
  | .rollback => true
  | .spiWrite _ => true
  | .svcActivate _ => true
  | .svcMailbox _ _ _ => true
  | .svcRegWrite _ _ _ => true
  | .twoWireWrite _ => true
  | .watchdogExpiry _ _ => true
  | .wipeDone => true
  | _ => false

/-- The port that a command acts on alone (R10). -/
def ownPort : Instr → Option Port
  | .ccSample p _ _ _ _ _ => some p
  | .ccDebounceExpiry p => some p
  | .foreignVbus p => some p
  | .sourceDetach p => some p
  | .dischargeDone p => some p
  | .detachRampTimeout p => some p
  | .vconnDischargeEnd p => some p
  | .vconnOvercurrent p => some p
  | .drpToggle p => some p
  | .drpTryExpiry p => some p
  | .tryTimeout p => some p
  | .sinkVbusLost p => some p
  | .errrecWrite p => some p
  | .errorRecoveryEnd p => some p
  | .pdMessageReceived p _ _ => some p
  | .goodcrcReceived p _ => some p
  | .request p _ => some p
  | .getSourceCap p _ => some p
  | .softReset p _ => some p
  | .hardReset p => some p
  | .hardResetPsStart p => some p
  | .srcRecoverEnd p => some p
  | .cableIdentityAnswer p _ => some p
  | .discoverIdentityTimer p => some p
  | .discoverIdentity p => some p
  | .getStatus p => some p
  | .getPpsStatus p => some p
  | .getRevision p => some p
  | .alert p => some p
  | .getSinkCap p _ => some p
  | .unsupportedMessage p _ _ => some p
  | .bist p _ => some p
  | .sourceCapabilities p _ => some p
  | .eprModeEnter p => some p
  | .eprModeExit p => some p
  | .eprKeepalive p => some p
  | .eprKeepaliveTimeout p => some p
  | .ppsTimeout p => some p
  | .crcReceiveTimeout p => some p
  | .senderResponseTimeout p => some p
  | .noResponseTimeout p => some p
  | .sourceCapTimer p => some p
  | .chunkTimeout p _ => some p
  | .sinktxExpiry p => some p
  | .alertHoldoffExpiry p => some p
  | .mbtxSend p _ _ => some p
  | .mbtxAbort p => some p
  | .mbrxPop p => some p
  | .hostReplyTimeout p => some p
  | .pdCntClear p => some p
  | .readv p => some p
  | .readvHoldoffExpiry p => some p
  | .xctlAbort p => some p
  | .srcTransitionExpiry p => some p
  | .rampDone p => some p
  | .settleDone p => some p
  | .transitionTimeout p => some p
  | .abortRampBackDone p => some p
  | .complianceExpiry p _ => some p
  | .grantWrite p _ => some p
  | .pwmPeriod p _ => some p
  | .peakLimit p _ _ => some p
  | .revLimit p _ _ => some p
  | .shortTrip p _ _ => some p
  | .ovTrip p _ _ => some p
  | .fuseUpdate p _ _ _ => some p
  | .protRetryAttempt p _ => some p
  | .attemptNotSettled p _ _ => some p
  | .triesResetTimer p => some p
  | .ovSample p _ => some p
  | .prebiasPass p => some p
  | .prebiasFail p _ _ _ => some p
  | .feedbackSwitch p => some p
  | .ppsCurrentLoop p _ => some p
  | .energyAccumulate p _ _ => some p
  | .pwmphWrite p _ _ => some p
  | .feReportLoss p => some p
  | .reqPr p => some p
  | .reqDr p => some p
  | .reqVc p => some p
  | .prSwap p => some p
  | .drSwap p => some p
  | .vconnSwap p => some p
  | .frSwap p => some p
  | .swapAnswer p _ => some p
  | .swapPsRdy p => some p
  | .swapRetryTimer p => some p
  | .psSourceOnTimeout p => some p
  | .psSourceOffTimeout p => some p
  | .swapVbusTimeout p => some p
  | .swapSourceStart p => some p
  | .vconnSourceTimeout p => some p
  | .sinkVbusWaitTimeout p => some p
  | .frsSignalEnd p => some p
  | .frsDetect p => some p
  | .frsSwapTimeout p => some p
  | .eprWaitTimer p => some p
  | .thatchDiscoveryStart p => some p
  | .discoverSvidsAck p _ => some p
  | .discoverModesAck p _ => some p
  | .enterModeAck p _ => some p
  | .enterModeTimeout p => some p
  | .linkSettleEnd p => some p
  | .thatchLinkLost p => some p
  | .thatchGiveUp p => some p
  | .thatchReentry p => some p
  | .thatchExit p => some p
  | .thatchReenter p => some p
  | .vbusClassificationChange p _ => some p
  | .vbusSafe0Debounce p => some p
  | .attemptSuccess p => some p
  | .sinkWaitCapTimeout p => some p
  | .psTransitionTimeout p => some p
  | .sinkRequestTimer p => some p
  | .eprSinkKeepaliveTimer p => some p
  | .enterEprTimeout p => some p
  | .bistCarrierModeEnd p => some p
  | .vdmResponseTimeout p => some p
  | _ => none

/-- The commands that need a released slice to act on (R83). -/
def needsRelease : Instr → Bool
  | .ccSample _ _ _ _ _ _ => true
  | .ccDebounceExpiry _ => true
  | .foreignVbus _ => true
  | .sourceDetach _ => true
  | .dischargeDone _ => true
  | .detachRampTimeout _ => true
  | .vconnDischargeEnd _ => true
  | .vconnOvercurrent _ => true
  | .drpToggle _ => true
  | .drpTryExpiry _ => true
  | .tryTimeout _ => true
  | .sinkVbusLost _ => true
  | .errrecWrite _ => true
  | .errorRecoveryEnd _ => true
  | .pdMessageReceived _ _ _ => true
  | .goodcrcReceived _ _ => true
  | .request _ _ => true
  | .getSourceCap _ _ => true
  | .softReset _ _ => true
  | .hardReset _ => true
  | .hardResetPsStart _ => true
  | .srcRecoverEnd _ => true
  | .cableIdentityAnswer _ _ => true
  | .discoverIdentityTimer _ => true
  | .discoverIdentity _ => true
  | .getStatus _ => true
  | .getPpsStatus _ => true
  | .getRevision _ => true
  | .alert _ => true
  | .getSinkCap _ _ => true
  | .unsupportedMessage _ _ _ => true
  | .bist _ _ => true
  | .sourceCapabilities _ _ => true
  | .eprModeEnter _ => true
  | .eprModeExit _ => true
  | .eprKeepalive _ => true
  | .eprKeepaliveTimeout _ => true
  | .ppsTimeout _ => true
  | .crcReceiveTimeout _ => true
  | .senderResponseTimeout _ => true
  | .noResponseTimeout _ => true
  | .sourceCapTimer _ => true
  | .chunkTimeout _ _ => true
  | .sinktxExpiry _ => true
  | .alertHoldoffExpiry _ => true
  | .mbtxSend _ _ _ => true
  | .mbtxAbort _ => true
  | .mbrxPop _ => true
  | .hostReplyTimeout _ => true
  | .readv _ => true
  | .readvHoldoffExpiry _ => true
  | .xctlAbort _ => true
  | .srcTransitionExpiry _ => true
  | .rampDone _ => true
  | .settleDone _ => true
  | .transitionTimeout _ => true
  | .abortRampBackDone _ => true
  | .complianceExpiry _ _ => true
  | .pwmPeriod _ _ => true
  | .peakLimit _ _ _ => true
  | .revLimit _ _ _ => true
  | .shortTrip _ _ _ => true
  | .ovTrip _ _ _ => true
  | .fuseUpdate _ _ _ _ => true
  | .protRetryAttempt _ _ => true
  | .attemptNotSettled _ _ _ => true
  | .triesResetTimer _ => true
  | .unlatch _ => true
  | .selftest _ _ => true
  | .snkdropTrip _ _ _ => true
  | .sinkOvTrip _ _ _ => true
  | .ovSample _ _ => true
  | .prebiasPass _ => true
  | .prebiasFail _ _ _ _ => true
  | .feedbackSwitch _ => true
  | .ppsCurrentLoop _ _ => true
  | .telemetryUpdate _ _ _ _ _ => true
  | .energyAccumulate _ _ _ => true
  | .halfCycleBoundary _ => true
  | .feReportLoss _ => true
  | .reqPr _ => true
  | .reqDr _ => true
  | .reqVc _ => true
  | .prSwap _ => true
  | .drSwap _ => true
  | .vconnSwap _ => true
  | .frSwap _ => true
  | .swapAnswer _ _ => true
  | .swapPsRdy _ => true
  | .swapRetryTimer _ => true
  | .psSourceOnTimeout _ => true
  | .psSourceOffTimeout _ => true
  | .swapVbusTimeout _ => true
  | .swapSourceStart _ => true
  | .vconnSourceTimeout _ => true
  | .sinkVbusWaitTimeout _ => true
  | .frsSignalEnd _ => true
  | .frsDetect _ => true
  | .frsSwapTimeout _ => true
  | .eprWaitTimer _ => true
  | .vbusClassificationChange _ _ => true
  | .vbusSafe0Debounce _ => true
  | .attemptSuccess _ => true
  | .sinkWaitCapTimeout _ => true
  | .psTransitionTimeout _ => true
  | .sinkRequestTimer _ => true
  | .eprSinkKeepaliveTimer _ => true
  | .enterEprTimeout _ => true
  | .bistCarrierModeEnd _ => true
  | _ => false

end Sys2Proof.Machine
end

