-- ==== Sys2Proof/Certificates/Slice0/Obligations.lean ====
section
/-!
DEFINITION. What is claimed of the model: for every kind of command, on which states it completes, what it leaves and what it
leaves alone; and the rules of the whole machine. `s` is the state before a command and `t` the state after it.
-/

section
open Sys2Proof Sys2Proof.Machine

/-- From every state whose memory has its canonical form (addresses strictly rising, no byte equal to what an unlisted
address reads as), a step leaves a state whose memory has it: no store of a host, a core, a DMA channel, a service
frame, a wipe or a configuration load breaks the form. The canonical form is the model's representation of system
SRAM and the profile table; the spec gives the stores. -/
def Obligations.MemoryStaysCanonical : Prop :=
  (∀ s t : State, s.memOk = true → step s = .next t → t.memOk = true)

/-- At reset the memory has its canonical form with nothing listed, the queue of commands is empty, no slice is
released, every pin of every slice is as Table 2.10 says, PS_EN is low, the hot-swap gates are off, FAULT_N is low,
PFW_N and the alerts are not asserted, no core runs and no event is pending. -/
def Obligations.ResetState : Prop :=
  ((State.reset.memOk = true ∧ State.reset.mem = [] ∧ State.reset.pending = [] ∧ State.reset.did.cond = .reset ∧
    State.reset.did.released = false)) ∧
  ((∀ p : Port, (State.reset.slice p).pins =
    { term := if p.val < 2 then .clamp else .openCc, pwm := .highZ, sbu := .highZ, isog := false, snkg := false, disch := false, vconnPull := false })) ∧
  ((policyRuns State.reset = false ∧ wardenRuns State.reset = false ∧ State.reset.sup.psEn = false ∧
    State.reset.sup.pfw = false ∧ State.reset.sup.main.gate = false ∧ State.reset.sup.bkup.gate = false ∧
    faultAsserted State.reset = true ∧ alertAsserted .a State.reset = false ∧ alertAsserted .b State.reset = false ∧
    State.reset.eva = {}))

/-- A step takes the command at the front of the queue and runs it on the state with the rest of the queue; on an
empty queue the block idles (the model's choice, log 1). -/
def Obligations.StepRunsTheFrontCommand : Prop :=
  ((∀ (c : Instr) (q : List Instr) (s : State), s.pending = c :: q → step s = exec c { s with pending := q })) ∧
  ((∀ s : State, s.pending = [] → step s = .next s))

/-- Every command answers a next state in every state: the model has no fault and no refusal that a command reaches.
-/
def Obligations.EveryCommandCompletes : Prop :=
  (∀ (c : Instr) (s : State), Completes c s)

/-- Whatever a command does, the commands that wait behind it are the same, in the same order. -/
def Obligations.QueueIsKept : Prop :=
  (∀ (c : Instr) (s t : State), exec c s = .next t → t.pending = s.pending)

/-- A command other than a register write of a requester, a host write, a DMA burst, the service port's writes, the
wipe, a configuration load and what rebuilds the profile table (activation, its restart, rollback and watchdog
expiry) leaves every byte of memory as it was; a DMA abort with no commit in its clock does too. -/
def Obligations.MemoryFrame : Prop :=
  ((∀ (c : Instr) (s t : State), storesMemory c = false → exec c s = .next t → ∀ a : Nat, readByte t a = readByte s
    a)) ∧
  ((∀ (q : Requester) (c : Fin 16) (s t : State), exec (.dmaAbort q c false) s = .next t → ∀ a : Nat, readByte t a =
    readByte s a))

/-- The commands that act on one port alone (118 of them, ownPort) leave everything outside that port as it was: the
other 23 slices but for the stagger phases that R172 spreads anew, the Policy Core's figures for other ports, the
supply block and every other shared block but the recorder and the aggregator, where records and events go. -/
def Obligations.PortIsolation : Prop :=
  (∀ (c : Instr) (p : Port) (s t : State), ownPort c = some p → exec c s = .next t → t.beside p = s.beside p)

/-- While the slices are not released, a command that is an event of a port's attach, contract, message, converter or
protection logic (needsRelease) changes nothing. -/
def Obligations.HeldBeforeRelease : Prop :=
  (∀ (c : Instr) (s : State), needsRelease c = true → s.did.released = false → exec c s = .next s)

/-- After reset, every register reads the reset value that its header in chapters 2 to 20 states; of a register array,
the first and the last are read, and of the slice registers those of ports 0, 1, 7 and 23. -/
def Obligations.ResetRegisters : Prop :=
  ((∀ x ∈ ([(0x4002F018, 0x00000000)] : List (Nat × Word)), readReg .warden x.1 State.reset = x.2)) ∧
  ((∀ x ∈ ([(0x40020000, 0x00000000), (0x40020004, 0x00000000), (0x40020008, 0x00000000), (0x4002000C, 0x00000000),
    (0x40020010, 0x244709A4), (0x40020014, 0x24469190), (0x40020018, 0x64514096), (0x4002001C, 0x64514096),
    (0x40020020, 0x0A00C602), (0x40020024, 0x0514190A), (0x40020028, 0x00000000), (0x4002002C, 0x00B41E00),
    (0x40020030, 0x00000000), (0x40020040, 0xFFFFFFFF), (0x40020044, 0xFFFFFFFF), (0x40020048, 0xFFFFFFFF),
    (0x4002004C, 0xFFFFFFFF), (0x40020050, 0xFFFFFFFF), (0x40020054, 0xFFFFFFFF), (0x40020058, 0xFFFFFFFF),
    (0x4002005C, 0xFFFFFFFF), (0x40020060, 0x00FFFFFF), (0x40020068, 0x00FFFFFF)] : List (Nat × Word)), readReg
    .warden x.1 State.reset = x.2)) ∧
  ((∀ x ∈ ([(0x4002F014, 0x00000000), (0x4002F01C, 0x00000000), (0x4002F010, 0x00000000), (0x4002F020, 0x00000000)] :
    List (Nat × Word)), readReg .warden x.1 State.reset = x.2)) ∧
  ((∀ x ∈ ([(0x40000100, 0x78324B61), (0x40001100, 0x78324B61), (0x40007100, 0x78324B61), (0x40017100, 0x78324B61),
    (0x40000104, 0x0000200F), (0x40001104, 0x0000200F), (0x40007104, 0x00000000), (0x40017104, 0x00000000),
    (0x40000108, 0x00000000), (0x40001108, 0x00000000), (0x40007108, 0x00000000), (0x40017108, 0x00000000),
    (0x4000010C, 0x00000000), (0x4000110C, 0x00000000), (0x4000710C, 0x00000000), (0x4001710C, 0x00000000),
    (0x40000110, 0x00000000), (0x40001110, 0x00000000), (0x40007110, 0x00000000), (0x40017110, 0x00000000)] : List
    (Nat × Word)), readReg .warden x.1 State.reset = x.2)) ∧
  ((∀ x ∈ ([(0x40000200, 0x0000000A), (0x40001200, 0x0000000A), (0x40007200, 0x0000000A), (0x40017200, 0x0000000A),
    (0x40000204, 0x00000000), (0x40001204, 0x00000000), (0x40007204, 0x00000000), (0x40017204, 0x00000000),
    (0x40000208, 0x00000000), (0x40001208, 0x00000000), (0x40007208, 0x00000000), (0x40017208, 0x00000000),
    (0x4000020C, 0x00000000), (0x4000120C, 0x00000000), (0x4000720C, 0x00000000), (0x4001720C, 0x00000000),
    (0x40000210, 0x00000000), (0x40001210, 0x00000000), (0x40007210, 0x00000000), (0x40017210, 0x00000000),
    (0x40000214, 0x00000000), (0x40001214, 0x00000000), (0x40007214, 0x00000000), (0x40017214, 0x00000000),
    (0x40000218, 0x00000000), (0x40001218, 0x00000000), (0x40007218, 0x00000000), (0x40017218, 0x00000000),
    (0x4000021C, 0x00000000), (0x4000121C, 0x00000000), (0x4000721C, 0x00000000), (0x4001721C, 0x00000000),
    (0x40000400, 0x00000000), (0x40001400, 0x00000000), (0x40007400, 0x00000000), (0x40017400, 0x00000000),
    (0x40000404, 0x00000000), (0x40001404, 0x00000000), (0x40007404, 0x00000000), (0x40017404, 0x00000000),
    (0x40000408, 0x00000000), (0x40001408, 0x00000000), (0x40007408, 0x00000000), (0x40017408, 0x00000000),
    (0x4000040C, 0x00000000), (0x4000140C, 0x00000000), (0x4000740C, 0x00000000), (0x4001740C, 0x00000000),
    (0x40000410, 0x00000000), (0x40001410, 0x00000000), (0x40007410, 0x00000000), (0x40017410, 0x00000000),
    (0x40000440, 0x00000000), (0x40001440, 0x00000000), (0x40007440, 0x00000000), (0x40017440, 0x00000000),
    (0x40000600, 0x00000000), (0x40001600, 0x00000000), (0x40007600, 0x00000000), (0x40017600, 0x00000000)] : List
    (Nat × Word)), readReg .warden x.1 State.reset = x.2)) ∧
  ((∀ x ∈ ([(0x40000304, 0x00023C14), (0x40001304, 0x00023C14), (0x40007304, 0x00023C14), (0x40017304, 0x00023C14),
    (0x40000314, 0x00000000), (0x40001314, 0x00000000), (0x40007314, 0x00000000), (0x40017314, 0x00000000),
    (0x40000318, 0x00000000), (0x40001318, 0x00000000), (0x40007318, 0x00000000), (0x40017318, 0x00000000),
    (0x40000300, 0x003206FF), (0x40001300, 0x003206FF), (0x40007300, 0x003206FF), (0x40017300, 0x003206FF),
    (0x40000308, 0x0C9E07FF), (0x40001308, 0x0C9E07FF), (0x40007308, 0x0C9E07FF), (0x40017308, 0x0C9E07FF),
    (0x40000310, 0x00000000), (0x40001310, 0x00000000), (0x40007310, 0x00000000), (0x40017310, 0x00000000),
    (0x4000031C, 0x00000000), (0x4000131C, 0x00000000), (0x4000731C, 0x00000000), (0x4001731C, 0x00000000),
    (0x40000320, 0x00000000), (0x40001320, 0x00000000), (0x40007320, 0x00000000), (0x40017320, 0x00000000)] : List
    (Nat × Word)), readReg .warden x.1 State.reset = x.2)) ∧
  ((∀ x ∈ ([(0x40000800, 0x10001900), (0x40001800, 0x10001900), (0x40007800, 0x10001900), (0x40017800, 0x10001900),
    (0x40000804, 0x000AC080), (0x40001804, 0x000AC080), (0x40007804, 0x000AC080), (0x40017804, 0x000AC080),
    (0x40000808, 0xF98E0384), (0x40001808, 0xF98E0384), (0x40007808, 0xF98E0384), (0x40017808, 0xF98E0384),
    (0x4000080C, 0x200002F8), (0x4000180C, 0x200002F8), (0x4000780C, 0x200002F8), (0x4001780C, 0x200002F8),
    (0x40000810, 0x01000832), (0x40001810, 0x01010832), (0x40007810, 0x01070832), (0x40017810, 0x01170832),
    (0x40000814, 0x00000000), (0x40001814, 0x00000000), (0x40007814, 0x00000000), (0x40017814, 0x00000000),
    (0x40000818, 0x00000000), (0x40001818, 0x00000000), (0x40007818, 0x00000000), (0x40017818, 0x00000000),
    (0x4000081C, 0x00000000), (0x4000181C, 0x00000000), (0x4000781C, 0x00000000), (0x4001781C, 0x00000000),
    (0x40000820, 0x00000000), (0x40001820, 0x00000000), (0x40007820, 0x00000000), (0x40017820, 0x00000000),
    (0x40000824, 0x00000000), (0x40001824, 0x00000000), (0x40007824, 0x00000000), (0x40017824, 0x00000000),
    (0x40000828, 0x00000000), (0x40001828, 0x00000000), (0x40007828, 0x00000000), (0x40017828, 0x00000000),
    (0x40000830, 0x00000000), (0x40001830, 0x00000000), (0x40007830, 0x00000000), (0x40017830, 0x00000000),
    (0x40000834, 0x00000000), (0x40001834, 0x00000000), (0x40007834, 0x00000000), (0x40017834, 0x00000000),
    (0x40000838, 0x00000000), (0x40001838, 0x00000000), (0x40007838, 0x00000000), (0x40017838, 0x00000000),
    (0x4000083C, 0x00000000), (0x4000183C, 0x00000000), (0x4000783C, 0x00000000), (0x4001783C, 0x00000000),
    (0x40000840, 0x00000000), (0x40001840, 0x00000000), (0x40007840, 0x00000000), (0x40017840, 0x00000000),
    (0x40000844, 0x00000000), (0x40001844, 0x00000000), (0x40007844, 0x00000000), (0x40017844, 0x00000000),
    (0x40000848, 0x00000000), (0x40001848, 0x00000000), (0x40007848, 0x00000000), (0x40017848, 0x00000000),
    (0x4000084C, 0x00000000), (0x4000184C, 0x00000000), (0x4000784C, 0x00000000), (0x4001784C, 0x00000000)] : List
    (Nat × Word)), readReg .warden x.1 State.reset = x.2)) ∧
  ((∀ x ∈ ([(0x40000900, 0x04F00A9C), (0x40001900, 0x04F00A9C), (0x40007900, 0x00000000), (0x40017900, 0x00000000),
    (0x40000904, 0x00000000), (0x40001904, 0x00000000), (0x40007904, 0x00000000), (0x40017904, 0x00000000),
    (0x40000908, 0x00000000), (0x40001908, 0x00000000), (0x40007908, 0x00000000), (0x40017908, 0x00000000)] : List
    (Nat × Word)), readReg .warden x.1 State.reset = x.2)) ∧
  ((∀ x ∈ ([(0x40000A00, 0x400A0A0A), (0x40001A00, 0x400A0A0A), (0x40007A00, 0x400A0A0A), (0x40017A00, 0x400A0A0A),
    (0x40000A04, 0x00640064), (0x40001A04, 0x00640064), (0x40007A04, 0x00640064), (0x40017A04, 0x00640064),
    (0x40000A08, 0x0A00C602), (0x40001A08, 0x0A00C602), (0x40007A08, 0x0A00C602), (0x40017A08, 0x0A00C602),
    (0x40000A0C, 0x000A0096), (0x40001A0C, 0x000A0096), (0x40007A0C, 0x00000000), (0x40017A0C, 0x00000000),
    (0x40000A10, 0x00000000), (0x40001A10, 0x00000000), (0x40007A10, 0x00000000), (0x40017A10, 0x00000000),
    (0x40000A14, 0x00000000), (0x40001A14, 0x00000000), (0x40007A14, 0x00000000), (0x40017A14, 0x00000000),
    (0x40000A18, 0x00000000), (0x40001A18, 0x00000000), (0x40007A18, 0x00000000), (0x40017A18, 0x00000000),
    (0x40000A1C, 0x00000000), (0x40001A1C, 0x00000000), (0x40007A1C, 0x00000000), (0x40017A1C, 0x00000000),
    (0x40000A20, 0x00000000), (0x40001A20, 0x00000000), (0x40007A20, 0x00000000), (0x40017A20, 0x00000000),
    (0x40000A24, 0x00000000), (0x40001A24, 0x00000000), (0x40007A24, 0x00000000), (0x40017A24, 0x00000000),
    (0x40020034, 0x00000000)] : List (Nat × Word)), readReg .warden x.1 State.reset = x.2)) ∧
  ((∀ x ∈ ([(0x40000B00, 0x00000000), (0x40001B00, 0x00000000), (0x40007B00, 0x00000000), (0x40017B00, 0x00000000),
    (0x40000B04, 0x00000000), (0x40001B04, 0x00000000), (0x40007B04, 0x00000000), (0x40017B04, 0x00000000),
    (0x40000B08, 0x00000000), (0x40001B08, 0x00000000), (0x40007B08, 0x00000000), (0x40017B08, 0x00000000),
    (0x40021000, 0x4B0F5E0A), (0x40021004, 0x05DC1770), (0x40021008, 0x00000000), (0x4002100C, 0x00000000),
    (0x40021010, 0x00000000), (0x40021040, 0x1FFFF078), (0x4002109C, 0x1FFFF078), (0x400210A0, 0x00000000),
    (0x400210FC, 0x00000000), (0x40022000, 0x00000000), (0x40022004, 0x00000000), (0x40022040, 0x1F425808),
    (0x40022120, 0x1F425808), (0x40022044, 0x06000400), (0x40022124, 0x06000400), (0x40022048, 0x00780384),
    (0x40022128, 0x00780384), (0x4002204C, 0x19064F6E), (0x4002212C, 0x19064F6E), (0x40022050, 0x00000000),
    (0x40022130, 0x00000000), (0x40022140, 0x17700008), (0x4002219C, 0x17700008), (0x400221A0, 0x00000000),
    (0x40022258, 0x00000000), (0x400221A4, 0x00000000), (0x4002225C, 0x00000000)] : List (Nat × Word)), readReg
    .warden x.1 State.reset = x.2)) ∧
  ((∀ x ∈ ([(0x40023000, 0x00000000), (0x40023004, 0x00000141), (0x40023008, 0x00000000), (0x4002300C, 0x00000000),
    (0x40023010, 0x3D090000), (0x40023014, 0x00000000), (0x40023018, 0x00000000), (0x4002301C, 0x00000000),
    (0x40023020, 0x00000000), (0x40023030, 0x00000000), (0x40023034, 0x00000000), (0x40023038, 0x00000000),
    (0x4002303C, 0x00000000), (0x40023040, 0x00000000), (0x40023044, 0x00000000), (0x40023048, 0x00000000),
    (0x40023100, 0x00000000), (0x400231E0, 0x00000000), (0x40023104, 0x00000000), (0x400231E4, 0x00000000),
    (0x40023108, 0xFFFFFFFF), (0x400231E8, 0xFFFFFFFF), (0x4002310C, 0x00000000), (0x400231EC, 0x00000000),
    (0x40023110, 0x00000000), (0x400231F0, 0x00000000), (0x40023114, 0x00000000), (0x40023200, 0x00000000),
    (0x400233FC, 0x00000000), (0x40000C00, 0x00000000), (0x40001C00, 0x00000000), (0x40007C00, 0x00000000),
    (0x40017C00, 0x00000000), (0x40000C04, 0x00000000), (0x40001C04, 0x00000000), (0x40007C04, 0x00000000),
    (0x40017C04, 0x00000000), (0x40000C08, 0x00000000), (0x40001C08, 0x00000000), (0x40007C08, 0x00000000),
    (0x40017C08, 0x00000000), (0x40000C0C, 0x00000000), (0x40001C0C, 0x00000000), (0x40007C0C, 0x00000000),
    (0x40017C0C, 0x00000000), (0x40000C10, 0x00000000), (0x40001C10, 0x00000000), (0x40007C10, 0x00000000),
    (0x40017C10, 0x00000000), (0x40000C20, 0x00000000), (0x40001C20, 0x00000000), (0x40007C20, 0x00000000),
    (0x40017C20, 0x00000000), (0x40000C30, 0x00000000), (0x40001C30, 0x00000000), (0x40007C30, 0x00000000),
    (0x40017C30, 0x00000000), (0x40000C14, 0x00000000), (0x40001C14, 0x00000000), (0x40007C14, 0x00000000),
    (0x40017C14, 0x00000000), (0x40000C34, 0x00000000), (0x40001C34, 0x00000000), (0x40007C34, 0x00000000),
    (0x40017C34, 0x00000000), (0x40024000, 0x00000000), (0x40024004, 0x00400000), (0x40024008, 0x00000000),
    (0x4002400C, 0x00000000), (0x40024010, 0x00000000), (0x40024014, 0x00000000), (0x40024018, 0x00000000),
    (0x40024028, 0x00000000), (0x4002402C, 0x00000000), (0x40024030, 0x00000000), (0x40024040, 0x00000000),
    (0x4002405C, 0x00000000)] : List (Nat × Word)), readReg .warden x.1 State.reset = x.2)) ∧
  ((∀ x ∈ ([(0x40000D00, 0x0001FF0D), (0x40001D00, 0x0001FF0D), (0x40007D00, 0x0001FF0D), (0x40017D00, 0x0001FF0D),
    (0x40000D04, 0x00000000), (0x40001D04, 0x00000000), (0x40007D04, 0x00000000), (0x40017D04, 0x00000000),
    (0x40000D08, 0x00000000), (0x40001D08, 0x00000000), (0x40007D08, 0x00000000), (0x40017D08, 0x00000000),
    (0x40000D0C, 0x00000000), (0x40001D0C, 0x00000000), (0x40007D0C, 0x00000000), (0x40017D0C, 0x00000000),
    (0x40000D10, 0x00000000), (0x40001D10, 0x00000000), (0x40007D10, 0x00000000), (0x40017D10, 0x00000000),
    (0x40000D14, 0x00000000), (0x40001D14, 0x00000000), (0x40007D14, 0x00000000), (0x40017D14, 0x00000000),
    (0x40000D18, 0x00000000), (0x40001D18, 0x00000000), (0x40007D18, 0x00000000), (0x40017D18, 0x00000000),
    (0x40000D1C, 0x00000000), (0x40001D1C, 0x00000000), (0x40007D1C, 0x00000000), (0x40017D1C, 0x00000000),
    (0x40000D20, 0x00000000), (0x40001D20, 0x00000000), (0x40007D20, 0x00000000), (0x40017D20, 0x00000000)] : List
    (Nat × Word)), readReg .warden x.1 State.reset = x.2)) ∧
  ((∀ x ∈ ([(0x40025000, 0x0F984043), (0x40025004, 0x00000000), (0x40025008, 0x00000000), (0x4002500C, 0x00000000),
    (0x40025010, 0x00000000), (0x40025014, 0x00000000), (0x40025018, 0x00000000), (0x40025020, 0x00000000),
    (0x40025024, 0x00000000), (0x4002502C, 0x00000000), (0x40025028, 0x00000000), (0x4002B000, 0x00001901),
    (0x4002B004, 0x00000000), (0x4002B010, 0x00000000), (0x4002B020, 0x00000000)] : List (Nat × Word)), readReg
    .warden x.1 State.reset = x.2)) ∧
  ((∀ x ∈ ([(0x40026000, 0x00000810), (0x40026004, 0x00000000), (0x40026008, 0x00000000), (0x4002600C, 0x00000000),
    (0x40026010, 0x00000000), (0x40026014, 0x00000000), (0x40026018, 0x00000000), (0x4002601C, 0x00000000),
    (0x40026400, 0x00000000), (0x40026404, 0x00000000), (0x40026AF8, 0x00000000), (0x40027000, 0x00000000),
    (0x40027100, 0x00001000), (0x400272E0, 0x00001000), (0x40027104, 0x00000000), (0x400272E4, 0x00000000),
    (0x40027108, 0x00000000), (0x400272E8, 0x00000000), (0x4002710C, 0x00000000), (0x400272EC, 0x00000000),
    (0x40027114, 0x00000000), (0x400272F4, 0x00000000), (0x40027110, 0x00000000)] : List (Nat × Word)), readReg
    .warden x.1 State.reset = x.2)) ∧
  ((∀ x ∈ ([(0x40028000, 0x00000000), (0x40028004, 0x00000000), (0x40028008, 0x00000000), (0x4002800C, 0x00000000),
    (0x40028010, 0x00000000), (0x40028014, 0x00000000), (0x40028018, 0x00000000), (0x4002801C, 0x00000000),
    (0x40028020, 0x00000000), (0x4002802C, 0x00000000), (0x40028030, 0x00000000), (0x40028034, 0x00000000),
    (0x40028038, 0x00000000), (0x4002D000, 0x00000000), (0x4002D01C, 0x00000000), (0x4002D020, 0x00000000),
    (0x4002D03C, 0x00000000), (0x4002D040, 0x000001FF)] : List (Nat × Word)), readReg .warden x.1 State.reset = x.2)) ∧
  ((∀ x ∈ ([(0x40029000, 0x00000000), (0x40029004, 0x00000000), (0x40029008, 0x00000000), (0x4002900C, 0x00000000),
    (0x40029010, 0x00000000), (0x40029020, 0x00000000), (0x4002902C, 0x00000000), (0x40029030, 0x00000000),
    (0x4002903C, 0x00000000), (0x40029040, 0x00000000), (0x4002904C, 0x00000000), (0x40029050, 0x00000000),
    (0x4002905C, 0x00000000), (0x40029060, 0x00000000), (0x4002906C, 0x00000000), (0x40029070, 0x00000000),
    (0x4002907C, 0x00000000), (0x40029080, 0x00000000), (0x4002908C, 0x00000000), (0x40029100, 0x00000000),
    (0x400292FC, 0x00000000), (0x40029300, 0x00000000), (0x400294FC, 0x00000000), (0x4002A040, 0x007F0000)] : List
    (Nat × Word)), readReg .warden x.1 State.reset = x.2)) ∧
  ((∀ x ∈ ([(0x4002C000, 0x00000000), (0x4002C004, 0x00000000), (0x4002C008, 0x00000000), (0x4002C010, 0x00000000),
    (0x4002C014, 0x00000000), (0x4002C018, 0x00000000), (0x4002C01C, 0x00000000), (0x4002C020, 0x00000000),
    (0x4002C024, 0x00000000), (0x4002C030, 0x00000000), (0x4002C034, 0x00000008), (0x4002C200, 0x00000000),
    (0x4002C3FC, 0x00000000), (0x4002C800, 0x00000000), (0x4002CFFC, 0x00000000)] : List (Nat × Word)), readReg
    .warden x.1 State.reset = x.2)) ∧
  ((∀ x ∈ ([(0x4002A000, 0x00000000), (0x4002A004, 0x00000000), (0x4002A008, 0x00000000), (0x4002A00C, 0x00000000),
    (0x4002A010, 0x00000000), (0x4002A014, 0x00000000)] : List (Nat × Word)), readReg .warden x.1 State.reset = x.2)) ∧
  ((∀ x ∈ ([(0x4002F000, 0x00000000), (0x4002F004, 0x00010100), (0x4002F008, 0x001800FF), (0x4002F00C, 0x00000000)] :
    List (Nat × Word)), readReg .warden x.1 State.reset = x.2))

/-- In a free clock the bus goes to a requester that asks: to the oldest, lowest index first, when a reserved grant is
owed or due, and else to the highest class, then the highest age, then the lowest index; with no request it stays
free. A clock that is locked or a commit clock keeps its owner. An owner that still asks loses the bus only to a
requester of a higher class, and a reserved grant only to class 3; the next free clock is then a reserved grant
again. -/
def Obligations.ArbiterDecides : Prop :=
  ((∀ (n : Nat) (r : Vector ArbReq 8) (a : Arbiter) (i : Fin 8), a.owed = true ∨ n - 1 ≤ a.since → (arbFree n r
    a).owner = some i → (r.get i).held = true ∧ (arbFree n r a).resv = true ∧ (arbFree n r a).owed = false ∧ (arbFree
    n r a).since = 0 ∧ ∀ j : Fin 8, (r.get j).held = true → j ≠ i → (r.get j).age < (r.get i).age ∨ ((r.get j).age =
    (r.get i).age ∧ i.val < j.val))) ∧
  ((∀ (n : Nat) (r : Vector ArbReq 8) (a : Arbiter) (i : Fin 8), a.owed = false → a.since < n - 1 → (arbFree n r
    a).owner = some i → (r.get i).held = true ∧ (arbFree n r a).resv = false ∧ (arbFree n r a).since = a.since + 1 ∧ ∀
    j : Fin 8, (r.get j).held = true → j ≠ i → (r.get j).cls < (r.get i).cls ∨ ((r.get j).cls = (r.get i).cls ∧
    ((r.get j).age < (r.get i).age ∨ ((r.get j).age = (r.get i).age ∧ i.val < j.val))))) ∧
  ((∀ (n : Nat) (r : Vector ArbReq 8) (a : Arbiter), (arbFree n r a).owner = none ↔ ∀ i : Fin 8, (r.get i).held =
    false)) ∧
  ((∀ (n : Nat) (r : Vector ArbReq 8) (a : Arbiter) (o : Fin 8), a.owner = some o → arbClock n r true a = a)) ∧
  ((∀ (n : Nat) (r : Vector ArbReq 8) (a : Arbiter) (o : Fin 8), a.owner = some o → (r.get o).held = true → arbClock n
    r false a ≠ a → ∃ w : Fin 8, (arbClock n r false a).owner = some w ∧ (r.get w).held = true ∧ (r.get o).cls <
    (r.get w).cls ∧ (a.resv = true → (r.get w).cls = 3 ∧ (arbClock n r false a).owed = true))) ∧
  ((∀ (n : Nat) (r : Vector ArbReq 8) (a : Arbiter) (o : Fin 8), a.owner = some o → (r.get o).held = false → arbClock
    n r false a = arbFree n r a))

/-- Let a request be held at each of eight reserved grants that complete, and let no other request come to be older
than it, since ages count from the first raise and a request that has been served is raised anew. Then one of the
eight reserved grants is its own, whatever the classes. -/
def Obligations.ReservedGrantBound : Prop :=
  (∀ (r : Nat → Vector ArbReq 8) (i : Fin 8), (∀ k, ((r k).get i).held = true) → (∀ (k : Nat) (j : Fin 8), j ≠ i → ((r
    (k + 1)).get j).held = true → arbOlder (r (k + 1)) j i = true → ((r k).get j).held = true ∧ arbOlder (r k) j i =
    true ∧ arbPick (arbOlder (r k)) (arbCands (r k) none) ≠ some j) → ∃ k, k < 8 ∧ arbPick (arbOlder (r k)) (arbCands
    (r k) none) = some i)

/-- An encoded word holds its data in bits 31:0, its marker in bit 32 and the check bits of R359 in bits 39:33; bit
positions are those R359 counts; of every codeword with syndrome 0 and even parity, the word itself reads as stored,
each of its 40 single-bit errors reads the same and each two-bit error is uncorrectable, as is every other syndrome,
one that points outside positions 1 to 39 included; the all-zero codeword is a blank word. -/
def Obligations.OtpCodeword : Prop :=
  (((List.range 33).map hammingPos = (List.range 40).filter (fun n => decide (3 ≤ n) && n != 4 && n != 8 && n != 16 &&
    n != 32))) ∧
  ((∀ d : Word, (otpEncode d).setWidth 32 = d ∧ (otpEncode d).getLsbD 32 = true ∧ (∀ i : Fin 6, (otpEncode d).getLsbD
    (33 + i.val) = (List.range 33).foldl (fun x j => x ^^ ((otpEncode d).getLsbD j && (hammingPos j).testBit i.val))
    false) ∧ (otpEncode d).getLsbD 39 = (List.range 39).foldl (fun x j => x ^^ (otpEncode d).getLsbD j) false)) ∧
  ((∀ d : Word, syndrome (otpEncode d) = 0 ∧ parity40 (otpEncode d) = false ∧ otpRead (otpEncode d) =
    { written := true, faulted := false, data := d })) ∧
  ((∀ c : BitVec 40, syndrome c = 0 → parity40 c = false → otpRead c =
    { written := c.getLsbD 32, faulted := false, data := if c.getLsbD 32 then c.setWidth 32 else 0 })) ∧
  ((∀ (c : BitVec 40) (i : Fin 40), syndrome c = 0 → parity40 c = false → otpRead (c ^^^ (1 <<< i.val)) = otpRead c)) ∧
  ((∀ (c : BitVec 40) (i j : Fin 40), syndrome c = 0 → parity40 c = false → i ≠ j → otpRead (c ^^^ (1 <<< i.val) ^^^
    (1 <<< j.val)) = { written := false, faulted := true, data := 0 })) ∧
  ((∀ c : BitVec 40, (syndrome c ≠ 0 ∧ parity40 c = false) ∨ 39 < (syndrome c).toNat → otpRead c =
    { written := false, faulted := true, data := 0 })) ∧
  ((otpRead 0 = { written := false, faulted := false, data := 0 }))

/-- The lifecycle state is k, from 1 to 4, exactly when LCk is written or faulted and no higher LC word is, and 0 when
none is; it depends on no data; LCU_LCSTAT and the Lifecycle record of a finished change carry these codes; an
accepted change burns LCk with the new code as data. -/
def Obligations.LifecycleState : Prop :=
  ((∀ (o : Otp) (k : Nat), 1 ≤ k → k ≤ 4 → (lifecycle o = k ↔ (otpWritten o k = true ∨ otpFaulted o k = true) ∧ ∀ j, k
    < j → j ≤ 4 → otpWritten o j = false ∧ otpFaulted o j = false))) ∧
  ((∀ o : Otp, (lifecycle o = 0 ↔ ∀ j, 1 ≤ j → j ≤ 4 → otpWritten o j = false ∧ otpFaulted o j = false) ∧ lifecycle o
    ≤ 4)) ∧
  ((∀ o o' : Otp, o.wr = o'.wr → o.uc = o'.uc → lifecycle o = lifecycle o')) ∧
  ((∀ o : Otp, o.sensed = true → (lcstat o).state = BitVec.ofNat 3 (lifecycle o))) ∧
  ((∀ (seq code : Byte) (auth : Option AuthBlock) (s t : State), s.otp.change = none → exec (.svcLifecycle seq code
    auth) s = .next t → t.otp.change ≠ none → code.toNat = lifecycle s.otp + 1 ∧ ∃ w : Fin 128, w.val = code.toNat ∧
    t.otp.job = some { word := w, row := none, tag := 0, data := otpEncode (code.setWidth 32) })) ∧
  ((∀ (k : BitVec 3) (s t : State), s.otp.change = some k → s.otp.job = none → exec .lifecycleEraseDone s = .next t →
    t.nand.log.head? = some (hwWords
    { type := 4, source := 220, flags := 8 ||| autoFlags s, minutes := s.evr.opmin.minF, pcc := s.evr.pcc.pcc, data := BitVec.ofNat 48 (lifecycle s.otp + 256 * k.toNat), no := 0 })))

/-- An owner's abort of a running channel before the commit point abandons the burst in progress with no effect: STATE
4, CNT as it was, memory as it was. In the clock of a commit, the commit comes first, and then a channel that was at
its last burst is DONE with ABORT_LATE set, and any other stops with STATE 4 after that burst. After DONE the abort
is ignored and ABORT_LATE is set. All this holds whatever the arbiter and the map are doing. -/
def Obligations.DmaAbort : Prop :=
  ((∀ (q : Requester) (c : Fin 16) (s : State), hasBank q = true → (s.dma.get c).ownedBy (bankOf q s) = true →
    (s.dma.get c).stat.state = 2 → ∃ t, exec (.dmaAbort q c false) s = .next t ∧ (t.dma.get c).stat =
    { (s.dma.get c).stat with state := 4 } ∧ (t.dma.get c).cnt = (s.dma.get c).cnt ∧ (∀ j, j ≠ c → t.dma.get j =
    s.dma.get j) ∧ t.mem = s.mem ∧ t.slices = s.slices ∧ t.sup = s.sup ∧ t.fab = s.fab ∧ t.eva = s.eva)) ∧
  ((∀ (q : Requester) (c : Fin 16) (s : State), hasBank q = true → (s.dma.get c).ownedBy (bankOf q s) = true →
    (s.dma.get c).stat.state = 2 → ((dmaBurstCommit c 0 s).dma.get c).ownedBy (bankOf q s) = true → ∃ t, exec
    (.dmaAbort q c true) s = .next t ∧ t.mem = (dmaBurstCommit c 0 s).mem ∧ (t.dma.get c).cnt = ((dmaBurstCommit c 0
    s).dma.get c).cnt ∧ (((dmaBurstCommit c 0 s).dma.get c).stat.state = 3 → (t.dma.get c).stat =
    { ((dmaBurstCommit c 0 s).dma.get c).stat with abortLate := true }) ∧ (((dmaBurstCommit c 0 s).dma.get
    c).stat.state = 2 → (t.dma.get c).stat = { ((dmaBurstCommit c 0 s).dma.get c).stat with state := 4 }))) ∧
  ((∀ (q : Requester) (c : Fin 16) (s : State), hasBank q = true → (s.dma.get c).ownedBy (bankOf q s) = true →
    (s.dma.get c).stat.state = 3 → exec (.dmaAbort q c false) s = .next
    { s with dma := updAt s.dma c (fun x => { x with stat := { x.stat with abortLate := true } }) }))

/-- A write of SLC_GRANT of any port by a requester other than the Policy Core, which the mortar map lets through,
changes no slice and no memory and raises no fault. -/
def Obligations.GrantWritesOfOthers : Prop :=
  (∀ (q : Requester) (p : Port) (w : Word) (s : State), q ≠ .policy → requesterRuns q s = true → mapAllows q
    (0x40000B00 + 0x1000 * p.val) .write s = true → ∃ t, exec (.registerWrite q (BitVec.ofNat 32 (0x40000B00 + 0x1000
    * p.val)) w) s = .next t ∧ t.slices = s.slices ∧ t.fab.flt0 = s.fab.flt0 ∧ t.fab.flt1 = s.fab.flt1 ∧ t.eva = s.eva
    ∧ t.mem = s.mem)

/-- INPUT_QUALIFIED marks the path qualified and connects it, lets it wait its stagger delay, or starts its due
attempt; INPUT_LOST moves the load to a qualified backup at once under the hold line, and with no input left drives
every cap to 0, V_max to 0, PS_EN low and PFW_N; INPUT_WARNING drives and releases PFW_N; BACKUP_PATH_CONDUCT,
CASCADE_QUALIFIED and CASCADE_LOST change the backup gate and the sink path as stated, and commands whose condition
does not hold change nothing. -/
def Obligations.InputsAndWarning : Prop :=
  (∀ (mv : Nat) (s : State), s.sup.main.qual = false → s.sup.main.latch = false → s.otp.sensed = true → s.sup.main.st
    ≠ .notConfigured → s.sup.main.st ≠ .retrying → s.sup.active = .backup ∨ s.sup.active = .cascade → ∃ t, exec
    (.inputQualified .main mv) s = .next t ∧ t.sup =
    { s.sup with vin := { s.sup.vin with vmain := BitVec.ofNat 16 (mv / 10) }, main := { s.sup.main with qual := true, st := .staggerOrArmed } }
    ∧ t.evr = s.evr) ∧
  (∀ (mv : Nat) (s : State), s.sup.bkup.qual = false → s.sup.bkup.latch = false → s.otp.sensed = true → s.sup.bkup.st
    ≠ .notConfigured → s.sup.bkup.st ≠ .retrying → s.sup.active = .main → ∃ t, exec (.inputQualified .backup mv) s =
    .next t ∧ t.sup =
    { s.sup with vin := { s.sup.vin with vbkup := BitVec.ofNat 16 (mv / 10) }, bkup := { s.sup.bkup with qual := true, st := .staggerOrArmed } }
    ∧ t.evr = s.evr) ∧
  (∀ (mv : Nat) (s : State), s.sup.main.qual = false → s.sup.main.latch = false → s.otp.sensed = true → s.sup.main.st
    = .lost → s.sup.active = .none → s.sup.lock.cfgLk = true → s.sup.main.attempt = false → s.sup.bkup.busy = false →
    s.sup.hswMain.mode = false → ∃ t, exec (.inputQualified .main mv) s = .next t ∧ t.sup.main =
    { s.sup.main with qual := true, st := .connecting, gate := true, precharge := false, attempt := false, needQual := false, offDone := false, returnDue := false }
    ∧ t.sup.hold = true ∧ t.sup.active = .none) ∧
  (∀ (mv : Nat) (s : State), s.sup.main.qual = false → s.sup.main.latch = false → s.otp.sensed = true → s.sup.main.st
    = .retrying → s.sup.main.offDone = true → s.sup.hswMain.mode = false → ∃ t, exec (.inputQualified .main mv) s =
    .next t ∧ t.sup.main =
    { s.sup.main with qual := true, attempt := true, gate := true, precharge := false, needQual := false, offDone := false, returnDue := false }) ∧
  (∀ (x : PathId) (mv : Nat) (s : State), (s.sup.path x).qual = true ∨ (s.sup.path x).latch = true → exec
    (.inputQualified x mv) s = .next s) ∧
  (∀ (x : PathId) (s : State), (s.sup.path x).qual = false → exec (.inputLost x) s = .next s) ∧
  (∀ (s : State), s.sup.main.qual = true → s.sup.active = .main → s.sup.etst = false → s.sup.main.st ≠ .retrying →
    s.sup.bkup.qual = true → s.sup.bkup.st = .staggerOrArmed → ∃ t, exec (.inputLost .main) s = .next t ∧ t.sup.active
    = .backup ∧ t.sup.main.st = .lost ∧ t.sup.main.qual = false ∧ t.sup.main.gate = false ∧ t.sup.bkup.st =
    .connecting ∧ t.sup.hold = true ∧ t.eva.raised 192 = true) ∧
  (∀ (s : State), s.sup.main.qual = true → s.sup.active = .main → s.sup.etst = false → s.sup.main.st = .connected →
    s.sup.bkup.qual = false → s.sup.cascQ = false → ∃ t, exec (.inputLost .main) s = .next t ∧ t.sup.active = .none ∧
    t.sup.main.st = .lost ∧ t.sup.main.gate = false ∧ t.sup.hold = true ∧ t.sup.maxpdo = 0 ∧ t.sup.psEn = false ∧
    t.sup.pfw = (s.sup.pfw || s.sup.everActive) ∧ t.eva.raised 192 = true ∧ (∀ p, (t.slice p).gr.cap = 0)) ∧
  (∀ (s : State), s.sup.main.qual = true → s.sup.active = .backup → s.sup.etst = false → s.sup.main.st =
    .staggerOrArmed → ∃ t, exec (.inputLost .main) s = .next t ∧ t.sup =
    { s.sup with main := { s.sup.main with st := .lost, gate := false, precharge := false, attempt := false, returnDue := false, qual := false, needQual := false, offDone := false } }
    ∧ t.eva = s.eva) ∧
  (∀ (s : State), s.sup.bkup.qual = true → s.sup.active = .main → s.sup.etst = false → s.sup.bkup.st = .staggerOrArmed
    → ∃ t, exec (.inputLost .backup) s = .next t ∧ t.sup.bkup.st = .lost ∧ t.sup.bkup.qual = false ∧ t.sup.bkup.gate =
    false ∧ t.sup.active = .main ∧ t.eva.raised 194 = true) ∧
  (∀ (s : State), s.sup.active = .main ∧ s.sup.bkup.qual = false ∨ s.sup.active = .backup ∧ s.sup.main.qual = false →
    s.sup.cascQ = false → s.sup.pfw = false → ∃ t, exec (.inputWarning true) s = .next t ∧ t.sup =
    { s.sup with pfw := true } ∧ t.eva.raised 197 = true) ∧
  (∀ (s : State), s.sup.active = .main → s.sup.bkup.qual = true → exec (.inputWarning true) s = .next s) ∧
  (∀ (s : State), s.sup.active ≠ .none → exec (.inputWarning false) s = .next
    ({ s with sup := { s.sup with pfw := false } })) ∧
  (∀ (s : State), s.sup.bkup.qual = true → s.sup.bkup.st = .staggerOrArmed ∨ s.sup.bkup.st = .connecting →
    s.sup.bkup.precharge = false → exec .backupPathConduct s = .next
    ({ s with sup := { s.sup with bkup := { s.sup.bkup with gate := true } } })) ∧
  (∀ (s : State), s.sup.bkup.qual = false → exec .backupPathConduct s = .next s) ∧
  (∀ (p : Port) (s : State), aidPort s = some p → 20000 ≤ (s.slice p).sw.snkMv → (s.slice p).sw.snkWaitRdy = false →
    s.sup.cascQ = false → s.sup.active ≠ .none → exec (.cascadeQualified p) s = .next
    ({ s with sup := { s.sup with cascQ := true, cascPort := some p } })) ∧
  (∀ (p : Port) (s : State), aidPort s = some p → 20000 ≤ (s.slice p).sw.snkMv → (s.slice p).sw.snkWaitRdy = false →
    s.sup.cascQ = false → s.sup.active = .none → s.sup.lock.cfgLk = true → s.sup.main.qual = false → s.sup.bkup.qual =
    false → s.sup.main.busy = false → s.sup.bkup.busy = false → s.sup.cascRetry = false → s.sup.cascLatch = false →
    (s.slice p).pins.snkg = false → (s.slice p).pr.bad = 0 → (s.slice p).pr.prstat.pstate = 0 → ∃ t, exec
    (.cascadeQualified p) s = .next t ∧ t.sup.cascQ = true ∧ t.sup.cascPort = some p ∧ t.sup.hold = true ∧ (t.slice
    p).pins.snkg = true ∧ (t.slice p).sw.swstat.snkp = (if s.sup.vaux.vbulk.toNat + 100 < (s.slice
    p).ps.tlmV.vbus.toNat then 1 else 2)) ∧
  (∀ (p : Port) (s : State), s.sup.cascQ = true → s.sup.cascPort = some p → s.sup.active ≠ .cascade → ∃ t, exec
    (.cascadeLost p) s = .next t ∧ t.sup =
    { s.sup with cascQ := false, cascPort := none, cascLatch := false, cascAttempt := false } ∧ (t.slice p).pins.snkg
    = false ∧ (t.slice p).sw.swstat.snkp = 0) ∧
  (∀ (p : Port) (s : State), s.sup.cascQ = true → s.sup.cascPort = some p → s.sup.active = .cascade → s.sup.main.qual
    = true → s.sup.hswMain.mode = false → ∃ t, exec (.cascadeLost p) s = .next t ∧ t.sup.cascQ = false ∧
    t.sup.cascPort = none ∧ t.sup.active = .main ∧ t.sup.main.st = .connecting ∧ t.sup.main.gate = true ∧ t.sup.hold =
    true ∧ t.eva.raised 193 = true) ∧
  (∀ (p : Port) (s : State), s.sup.cascQ = false → exec (.cascadeLost p) s = .next s)

/-- PATH_GOOD makes the input active, clears its attempts, raises event 193 for main and lowers the hold line;
SINK_PATH_GOOD makes cascade active with event 196 and SINK_PATH_TIMEOUT opens that path again;
SWITCHOVER_WINDOW_END lowers the hold line with event 195; STAGGER_DELAY_END starts the return or lets it wait for
the hold line; PRECHARGE_DONE closes the pair; a command whose condition does not hold changes nothing. -/
def Obligations.PathsGoodAndFailed : Prop :=
  (∀ (vin : Nat) (s : State), s.sup.main.gate = true → s.sup.main.st = .connecting → s.sup.active = .none →
    s.sup.bkup.returnDue = false → ((∀ k, (s.cyc.slots.get k).st ≠ .waiting)) → ∃ t, exec (.pathGood .main vin) s =
    .next t ∧ t.sup.active = .main ∧ t.sup.main.st = .connected ∧ t.sup.main.attempt = false ∧ t.sup.main.tries = 0 ∧
    t.sup.hold = false ∧ t.sup.psEn = s.did.released ∧ t.eva.raised 193 = true) ∧
  (∀ (vin : Nat) (s : State), s.sup.bkup.gate = true → s.sup.bkup.st = .connecting → s.sup.active = .backup →
    s.sup.main.returnDue = false → s.sup.hold = true → ((∀ k, (s.cyc.slots.get k).st ≠ .waiting)) → ∃ t, exec
    (.pathGood .backup vin) s = .next t ∧ t.sup.active = .backup ∧ t.sup.bkup.st = .connected ∧ t.sup.bkup.attempt =
    false ∧ t.sup.bkup.tries = 0 ∧ t.sup.hold = false ∧ t.sup.psEn = s.did.released ∧ t.eva.raised 195 = true) ∧
  (∀ (x : PathId) (vin : Nat) (s : State), (s.sup.path x).gate = false → exec (.pathGood x vin) s = .next s) ∧
  (∀ (p : Port) (vin : Nat) (s : State), (s.slice p).pins.snkg = true → s.sup.cascPort = some p → s.sup.active = .none
    → s.sup.main.returnDue = false → s.sup.bkup.returnDue = false → ((∀ k, (s.cyc.slots.get k).st ≠ .waiting)) → ∃ t,
    exec (.sinkPathGood p vin) s = .next t ∧ t.sup.active = .cascade ∧ t.sup.hold = false ∧ t.sup.cascTries = 0 ∧
    t.sup.cascAttempt = false ∧ t.sup.pfw = false ∧ t.sup.psEn = s.did.released ∧ t.eva.raised 196 = true) ∧
  (∀ (p : Port) (vin : Nat) (s : State), (s.slice p).pins.snkg = false → exec (.sinkPathGood p vin) s = .next s) ∧
  (∀ (p : Port) (s : State), (s.slice p).pins.snkg = true → s.sup.active ≠ .cascade → s.sup.cascAttempt = false → ∃ t,
    exec (.sinkPathTimeout p) s = .next t ∧ t.sup = { s.sup with cascLatch := false, cascRetry := true } ∧ (t.slice
    p).pins.snkg = false ∧ (t.slice p).sw.swstat.snkp = 3 ∧ t.evr = s.evr) ∧
  (∀ (p : Port) (s : State), (s.slice p).pins.snkg = true → s.sup.active ≠ .cascade → s.sup.cascAttempt = true →
    s.sup.retry.count ≠ 0 → s.sup.retry.count.toNat ≤ (satInc s.sup.cascTries).toNat → ∃ t, exec (.sinkPathTimeout p)
    s = .next t ∧ t.sup =
    { s.sup with cascTries := satInc s.sup.cascTries, cascLatch := true, cascRetry := false, cascAttempt := false } ∧
    (t.slice p).pins.snkg = false ∧ (t.slice p).sw.swstat.snkp = 3) ∧
  (∀ (vin : Nat) (s : State), s.sup.hold = true → s.sup.main.returnDue = false → s.sup.bkup.returnDue = false → ((∀ k,
    (s.cyc.slots.get k).st ≠ .waiting)) → ∃ t, exec (.switchoverWindowEnd vin) s = .next t ∧ t.sup =
    { s.sup with hold := false, maxpdo := if s.sup.active ≠ .none ∧ (vmaxOf vin).toNat < s.sup.maxpdo.toNat then vmaxOf vin else s.sup.maxpdo }
    ∧ t.eva.raised 195 = true) ∧
  (∀ (vin : Nat) (s : State), s.sup.hold = false → exec (.switchoverWindowEnd vin) s = .next s) ∧
  (∀ (s : State), s.sup.main.st = .staggerOrArmed → s.sup.main.qual = true → s.sup.active = .backup ∨ s.sup.active =
    .cascade → s.sup.etst = false → s.sup.hold = false → s.sup.hswMain.mode = false → ∃ t, exec (.staggerDelayEnd
    .main) s = .next t ∧ t.sup =
    { s.sup with hold := true, main := { s.sup.main with st := .connecting, attempt := false, gate := true, precharge := false, offDone := false, needQual := false, returnDue := false } }) ∧
  (∀ (s : State), s.sup.main.st = .staggerOrArmed → s.sup.main.qual = true → s.sup.active = .backup ∨ s.sup.active =
    .cascade → s.sup.etst = false → s.sup.hold = true → exec (.staggerDelayEnd .main) s = .next
    ({ s with sup := { s.sup with main := { s.sup.main with returnDue := true } } })) ∧
  (∀ (s : State), s.sup.main.qual = false → exec (.staggerDelayEnd .main) s = .next
    ({ s with sup := { s.sup with main := { s.sup.main with returnDue := false } } })) ∧
  (∀ (s : State), s.sup.main.precharge = true → exec (.prechargeDone .main) s = .next
    ({ s with sup := { s.sup with main := { s.sup.main with gate := true } } })) ∧
  (∀ (x : PathId) (s : State), (s.sup.path x).precharge = false → exec (.prechargeDone x) s = .next s)

/-- PATH_FAULT, PRECHARGE_TIMEOUT, PATH_OVERVOLTAGE and SUPPLY_ATTEMPT_FAIL open the path with causes 1, 2 and 3 and
count attempts as R66 says, up to the latch; SUPPLY_RETRY_ATTEMPT starts the attempt and SUPPLY_LATCH_CLEAR clears a
latch. -/
def Obligations.PathFailuresAndRetries : Prop :=
  (∀ (s : State), s.sup.main.st = .connecting → s.sup.main.gate = true → s.sup.main.qual = true → ∃ t, exec
    (.pathFault .main) s = .next t ∧ t.sup.main =
    { s.sup.main with st := .retrying, gate := false, precharge := false, attempt := false, returnDue := false, needQual := false, offDone := false, latch := false, cause := 1 }) ∧
  (∀ (s : State), s.sup.bkup.st = .connecting → s.sup.bkup.gate = true → s.sup.bkup.qual = true → ∃ t, exec
    (.pathFault .backup) s = .next t ∧ t.sup.bkup =
    { s.sup.bkup with st := .retrying, gate := false, precharge := false, attempt := false, returnDue := false, needQual := false, offDone := false, latch := false, cause := 1 }) ∧
  (∀ (x : PathId) (s : State), (s.sup.path x).st ≠ .connecting → exec (.pathFault x) s = .next s) ∧
  (∀ (s : State), s.sup.main.precharge = true → s.sup.main.gate = false → s.sup.main.attempt = false → s.sup.main.qual
    = true → ∃ t, exec (.prechargeTimeout .main) s = .next t ∧ t.sup.main =
    { s.sup.main with st := .retrying, gate := false, precharge := false, returnDue := false, needQual := false, offDone := false, latch := false, cause := 2 }) ∧
  (∀ (s : State), s.sup.main.precharge = true → s.sup.main.gate = false → s.sup.main.attempt = true →
    s.sup.retry.count ≠ 0 → s.sup.retry.count.toNat ≤ (satInc s.sup.main.tries).toNat → ∃ t, exec (.prechargeTimeout
    .main) s = .next t ∧ t.sup.main.st = .latched ∧ t.sup.main.latch = true ∧ t.sup.main.qual = false ∧
    t.sup.main.precharge = false ∧ t.sup.main.tries = satInc s.sup.main.tries ∧ t.sup.main.cause = 2) ∧
  (∀ (s : State), s.sup.main.st = .connecting → s.sup.main.qual = true → s.sup.retry.count = 0 → ∃ t, exec
    (.pathOvervoltage .main) s = .next t ∧ t.sup.main =
    { s.sup.main with st := .retrying, gate := false, precharge := false, attempt := false, returnDue := false, qual := false, needQual := true, offDone := false, tries := satInc s.sup.main.tries, latch := false, cause := 3 }
    ∧ t.eva.raised 192 = true) ∧
  (∀ (x : PathId) (s : State), (s.sup.path x).busy = false → exec (.pathOvervoltage x) s = .next s) ∧
  (∀ (s : State), s.sup.main.st = .retrying → s.sup.main.attempt = false → s.sup.main.qual = true → s.sup.hswMain.mode
    = false → exec (.supplyRetryAttempt .main) s = .next
    ({ s with sup := { s.sup with main := { s.sup.main with st := .retrying, attempt := true, gate := true, precharge := false, offDone := false, needQual := false, returnDue := false } } })) ∧
  (∀ (s : State), s.sup.main.st = .retrying → s.sup.main.attempt = false → s.sup.main.qual = false → exec
    (.supplyRetryAttempt .main) s = .next
    ({ s with sup := { s.sup with main := { s.sup.main with offDone := true } } })) ∧
  (∀ (s : State), s.sup.bkup.st = .retrying → s.sup.bkup.attempt = false → s.sup.bkup.qual = true → s.sup.active =
    .main → exec (.supplyRetryAttempt .backup) s = .next
    ({ s with sup := { s.sup with bkup := { s.sup.bkup with st := .staggerOrArmed, gate := false, precharge := false, attempt := false, returnDue := false } } })) ∧
  (∀ (s : State), s.sup.cascRetry = true → s.sup.active ≠ .none → exec (.supplyRetryAttempt .cascade) s = .next
    ({ s with sup := { s.sup with cascRetry := false, cascAttempt := true } })) ∧
  (∀ (s : State), exec (.supplyRetryAttempt .none) s = .next s) ∧
  (∀ (rose : Bool) (s : State), s.sup.main.attempt = true → s.sup.main.qual = true → s.sup.retry.count = 0 → ∃ t, exec
    (.supplyAttemptFail .main rose) s = .next t ∧ t.sup.main =
    { s.sup.main with st := .retrying, gate := false, precharge := false, attempt := false, returnDue := false, needQual := false, offDone := false, tries := if rose then s.sup.main.tries else satInc s.sup.main.tries, latch := false }) ∧
  (∀ (s : State), s.sup.bkup.attempt = true → s.sup.retry.count ≠ 0 → s.sup.retry.count.toNat ≤ (satInc
    s.sup.bkup.tries).toNat → ∃ t, exec (.supplyAttemptFail .backup false) s = .next t ∧ t.sup.bkup.st = .latched ∧
    t.sup.bkup.latch = true ∧ t.sup.bkup.qual = false ∧ t.sup.bkup.gate = false ∧ t.sup.bkup.tries = satInc
    s.sup.bkup.tries) ∧
  (∀ (x : PathId) (rose : Bool) (s : State), s.sup.main.attempt = false → exec (.supplyAttemptFail .main rose) s =
    .next s) ∧
  (∀ (w : Word) (s : State), getBit w 16 = true → getBit w 17 = false → s.sup.main.latch = true → exec
    (.supplyLatchClear w) s = .next
    ({ s with sup := { s.sup with main := { s.sup.main with latch := false, tries := 0, st := .qualifying, qual := false, needQual := false } } })) ∧
  (∀ (w : Word) (s : State), getBit w 16 = false → getBit w 17 = true → s.sup.bkup.latch = true → exec
    (.supplyLatchClear w) s = .next
    ({ s with sup := { s.sup with bkup := { s.sup.bkup with latch := false, tries := 0, st := .qualifying, qual := false, needQual := false } } })) ∧
  (∀ (w : Word) (s : State), getBit w 16 = false → getBit w 17 = false → exec (.supplyLatchClear w) s = .next s)

/-- VMAX_WINDOW stores the measured voltages, takes a fall at once, takes the first whole window after none at once,
and keeps the lowest rising value until VMAX_RISE publishes it; EMG_ASSERT and EMG_RELEASE set and clear the demand,
the assertion with event 198 and ending a test with result 4 and cause 5; ETEST_START moves the load to the armed
backup with event 199 or is refused with result 5 and cause 7; ETEST_ABORT and ETEST_END end the test with the
results of the table. -/
def Obligations.VmaxAndEmergency : Prop :=
  (∀ (vin : Nat) (whole : Bool) (vmain vbkup vbulk vhk : BitVec 16) (s : State), s.sup.active = .none → s.sup.etst =
    false → exec (.vmaxWindow vin whole vmain vbkup vbulk vhk) s = .next
    ({ s with sup := { s.sup with vin := { vmain := vmain, vbkup := vbkup }, vaux := { vbulk := vbulk, vhk := vhk } } })) ∧
  (∀ (vin : Nat) (whole : Bool) (vmain vbkup vbulk vhk : BitVec 16) (s : State), s.sup.active ≠ .none → s.sup.etst =
    false → s.sup.vmaxFresh = false → (vmaxOf vin).toNat ≤ s.sup.maxpdo.toNat → ∃ t, exec (.vmaxWindow vin whole vmain
    vbkup vbulk vhk) s = .next t ∧ t.sup =
    { s.sup with vin := { vmain := vmain, vbkup := vbkup }, vaux := { vbulk := vbulk, vhk := vhk }, maxpdo := vmaxOf vin, vmaxCand := 0 }) ∧
  (∀ (vin : Nat) (vmain vbkup vbulk vhk : BitVec 16) (s : State), s.sup.active ≠ .none → s.sup.etst = false →
    s.sup.vmaxFresh = true → ∃ t, exec (.vmaxWindow vin true vmain vbkup vbulk vhk) s = .next t ∧ t.sup =
    { s.sup with vin := { vmain := vmain, vbkup := vbkup }, vaux := { vbulk := vbulk, vhk := vhk }, maxpdo := vmaxOf vin, vmaxCand := 0, vmaxFresh := false }) ∧
  (∀ (vin : Nat) (whole : Bool) (vmain vbkup vbulk vhk : BitVec 16) (s : State), s.sup.active ≠ .none → s.sup.etst =
    false → s.sup.vmaxFresh = false → s.sup.maxpdo.toNat < (vmaxOf vin).toNat → exec (.vmaxWindow vin whole vmain
    vbkup vbulk vhk) s = .next
    ({ s with sup := { s.sup with vin := { vmain := vmain, vbkup := vbkup }, vaux := { vbulk := vbulk, vhk := vhk }, vmaxCand := if s.sup.vmaxCand = 0 ∨ (vmaxOf vin).toNat < s.sup.vmaxCand.toNat then vmaxOf vin else s.sup.vmaxCand } })) ∧
  (∀ (vin : Nat) (whole : Bool) (vmain vbkup vbulk vhk : BitVec 16) (s : State), s.sup.active = .none → s.sup.etst =
    true → ∃ t, exec (.vmaxWindow vin whole vmain vbkup vbulk vhk) s = .next t ∧ t.sup.etWindows = s.sup.etWindows + 1
    ∧ t.sup.etres.vmin.toNat = min s.sup.etres.vmin.toNat (satField 10 (vbkup.toNat / 10) : BitVec 10).toNat) ∧
  (∀ (s : State), s.sup.active ≠ .none → s.sup.vmaxFresh = false → s.sup.maxpdo.toNat < s.sup.vmaxCand.toNat → ∃ t,
    exec .vmaxRise s = .next t ∧ t.sup = { s.sup with maxpdo := s.sup.vmaxCand, vmaxCand := 0 }) ∧
  (∀ (s : State), s.sup.vmaxCand.toNat ≤ s.sup.maxpdo.toNat → exec .vmaxRise s = .next s) ∧
  (∀ (s : State), s.sup.emgUsed = true → s.sup.emg = false → s.sup.etst = false → ∃ t, exec .emgAssert s = .next t ∧
    t.sup = { s.sup with emg := true } ∧ t.eva.raised 198 = true) ∧
  (∀ (s : State), s.sup.emgUsed = true → s.sup.emg = false → s.sup.etst = true → s.sup.main.qual = true → s.sup.active
    = .backup → ∃ t, exec .emgAssert s = .next t ∧ t.sup.emg = true ∧ t.sup.etst = false ∧ t.sup.etres.state = 4 ∧
    t.sup.etres.cause = 5 ∧ t.sup.main.st = .connecting ∧ t.sup.hold = true ∧ t.eva.raised 198 = true ∧ t.eva.raised
    199 = true) ∧
  (∀ (s : State), s.sup.emgUsed = false ∨ s.sup.emg = true → exec .emgAssert s = .next s) ∧
  (∀ (s : State), s.sup.emg = true → ∃ t, exec .emgRelease s = .next t ∧ t.sup = { s.sup with emg := false }) ∧
  (∀ (s : State), s.sup.emg = false → exec .emgRelease s = .next s) ∧
  (∀ (kind : BitVec 2) (s : State), etestRefused kind s = false → ∃ t, exec (.etestStart kind) s = .next t ∧
    t.sup.etst = true ∧ t.sup.active = .backup ∧ t.sup.hold = true ∧ t.sup.main.st = .qualifying ∧ t.sup.main.gate =
    false ∧ t.sup.bkup.st = .connecting ∧ t.sup.etres.state = 1 ∧ t.sup.etest.kind = kind ∧ t.eva.raised 199 = true) ∧
  (∀ (kind : BitVec 2) (s : State), etestRefused kind s = true → ∃ t, exec (.etestStart kind) s = .next t ∧
    t.sup.etres = { s.sup.etres with state := 5, cause := 7 } ∧ t.sup.active = s.sup.active ∧ t.sup.main = s.sup.main
    ∧ t.sup.etst = s.sup.etst) ∧
  (∀ (s : State), s.sup.etst = true → s.sup.main.qual = true → s.sup.active = .backup → s.sup.hswMain.mode = false → ∃
    t, exec .etestAbort s = .next t ∧ t.sup.etst = false ∧ t.sup.etres.state = 4 ∧ t.sup.etres.cause = 6 ∧
    t.sup.main.st = .connecting ∧ t.sup.main.gate = true ∧ t.sup.hold = true ∧ t.eva.raised 199 = true) ∧
  (∀ (s : State), s.sup.etst = false → exec .etestAbort s = .next s) ∧
  (∀ (gaugeLow : Bool) (bkupMv : Nat) (s : State), s.sup.etst = true → s.sup.main.qual = true → s.sup.active = .backup
    → ∃ t, exec (.etestEnd gaugeLow bkupMv) s = .next t ∧ t.sup.etst = false ∧ (t.sup.etres.state = (if s.sup.etestDur
    = true ∧ bkupMv < 100 * s.sup.thrBkup.uv.toNat + 2000 ∨ gaugeLow = true then 3 else 2)) ∧ t.sup.etres.cause = (if
    s.sup.etestDur = true ∧ bkupMv < 100 * s.sup.thrBkup.uv.toNat + 2000 then 2 else if gaugeLow then 3 else 0) ∧
    t.sup.main.st = .staggerOrArmed ∧ t.sup.hold = s.sup.hold ∧ t.eva.raised 199 = true) ∧
  (∀ (gaugeLow : Bool) (bkupMv : Nat) (s : State), s.sup.etst = false → exec (.etestEnd gaugeLow bkupMv) s = .next s)

/-- POWER_ON_RESET and EXTERNAL_RESET put every register at its reset value and keep the flash, the OTP array, the
memory and the sources since the last release; a Warden reset request starts the pre-reset phase with every power
path open, PRE_RESET_COMPLETE ends it in reset; RESET_RELEASE loads DID_RSTC and enters boot; OTP_SENSING_DONE fills
the shadows at stage 1. -/
def Obligations.ResetAndBoot : Prop :=
  (∀ (s : State), exec .powerOnReset s = .next
    ({ State.reset with did := { srcs := { s.did.srcs with por := true }, thermal := s.did.thermal }, nand := s.nand, mem := s.mem, free := s.free, pending := s.pending, otp := { State.reset.otp with cells := s.otp.cells, spareTag := s.otp.spareTag, spareData := s.otp.spareData } })) ∧
  (∀ (s : State), exec .externalReset s = .next
    ({ State.reset with did := { srcs := { s.did.srcs with ext := true }, thermal := s.did.thermal }, nand := s.nand, mem := s.mem, free := s.free, pending := s.pending, otp := { State.reset.otp with cells := s.otp.cells, spareTag := s.otp.spareTag, spareData := s.otp.spareData } })) ∧
  (∀ (cause : BitVec 4) (s : State), wardenRuns s = true ∨ s.did.cond = .recovery → s.did.preReset = false →
    s.did.cond ≠ .reset → s.did.cond ≠ .unpowered → ∃ t, exec (.wardenResetRequest cause) s = .next t ∧ t.did =
    { s.did with preReset := true, released := false, srcs := { s.did.srcs with warden := true, wcause := cause } } ∧
    t.sup.psEn = false ∧ t.sup.main.gate = false ∧ t.sup.bkup.gate = false ∧ (∀ p, (t.slice p).pins.isog = false ∧
    (t.slice p).pins.snkg = false ∧ (t.slice p).pins.pwm = .highZ)) ∧
  (∀ (cause : BitVec 4) (s : State), wardenRuns s = false → s.did.cond ≠ .recovery → exec (.wardenResetRequest cause)
    s = .next s) ∧
  (∀ (n : Nat) (s : State), s.did.preReset = true → ∃ t, exec (.preResetComplete n) s = .next t ∧ t.slices =
    State.reset.slices ∧ t.sup = State.reset.sup ∧ t.did = { srcs := s.did.srcs, thermal := s.did.thermal } ∧ t.mem =
    s.mem ∧ t.eva = State.reset.eva ∧ t.otp.cells = s.otp.cells ∧ t.nand.settings = s.nand.settings) ∧
  (∀ (n : Nat) (s : State), s.did.preReset = false → exec (.preResetComplete n) s = .next s) ∧
  (∀ (s : State), s.did.cond = .reset → s.did.thermal = false → exec .resetRelease s = .next
    ({ s with did := { s.did with cond := .boot, rstc := s.did.srcs, srcs := {}, boot := { s.did.boot with stage := 1 } } })) ∧
  (∀ (s : State), s.did.cond ≠ .reset ∨ s.did.thermal = true → exec .resetRelease s = .next s) ∧
  (∀ (r : SensingRead) (s : State), s.did.cond = .boot → s.did.preReset = false → s.did.boot.stage = 1 → s.otp.sensed
    = false → ∃ t, exec (.otpSensingDone r) s = .next t ∧ t.otp = otpSense r s.otp ∧ t.did.part =
    { partId := (otpShadow (otpSense r s.otp) 0).setWidth 16, step := getField (otpShadow (otpSense r s.otp) 0) 16 4 }
    ∧ t.did.strap =
    { addr0Lvl := strapLevel r.addr0Mv, addr1Lvl := strapLevel r.addr1Mv, addrIdx := BitVec.ofNat 4 (4 * (strapLevel r.addr1Mv).toNat + (strapLevel r.addr0Mv).toNat), svcEnLow := r.svcEnLow }) ∧
  (∀ (r : SensingRead) (s : State), s.otp.sensed = true → exec (.otpSensingDone r) s = .next s)

/-- PLL_LOCK, WIPE_DONE, the two firmware checks, CONFIG_LOAD and SLICE_RELEASE each take the boot one stage on, or
into recovery with its cause; PLL_LOCK_TIMEOUT and REFERENCE_LOST set what they say. A clause about a signature or
an image speaks of the outcome of its check, whichever it is; a command at another stage changes nothing. -/
def Obligations.BootStages : Prop :=
  (∀ (s : State), s.did.cond = .boot → s.did.preReset = false → s.did.boot.stage = 1 → s.otp.sensed = true → exec
    .pllLock s = .next ({ s with did := { s.did with pllLocked := true, boot := { s.did.boot with stage := 2 } } })) ∧
  (∀ (s : State), s.did.boot.stage ≠ 1 → exec .pllLock s = .next s) ∧
  (∀ (s : State), s.did.cond = .boot → s.did.preReset = false → s.did.boot.stage = 1 → s.otp.sensed = true → ∃ t, exec
    .pllLockTimeout s = .next t ∧ t.did =
    { s.did with refLost := true, pllLocked := true, boot := { s.did.boot with stage := 2 } }) ∧
  (∀ (s : State), s.did.pllLocked = true → s.did.refLost = false → ∃ t, exec .referenceLost s = .next t ∧ t.did =
    { s.did with refLost := true } ∧ t.eva = s.eva) ∧
  (∀ (s : State), s.did.refLost = true → exec .referenceLost s = .next s) ∧
  (∀ (s : State), s.did.cond = .boot → s.did.preReset = false → s.did.boot.stage = 2 → s.did.strap.svcEnLow = false →
    ∃ t, exec .wipeDone s = .next t ∧ t.mem = [] ∧ t.did =
    { s.did with wiped := true, boot := { s.did.boot with stage := 3 } } ∧ t.evr.running = true ∧ t.evr.held = []) ∧
  (∀ (s : State), s.did.cond = .boot → s.did.preReset = false → s.did.boot.stage = 2 → s.did.strap.svcEnLow = true → ∃
    t, exec .wipeDone s = .next t ∧ t.mem = [] ∧ t.did.cond = .recovery ∧ t.did.boot =
    { s.did.boot with stage := 8, recCause := 1 } ∧ t.evr.running = false) ∧
  (∀ (s : State), s.did.boot.stage ≠ 2 → exec .wipeDone s = .next s) ∧
  (∀ (f : FlashInfo) (readOk : Bool) (s : State), s.did.cond = .boot → s.did.preReset = false → s.did.boot.stage = 3 →
    f.size = 0 → ∃ t, exec (.wardenFirmwareVerified f readOk) s = .next t ∧ t.did.cond = .recovery ∧ t.did.boot =
    { s.did.boot with stage := 8, recCause := 2 } ∧ t.did.warden.started = false ∧ t.did.policy.started = false) ∧
  (∀ (f : FlashInfo) (readOk : Bool) (s : State), s.did.cond = .boot → s.did.preReset = false → s.did.boot.stage = 3 →
    f.size ≠ 0 → f.ptBad = false → s.did.secondBank = false → ∃ t, exec (.wardenFirmwareVerified f readOk) s = .next t
    ∧ t.did.boot.stage = (if readOk = true ∧ bankVerifies [1] (romBank s) (flashFound f s) = true then 4 else 3) ∧
    t.did.secondBank = !(readOk && bankVerifies [1] (romBank s) (flashFound f s)) ∧ t.did.warden.started = (readOk &&
    bankVerifies [1] (romBank s) (flashFound f s)) ∧ t.did.cond = .boot ∧ t.nvc.stat.ready = true ∧ t.nvc.stat.size =
    f.size) ∧
  (∀ (f : FlashInfo) (s : State), s.did.cond = .boot → s.did.preReset = false → s.did.boot.stage = 3 → f.size ≠ 0 →
    s.did.secondBank = true → ∃ t, exec (.wardenFirmwareVerified f false) s = .next t ∧ t.did.cond = .recovery ∧
    t.did.boot.stage = 8 ∧ t.did.boot.recCause = 3) ∧
  (∀ (readOk : Bool) (s : State), s.did.cond = .boot → s.did.preReset = false → s.did.boot.stage = 4 →
    s.did.secondBank = false → ∃ t, exec (.policyFirmwareVerified readOk) s = .next t ∧ t.did.boot.stage = (if readOk
    = true ∧ bankVerifies [2, 3, 4, 5, 6] s.did.boot.bank s = true then 5 else 3) ∧ t.did.policy.started =
    (s.did.policy.started || readOk && bankVerifies [2, 3, 4, 5, 6] s.did.boot.bank s) ∧ t.did.secondBank = !(readOk
    && bankVerifies [2, 3, 4, 5, 6] s.did.boot.bank s) ∧ t.did.cond = .boot) ∧
  (∀ (s : State), s.did.cond = .boot → s.did.preReset = false → s.did.boot.stage = 4 → s.did.secondBank = true → ∃ t,
    exec (.policyFirmwareVerified false) s = .next t ∧ t.did.cond = .recovery ∧ t.did.boot.stage = 8 ∧
    t.did.boot.recCause = 3) ∧
  (∀ (s : State), s.did.cond = .boot → s.did.boot.stage = 5 → s.cyc.running = false → ∃ t, exec .configLoad s = .next
    t ∧ t.did.cond = (if imageOk s.otp (if s.lcu.cfgSlot then s.nand.slot1 else s.nand.slot0) then .boot else
    .recovery) ∧ t.did.boot.stage = (if imageOk s.otp (if s.lcu.cfgSlot then s.nand.slot1 else s.nand.slot0) then 5
    else 8) ∧ t.did.boot.recCause = (if imageOk s.otp (if s.lcu.cfgSlot then s.nand.slot1 else s.nand.slot0) then
    s.did.boot.recCause else 4) ∧ t.cyc.running = imageOk s.otp (if s.lcu.cfgSlot then s.nand.slot1 else s.nand.slot0)
    ∧ t.sup.lock.cfgLk = (imageOk s.otp (if s.lcu.cfgSlot then s.nand.slot1 else s.nand.slot0) || s.sup.lock.cfgLk)) ∧
  (∀ (s : State), s.did.boot.stage ≠ 5 ∨ s.cyc.running = true → exec .configLoad s = .next s) ∧
  (∀ (relMs : Nat) (bad : List (Port × BitVec 4)) (h0 h1 : HandoverSample) (s : State), s.did.cond = .boot →
    s.did.preReset = false → s.did.boot.stage = 6 → ∃ t, exec (.sliceRelease relMs bad h0 h1) s = .next t ∧ t.did.cond
    = .operation ∧ t.did.released = true ∧ t.did.boot = { s.did.boot with stage := 7, relMs := satField 8 relMs } ∧
    t.sup.psEn = (s.sup.active != .none) ∧ (∀ q : Port, 2 ≤ q.val → (t.slice q).pr.prstat.scfail = badFor q bad)) ∧
  (∀ (relMs : Nat) (bad : List (Port × BitVec 4)) (h0 h1 : HandoverSample) (s : State), s.did.boot.stage ≠ 6 → exec
    (.sliceRelease relMs bad h0 h1) s = .next s)

/-- WATCHDOG_EXPIRY counts, stops the core for its restart with event 229, holds it at the eighth expiry within 60 s,
and rolls unconfirmed firmware back; CORE_RESTART_DONE resumes the core or resets the device with cause 2 or 3; the
die temperature readings set and clear the warning with event 226, and start and end the thermal shutdown with event
227; VIN_HK_LOW raises event 228 once, and VIN_HK_RESTORED ends the condition. -/
def Obligations.CoresAndTemperature : Prop :=
  (∀ (recent : Nat) (s : State), policyRuns s = true → s.lcu.state ≠ 6 → ∃ t, exec (.watchdogExpiry .policy recent) s
    = .next t ∧ t.did.policy =
    { s.did.policy with wdc := satInc s.did.policy.wdc, recent := recent + 1, held := decide (7 ≤ recent), restarting := decide (recent < 7) }
    ∧ t.did.warden = s.did.warden ∧ t.eva.raised 229 = true) ∧
  (∀ (recent : Nat) (s : State), wardenRuns s = true → s.lcu.state ≠ 6 → ∃ t, exec (.watchdogExpiry .warden recent) s
    = .next t ∧ t.did.warden =
    { s.did.warden with wdc := satInc s.did.warden.wdc, recent := recent + 1, held := decide (7 ≤ recent), restarting := decide (recent < 7) }
    ∧ t.did.policy = s.did.policy ∧ t.eva.raised 229 = true) ∧
  (∀ (recent : Nat) (s : State), wardenRuns s = true → s.lcu.state = 6 → ∃ t, exec (.watchdogExpiry .warden recent) s
    = .next t ∧ t.lcu.state = 7 ∧ t.lcu.rolling = true ∧ t.lcu.paused = true ∧ t.lcu.active = prevBank s ∧
    t.did.warden.wdc = satInc s.did.warden.wdc ∧ t.did.policy.restarting = s.did.policy.started ∧ t.eva.raised 229 =
    true ∧ t.eva.raised 222 = true) ∧
  (∀ (recent : Nat) (s : State), policyRuns s = false → exec (.watchdogExpiry .policy recent) s = .next s) ∧
  (∀ (s : State), s.did.policy.restarting = true → s.did.policy.held = false → s.lcu.paused = false → ∃ t, exec
    (.coreRestartDone .policy .good) s = .next t ∧ t.did =
    { s.did with policy := { s.did.policy with restarting := false } } ∧ t.bud.rnd = 0 ∧ t.kln.first = true) ∧
  (∀ (s : State), s.did.warden.restarting = true → s.did.warden.held = false → s.lcu.paused = false → exec
    (.coreRestartDone .warden .good) s = .next
    ({ s with did := { s.did with warden := { s.did.warden with restarting := false } } })) ∧
  (∀ (s : State), s.did.policy.restarting = true → s.did.policy.held = false → s.lcu.paused = false → s.did.preReset =
    false → s.did.cond = .operation → ∃ t, exec (.coreRestartDone .policy .badFirmware) s = .next t ∧ t.did.preReset =
    true ∧ t.did.released = false ∧ t.did.srcs = { s.did.srcs with warden := true, wcause := 3 }) ∧
  (∀ (s : State), s.did.warden.restarting = true → s.did.warden.held = false → s.lcu.paused = false → s.did.preReset =
    false → s.did.cond = .operation → ∃ t, exec (.coreRestartDone .warden .badConfig) s = .next t ∧ t.did.preReset =
    true ∧ t.did.released = false ∧ t.did.srcs = { s.did.srcs with warden := true, wcause := 2 }) ∧
  (∀ (c : CoreId) (r : RestartCheck) (s : State), (coreOf c s).restarting = false ∨ (coreOf c s).held = true ∨
    s.lcu.paused = true → exec (.coreRestartDone c r) s = .next s) ∧
  (∀ (v : BitVec 16) (s : State), s.did.cond = .operation → s.did.twarn = false → 2000 ≤ v.toInt → ∃ t, exec
    (.dieTempWarning v) s = .next t ∧ t.did = { s.did with temp := v, twarn := true } ∧ t.eva.raised 226 = true) ∧
  (∀ (v : BitVec 16) (s : State), s.did.cond = .operation → s.did.twarn = true ∨ v.toInt < 2000 → exec
    (.dieTempWarning v) s = .next ({ s with did := { s.did with temp := v } })) ∧
  (∀ (v : BitVec 16) (s : State), s.did.cond = .operation → v.toInt ≤ 1840 → exec (.dieTempWarningClear v) s = .next
    ({ s with did := { s.did with temp := v, twarn := false } })) ∧
  (∀ (v : BitVec 16) (s : State), s.did.cond = .operation → 1840 < v.toInt → exec (.dieTempWarningClear v) s = .next
    ({ s with did := { s.did with temp := v } })) ∧
  (∀ (v : BitVec 16) (s : State), s.did.cond = .operation → s.did.thermal = false → s.did.preReset = false → 2320 ≤
    v.toInt → ∃ t, exec (.thermalShutdown v) s = .next t ∧ t.did =
    { s.did with temp := v, thermal := true, preReset := true, released := false, srcs := { s.did.srcs with thermal := true } }
    ∧ (∀ p, (t.slice p).pins.isog = false ∧ (t.slice p).pins.pwm = .highZ) ∧ t.eva.raised 227 = true) ∧
  (∀ (v : BitVec 16) (s : State), s.did.cond = .operation → v.toInt < 2320 → exec (.thermalShutdown v) s = .next
    ({ s with did := { s.did with temp := v } })) ∧
  (∀ (v : BitVec 16) (s : State), s.did.cond = .reset → v.toInt < 1760 → exec (.thermalRestart v) s = .next
    ({ s with did := { s.did with thermal := false } })) ∧
  (∀ (v : BitVec 16) (s : State), s.did.cond = .reset → 1760 ≤ v.toInt → exec (.thermalRestart v) s = .next s) ∧
  (∀ (s : State), s.did.hkLow = false → s.did.cond ≠ .reset → s.did.cond ≠ .unpowered → ∃ t, exec .vinHkLow s = .next
    t ∧ t.did = { s.did with hkLow := true } ∧ t.eva.raised 228 = true ∧ t.sup = s.sup) ∧
  (∀ (s : State), s.did.hkLow = true → exec .vinHkLow s = .next s) ∧
  (∀ (s : State), exec .vinHkRestored s = .next ({ s with did := { s.did with hkLow := false } }))

/-- CC_SAMPLE, CC_DEBOUNCE_EXPIRY, VBUS_SAFE0_DEBOUNCE and FOREIGN_VBUS on the Source side: a sample is kept in
SLC_CCMEAS in 2 mV units and classified by Table 5.2, with the VCONN current and voltage in SLC_VCONN, Rd moves
Unattached.SRC to AttachWait.SRC, no Rd moves it back, an invalid sample keeps the classification, and Rp on both
balls while attached is ErrorRecovery; a debounce that ends with VBUS above vSafe0V waits for it, with VBUS at
vSafe0V it attaches, with the orientation, the partner, the roles and event 8n of Table 5.7. -/
def Obligations.SourceAttach : Prop :=
  (∀ (p : Port) (m1 m2 iv vv : Nat) (both : Bool) (s : State), s.did.released = true → (s.slice p).att.attstat.state =
    1 → (s.slice p).att.attstat.vconnOn = false → ∃ t, exec (.ccSample p (some m1) (some m2) both iv vv) s = .next t ∧
    (t.slice p).att.c1 = ccClass (s.slice p).att.attstat.rpNow m1 ∧ (t.slice p).att.c2 = ccClass (s.slice
    p).att.attstat.rpNow m2 ∧ (t.slice p).att.ccmeas = { cc1 := satField 12 (m1 / 2), cc2 := satField 12 (m2 / 2) } ∧
    (t.slice p).att.vconn = { ivc := satField 10 iv, vvcIn := satField 8 (vv / 25) } ∧ (t.slice p).att.attstat.state =
    (if ccClass (s.slice p).att.attstat.rpNow m1 = .rd ∨ ccClass (s.slice p).att.attstat.rpNow m2 = .rd then 2 else
    1)) ∧
  (∀ (p : Port) (both : Bool) (iv vv : Nat) (s : State), s.did.released = true → (s.slice p).att.attstat.state = 2 →
    (s.slice p).att.c1 ≠ .rd → (s.slice p).att.c2 ≠ .rd → ∃ t, exec (.ccSample p none none both iv vv) s = .next t ∧
    (t.slice p).att.c1 = (s.slice p).att.c1 ∧ (t.slice p).att.c2 = (s.slice p).att.c2 ∧ (t.slice p).att.ccmeas =
    (s.slice p).att.ccmeas ∧ (t.slice p).att.attstat.state = (if (s.slice p).att.attcfg.role = 2 then 4 else 1)) ∧
  (∀ (p : Port) (cc1 cc2 : Option Nat) (iv vv : Nat) (s : State), s.did.released = true → (s.slice
    p).att.attstat.state = 3 ∨ (s.slice p).att.attstat.state = 12 → ∃ t, exec (.ccSample p cc1 cc2 true iv vv) s =
    .next t ∧ (t.slice p).att.attstat.state = 14 ∧ (t.slice p).pins.isog = false ∧ (t.slice p).pins.pwm = .highZ ∧
    (t.slice p).pins.term = .openCc ∧ t.eva.raised (8 * p.val + 7) = true) ∧
  (∀ (p : Port) (s : State), s.did.released = true → (s.slice p).att.attstat.state = 2 → (s.slice p).att.c1 = .rd →
    (s.slice p).att.c2 = .openBall → (s.slice p).att.attcfg.role = 1 → (s.slice p).att.attstat.vbusSafe0 = false → ∃
    t, exec (.ccDebounceExpiry p) s = .next t ∧ (t.slice p).att = { (s.slice p).att with rpHeld := true }) ∧
  (∀ (p : Port) (s : State), s.did.released = true → (s.slice p).att.attstat.state = 2 → (s.slice p).att.c1 = .rd →
    (s.slice p).att.c2 = .openBall → (s.slice p).att.attcfg.role = 1 → (s.slice p).att.attstat.vbusSafe0 = true → ∃ t,
    exec (.ccDebounceExpiry p) s = .next t ∧ (t.slice p).att.attstat.state = 3 ∧ (t.slice p).att.attstat.orient =
    false ∧ (t.slice p).att.attstat.partner = 1 ∧ (t.slice p).sw.swstat.prole = false ∧ (t.slice p).sw.swstat.drole =
    false ∧ t.eva.raised (8 * p.val) = true) ∧
  (∀ (p : Port) (s : State), s.did.released = true → (s.slice p).att.attstat.state = 1 → (s.slice p).att.c1 = .ra →
    (s.slice p).att.c2 = .ra → ∃ t, exec (.ccDebounceExpiry p) s = .next t ∧ (t.slice p).att.attstat.state = 11 ∧
    (t.slice p).att.attstat.partner = 4) ∧
  (∀ (p : Port) (s : State), s.did.released = true → (s.slice p).att.attstat.state = 2 → (s.slice p).att.c1 =
    .openBall → (s.slice p).att.c2 = .rd → (s.slice p).att.attcfg.role = 1 → (s.slice p).att.rpHeld = true → (s.slice
    p).att.attstat.vbusSafe0 = true → ∃ t, exec (.vbusSafe0Debounce p) s = .next t ∧ (t.slice p).att.attstat.state = 3
    ∧ (t.slice p).att.attstat.orient = true ∧ (t.slice p).att.attstat.foreign = false ∧ t.eva.raised (8 * p.val) =
    true) ∧
  (∀ (p : Port) (s : State), s.did.released = true → (s.slice p).att.attstat.state = 2 → (s.slice
    p).att.attstat.vbusSafe0 = false → ∃ t, exec (.foreignVbus p) s = .next t ∧ (t.slice p).att =
    { (s.slice p).att with attstat := { (s.slice p).att.attstat with foreign := true } } ∧ t.eva.raised (8 * p.val +
    7) = true)

/-- CC_DEBOUNCE_EXPIRY on the Sink side, DRP_TOGGLE, DRP_TRY_EXPIRY, TRY_TIMEOUT, SINK_VBUS_LOST and
VBUS_CLASSIFICATION_CHANGE: the states of Table 5.4 that a dual-role port moves through, the roles a Sink takes at
attach, its unattached state after VBUS is lost unless a Hard Reset or a swap that moves VBUS is under way, and the
levels VBUS is classified by. -/
def Obligations.SinkAttach : Prop :=
  (∀ (p : Port) (s : State), s.did.released = true → (s.slice p).att.attcfg.role = 2 → (s.slice p).att.attstat.state =
    1 → ∃ t, exec (.drpToggle p) s = .next t ∧ (t.slice p).att.attstat.state = 4 ∧ (t.slice p).pins.term = .rd) ∧
  (∀ (p : Port) (s : State), s.did.released = true → (s.slice p).att.attcfg.role = 2 → (s.slice p).att.attstat.state =
    4 → s.sup.active ≠ .none → ∃ t, exec (.drpToggle p) s = .next t ∧ (t.slice p).att.attstat.state = 1 ∧ (t.slice
    p).pins.term = .rp ∧ (t.slice p).att.c1 = .openBall ∧ (t.slice p).att.c2 = .openBall) ∧
  (∀ (p : Port) (s : State), (s.slice p).att.attcfg.role = 2 → (s.slice p).att.attstat.state = 4 → s.sup.active =
    .none → exec (.drpToggle p) s = .next s) ∧
  (∀ (p : Port) (s : State), (s.slice p).att.attcfg.role ≠ 2 → exec (.drpToggle p) s = .next s) ∧
  (∀ (p : Port) (s : State), s.did.released = true → (s.slice p).att.attstat.state = 7 → ∃ t, exec (.drpTryExpiry p) s
    = .next t ∧ (t.slice p).att.attstat.state = 8 ∧ (t.slice p).pins.term = .rd) ∧
  (∀ (p : Port) (s : State), s.did.released = true → (s.slice p).att.attstat.state = 9 → (s.slice p).att.rpHeld =
    false → ∃ t, exec (.drpTryExpiry p) s = .next t ∧ (t.slice p).att = { (s.slice p).att with tryDone := true }) ∧
  (∀ (p : Port) (s : State), s.did.released = true → (s.slice p).att.attstat.state = 9 → ∃ t, exec (.tryTimeout p) s =
    .next t ∧ (t.slice p).att.attstat.state = 10 ∧ (t.slice p).pins.term = .rp) ∧
  (∀ (p : Port) (s : State), (s.slice p).att.attstat.state ≠ 9 → exec (.tryTimeout p) s = .next s) ∧
  (∀ (p : Port) (s : State), s.did.released = true → (s.slice p).att.attstat.state = 5 → (s.slice p).att.rp1 ≠ 0 →
    (s.slice p).att.rp2 = 0 → (s.slice p).att.attcfg.trySel ≠ 1 → (s.slice p).att.attstat.vbusPres = true → ∃ t, exec
    (.ccDebounceExpiry p) s = .next t ∧ (t.slice p).att.attstat.state = 6 ∧ (t.slice p).att.attstat.partner = 6 ∧
    (t.slice p).att.attstat.orient = false ∧ (t.slice p).att.attstat.rpSeen = (s.slice p).att.rp1 ∧ (t.slice
    p).sw.swstat.prole = true ∧ (t.slice p).sw.swstat.drole = true) ∧
  (∀ (p : Port) (s : State), s.did.released = true → (s.slice p).att.attstat.state = 6 → (s.slice p).pd.hrPhase =
    .idle → (s.slice p).sw.swstat.swap = 0 → ∃ t, exec (.sinkVbusLost p) s = .next t ∧ (t.slice p).att.attstat.state =
    (if (s.slice p).att.attcfg.role = 2 then 4 else 1) ∧ (t.slice p).sw.swstat.prole = false ∧ (t.slice
    p).off.contract = {} ∧ (t.slice p).pins.snkg = false ∧ t.eva.raised (8 * p.val) = true) ∧
  (∀ (p : Port) (s : State), (s.slice p).att.attstat.state = 6 → (s.slice p).sw.swstat.swap = 1 → exec (.sinkVbusLost
    p) s = .next s) ∧
  (∀ (p : Port) (mv : Nat) (s : State), s.did.released = true → (s.slice p).att.rpHeld = false → (s.slice p).sw.step =
    .idle → (s.slice p).pd.hrPhase = .idle → mv < 4750 ∨ 5500 < mv → ∃ t, exec (.vbusClassificationChange p mv) s =
    .next t ∧ (t.slice p).att =
    { (s.slice p).att with vbusMv := mv, attstat := { (s.slice p).att.attstat with vbusPres := 4000 ≤ mv, vbusSafe0 := mv ≤ 800 } })

/-- SOURCE_DETACH, DISCHARGE_DONE, DETACH_RAMP_TIMEOUT, VCONN_DISCHARGE_END, VCONN_OVERCURRENT, ERRREC_WRITE,
ERROR_RECOVERY_END, VCONN_IN_LOW and VCONN_IN_RESTORED: the port gives up its contract and its roles at detach and
in ErrorRecovery, VBUS is ramped or discharged, ISOGn opens, and VCONN goes off with its ball pulled to GND until
the discharge ends. -/
def Obligations.DetachAndVconn : Prop :=
  (∀ (p : Port) (s : State), s.did.released = true → (s.slice p).att.attstat.state = 3 → (s.slice p).att.detaching =
    false → (s.slice p).pins.term = .rp → ∃ t, exec (.sourceDetach p) s = .next t ∧ (t.slice p).att.detaching = true ∧
    (t.slice p).off.contract = {} ∧ (t.slice p).att.attstat.partner = 0 ∧ (t.slice p).pd.pdstat.pdConn = false ∧
    (t.slice p).att.attstat.vconnOn = false ∧ t.eva.raised (8 * p.val) = true) ∧
  (∀ (p : Port) (s : State), s.did.released = true → (s.slice p).att.detaching = true → (s.slice p).sw.step ≠ .srcRamp
    → ∃ t, exec (.dischargeDone p) s = .next t ∧ (t.slice p).pins.isog = false ∧ (t.slice p).pins.pwm = .highZ ∧
    (t.slice p).att.attstat.vbusSafe0 = true ∧ (t.slice p).att.attstat.vbusPres = false) ∧
  (∀ (p : Port) (s : State), s.did.released = true → (s.slice p).att.detaching = true → (s.slice p).ps.psstat.cstate =
    6 → (s.slice p).pins.isog = true → (s.slice p).att.attstat.vbusSafe0 = false → ∃ t, exec (.detachRampTimeout p) s
    = .next t ∧ (t.slice p).pins.isog = false ∧ (t.slice p).pins.pwm = .highZ ∧ (t.slice p).pins.disch = true ∧
    (t.slice p).ps.psstat.cstate = 0) ∧
  (∀ (p : Port) (s : State), s.did.released = true → (s.slice p).att.detaching = true → (s.slice
    p).att.attstat.vbusSafe0 = true → (s.slice p).pins.isog = false → (s.slice p).ps.psstat.cstate = 0 → ∃ t, exec
    (.vconnDischargeEnd p) s = .next t ∧ (t.slice p).pins.vconnPull = false ∧ (t.slice p).att.detaching = false ∧
    (t.slice p).att.attstat.state = (if (s.slice p).att.attcfg.role = 2 then 4 else 1)) ∧
  (∀ (p : Port) (s : State), s.did.released = true → (s.slice p).att.detaching = false → ∃ t, exec (.vconnDischargeEnd
    p) s = .next t ∧ (t.slice p).pins = { (s.slice p).pins with vconnPull := false } ∧ (t.slice p).att = (s.slice
    p).att) ∧
  (∀ (p : Port) (s : State), s.did.released = true → (s.slice p).att.attstat.vconnOn = true → (s.slice p).pd.capsSent
    = false → ∃ t, exec (.vconnOvercurrent p) s = .next t ∧ (t.slice p).att.attstat.vconnOn = false ∧ (t.slice
    p).att.attstat.vconnFlt = true ∧ (t.slice p).pins.vconnPull = true ∧ (t.slice p).pd.discovering = false ∧
    t.eva.raised (8 * p.val + 3) = true) ∧
  (∀ (p : Port) (s : State), s.did.released = true → (s.slice p).att.attstat.state ≠ 0 → (s.slice p).att.attstat.state
    ≠ 15 → ∃ t, exec (.errrecWrite p) s = .next t ∧ (t.slice p).att.attstat.state = 14 ∧ (t.slice p).off.contract = {}
    ∧ (t.slice p).pins.isog = false ∧ (t.slice p).pins.term = .openCc ∧ t.eva.raised (8 * p.val + 7) = true) ∧
  (∀ (p : Port) (s : State), s.did.released = true → (s.slice p).att.attstat.state = 14 → ∃ t, exec (.errorRecoveryEnd
    p) s = .next t ∧ (t.slice p).att.attstat.state = (if (s.slice p).att.attcfg.role = 2 then 4 else 1) ∧ (t.slice
    p).pins.term = (if (s.slice p).att.attcfg.role = 2 then .rd else .rp)) ∧
  (∀ (p : Port) (s : State), (∀ q, (s.slice q).pd.capsSent = false) → (s.slice p).att.attstat.vconnOn = true → ∃ t,
    exec .vconnInLow s = .next t ∧ t.sup.vconnOk = false ∧ (t.slice p).att.attstat.vconnOn = false ∧ (t.slice
    p).att.vconnLow = true ∧ (t.slice p).pins.vconnPull = true) ∧
  (∀ (p : Port) (s : State), (∀ q, (s.slice q).pd.capsSent = false) → (s.slice p).att.vconnLow = true → (s.slice
    p).att.attcfg.vcls = 1 → (s.slice p).att.attstat.vconnFlt = false → ∃ t, exec .vconnInRestored s = .next t ∧
    t.sup.vconnOk = true ∧ (t.slice p).att.attstat.vconnOn = true ∧ (t.slice p).att.vconnLow = false)

/-- PD_MESSAGE_RECEIVED counts a frame whose CRC fails, takes no notice of one on a context that is not active,
acknowledges a duplicate and takes it no further, and takes a new message into its context's buffer with its
MessageID, which clears the count of Hard Resets; GOODCRC_RECEIVED advances the context's MessageID and frees the
line, with further chunks to follow where more is set. -/
def Obligations.Reception : Prop :=
  (∀ (p : Port) (f : Frame) (phase : BitVec 16) (s : State), s.did.released = true → f.crcOk = false → ∃ t, exec
    (.pdMessageReceived p f phase) s = .next t ∧ (t.slice p).pd =
    { (s.slice p).pd with pdcnt := { (s.slice p).pd.pdcnt with crcerr := satInc (s.slice p).pd.pdcnt.crcerr } }) ∧
  (∀ (p : Port) (f : Frame) (phase : BitVec 16) (s : State), f.crcOk = true → ctxActive (s.slice p) f.ctx = false →
    exec (.pdMessageReceived p f phase) s = .next s) ∧
  (∀ (p : Port) (f : Frame) (phase : BitVec 16) (s : State), s.did.released = true → f.crcOk = true → ctxActive
    (s.slice p) f.ctx = true → (s.slice p).pd.rxId.get f.ctx = some f.msgId → f.kind ≠ .softReset → ∃ t, exec
    (.pdMessageReceived p f phase) s = .next t ∧ (t.slice p).pd =
    { (s.slice p).pd with goodCrc := some (f.ctx, f.msgId) }) ∧
  (∀ (p : Port) (f : Frame) (phase : BitVec 16) (s : State), s.did.released = true → 2 ≤ p.val → f.crcOk = true →
    f.ctx = .sop → f.kind = .getStatus → f.rolesOk = true → f.extended = false → f.rev2 = false → sopActive (s.slice
    p) = true → rev2 (s.slice p) .sop = false → (s.slice p).pd.rxId.sop ≠ some f.msgId → (s.slice p).pd.waitReply =
    none → (s.slice p).mb.hostAms = none → (s.slice p).mb.copyOn = false → ∃ t, exec (.pdMessageReceived p f phase) s
    = .next t ∧ (t.slice p).pd.goodCrc = some (f.ctx, f.msgId) ∧ (t.slice p).pd.rxId.sop = some f.msgId ∧ (t.slice
    p).pd.rxBuf.sop = some f ∧ (t.slice p).pd.hrSent = 0 ∧ (t.slice p).pd.partnerAms = true) ∧
  (∀ (p : Port) (more : Bool) (s : State), (s.slice p).pd.inflight = none → exec (.goodcrcReceived p more) s = .next
    s) ∧
  (∀ (p : Port) (m : TxMsg) (s : State), s.did.released = true → (s.slice p).pd.inflight = some m → ∃ t, exec
    (.goodcrcReceived p true) s = .next t ∧ (t.slice p).pd =
    { (s.slice p).pd with txId := (s.slice p).pd.txId.upd m.ctx (· + 1), inflight := none, retries := 0, chunkTx := some m }) ∧
  (∀ (p : Port) (m : TxMsg) (s : State), s.did.released = true → 2 ≤ p.val → (s.slice p).pd.inflight = some m → m.prio
    = .reply → m.why = .plain → expectsReply m.kind = false → (s.slice p).pd.ready = [] → (s.slice p).pd.restart = []
    → ∃ t, exec (.goodcrcReceived p false) s = .next t ∧ (t.slice p).pd.txId = (s.slice p).pd.txId.upd m.ctx (· + 1) ∧
    (t.slice p).pd.inflight = none ∧ (t.slice p).pd.partnerAms = false)

/-- CRC_RECEIVE_TIMEOUT retries a frame up to nRetryCount and then counts the failure, which ends a mailbox message in
state 4 and resets the SOP context by Soft_Reset otherwise; SENDER_RESPONSE_TIMEOUT and NO_RESPONSE_TIMEOUT lead to
Soft_Reset, Hard Reset, ErrorRecovery or PD silence; CHUNK_TIMEOUT gives a chunked message up; SINKTX_EXPIRY lets
the slice start its AMS; SOURCE_CAP_TIMER advertises again before the first contract. -/
def Obligations.FailuresAndTimers : Prop :=
  (∀ (p : Port) (m : TxMsg) (s : State), s.did.released = true → (s.slice p).pd.inflight = some m → (s.slice
    p).pd.retries < nRetryCount (s.slice p) m.ctx → ∃ t, exec (.crcReceiveTimeout p) s = .next t ∧ (t.slice p).pd =
    { (s.slice p).pd with retries := (s.slice p).pd.retries + 1 }) ∧
  (∀ (p : Port) (m : TxMsg) (s : State), s.did.released = true → (s.slice p).pd.inflight = some m → nRetryCount
    (s.slice p) m.ctx ≤ (s.slice p).pd.retries → m.prio = .mailbox → (s.slice p).pd.ready = [] → ∃ t, exec
    (.crcReceiveTimeout p) s = .next t ∧ (t.slice p).pd.pdcnt.txfail = satInc (s.slice p).pd.pdcnt.txfail ∧ (t.slice
    p).mb.mbtxStat.state = 4) ∧
  (∀ (p : Port) (m : TxMsg) (s : State), s.did.released = true → (s.slice p).pd.inflight = some m → nRetryCount
    (s.slice p) m.ctx ≤ (s.slice p).pd.retries → m.prio = .reply → m.why = .plain → m.ctx = .sop → m.kind ≠ .softReset
    → powerTransition (s.slice p) = false → ∃ t, exec (.crcReceiveTimeout p) s = .next t ∧ (t.slice p).pd.pdcnt.txfail
    = satInc (s.slice p).pd.pdcnt.txfail ∧ (t.slice p).pd.txId.sop = 0 ∧ (t.slice p).pd.rxId.sop = none) ∧
  (∀ (p : Port) (m : TxMsg) (s : State), s.did.released = true → (s.slice p).pd.waitReply = some m → m.kind =
    .getStatus → m.ctx = .sop → powerTransition (s.slice p) = false → (s.slice p).off.eprLeaving = false → ∃ t, exec
    (.senderResponseTimeout p) s = .next t ∧ (t.slice p).pd.txId.sop = 0 ∧ (t.slice p).pd.rxId.sop = none ∧ (t.slice
    p).pd.waitReply = none) ∧
  (∀ (p : Port) (m : TxMsg) (s : State), s.did.released = true → (s.slice p).pd.waitReply = some m → m.kind =
    .softReset → m.ctx = .sop → s.sup.hold = false → (s.slice p).pd.hrSent < nHardResetCount → (s.slice
    p).sw.swstat.swap = 0 → ∃ t, exec (.senderResponseTimeout p) s = .next t ∧ (t.slice p).pd.pdcnt.hrTx = satInc
    (s.slice p).pd.pdcnt.hrTx ∧ (t.slice p).pd.hrSent = (s.slice p).pd.hrSent + 1 ∧ (t.slice p).off.contract = {}) ∧
  (∀ (p : Port) (s : State), (s.slice p).pd.hrSent = 0 → exec (.noResponseTimeout p) s = .next s) ∧
  (∀ (p : Port) (s : State), s.did.released = true → nHardResetCount ≤ (s.slice p).pd.hrSent → (s.slice
    p).pd.hadContract = true → ∃ t, exec (.noResponseTimeout p) s = .next t ∧ (t.slice p).att.attstat.state = 14 ∧
    (t.slice p).off.contract = {} ∧ t.eva.raised (8 * p.val + 7) = true) ∧
  (∀ (p : Port) (s : State), s.did.released = true → nHardResetCount ≤ (s.slice p).pd.hrSent → (s.slice
    p).pd.hadContract = false → ∃ t, exec (.noResponseTimeout p) s = .next t ∧ (t.slice p).pd.pdstat.pdSilent = true ∧
    (t.slice p).pd.ready = [] ∧ (t.slice p).pd.inflight = none ∧ t.eva.raised (8 * p.val + 7) = true) ∧
  (∀ (p : Port) (s : State), s.did.released = true → 0 < (s.slice p).pd.hrSent → (s.slice p).pd.hrSent <
    nHardResetCount → s.sup.hold = true → ∃ t, exec (.noResponseTimeout p) s = .next t ∧ (t.slice p).pd.pdstat.hrPend
    = true) ∧
  (∀ (p : Port) (t0 : ChunkTimer) (s : State), s.did.released = true → t0 = .senderResponse ∨ t0 = .receiverResponse →
    (s.slice p).pd.chunkRx = true → ∃ t, exec (.chunkTimeout p t0) s = .next t ∧ (t.slice p).pd =
    { (s.slice p).pd with chunkRx := false, rxBuf := { (s.slice p).pd.rxBuf with sop := none } }) ∧
  (∀ (p : Port) (t0 : ChunkTimer) (m : TxMsg) (s : State), s.did.released = true → t0 = .senderRequest ∨ t0 =
    .receiverRequest → (s.slice p).pd.chunkTx = some m → m.prio = .mailbox → (s.slice p).pd.ready = [] → ∃ t, exec
    (.chunkTimeout p t0) s = .next t ∧ (t.slice p).pd.pdcnt.txfail = satInc (s.slice p).pd.pdcnt.txfail ∧ (t.slice
    p).mb.mbtxStat.state = 4 ∧ (t.slice p).pd.chunkTx = none) ∧
  (∀ (p : Port) (s : State), s.did.released = true → 2 ≤ p.val → (s.slice p).pd.pdstat.rpCa = 2 → caInUse (s.slice p)
    = true → (s.slice p).sw.swstat.prole = false → (s.slice p).pd.ownOpen = true → ∃ t, exec (.sinktxExpiry p) s =
    .next t ∧ (t.slice p).pd.ngHeld = true ∧ (t.slice p).att.attstat.rpNow = (if (s.slice p).pins.term = .rp then 2
    else 0)) ∧
  (∀ (p : Port) (s : State), (s.slice p).pd.pdstat.rpCa ≠ 2 → exec (.sinktxExpiry p) s = .next s) ∧
  (∀ (p : Port) (s : State), s.did.released = true → (s.slice p).pd.capsSent = true → (s.slice p).pd.conSince = false
    → (s.slice p).pd.waitReply = none → (s.slice p).pd.inflight = none → (s.slice p).pd.ready = [] → (s.slice
    p).pd.restart = [] → (s.slice p).off.xstep = .idle → s.sup.hold = false → (s.slice p).sw.swstat.prole = false →
    (s.slice p).sw.swstat.swap = 0 → sopActive (s.slice p) = true → (s.slice p).pd.pdstat.pdConn = false → rev2
    (s.slice p) .sop = false → (s.slice p).pd.ownOpen = false → (s.slice p).pd.partnerAms = false → (s.slice
    p).mb.hostAms = none → ∃ t, exec (.sourceCapTimer p) s = .next t ∧ (t.slice p).pd.inflight.map (fun m => (m.why,
    m.offer)) = some (.advert, buildOffer (s.slice p) s.sup.maxpdo))

/-- SOFT_RESET resets the context before its Accept goes out; HARD_RESET counts, resets contexts and contract at once
and starts its power sequence, or waits for the hold line; HARD_RESET_PS_START takes VBUS away, SRC_RECOVER_END
brings it back or ends in ErrorRecovery without supply; BIST, BIST_CARRIER_MODE_END and PD_CNT_CLEAR act on their
bits alone. -/
def Obligations.ResetsOfTheEngine : Prop :=
  (∀ (p : Port) (s : State), s.did.released = true → sopActive (s.slice p) = true → (s.slice p).pd.ready = [] →
    (s.slice p).pd.inflight = none → ∃ t, exec (.softReset p .sop) s = .next t ∧ (t.slice p).pd.txId.sop = 0 ∧
    (t.slice p).pd.rxId.sop = none ∧ (t.slice p).pd.inflight = some { ctx := .sop, kind := .accept, prio := .reply }) ∧
  (∀ (p : Port) (c : Ctx) (s : State), ctxActive (s.slice p) c = false → exec (.softReset p c) s = .next s) ∧
  (∀ (p : Port) (s : State), s.did.released = true → takesHardReset (s.slice p) = true → s.sup.hold = false → ∃ t,
    exec (.hardReset p) s = .next t ∧ (t.slice p).pd.pdcnt.hrRx = satInc (s.slice p).pd.pdcnt.hrRx ∧ (t.slice
    p).off.contract = {} ∧ (t.slice p).pins.snkg = false ∧ (t.slice p).pd.rxId.sop = none ∧ (t.slice p).pd.hrPhase =
    (if (s.slice p).pr.prstat.pstate = 1 ∨ (s.slice p).pr.prstat.pstate = 2 then .recover else .waitPs)) ∧
  (∀ (p : Port) (s : State), s.did.released = true → takesHardReset (s.slice p) = true → s.sup.hold = true → ∃ t, exec
    (.hardReset p) s = .next t ∧ (t.slice p).pd.pdcnt.hrRx = satInc (s.slice p).pd.pdcnt.hrRx ∧ (t.slice
    p).off.contract = {} ∧ (t.slice p).pd.pdstat.hrPend = true ∧ (t.slice p).pd.hrWait = .received ∧ (t.slice
    p).pins.isog = (s.slice p).pins.isog ∧ (t.slice p).ps.psstat.cstate = (s.slice p).ps.psstat.cstate) ∧
  (∀ (p : Port) (s : State), takesHardReset (s.slice p) = false → exec (.hardReset p) s = .next s) ∧
  (∀ (p : Port) (s : State), s.did.released = true → (s.slice p).pd.hrPhase = .waitPs → (s.slice p).sw.swstat.prole =
    true → ∃ t, exec (.hardResetPsStart p) s = .next t ∧ (t.slice p).pd.hrPhase = .recover ∧ (t.slice p).pins.isog =
    false ∧ (t.slice p).pins.pwm = .highZ) ∧
  (∀ (p : Port) (s : State), s.did.released = true → (s.slice p).pd.hrPhase = .waitPs → (s.slice p).sw.swstat.prole =
    false → (s.slice p).ps.psstat.cstate = 4 → (s.slice p).pins.isog = true → ∃ t, exec (.hardResetPsStart p) s =
    .next t ∧ (t.slice p).pd.hrPhase = .recover ∧ (t.slice p).ps.psstat.cstate = 6 ∧ (t.slice p).pins.isog = true) ∧
  (∀ (p : Port) (s : State), s.did.released = true → (s.slice p).pd.hrPhase = .recover → (s.slice p).sw.swstat.prole =
    false → (s.slice p).pr.prstat.pstate = 0 → s.sup.active = .none → ∃ t, exec (.srcRecoverEnd p) s = .next t ∧
    (t.slice p).att.attstat.state = 14 ∧ (t.slice p).pins.isog = false ∧ (t.slice p).pins.term = .openCc) ∧
  (∀ (p : Port) (s : State), s.did.released = true → (s.slice p).pd.hrPhase = .recover → (s.slice p).sw.swstat.prole =
    false → (s.slice p).pr.prstat.pstate = 0 → s.sup.active ≠ .none → (s.slice p).gr.none = false → s.sup.hold = false
    → (s.slice p).pr.bad = 0 → ∃ t, exec (.srcRecoverEnd p) s = .next t ∧ (t.slice p).ps.psstat.cstate = (if 5000 < 10
    * (s.slice p).ps.tlmV.vcnv.toNat then 2 else 1) ∧ (t.slice p).pins.isog = false) ∧
  (∀ (p : Port) (s : State), s.did.released = true → sopActive (s.slice p) = true → ∃ t, exec (.bist p 0) s = .next t
    ∧ (t.slice p).pd = { (s.slice p).pd with bistCarrier := true }) ∧
  (∀ (p : Port) (mode : BitVec 4) (s : State), mode ≠ 0 → exec (.bist p mode) s = .next s) ∧
  (∀ (p : Port) (s : State), s.did.released = true → ∃ t, exec (.bistCarrierModeEnd p) s = .next t ∧ (t.slice p).pd =
    { (s.slice p).pd with bistCarrier := false }) ∧
  (∀ (p : Port) (s : State), ∃ t, exec (.pdCntClear p) s = .next t ∧ (t.slice p).pd =
    { (s.slice p).pd with pdcnt := {} } ∧ t.beside p = s.beside p)

/-- CABLE_IDENTITY_ANSWER records what the cable says, or with a NAK that it is unmarked, and ends discovery;
DISCOVER_IDENTITY_TIMER tries again up to nDiscoverIdentityCount times and then counts the cable as unmarked;
DISCOVER_IDENTITY answers the partner with the identity of the DEVICE record. -/
def Obligations.CableDiscovery : Prop :=
  (∀ (p : Port) (a : CableAnswer) (s : State), s.did.released = true → a.ctx = .sop1 → (s.slice p).pd.discovering =
    true → a.nak = true → (s.slice p).pd.capsSent = false → ∃ t, exec (.cableIdentityAnswer p a) s = .next t ∧
    (t.slice p).pd.cblStat = { (s.slice p).pd.cblStat with kind := 3 } ∧ (t.slice p).pd.discovering = false ∧ (t.slice
    p).pd.discEnded = true) ∧
  (∀ (p : Port) (a : CableAnswer) (s : State), s.did.released = true → a.ctx = .sop1 → (s.slice p).pd.discovering =
    true → a.nak = false → a.active = false → (s.slice p).pd.capsSent = false → ∃ t, exec (.cableIdentityAnswer p a) s
    = .next t ∧ (t.slice p).pd.cblVdo = a.vdo1 ∧ (t.slice p).pd.cblId = { vid := a.vid, pid := a.pid } ∧ (t.slice
    p).pd.cblStat =
    { (s.slice p).pd.cblStat with kind := 1, ilim := a.ilim, vmax := a.vmax, epr := a.epr, sop2 := a.sop2 } ∧ (t.slice
    p).pd.discovering = false ∧ (t.slice p).pd.discEnded = true) ∧
  (∀ (p : Port) (s : State), s.did.released = true → (s.slice p).pd.discovering = true → nDiscoverIdentityCount ≤
    (s.slice p).pd.cblStat.tries.toNat → (s.slice p).pd.capsSent = false → ∃ t, exec (.discoverIdentityTimer p) s =
    .next t ∧ (t.slice p).pd.cblStat = { (s.slice p).pd.cblStat with kind := 3 } ∧ (t.slice p).pd.discovering = false
    ∧ (t.slice p).pd.discEnded = true) ∧
  (∀ (p : Port) (s : State), s.did.released = true → (s.slice p).pd.discovering = true → (s.slice
    p).pd.cblStat.tries.toNat < nDiscoverIdentityCount → (s.slice p).pd.cblStat.tries ≠ 3 → sop1Active (s.slice p) =
    true → ∃ t, exec (.discoverIdentityTimer p) s = .next t ∧ (t.slice p).pd.cblStat =
    { (s.slice p).pd.cblStat with tries := (s.slice p).pd.cblStat.tries + 1 } ∧ (t.slice p).pd.discovering = true) ∧
  (∀ (p : Port) (s : State), (s.slice p).pd.discovering = false → exec (.discoverIdentityTimer p) s = .next s) ∧
  (∀ (p : Port) (s : State), s.did.released = true → sopActive (s.slice p) = true → (s.slice p).pd.pdstat.pdSilent =
    false → (s.slice p).pd.ready = [] → (s.slice p).pd.inflight = none → ∃ t, exec (.discoverIdentity p) s = .next t ∧
    (t.slice p).pd.inflight = some
    { ctx := .sop, kind := .vdm pdSid .discoverIdentity .ack, prio := .reply, words := [s.nvc.vid.setWidth 32, s.nvc.pid.setWidth 32, s.nvc.bcd.setWidth 32, s.nvc.xid] })

/-- on an idle line at Revision 3.x GET_STATUS is answered with the fields of R158, GET_PPS_STATUS with those of R152,
GET_REVISION with Revision 3.2 version 1.1, EPR_KEEPALIVE in EPR mode with EPR_KeepAlive_Ack, and ALERT puts
Get_Status behind what waits for the line; GET_SOURCE_CAP waits for the hold line, and answers with the present
offer once it is low. -/
def Obligations.Answers : Prop :=
  (∀ (p : Port) (s : State), s.did.released = true → sopActive (s.slice p) = true → (s.slice p).pd.pdstat.pdSilent =
    false → rev2 (s.slice p) .sop = false → (s.slice p).pd.ready = [] → (s.slice p).pd.inflight = none → ∃ t, exec
    (.getStatus p) s = .next t ∧ (t.slice p).pd.inflight = some
    { ctx := .sop, kind := .status, prio := .reply, words := statusWords p s }) ∧
  (∀ (p : Port) (s : State), s.did.released = true → sopActive (s.slice p) = true → (s.slice p).pd.pdstat.pdSilent =
    false → rev2 (s.slice p) .sop = false → (s.slice p).pd.ready = [] → (s.slice p).pd.inflight = none → ∃ t, exec
    (.getPpsStatus p) s = .next t ∧ (t.slice p).pd.inflight = some
    { ctx := .sop, kind := .ppsStatus, prio := .reply, words := ppsStatusWords (s.slice p) }) ∧
  (∀ (p : Port) (s : State), s.did.released = true → sopActive (s.slice p) = true → (s.slice p).pd.pdstat.pdSilent =
    false → rev2 (s.slice p) .sop = false → (s.slice p).pd.ready = [] → (s.slice p).pd.inflight = none → ∃ t, exec
    (.getRevision p) s = .next t ∧ (t.slice p).pd.inflight = some
    { ctx := .sop, kind := .revision, prio := .reply, words := [3, 2, 1, 1] }) ∧
  (∀ (p : Port) (s : State), s.did.released = true → sopActive (s.slice p) = true → rev2 (s.slice p) .sop = true → ∃
    t, exec (.getRevision p) s = .next t ∧ (t.slice p).pd = (s.slice p).pd) ∧
  (∀ (p : Port) (s : State), s.did.released = true → sopActive (s.slice p) = true → (s.slice p).pd.pdstat.pdSilent =
    false → rev2 (s.slice p) .sop = false → (s.slice p).pd.ready = [] → (s.slice p).pd.inflight = none → (s.slice
    p).off.contract.epr = true → ∃ t, exec (.eprKeepalive p) s = .next t ∧ (t.slice p).pd.inflight = some
    { ctx := .sop, kind := .eprKeepAliveAck, prio := .reply }) ∧
  (∀ (p : Port) (s : State), (s.slice p).off.contract.epr = false → exec (.eprKeepalive p) s = .next s) ∧
  (∀ (p : Port) (s : State), s.did.released = true → sopActive (s.slice p) = true → (s.slice p).pd.pdstat.pdSilent =
    false → rev2 (s.slice p) .sop = false → (s.slice p).pd.inflight.isSome = true → ∃ t, exec (.alert p) s = .next t ∧
    (t.slice p).pd.ready = (s.slice p).pd.ready ++ [{ ctx := .sop, kind := .getStatus, prio := .ams }] ∧ (t.slice
    p).pd.inflight = (s.slice p).pd.inflight) ∧
  (∀ (p : Port) (s : State), s.did.released = true → sopActive (s.slice p) = true → rev2 (s.slice p) .sop = false →
    s.sup.hold = true → ∃ t, exec (.getSourceCap p false) s = .next t ∧ (t.slice p).off =
    { (s.slice p).off with advertDue := true } ∧ (t.slice p).pd = (s.slice p).pd) ∧
  (∀ (p : Port) (s : State), s.did.released = true → sopActive (s.slice p) = true → (s.slice p).pd.pdstat.pdSilent =
    false → rev2 (s.slice p) .sop = false → s.sup.hold = false → (s.slice p).pd.ready = [] → (s.slice p).pd.inflight =
    none → ∃ t, exec (.getSourceCap p true) s = .next t ∧ (t.slice p).pd.inflight = some
    { ctx := .sop, kind := .eprSourceCap, prio := .reply, why := .advert, words := [offerFlags (s.slice p) s], offer := sprOffer (s.slice p) s.sup.maxpdo ++ eprOffer (s.slice p) s.sup.maxpdo })

/-- MBTX_SEND on a port that is not open answers with cause 1, and has no effect while a message is queued or on the
line; on an open port it answers with the refusal cause of R136 or queues the message; MBTX_ABORT discards a queued
message with cause 11 and is late for one on the line; MBRX_POP removes the head of the receive queue;
UNSUPPORTED_MESSAGE takes the message from the receive buffer, and in an open port that routes it puts it into the
receive queue with event 8n + 5; HOST_REPLY_TIMEOUT marks the host late. -/
def Obligations.Mailboxes : Prop :=
  (∀ (p : Port) (ctx : BitVec 2) (len : BitVec 9) (s : State), s.did.released = true → portOpen p (s.slice p) = false
    → (s.slice p).mb.mbtxStat.state = 0 → ∃ t, exec (.mbtxSend p ctx len) s = .next t ∧ (t.slice p).mb =
    { (s.slice p).mb with mbtxStat := { state := 5, cause := 1 } } ∧ (t.slice p).pd = (s.slice p).pd) ∧
  (∀ (p : Port) (len : BitVec 9) (s : State), s.did.released = true → portOpen p (s.slice p) = true → (s.slice
    p).mb.mbtxStat.state = 2 → ∃ t, exec (.mbtxSend p 0 len) s = .next t ∧ (t.slice p).mb =
    { (s.slice p).mb with ctx := 0, len := len } ∧ (t.slice p).pd = (s.slice p).pd) ∧
  (∀ (p : Port) (len : BitVec 9) (c : BitVec 4) (s : State), s.did.released = true → portOpen p (s.slice p) = true →
    (s.slice p).mb.mbtxStat.state = 0 → mbCheck p
    { (s.slice p) with mb := { (s.slice p).mb with ctx := 0, len := len } } s.sup.maxpdo = .inl c → ∃ t, exec
    (.mbtxSend p 0 len) s = .next t ∧ (t.slice p).mb.mbtxStat = { state := 5, cause := c } ∧ (t.slice p).pd = (s.slice
    p).pd) ∧
  (∀ (p : Port) (len : BitVec 9) (m : TxMsg) (s : State), s.did.released = true → portOpen p (s.slice p) = true →
    (s.slice p).mb.mbtxStat.state = 0 → mbCheck p
    { (s.slice p) with mb := { (s.slice p).mb with ctx := 0, len := len } } s.sup.maxpdo = .inr m → (s.slice
    p).pd.inflight.isSome = true → ∃ t, exec (.mbtxSend p 0 len) s = .next t ∧ (t.slice p).mb.mbtxStat =
    { state := 1 } ∧ (t.slice p).pd.ready = (s.slice p).pd.ready ++ [m] ∧ m.prio = .mailbox) ∧
  (∀ (p : Port) (s : State), s.did.released = true → portOpen p (s.slice p) = true → (s.slice p).mb.mbtxStat.state = 1
    → ∃ t, exec (.mbtxAbort p) s = .next t ∧ (t.slice p).mb.mbtxStat =
    { (s.slice p).mb.mbtxStat with state := 6, cause := 11 }) ∧
  (∀ (p : Port) (s : State), s.did.released = true → portOpen p (s.slice p) = true → (s.slice p).mb.mbtxStat.state = 2
    → ∃ t, exec (.mbtxAbort p) s = .next t ∧ (t.slice p).mb.mbtxStat =
    { (s.slice p).mb.mbtxStat with abortLate := true } ∧ (t.slice p).pd = (s.slice p).pd) ∧
  (∀ (p : Port) (s : State), s.did.released = true → portOpen p (s.slice p) = true → ∃ t, exec (.mbrxPop p) s = .next
    t ∧ (t.slice p).mb = { (s.slice p).mb with rxq := (s.slice p).mb.rxq.tail }) ∧
  (∀ (p : Port) (s : State), portOpen p (s.slice p) = false → exec (.mbrxPop p) s = .next s) ∧
  (∀ (p : Port) (f : Frame) (phase : BitVec 16) (s : State), s.did.released = true → (s.slice p).pd.rxBuf.sop = some f
    → unsupportedRow p (s.slice p) f.kind = some true → portOpen p (s.slice p) = true → (s.slice p).pd.pdcfg.hostrx =
    true → (s.slice p).mb.rxq.length < 4 → ∃ t, exec (.unsupportedMessage p .sop phase) s = .next t ∧ (t.slice
    p).pd.rxBuf.sop = none ∧ (t.slice p).mb.hostOwes = some f ∧ t.eva.raised (8 * p.val + 5) = true ∧ (t.slice
    p).mb.rxq = (s.slice p).mb.rxq ++
    [{ ctx := f.ctx, isCopy := false, len := f.len, words := f.words, phase := phase, cnLo := s.cyc.cn.setWidth 16 }]) ∧
  (∀ (p : Port) (f : Frame) (s : State), s.did.released = true → (s.slice p).mb.hostOwes = some f → (s.slice
    p).mb.mbtxStat.state = 1 → ∃ t, exec (.hostReplyTimeout p) s = .next t ∧ (t.slice p).mb.late = true ∧ (t.slice
    p).mb.hostOwes = none ∧ t.eva.raised (8 * p.val + 5) = true) ∧
  (∀ (p : Port) (s : State), (s.slice p).mb.hostOwes = none → exec (.hostReplyTimeout p) s = .next s)

/-- REQUEST keeps the object in SLC_RDO and is answered by the verdict of Table 7.3: under the hold line with Wait,
outside the offer with Reject, otherwise with Accept, which begins the evaluation with the target voltage; a Request
during a transition is a protocol error, and one to a Sink has no effect. -/
def Obligations.Requests : Prop :=
  (∀ (p : Port) (r : RequestMsg) (s : State), s.did.released = true → (s.slice p).sw.swstat.prole = false → sopActive
    (s.slice p) = true → (s.slice p).pd.pdstat.pdSilent = false → (s.slice p).off.xstep = .idle → s.sup.hold = true →
    (s.slice p).pd.ready = [] → (s.slice p).pd.inflight = none → ∃ t, exec (.request p r) s = .next t ∧ (t.slice
    p).off.rdo = r.rdo ∧ (t.slice p).off.xstat.result = 5 ∧ (t.slice p).off.xstep = .idle ∧ (t.slice p).off.contract =
    (s.slice p).off.contract ∧ (t.slice p).pd.inflight = some { ctx := .sop, kind := .wait, prio := .reply }) ∧
  (∀ (p : Port) (r : RequestMsg) (o : Offer) (s : State), s.did.released = true → (s.slice p).sw.swstat.prole = false
    → sopActive (s.slice p) = true → (s.slice p).off.xstep = .idle → s.sup.hold = false → (judge (Slice.requestRev r
    { (s.slice p) with off := { (s.slice p).off with rdo := r.rdo } }) (buildOffer (Slice.requestRev r
    { (s.slice p) with off := { (s.slice p).off with rdo := r.rdo } }) s.sup.maxpdo) false r).offer = some o → ∃ t,
    exec (.request p r) s = .next t ∧ (t.slice p).off.rdo = r.rdo ∧ (t.slice p).off.xstep = .evaluating ∧ (t.slice
    p).off.xstat.state = 1 ∧ (t.slice p).off.xstat.target = BitVec.ofNat 12 (askedMv o r / 20) ∧ (t.slice
    p).off.change = some
    { mv := askedMv o r, ma := r.ma, pos := r.pos, kind := o.kind, mismatch := r.mismatch, eprCap := r.eprCap, unchunked := r.unchunked }
    ∧ (t.slice p).off.contract = (s.slice p).off.contract) ∧
  (∀ (p : Port) (r : RequestMsg) (s : State), s.did.released = true → (s.slice p).sw.swstat.prole = false → sopActive
    (s.slice p) = true → (s.slice p).pd.pdstat.pdSilent = false → (s.slice p).off.xstep = .idle → s.sup.hold = false →
    (s.slice p).off.lastOffer.find? (fun o => o.pos = r.pos) = none → (s.slice p).pd.ready = [] → (s.slice
    p).pd.inflight = none → ∃ t, exec (.request p r) s = .next t ∧ (t.slice p).off.rdo = r.rdo ∧ (t.slice
    p).off.xstat.result = 4 ∧ (t.slice p).off.xstep = .idle ∧ (t.slice p).off.contract = (s.slice p).off.contract ∧
    (t.slice p).pd.inflight = some { ctx := .sop, kind := .reject, prio := .reply }) ∧
  (∀ (p : Port) (r : RequestMsg) (s : State), s.did.released = true → (s.slice p).sw.swstat.prole = false → sopActive
    (s.slice p) = true → (s.slice p).off.xstep = .ramping → s.sup.hold = false → (s.slice p).pd.hrSent <
    nHardResetCount → ∃ t, exec (.request p r) s = .next t ∧ (t.slice p).pd.pdcnt.hrTx = satInc (s.slice
    p).pd.pdcnt.hrTx ∧ (t.slice p).off.contract = {} ∧ (t.slice p).off.xstep = .idle) ∧
  (∀ (p : Port) (r : RequestMsg) (s : State), (s.slice p).sw.swstat.prole = true → exec (.request p r) s = .next s)

/-- SRC_TRANSITION_EXPIRY sets the new set point and starts the ramp, or goes straight to settling where the reference
already stands there; RAMP_DONE settles, SETTLE_DONE sends PS_RDY, TRANSITION_TIMEOUT records result 3 and ends in
Hard Reset, XCTL_ABORT turns the change back with cause 1, ABORT_RAMP_BACK_DONE ends it; a step that the hold line
holds does not run; READV advertises, once the hold line is low, and READV_HOLDOFF_EXPIRY ends the 2 s of R144. -/
def Obligations.ContractChange : Prop :=
  (∀ (p : Port) (c : NewContract) (s : State), s.did.released = true → (s.slice p).sw.step = .idle → atStep (s.slice
    p) .waitTransition = true → (s.slice p).off.change = some c → ∃ t, exec (.srcTransitionExpiry p) s = .next t ∧
    (t.slice p).ps.vset = c.mv + 10 * (s.slice p).ps.feCx ∧ (t.slice p).off.xstep = (if (s.slice p).ps.vref = mvUnits
    (c.mv + 10 * (s.slice p).ps.feCx) then .settling else .ramping) ∧ (t.slice p).off.xstat.state = (if (s.slice
    p).ps.vref = mvUnits (c.mv + 10 * (s.slice p).ps.feCx) then 4 else 3)) ∧
  (∀ (p : Port) (s : State), (s.slice p).sw.step = .idle → (s.slice p).off.xheld = true → exec (.srcTransitionExpiry
    p) s = .next s) ∧
  (∀ (p : Port) (s : State), s.did.released = true → atStep (s.slice p) .ramping = true → ∃ t, exec (.rampDone p) s =
    .next t ∧ (t.slice p).off.xstep = .settling ∧ (t.slice p).off.xstat = { (s.slice p).off.xstat with state := 4 } ∧
    (t.slice p).ps.vref = mvUnits (s.slice p).ps.vset) ∧
  (∀ (p : Port) (s : State), atStep (s.slice p) .ramping = false → exec (.rampDone p) s = .next s) ∧
  (∀ (p : Port) (s : State), s.did.released = true → atStep (s.slice p) .settling = true → sopActive (s.slice p) =
    true → (s.slice p).pd.ready = [] → (s.slice p).pd.inflight = none → ∃ t, exec (.settleDone p) s = .next t ∧
    (t.slice p).off.xstep = .readySent ∧ (t.slice p).off.xstat = { (s.slice p).off.xstat with state := 5 } ∧ (t.slice
    p).pd.inflight = some { ctx := .sop, kind := .psRdy, prio := .reply, why := .contractReady }) ∧
  (∀ (p : Port) (s : State), s.did.released = true → inTransition (s.slice p) = true → (s.slice p).off.xheld = false →
    readyOnLine (s.slice p) = false → s.sup.hold = false → (s.slice p).pd.hrSent < nHardResetCount → ∃ t, exec
    (.transitionTimeout p) s = .next t ∧ (t.slice p).off.xstat.result = 3 ∧ (t.slice p).off.xstep = .idle ∧ (t.slice
    p).pd.pdcnt.hrTx = satInc (s.slice p).pd.pdcnt.hrTx ∧ t.eva.raised (8 * p.val + 7) = true) ∧
  (∀ (p : Port) (s : State), (s.slice p).off.xheld = true → exec (.transitionTimeout p) s = .next s) ∧
  (∀ (p : Port) (s : State), s.did.released = true → (s.slice p).off.xstep = .rampingBack → ∃ t, exec
    (.abortRampBackDone p) s = .next t ∧ (t.slice p).off.xstep = .idle ∧ (t.slice p).off.change = none ∧ (t.slice
    p).off.xstat.state = 0 ∧ (t.slice p).ps.vref = mvUnits (s.slice p).ps.vset) ∧
  (∀ (p : Port) (s : State), (s.slice p).off.xstep ≠ .rampingBack → exec (.abortRampBackDone p) s = .next s) ∧
  (∀ (p : Port) (s : State), s.did.released = true → (s.slice p).off.xstep = .ramping → readyOnLine (s.slice p) =
    false → ∃ t, exec (.xctlAbort p) s = .next t ∧ (t.slice p).off.xstep = .rampingBack ∧ (t.slice p).off.xstat =
    { (s.slice p).off.xstat with state := 7, result := 2, cause := 1 } ∧ (t.slice p).ps.vset = (s.slice p).vc +
    (s.slice p).ps.comp) ∧
  (∀ (p : Port) (s : State), (s.slice p).off.xstep = .idle → exec (.xctlAbort p) s = .next s) ∧
  (∀ (p : Port) (s : State), s.did.released = true → s.sup.hold = true → ∃ t, exec (.readv p) s = .next t ∧ (t.slice
    p).off = { (s.slice p).off with advertDue := true } ∧ (t.slice p).pd = (s.slice p).pd) ∧
  (∀ (p : Port) (s : State), s.did.released = true → s.sup.hold = false → (s.slice p).sw.swstat.prole = false →
    sopActive (s.slice p) = true → rev2 (s.slice p) .sop = false → (s.slice p).pd.ready = [] → (s.slice p).pd.restart
    = [] → (s.slice p).pd.inflight.isSome = true → ∃ t, exec (.readv p) s = .next t ∧ (t.slice p).pd.ready.map (fun m
    => (m.why, m.prio, m.offer)) = [(.advert, .ams, buildOffer (s.slice p) s.sup.maxpdo)]) ∧
  (∀ (p : Port) (s : State), s.did.released = true → (s.slice p).off.advertLater = false → ∃ t, exec
    (.readvHoldoffExpiry p) s = .next t ∧ (t.slice p).off = { (s.slice p).off with advertHold := false } ∧ (t.slice
    p).pd = (s.slice p).pd)

/-- EPR_MODE_ENTER is answered with Enter Acknowledged, or with Enter Failed and the first reason of R154;
EPR_MODE_EXIT leaves EPR mode at or below 20 V and is a Hard Reset above; EPR_KEEPALIVE_TIMEOUT and PPS_TIMEOUT end
in Hard Reset; ALERT_HOLDOFF_EXPIRY lets collected bits go; COMPLIANCE_EXPIRY imposes the limit of R159 on a partner
that has not reduced its draw; GRANT_WRITE writes SLC_GRANT, and a grant that falls to 0 sheds an attached Source.
-/
def Obligations.EprGrantAndAlert : Prop :=
  (∀ (p : Port) (s : State), s.did.released = true → (s.slice p).sw.swstat.prole = false → sopActive (s.slice p) =
    true → rev2 (s.slice p) .sop = false → eprEntryReason (s.slice p) s.sup.maxpdo = 0 → (s.slice p).pd.ready = [] →
    (s.slice p).pd.inflight = none → ∃ t, exec (.eprModeEnter p) s = .next t ∧ (t.slice p).pd.inflight = some
    { ctx := .sop, kind := .eprMode, prio := .reply, why := .eprAck, words := [2] }) ∧
  (∀ (p : Port) (s : State), s.did.released = true → (s.slice p).sw.swstat.prole = false → sopActive (s.slice p) =
    true → rev2 (s.slice p) .sop = false → eprEntryReason (s.slice p) s.sup.maxpdo ≠ 0 → (s.slice p).pd.ready = [] →
    (s.slice p).pd.inflight = none → ∃ t, exec (.eprModeEnter p) s = .next t ∧ (t.slice p).pd.inflight = some
    { ctx := .sop, kind := .eprMode, prio := .reply, words := [4, Config.eprReasonCode (eprEntryReason (s.slice p) s.sup.maxpdo)] }) ∧
  (∀ (p : Port) (s : State), s.did.released = true → (s.slice p).sw.swstat.prole = false → sopActive (s.slice p) =
    true → (s.slice p).off.conMv ≤ 20000 → ∃ t, exec (.eprModeExit p) s = .next t ∧ (t.slice p).off.contract.epr =
    false ∧ (t.slice p).off.contract.volt = (s.slice p).off.contract.volt) ∧
  (∀ (p : Port) (s : State), s.did.released = true → (s.slice p).sw.swstat.prole = false → sopActive (s.slice p) =
    true → 20000 < (s.slice p).off.conMv → s.sup.hold = false → (s.slice p).pd.hrSent < nHardResetCount → ∃ t, exec
    (.eprModeExit p) s = .next t ∧ (t.slice p).pd.pdcnt.hrTx = satInc (s.slice p).pd.pdcnt.hrTx ∧ (t.slice
    p).off.contract = {}) ∧
  (∀ (p : Port) (s : State), s.did.released = true → (s.slice p).off.contract.epr = true → (s.slice p).sw.swstat.prole
    = false → s.sup.hold = false → (s.slice p).pd.hrSent < nHardResetCount → ∃ t, exec (.eprKeepaliveTimeout p) s =
    .next t ∧ (t.slice p).pd.pdcnt.hrTx = satInc (s.slice p).pd.pdcnt.hrTx ∧ (t.slice p).off.contract = {}) ∧
  (∀ (p : Port) (s : State), (s.slice p).off.contract.epr = false → exec (.eprKeepaliveTimeout p) s = .next s) ∧
  (∀ (p : Port) (s : State), s.did.released = true → (s.slice p).off.contract.kind = 2 → (s.slice p).sw.swstat.prole =
    false → (s.slice p).off.xstep = .idle → s.sup.hold = false → (s.slice p).pd.hrSent < nHardResetCount → ∃ t, exec
    (.ppsTimeout p) s = .next t ∧ (t.slice p).pd.pdcnt.hrTx = satInc (s.slice p).pd.pdcnt.hrTx ∧ (t.slice
    p).off.contract = {}) ∧
  (∀ (p : Port) (s : State), (s.slice p).off.contract.kind ≠ 2 → exec (.ppsTimeout p) s = .next s) ∧
  (∀ (p : Port) (s : State), s.did.released = true → ∃ t, exec (.alertHoldoffExpiry p) s = .next t ∧ (t.slice p).off =
    { (s.slice p).off with alertHold := false, alertBits := (s.slice p).off.alertBits ||| (s.slice p).off.alertLater, alertLater := 0 }) ∧
  (∀ (p : Port) (mean : Nat) (s : State), s.did.released = true → (s.slice p).off.complRun = true → (s.slice
    p).off.complCon = false → 10 * (s.slice p).gr.eff < mean → ∃ t, exec (.complianceExpiry p mean) s = .next t ∧
    (t.slice p).off = { (s.slice p).off with complRun := false, complCon := false, limit := .compliance } ∧
    t.eva.raised (8 * p.val + 6) = true) ∧
  (∀ (p : Port) (mean : Nat) (s : State), s.did.released = true → (s.slice p).off.complRun = true → mean ≤ 10 *
    (s.slice p).gr.eff → ∃ t, exec (.complianceExpiry p mean) s = .next t ∧ (t.slice p).off =
    { (s.slice p).off with complRun := false, complCon := false }) ∧
  (∀ (p : Port) (w : Word) (s : State), ∃ t, exec (.grantWrite p w) s = .next t ∧ (t.slice p).gr.grant = ({} :
    SlcGrant).put w ∧ (t.slice p).gr.cap = (s.slice p).gr.cap) ∧
  (∀ (p : Port) (s : State), (s.slice p).att.attstat.state = 3 → (s.slice p).att.detaching = false → (s.slice
    p).att.attstat.nopwr = false → ∃ t, exec (.grantWrite p 0) s = .next t ∧ (t.slice p).att.attstat.nopwr = true ∧
    (t.slice p).pins.isog = false ∧ (t.slice p).pins.pwm = .highZ ∧ (t.slice p).ps.psstat.cstate = 0)

/-- SOURCE_CAPABILITIES is kept and answered with a Request; GET_SINK_CAP is answered with Not_Supported on a port
that is not dual-role, and with the sink objects of R208 on one that is; SINK_WAIT_CAP_TIMEOUT and
PS_TRANSITION_TIMEOUT end in Hard Reset; SINK_REQUEST_TIMER requests again, EPR_SINK_KEEPALIVE_TIMER queues
EPR_KeepAlive, ENTER_EPR_TIMEOUT ends the attempt to enter EPR mode, EPR_WAIT_TIMER and AID_PORT_TIMEOUT record that
their time has passed. -/
def Obligations.TieSink : Prop :=
  (∀ (p : Port) (c : SourceCaps) (s : State), s.did.released = true → (s.slice p).att.attstat.state = 6 → (s.slice
    p).sw.swstat.swap = 0 → (s.slice p).pd.pdstat.pdSilent = false → (s.slice p).sw.snkEpr = false → (s.slice
    p).pd.ready = [] → (s.slice p).pd.inflight = none → ∃ t, exec (.sourceCapabilities p c) s = .next t ∧ (t.slice
    p).sw.offered = some c ∧ (t.slice p).pd.inflight.map (fun m => (m.kind, m.prio)) = some (.request, .reply)) ∧
  (∀ (p : Port) (c : SourceCaps) (s : State), (s.slice p).att.attstat.state ≠ 6 → exec (.sourceCapabilities p c) s =
    .next s) ∧
  (∀ (p : Port) (s : State), s.did.released = true → 2 ≤ p.val → sopActive (s.slice p) = true → (s.slice
    p).pd.pdstat.pdSilent = false → rev2 (s.slice p) .sop = false → (s.slice p).pd.ready = [] → (s.slice
    p).pd.inflight = none → ∃ t, exec (.getSinkCap p false) s = .next t ∧ (t.slice p).pd.inflight = some
    { ctx := .sop, kind := .notSupported, prio := .reply }) ∧
  (∀ (p : Port) (s : State), s.did.released = true → p.val < 2 → (s.slice p).att.attcfg.role = 2 → (s.slice
    p).sw.swcfg.tie = false → sopActive (s.slice p) = true → (s.slice p).pd.pdstat.pdSilent = false → rev2 (s.slice p)
    .sop = false → (s.slice p).pd.ready = [] → (s.slice p).pd.inflight = none → ∃ t, exec (.getSinkCap p false) s =
    .next t ∧ (t.slice p).pd.inflight = some
    { ctx := .sop, kind := .sinkCap, prio := .reply, words := [0, 5000, BitVec.ofNat 32 (pilotMa (s.slice p))] }) ∧
  (∀ (p : Port) (s : State), s.did.released = true → (s.slice p).att.attstat.state = 6 → (s.slice p).sw.offered = none
    → sopActive (s.slice p) = true → s.sup.hold = false → (s.slice p).pd.hrSent < nHardResetCount → ∃ t, exec
    (.sinkWaitCapTimeout p) s = .next t ∧ (t.slice p).pd.pdcnt.hrTx = satInc (s.slice p).pd.pdcnt.hrTx ∧ (t.slice
    p).pd.hrSent = (s.slice p).pd.hrSent + 1) ∧
  (∀ (p : Port) (s : State), s.did.released = true → (s.slice p).sw.snkWaitRdy = true → s.sup.hold = false → (s.slice
    p).pd.hrSent < nHardResetCount → ∃ t, exec (.psTransitionTimeout p) s = .next t ∧ (t.slice p).pd.pdcnt.hrTx =
    satInc (s.slice p).pd.pdcnt.hrTx ∧ (t.slice p).pd.hrSent = (s.slice p).pd.hrSent + 1 ∧ (t.slice p).sw.snkWaitRdy =
    false) ∧
  (∀ (p : Port) (s : State), (s.slice p).sw.snkWaitRdy = false → exec (.psTransitionTimeout p) s = .next s) ∧
  (∀ (p : Port) (c : SourceCaps) (s : State), s.did.released = true → (s.slice p).sw.snkWaitRdy = false → (s.slice
    p).sw.offered = some c → (s.slice p).att.attstat.state = 6 → (s.slice p).sw.swstat.swap = 0 → ∃ t, exec
    (.sinkRequestTimer p) s = .next t ∧ (t.slice p).sw.snkReq = some (sinkChoice p c s).1) ∧
  (∀ (p : Port) (s : State), s.did.released = true → (s.slice p).sw.snkEpr = true → sopActive (s.slice p) = true →
    (s.slice p).pd.pdstat.pdSilent = false → rev2 (s.slice p) .sop = false → (s.slice p).pd.inflight.isSome = true → ∃
    t, exec (.eprSinkKeepaliveTimer p) s = .next t ∧ (t.slice p).pd.ready = (s.slice p).pd.ready ++
    [{ ctx := .sop, kind := .eprKeepAlive, prio := .ams }]) ∧
  (∀ (p : Port) (s : State), s.did.released = true → (s.slice p).sw.snkEntering = true → (s.slice p).sw.snkEpr = false
    → ∃ t, exec (.enterEprTimeout p) s = .next t ∧ (t.slice p).sw.snkEntering = false ∧ (t.slice p).sw.eprFailed =
    true) ∧
  (∀ (p : Port) (c : SourceCaps) (s : State), s.did.released = true → (s.slice p).sw.offered = some c → (s.slice
    p).sw.eprPossible = false → ∃ t, exec (.eprWaitTimer p) s = .next t ∧ (t.slice p).sw.eprPossible = true) ∧
  (∀ (s : State), s.sup.active = .none → (s.slice 0).sw.swstat.aid = false → ∃ t, exec .aidPortTimeout s = .next t ∧
    t.sup = { s.sup with aidSecond := true }) ∧
  (∀ (s : State), s.sup.active ≠ .none → exec .aidPortTimeout s = .next s)

/-- PWM_PERIOD runs the compensator on the sample, within the on-time limits of R163, while V_ref goes toward its goal
unless the hold line holds it; PREBIAS_PASS closes ISOGn or, for a start into a swap, keeps it open, FEEDBACK_SWITCH
changes the feedback channel, PPS_CURRENT_LOOP moves V_set by R168 and never below 3.3 V, PWMPH_WRITE sets SLC_PWMPH
with PEND. -/
def Obligations.Converter : Prop :=
  (∀ (p : Port) (code : BitVec 12) (s : State), s.did.released = true → (s.slice p).ps.running = true → ∃ t, exec
    (.pwmPeriod p code) s = .next t ∧ (t.slice p).ps.u2 = (s.slice p).ps.u1 ∧ (t.slice p).ps.fbFresh = false ∧ 0 ≤
    (t.slice p).ps.u1 ∧ (t.slice p).ps.u1 ≤ (s.slice p).ps.uHi ∧ (t.slice p).ps.e1 = (t.slice p).ps.vref16 - 16 *
    (code.toNat : Int) ∧ (t.slice p).ps.vref = (if s.sup.hold then (s.slice p).ps.vref else approach (s.slice
    p).ps.vref (refGoal (s.slice p)).1 ((refGoal (s.slice p)).2 * (s.slice p).ps.period)) ∧ (t.slice p).off = (s.slice
    p).off ∧ (t.slice p).pd = (s.slice p).pd ∧ (t.slice p).att = (s.slice p).att) ∧
  (∀ (p : Port) (code : BitVec 12) (s : State), (s.slice p).ps.running = false → exec (.pwmPeriod p code) s = .next s) ∧
  (∀ (p : Port) (s : State), s.did.released = true → (s.slice p).ps.psstat.cstate = 3 → s.sup.hold = false → (s.slice
    p).ps.swapStart = false → ∃ t, exec (.prebiasPass p) s = .next t ∧ (t.slice p).ps.psstat.cstate = 4 ∧ (t.slice
    p).pins.isog = true ∧ (t.slice p).pins.pwm = .sync ∧ (t.slice p).ps.vref = mvUnits 5000 ∧ (t.slice
    p).pr.gateStarted = true) ∧
  (∀ (p : Port) (s : State), s.did.released = true → (s.slice p).ps.psstat.cstate = 2 → s.sup.hold = false → (s.slice
    p).ps.swapStart = true → ∃ t, exec (.prebiasPass p) s = .next t ∧ (t.slice p).ps.psstat.cstate = 3 ∧ (t.slice
    p).pins = (s.slice p).pins ∧ (t.slice p).ps.vref = mvUnits 5000) ∧
  (∀ (p : Port) (s : State), s.sup.hold = true → exec (.prebiasPass p) s = .next s) ∧
  (∀ (p : Port) (s : State), s.did.released = true → (s.slice p).ps.psstat.cstate = 4 → (s.slice p).pins.isog = true →
    (s.slice p).ps.psstat.fb = false → ∃ t, exec (.feedbackSwitch p) s = .next t ∧ (t.slice p).ps.psstat =
    { (s.slice p).ps.psstat with fb := true, cstate := 5 } ∧ (t.slice p).ps.fbFresh = true ∧ (t.slice p).pins =
    (s.slice p).pins) ∧
  (∀ (p : Port) (s : State), (s.slice p).ps.psstat.fb = true → exec (.feedbackSwitch p) s = .next s) ∧
  (∀ (p : Port) (mean : Int) (s : State), s.did.released = true → (s.slice p).off.contract.kind = 2 → (s.slice
    p).sw.swstat.prole = false → (s.slice p).off.xstep = .idle → (s.slice p).ps.psstat.cstate = 5 → ∃ t, exec
    (.ppsCurrentLoop p mean) s = .next t ∧ (t.slice p).ps.vset = ppsSet (s.slice p) mean ∧ 3300 ≤ (t.slice p).ps.vset
    ∧ (t.slice p).ps.psstat.clmode = decide (ppsSet (s.slice p) mean < (s.slice p).off.conMv) ∧ (t.slice p).off =
    (s.slice p).off) ∧
  (∀ (p : Port) (mean : Int) (s : State), (s.slice p).off.contract.kind ≠ 2 → exec (.ppsCurrentLoop p mean) s = .next
    s) ∧
  (∀ (p : Port) (next : BitVec 15) (cn : BitVec 8) (s : State), ∃ t, exec (.pwmphWrite p next cn) s = .next t ∧
    (t.slice p).ps = { (s.slice p).ps with pwmph := { next := next, loadCn := cn, pend := true } } ∧ t.beside p =
    s.beside p)

/-- TELEMETRY_UPDATE writes the die temperature and the means of the last 1 ms in the units of R178; ENERGY_ACCUMULATE
adds to SLC_ENO, for a negative current on port 0 or 1 to SLC_ENI, and does nothing for a negative current
elsewhere; HALF_CYCLE_BOUNDARY lifts a waiting limit and begins a waiting start in the port's slot; FE_REPORT_LOSS
ends far-end regulation. -/
def Obligations.Measurement : Prop :=
  (∀ (p : Port) (v c : Nat) (i : Int) (td : BitVec 16) (s : State), s.did.released = true → ∃ t, exec
    (.telemetryUpdate p v c i td) s = .next t ∧ t.did = { s.did with temp := td } ∧ (t.slice p).ps.tlmV =
    { vbus := satField 16 (roundDiv (15 * v) 160), vcnv := satField 16 (roundDiv (15 * c) 160) } ∧ (t.slice
    p).ps.tlmI.iout = int16 (roundQuot (500 * i) (16 * (s.slice p).ps.rsh)) ∧ (t.slice p).ps.vset = (s.slice
    p).ps.vset ∧ (t.slice p).off = (s.slice p).off ∧ (t.slice p).pins = (s.slice p).pins) ∧
  (∀ (p : Port) (cv ci : BitVec 12) (s : State), s.did.released = true → 0 ≤ ci.toInt → (addEnergy (s.slice p).ps.eno
    (s.slice p).ps.enoRes (15 * cv.toNat * (500 * ci.toInt.natAbs) / (s.slice p).ps.rsh)).2.2 = false → ∃ t, exec
    (.energyAccumulate p cv ci) s = .next t ∧ ((t.slice p).ps.eno, (t.slice p).ps.enoRes, false) = addEnergy (s.slice
    p).ps.eno (s.slice p).ps.enoRes (15 * cv.toNat * (500 * ci.toInt.natAbs) / (s.slice p).ps.rsh) ∧ (t.slice
    p).ps.eni = (s.slice p).ps.eni ∧ t.eva = s.eva) ∧
  (∀ (p : Port) (cv ci : BitVec 12) (s : State), s.did.released = true → p.val < 2 → ci.toInt < 0 → (addEnergy
    (s.slice p).ps.eni (s.slice p).ps.eniRes (15 * cv.toNat * (500 * ci.toInt.natAbs) / (s.slice p).ps.rsh)).2.2 =
    true → ∃ t, exec (.energyAccumulate p cv ci) s = .next t ∧ ((t.slice p).ps.eni, (t.slice p).ps.eniRes, true) =
    addEnergy (s.slice p).ps.eni (s.slice p).ps.eniRes (15 * cv.toNat * (500 * ci.toInt.natAbs) / (s.slice p).ps.rsh)
    ∧ (t.slice p).ps.eno = (s.slice p).ps.eno ∧ t.eva.raised 224 = true) ∧
  (∀ (p : Port) (cv ci : BitVec 12) (s : State), 2 ≤ p.val → ci.toInt < 0 → exec (.energyAccumulate p cv ci) s = .next
    s) ∧
  (∀ (p : Port) (half : Bool) (s : State), s.did.released = true → slotMatches (s.slice p) (2 * s.cyc.cn.toNat + (if
    half then 1 else 0)) = true → (s.slice p).ps.psstat.limwait = true → (s.slice p).ps.psstat.cstate = 5 → ∃ t, exec
    (.halfCycleBoundary half) s = .next t ∧ (t.slice p).off.limit = .none ∧ (t.slice p).ps.psstat =
    { (s.slice p).ps.psstat with limwait := false }) ∧
  (∀ (p : Port) (half : Bool) (s : State), s.did.released = true → slotMatches (s.slice p) (2 * s.cyc.cn.toNat + (if
    half then 1 else 0)) = true → (s.slice p).ps.psstat.limwait = false → (s.slice p).ps.psstat.cstate = 7 → (s.slice
    p).gr.none = false → (s.slice p).pr.prstat.pstate = 0 → s.sup.hold = true → ∃ t, exec (.halfCycleBoundary half) s
    = .next t ∧ (t.slice p).ps.startHeld = true ∧ (t.slice p).ps.psstat.cstate = 0) ∧
  (∀ (p : Port) (s : State), s.did.released = true → (s.slice p).ps.festat.state = 2 → (s.slice p).th.feAsked = false
    → ∃ t, exec (.feReportLoss p) s = .next t ∧ (t.slice p).ps.festat =
    { (s.slice p).ps.festat with state := 3, comp := 0 } ∧ (t.slice p).ps.vset = (if (s.slice p).ps.festat.comp = 0
    then (s.slice p).ps.vset else (s.slice p).vc)) ∧
  (∀ (p : Port) (s : State), (s.slice p).ps.festat.state = 0 → exec (.feReportLoss p) s = .next s)

/-- PR_SWAP, DR_SWAP, VCONN_SWAP and FR_SWAP are answered by Table 9.1: a port without the message answers
Not_Supported or Reject, the hold line makes it Wait, an acceptable request is accepted and its swap is in progress;
REQ_PR, REQ_DR and REQ_VC wait for the conditions of R191 and then send; SWAP_ANSWER ends the request with LAST 2, 4
or, after a third Wait, 3, or carries the swap out; SWAP_RETRY_TIMER asks again. -/
def Obligations.SwapRequests : Prop :=
  (∀ (p : Port) (s : State), s.did.released = true → 2 ≤ p.val → sopActive (s.slice p) = true → (s.slice
    p).pd.pdstat.pdSilent = false → rev2 (s.slice p) .sop = false → (s.slice p).pd.ready = [] → (s.slice
    p).pd.inflight = none → ∃ t, exec (.prSwap p) s = .next t ∧ (t.slice p).pd.inflight = some
    { ctx := .sop, kind := .notSupported, prio := .reply } ∧ (t.slice p).sw = (s.slice p).sw) ∧
  (∀ (p : Port) (s : State), s.did.released = true → p.val < 2 → sopActive (s.slice p) = true → (s.slice
    p).pd.pdstat.pdSilent = false → (s.slice p).att.attcfg.role = 2 → (s.slice p).off.changing = false → (s.slice
    p).sw.snkWaitRdy = false → (s.slice p).sw.outstanding = none → s.sup.hold = true → (s.slice p).pd.ready = [] →
    (s.slice p).pd.inflight = none → ∃ t, exec (.prSwap p) s = .next t ∧ (t.slice p).pd.inflight = some
    { ctx := .sop, kind := .wait, prio := .reply } ∧ (t.slice p).sw = (s.slice p).sw) ∧
  (∀ (p : Port) (s : State), s.did.released = true → p.val < 2 → sopActive (s.slice p) = true → (s.slice
    p).pd.pdstat.pdSilent = false → (s.slice p).att.attcfg.role = 2 → (s.slice p).off.changing = false → (s.slice
    p).sw.snkWaitRdy = false → (s.slice p).sw.outstanding = none → s.sup.hold = false → (s.slice p).sw.swstat.prole =
    false → (s.slice p).sw.swcfg.prAccSrc = true → (s.slice p).pd.ready = [] → (s.slice p).pd.inflight = none → ∃ t,
    exec (.prSwap p) s = .next t ∧ (t.slice p).sw.step = .asked ∧ (t.slice p).sw.swstat.swap = 1 ∧ (t.slice
    p).pd.inflight = some { ctx := .sop, kind := .accept, prio := .reply, why := .swapAccept .pr }) ∧
  (∀ (p : Port) (s : State), s.did.released = true → 2 ≤ p.val → sopActive (s.slice p) = true → (s.slice
    p).pd.pdstat.pdSilent = false → (s.slice p).pd.ready = [] → (s.slice p).pd.inflight = none → ∃ t, exec (.drSwap p)
    s = .next t ∧ (t.slice p).pd.inflight = some { ctx := .sop, kind := .reject, prio := .reply } ∧ (t.slice p).sw =
    (s.slice p).sw) ∧
  (∀ (p : Port) (s : State), s.did.released = true → p.val < 2 → sopActive (s.slice p) = true → (s.slice
    p).pd.pdstat.pdSilent = false → (s.slice p).att.attcfg.role = 2 → (s.slice p).sw.outstanding = none → (s.slice
    p).sw.swcfg.drAcc = true → modeEntered (s.slice p) = false → (s.slice p).pd.ready = [] → (s.slice p).pd.inflight =
    none → ∃ t, exec (.drSwap p) s = .next t ∧ (t.slice p).sw.step = .asked ∧ (t.slice p).sw.swstat.swap = 3 ∧
    (t.slice p).pd.inflight = some { ctx := .sop, kind := .accept, prio := .reply, why := .swapAccept .dr }) ∧
  (∀ (p : Port) (s : State), s.did.released = true → p.val < 2 → sopActive (s.slice p) = true → (s.slice
    p).pd.pdstat.pdSilent = false → (s.slice p).att.attcfg.role = 2 → (s.slice p).sw.outstanding = none → s.sup.hold =
    false → (s.slice p).pd.pdstat.vcsrc = false → (s.slice p).att.attcfg.vcls = 2 → s.sup.vconnOk = true → (s.slice
    p).pd.ready = [] → (s.slice p).pd.inflight = none → ∃ t, exec (.vconnSwap p) s = .next t ∧ (t.slice p).sw.step =
    .asked ∧ (t.slice p).sw.swstat.swap = 4 ∧ (t.slice p).pd.inflight = some
    { ctx := .sop, kind := .accept, prio := .reply, why := .swapAccept .vconn }) ∧
  (∀ (p : Port) (s : State), s.did.released = true → 2 ≤ p.val → sopActive (s.slice p) = true → (s.slice
    p).pd.pdstat.pdSilent = false → (s.slice p).pd.ready = [] → (s.slice p).pd.inflight = none → ∃ t, exec (.vconnSwap
    p) s = .next t ∧ (t.slice p).pd.inflight = some { ctx := .sop, kind := .reject, prio := .reply } ∧ (t.slice p).sw
    = (s.slice p).sw) ∧
  (∀ (p : Port) (s : State), s.did.released = true → p.val < 2 → sopActive (s.slice p) = true → (s.slice
    p).pd.pdstat.pdSilent = false → (s.slice p).att.attcfg.role = 2 → (s.slice p).sw.frsRecent = true → (s.slice
    p).sw.step = .frsWaitFr → (s.slice p).pd.ready = [] → (s.slice p).pd.inflight = none → ∃ t, exec (.frSwap p) s =
    .next t ∧ (t.slice p).sw.step = .frsAccept ∧ (t.slice p).pd.inflight = some
    { ctx := .sop, kind := .accept, prio := .reply, why := .swapAccept .fr }) ∧
  (∀ (p : Port) (s : State), s.did.released = true → p.val < 2 → sopActive (s.slice p) = true → (s.slice
    p).sw.frsRecent = false → s.sup.hold = false → (s.slice p).pd.hrSent < nHardResetCount → ∃ t, exec (.frSwap p) s =
    .next t ∧ (t.slice p).pd.pdcnt.hrTx = satInc (s.slice p).pd.pdcnt.hrTx ∧ (t.slice p).off.contract = {}) ∧
  (∀ (p : Port) (s : State), s.did.released = true → p.val < 2 → (s.slice p).att.attcfg.role = 2 → maySwap s (s.slice
    p) = true → ∃ t, exec (.reqPr p) s = .next t ∧ (t.slice p).sw.outstanding = some .pr ∧ (t.slice p).sw.wantPr =
    false ∧ (t.slice p).sw.mine = true) ∧
  (∀ (p : Port) (s : State), s.did.released = true → p.val < 2 → (s.slice p).att.attcfg.role = 2 → (s.slice
    p).pd.partnerAms = true → ∃ t, exec (.reqPr p) s = .next t ∧ (t.slice p).sw =
    { (s.slice p).sw with wantPr := true }) ∧
  (∀ (p : Port) (s : State), s.did.released = true → p.val < 2 → (s.slice p).att.attcfg.role = 2 → maySwap s (s.slice
    p) = true → (s.slice p).sw.wantPr = false → ∃ t, exec (.reqDr p) s = .next t ∧ (t.slice p).sw.outstanding = some
    .dr ∧ (t.slice p).sw.wantDr = false ∧ (t.slice p).sw.mine = true) ∧
  (∀ (p : Port) (s : State), s.did.released = true → p.val < 2 → (s.slice p).att.attcfg.role = 2 → maySwap s (s.slice
    p) = true → (s.slice p).sw.wantPr = false → (s.slice p).sw.wantDr = false → ∃ t, exec (.reqVc p) s = .next t ∧
    (t.slice p).sw.outstanding = some .vconn ∧ (t.slice p).sw.wantVc = false ∧ (t.slice p).sw.mine = true) ∧
  (∀ (p : Port) (s : State), s.did.released = true → 2 ≤ p.val → ∃ t, exec (.reqVc p) s = .next t ∧ (t.slice p).sw =
    (s.slice p).sw) ∧
  (∀ (p : Port) (s : State), s.did.released = true → (s.slice p).sw.outstanding = some .pr → ∃ t, exec (.swapAnswer p
    .reject) s = .next t ∧ (t.slice p).sw.outstanding = none ∧ (t.slice p).sw.swstat.last = 2 ∧ (t.slice
    p).sw.swstat.lastKind = 1 ∧ (t.slice p).sw.swstat.swap = 0) ∧
  (∀ (p : Port) (s : State), s.did.released = true → (s.slice p).sw.outstanding = some .vconn → ∃ t, exec (.swapAnswer
    p .notSupported) s = .next t ∧ (t.slice p).sw.outstanding = none ∧ (t.slice p).sw.swstat.last = 4 ∧ (t.slice
    p).sw.swstat.lastKind = 4 ∧ (t.slice p).sw.swstat.swap = 0) ∧
  (∀ (p : Port) (s : State), s.did.released = true → (s.slice p).sw.outstanding = some .dr → (s.slice p).sw.waits < 2
    → ∃ t, exec (.swapAnswer p .wait) s = .next t ∧ (t.slice p).sw.outstanding = none ∧ (t.slice p).sw.waits =
    (s.slice p).sw.waits + 1 ∧ (t.slice p).sw.retry = some .dr ∧ (t.slice p).sw.swstat.swap = 0 ∧ (t.slice
    p).sw.swstat.last = (s.slice p).sw.swstat.last) ∧
  (∀ (p : Port) (s : State), s.did.released = true → (s.slice p).sw.outstanding = some .dr → 2 ≤ (s.slice p).sw.waits
    → ∃ t, exec (.swapAnswer p .wait) s = .next t ∧ (t.slice p).sw.outstanding = none ∧ (t.slice p).sw.retry = none ∧
    (t.slice p).sw.swstat.last = 3 ∧ (t.slice p).sw.swstat.lastKind = 3) ∧
  (∀ (p : Port) (s : State), s.did.released = true → (s.slice p).sw.outstanding = some .dr → (s.slice
    p).sw.swstat.swap = 3 → ∃ t, exec (.swapAnswer p .accept) s = .next t ∧ (t.slice p).sw.outstanding = none ∧
    (t.slice p).sw.swstat.drole = !(s.slice p).sw.swstat.drole ∧ (t.slice p).sw.swstat.last = 1 ∧ (t.slice
    p).sw.swstat.swap = 0 ∧ (t.slice p).sw.swstat.prole = (s.slice p).sw.swstat.prole ∧ t.eva.raised (8 * p.val + 2) =
    true) ∧
  (∀ (p : Port) (s : State), s.did.released = true → (s.slice p).sw.retry = some .dr → (s.slice p).pd.partnerAms =
    true → ∃ t, exec (.swapRetryTimer p) s = .next t ∧ (t.slice p).sw =
    { (s.slice p).sw with retry := none, wantDr := true }) ∧
  (∀ (p : Port) (s : State), (s.slice p).sw.retry = none → exec (.swapRetryTimer p) s = .next s)

/-- SWAP_PS_RDY completes a PR_Swap of a Source, which becomes Sink, and a VCONN_Swap in which the slice hands VCONN
over, and lets a Sink wait for VBUS to fall; SWAP_SOURCE_START advertises; PS_SOURCE_ON_TIMEOUT,
PS_SOURCE_OFF_TIMEOUT, SINK_VBUS_WAIT_TIMEOUT and FRS_SWAP_TIMEOUT end in ErrorRecovery, SWAP_VBUS_TIMEOUT and
VCONN_SOURCE_TIMEOUT in Hard Reset; FRS_SIGNAL_END presents Rd and opens ISOGn; FRS_DETECT makes an armed Sink the
new Source with SNKGn open. -/
def Obligations.SwapSteps : Prop :=
  (∀ (p : Port) (s : State), s.did.released = true → (s.slice p).sw.step = .srcReady → (s.slice p).sw.swstat.swap = 1
    → ∃ t, exec (.swapPsRdy p) s = .next t ∧ (t.slice p).sw.swstat.prole = true ∧ (t.slice p).sw.swstat.last = 1 ∧
    (t.slice p).sw.swstat.swap = 0 ∧ (t.slice p).att.attstat.state = 6 ∧ (t.slice p).off.contract = {} ∧ t.eva.raised
    (8 * p.val + 2) = true) ∧
  (∀ (p : Port) (s : State), s.did.released = true → (s.slice p).sw.step = .vcGive → (s.slice p).sw.swstat.swap = 4 →
    ∃ t, exec (.swapPsRdy p) s = .next t ∧ (t.slice p).pd.pdstat.vcsrc = false ∧ (t.slice p).att.attstat.vconnOn =
    false ∧ (t.slice p).sw.swstat.last = 1 ∧ (t.slice p).sw.swstat.swap = 0 ∧ t.eva.raised (8 * p.val + 2) = true) ∧
  (∀ (p : Port) (s : State), s.did.released = true → (s.slice p).sw.step = .snkWait → (s.slice
    p).att.attstat.vbusSafe0 = false → ∃ t, exec (.swapPsRdy p) s = .next t ∧ (t.slice p).sw =
    { (s.slice p).sw with step := .snkVbus } ∧ (t.slice p).pins = (s.slice p).pins) ∧
  (∀ (p : Port) (s : State), s.did.released = true → (s.slice p).sw.step = .snkWait → (s.slice
    p).att.attstat.vbusSafe0 = true → s.sup.hold = false → ∃ t, exec (.swapPsRdy p) s = .next t ∧ (t.slice p).sw.step
    = .snkRise ∧ (t.slice p).pins.isog = true ∧ (t.slice p).pins.term = .rp) ∧
  (∀ (p : Port) (s : State), s.did.released = true → (s.slice p).sw.startDue = true → s.sup.hold = true → ∃ t, exec
    (.swapSourceStart p) s = .next t ∧ (t.slice p).sw = { (s.slice p).sw with startDue := false } ∧ (t.slice p).off =
    { (s.slice p).off with advertDue := true }) ∧
  (∀ (p : Port) (s : State), (s.slice p).sw.startDue = false → exec (.swapSourceStart p) s = .next s) ∧
  (∀ (p : Port) (s : State), s.did.released = true → (s.slice p).sw.step = .srcReady → ∃ t, exec (.psSourceOnTimeout
    p) s = .next t ∧ (t.slice p).att.attstat.state = 14 ∧ (t.slice p).pins.isog = false ∧ (t.slice p).pins.term =
    .openCc ∧ (t.slice p).off.contract = {}) ∧
  (∀ (p : Port) (s : State), (s.slice p).sw.step ≠ .srcReady → exec (.psSourceOnTimeout p) s = .next s) ∧
  (∀ (p : Port) (s : State), s.did.released = true → (s.slice p).sw.step = .snkWait → ∃ t, exec (.psSourceOffTimeout
    p) s = .next t ∧ (t.slice p).att.attstat.state = 14 ∧ (t.slice p).pins.isog = false ∧ (t.slice p).pins.term =
    .openCc ∧ (t.slice p).off.contract = {}) ∧
  (∀ (p : Port) (s : State), (s.slice p).sw.step ≠ .snkWait → exec (.psSourceOffTimeout p) s = .next s) ∧
  (∀ (p : Port) (s : State), s.did.released = true → (s.slice p).sw.step = .snkVbus → (s.slice
    p).att.attstat.vbusSafe0 = false → s.sup.hold = false → (s.slice p).pd.hrSent < nHardResetCount → ∃ t, exec
    (.swapVbusTimeout p) s = .next t ∧ (t.slice p).pd.pdcnt.hrTx = satInc (s.slice p).pd.pdcnt.hrTx ∧ (t.slice
    p).sw.step = .idle) ∧
  (∀ (p : Port) (s : State), (s.slice p).att.attstat.vbusSafe0 = true → exec (.swapVbusTimeout p) s = .next s) ∧
  (∀ (p : Port) (s : State), s.did.released = true → (s.slice p).sw.step = .vcGive → s.sup.hold = false → (s.slice
    p).pd.hrSent < nHardResetCount → ∃ t, exec (.vconnSourceTimeout p) s = .next t ∧ (t.slice p).pd.pdcnt.hrTx =
    satInc (s.slice p).pd.pdcnt.hrTx ∧ (t.slice p).sw.step = .idle) ∧
  (∀ (p : Port) (s : State), s.did.released = true → (s.slice p).sw.swstat.prole = true → (s.slice p).pd.hrPhase ≠
    .idle → (s.slice p).att.attstat.vbusPres = false → ∃ t, exec (.sinkVbusWaitTimeout p) s = .next t ∧ (t.slice
    p).att.attstat.state = 14 ∧ (t.slice p).pins.snkg = false ∧ (t.slice p).pins.term = .openCc ∧ (t.slice
    p).off.contract = {}) ∧
  (∀ (p : Port) (s : State), (s.slice p).att.attstat.vbusPres = true → exec (.sinkVbusWaitTimeout p) s = .next s) ∧
  (∀ (p : Port) (s : State), s.did.released = true → (s.slice p).sw.step = .frsSignal → ∃ t, exec (.frsSignalEnd p) s
    = .next t ∧ (t.slice p).sw.step = .frsWaitFr ∧ (t.slice p).pins.isog = false ∧ (t.slice p).pins.pwm = .highZ ∧
    (t.slice p).pins.term = .rd) ∧
  (∀ (p : Port) (s : State), s.did.released = true → (s.slice p).sw.swstat.frsArmed = true → 4750 ≤ (s.slice
    p).att.vbusMv → ∃ t, exec (.frsDetect p) s = .next t ∧ (t.slice p).sw.step = .frsNew ∧ (t.slice p).sw.swstat.swap
    = 2 ∧ (t.slice p).sw.swstat.frsDet = true ∧ (t.slice p).sw.swstat.frsArmed = false ∧ (t.slice p).pins.snkg = false
    ∧ t.eva.raised (8 * p.val + 2) = true) ∧
  (∀ (p : Port) (s : State), (s.slice p).sw.swstat.frsArmed = false → exec (.frsDetect p) s = .next s) ∧
  (∀ (p : Port) (s : State), s.did.released = true → (s.slice p).sw.step = .frsWaitFr → ∃ t, exec (.frsSwapTimeout p)
    s = .next t ∧ (t.slice p).att.attstat.state = 14 ∧ (t.slice p).pins.isog = false ∧ (t.slice p).pins.term = .openCc
    ∧ (t.slice p).sw.frsRecent = false) ∧
  (∀ (p : Port) (s : State), s.did.released = true → (s.slice p).sw.step = .frsOldReady → ∃ t, exec (.frsSwapTimeout
    p) s = .next t ∧ (t.slice p).sw = { (s.slice p).sw with frsRecent := false } ∧ (t.slice p).att = (s.slice p).att ∧
    (t.slice p).pins = (s.slice p).pins)

/-- PEAK_LIMIT and REV_LIMIT count limited periods and trip with causes 2 and 5 at PK_MAX, SHORT_TRIP, OV_TRIP,
PREBIAS_FAIL trip with causes 3, 4 and 6, FUSE_UPDATE with cause 1 when the accumulator reaches the trip level,
ATTEMPT_NOT_SETTLED with cause 10, which latches off once TRIES reaches the configured count; a trip stops PWMn,
opens ISOGn, keeps current and voltage in SLC_TRIPV, counts, and raises event 8n + 3. -/
def Obligations.Trips : Prop :=
  (∀ (p : Port) (i v : BitVec 16) (s : State), s.did.released = true → (s.slice p).ps.running = true → (s.slice
    p).pr.peakNow = false → pkMax (s.slice p).pr ≤ (s.slice p).pr.peakRun + 1 → (s.slice p).pr.prstat.pstate = 0 →
    inExchange (s.slice p) = false → ∃ t, exec (.peakLimit p i v) s = .next t ∧ (t.slice p).pr.prstat =
    { (s.slice p).pr.prstat with cause := 2, pstate := 1, trips := satInc (s.slice p).pr.prstat.trips } ∧ (t.slice
    p).pr.tripv = { itrip := i, vtrip := v } ∧ (t.slice p).pins.isog = false ∧ (t.slice p).pins.pwm = .highZ ∧
    t.eva.raised (8 * p.val + 3) = true) ∧
  (∀ (p : Port) (i v : BitVec 16) (s : State), s.did.released = true → (s.slice p).ps.running = true → (s.slice
    p).pr.peakNow = false → (s.slice p).pr.peakRun + 1 < pkMax (s.slice p).pr → ∃ t, exec (.peakLimit p i v) s = .next
    t ∧ (t.slice p).pr =
    { (s.slice p).pr with peakNow := true, peakRun := (s.slice p).pr.peakRun + 1, lvl := (s.slice p).pr.lvl ||| 1 } ∧
    (t.slice p).pins = (s.slice p).pins) ∧
  (∀ (p : Port) (i v : BitVec 16) (s : State), s.did.released = true → (s.slice p).ps.running = true → (s.slice
    p).sw.swstat.prole = false → (s.slice p).pins.pwm = .sync → (s.slice p).pr.revNow = false → pkMax (s.slice p).pr ≤
    (s.slice p).pr.revRun + 1 → (s.slice p).pr.falling = false → (s.slice p).pr.prstat.pstate = 0 → inExchange
    (s.slice p) = false → ∃ t, exec (.revLimit p i v) s = .next t ∧ (t.slice p).pr.prstat =
    { (s.slice p).pr.prstat with cause := 5, pstate := 1, trips := satInc (s.slice p).pr.prstat.trips } ∧ (t.slice
    p).pr.tripv = { itrip := i, vtrip := v } ∧ (t.slice p).pins.isog = false ∧ (t.slice p).pins.pwm = .highZ ∧
    t.eva.raised (8 * p.val + 3) = true) ∧
  (∀ (p : Port) (i v : BitVec 16) (s : State), s.did.released = true → (s.slice p).ps.running = true → (s.slice
    p).sw.swstat.prole = false → (s.slice p).pins.pwm = .sync → (s.slice p).pr.falling = true → ∃ t, exec (.revLimit p
    i v) s = .next t ∧ (t.slice p).pr = SlicePr.rev (s.slice p).pr ∧ (t.slice p).pins = (s.slice p).pins) ∧
  (∀ (p : Port) (i v : BitVec 16) (s : State), s.did.released = true → (s.slice p).ps.running = true ∨ (s.slice
    p).pins.isog = true → (s.slice p).pr.prstat.pstate = 0 → inExchange (s.slice p) = false → ∃ t, exec (.shortTrip p
    i v) s = .next t ∧ (t.slice p).pr.prstat =
    { (s.slice p).pr.prstat with cause := 3, pstate := 1, trips := satInc (s.slice p).pr.prstat.trips } ∧ (t.slice
    p).pr.tripv = { itrip := i, vtrip := v } ∧ (t.slice p).pins.isog = false ∧ (t.slice p).pins.pwm = .highZ ∧
    t.eva.raised (8 * p.val + 3) = true) ∧
  (∀ (p : Port) (i v : BitVec 16) (s : State), (s.slice p).ps.running = false → (s.slice p).pins.isog = false → exec
    (.shortTrip p i v) s = .next s) ∧
  (∀ (p : Port) (i v : BitVec 16) (s : State), s.did.released = true → sourceWatched (s.slice p) = true → (s.slice
    p).pr.prstat.pstate = 0 → inExchange (s.slice p) = false → ∃ t, exec (.ovTrip p i v) s = .next t ∧ (t.slice
    p).pr.prstat = { (s.slice p).pr.prstat with cause := 4, pstate := 1, trips := satInc (s.slice p).pr.prstat.trips }
    ∧ (t.slice p).pr.tripv = { itrip := i, vtrip := v } ∧ (t.slice p).pins.isog = false ∧ (t.slice p).pins.pwm =
    .highZ ∧ t.eva.raised (8 * p.val + 3) = true) ∧
  (∀ (p : Port) (i v : BitVec 16) (s : State), sourceWatched (s.slice p) = false → exec (.ovTrip p i v) s = .next s) ∧
  (∀ (p : Port) (cause : BitVec 2) (i v : BitVec 16) (s : State), s.did.released = true → (s.slice p).ps.psstat.cstate
    = 3 → s.sup.hold = false → (s.slice p).pr.prstat.pstate = 0 → inExchange (s.slice p) = false → ∃ t, exec
    (.prebiasFail p cause i v) s = .next t ∧ (t.slice p).pr.prstat =
    { (s.slice p).pr.prstat with cause := 6, pstate := 1, trips := satInc (s.slice p).pr.prstat.trips } ∧ (t.slice
    p).ps.psstat.pbfail = cause ∧ (t.slice p).pins.isog = false ∧ (t.slice p).pins.pwm = .highZ ∧ t.eva.raised (8 *
    p.val + 3) = true) ∧
  (∀ (p : Port) (mean : Int) (i v : BitVec 16) (s : State), s.did.released = true → (s.slice p).ps.running = true →
    fuseStep (s.slice p).ir mean (s.slice p).pr.acc < fuseK (s.slice p) → ∃ t, exec (.fuseUpdate p mean i v) s = .next
    t ∧ (t.slice p).pr = { (s.slice p).pr with acc := fuseStep (s.slice p).ir mean (s.slice p).pr.acc } ∧ (t.slice
    p).pins = (s.slice p).pins) ∧
  (∀ (p : Port) (mean : Int) (i v : BitVec 16) (s : State), s.did.released = true → (s.slice p).ps.running = true →
    fuseK (s.slice p) ≤ fuseStep (s.slice p).ir mean (s.slice p).pr.acc → (s.slice p).pr.prstat.pstate = 0 →
    inExchange (s.slice p) = false → ∃ t, exec (.fuseUpdate p mean i v) s = .next t ∧ (t.slice p).pr.prstat =
    { (s.slice p).pr.prstat with cause := 1, pstate := 1, trips := satInc (s.slice p).pr.prstat.trips } ∧ (t.slice
    p).pr.tripv = { itrip := i, vtrip := v } ∧ (t.slice p).pins.isog = false ∧ (t.slice p).pins.pwm = .highZ ∧
    (t.slice p).pr.acc = 0 ∧ t.eva.raised (8 * p.val + 3) = true) ∧
  (∀ (p : Port) (i v : BitVec 16) (s : State), s.did.released = true → (s.slice p).pr.prstat.pstate = 2 → (s.slice
    p).pr.gateStarted = true → (s.slice p).ps.running = true → inExchange (s.slice p) = false → retryCount p s ≠ 0 →
    retryCount p s ≤ (satInc (s.slice p).pr.prstat.tries).toNat → ∃ t, exec (.attemptNotSettled p i v) s = .next t ∧
    (t.slice p).pr.prstat =
    { (s.slice p).pr.prstat with cause := 10, pstate := 3, trips := satInc (s.slice p).pr.prstat.trips, tries := satInc (s.slice p).pr.prstat.tries }
    ∧ (t.slice p).pins.isog = false ∧ t.eva.raised (8 * p.val + 3) = true) ∧
  (∀ (p : Port) (i v : BitVec 16) (s : State), s.did.released = true → (s.slice p).pr.prstat.pstate = 2 → (s.slice
    p).pr.gateStarted = true → (s.slice p).ps.running = true → inExchange (s.slice p) = false → retryCount p s = 0 → ∃
    t, exec (.attemptNotSettled p i v) s = .next t ∧ (t.slice p).pr.prstat =
    { (s.slice p).pr.prstat with cause := 10, pstate := 1, trips := satInc (s.slice p).pr.prstat.trips, tries := satInc (s.slice p).pr.prstat.tries }
    ∧ (t.slice p).pins.isog = false ∧ t.eva.raised (8 * p.val + 3) = true) ∧
  (∀ (p : Port) (i v : BitVec 16) (s : State), (s.slice p).pr.gateStarted = false → exec (.attemptNotSettled p i v) s
    = .next s)

/-- PROT_RETRY_ATTEMPT starts a retry after the self-check, waits under the hold line, and ends in PSTATE 4 with what
the check found wrong; ATTEMPT_SUCCESS returns PSTATE to 0, TRIES_RESET_TIMER clears TRIES, UNLATCH clears a
latch-off with the contexts, SELFTEST runs the check where no power path is closed; SNKDROP_TRIP and SINK_OV_TRIP
open the sink path with causes 8 and 9, and OV_SAMPLE reports a rise without a trip; FAULT_N is low in Operation
exactly while a slice is in PSTATE 3 or 4 or an unmasked path latch is set, and in Reset, Boot and Recovery always.
-/
def Obligations.RetriesAndChecks : Prop :=
  ((∀ s : State, s.did.cond = .operation → (faultAsserted s = true ↔ (∃ p : Port, (s.slice p).pr.prstat.pstate = 3 ∨
    (s.slice p).pr.prstat.pstate = 4) ∨ ((s.sup.main.latch = true ∨ s.sup.bkup.latch = true) ∧ s.sup.mskSup =
    false)))) ∧
  ((∀ s : State, s.did.cond = .reset ∨ s.did.cond = .boot ∨ s.did.cond = .recovery → faultAsserted s = true)) ∧
  (∀ (p : Port) (s : State), s.did.released = true → (s.slice p).pr.prstat.pstate = 1 → (s.slice p).sw.swstat.prole =
    false → s.sup.hold = false → (s.slice p).pr.restore = false → ∃ t, exec (.protRetryAttempt p 0) s = .next t ∧
    (t.slice p).pr.prstat = { (s.slice p).pr.prstat with pstate := 2, scfail := 0 } ∧ (t.slice p).ps.psstat.cstate =
    (if 5000 < 10 * (s.slice p).ps.tlmV.vcnv.toNat then 2 else 1) ∧ (t.slice p).pr.acc = 0) ∧
  (∀ (p : Port) (bad : BitVec 4) (s : State), s.did.released = true → (s.slice p).pr.prstat.pstate = 1 → (s.slice
    p).sw.swstat.prole = false → s.sup.hold = false → (s.slice p).pr.restore = false → bad ≠ 0 → ∃ t, exec
    (.protRetryAttempt p bad) s = .next t ∧ (t.slice p).pr.prstat =
    { (s.slice p).pr.prstat with pstate := 4, scfail := bad, cause := 7 } ∧ (t.slice p).ps.psstat = (s.slice
    p).ps.psstat ∧ t.eva.raised (8 * p.val + 3) = true) ∧
  (∀ (p : Port) (bad : BitVec 4) (s : State), s.did.released = true → (s.slice p).pr.prstat.pstate = 1 → (s.slice
    p).sw.swstat.prole = false → s.sup.hold = true → ∃ t, exec (.protRetryAttempt p bad) s = .next t ∧ (t.slice p).pr
    = { (s.slice p).pr with bad := bad, attemptDue := true } ∧ (t.slice p).ps.psstat = (s.slice p).ps.psstat) ∧
  (∀ (p : Port) (s : State), s.did.released = true → (s.slice p).pr.prstat.pstate = 2 → (s.slice p).pr.gateStarted =
    true → ∃ t, exec (.attemptSuccess p) s = .next t ∧ (t.slice p).pr.prstat =
    { (s.slice p).pr.prstat with pstate := 0 } ∧ (t.slice p).pr.tenSec = true ∧ (t.slice p).pr.gateStarted = false ∧
    (t.slice p).off.ocpFlag = true) ∧
  (∀ (p : Port) (s : State), s.did.released = true → (s.slice p).pr.tenSec = true → ∃ t, exec (.triesResetTimer p) s =
    .next t ∧ (t.slice p).pr =
    { (s.slice p).pr with tenSec := false, prstat := { (s.slice p).pr.prstat with tries := 0 } } ∧ (t.slice p).off =
    { (s.slice p).off with ocpFlag := false }) ∧
  (∀ (p : Port) (s : State), (s.slice p).pr.tenSec = false → exec (.triesResetTimer p) s = .next s) ∧
  (∀ (p : Port) (s : State), s.did.released = true → (s.slice p).pr.prstat.pstate = 3 → (s.slice p).pr.bad = 0 → ∃ t,
    exec (.unlatch p) s = .next t ∧ (t.slice p).pr.prstat.pstate = 0 ∧ (t.slice p).pr.prstat.tries = 0 ∧ (t.slice
    p).off.contract = {} ∧ (t.slice p).pd.capsSent = false ∧ (t.slice p).pd.rxId.sop = none) ∧
  (∀ (p : Port) (s : State), s.did.released = true → (s.slice p).pr.prstat.pstate ≠ 3 → ∃ t, exec (.unlatch p) s =
    .next t ∧ (t.slice p).pr = (s.slice p).pr ∧ (t.slice p).off = (s.slice p).off ∧ (t.slice p).pd = (s.slice p).pd) ∧
  (∀ (p : Port) (bad : BitVec 4) (s : State), s.did.released = true → (s.slice p).ps.psstat.cstate = 0 → (s.slice
    p).pins.isog = false → (s.slice p).pins.snkg = false → bad ≠ 0 → ∃ t, exec (.selftest p bad) s = .next t ∧
    (t.slice p).pr.prstat = { (s.slice p).pr.prstat with pstate := 4, scfail := bad, cause := 7 } ∧ t.eva.raised (8 *
    p.val + 3) = true) ∧
  (∀ (p : Port) (s : State), s.did.released = true → (s.slice p).ps.psstat.cstate = 0 → (s.slice p).pins.isog = false
    → (s.slice p).pins.snkg = false → (s.slice p).pr.prstat.pstate = 0 → ∃ t, exec (.selftest p 0) s = .next t ∧
    (t.slice p).pr.prstat = { (s.slice p).pr.prstat with scfail := 0 }) ∧
  (∀ (p : Port) (bad : BitVec 4) (s : State), s.did.released = true → (s.slice p).pins.isog = true → ∃ t, exec
    (.selftest p bad) s = .next t ∧ (t.slice p).pr = { (s.slice p).pr with bad := bad }) ∧
  (∀ (p : Port) (i v : BitVec 16) (s : State), s.did.released = true → (s.slice p).sw.swstat.snkp = 2 → (s.slice
    p).att.attstat.state = 6 → (s.slice p).pr.bad = 0 → ∃ t, exec (.snkdropTrip p i v) s = .next t ∧ (t.slice
    p).sw.swstat.snkp = 3 ∧ t.sup.cascRetry = true ∧ (t.slice p).pr.prstat.cause = 8 ∧ (t.slice p).pr.prstat.pstate =
    1 ∧ (t.slice p).pins.snkg = false ∧ (t.slice p).pins.isog = false ∧ (t.slice p).pr.prstat.trips = satInc (s.slice
    p).pr.prstat.trips ∧ (t.slice p).pr.tripv = { itrip := i, vtrip := v }) ∧
  (∀ (p : Port) (i v : BitVec 16) (s : State), (s.slice p).sw.swstat.snkp ≠ 2 → exec (.snkdropTrip p i v) s = .next s) ∧
  (∀ (p : Port) (i v : BitVec 16) (s : State), s.did.released = true → (s.slice p).sw.swstat.prole = true → (s.slice
    p).pr.prstat.pstate = 0 → (s.slice p).sw.swstat.snkp = 2 → s.sup.hold = false → (s.slice p).pd.hrSent <
    nHardResetCount → s.sup.active ≠ .cascade → ∃ t, exec (.sinkOvTrip p i v) s = .next t ∧ (t.slice
    p).pr.prstat.cause = 9 ∧ (t.slice p).pr.prstat.pstate = 1 ∧ (t.slice p).pins.snkg = false ∧ (t.slice
    p).pd.pdcnt.hrTx = satInc (s.slice p).pd.pdcnt.hrTx) ∧
  (∀ (p : Port) (i v : BitVec 16) (s : State), s.did.released = true → (s.slice p).sw.swstat.prole = true → (s.slice
    p).pr.prstat.pstate = 0 → (s.slice p).sw.swstat.snkp = 2 → (s.slice p).att.attstat.state = 6 → (s.slice p).pr.bad
    = 0 → s.sup.active = .cascade → s.sup.cascQ = true → s.sup.cascPort = some p → s.sup.main.qual = false →
    s.sup.bkup.qual = false → (s.slice p).pd.hrSent < nHardResetCount → ∃ t, exec (.sinkOvTrip p i v) s = .next t ∧
    (t.slice p).pr.prstat.cause = 9 ∧ (t.slice p).pr.prstat.pstate = 1 ∧ (t.slice p).pins.snkg = false ∧ t.sup.active
    = .none) ∧
  (∀ (p : Port) (s : State), s.did.released = true → (s.slice p).ps.running = false → (s.slice p).pins.isog = false →
    (s.slice p).sw.swstat.snkp = 0 → (s.slice p).pr.ovSampled = false → ∃ t, exec (.ovSample p true) s = .next t ∧
    (t.slice p).pr =
    { (s.slice p).pr with ovSampled := true, lvl := (s.slice p).pr.lvl ||| 4, prstat := { (s.slice p).pr.prstat with cause := 4 } }
    ∧ (t.slice p).pins = (s.slice p).pins ∧ t.eva.raised (8 * p.val + 3) = true) ∧
  (∀ (p : Port) (high : Bool) (s : State), (s.slice p).pins.isog = true → exec (.ovSample p high) s = .next s)

/-- BUDGET_ROUND writes every port's grant as the round's allocation gives it and counts the round, the first one
after configuration load taking the boot to stage 6; it does nothing while the Policy Core is stopped or the hold
line is asserted. NTC_SAMPLE adds each valid sample of an enabled sheaf and marks one outside 3 % to 97 % of VDDA.
KILN_UPDATE runs at CN mod M = 0 only; in its first update after a start each enabled sheaf's node takes its
steady-state rise. -/
def Obligations.BudgetAndKiln : Prop :=
  (∀ (dt : Nat) (s : State), policyRuns s = true → s.sup.hold = false → s.did.cond = .operation → ∃ t, exec
    (.budgetRound dt) s = .next t ∧ t.bud.rnd = s.bud.rnd + 1 ∧ t.did = s.did ∧ (∀ r ∈ (allocate (overPorts lookupPort
    s) dt).1, (t.slice r.port).gr.grant.pwr = satField 12 r.g)) ∧
  (∀ (dt : Nat) (s : State), policyRuns s = true → s.sup.hold = false → s.did.cond = .boot → s.did.boot.stage = 5 →
    s.cyc.running = true → ∃ t, exec (.budgetRound dt) s = .next t ∧ t.bud.rnd = s.bud.rnd + 1 ∧ t.did =
    { s.did with boot := { s.did.boot with stage := 6 } }) ∧
  (∀ (dt : Nat) (s : State), policyRuns s = false ∨ s.sup.hold = true → s.did.cond = .operation → exec (.budgetRound
    dt) s = .next s) ∧
  (∀ (mv : List Nat) (vdda : Nat) (k : Fin 8) (s : State), policyRuns s = true → (s.kln.sheaves.get k).a.en = true →
    (s.kln.sheaves.get k).a.ntc.toNat < 8 → 3 * vdda ≤ 100 * mv.getD (s.kln.sheaves.get k).a.ntc.toNat 0 → 100 *
    mv.getD (s.kln.sheaves.get k).a.ntc.toNat 0 ≤ 97 * vdda → ∃ t, exec (.ntcSample mv vdda) s = .next t ∧
    t.kln.sheaves.get k =
    { s.kln.sheaves.get k with ntcSum := (s.kln.sheaves.get k).ntcSum + ntcConvert (s.kln.sheaves.get k).d (mv.getD (s.kln.sheaves.get k).a.ntc.toNat 0) vdda, ntcN := (s.kln.sheaves.get k).ntcN + 1 }) ∧
  (∀ (mv : List Nat) (vdda : Nat) (k : Fin 8) (s : State), policyRuns s = true → (s.kln.sheaves.get k).a.en = true →
    (s.kln.sheaves.get k).a.ntc.toNat < 8 → 97 * vdda < 100 * mv.getD (s.kln.sheaves.get k).a.ntc.toNat 0 → ∃ t, exec
    (.ntcSample mv vdda) s = .next t ∧ t.kln.sheaves.get k = { s.kln.sheaves.get k with ntcFault := true }) ∧
  (∀ (mv : List Nat) (vdda : Nat) (k : Fin 8) (s : State), policyRuns s = true → (s.kln.sheaves.get k).a.en = false →
    ∃ t, exec (.ntcSample mv vdda) s = .next t ∧ t.kln.sheaves.get k = s.kln.sheaves.get k ∧ t.kln.ports =
    s.kln.ports) ∧
  (∀ (mv : List Nat) (vdda : Nat) (s : State), policyRuns s = false → exec (.ntcSample mv vdda) s = .next s) ∧
  (∀ (s : State), policyRuns s = true → s.cyc.cn.toNat % kilnEvery s = 0 → ∃ t, exec .kilnUpdate s = .next t ∧
    t.kln.first = false ∧ t.kln.cycles = 0 ∧ t.kln.snaps = 0 ∧ t.kln.stat =
    { upd := s.kln.stat.upd + 1, cnLo := s.cyc.cn.setWidth 16 } ∧ (∀ k, (s.kln.sheaves.get k).a.en = false →
    t.kln.sheaves.get k = s.kln.sheaves.get k) ∧ (∀ k, (s.kln.sheaves.get k).a.en = true → (t.kln.sheaves.get k).ntcN
    = 0 ∧ (t.kln.sheaves.get k).ntcFault = false) ∧ (∀ p, (t.kln.ports.get p).sumSq = 0)) ∧
  (∀ (k : Fin 8) (s : State), policyRuns s = true → s.cyc.cn.toNat % kilnEvery s = 0 → s.kln.first = true →
    (s.kln.sheaves.get k).a.en = true → ∃ t, exec .kilnUpdate s = .next t ∧ (t.kln.sheaves.get k).dts =
    (((sheafMembers s k).map (fun p => (if s.kln.snaps = 0 then 0 else (s.kln.ports.get p).sumSq / s.kln.snaps) *
    (loopPerMetre s p).2 / 1000000)).sum * (s.kln.sheaves.get k).b.ths.toNat / 1000000 : Nat)) ∧
  (∀ (s : State), policyRuns s = false ∨ s.cyc.cn.toNat % kilnEvery s ≠ 0 → exec .kilnUpdate s = .next s)

/-- ZC_CAPTURE counts edges up to the prescaler and then captures the period and its validity; ZC_TIMEOUT ends the
validity; CYCLE_BOUNDARY advances CN and the epoch with event 225 at the wrap, takes the renumbering of a lock,
latches every slice's snapshot set, counts for the kiln and commits the entries of the cycle that begins;
TIMER_MATCH sets the match flag, and at TOP stops a one-shot timer or starts it over. -/
def Obligations.CycleClock : Prop :=
  (∀ (us : Nat) (rising : Bool) (since : Int) (s : State), s.cyc.running = false ∨ zcCounts s.cyc.cfg rising = false →
    exec (.zcCapture us rising since) s = .next s) ∧
  (∀ (us : Nat) (rising : Bool) (since : Int) (s : State), s.cyc.running = true → zcCounts s.cyc.cfg rising = true →
    s.cyc.zcEdges + 1 < (zcEvery s.cyc.cfg).1 → exec (.zcCapture us rising since) s = .next
    ({ s with cyc := { s.cyc with zcEdges := s.cyc.zcEdges + 1 } })) ∧
  (∀ (us : Nat) (rising : Bool) (since : Int) (s : State), s.cyc.running = true → zcCounts s.cyc.cfg rising = true →
    (zcEvery s.cyc.cfg).1 ≤ s.cyc.zcEdges + 1 → s.cyc.zcLast = none → exec (.zcCapture us rising since) s = .next
    ({ s with cyc := { s.cyc with zcEdges := 0, zcLast := some us } })) ∧
  (∀ (us t0 : Nat) (rising : Bool) (since : Int) (s : State), s.cyc.running = true → zcCounts s.cyc.cfg rising = true
    → (zcEvery s.cyc.cfg).1 ≤ s.cyc.zcEdges + 1 → s.cyc.zcLast = some t0 → ∃ t, exec (.zcCapture us rising since) s =
    .next t ∧ t.cyc.zcP = (us - t0) * 1000 / (zcEvery s.cyc.cfg).2 ∧ t.cyc.zcper = BitVec.ofNat 32 ((us - t0) * 1000 /
    (zcEvery s.cyc.cfg).2) ∧ t.cyc.zcLast = some us ∧ t.cyc.zcEdges = 0 ∧ t.cyc.cn = s.cyc.cn) ∧
  (∀ (us t0 : Nat) (rising : Bool) (since : Int) (s : State), s.cyc.running = true → zcCounts s.cyc.cfg rising = true
    → (zcEvery s.cyc.cfg).1 ≤ s.cyc.zcEdges + 1 → s.cyc.zcLast = some t0 → (us - t0) * 1000 / (zcEvery s.cyc.cfg).2 <
    15000000 ∨ 22500000 < (us - t0) * 1000 / (zcEvery s.cyc.cfg).2 → ∃ t, exec (.zcCapture us rising since) s = .next
    t ∧ t.cyc.zcValid = false ∧ t.cyc.zcGood = 0) ∧
  (∀ (us t0 : Nat) (rising : Bool) (since : Int) (s : State), s.cyc.running = true → s.cyc.cfg.edge = 0 →
    s.cyc.cfg.psc = 0 → rising = true → s.cyc.zcLast = some t0 → s.cyc.cfg.zcEn = true → s.cyc.zcGood = 7 → 15000000 ≤
    (us - t0) * 1000 → (us - t0) * 1000 ≤ 22500000 → s.cyc.zcP = (us - t0) * 1000 → s.syn.stat.state ≠ 2 → ∃ t, exec
    (.zcCapture us rising since) s = .next t ∧ t.cyc.zcValid = true ∧ t.cyc.src = .zc ∧ t.cyc.perr = referenceError
    (since + s.cyc.cfg.ofs.toInt * 1000) s) ∧
  (∀ (s : State), exec .zcTimeout s = .next ({ s with cyc := { s.cyc with zcValid := false, zcGood := 0 } })) ∧
  (∀ (ms : List SnapMeas) (s : State), s.cyc.running = false → exec (.cycleBoundary ms) s = .next s) ∧
  (∀ (ms : List SnapMeas) (s : State), s.cyc.running = true → s.cyc.cn + 1 ≠ 0 → s.syn.lockAt = none → s.cyc.timeSets
    = [] → ∃ t, exec (.cycleBoundary ms) s = .next t ∧ t.cyc.cn = s.cyc.cn + 1 ∧ t.cyc.epoch = s.cyc.epoch ∧
    t.cyc.snapTaken = false ∧ t.kln.cycles = s.kln.cycles + 1 ∧ t.kln.snaps = s.kln.snaps + 1 ∧ (∀ p : Port, (t.slice
    p).snap.cn = s.cyc.cn + 1 ∧ (t.slice p).snap.i =
    { iout := (ms.getD p.val {}).iout, pout := (ms.getD p.val {}).pout }) ∧ (∀ k, (s.cyc.slots.get k).st = .pending →
    (s.cyc.slots.get k).entry.tcn = s.cyc.cn + 1 → (t.cyc.slots.get k).committed = true)) ∧
  (∀ (ms : List SnapMeas) (s : State), s.cyc.running = true → s.cyc.cn + 1 ≠ 0 → s.syn.lockAt = none → s.cyc.timeSets
    = [] → wantedSource s = .internal → ∃ t, exec (.cycleBoundary ms) s = .next t ∧ t.cyc.src = .internal ∧ t.cyc.lt =
    internalLen s.cyc.cfg ∧ t.cyc.perr = 0 ∧ t.cyc.len = BitVec.ofInt 32 (nextLen
    { s.cyc with lt := internalLen s.cyc.cfg }).1) ∧
  (∀ (ms : List SnapMeas) (s : State), s.cyc.running = true → s.cyc.cn = 0xFFFFFFFF → s.syn.lockAt = none →
    s.cyc.timeSets = [] → ∃ t, exec (.cycleBoundary ms) s = .next t ∧ t.cyc.cn = 0 ∧ t.cyc.epoch = s.cyc.epoch + 1 ∧
    t.eva.raised 225 = true) ∧
  (∀ (ms : List SnapMeas) (cn : Word) (ep : BitVec 16) (s : State), s.cyc.running = true → s.cyc.cn + 1 ≠ 0 →
    s.syn.lockAt = some (cn, ep) → s.cyc.timeSets = [] → cn ≠ s.cyc.cn + 1 → ∃ t, exec (.cycleBoundary ms) s = .next t
    ∧ t.cyc.cn = cn ∧ t.cyc.epoch = ep ∧ t.cyc.renum = true ∧ t.syn.lockAt = none) ∧
  (∀ (k : Fin 8) (atTop : Bool) (s : State), (s.cyc.timers.get k).ctl.en = false → exec (.timerMatch k atTop) s =
    .next s) ∧
  (∀ (k : Fin 8) (s : State), (s.cyc.timers.get k).ctl.en = true → ∃ t, exec (.timerMatch k false) s = .next t ∧
    t.cyc.timers.get k =
    { s.cyc.timers.get k with cnt := (s.cyc.timers.get k).matchV, stat := { (s.cyc.timers.get k).stat with matchF := true } }
    ∧ (∀ j, j ≠ k → t.cyc.timers.get j = s.cyc.timers.get j)) ∧
  (∀ (k : Fin 8) (s : State), (s.cyc.timers.get k).ctl.en = true → (s.cyc.timers.get k).ctl.oneshot = true → ∃ t, exec
    (.timerMatch k true) s = .next t ∧ t.cyc.timers.get k =
    { s.cyc.timers.get k with cnt := (s.cyc.timers.get k).top, ctl := { (s.cyc.timers.get k).ctl with en := false }, stat := { (s.cyc.timers.get k).stat with ovf := true } }
    ∧ (∀ j, j ≠ k → t.cyc.timers.get j = s.cyc.timers.get j)) ∧
  (∀ (k : Fin 8) (s : State), (s.cyc.timers.get k).ctl.en = true → (s.cyc.timers.get k).ctl.oneshot = false → ∃ t,
    exec (.timerMatch k true) s = .next t ∧ t.cyc.timers.get k =
    { s.cyc.timers.get k with cnt := 0, stat := { matchF := (s.cyc.timers.get k).stat.matchF || (s.cyc.timers.get k).matchV = 0, ovf := true } }
    ∧ (∀ j, j ≠ k → t.cyc.timers.get j = s.cyc.timers.get j))

/-- SCHED_GO puts what the requester's load registers hold into a slot, or refuses it with the cause of R264;
SCHED_ABORT aborts a pending entry, marks a committed one, or answers 5; a due entry of each operation runs: Thatch
commands into the ports of its mask, host limits, the emergency test, the snapshot with event 207, and DMA starts; a
host limit waits while the hold line is asserted; an entry that is not due changes nothing. -/
def Obligations.Scheduler : Prop :=
  (∀ (q : Requester) (phase : BitVec 16) (e : SchedEntry) (s : State), e =
    { tcn := (s.cyc.banks.get (bankOf q s)).ld0, tphase := (s.cyc.banks.get (bankOf q s)).ld1.tphase, op := (s.cyc.banks.get (bankOf q s)).ld1.op, arg0 := (s.cyc.banks.get (bankOf q s)).ld2, arg1 := (s.cyc.banks.get (bankOf q s)).ld3, src := schedSrcOf (bankOf q s) }
    → submitCause e s ≠ 0 → ∃ t, exec (.schedGo q phase) s = .next t ∧ (t.cyc.banks.get (bankOf q s)).stat =
    { result := 2, cause := submitCause e s } ∧ t.cyc.slots = s.cyc.slots ∧ t.eva = s.eva) ∧
  (∀ (q : Requester) (phase : BitVec 16) (e : SchedEntry) (k : Fin 128) (s : State), e =
    { tcn := (s.cyc.banks.get (bankOf q s)).ld0, tphase := (s.cyc.banks.get (bankOf q s)).ld1.tphase, op := (s.cyc.banks.get (bankOf q s)).ld1.op, arg0 := (s.cyc.banks.get (bankOf q s)).ld2, arg1 := (s.cyc.banks.get (bankOf q s)).ld3, src := schedSrcOf (bankOf q s) }
    → submitCause e s = 0 → slotFor s = some k → ∃ t, exec (.schedGo q phase) s = .next t ∧ t.cyc.slots.get k =
    { st := .pending, gen := (s.cyc.slots.get k).gen + 1, entry := e, late := pastDue e s.cyc.cn phase, order := s.cyc.orders }
    ∧ (∀ j, j ≠ k → t.cyc.slots.get j = s.cyc.slots.get j) ∧ t.cyc.orders = s.cyc.orders + 1 ∧ (t.cyc.banks.get
    (bankOf q s)).stat =
    { result := 1, late := pastDue e s.cyc.cn phase, handle := BitVec.ofNat 15 (((s.cyc.slots.get k).gen + 1).toNat * 128 + k.val) }) ∧
  (∀ (q : Requester) (h : BitVec 15) (k : Fin 128) (s : State), abortResult (bankOf q s) h s = (3, some k) → ∃ t, exec
    (.schedAbort q h) s = .next t ∧ t.cyc.slots.get k =
    { s.cyc.slots.get k with st := .aborted, order := s.cyc.orders } ∧ (∀ j, j ≠ k → t.cyc.slots.get j =
    s.cyc.slots.get j) ∧ (t.cyc.banks.get (bankOf q s)).stat.result = 3 ∧ t.cyc.orders = s.cyc.orders + 1) ∧
  (∀ (q : Requester) (h : BitVec 15) (k : Fin 128) (s : State), abortResult (bankOf q s) h s = (4, some k) → ∃ t, exec
    (.schedAbort q h) s = .next t ∧ t.cyc.slots.get k = { s.cyc.slots.get k with abortLate := true } ∧ (∀ j, j ≠ k →
    t.cyc.slots.get j = s.cyc.slots.get j) ∧ (t.cyc.banks.get (bankOf q s)).stat.result = 4) ∧
  (∀ (q : Requester) (h : BitVec 15) (s : State), abortResult (bankOf q s) h s = (5, none) → ∃ t, exec (.schedAbort q
    h) s = .next t ∧ t.cyc.slots = s.cyc.slots ∧ (t.cyc.banks.get (bankOf q s)).stat.result = 5) ∧
  (∀ (k : Fin 128) (p : Port) (s : State), (s.cyc.slots.get k).st = .pending → (s.cyc.slots.get k).entry.op = 1 →
    (s.cyc.slots.get k).committed = true → (s.cyc.slots.get k).entry.arg0.getLsbD p.val = true → ∃ t, exec
    (.thatchCommand k) s = .next t ∧ (t.cyc.slots.get k).st = .done ∧ (t.cyc.slots.get k).ranCn = s.cyc.cn ∧
    (t.cyc.slots.get k).late = (s.cyc.slots.get k).late ∧ (t.slice p).th = (thScheduled (getField (s.cyc.slots.get
    k).entry.arg0 24 8 : BitVec 8).toNat (s.cyc.slots.get k).entry.arg1 (k, (s.cyc.slots.get k).gen) (s.slice
    p).th).1) ∧
  (∀ (k : Fin 128) (p : Port) (s : State), (s.cyc.slots.get k).st = .pending → (s.cyc.slots.get k).entry.op = 1 →
    (s.cyc.slots.get k).committed = true → (s.cyc.slots.get k).entry.arg0.getLsbD p.val = false → ∃ t, exec
    (.thatchCommand k) s = .next t ∧ t.slice p = s.slice p) ∧
  (∀ (k : Fin 128) (s : State), (s.cyc.slots.get k).st = .pending → (s.cyc.slots.get k).entry.op = 2 →
    (s.cyc.slots.get k).committed = true → s.sup.hold = false → (s.cyc.slots.get k).res = 0 → ∃ t, exec (.hostLimit k)
    s = .next t ∧ (t.cyc.slots.get k).st = .done ∧ (t.cyc.slots.get k).res = 1 ∧ (∀ p : Port, (s.cyc.slots.get
    k).entry.arg0.getLsbD p.val = true → (t.bud.ports.get p).pcfg.hlim = getField (s.cyc.slots.get k).entry.arg1 0 9)
    ∧ (∀ p : Port, (s.cyc.slots.get k).entry.arg0.getLsbD p.val = false → t.bud.ports.get p = s.bud.ports.get p)) ∧
  (∀ (k : Fin 128) (s : State), (s.cyc.slots.get k).st = .pending → (s.cyc.slots.get k).entry.op = 2 →
    (s.cyc.slots.get k).committed = true → s.sup.hold = true → ∃ t, exec (.hostLimit k) s = .next t ∧ t.cyc.slots.get
    k = { s.cyc.slots.get k with st := .waiting, ranCn := s.cyc.cn } ∧ t.bud = s.bud ∧ t.sup = s.sup) ∧
  (∀ (k : Fin 128) (s : State), (s.cyc.slots.get k).st = .pending → (s.cyc.slots.get k).entry.op = 3 →
    (s.cyc.slots.get k).committed = true → (s.cyc.slots.get k).res = 0 → etestRefused (getField (s.cyc.slots.get
    k).entry.arg1 0 2) s = false → ∃ t, exec (.emergencyTest k) s = .next t ∧ (t.cyc.slots.get k).st = .done ∧
    (t.cyc.slots.get k).res = 1 ∧ t.sup.etst = true ∧ t.sup.active = .backup ∧ t.sup.etres.state = 1 ∧ t.eva.raised
    199 = true) ∧
  (∀ (k : Fin 128) (s : State), (s.cyc.slots.get k).st = .pending → (s.cyc.slots.get k).entry.op = 3 →
    (s.cyc.slots.get k).committed = true → etestRefused (getField (s.cyc.slots.get k).entry.arg1 0 2) s = true → ∃ t,
    exec (.emergencyTest k) s = .next t ∧ (t.cyc.slots.get k).st = .done ∧ (t.cyc.slots.get k).res = 3 ∧ t.sup =
    { s.sup with etres := { s.sup.etres with state := 5, cause := 7 } }) ∧
  (∀ (k : Fin 128) (s : State), (s.cyc.slots.get k).st = .pending → (s.cyc.slots.get k).entry.op = 4 →
    (s.cyc.slots.get k).committed = true → s.cyc.snapTaken = false → ∃ t, exec (.snapshot k) s = .next t ∧
    (t.cyc.slots.get k).st = .done ∧ t.cyc.snapCn = s.cyc.cn ∧ t.cyc.snapSeq = s.cyc.snapSeq + 1 ∧ t.cyc.snapTaken =
    true ∧ (∀ p, (t.slice p).hold = (s.slice p).snap ∧ (t.slice p).snap = (s.slice p).snap) ∧ t.eva.raised 207 = true) ∧
  (∀ (k : Fin 128) (s : State), (s.cyc.slots.get k).st = .pending → (s.cyc.slots.get k).entry.op = 4 →
    (s.cyc.slots.get k).committed = true → s.cyc.snapTaken = true → ∃ t, exec (.snapshot k) s = .next t ∧
    (t.cyc.slots.get k).st = .done ∧ t.cyc.snapCn = s.cyc.snapCn ∧ t.cyc.snapSeq = s.cyc.snapSeq ∧ t.slices =
    s.slices) ∧
  (∀ (k : Fin 128) (c : Fin 16) (s : State), (s.cyc.slots.get k).st = .pending → (s.cyc.slots.get k).entry.op = 5 →
    (s.cyc.slots.get k).committed = true → (s.cyc.slots.get k).entry.arg0.getLsbD c.val = true → ∃ t, exec
    (.dmaTrigger k) s = .next t ∧ (t.cyc.slots.get k).st = .done ∧ t.dma.get c = (if (s.dma.get c).ownedBy (schedBank
    (s.cyc.slots.get k).entry.src) then (s.dma.get c).start else s.dma.get c)) ∧
  (∀ (k : Fin 128) (c : Fin 16) (s : State), (s.cyc.slots.get k).st = .pending → (s.cyc.slots.get k).entry.op = 5 →
    (s.cyc.slots.get k).committed = true → (s.cyc.slots.get k).entry.arg0.getLsbD c.val = false → ∃ t, exec
    (.dmaTrigger k) s = .next t ∧ (t.cyc.slots.get k).st = .done ∧ t.dma.get c = s.dma.get c) ∧
  (∀ (k : Fin 128) (s : State), (s.cyc.slots.get k).st ≠ .pending ∨ (s.cyc.slots.get k).committed = false → exec
    (.thatchCommand k) s = .next s) ∧
  (∀ (k : Fin 128) (s : State), (s.cyc.slots.get k).st ≠ .pending ∨ (s.cyc.slots.get k).committed = false → exec
    (.hostLimit k) s = .next s) ∧
  (∀ (k : Fin 128) (s : State), (s.cyc.slots.get k).st ≠ .pending ∨ (s.cyc.slots.get k).committed = false → exec
    (.emergencyTest k) s = .next s) ∧
  (∀ (k : Fin 128) (s : State), (s.cyc.slots.get k).st ≠ .pending ∨ (s.cyc.slots.get k).committed = false → exec
    (.snapshot k) s = .next s) ∧
  (∀ (k : Fin 128) (s : State), (s.cyc.slots.get k).st ≠ .pending ∨ (s.cyc.slots.get k).committed = false → exec
    (.dmaTrigger k) s = .next s)

/-- SLASELINE_TICK counts a foreign frame, reports a second master with event 203, counts towards lock and locks at
the eighth tick with event 204, and clears the misses of a locked hub; TICK_MISSED counts and loses the lock at
eight with event 203. -/
def Obligations.SlaseLine : Prop :=
  (∀ (k : SynTick) (ns since : Int) (tx : Bool) (s : State), s.syn.cfg.en = false ∨ s.syn.stat.state = 0 → exec
    (.slaselineTick k ns since tx) s = .next s) ∧
  (∀ (k : SynTick) (ns since : Int) (tx : Bool) (s : State), s.syn.cfg.en = true → s.syn.stat.state ≠ 0 → k.dom ≠
    s.syn.cfg2.dom → exec (.slaselineTick k ns since tx) s = .next
    ({ s with syn := { s.syn with cnt := { s.syn.cnt with foreign := satInc s.syn.cnt.foreign } } })) ∧
  (∀ (k : SynTick) (ns since : Int) (s : State), s.syn.cfg.en = true → s.syn.stat.state = 4 → k.dom = s.syn.cfg2.dom →
    ∃ t, exec (.slaselineTick k ns since false) s = .next t ∧ t.syn =
    { s.syn with stat := { s.syn.stat with conflict := true, state := if (k.maddr.setWidth 14 : BitVec 14).toNat < s.syn.cfg.addr.toNat then 5 else 4 } }
    ∧ t.eva.raised 203 = true) ∧
  (∀ (k : SynTick) (ns since : Int) (s : State), s.syn.cfg.en = true → s.syn.stat.state = 4 → k.dom = s.syn.cfg2.dom →
    exec (.slaselineTick k ns since true) s = .next s) ∧
  (∀ (k : SynTick) (ns since : Int) (tx : Bool) (s : State), s.syn.cfg.en = true → s.syn.stat.state = 1 → k.dom =
    s.syn.cfg2.dom → k.cn ≠ s.syn.lastCn + 1 → ∃ t, exec (.slaselineTick k ns since tx) s = .next t ∧ t.syn =
    { s.syn with run := 1, intervals := [], lastCn := k.cn, lastT := ns - (s.syn.cfg2.dly.toNat * 1000 : Nat), stat := { s.syn.stat with state := 1 } }) ∧
  (∀ (k : SynTick) (ns since : Int) (tx : Bool) (s : State), s.syn.cfg.en = true → s.syn.stat.state = 1 → k.dom =
    s.syn.cfg2.dom → k.cn = s.syn.lastCn + 1 → s.syn.run = 7 → s.syn.cfg2.dly = 0 → 15000000 ≤ ns - s.syn.lastT → ns -
    s.syn.lastT ≤ 22500000 → ∃ t, exec (.slaselineTick k ns since tx) s = .next t ∧ t.syn.stat.state = 2 ∧
    t.syn.stat.miss = 0 ∧ t.syn.run = 8 ∧ t.syn.lastCn = k.cn ∧ t.syn.lockAt.isSome = true ∧ t.eva.raised 204 = true) ∧
  (∀ (k : SynTick) (ns : Int) (tx : Bool) (s : State), s.syn.cfg.en = true → s.syn.stat.state = 2 → k.dom =
    s.syn.cfg2.dom → k.cn = s.cyc.cn → s.syn.cfg2.dly = 0 → s.cyc.len = 0x3D090000 → ∃ t, exec (.slaselineTick k ns 0
    tx) s = .next t ∧ t.syn.stat = { s.syn.stat with miss := 0 } ∧ t.syn.lastCn = k.cn ∧ t.syn.lastT = ns) ∧
  (∀ (s : State), s.syn.stat.state ≠ 2 → exec .tickMissed s = .next s) ∧
  (∀ (s : State), s.syn.stat.state = 2 → s.syn.stat.miss.toNat < 7 → exec .tickMissed s = .next
    ({ s with syn := { s.syn with stat := { s.syn.stat with miss := s.syn.stat.miss + 1 } } })) ∧
  (∀ (s : State), s.syn.stat.state = 2 → s.syn.stat.miss = 7 → ∃ t, exec .tickMissed s = .next t ∧ t.syn.stat.state =
    3 ∧ t.syn.stat.miss = 8 ∧ t.syn.run = 0 ∧ t.syn.intervals = [] ∧ t.eva.raised 203 = true)

/-- SCHEDULE, SNAPSHOT_FRAME and TIME_SET act once on a command of the hub's own domain, count a repeat, and count a
refused entry; SYN_GO queues a command or refuses it with its cause, SYN_COMMAND_SEND sends or discards the oldest
one; SLASELINE_BAD_FRAME and SYN_CNT_CLEAR move the counters. -/
def Obligations.HubCommands : Prop :=
  (∀ (a : SynAddr) (tcn : Word) (tphase : BitVec 16) (op : Byte) (arg0 arg1 : Word) (phase : BitVec 16) (k : Fin 128)
    (s : State), a.dom = s.syn.cfg2.dom → s.syn.stat.state = 2 → synAddressed a.akind.toNat a.addr.toNat s = true →
    s.syn.acted.contains a.cmd = false → submitCause
    { tcn := tcn, tphase := tphase, op := op, arg0 := arg0, arg1 := arg1, src := .slase, cmd := a.cmd } s = 0 →
    slotFor s = some k → ∃ t, exec (.schedule a tcn tphase op arg0 arg1 phase) s = .next t ∧ (t.cyc.slots.get k).st =
    .pending ∧ (t.cyc.slots.get k).entry =
    { tcn := tcn, tphase := tphase, op := op, arg0 := arg0, arg1 := arg1, src := .slase, cmd := a.cmd } ∧ t.syn =
    { s.syn with acted := (a.cmd :: s.syn.acted).take 64 }) ∧
  (∀ (a : SynAddr) (tcn : Word) (tphase : BitVec 16) (op : Byte) (arg0 arg1 : Word) (phase : BitVec 16) (s : State),
    a.dom = s.syn.cfg2.dom → s.syn.stat.state = 2 → synAddressed a.akind.toNat a.addr.toNat s = true →
    s.syn.acted.contains a.cmd = false → submitCause
    { tcn := tcn, tphase := tphase, op := op, arg0 := arg0, arg1 := arg1, src := .slase, cmd := a.cmd } s ≠ 0 → exec
    (.schedule a tcn tphase op arg0 arg1 phase) s = .next
    ({ s with syn := { s.syn with acted := (a.cmd :: s.syn.acted).take 64, cnt := { s.syn.cnt with drop := satInc s.syn.cnt.drop } } })) ∧
  (∀ (a : SynAddr) (tcn : Word) (tphase : BitVec 16) (op : Byte) (arg0 arg1 : Word) (phase : BitVec 16) (s : State),
    a.dom = s.syn.cfg2.dom → s.syn.stat.state = 2 → synAddressed a.akind.toNat a.addr.toNat s = true →
    s.syn.acted.contains a.cmd = true → exec (.schedule a tcn tphase op arg0 arg1 phase) s = .next
    ({ s with syn := { s.syn with cnt := { s.syn.cnt with dup := satInc s.syn.cnt.dup } } })) ∧
  (∀ (a : SynAddr) (tcn : Word) (tphase : BitVec 16) (op : Byte) (arg0 arg1 : Word) (phase : BitVec 16) (s : State),
    a.dom = s.syn.cfg2.dom → s.syn.stat.state ≠ 2 ∨ synAddressed a.akind.toNat a.addr.toNat s = false → exec
    (.schedule a tcn tphase op arg0 arg1 phase) s = .next s) ∧
  (∀ (a : SynAddr) (tcn : Word) (phase : BitVec 16) (k : Fin 128) (s : State), a.dom = s.syn.cfg2.dom →
    s.syn.stat.state = 2 → synAddressed a.akind.toNat a.addr.toNat s = true → s.syn.acted.contains a.cmd = false →
    pendingCount s < 128 → slotFor s = some k → ∃ t, exec (.snapshotFrame a tcn phase) s = .next t ∧ (t.cyc.slots.get
    k).st = .pending ∧ (t.cyc.slots.get k).entry =
    { tcn := tcn, tphase := 0, op := 4, arg0 := 0, arg1 := 0, src := .slase, cmd := a.cmd } ∧ t.syn =
    { s.syn with acted := (a.cmd :: s.syn.acted).take 64 }) ∧
  (∀ (a : SynAddr) (tcn : Word) (phase : BitVec 16) (s : State), a.dom ≠ s.syn.cfg2.dom → exec (.snapshotFrame a tcn
    phase) s = .next ({ s with syn := { s.syn with cnt := { s.syn.cnt with foreign := satInc s.syn.cnt.foreign } } })) ∧
  (∀ (dom : BitVec 16) (cmd : Word) (ts : TimeSet) (s : State), dom = s.syn.cfg2.dom → s.syn.stat.state = 2 →
    s.syn.acted.contains cmd = false → exec (.timeSet dom cmd ts) s = .next
    ({ s with syn := { s.syn with acted := (cmd :: s.syn.acted).take 64 }, cyc := { s.cyc with timeSets := ts :: s.cyc.timeSets } })) ∧
  (∀ (dom : BitVec 16) (cmd : Word) (ts : TimeSet) (s : State), dom = s.syn.cfg2.dom → s.syn.stat.state ≠ 2 → exec
    (.timeSet dom cmd ts) s = .next s) ∧
  (∀ (s : State), exec (.slaselineBadFrame true) s = .next
    ({ s with syn := { s.syn with cnt := { s.syn.cnt with foreign := satInc s.syn.cnt.foreign } } })) ∧
  (∀ (s : State), exec (.slaselineBadFrame false) s = .next
    ({ s with syn := { s.syn with cnt := { s.syn.cnt with bad := satInc s.syn.cnt.bad } } })) ∧
  (∀ (q : Requester) (s : State), synCause (synCmdOf (bankOf q s) s) (s.syn.banks.get (bankOf q s)).tx0.asap s ≠ 0 → ∃
    t, exec (.synGo q) s = .next t ∧ (t.syn.banks.get (bankOf q s)).stat.result = 3 ∧ (t.syn.banks.get (bankOf q
    s)).stat.cause = synCause (synCmdOf (bankOf q s) s) (s.syn.banks.get (bankOf q s)).tx0.asap s ∧ t.syn.queue =
    s.syn.queue ∧ t.syn.nextId = s.syn.nextId) ∧
  (∀ (q : Requester) (s : State), synCause (synCmdOf (bankOf q s) s) (s.syn.banks.get (bankOf q s)).tx0.asap s = 0 → ∃
    t, exec (.synGo q) s = .next t ∧ (t.syn.banks.get (bankOf q s)).stat.result = 1 ∧ (t.syn.banks.get (bankOf q
    s)).stat.cause = 0 ∧ (t.syn.banks.get (bankOf q s)).cmd = s.syn.nextId ∧ t.syn.queue = s.syn.queue ++ [synCmdOf
    (bankOf q s) s] ∧ t.syn.nextId = s.syn.nextId + 1) ∧
  (∀ (s : State), s.syn.queue = [] → exec .synCommandSend s = .next s) ∧
  (∀ (c : SynCmd) (rest : List SynCmd) (s : State), s.syn.queue = c :: rest → s.syn.stat.state ≠ 4 ∨ leadShort c s =
    true → ∃ t, exec .synCommandSend s = .next t ∧ t.syn.queue = rest ∧ t.syn.open_ = s.syn.open_.filter (fun o => o.1
    != c.id) ∧ (t.syn.banks.get c.bank).stat.result = 4 ∧ t.syn.line = s.syn.line ∧ t.cyc = s.cyc) ∧
  (∀ (c : SynCmd) (rest : List SynCmd) (s : State), s.syn.queue = c :: rest → s.syn.stat.state = 4 → leadShort c s =
    false → ∃ t, exec .synCommandSend s = .next t ∧ t.syn.queue = rest ∧ (t.syn.banks.get c.bank).stat.result = 2 ∧
    t.syn.line = [commandFrame c 2 s, commandFrame c 1 s, commandFrame c 0 s] ∧ t.syn.open_ = s.syn.open_) ∧
  (∀ (s : State), exec .synCntClear s = .next ({ s with syn := { s.syn with cnt := {} } }))

/-- THATCH_DISCOVERY_START, DISCOVER_SVIDS_ACK, DISCOVER_MODES_ACK and ENTER_MODE_ACK take the link from STATE 0
through 1 and 2 to 3, each step sending its Structured VDM; an SVID list without Thatch ends discovery, and an
answer other than one mode VDO of MAJOR 1 and a NAK give STATE 6. -/
def Obligations.ThatchEntry : Prop :=
  (∀ (p : Port) (s : State), thDiscoverable (s.slice p) = true → (s.slice p).pd.inflight.isSome = true → carries
    (s.slice p) { ctx := .sop, kind := .vdm pdSid .discoverIdentity .req, prio := .ams } = true → ∃ t, exec
    (.thatchDiscoveryStart p) s = .next t ∧ (t.slice p).th.step = .identity ∧ (t.slice p).th.thstat =
    { (s.slice p).th.thstat with state := 1 } ∧ (t.slice p).pd.ready = (s.slice p).pd.ready ++
    [{ ctx := .sop, kind := .vdm pdSid .discoverIdentity .req, prio := .ams }]) ∧
  (∀ (p : Port) (s : State), thDiscoverable (s.slice p) = false → exec (.thatchDiscoveryStart p) s = .next s) ∧
  (∀ (p : Port) (l : List (BitVec 16)) (s : State), (s.slice p).th.step = .svids → l.contains thatchSvid = true →
    (s.slice p).pd.inflight.isSome = true → carries (s.slice p)
    { ctx := .sop, kind := .vdm thatchSvid .discoverModes .req, prio := .ams } = true → ∃ t, exec (.discoverSvidsAck p
    l) s = .next t ∧ (t.slice p).th.step = .modes ∧ (t.slice p).th.thstat = { (s.slice p).th.thstat with state := 1 }
    ∧ (t.slice p).pd.ready = (s.slice p).pd.ready ++
    [{ ctx := .sop, kind := .vdm thatchSvid .discoverModes .req, prio := .ams }]) ∧
  (∀ (p : Port) (l : List (BitVec 16)) (s : State), (s.slice p).th.step = .svids → l.contains thatchSvid = false → ∃
    t, exec (.discoverSvidsAck p l) s = .next t ∧ (t.slice p).th =
    { (s.slice p).th with step := .idle, noMore := true, thstat := { (s.slice p).th.thstat with state := 0 } } ∧
    (t.slice p).pd = (s.slice p).pd) ∧
  (∀ (p : Port) (l : List (BitVec 16)) (s : State), (s.slice p).th.step ≠ .svids → exec (.discoverSvidsAck p l) s =
    .next s) ∧
  (∀ (p : Port) (v : Word) (s : State), (s.slice p).th.step = .modes → (getField v 4 4 : BitVec 4) = 1 → (s.slice
    p).pd.inflight.isSome = true → carries (s.slice p)
    { ctx := .sop, kind := .vdm thatchSvid .enterMode .req, prio := .ams, words := [thEnterVdo (s.slice p).th.thcfg v] }
    = true → ∃ t, exec (.discoverModesAck p [v]) s = .next t ∧ (t.slice p).th.step = .enter ∧ (t.slice p).th.thstat =
    { (s.slice p).th.thstat with state := 2 } ∧ (t.slice p).th.thvdo = v ∧ (t.slice p).th.enterTries = 1 ∧ (t.slice
    p).pd.ready = (s.slice p).pd.ready ++
    [{ ctx := .sop, kind := .vdm thatchSvid .enterMode .req, prio := .ams, words := [thEnterVdo (s.slice p).th.thcfg v] }]) ∧
  (∀ (p : Port) (v : Word) (s : State), (s.slice p).th.step = .modes → (getField v 4 4 : BitVec 4) ≠ 1 → ∃ t, exec
    (.discoverModesAck p [v]) s = .next t ∧ (t.slice p).th =
    { (s.slice p).th with step := .idle, thvdo := v, enterTries := 0, thstat := { (s.slice p).th.thstat with state := 6 } }
    ∧ (t.slice p).pd = (s.slice p).pd) ∧
  (∀ (p : Port) (l : List Word) (s : State), (s.slice p).th.step = .modes → l.length ≠ 1 → ∃ t, exec
    (.discoverModesAck p l) s = .next t ∧ (t.slice p).th =
    { (s.slice p).th with step := .idle, thstat := { (s.slice p).th.thstat with state := 6 } } ∧ (t.slice p).pd =
    (s.slice p).pd) ∧
  (∀ (p : Port) (s : State), (s.slice p).th.step = .enter → ∃ t, exec (.enterModeAck p .ack) s = .next t ∧ (t.slice
    p).th.step = .idle ∧ (t.slice p).th.queue = [] ∧ (t.slice p).th.settled = false ∧ (t.slice p).th.thstat =
    { (s.slice p).th.thstat with state := 3, ver := thAgreedVer (s.slice p).th.thcfg (s.slice p).th.thvdo, caps := thAgreedCaps (s.slice p).th.thcfg (s.slice p).th.thvdo }
    ∧ (t.slice p).pins = { (s.slice p).pins with sbu := .thatch }) ∧
  (∀ (p : Port) (s : State), (s.slice p).th.step = .enter → ∃ t, exec (.enterModeAck p .nak) s = .next t ∧ (t.slice
    p).th = { (s.slice p).th with step := .idle, thstat := { (s.slice p).th.thstat with state := 6 } } ∧ (t.slice
    p).pins = (s.slice p).pins) ∧
  (∀ (p : Port) (s : State), (s.slice p).th.step = .enter → (s.slice p).pd.busyCount < nBusyCount → ∃ t, exec
    (.enterModeAck p .busy) s = .next t ∧ (t.slice p).th = (s.slice p).th ∧ (t.slice p).pd.busyCount = (s.slice
    p).pd.busyCount + 1) ∧
  (∀ (p : Port) (s : State), (s.slice p).th.step = .enter → nBusyCount ≤ (s.slice p).pd.busyCount → ∃ t, exec
    (.enterModeAck p .busy) s = .next t ∧ (t.slice p).th =
    { (s.slice p).th with step := .idle, thstat := { (s.slice p).th.thstat with state := 6 } }) ∧
  (∀ (p : Port) (a : VdmType) (s : State), (s.slice p).th.step ≠ .enter → exec (.enterModeAck p a) s = .next s)

/-- ENTER_MODE_TIMEOUT tries again or gives STATE 6; LINK_SETTLE_END lets the polls begin; VDM_RESPONSE_TIMEOUT goes
on without the answer; each changes nothing where its timer does not run. -/
def Obligations.ThatchTimers : Prop :=
  (∀ (p : Port) (s : State), (s.slice p).th.step = .enter → (s.slice p).th.enterTries < 3 → ∃ t, exec
    (.enterModeTimeout p) s = .next t ∧ (t.slice p).th =
    { (s.slice p).th with enterTries := (s.slice p).th.enterTries + 1, thstat := { (s.slice p).th.thstat with state := 2 } }) ∧
  (∀ (p : Port) (s : State), (s.slice p).th.step = .enter → 3 ≤ (s.slice p).th.enterTries → ∃ t, exec
    (.enterModeTimeout p) s = .next t ∧ (t.slice p).th =
    { (s.slice p).th with step := .idle, thstat := { (s.slice p).th.thstat with state := 6 } } ∧ (t.slice p).pd =
    (s.slice p).pd) ∧
  (∀ (p : Port) (s : State), (s.slice p).th.thstat.state = 3 → ∃ t, exec (.linkSettleEnd p) s = .next t ∧ (t.slice
    p).th = { (s.slice p).th with settled := true } ∧ (t.slice p).pd = (s.slice p).pd) ∧
  (∀ (p : Port) (s : State), (s.slice p).th.thstat.state ≠ 3 → exec (.linkSettleEnd p) s = .next s) ∧
  (∀ (p : Port) (s : State), (s.slice p).th.step = .identity → ∃ t, exec (.vdmResponseTimeout p) s = .next t ∧
    (t.slice p).th.step = .svids ∧ (t.slice p).th.thstat = { (s.slice p).th.thstat with state := 1 } ∧ (t.slice p).gr
    = (s.slice p).gr) ∧
  (∀ (p : Port) (s : State), (s.slice p).th.step = .svids → ∃ t, exec (.vdmResponseTimeout p) s = .next t ∧ (t.slice
    p).th =
    { (s.slice p).th with step := .idle, noMore := true, thstat := { (s.slice p).th.thstat with state := 0 } }) ∧
  (∀ (p : Port) (s : State), (s.slice p).th.step = .modes → ∃ t, exec (.vdmResponseTimeout p) s = .next t ∧ (t.slice
    p).th = { (s.slice p).th with step := .idle, thstat := { (s.slice p).th.thstat with state := 6 } }) ∧
  (∀ (p : Port) (s : State), (s.slice p).th.step = .exiting → ∃ t, exec (.vdmResponseTimeout p) s = .next t ∧ (t.slice
    p).th = { (s.slice p).th with step := .idle }) ∧
  (∀ (p : Port) (s : State), (s.slice p).th.step = .idle → exec (.vdmResponseTimeout p) s = .next s)

/-- A REPORT that answers a POLL writes the report registers and brings the link up with STATE 4 and event 8n + 4; one
that answers a command takes it out of the queue; a missing or bad frame is counted and ends the exchange, and drops
a command sent three times; THATCH_LINK_LOST gives STATE 5, THATCH_GIVE_UP STATE 0 with a re-entry or STATE 6 after
three, THATCH_REENTRY starts again from Discover Modes; THATCH_EXIT drops the queue, disconnects the mux and sends
Exit Mode, and THATCH_REENTER ends STATE 6. -/
def Obligations.ThatchLink : Prop :=
  (∀ (p : Port) (q : BitVec 4) (r : ThReport) (phase : BitVec 16) (s : State), (s.slice p).th.out = none → exec
    (.report p q r phase) s = .next s) ∧
  (∀ (p : Port) (r : ThReport) (phase : BitVec 16) (s : State), (s.slice p).th.out = some 0 → (s.slice
    p).th.thstat.state = 3 ∨ (s.slice p).th.thstat.state = 5 → ∃ t, exec (.report p 0 r phase) s = .next t ∧ (t.slice
    p).th.thstat.state = 4 ∧ (t.slice p).th.missPolls = 0 ∧ (t.slice p).th.rep0 = { vin := r.vin, iin := r.iin } ∧
    (t.slice p).th.rep1 = { tled := r.tled, dim := r.dim, emg := r.emg } ∧ (t.slice p).th.rep2 =
    { fault := r.fault, flags := r.flags, batt := r.batt, cnl := r.cnl } ∧ (t.slice p).th.lastFlags = r.flags ∧
    (t.slice p).th.thstat.emgscn = r.flags.getLsbD 3 ∧ t.eva.raised (8 * p.val + 4) = true) ∧
  (∀ (p : Port) (q : BitVec 4) (r : ThReport) (phase : BitVec 16) (s : State), (s.slice p).th.out = some q → q ≠ 0 →
    0xE000 < phase.toNat → (s.slice p).th.held = none → (s.slice p).th.thstat.fegnt = false → ∃ t, exec (.report p q r
    phase) s = .next t ∧ (t.slice p).th.queue = (s.slice p).th.queue.filter (fun c => !(c.seq == some q)) ∧ (t.slice
    p).th.out = none ∧ (t.slice p).th.rep0 = (s.slice p).th.rep0 ∧ (t.slice p).th.missPolls = (s.slice
    p).th.missPolls) ∧
  (∀ (p : Port) (phase : BitVec 16) (s : State), (s.slice p).th.out = some 0 → 0xE000 < phase.toNat → ∃ t, exec
    (.thatchNoResponse p phase) s = .next t ∧ (t.slice p).th =
    { (s.slice p).th with out := none, thcnt := { (s.slice p).th.thcnt with noresp := satInc (s.slice p).th.thcnt.noresp } }) ∧
  (∀ (p : Port) (q : BitVec 4) (c : ThCmd) (phase : BitVec 16) (s : State), (s.slice p).th.out = some q → q ≠ 0 →
    (s.slice p).th.queue = [c] → c.seq = some q → 3 ≤ c.tries → ∃ t, exec (.thatchNoResponse p phase) s = .next t ∧
    (t.slice p).th.queue = [] ∧ (t.slice p).th.out = none ∧ (t.slice p).th.thcnt =
    { (s.slice p).th.thcnt with noresp := satInc (s.slice p).th.thcnt.noresp, drop := satInc (s.slice p).th.thcnt.drop }) ∧
  (∀ (p : Port) (phase : BitVec 16) (s : State), (s.slice p).th.out = none → exec (.thatchNoResponse p phase) s =
    .next s) ∧
  (∀ (p : Port) (phase : BitVec 16) (s : State), (s.slice p).th.out = none → ∃ t, exec (.thatchBadFrame p phase) s =
    .next t ∧ (t.slice p).th =
    { (s.slice p).th with thcnt := { (s.slice p).th.thcnt with badcrc := satInc (s.slice p).th.thcnt.badcrc } } ∧
    (t.slice p).pd = (s.slice p).pd ∧ t.cyc = s.cyc) ∧
  (∀ (p : Port) (phase : BitVec 16) (s : State), (s.slice p).th.out = some 0 → 0xE000 < phase.toNat → ∃ t, exec
    (.thatchBadFrame p phase) s = .next t ∧ (t.slice p).th =
    { (s.slice p).th with out := none, thcnt := { (s.slice p).th.thcnt with badcrc := satInc (s.slice p).th.thcnt.badcrc } }) ∧
  (∀ (p : Port) (s : State), 16 ≤ (s.slice p).th.missPolls → (s.slice p).th.thstat.state = 3 ∨ (s.slice
    p).th.thstat.state = 4 → ∃ t, exec (.thatchLinkLost p) s = .next t ∧ (t.slice p).th.thstat.state = 5 ∧
    t.eva.raised (8 * p.val + 4) = true) ∧
  (∀ (p : Port) (s : State), (s.slice p).th.missPolls < 16 → exec (.thatchLinkLost p) s = .next s) ∧
  (∀ (p : Port) (s : State), 64 ≤ (s.slice p).th.missPolls → (s.slice p).th.thstat.state = 5 → (s.slice
    p).th.thstat.reent.toNat < 3 → ∃ t, exec (.thatchGiveUp p) s = .next t ∧ (t.slice p).th.thstat.state = 0 ∧
    (t.slice p).th.reenter = true ∧ (t.slice p).th.queue = [] ∧ (t.slice p).th.step = .exiting ∧ t.eva.raised (8 *
    p.val + 4) = true) ∧
  (∀ (p : Port) (s : State), 64 ≤ (s.slice p).th.missPolls → (s.slice p).th.thstat.state = 5 → (s.slice
    p).th.thstat.reent = 3 → ∃ t, exec (.thatchGiveUp p) s = .next t ∧ (t.slice p).th.thstat.state = 6 ∧ (t.slice
    p).th.reenter = false ∧ (t.slice p).th.queue = [] ∧ t.eva.raised (8 * p.val + 4) = true) ∧
  (∀ (p : Port) (s : State), (s.slice p).th.missPolls < 64 → exec (.thatchGiveUp p) s = .next s) ∧
  (∀ (p : Port) (s : State), (s.slice p).th.reenter = true → ∃ t, exec (.thatchReentry p) s = .next t ∧ (t.slice p).th
    =
    { (s.slice p).th with reenter := false, step := .modes, thstat := { (s.slice p).th.thstat with reent := (s.slice p).th.thstat.reent + 1, state := 1 } }) ∧
  (∀ (p : Port) (s : State), (s.slice p).th.reenter = false → exec (.thatchReentry p) s = .next s) ∧
  (∀ (p : Port) (s : State), (s.slice p).th.thstat.state = 3 ∨ (s.slice p).th.thstat.state = 4 ∨ (s.slice
    p).th.thstat.state = 5 → (s.slice p).pd.inflight.isSome = true → (s.slice p).pins.sbu = .thatch → carries (s.slice
    p) { ctx := .sop, kind := .vdm thatchSvid .exitMode .req, prio := .ams } = true → ∃ t, exec (.thatchExit p) s =
    .next t ∧ (t.slice p).th.thstat.state = 0 ∧ (t.slice p).th.step = .exiting ∧ (t.slice p).th.queue = [] ∧ (t.slice
    p).th.thstat.fegnt = false ∧ (t.slice p).th.thctl = (s.slice p).th.thctl ∧ (t.slice p).pins.sbu = .highZ ∧
    (t.slice p).pd.ready = (s.slice p).pd.ready ++
    [{ ctx := .sop, kind := .vdm thatchSvid .exitMode .req, prio := .ams }] ∧ t.eva.raised (8 * p.val + 4) = true) ∧
  (∀ (p : Port) (s : State), (s.slice p).th.thstat.state = 0 → exec (.thatchExit p) s = .next s) ∧
  (∀ (p : Port) (s : State), (s.slice p).th.thstat.state = 6 → ∃ t, exec (.thatchReenter p) s = .next t ∧ (t.slice
    p).th =
    { (s.slice p).th with noMore := false, reenter := false, thstat := { (s.slice p).th.thstat with state := 0, reent := 0 } }
    ∧ (t.slice p).pd = (s.slice p).pd) ∧
  (∀ (p : Port) (s : State), (s.slice p).th.thstat.state ≠ 6 → exec (.thatchReenter p) s = .next s)

/-- TWO_WIRE_WRITE commits its staged words as one burst to memory, RESULT 1, or discards them all with a cause and
event 208 or 209, a busy refusal, or a refusal by the mortar map; TWO_WIRE_READ sends the bytes of memory, or 0xFF
where a word is late or the address is not aligned; a START or STOP out of place gives cause 1 or 2; an inactive
host has no effect. -/
def Obligations.TwoWireTarget : Prop :=
  (∀ (w : TwWrite) (s : State), hostActive .a s = false → exec (.twoWireWrite w) s = .next s) ∧
  (∀ (w : TwWrite) (s : State), hostActive .a s = true → hostBusy .a s = true → ∃ t, exec (.twoWireWrite w) s = .next
    t ∧ t.hst.a =
    { s.hst.a with result := 4, cause := 0, cnt := { s.hst.a.cnt with busyn := satInc s.hst.a.cnt.busyn } } ∧ t.mem =
    s.mem ∧ t.eva = s.eva) ∧
  (∀ (w : TwWrite) (s : State), hostActive .a s = true → hostBusy .a s = false → w.addr.msb = false → s.hst.cfg.pecReq
    = true → ∃ t, exec (.twoWireWrite w) s = .next t ∧ t.hst.a =
    { s.hst.a with result := 3, cause := 6, cnt := { s.hst.a.cnt with err := satInc s.hst.a.cnt.err } } ∧ t.mem =
    s.mem ∧ t.eva.raised 208 = true) ∧
  (∀ (w : TwWrite) (s : State), hostActive .a s = true → hostBusy .a s = false → w.addr.msb = true ∨ s.hst.cfg.pecReq
    = false → w.data = [] → w.pec = none → exec (.twoWireWrite w) s = .next
    ({ s with hst := { s.hst with a := { s.hst.a with ptr := hostAddr w.addr } } })) ∧
  (∀ (w : TwWrite) (s : State), hostActive .a s = true → hostBusy .a s = false → w.addr.msb = true ∨ s.hst.cfg.pecReq
    = false → w.data ≠ [] → twWriteCause w s ≠ 0 → twWriteCause w s ≠ 5 → ∃ t, exec (.twoWireWrite w) s = .next t ∧
    t.hst.a =
    { s.hst.a with result := 3, cause := twWriteCause w s, cnt := { s.hst.a.cnt with err := satInc s.hst.a.cnt.err } }
    ∧ t.mem = s.mem ∧ t.eva.raised 208 = true) ∧
  (∀ (w : TwWrite) (s : State), hostActive .a s = true → hostBusy .a s = false → w.addr.msb = true → w.data ≠ [] →
    twWriteCause w s = 5 → ∃ t, exec (.twoWireWrite w) s = .next t ∧ t.hst.a.result = 3 ∧ t.hst.a.cause = 5 ∧
    t.hst.a.cnt.pecf = satInc s.hst.a.cnt.pecf ∧ t.mem = s.mem ∧ t.eva.raised 209 = true) ∧
  (∀ (w : TwWrite) (s : State), hostActive .a s = true → hostBusy .a s = false → w.addr.msb = true ∨ s.hst.cfg.pecReq
    = false → w.data ≠ [] → twWriteCause w s = 0 → inRam (hostAddr w.addr) = true → refusedBeat .domA (burstBeats
    (hostAddr w.addr) (bytesWords w.data)) s = none → ∃ t, exec (.twoWireWrite w) s = .next t ∧ t.hst.a.result = 1 ∧
    t.hst.a.cause = 0 ∧ t.hst.a.ptr = hostAddr w.addr + w.data.length ∧ (∀ i, i < w.data.length → inRam (hostAddr
    w.addr + i) = true → readByte t (hostAddr w.addr + i) = w.data.getD i 0) ∧ (∀ a, a < hostAddr w.addr ∨ hostAddr
    w.addr + w.data.length ≤ a → readByte t a = readByte s a)) ∧
  (∀ (w : TwWrite) (a : Nat) (s : State), hostActive .a s = true → hostBusy .a s = false → w.addr.msb = true ∨
    s.hst.cfg.pecReq = false → w.data ≠ [] → twWriteCause w s = 0 → refusedBeat .domA (burstBeats (hostAddr w.addr)
    (bytesWords w.data)) s = some a → ∃ t, exec (.twoWireWrite w) s = .next t ∧ t.hst.a =
    { s.hst.a with result := 3, cause := 7, cnt := { s.hst.a.cnt with err := satInc s.hst.a.cnt.err } } ∧ t.mem =
    s.mem ∧ t.fab.flt0 = BitVec.ofNat 32 a ∧ t.fab.flt1.cause = 1 ∧ t.fab.flt1.write = true ∧ t.eva.raised 212 = true) ∧
  (∀ (q : HostRead) (a : Word) (s : State), hostActive .a s = true → hostBusy .a s = false → q.addr = some a → a.msb =
    false → s.hst.cfg.pecReq = false → hostAddr a % 4 = 0 → q.lateAt = none → ((∀ i, i < (q.bytes + 3) / 4 → inRam
    (hostAddr a + 4 * i) = true ∧ mapAllows .domA (hostAddr a + 4 * i) .read s = true)) → ∃ t, exec (.twoWireRead q) s
    = .next t ∧ t.hst.a.sent = (List.range q.bytes).map (fun i => readByte s (hostAddr a + i)) ∧ t.hst.a.result = 2 ∧
    t.hst.a.cause = 0 ∧ t.hst.a.ptr = hostAddr a + 4 * (q.bytes / 4) ∧ t.mem = s.mem) ∧
  (∀ (q : HostRead) (a : Word) (s : State), hostActive .a s = true → hostBusy .a s = false → q.addr = some a → a.msb =
    true ∨ s.hst.cfg.pecReq = false → hostAddr a % 4 ≠ 0 → ∃ t, exec (.twoWireRead q) s = .next t ∧ t.hst.a =
    { s.hst.a with result := 2, cause := 11, sent := List.replicate q.bytes 0xFF, cnt := { s.hst.a.cnt with err := satInc s.hst.a.cnt.err } }
    ∧ t.eva.raised 208 = true) ∧
  (∀ (q : HostRead) (a : Word) (s : State), hostActive .a s = true → hostBusy .a s = false → q.addr = some a → a.msb =
    false → s.hst.cfg.pecReq = false → hostAddr a % 4 = 0 → q.lateAt = some 0 → q.bytes % 4 = 0 → q.bytes ≠ 0 → ∃ t,
    exec (.twoWireRead q) s = .next t ∧ t.hst.a.sent = List.replicate q.bytes 0xFF ∧ t.hst.a.result = 2 ∧
    t.hst.a.cause = 8 ∧ t.eva.raised 208 = true) ∧
  (∀ (q : HostRead) (s : State), hostActive .a s = false → exec (.twoWireRead q) s = .next s) ∧
  (∀ (f : TwFault) (s : State), hostActive .a s = true → ∃ t, exec (.twoWireBusError f) s = .next t ∧ t.hst.a =
    { s.hst.a with result := 3, cause := if f = .insideByte then 2 else 1, cnt := { s.hst.a.cnt with err := satInc s.hst.a.cnt.err } }
    ∧ t.mem = s.mem ∧ t.eva.raised 208 = true) ∧
  (∀ (f : TwFault) (s : State), hostActive .a s = false → exec (.twoWireBusError f) s = .next s)

/-- SPI_WRITE commits its words to memory or discards them all with causes 9, 11, 4, 3, 7 and event 210, a busy
refusal having cause 12; SPI_READ sends the bytes of memory; an unknown command gives cause 10; APPLY_BEAT advances
the cursor only when it still equals its value at the peek, and a refused apply beat gives cause 7. -/
def Obligations.SpiTarget : Prop :=
  (∀ (w : SpiWrite) (s : State), hostActive .b s = true → hostBusy .b s = false → w.insideByte = true → ∃ t, exec
    (.spiWrite w) s = .next t ∧ t.hst.b =
    { s.hst.b with result := 3, cause := 9, cnt := { s.hst.b.cnt with err := satInc s.hst.b.cnt.err } } ∧ t.mem =
    s.mem ∧ t.eva.raised 210 = true) ∧
  (∀ (w : SpiWrite) (s : State), hostActive .b s = true → hostBusy .b s = true → ∃ t, exec (.spiWrite w) s = .next t ∧
    t.hst.b = { s.hst.b with result := 4, cause := 12, cnt := { s.hst.b.cnt with busyn := satInc s.hst.b.cnt.busyn } }
    ∧ t.mem = s.mem) ∧
  (∀ (w : SpiWrite) (s : State), hostActive .b s = true → hostBusy .b s = false → w.insideByte = false → w.addr.toNat
    % 4 ≠ 0 ∨ w.data.length % 4 ≠ 0 ∨ 64 < w.data.length → ∃ t, exec (.spiWrite w) s = .next t ∧ t.hst.b =
    { s.hst.b with result := 3, cause := if w.addr.toNat % 4 ≠ 0 then 11 else if 64 < w.data.length then 4 else 3, cnt := { s.hst.b.cnt with err := satInc s.hst.b.cnt.err } }
    ∧ t.mem = s.mem ∧ t.eva.raised 210 = true) ∧
  (∀ (w : SpiWrite) (s : State), hostActive .b s = true → hostBusy .b s = false → w.insideByte = false → w.addr.toNat
    % 4 = 0 → w.data = [] → exec (.spiWrite w) s = .next
    ({ s with hst := { s.hst with b := { s.hst.b with ptr := hostAddr w.addr } } })) ∧
  (∀ (w : SpiWrite) (s : State), hostActive .b s = true → hostBusy .b s = false → w.insideByte = false → w.addr.toNat
    % 4 = 0 → w.data ≠ [] → w.data.length % 4 = 0 → w.data.length ≤ 64 → inRam (hostAddr w.addr) = true → refusedBeat
    .domB (burstBeats (hostAddr w.addr) (bytesWords w.data)) s = none → ∃ t, exec (.spiWrite w) s = .next t ∧
    t.hst.b.result = 1 ∧ t.hst.b.cause = 0 ∧ t.hst.b.ptr = hostAddr w.addr + w.data.length ∧ (∀ i, i < w.data.length →
    inRam (hostAddr w.addr + i) = true → readByte t (hostAddr w.addr + i) = w.data.getD i 0) ∧ (∀ a, a < hostAddr
    w.addr ∨ hostAddr w.addr + w.data.length ≤ a → readByte t a = readByte s a)) ∧
  (∀ (w : SpiWrite) (s : State), hostActive .b s = false → exec (.spiWrite w) s = .next s) ∧
  (∀ (a : Word) (n : Nat) (s : State), hostActive .b s = true → hostBusy .b s = false → a.toNat % 4 = 0 → ((∀ i, i <
    (n + 3) / 4 → inRam (hostAddr a + 4 * i) = true ∧ mapAllows .domB (hostAddr a + 4 * i) .read s = true)) → ∃ t,
    exec (.spiRead a n none) s = .next t ∧ t.hst.b.sent = (List.range n).map (fun i => readByte s (hostAddr a + i)) ∧
    t.hst.b.result = 2 ∧ t.hst.b.cause = 0 ∧ t.hst.b.ptr = hostAddr a + 4 * (n / 4) ∧ t.mem = s.mem) ∧
  (∀ (a : Word) (n : Nat) (l : Option Nat) (s : State), hostActive .b s = true → hostBusy .b s = true → ∃ t, exec
    (.spiRead a n l) s = .next t ∧ t.hst.b =
    { s.hst.b with result := 4, cause := 12, sent := List.replicate n 0xFF, cnt := { s.hst.b.cnt with busyn := satInc s.hst.b.cnt.busyn } }) ∧
  (∀ (a : Word) (n : Nat) (l : Option Nat) (s : State), hostActive .b s = true → hostBusy .b s = false → a.toNat % 4 ≠
    0 → ∃ t, exec (.spiRead a n l) s = .next t ∧ t.hst.b =
    { s.hst.b with result := 2, cause := 11, sent := List.replicate n 0xFF, cnt := { s.hst.b.cnt with err := satInc s.hst.b.cnt.err } }
    ∧ t.eva.raised 210 = true) ∧
  (∀ (s : State), hostActive .b s = true → hostBusy .b s = false → ∃ t, exec .spiUnknownCommand s = .next t ∧ t.hst.b
    = { s.hst.b with result := 3, cause := 10, cnt := { s.hst.b.cnt with err := satInc s.hst.b.cnt.err } } ∧ t.mem =
    s.mem ∧ t.eva.raised 210 = true) ∧
  (∀ (s : State), hostActive .b s = false → exec .spiUnknownCommand s = .next s) ∧
  (∀ (d : Domain) (s : State), (s.hst.bank d).applies = [] → exec (.applyBeat d) s = .next s) ∧
  (∀ (d : Domain) (a : Nat) (cur : Word) (l : List (Nat × Word)) (s : State), (s.hst.bank d).applies = (a, cur) :: l →
    mapAllows (domReq d) a .read s = true → (evrBank (bankOf (domReq d) s) s).cur ≠ cur → ∃ t, exec (.applyBeat d) s =
    .next t ∧ (t.hst.bank d).applies = l ∧ t.evr = s.evr ∧ (t.hst.bank d).cause = (s.hst.bank d).cause) ∧
  (∀ (d : Domain) (a : Nat) (cur : Word) (l : List (Nat × Word)) (s : State), (s.hst.bank d).applies = (a, cur) :: l →
    mapAllows (domReq d) a .read s = true → (evrBank (bankOf (domReq d) s) s).cur = cur → sideEffectBeat (domReq d) a
    s = true → ∃ t, exec (.applyBeat d) s = .next t ∧ (t.hst.bank d).applies = l ∧ (evrBank (bankOf (domReq d) s)
    t).cur = cur + 1 ∧ (evrBank (bankOf (domReq d) s) t).ready = false) ∧
  (∀ (d : Domain) (a : Nat) (cur : Word) (l : List (Nat × Word)) (s : State), (s.hst.bank d).applies = (a, cur) :: l →
    mapAllows (domReq d) a .read s = false → ∃ t, exec (.applyBeat d) s = .next t ∧ (t.hst.bank d).applies = l ∧
    (t.hst.bank d).cause = 7 ∧ t.fab.flt0 = BitVec.ofNat 32 a ∧ t.fab.flt1.cause = 1 ∧ t.fab.flt1.write = false ∧
    t.eva.raised 212 = true)

/-- the Warden Core completes the domain's pending request with STATE 2: CLEAR_EVENT_RING marks every bank of the ring
as read, DEVICE_RESET starts the pre-reset phase with WCAUSE 4, OWNER_LOCK keeps its argument, OTP_MARGIN_AUDIT
shows the words that differ with event 219; without such a request they change nothing; HST_CNT_CLEAR clears the
writer's counters; AUX_POLL stores a good value, counts and reports a NACK with event 231, a hung bus and a
recovered one with event 230, and the gauge's low level with event 232. -/
def Obligations.WardenMailboxAndAux : Prop :=
  (∀ (d : Domain) (s : State), (s.hst.bank d).mbstat.state = 1 → (s.hst.bank d).mbcmd = 1 → (s.hst.bank d).mbarg = 0 →
    wardenRuns s = true → ∃ t, exec (.clearEventRing d) s = .next t ∧ (t.hst.bank d).mbstat =
    { state := 2, cause := 0 } ∧ (t.hst.bank d).mbres = 0 ∧ t.evr.bankA.hwOldest = s.evr.next ∧ t.evr.bankB.hwOldest =
    s.evr.next ∧ t.evr.bankS.hwOldest = s.evr.next ∧ t.evr.bankP.hwOldest = s.evr.next ∧ t.evr.bankW.hwOldest =
    s.evr.next ∧ t.evr.bankA.fwOldest = s.evr.bankA.fwOldest) ∧
  (∀ (d : Domain) (s : State), (s.hst.bank d).mbstat.state = 1 → (s.hst.bank d).mbcmd = 1 → (s.hst.bank d).mbarg = 1 →
    wardenRuns s = true → ∃ t, exec (.clearEventRing d) s = .next t ∧ (t.hst.bank d).mbstat =
    { state := 2, cause := 0 } ∧ t.evr.bankA.fwOldest = s.evr.fwSeq ∧ t.evr.bankB.fwOldest = s.evr.fwSeq ∧
    t.evr.bankS.fwOldest = s.evr.fwSeq ∧ t.evr.bankP.fwOldest = s.evr.fwSeq ∧ t.evr.bankW.fwOldest = s.evr.fwSeq ∧
    t.evr.bankA.hwOldest = s.evr.bankA.hwOldest) ∧
  (∀ (d : Domain) (s : State), (s.hst.bank d).mbstat.state ≠ 1 ∨ (s.hst.bank d).mbcmd ≠ 1 → exec (.clearEventRing d) s
    = .next s) ∧
  (∀ (d : Domain) (s : State), (s.hst.bank d).mbstat.state = 1 → (s.hst.bank d).mbcmd = 2 → s.did.cond = .operation →
    s.did.preReset = false → ∃ t, exec (.deviceReset d) s = .next t ∧ t.did =
    { s.did with preReset := true, released := false, srcs := { s.did.srcs with warden := true, wcause := 4 } } ∧ (∀
    p, (t.slice p).pins.isog = false ∧ (t.slice p).pins.pwm = .highZ)) ∧
  (∀ (d : Domain) (s : State), (s.hst.bank d).mbstat.state ≠ 1 ∨ (s.hst.bank d).mbcmd ≠ 2 → exec (.deviceReset d) s =
    .next s) ∧
  (∀ (d : Domain) (s : State), (s.hst.bank d).mbstat.state = 1 → (s.hst.bank d).mbcmd = 3 → wardenRuns s = true → ∃ t,
    exec (.ownerLock d) s = .next t ∧ (t.hst.bank d).mbstat = { state := 2, cause := 0 } ∧ (t.hst.bank d).mbres =
    (s.hst.bank d).mbarg ∧ t.lcu = { s.lcu with hostLock := decide ((s.hst.bank d).mbarg = 1) } ∧ t.nvc.setstat.pend =
    true ∧ t.mem = s.mem) ∧
  (∀ (d : Domain) (s : State), (s.hst.bank d).mbstat.state ≠ 1 ∨ (s.hst.bank d).mbcmd ≠ 3 → exec (.ownerLock d) s =
    .next s) ∧
  (∀ (d : Domain) (l : List (Fin 128)) (s : State), (s.hst.bank d).mbstat.state = 1 → (s.hst.bank d).mbcmd = 4 →
    wardenRuns s = true → l ≠ [] → ∃ t, exec (.otpMarginAudit d l) s = .next t ∧ (t.hst.bank d).mbstat =
    { state := 2, cause := 0 } ∧ (t.hst.bank d).mbres = BitVec.ofNat 32 l.length ∧ (∀ w : Fin 128, t.otp.ad.getLsbD
    w.val = l.contains w) ∧ t.otp.shd = s.otp.shd ∧ t.eva.raised 219 = true) ∧
  (∀ (d : Domain) (l : List (Fin 128)) (s : State), (s.hst.bank d).mbstat.state ≠ 1 ∨ (s.hst.bank d).mbcmd ≠ 4 → exec
    (.otpMarginAudit d l) s = .next s) ∧
  (∀ (d : Domain) (s : State), ∃ t, exec (.hstCntClear d) s = .next t ∧ (t.hst.bank d).cnt = {} ∧ t.hst.ctl =
    s.hst.ctl ∧ t.hst.cfg = s.hst.cfg ∧ (∀ e, e ≠ d → t.hst.bank e = s.hst.bank e) ∧ t.fab = s.fab) ∧
  (∀ (k : Fin 5) (rec : Bool) (r : AuxResult) (s : State), policyRuns s = false ∨ s.aux.devs.get k = none → exec
    (.auxPoll k rec r) s = .next s) ∧
  (∀ (k : Fin 5) (dev : AuxDev) (raw : BitVec 16) (s : State), policyRuns s = true → s.aux.devs.get k = some dev → k ≠
    0 → ∃ t, exec (.auxPoll k false (.good raw)) s = .next t ∧ t.aux.vals.get k =
    { raw := raw, valid := true, age := 0 } ∧ t.aux.stat.nack.getLsbD k.val = false ∧ (∀ j, j ≠ k → t.aux.vals.get j =
    s.aux.vals.get j) ∧ t.eva = s.eva) ∧
  (∀ (dev : AuxDev) (raw : BitVec 16) (s : State), policyRuns s = true → s.aux.devs.get 0 = some dev → auxScaled dev
    raw < dev.threshold → s.aux.stat.glow = false → ∃ t, exec (.auxPoll 0 false (.good raw)) s = .next t ∧
    t.aux.vals.get 0 = { raw := raw, valid := true, age := 0 } ∧ t.aux.stat.glow = true ∧ t.eva.raised 232 = true) ∧
  (∀ (k : Fin 5) (dev : AuxDev) (s : State), policyRuns s = true → s.aux.devs.get k = some dev → (s.aux.vals.get
    k).valid = true → s.aux.stat.nack.getLsbD k.val = false → ∃ t, exec (.auxPoll k false .nack) s = .next t ∧
    t.aux.vals.get k = { s.aux.vals.get k with age := satInc (s.aux.vals.get k).age } ∧ t.aux.stat.nack.getLsbD k.val
    = true ∧ t.eva.raised 231 = true) ∧
  (∀ (k : Fin 5) (dev : AuxDev) (s : State), policyRuns s = true → s.aux.devs.get k = some dev → ∃ t, exec (.auxPoll k
    true .hung) s = .next t ∧ t.aux.vals.get k = { s.aux.vals.get k with age := satInc (s.aux.vals.get k).age } ∧
    t.aux.stat.fault = true ∧ t.aux.stat.recov = satInc s.aux.stat.recov ∧ t.eva.raised 230 = true)

/-- REGISTER_WRITE to memory stores its word and nothing else, a beat the map refuses stores nothing and records the
fault with event 212, a locked register keeps its value, and an unaligned address changes nothing; MAP_APPLY makes
the pending map active with event 215; ECC_CORRECTION counts, and two wrong bits are a fault of the requester or of
the DMA channel. -/
def Obligations.FabricAndDma : Prop :=
  (∀ (q : Requester) (a w : Word) (s : State), s.memOk = true → requesterRuns q s = true → a.toNat % 4 = 0 → inRam
    a.toNat = true → mapAllows q a.toNat .write s = true → ∃ t, exec (.registerWrite q a w) s = .next t ∧ readMemWord
    t a.toNat = w ∧ (∀ a', a' < a.toNat ∨ a.toNat + 4 ≤ a' → readByte t a' = readByte s a') ∧ t.sup = s.sup ∧ t.otp =
    s.otp ∧ t.eva = s.eva) ∧
  (∀ (q : Requester) (a w : Word) (s : State), requesterRuns q s = true → a.toNat % 4 = 0 → mapAllows q a.toNat .write
    s = false → ∃ t, exec (.registerWrite q a w) s = .next t ∧ t.mem = s.mem ∧ t.slices = s.slices ∧ t.sup = s.sup ∧
    t.fab.flt0 = a ∧ t.fab.flt1 = { req := reqIndex q, cause := 1, write := true, count := satInc s.fab.flt1.count } ∧
    t.eva.raised 212 = true) ∧
  (∀ (w : Word) (s : State), wardenRuns s = true → s.sup.lock.cfgLk = true → ∃ t, exec (.registerWrite .warden
    0x40020010 w) s = .next t ∧ t.sup = s.sup ∧ t.mem = s.mem) ∧
  (∀ (w : Word) (s : State), wardenRuns s = true → s.sup.lock.cfgLk = false → ∃ t, exec (.registerWrite .warden
    0x40020010 w) s = .next t ∧ t.sup = { s.sup with thrMain := s.sup.thrMain.put false w } ∧ t.mem = s.mem) ∧
  (∀ (q : Requester) (a w : Word) (s : State), requesterRuns q s = false ∨ a.toNat % 4 ≠ 0 → exec (.registerWrite q a
    w) s = .next s) ∧
  (∀ (s : State), ∃ t, exec .mapApply s = .next t ∧ t.fab.active = s.fab.pend ∧ t.fab.dirty = false ∧ t.fab.seq =
    s.fab.seq + 1 ∧ t.fab.pend = s.fab.pend ∧ t.eva.raised 215 = true ∧ t.mem = s.mem) ∧
  (∀ (q : Requester) (a : Word) (double : Bool) (s : State), inRam a.toNat = false → exec (.eccCorrection q a double)
    s = .next s) ∧
  (∀ (q : Requester) (a : Word) (s : State), inRam a.toNat = true → exec (.eccCorrection q a false) s = .next
    ({ s with fab := { s.fab with ecc := { s.fab.ecc with corr := satInc s.fab.ecc.corr } } })) ∧
  (∀ (a : Word) (s : State), inRam a.toNat = true → ∃ t, exec (.eccCorrection .policy a true) s = .next t ∧
    t.fab.ecc.uncorr = satInc s.fab.ecc.uncorr ∧ t.fab.flt0 = a ∧ t.fab.flt1 =
    { req := 3, cause := 2, write := false, count := satInc s.fab.flt1.count } ∧ t.eva.raised 212 = true ∧ t.mem =
    s.mem) ∧
  (∀ (c : Fin 16) (a : Word) (s : State), inRam a.toNat = true → (s.dma.get c).stat.state = 2 → ∃ t, exec
    (.eccCorrection (.dma c) a true) s = .next t ∧ (t.dma.get c).stat.state = 5 ∧ (t.dma.get c).stat.cause = 2 ∧
    (t.dma.get c).faddr = a ∧ (∀ j, j ≠ c → t.dma.get j = s.dma.get j) ∧ t.eva.raised 214 = true)

/-- DMA_ARM, DMA_START and DMA_ABORT act for the owner only and on that channel only; DMA_BURST_COMMIT copies the
words of one burst, counts them and ends the chain with event 213, or faults with event 214. -/
def Obligations.DmaChannels : Prop :=
  (∀ (q : Requester) (c : Fin 16) (burst : BitVec 7) (ring : Bool) (s : State), hasBank q = true → (s.dma.get
    c).stat.state ≠ 2 → ∃ t, exec (.dmaArm q c burst ring) s = .next t ∧ (t.dma.get c).ctl =
    { burst := burst, ring := ring, arm := true, owner := bankSet (bankOf q s) } ∧ (t.dma.get c).stat.state = 1 ∧
    (t.dma.get c).stat.cause = 0 ∧ (∀ j, j ≠ c → t.dma.get j = s.dma.get j)) ∧
  (∀ (q : Requester) (c : Fin 16) (s : State), hasBank q = true → (s.dma.get c).ownedBy (bankOf q s) = true →
    (s.dma.get c).stat.state ≠ 2 → ∃ t, exec (.dmaStart q c) s = .next t ∧ (t.dma.get c).stat.state = 2 ∧ (t.dma.get
    c).cnt = 0 ∧ (t.dma.get c).cur = (s.dma.get c).first &&& 0xFFFFFFF0 ∧ (t.dma.get c).desc = none ∧ (∀ j, j ≠ c →
    t.dma.get j = s.dma.get j)) ∧
  (∀ (q : Requester) (c : Fin 16) (s : State), hasBank q = false ∨ (s.dma.get c).ownedBy (bankOf q s) = false → exec
    (.dmaStart q c) s = .next s) ∧
  (∀ (q : Requester) (c : Fin 16) (s : State), hasBank q = true → (s.dma.get c).ownedBy (bankOf q s) = true →
    (s.dma.get c).stat.state = 2 → ∃ t, exec (.dmaAbort q c false) s = .next t ∧ t.dma.get c =
    { s.dma.get c with desc := none, done := 0, stat := { (s.dma.get c).stat with state := 4 } } ∧ (∀ j, j ≠ c →
    t.dma.get j = s.dma.get j) ∧ t.mem = s.mem) ∧
  (∀ (q : Requester) (c : Fin 16) (s : State), hasBank q = true → (s.dma.get c).ownedBy (bankOf q s) = true →
    (s.dma.get c).stat.state = 3 → ∃ t, exec (.dmaAbort q c false) s = .next t ∧ t.dma.get c =
    { s.dma.get c with stat := { (s.dma.get c).stat with abortLate := true } }) ∧
  (∀ (q : Requester) (c : Fin 16) (withCommit : Bool) (s : State), hasBank q = false ∨ (s.dma.get c).ownedBy (bankOf q
    s) = false → exec (.dmaAbort q c withCommit) s = .next s) ∧
  (∀ (c : Fin 16) (n : Nat) (s : State), (s.dma.get c).stat.state ≠ 2 → exec (.dmaBurstCommit c n) s = .next s) ∧
  (∀ (c : Fin 16) (n : Nat) (d : DmaDesc) (s : State), s.memOk = true → (s.dma.get c).stat.state = 2 → (s.dma.get
    c).desc = some d → d.sfix = false → d.dfix = false → d.src % 4 = 0 → d.dst % 4 = 0 → (s.dma.get c).done % 4 = 0 →
    d.next = 0 → (s.dma.get c).done + 4 * dmaBeats (s.dma.get c) d s = d.len → ((∀ i, i < dmaBeats (s.dma.get c) d s →
    inRam (d.src + (s.dma.get c).done + 4 * i) = true ∧ mapAllows (.dma c) (d.src + (s.dma.get c).done + 4 * i) .read
    s = true)) → ((∀ i, i < dmaBeats (s.dma.get c) d s → inRam (d.dst + (s.dma.get c).done + 4 * i) = true ∧ mapAllows
    (.dma c) (d.dst + (s.dma.get c).done + 4 * i) .write s = true)) → ∃ t, exec (.dmaBurstCommit c n) s = .next t ∧
    (t.dma.get c).stat.state = 3 ∧ (t.dma.get c).cnt = (s.dma.get c).cnt + BitVec.ofNat 32 (4 * dmaBeats (s.dma.get c)
    d s) ∧ t.eva.raised 213 = true ∧ (∀ i, i < dmaBeats (s.dma.get c) d s → readMemWord t (d.dst + (s.dma.get c).done
    + 4 * i) = readMemWord s (d.src + (s.dma.get c).done + 4 * i)) ∧ (∀ a, a < d.dst + (s.dma.get c).done ∨ d.dst +
    (s.dma.get c).done + 4 * dmaBeats (s.dma.get c) d s ≤ a → readByte t a = readByte s a)) ∧
  (∀ (c : Fin 16) (n : Nat) (s : State), (s.dma.get c).stat.state = 2 → (s.dma.get c).desc = none → mapAllows (.dma c)
    (s.dma.get c).cur.toNat .read s = false → ∃ t, exec (.dmaBurstCommit c n) s = .next t ∧ (t.dma.get c).stat.state =
    5 ∧ (t.dma.get c).stat.cause = 1 ∧ (t.dma.get c).stat.write = false ∧ (t.dma.get c).faddr = (s.dma.get c).cur ∧
    t.mem = s.mem ∧ t.eva.raised 214 = true)

/-- EVR_CURSOR_WRITE starts a fetch in the writer's own bank, EVR_FETCH_DONE shows the record, or empty slots with
event 217 where the log's sector cannot be read, EVR_WIN3_READ advances the cursor only when it still stands at the
record read; EVA_CLEAR clears exactly the pending bits written with 1 in the writer's own bank; RING_DRAIN,
LOG_SECTOR_APPEND and LOG_PAGE_PROGRAM move sectors to the log, count what finds no buffer and what is incomplete;
OPERATING_MINUTE counts the minutes; FLUSH_AREA_ERASE renews the flush area; a block that fails is replaced from the
reserve or by the log's oldest block, with event 218 where the reserve falls below a quarter, at the first block of
the log, at a block that is not replaced and when a write count passes 50,000. -/
def Obligations.RecorderAndAggregator : Prop :=
  (∀ (q : Requester) (w : Word) (s : State), ∃ t, exec (.evrCursorWrite q false w) s = .next t ∧ evrBank (bankOf q s)
    t = { evrBank (bankOf q s) s with cur := w, ready := false, win := #v[0, 0, 0, 0] } ∧ t.evr.ring = s.evr.ring ∧
    t.evr.next = s.evr.next ∧ t.eva = s.eva) ∧
  (∀ (q : Requester) (w : Word) (s : State), ∃ t, exec (.evrCursorWrite q true w) s = .next t ∧ evrBank (bankOf q s) t
    = { evrBank (bankOf q s) s with src := (evrBank (bankOf q s) s).src.put w, ready := false, win := #v[0, 0, 0, 0] }
    ∧ t.evr.ring = s.evr.ring) ∧
  (∀ (k : Bank) (rd : SectorRead) (s : State), (evrBank k s).ready = false → evrStale (evrBank k s) s = false →
    evrEmpty (evrBank k s) s = false → (evrBank k s).src.src ≠ 2 ∨ rd ≠ .bad → ∃ t, exec (.evrFetchDone k rd) s =
    .next t ∧ evrBank k t =
    { evrBank k s with ready := true, win := #v[(evrLookup (evrBank k s) s).w0, (evrLookup (evrBank k s) s).w1, (evrLookup (evrBank k s) s).w2, (evrLookup (evrBank k s) s).w3] }) ∧
  (∀ (k : Bank) (s : State), (evrBank k s).ready = false → evrStale (evrBank k s) s = false → evrEmpty (evrBank k s) s
    = false → (evrBank k s).src.src = 2 → ∃ t, exec (.evrFetchDone k .bad) s = .next t ∧ evrBank k t =
    { evrBank k s with ready := true, win := #v[0, 0, 0, 0], unread := true } ∧ t.eva.raised 217 = true ∧ t.nvc.err =
    { s.nvc.err with unc := satInc s.nvc.err.unc }) ∧
  (∀ (k : Bank) (rd : SectorRead) (s : State), (evrBank k s).ready = false → evrStale (evrBank k s) s = true ∨
    evrEmpty (evrBank k s) s = true → ∃ t, exec (.evrFetchDone k rd) s = .next t ∧ evrBank k t =
    { evrBank k s with ready := true, win := #v[0, 0, 0, 0] } ∧ t.nvc = s.nvc) ∧
  (∀ (k : Bank) (rd : SectorRead) (s : State), (evrBank k s).ready = true → exec (.evrFetchDone k rd) s = .next s) ∧
  (∀ (q : Requester) (s : State), evrSideEffect (bankOf q s) s = true → ∃ t, exec (.evrWin3Read q (evrBank (bankOf q
    s) s).cur) s = .next t ∧ (evrBank (bankOf q s) t).cur = (evrBank (bankOf q s) s).cur + 1 ∧ (evrBank (bankOf q s)
    t).ready = false ∧ t.eva = s.eva) ∧
  (∀ (q : Requester) (cur : Word) (s : State), evrSideEffect (bankOf q s) s = false ∨ (evrBank (bankOf q s) s).cur ≠
    cur → exec (.evrWin3Read q cur) s = .next s) ∧
  (∀ (q : Requester) (j : Fin 8) (w : Word) (s : State), ∃ t, exec (.evaClear q j w) s = .next t ∧ (∀ n : Fin 256,
    (evaBank (bankOf q s) t).pend.getLsbD n.val = ((evaBank (bankOf q s) s).pend.getLsbD n.val && !(n.val / 32 ==
    j.val && w.getLsbD (n.val % 32)))) ∧ (evaBank (bankOf q s) t).mask = (evaBank (bankOf q s) s).mask ∧ (∀ k, k ≠
    bankOf q s → evaBank k t = evaBank k s) ∧ t.evr = s.evr) ∧
  (∀ (s : State), s.evr.running = true → 32 ≤ (s.evr.next - drainBase s.evr).toNat → s.nvc.staged.length < 8 →
    s.evr.lostNow = 0 → ∃ t, exec (.ringDrain false) s = .next t ∧ t.nvc.staged = s.nvc.staged ++ [(List.range 32).map
    (fun i => ringSlot s.evr (drainBase s.evr + BitVec.ofNat 32 i))] ∧ t.evr =
    { s.evr with copied := drainBase s.evr + 32 }) ∧
  (∀ (s : State), s.evr.running = true → 32 ≤ (s.evr.next - drainBase s.evr).toNat → 8 ≤ s.nvc.staged.length → exec
    (.ringDrain false) s = .next ({ s with nvc := { s.nvc with ovf := satAdd s.nvc.ovf 128 } })) ∧
  (∀ (s : State), s.evr.running = true → 32 ≤ (s.evr.fwSeq - s.evr.fwDrained).toNat → s.nvc.staged.length < 8 → ∃ t,
    exec (.ringDrain true) s = .next t ∧ t.nvc.staged.length = s.nvc.staged.length + 1 ∧ t.evr =
    { s.evr with fwDrained := s.evr.fwDrained + 32 }) ∧
  (∀ (fw : Bool) (s : State), s.evr.running = false → exec (.ringDrain fw) s = .next s) ∧
  (∀ (s : State), s.did.cond = .reset ∨ s.did.cond = .unpowered → exec .operatingMinute s = .next s) ∧
  (∀ (s : State), s.did.cond = .operation → s.evr.opmin.minF.toNat < 0xFFFFFE → s.evr.sincePeriodic < 59 → exec
    .operatingMinute s = .next
    ({ s with evr := { s.evr with opmin := { minF := s.evr.opmin.minF + 1, sat := s.evr.opmin.sat }, sincePeriodic := s.evr.sincePeriodic + 1 } })) ∧
  (∀ (s : State), s.did.cond = .operation → s.evr.opmin.minF = 0xFFFFFE → s.evr.opmin.sat = false → ∃ t, exec
    .operatingMinute s = .next t ∧ t.evr.opmin = { minF := 0xFFFFFF, sat := true } ∧ t.eva.raised 223 = true) ∧
  (∀ (o : FlashOp) (s : State), s.evr.running = true → s.sup.pfw = false → s.nand.flushErased < 2 → s.nand.flushN = 8
    → o.fails = false → o.wear.toNat ≤ s.nvc.wear.maxw.toNat → exec (.flushAreaErase o) s = .next
    ({ s with nand := { s.nand with flush := [], flushErased := 511 } })) ∧
  (∀ (o : FlashOp) (s : State), s.evr.running = true → s.sup.pfw = false → s.nand.flushErased < 2 → o.fails = false →
    s.nvc.wear.maxw.toNat ≤ 50000 → 50000 < o.wear.toNat → ∃ t, exec (.flushAreaErase o) s = .next t ∧ t.nvc.wear.maxw
    = o.wear ∧ t.eva.raised 218 = true ∧ t.nand = { s.nand with flush := [], flushErased := flushPages s.nand }) ∧
  (∀ (o : FlashOp) (s : State), s.evr.running = true → s.sup.pfw = false → s.nand.flushErased < 2 → s.nand.free = 0 →
    s.nand.logN ≤ 64 → s.nand.flushN = 2 → o.fails = true → ∃ t, exec (.flushAreaErase o) s = .next t ∧ t.nand =
    { s.nand with flush := [], flushErased := 0, flushN := 1 } ∧ t.eva.raised 218 = true ∧ t.nvc.err.badnew = satInc
    s.nvc.err.badnew) ∧
  (∀ (o : FlashOp) (s : State), s.sup.pfw = true ∨ 2 ≤ s.nand.flushErased → exec (.flushAreaErase o) s = .next s) ∧
  (∀ (w : Word) (s : State), 8 ≤ s.nvc.staged.length → exec (.logSectorAppend w) s = .next
    ({ s with nvc := { s.nvc with ovf := satInc s.nvc.ovf } })) ∧
  (∀ (w : Word) (s : State), s.nvc.staged.length < 8 → (s.nvc.logwin.filter (fun x => x.1 != 127)).length ≠ 127 → exec
    (.logSectorAppend w) s = .next ({ s with nvc := { s.nvc with logwin := [], incompl := satInc s.nvc.incompl } })) ∧
  (∀ (w : Word) (s : State), s.nvc.staged.length < 8 → (s.nvc.logwin.filter (fun x => x.1 != 127)).length = 127 → ∃ t,
    exec (.logSectorAppend w) s = .next t ∧ t.nvc.logwin = [] ∧ t.nvc.staged.length = s.nvc.staged.length + 1 ∧
    t.nvc.staged.getLast?.map (fun l => (l.getD 31 {}).w3) = some w ∧ t.nvc.incompl = s.nvc.incompl) ∧
  (∀ (o : FlashOp) (s : State), s.nvc.staged = [] → exec (.logPageProgram o) s = .next s) ∧
  (∀ (o : FlashOp) (s : State), s.nvc.staged ≠ [] → o.fails = false → o.wear.toNat ≤ s.nvc.wear.maxw.toNat →
    (s.nand.log ++ padPage (s.nvc.staged.take 4).flatten).length ≤ s.nand.logN * 8192 → s.nand.logN ≠ 0 → ∃ t, exec
    (.logPageProgram o) s = .next t ∧ t.nvc.staged = s.nvc.staged.drop 4 ∧ t.nand =
    { s.nand with log := s.nand.log ++ padPage (s.nvc.staged.take 4).flatten } ∧ t.evr.ring = s.evr.ring) ∧
  (∀ (o : FlashOp) (s : State), s.nvc.staged ≠ [] → o.fails = true → 0 < s.nand.free → (s.nand.log ++ padPage
    (s.nvc.staged.take 4).flatten).length ≤ s.nand.logN * 8192 → s.nand.logN ≠ 0 → ∃ t, exec (.logPageProgram o) s =
    .next t ∧ t.nvc.staged = s.nvc.staged.drop 4 ∧ t.nand =
    { s.nand with log := s.nand.log ++ padPage (s.nvc.staged.take 4).flatten, free := s.nand.free - 1 } ∧ t.nvc.err =
    { s.nvc.err with badnew := satInc s.nvc.err.badnew } ∧ t.nvc.stat.rsvPct = reservePct
    { s.nand with free := s.nand.free - 1 } ∧ (s.nand.free0 ≤ 4 * s.nand.free → 4 * (s.nand.free - 1) < s.nand.free0 →
    t.eva.raised 218 = true)) ∧
  (∀ (o : FlashOp) (s : State), s.nvc.staged ≠ [] → o.fails = true → s.nand.free = 0 → 65 < s.nand.logN →
    (s.nand.log.drop 8192 ++ padPage (s.nvc.staged.take 4).flatten).length ≤ (s.nand.logN - 1) * 8192 → ∃ t, exec
    (.logPageProgram o) s = .next t ∧ t.nand =
    { s.nand with log := s.nand.log.drop 8192 ++ padPage (s.nvc.staged.take 4).flatten, logOldest := s.nand.logOldest + BitVec.ofNat 32 (min 8192 s.nand.log.length), logN := s.nand.logN - 1, logTaken := true }
    ∧ (s.nand.logTaken = false → t.eva.raised 218 = true) ∧ t.nvc.err.badnew = satInc s.nvc.err.badnew)

/-- An accepted OTP_BURN command leaves a job in progress and a refused one its cause of Table 17.3; OTP_BURN_DONE
stores what the margin reads gave and ends with STATE 2 or 4, OTP_BURN_INTERRUPT with STATE 5; OTP_OVERRIDE,
STICKY_LOCK and LIFECYCLE act in the BLANK and PROVISIONED states without authorisation and answer 5 later where it
fails; LIFECYCLE_ERASE_DONE ends what stood under the old key and resets with WCAUSE 1. -/
def Obligations.Fuses : Prop :=
  (∀ (tag data : BitVec 40) (s : State), s.otp.job = none → exec (.otpBurnDone tag data) s = .next s) ∧
  (∀ (w : Fin 128) (tag jtag data jdata : BitVec 40) (s : State), s.otp.job = some
    { word := w, row := none, tag := jtag, data := jdata } → ∃ t, exec (.otpBurnDone tag data) s = .next t ∧
    t.otp.cells.get w = data ∧ (∀ v : Fin 128, v ≠ w → t.otp.cells.get v = s.otp.cells.get v) ∧ t.otp.bstat =
    { s.otp.bstat with state := if data = jdata then 2 else 4 } ∧ t.otp.job = none ∧ t.otp.spareData = s.otp.spareData
    ∧ t.otp.shd = s.otp.shd ∧ t.sup = s.sup) ∧
  (∀ (w : Fin 128) (k : Fin 4) (tag jtag data jdata : BitVec 40) (s : State), s.otp.job = some
    { word := w, row := some k, tag := jtag, data := jdata } → ∃ t, exec (.otpBurnDone tag data) s = .next t ∧
    t.otp.spareTag.get k = tag ∧ t.otp.spareData.get k = data ∧ t.otp.bstat =
    { s.otp.bstat with state := if data = jdata ∧ tag = jtag then 2 else 4 } ∧ t.otp.cells = s.otp.cells ∧ t.otp.job =
    none) ∧
  (∀ (tag data : BitVec 40) (s : State), s.otp.job = none → exec (.otpBurnInterrupt tag data) s = .next s) ∧
  (∀ (w : Fin 128) (tag jtag data jdata : BitVec 40) (s : State), s.otp.job = some
    { word := w, row := none, tag := jtag, data := jdata } → ∃ t, exec (.otpBurnInterrupt tag data) s = .next t ∧
    t.otp.cells.get w = (s.otp.cells.get w ||| (data &&& jdata)) ∧ (∀ v : Fin 128, v ≠ w → t.otp.cells.get v =
    s.otp.cells.get v) ∧ t.otp.bstat = { s.otp.bstat with state := 5 } ∧ t.otp.job = none) ∧
  (∀ (w : Fin 128) (seq : Byte) (data : Word) (auth : Option AuthBlock) (s : State), svcFresh 0x30 seq (le32
    (BitVec.ofNat 32 w.val) ++ le32 data ++ authBytes auth) s = true → s.did.cond = .operation → lifecycle s.otp < 2 →
    wardenRuns s = true → burnCause w false s = 0 → ∃ t, exec (.svcOtpBurn seq (BitVec.ofNat 32 w.val) data auth) s =
    .next t ∧ svcAnswer t = some (1, 0) ∧ t.otp.job = some (burnJob w false data s.otp) ∧ t.otp.bstat =
    { s.otp.bstat with state := 1, cause := 0, abortLate := false, word := BitVec.ofNat 7 w.val } ∧ t.otp.cells =
    s.otp.cells ∧ t.otp.shd = s.otp.shd) ∧
  (∀ (w : Fin 128) (seq : Byte) (data : Word) (auth : Option AuthBlock) (s : State), svcFresh 0x30 seq (le32
    (BitVec.ofNat 32 w.val) ++ le32 data ++ authBytes auth) s = true → s.did.cond = .operation → lifecycle s.otp < 2 →
    wardenRuns s = true → burnCause w false s ≠ 0 → ∃ t, exec (.svcOtpBurn seq (BitVec.ofNat 32 w.val) data auth) s =
    .next t ∧ svcAnswer t = some (6, (burnCause w false s).setWidth 8) ∧ t.otp.job = s.otp.job ∧ t.otp.bstat.state = 3
    ∧ t.otp.bstat.cause = burnCause w false s ∧ t.otp.cells = s.otp.cells) ∧
  (∀ (seq : Byte) (burn data : Word) (auth : Option AuthBlock) (s : State), svcFresh 0x30 seq (le32 burn ++ le32 data
    ++ authBytes auth) s = true → s.did.cond = .operation → 2 ≤ lifecycle s.otp → authOk 0x30 (le32 burn ++ le32 data)
    auth s = false → exec (.svcOtpBurn seq burn data auth) s = .next (svcAnswered 0x30 seq (le32 burn ++ le32 data ++
    authBytes auth) 5 0 [] s)) ∧
  (∀ (seq : Byte) (w : Fin 128) (v : Word) (auth : Option AuthBlock) (s : State), svcFresh 0x31 seq (le32
    (BitVec.ofNat 32 w.val) ++ le32 v ++ authBytes auth) s = true → s.did.cond = .operation → lifecycle s.otp < 2 →
    wardenRuns s = true → overrideOk s.otp w.val = true → ∃ t, exec (.svcOtpOverride seq (BitVec.ofNat 32 w.val) v
    auth) s = .next t ∧ svcAnswer t = some (0, 0) ∧ t.otp.ov = (s.otp.ov ||| (1 <<< w.val)) ∧ t.otp.ovr.get w = v ∧
    t.otp.shd.get w = v ∧ (∀ j : Fin 128, j ≠ w → t.otp.shd.get j = s.otp.shd.get j) ∧ t.otp.cells = s.otp.cells ∧
    t.otp.wr = s.otp.wr) ∧
  (∀ (seq : Byte) (w : Fin 128) (v : Word) (auth : Option AuthBlock) (s : State), svcFresh 0x31 seq (le32
    (BitVec.ofNat 32 w.val) ++ le32 v ++ authBytes auth) s = true → s.did.cond = .operation → lifecycle s.otp < 2 →
    wardenRuns s = true → overrideOk s.otp w.val = false → exec (.svcOtpOverride seq (BitVec.ofNat 32 w.val) v auth) s
    = .next (svcAnswered 0x31 seq (le32 (BitVec.ofNat 32 w.val) ++ le32 v ++ authBytes auth) 6 0 [] s)) ∧
  (∀ (seq : Byte) (w v : Word) (auth : Option AuthBlock) (s : State), svcFresh 0x31 seq (le32 w ++ le32 v ++ authBytes
    auth) s = true → s.did.cond = .operation → 2 ≤ lifecycle s.otp → authOk 0x31 (le32 w ++ le32 v) auth s = false →
    exec (.svcOtpOverride seq w v auth) s = .next (svcAnswered 0x31 seq (le32 w ++ le32 v ++ authBytes auth) 5 0 []
    s)) ∧
  (∀ (seq : Byte) (bits : Word) (auth : Option AuthBlock) (s : State), svcFresh 0x32 seq (le32 bits ++ authBytes auth)
    s = true → s.did.cond = .operation → lifecycle s.otp < 2 → wardenRuns s = true → exec (.svcStickyLock seq bits
    auth) s = .next (svcAnswered 0x32 seq (le32 bits ++ authBytes auth) 0 0 []
    { s with otp := { s.otp with lock := s.otp.lock.put (bits &&& 0x7F00) } })) ∧
  (∀ (seq : Byte) (bits : Word) (auth : Option AuthBlock) (s : State), svcFresh 0x32 seq (le32 bits ++ authBytes auth)
    s = true → s.did.cond = .operation → 2 ≤ lifecycle s.otp → wardenRuns s = true → ∃ t, exec (.svcStickyLock seq
    bits auth) s = .next t ∧ svcAnswer t = some ((if authOk 0x32 (le32 bits) auth s then 0 else 5), 0) ∧ t.lcu.nonce =
    (if authOk 0x32 (le32 bits) auth s then none else s.lcu.nonce) ∧ t.otp.lock = (if authOk 0x32 (le32 bits) auth s
    then s.otp.lock.put (bits &&& 0x7F00) else s.otp.lock)) ∧
  (∀ (seq code : Byte) (auth : Option AuthBlock) (s : State), svcFresh 0x33 seq ([code, 0, 0, 0] ++ authBytes auth) s
    = true → lifecycle s.otp < 2 → code.toNat = lifecycle s.otp + 1 → s.did.cond = .recovery ∨ wardenRuns s = true →
    lifecycleAllowed true s = true → ∃ t, exec (.svcLifecycle seq code auth) s = .next t ∧ svcAnswer t = some (1, 0) ∧
    t.otp.change = some (code.setWidth 3) ∧ t.otp.job.map (fun j => (j.word.val, j.row, j.tag, j.data)) = some
    (lifecycle s.otp + 1, none, 0, otpEncode (code.setWidth 32)) ∧ t.otp.bstat.state = 1 ∧ t.otp.cells = s.otp.cells ∧
    t.nand = s.nand) ∧
  (∀ (seq code : Byte) (auth : Option AuthBlock) (s : State), svcFresh 0x33 seq ([code, 0, 0, 0] ++ authBytes auth) s
    = true → lifecycle s.otp < 2 → code.toNat ≠ lifecycle s.otp + 1 → exec (.svcLifecycle seq code auth) s = .next
    (svcAnswered 0x33 seq ([code, 0, 0, 0] ++ authBytes auth) 3 0 [] s)) ∧
  (∀ (seq code : Byte) (auth : Option AuthBlock) (s : State), svcFresh 0x33 seq ([code, 0, 0, 0] ++ authBytes auth) s
    = true → 2 ≤ lifecycle s.otp → authOk 0x33 [code, 0, 0, 0] auth s = false → exec (.svcLifecycle seq code auth) s =
    .next (svcAnswered 0x33 seq ([code, 0, 0, 0] ++ authBytes auth) 5 0 [] s)) ∧
  (∀ (k : BitVec 3) (s : State), s.otp.change = some k → s.otp.job = none → s.did.preReset = false → s.did.cond =
    .operation → ∃ t, exec .lifecycleEraseDone s = .next t ∧ t.nand.under = k ∧ t.nand.bank0 = {} ∧ t.nand.bank1 = {}
    ∧ t.nand.slot0 = [] ∧ t.nand.slot1 = [] ∧ t.nand.settings = [] ∧ t.nand.log = padPage [lifecycleSlot (lifecycle
    s.otp) k.toNat s] ∧ t.nand.logOldest = 0 ∧ t.nand.flush = [] ∧ t.eva.raised 220 = true ∧ t.did.preReset = true ∧
    t.did.srcs.wcause = 1 ∧ t.did.released = false ∧ t.otp = s.otp) ∧
  (∀ (s : State), s.otp.change = none ∨ s.otp.job ≠ none → exec .lifecycleEraseDone s = .next s)

/-- NVC_PAGE_SELECT starts a read in the core's own bank, which the Policy Core may do for the LOG partition only;
NVC_PAGE_READY shows the words, counts corrected and uncorrectable sectors, and retires the block of an
uncorrectable one, which fails a bank that no block can mend; WARDEN_FIRMWARE_VERIFIED enters recovery with cause 3
when both copies of the partition table fail, and retires a block of a bank that cannot be read; SETTINGS_WRITE
appends an entry with the next serial number when one waits, PFW_N is high and the Warden Core runs, unless the ring
has fewer than 2 blocks. -/
def Obligations.PagesAndSettings : Prop :=
  (∀ (w : Word) (s : State), exec (.nvcPageSelect .warden w) s = .next
    ({ s with nvc := { s.nvc with pgW := { sel := ({} : NvcPgsel).put w } } })) ∧
  (∀ (w : Word) (s : State), exec (.nvcPageSelect .policy w) s = .next ((if (({} : NvcPgsel).put w).part = 7 then
    { s with nvc := { s.nvc with pgP := { sel := ({} : NvcPgsel).put w } } } else s))) ∧
  (∀ (q : Requester) (w : Word) (s : State), bankOf q s ≠ .p → bankOf q s ≠ .w → exec (.nvcPageSelect q w) s = .next
    s) ∧
  (∀ (ws : List Word) (corr : BitVec 4) (s : State), exec (.nvcPageReady .w ws 0 corr) s = .next
    ({ s with nvc := { s.nvc with pgW := { sel := { s.nvc.pgW.sel with ready := true }, win := ws, bad := 0 }, err := { s.nvc.err with corr := satAdd s.nvc.err.corr corr.cpop.toNat } } })) ∧
  (∀ (ws : List Word) (bad corr : BitVec 4) (s : State), bad ≠ 0 → s.nvc.pgP.sel.part = 7 → ∃ t, exec (.nvcPageReady
    .p ws bad corr) s = .next t ∧ t.nvc.pgP = { sel := { s.nvc.pgP.sel with ready := true }, win := ws, bad := bad } ∧
    t.nvc.pgW = s.nvc.pgW ∧ t.nvc.err =
    { s.nvc.err with corr := satAdd s.nvc.err.corr corr.cpop.toNat, unc := satAdd s.nvc.err.unc bad.cpop.toNat } ∧
    t.eva.raised 217 = true ∧ t.nand = s.nand) ∧
  (∀ (ws : List Word) (bad corr : BitVec 4) (s : State), bad ≠ 0 → s.nvc.pgW.sel.part = 2 → 0 < s.nand.free → ∃ t,
    exec (.nvcPageReady .w ws bad corr) s = .next t ∧ t.nand = { s.nand with free := s.nand.free - 1 } ∧
    t.nvc.err.badnew = satInc s.nvc.err.badnew ∧ t.nvc.err.unc = satAdd s.nvc.err.unc bad.cpop.toNat ∧ t.eva.raised
    217 = true) ∧
  (∀ (ws : List Word) (bad corr : BitVec 4) (s : State), bad ≠ 0 → s.nvc.pgW.sel.part = 3 → s.nand.free = 0 →
    s.nand.logN ≤ 64 → ∃ t, exec (.nvcPageReady .w ws bad corr) s = .next t ∧ t.nand =
    { s.nand with bank1 := { s.nand.bank1 with st := 3 }, deadBank := s.nand.deadBank ||| 2 } ∧ t.nvc.err.badnew =
    satInc s.nvc.err.badnew ∧ t.eva.raised 218 = true) ∧
  (∀ (o : FlashOp) (s : State), s.nvc.setstat.pend = true → s.sup.pfw = false → wardenRuns s = true →
    s.nand.settings.find? (fun e => e.good) = none → 2 ≤ s.nand.setN → o.fails = false → o.wear.toNat ≤
    s.nvc.wear.maxw.toNat → exec (.settingsWrite o) s = .next
    ({ s with nvc := { s.nvc with setstat := { s.nvc.setstat with pend := false } }, nand := { s.nand with settings := { fmt := settingsFmt s, seq := 0, cfgId := s.nvc.cfgId, items := changedItems s } :: s.nand.settings } })) ∧
  (∀ (o : FlashOp) (ent : SettingsEntry) (s : State), s.nvc.setstat.pend = true → s.sup.pfw = false → wardenRuns s =
    true → s.nand.settings.find? (fun e => e.good) = some ent → 2 ≤ s.nand.setN → o.fails = false → o.wear.toNat ≤
    s.nvc.wear.maxw.toNat → exec (.settingsWrite o) s = .next
    ({ s with nvc := { s.nvc with setstat := { s.nvc.setstat with pend := false } }, nand := { s.nand with settings := { fmt := settingsFmt s, seq := ent.seq + 1, cfgId := s.nvc.cfgId, items := changedItems s } :: s.nand.settings } })) ∧
  (∀ (o : FlashOp) (s : State), s.nvc.setstat.pend = true → s.sup.pfw = false → wardenRuns s = true → s.nand.setN = 2
    → s.nand.free = 0 → s.nand.logN ≤ 64 → o.fails = true → ∃ t, exec (.settingsWrite o) s = .next t ∧ t.nvc.setstat =
    s.nvc.setstat ∧ t.nand = { s.nand with setN := 1 } ∧ t.eva.raised 218 = true) ∧
  (∀ (o : FlashOp) (s : State), s.nvc.setstat.pend = false ∨ s.sup.pfw = true ∨ wardenRuns s = false ∨ s.nand.setN < 2
    → exec (.settingsWrite o) s = .next s) ∧
  (∀ (f : FlashInfo) (readOk : Bool) (s : State), s.did.cond = .boot → s.did.preReset = false → s.did.boot.stage = 3 →
    f.size ≠ 0 → f.ptBad = true → ∃ t, exec (.wardenFirmwareVerified f readOk) s = .next t ∧ t.did.cond = .recovery ∧
    t.did.boot.stage = 8 ∧ t.did.boot.recCause = 3 ∧ t.nand = s.nand) ∧
  (∀ (f : FlashInfo) (s : State), s.did.cond = .boot → s.did.preReset = false → s.did.boot.stage = 3 → f.size ≠ 0 →
    f.ptBad = false → 0 < s.nand.free → s.did.secondBank = false → ∃ t, exec (.wardenFirmwareVerified f false) s =
    .next t ∧ t.nvc.err = { s.nvc.err with unc := satInc s.nvc.err.unc, badnew := satInc s.nvc.err.badnew } ∧ t.nand =
    { s.nand with free := s.nand.free - 1 } ∧ t.eva.raised 217 = true ∧ t.nvc.wear.maxw = f.maxw)

/-- A bad frame counts and a baud timeout returns to 115,200 bit/s; a repeated frame and a frame outside Recovery and
Operation change nothing; SET_BAUD, HELLO, STATUS, REG_READ, REG_WRITE, MAILBOX and RESET are answered as Table 19.1
says, with their effects. -/
def Obligations.ServiceFrames : Prop :=
  (∀ (s : State), svcActive s = true → exec .serviceFrameBad s = .next
    ({ s with lcu := { s.lcu with badfr := satInc s.lcu.badfr } })) ∧
  (∀ (s : State), svcActive s = false → exec .serviceFrameBad s = .next s) ∧
  (∀ (s : State), exec .serviceBaudTimeout s = .next ({ s with lcu := { s.lcu with baud := 0 } })) ∧
  (∀ (seq code : Byte) (s : State), svcFresh 0x02 seq [code] s = true → code.toNat ≤ 5 → s.did.cond = .recovery ∨
    code.toNat ≤ s.lcu.maxBaud.toNat → exec (.svcSetBaud seq code) s = .next (svcAnswered 0x02 seq [code] 0 0 []
    { s with lcu := { s.lcu with baud := code.setWidth 3 } })) ∧
  (∀ (seq code : Byte) (s : State), svcFresh 0x02 seq [code] s = true → 5 < code.toNat ∨ (s.did.cond = .operation ∧
    s.lcu.maxBaud.toNat < code.toNat) → exec (.svcSetBaud seq code) s = .next (svcAnswered 0x02 seq [code] 3 0 [] s)) ∧
  (∀ (seq code : Byte) (s : State), s.lcu.last = some (seq, crc16 (svcFrame 0x02 seq [code])) ∨ svcActive s = false →
    exec (.svcSetBaud seq code) s = .next s) ∧
  (∀ (seq : Byte) (s : State), svcFresh 0x01 seq [] s = true → ∃ t, exec (.svcHello seq) s = .next t ∧ t.lcu =
    { s.lcu with nonce := some (Config.nonce s.free), last := some (seq, crc16 (svcFrame 0x01 seq [])), resp := some { cmd := 0x81, seq := seq, status := 0, cause := 0, data := le32 (otpShadow s.otp 0) ++ [BitVec.ofNat 8 (lifecycle s.otp), if s.did.cond = .recovery then 0 else 1] ++ le32 (lcuBankWord s) ++ le32 s.nand.bank0.ver ++ le32 s.nand.bank1.ver ++ le32 (upstatWord s.lcu) ++ Config.nonce s.free } }
    ∧ t.free = s.free + 1 ∧ t.eva.raised 211 = true ∧ t.otp = s.otp ∧ t.nand = s.nand ∧ t.mem = s.mem) ∧
  (∀ (seq : Byte) (s : State), svcActive s = true → s.lcu.last ≠ some (seq, crc16 (svcFrame 0x03 seq [])) → exec
    (.svcStatus seq) s = .next (svcAnswered 0x03 seq [] (if svcBusyNow s then 1 else 0) (s.lcu.cause.setWidth 8) (le32
    (upstatWord s.lcu) ++ le32 (BitVec.ofNat 32 s.lcu.rcvd) ++ le32 s.otp.bstat.toWord ++ le32 (lcstat s.otp).toWord)
    s)) ∧
  (∀ (seq : Byte) (a : Word) (s : State), svcFresh 0x20 seq (le32 a ++ [1]) s = true → s.did.cond = .operation →
    s.lcu.paused = false → a.toNat < 2 ^ 31 → a.toNat % 4 = 0 → isReg a.toNat = true → mapAllows .domS a.toNat .read s
    = true → ∃ t, exec (.svcRegRead seq a 1) s = .next t ∧ svcAnswer t = some (0, 0) ∧ t.lcu.resp.map (fun r =>
    r.data) = some (le32 (readReg .domS a.toNat (grantTo .domS s))) ∧ t.hst.s.result = 2 ∧ t.hst.s.cause = 0 ∧ t.mem =
    s.mem) ∧
  (∀ (seq : Byte) (a : Word) (s : State), svcFresh 0x20 seq (le32 a ++ [1]) s = true → s.did.cond = .operation →
    s.lcu.paused = false → a.toNat < 2 ^ 31 → a.toNat % 4 = 0 → mapAllows .domS a.toNat .read s = false → ∃ t, exec
    (.svcRegRead seq a 1) s = .next t ∧ svcAnswer t = some (6, 7) ∧ t.lcu.resp.map (fun r => r.data) = some [0xFF,
    0xFF, 0xFF, 0xFF] ∧ t.eva.raised 212 = true ∧ t.mem = s.mem) ∧
  (∀ (seq : Byte) (a : Word) (s : State), svcFresh 0x20 seq (le32 a ++ [1]) s = true → s.did.cond = .operation →
    a.toNat % 4 ≠ 0 → exec (.svcRegRead seq a 1) s = .next (svcAnswered 0x20 seq (le32 a ++ [1]) 3 0 [] s)) ∧
  (∀ (seq : Byte) (a w : Word) (s : State), s.memOk = true → svcFresh 0x21 seq (le32 a ++ wordBytes [w]) s = true →
    s.did.cond = .operation → s.lcu.paused = false → a.toNat % 4 = 0 → inRam a.toNat = true → mapAllows .domS a.toNat
    .write s = true → ∃ t, exec (.svcRegWrite seq a [w]) s = .next t ∧ svcAnswer t = some (0, 0) ∧ readMemWord t
    a.toNat = w ∧ (∀ a', a' < a.toNat ∨ a.toNat + 4 ≤ a' → readByte t a' = readByte s a') ∧ t.sup = s.sup ∧ t.otp =
    s.otp) ∧
  (∀ (seq : Byte) (a w : Word) (s : State), svcFresh 0x21 seq (le32 a ++ wordBytes [w]) s = true → s.did.cond =
    .operation → s.lcu.paused = false → a.toNat < 2 ^ 31 → a.toNat % 4 = 0 → mapAllows .domS a.toNat .write s = false
    → ∃ t, exec (.svcRegWrite seq a [w]) s = .next t ∧ svcAnswer t = some (6, 7) ∧ t.mem = s.mem ∧ t.eva.raised 212 =
    true) ∧
  (∀ (seq : Byte) (a : Word) (ws : List Word) (s : State), svcFresh 0x21 seq (le32 a ++ wordBytes ws) s = true →
    s.did.cond = .recovery → exec (.svcRegWrite seq a ws) s = .next (svcAnswered 0x21 seq (le32 a ++ wordBytes ws) 4 0
    [] s)) ∧
  (∀ (seq cmd : Byte) (arg : Word) (s : State), svcFresh 0x22 seq ([cmd, 0, 0, 0] ++ le32 arg) s = true → s.did.cond =
    .operation → s.lcu.paused = false → mapAllows .domS 0x40025020 .write s = true → mapAllows .domS 0x40025024 .write
    s = true → mbCause .s cmd arg s = 0 → ∃ t, exec (.svcMailbox seq cmd arg) s = .next t ∧ svcAnswer t = some (1, 0)
    ∧ t.hst.s.mbcmd = cmd ∧ t.hst.s.mbarg = arg ∧ t.hst.s.mbstat = { state := 1, cause := 0 } ∧ t.hst.a = s.hst.a ∧
    t.hst.b = s.hst.b ∧ t.mem = s.mem) ∧
  (∀ (seq cmd : Byte) (arg : Word) (s : State), svcFresh 0x22 seq ([cmd, 0, 0, 0] ++ le32 arg) s = true → s.did.cond =
    .operation → s.lcu.paused = false → mapAllows .domS 0x40025020 .write s = true → mapAllows .domS 0x40025024 .write
    s = true → mbCause .s cmd arg s ≠ 0 → ∃ t, exec (.svcMailbox seq cmd arg) s = .next t ∧ svcAnswer t = some (6,
    (mbCause .s cmd arg s).setWidth 8) ∧ t.hst.s.mbstat = { state := 3, cause := mbCause .s cmd arg s } ∧ t.mem =
    s.mem) ∧
  (∀ (seq : Byte) (s : State), svcFresh 0x3F seq (le32 0x2448) s = true → ∃ t, exec (.svcReset seq 0x2448) s = .next t
    ∧ svcAnswer t = some (0, 0) ∧ t.did =
    { s.did with preReset := true, released := false, srcs := { s.did.srcs with warden := true, wcause := 5 } } ∧
    t.otp = s.otp ∧ t.nand = s.nand) ∧
  (∀ (seq : Byte) (arg : Word) (s : State), svcFresh 0x3F seq (le32 arg) s = true → arg ≠ 0x2448 → exec (.svcReset seq
    arg) s = .next (svcAnswered 0x3F seq (le32 arg) 3 0 [] s))

/-- BEGIN refuses, resumes or erases and receives; DATA appends the next bytes to the target; END checks the image and
sets STATE 4 or the cause; ABORT and the timeout end a transfer, and each wrong STATE or argument is answered 3, 4
or 7 with nothing done; a block that fails is replaced, or ends the transfer with cause 16, and the bank or slot
then takes no other. -/
def Obligations.UpdateTransfer : Prop :=
  (∀ (seq target : Byte) (hdr : List Byte) (o : FlashOp) (s : State), svcFresh 0x10 seq ([target, 0, 0, 0] ++ hdr) s =
    true → 1 < target.toNat ∨ headerWhole target hdr = false → exec (.svcBegin seq target hdr o) s = .next
    (svcAnswered 0x10 seq ([target, 0, 0, 0] ++ hdr) 3 0 [] s)) ∧
  (∀ (seq : Byte) (hdr : List Byte) (o : FlashOp) (s : State), svcFresh 0x10 seq ([1, 0, 0, 0] ++ hdr) s = true →
    hdr.length = 64 → lifecycle s.otp = 0 ∨ lifecycle s.otp = 4 → exec (.svcBegin seq 1 hdr o) s = .next (svcAnswered
    0x10 seq ([1, 0, 0, 0] ++ hdr) 4 0 [] s)) ∧
  (∀ (seq : Byte) (hdr : List Byte) (o : FlashOp) (s : State), svcFresh 0x10 seq ([0, 0, 0, 0] ++ hdr) s = true →
    headerWhole 0 hdr = true → s.lcu.state = 2 ∨ s.lcu.state = 4 → s.lcu.target = false → s.lcu.header = hdr → exec
    (.svcBegin seq 0 hdr o) s = .next (svcAnswered 0x10 seq ([0, 0, 0, 0] ++ hdr) 0 0 (le32 (BitVec.ofNat 32
    s.lcu.rcvd)) s)) ∧
  (∀ (seq : Byte) (hdr : List Byte) (o : FlashOp) (s : State), svcFresh 0x10 seq ([0, 0, 0, 0] ++ hdr) s = true →
    headerWhole 0 hdr = true → updateOpen s.lcu = true → s.lcu.state = 5 ∨ s.lcu.target = true ∨ s.lcu.header ≠ hdr →
    exec (.svcBegin seq 0 hdr o) s = .next (svcAnswered 0x10 seq ([0, 0, 0, 0] ++ hdr) 7 0 [] s)) ∧
  (∀ (seq : Byte) (hdr : List Byte) (o : FlashOp) (s : State), svcFresh 0x10 seq ([0, 0, 0, 0] ++ hdr) s = true →
    headerWhole 0 hdr = true → updateOpen s.lcu = false → headerCause false hdr s ≠ 0 → exec (.svcBegin seq 0 hdr o) s
    = .next (svcAnswered 0x10 seq ([0, 0, 0, 0] ++ hdr) 6 ((headerCause false hdr s).setWidth 8) []
    { s with lcu := { s.lcu with cause := headerCause false hdr s } })) ∧
  (∀ (seq : Byte) (hdr : List Byte) (o : FlashOp) (s : State), svcFresh 0x10 seq ([1, 0, 0, 0] ++ hdr) s = true →
    hdr.length = 64 → lifecycle s.otp ≠ 0 → lifecycle s.otp ≠ 4 → updateOpen s.lcu = false → headerCause true hdr s =
    0 → s.did.cond = .operation → updateCause s ≠ 0 → exec (.svcBegin seq 1 hdr o) s = .next (svcAnswered 0x10 seq
    ([1, 0, 0, 0] ++ hdr) 6 ((updateCause s).setWidth 8) [] { s with lcu := { s.lcu with cause := updateCause s } })) ∧
  (∀ (seq : Byte) (hdr : List Byte) (o : FlashOp) (s : State), svcFresh 0x10 seq ([1, 0, 0, 0] ++ hdr) s = true →
    hdr.length = 64 → lifecycle s.otp ≠ 0 → lifecycle s.otp ≠ 4 → updateOpen s.lcu = false → headerCause true hdr s =
    0 → s.did.cond = .operation ∨ partitionsGood s = true → s.did.cond = .recovery ∨ updateCause s = 0 → s.lcu.cfgSlot
    = false → s.nand.deadSlot = 0 → o.fails = false → o.wear.toNat ≤ s.nvc.wear.maxw.toNat → exec (.svcBegin seq 1 hdr
    o) s = .next (svcAnswered 0x10 seq ([1, 0, 0, 0] ++ hdr) 1 0 []
    { s with nand := { s.nand with slot1 := [] }, lcu := { s.lcu with state := 2, target := true, abortLate := false, cause := 0, rcvd := 0, header := hdr } })) ∧
  (∀ (seq : Byte) (hdr : List Byte) (o : FlashOp) (s : State), svcFresh 0x10 seq ([1, 0, 0, 0] ++ hdr) s = true →
    hdr.length = 64 → lifecycle s.otp ≠ 0 → lifecycle s.otp ≠ 4 → updateOpen s.lcu = false → headerCause true hdr s =
    0 → s.did.cond = .recovery → partitionsGood s = true → s.nand.deadSlot = 0 → s.nand.free = 0 → s.nand.logN ≤ 64 →
    o.fails = true → ∃ t, exec (.svcBegin seq 1 hdr o) s = .next t ∧ svcAnswer t = some (6, 16) ∧ t.lcu.state = 0 ∧
    t.lcu.cause = 16 ∧ t.lcu.rcvd = 0 ∧ t.otp = s.otp ∧ t.nand.deadSlot = (if s.lcu.cfgSlot then 1 else 2)) ∧
  (∀ (seq : Byte) (hdr : List Byte) (o : FlashOp) (s : State), svcFresh 0x10 seq ([0, 0, 0, 0] ++ hdr) s = true →
    headerWhole 0 hdr = true → updateOpen s.lcu = false → s.did.cond = .recovery → s.nand.deadBank = 0 → o.fails =
    false → ∃ t, exec (.svcBegin seq 0 hdr o) s = .next t ∧ svcAnswer t = some (if fwHeaderCause s.otp none hdr = 0
    then (1, 0) else (6, (fwHeaderCause s.otp none hdr).setWidth 8)) ∧ t.lcu.state = (if fwHeaderCause s.otp none hdr
    = 0 then 2 else s.lcu.state) ∧ t.lcu.cause = fwHeaderCause s.otp none hdr) ∧
  (∀ (seq : Byte) (hdr : List Byte) (o : FlashOp) (s : State), svcFresh 0x10 seq ([1, 0, 0, 0] ++ hdr) s = true →
    hdr.length = 64 → lifecycle s.otp ≠ 0 → lifecycle s.otp ≠ 4 → updateOpen s.lcu = false → headerCause true hdr s =
    0 → s.did.cond = .recovery → partitionsGood s = true → s.lcu.cfgSlot = true → s.nand.deadSlot = 1 → exec
    (.svcBegin seq 1 hdr o) s = .next (svcAnswered 0x10 seq ([1, 0, 0, 0] ++ hdr) 6 16 []
    { s with lcu := { s.lcu with cause := 16 } })) ∧
  (∀ (seq : Byte) (off : Word) (data : List Byte) (o : FlashOp) (s : State), svcFresh 0x11 seq (le32 off ++ data) s =
    true → s.lcu.state ≠ 2 → exec (.svcData seq off data o) s = .next (svcAnswered 0x11 seq (le32 off ++ data) 4 0 []
    s)) ∧
  (∀ (seq : Byte) (off : Word) (data : List Byte) (o : FlashOp) (s : State), svcFresh 0x11 seq (le32 off ++ data) s =
    true → s.lcu.state = 2 → dataOk off.toNat data s = false → exec (.svcData seq off data o) s = .next (svcAnswered
    0x11 seq (le32 off ++ data) 3 0 [] s)) ∧
  (∀ (seq : Byte) (off : Word) (data : List Byte) (o : FlashOp) (s : State), svcFresh 0x11 seq (le32 off ++ data) s =
    true → s.lcu.state = 2 → dataOk off.toNat data s = true → s.nand.free = 0 → s.nand.logN ≤ 64 → s.lcu.target =
    false → s.lcu.active = false → o.fails = true → ∃ t, exec (.svcData seq off data o) s = .next t ∧ svcAnswer t =
    some (6, 16) ∧ t.lcu.state = 0 ∧ t.lcu.cause = 16 ∧ t.lcu.rcvd = 0 ∧ t.lcu.header = [] ∧ t.nand.bank1.st = 3 ∧
    t.nand.deadBank = s.nand.deadBank ||| 2 ∧ t.nand.bank1.content = s.nand.bank1.content) ∧
  (∀ (seq : Byte) (off : Word) (data : List Byte) (o : FlashOp) (s : State), svcFresh 0x11 seq (le32 off ++ data) s =
    true → s.lcu.state = 2 → dataOk off.toNat data s = true → o.fails = false ∨ 0 < s.nand.free → ∃ t, exec (.svcData
    seq off data o) s = .next t ∧ svcAnswer t = some (0, 0) ∧ targetBytes t = targetBytes s ++ data ∧ t.lcu.rcvd =
    s.lcu.rcvd + data.length ∧ t.lcu.state = 2 ∧ t.lcu.header = s.lcu.header ∧ t.nand.settings = s.nand.settings ∧
    t.nand.ptrs = s.nand.ptrs ∧ t.nand.log = s.nand.log ∧ bankAt s.lcu.active t = bankAt s.lcu.active s) ∧
  (∀ (seq : Byte) (s : State), svcFresh 0x12 seq [] s = true → s.lcu.state ≠ 2 → exec (.svcEnd seq) s = .next
    (svcAnswered 0x12 seq [] 4 0 [] s)) ∧
  (∀ (seq : Byte) (s : State), svcFresh 0x12 seq [] s = true → s.lcu.state = 2 → s.lcu.rcvd ≠ imgLen s → exec (.svcEnd
    seq) s = .next (svcAnswered 0x12 seq [] 3 0 [] s)) ∧
  (∀ (seq : Byte) (s : State), svcFresh 0x12 seq [] s = true → s.lcu.state = 2 → s.lcu.rcvd = imgLen s → s.lcu.target
    = true → ∃ t, exec (.svcEnd seq) s = .next t ∧ svcAnswer t = some (1, 0) ∧ t.lcu.cause = cfgEndCause s.otp
    s.lcu.header (targetBytes s) ∧ t.lcu.state = (if cfgEndCause s.otp s.lcu.header (targetBytes s) = 0 then 4 else 0)
    ∧ t.nand = s.nand) ∧
  (∀ (seq : Byte) (s : State), svcFresh 0x12 seq [] s = true → s.lcu.state = 2 → s.lcu.rcvd = imgLen s → s.lcu.target
    = false → ∃ t, exec (.svcEnd seq) s = .next t ∧ svcAnswer t = some (1, 0) ∧ t.lcu.cause = fwEndCause s.otp
    s.lcu.header (targetBytes s) ∧ t.lcu.state = (if fwEndCause s.otp s.lcu.header (targetBytes s) = 0 then 4 else 0)
    ∧ (bankAt (!s.lcu.active) t).st = (if fwEndCause s.otp s.lcu.header (targetBytes s) = 0 then 2 else (bankAt
    (!s.lcu.active) s).st) ∧ bankAt s.lcu.active t = bankAt s.lcu.active s) ∧
  (∀ (seq : Byte) (s : State), svcFresh 0x14 seq [] s = true → s.lcu.state = 2 ∨ s.lcu.state = 4 → exec (.svcAbort
    seq) s = .next (svcAnswered 0x14 seq [] 0 0 []
    { s with lcu := { s.lcu with state := 0, cause := 0, rcvd := 0, header := [] } })) ∧
  (∀ (seq : Byte) (s : State), svcFresh 0x14 seq [] s = true → s.lcu.state = 5 ∨ s.lcu.state = 6 → exec (.svcAbort
    seq) s = .next (svcAnswered 0x14 seq [] 4 0 [] { s with lcu := { s.lcu with abortLate := true } })) ∧
  (∀ (seq : Byte) (s : State), svcFresh 0x14 seq [] s = true → s.lcu.state = 0 ∨ s.lcu.state = 7 → exec (.svcAbort
    seq) s = .next (svcAnswered 0x14 seq [] 4 0 [] s)) ∧
  (∀ (s : State), s.lcu.state = 2 ∨ s.lcu.state = 4 → exec .updateTimeout s = .next
    ({ s with lcu := { s.lcu with state := 0, rcvd := 0, header := [] } })) ∧
  (∀ (s : State), s.lcu.state ≠ 2 → s.lcu.state ≠ 4 → exec .updateTimeout s = .next s)

/-- ACTIVATE is refused with cause 17 unless STATE is 4, writes a pointer record that names the new bank or slot, and
in Operation stops the cores; ACTIVATION_RESTART_DONE starts them again, resets, or rolls back; FIRMWARE_CONFIRM
writes TRIAL 0; ROLLBACK returns to the previous bank; SLICE_RELOAD gives the turn to the next slice. -/
def Obligations.Activation : Prop :=
  (∀ (seq : Byte) (s : State), svcFresh 0x13 seq [] s = true → s.lcu.state ≠ 4 → exec (.svcActivate seq) s = .next
    (svcAnswered 0x13 seq [] 6 17 [] { s with lcu := { s.lcu with cause := 17 } })) ∧
  (∀ (seq : Byte) (s : State), svcFresh 0x13 seq [] s = true → s.lcu.state = 4 → s.did.cond = .operation → updateCause
    s ≠ 0 → exec (.svcActivate seq) s = .next (svcAnswered 0x13 seq [] 6 ((updateCause s).setWidth 8) []
    { s with lcu := { s.lcu with cause := updateCause s } })) ∧
  (∀ (seq : Byte) (s : State), svcFresh 0x13 seq [] s = true → s.lcu.state = 4 → s.lcu.target = true → s.did.cond =
    .recovery ∨ updateCause s = 0 → ∃ t, exec (.svcActivate seq) s = .next t ∧ svcAnswer t = some (0, 0) ∧ t.lcu.state
    = 0 ∧ t.lcu.cfgSlot = !s.lcu.cfgSlot ∧ t.lcu.active = s.lcu.active ∧ t.lcu.trial = s.lcu.trial ∧
    t.nand.ptrs.head?.map (fun r => r.cfgSlot) = some (!s.lcu.cfgSlot) ∧ t.nand.ptrs.tail = s.nand.ptrs ∧ t.nand.slot0
    = s.nand.slot0 ∧ t.did = s.did) ∧
  (∀ (seq : Byte) (s : State), svcFresh 0x13 seq [] s = true → s.lcu.state = 4 → s.lcu.target = false → s.did.cond =
    .recovery → ∃ t, exec (.svcActivate seq) s = .next t ∧ svcAnswer t = some (0, 0) ∧ t.lcu.state = 0 ∧ t.lcu.active
    = !s.lcu.active ∧ t.lcu.trial = false ∧ t.lcu.cfgSlot = s.lcu.cfgSlot ∧ t.nand.ptrs.head?.map (fun r => (r.active,
    r.trial, r.prev)) = some (!s.lcu.active, false, s.lcu.active) ∧ t.nand.ptrs.tail = s.nand.ptrs ∧ t.did = s.did) ∧
  (∀ (seq : Byte) (s : State), svcFresh 0x13 seq [] s = true → s.lcu.state = 4 → s.lcu.target = false → s.did.cond =
    .operation → updateCause s = 0 → ∃ t, exec (.svcActivate seq) s = .next t ∧ svcAnswer t = some (1, 0) ∧
    t.lcu.state = 5 ∧ t.lcu.active = !s.lcu.active ∧ t.lcu.trial = true ∧ t.lcu.paused = true ∧ policyRuns t = false ∧
    wardenRuns t = false ∧ t.nand.ptrs.head?.map (fun r => (r.active, r.trial, r.prev)) = some (!s.lcu.active, true,
    s.lcu.active) ∧ t.eva.raised 221 = true) ∧
  (∀ (r : RestartCheck) (s : State), s.lcu.paused = false → exec (.activationRestartDone r) s = .next s) ∧
  (∀ (s : State), s.lcu.paused = true → s.did.preReset = false → s.did.cond = .operation → ∃ t, exec
    (.activationRestartDone .badConfig) s = .next t ∧ t.did =
    { s.did with preReset := true, released := false, srcs := { s.did.srcs with warden := true, wcause := 2 } } ∧
    t.lcu = s.lcu ∧ t.nand = s.nand) ∧
  (∀ (s : State), s.lcu.paused = true → s.lcu.rolling = true → s.did.preReset = false → s.did.cond = .operation → ∃ t,
    exec (.activationRestartDone .badFirmware) s = .next t ∧ t.did =
    { s.did with preReset := true, released := false, srcs := { s.did.srcs with warden := true, wcause := 3 } } ∧
    t.lcu = s.lcu ∧ t.nand = s.nand) ∧
  (∀ (s : State), s.lcu.paused = true → s.lcu.rolling = false → ∃ t, exec (.activationRestartDone .badFirmware) s =
    .next t ∧ t.lcu.state = 7 ∧ t.lcu.rolling = true ∧ t.lcu.paused = true ∧ t.lcu.trial = false ∧ t.lcu.active =
    prevBank s ∧ (bankAt (!prevBank s) t).st = 3 ∧ t.eva.raised 222 = true) ∧
  (∀ (s : State), s.lcu.paused = true → ∃ t, exec (.activationRestartDone .good) s = .next t ∧ t.lcu.paused = false ∧
    t.lcu.state = (if s.lcu.rolling then 7 else 6) ∧ t.lcu.active = s.lcu.active ∧ t.did.fwrun = (bankAt s.lcu.active
    s).ver ∧ t.did.policy = { s.did.policy with restarting := false } ∧ t.did.warden =
    { s.did.warden with restarting := false } ∧ t.bud.rnd = 0 ∧ t.fab.prot.lk = true ∧ t.nand = s.nand) ∧
  (∀ (s : State), s.lcu.state = 6 → policyRuns s = true → wardenRuns s = true → 0 < s.bud.rnd → ∃ t, exec
    .firmwareConfirm s = .next t ∧ t.lcu.state = 0 ∧ t.lcu.trial = false ∧ t.lcu.active = s.lcu.active ∧
    t.nand.ptrs.head?.map (fun r => (r.active, r.trial, r.cfgSlot)) = some (s.lcu.active, false, s.lcu.cfgSlot) ∧
    t.nand.ptrs.tail = s.nand.ptrs ∧ t.eva.raised 221 = true ∧ t.mem = s.mem) ∧
  (∀ (s : State), s.lcu.state ≠ 6 ∨ policyRuns s = false ∨ wardenRuns s = false ∨ s.bud.rnd = 0 → exec
    .firmwareConfirm s = .next s) ∧
  (∀ (s : State), s.lcu.state = 5 ∨ s.lcu.state = 6 → ∃ t, exec .rollback s = .next t ∧ t.lcu.state = 7 ∧
    t.lcu.rolling = true ∧ t.lcu.paused = true ∧ t.lcu.trial = false ∧ t.lcu.active = prevBank s ∧ (bankAt (!prevBank
    s) t).st = 3 ∧ t.nand.ptrs.head?.map (fun r => (r.active, r.trial)) = some (prevBank s, false) ∧ t.eva.raised 222
    = true ∧ policyRuns t = false ∧ wardenRuns t = false) ∧
  (∀ (s : State), s.lcu.state ≠ 5 → s.lcu.state ≠ 6 → exec .rollback s = .next s) ∧
  (∀ (p : Port) (s : State), s.lcu.paused = true ∨ s.lcu.turn ≠ some p.val ∨ reloadReady p s = false → exec
    (.sliceReload p) s = .next s) ∧
  (∀ (p : Port) (s : State), s.lcu.paused = false → s.lcu.turn = some p.val → reloadReady p s = true → (s.slice
    p).off.contract.kind = 0 ∨ (s.slice p).pd.pdstat.pdSilent = true → exec (.sliceReload p) s = .next
    ({ s with lcu := { s.lcu with turn := if p.val + 1 < s.lcu.turns then some (p.val + 1) else none } })) ∧
  (∀ (p : Port) (s : State), s.did.released = true → s.lcu.paused = false → s.lcu.turn = some p.val → reloadReady p s
    = true → (s.slice p).off.contract.kind ≠ 0 → (s.slice p).pd.pdstat.pdSilent = false → sopActive (s.slice p) = true
    → (s.slice p).pd.ready = [] → ∃ t, exec (.sliceReload p) s = .next t ∧ t.lcu.turn = (if p.val + 1 < s.lcu.turns
    then some (p.val + 1) else none) ∧ (t.slice p).pd.inflight = some
    { ctx := .sop, kind := .softReset, prio := .ams, cont := true, why := .reload } ∧ (t.slice p).pd.txId.sop = 0 ∧
    (t.slice p).pd.rxId.sop = none ∧ (t.slice p).off.contract = (s.slice p).off.contract ∧ (∀ q, q ≠ p → t.slice q =
    s.slice q))

end
end

