-- ==== Sys2Proof/Laws/State.lean ====
section
/-!
SUPPORT. The small lemmas of State: what each named update does to each field, and how reading a slice meets a change of a
slice. Later proofs cite these and unfold no record update.
-/

namespace Sys2Proof.Machine

/-! ## Vectors and slices -/

theorem get_updAt {α : Type} {n : Nat} (v : Vector α n) (k j : Fin n) (f : α → α) :
    (updAt v k f).get j = if j = k then f (v.get k) else v.get j := by
  simp only [updAt, Vector.get_eq_getElem, Vector.getElem_set]
  rcases eq_or_ne j k with h | h
  · simp [h]
  · have : k.val ≠ j.val := fun e => h (Fin.ext e.symm)
    simp [h, this]

@[simp] theorem get_updAt_self {α : Type} {n : Nat} (v : Vector α n) (k : Fin n) (f : α → α) :
    (updAt v k f).get k = f (v.get k) := by simp [get_updAt]

@[simp] theorem get_updAt_ne {α : Type} {n : Nat} (v : Vector α n) {k j : Fin n} (f : α → α) (h : j ≠ k) :
    (updAt v k f).get j = v.get j := by simp [get_updAt, h]

theorem updAt_updAt {α : Type} {n : Nat} (v : Vector α n) (k : Fin n) (f g : α → α) :
    updAt (updAt v k f) k g = updAt v k (fun x => g (f x)) := by
  apply Vector.ext; intro i hi
  have e := fun (u : Vector α n) (f : α → α) => get_updAt u k ⟨i, hi⟩ f
  simp only [Vector.get_eq_getElem] at e
  rw [e, e, e]; split
  · have := get_updAt_self v k f
    simp only [Vector.get_eq_getElem] at this; rw [this]
  · rfl

@[simp] theorem updAt_const {α : Type} {n : Nat} (v : Vector α n) (k : Fin n) (f : α → α) (c : α) :
    updAt (updAt v k f) k (fun _ => c) = updAt v k (fun _ => c) := updAt_updAt v k f _

@[simp] theorem slice_onSlice (p : Port) (f : Slice → Slice) (s : State) : (onSlice p f s).slice p = f (s.slice p) := by
  simp [State.slice, onSlice]

@[simp] theorem slice_onSlice_ne {p q : Port} (f : Slice → Slice) (s : State) (h : q ≠ p) :
    (onSlice p f s).slice q = s.slice q := by simp [State.slice, onSlice, h]

@[simp] theorem slice_onAtt (p : Port) (f) (s : State) :
    (onAtt p f s).slice p = { s.slice p with att := f (s.slice p).att } := slice_onSlice p _ s

@[simp] theorem slice_onAtt_ne {p q : Port} (f) (s : State) (h : q ≠ p) : (onAtt p f s).slice q = s.slice q :=
  slice_onSlice_ne _ s h

@[simp] theorem slice_onPd (p : Port) (f) (s : State) :
    (onPd p f s).slice p = { s.slice p with pd := f (s.slice p).pd } := slice_onSlice p _ s

@[simp] theorem slice_onPd_ne {p q : Port} (f) (s : State) (h : q ≠ p) : (onPd p f s).slice q = s.slice q :=
  slice_onSlice_ne _ s h

@[simp] theorem slice_onOff (p : Port) (f) (s : State) :
    (onOff p f s).slice p = { s.slice p with off := f (s.slice p).off } := slice_onSlice p _ s

@[simp] theorem slice_onOff_ne {p q : Port} (f) (s : State) (h : q ≠ p) : (onOff p f s).slice q = s.slice q :=
  slice_onSlice_ne _ s h

@[simp] theorem slice_onMb (p : Port) (f) (s : State) :
    (onMb p f s).slice p = { s.slice p with mb := f (s.slice p).mb } := slice_onSlice p _ s

@[simp] theorem slice_onMb_ne {p q : Port} (f) (s : State) (h : q ≠ p) : (onMb p f s).slice q = s.slice q :=
  slice_onSlice_ne _ s h

@[simp] theorem slice_onPs (p : Port) (f) (s : State) :
    (onPs p f s).slice p = { s.slice p with ps := f (s.slice p).ps } := slice_onSlice p _ s

@[simp] theorem slice_onPs_ne {p q : Port} (f) (s : State) (h : q ≠ p) : (onPs p f s).slice q = s.slice q :=
  slice_onSlice_ne _ s h

@[simp] theorem slice_onSw (p : Port) (f) (s : State) :
    (onSw p f s).slice p = { s.slice p with sw := f (s.slice p).sw } := slice_onSlice p _ s

@[simp] theorem slice_onSw_ne {p q : Port} (f) (s : State) (h : q ≠ p) : (onSw p f s).slice q = s.slice q :=
  slice_onSlice_ne _ s h

@[simp] theorem slice_onPr (p : Port) (f) (s : State) :
    (onPr p f s).slice p = { s.slice p with pr := f (s.slice p).pr } := slice_onSlice p _ s

@[simp] theorem slice_onPr_ne {p q : Port} (f) (s : State) (h : q ≠ p) : (onPr p f s).slice q = s.slice q :=
  slice_onSlice_ne _ s h

@[simp] theorem slice_onGr (p : Port) (f) (s : State) :
    (onGr p f s).slice p = { s.slice p with gr := f (s.slice p).gr } := slice_onSlice p _ s

@[simp] theorem slice_onGr_ne {p q : Port} (f) (s : State) (h : q ≠ p) : (onGr p f s).slice q = s.slice q :=
  slice_onSlice_ne _ s h

@[simp] theorem slice_onTh (p : Port) (f) (s : State) :
    (onTh p f s).slice p = { s.slice p with th := f (s.slice p).th } := slice_onSlice p _ s

@[simp] theorem slice_onTh_ne {p q : Port} (f) (s : State) (h : q ≠ p) : (onTh p f s).slice q = s.slice q :=
  slice_onSlice_ne _ s h

@[simp] theorem slice_onPins (p : Port) (f) (s : State) :
    (onPins p f s).slice p = { s.slice p with pins := f (s.slice p).pins } := slice_onSlice p _ s

@[simp] theorem slice_onPins_ne {p q : Port} (f) (s : State) (h : q ≠ p) : (onPins p f s).slice q = s.slice q :=
  slice_onSlice_ne _ s h

/-! ## Fields -/

/-! `onSup` -/

@[simp] theorem onSup_slices (f : Sup → Sup) (s : State) : (onSup f s).slices = s.slices := rfl
@[simp] theorem onSup_sup (f : Sup → Sup) (s : State) : (onSup f s).sup = f s.sup := rfl
@[simp] theorem onSup_did (f : Sup → Sup) (s : State) : (onSup f s).did = s.did := rfl
@[simp] theorem onSup_evr (f : Sup → Sup) (s : State) : (onSup f s).evr = s.evr := rfl
@[simp] theorem onSup_eva (f : Sup → Sup) (s : State) : (onSup f s).eva = s.eva := rfl
@[simp] theorem onSup_bud (f : Sup → Sup) (s : State) : (onSup f s).bud = s.bud := rfl
@[simp] theorem onSup_kln (f : Sup → Sup) (s : State) : (onSup f s).kln = s.kln := rfl
@[simp] theorem onSup_cyc (f : Sup → Sup) (s : State) : (onSup f s).cyc = s.cyc := rfl
@[simp] theorem onSup_syn (f : Sup → Sup) (s : State) : (onSup f s).syn = s.syn := rfl
@[simp] theorem onSup_hst (f : Sup → Sup) (s : State) : (onSup f s).hst = s.hst := rfl
@[simp] theorem onSup_aux (f : Sup → Sup) (s : State) : (onSup f s).aux = s.aux := rfl
@[simp] theorem onSup_fab (f : Sup → Sup) (s : State) : (onSup f s).fab = s.fab := rfl
@[simp] theorem onSup_dma (f : Sup → Sup) (s : State) : (onSup f s).dma = s.dma := rfl
@[simp] theorem onSup_nvc (f : Sup → Sup) (s : State) : (onSup f s).nvc = s.nvc := rfl
@[simp] theorem onSup_nand (f : Sup → Sup) (s : State) : (onSup f s).nand = s.nand := rfl
@[simp] theorem onSup_otp (f : Sup → Sup) (s : State) : (onSup f s).otp = s.otp := rfl
@[simp] theorem onSup_lcu (f : Sup → Sup) (s : State) : (onSup f s).lcu = s.lcu := rfl
@[simp] theorem onSup_mem (f : Sup → Sup) (s : State) : (onSup f s).mem = s.mem := rfl
@[simp] theorem onSup_free (f : Sup → Sup) (s : State) : (onSup f s).free = s.free := rfl
@[simp] theorem onSup_pending (f : Sup → Sup) (s : State) : (onSup f s).pending = s.pending := rfl
@[simp] theorem onSup_slice (f : Sup → Sup) (s : State) (q : Port) : (onSup f s).slice q = s.slice q := rfl

/-! `onDid` -/

@[simp] theorem onDid_slices (f : Did → Did) (s : State) : (onDid f s).slices = s.slices := rfl
@[simp] theorem onDid_sup (f : Did → Did) (s : State) : (onDid f s).sup = s.sup := rfl
@[simp] theorem onDid_did (f : Did → Did) (s : State) : (onDid f s).did = f s.did := rfl
@[simp] theorem onDid_evr (f : Did → Did) (s : State) : (onDid f s).evr = s.evr := rfl
@[simp] theorem onDid_eva (f : Did → Did) (s : State) : (onDid f s).eva = s.eva := rfl
@[simp] theorem onDid_bud (f : Did → Did) (s : State) : (onDid f s).bud = s.bud := rfl
@[simp] theorem onDid_kln (f : Did → Did) (s : State) : (onDid f s).kln = s.kln := rfl
@[simp] theorem onDid_cyc (f : Did → Did) (s : State) : (onDid f s).cyc = s.cyc := rfl
@[simp] theorem onDid_syn (f : Did → Did) (s : State) : (onDid f s).syn = s.syn := rfl
@[simp] theorem onDid_hst (f : Did → Did) (s : State) : (onDid f s).hst = s.hst := rfl
@[simp] theorem onDid_aux (f : Did → Did) (s : State) : (onDid f s).aux = s.aux := rfl
@[simp] theorem onDid_fab (f : Did → Did) (s : State) : (onDid f s).fab = s.fab := rfl
@[simp] theorem onDid_dma (f : Did → Did) (s : State) : (onDid f s).dma = s.dma := rfl
@[simp] theorem onDid_nvc (f : Did → Did) (s : State) : (onDid f s).nvc = s.nvc := rfl
@[simp] theorem onDid_nand (f : Did → Did) (s : State) : (onDid f s).nand = s.nand := rfl
@[simp] theorem onDid_otp (f : Did → Did) (s : State) : (onDid f s).otp = s.otp := rfl
@[simp] theorem onDid_lcu (f : Did → Did) (s : State) : (onDid f s).lcu = s.lcu := rfl
@[simp] theorem onDid_mem (f : Did → Did) (s : State) : (onDid f s).mem = s.mem := rfl
@[simp] theorem onDid_free (f : Did → Did) (s : State) : (onDid f s).free = s.free := rfl
@[simp] theorem onDid_pending (f : Did → Did) (s : State) : (onDid f s).pending = s.pending := rfl
@[simp] theorem onDid_slice (f : Did → Did) (s : State) (q : Port) : (onDid f s).slice q = s.slice q := rfl

/-! `onEvr` -/

@[simp] theorem onEvr_slices (f : Evr → Evr) (s : State) : (onEvr f s).slices = s.slices := rfl
@[simp] theorem onEvr_sup (f : Evr → Evr) (s : State) : (onEvr f s).sup = s.sup := rfl
@[simp] theorem onEvr_did (f : Evr → Evr) (s : State) : (onEvr f s).did = s.did := rfl
@[simp] theorem onEvr_evr (f : Evr → Evr) (s : State) : (onEvr f s).evr = f s.evr := rfl
@[simp] theorem onEvr_eva (f : Evr → Evr) (s : State) : (onEvr f s).eva = s.eva := rfl
@[simp] theorem onEvr_bud (f : Evr → Evr) (s : State) : (onEvr f s).bud = s.bud := rfl
@[simp] theorem onEvr_kln (f : Evr → Evr) (s : State) : (onEvr f s).kln = s.kln := rfl
@[simp] theorem onEvr_cyc (f : Evr → Evr) (s : State) : (onEvr f s).cyc = s.cyc := rfl
@[simp] theorem onEvr_syn (f : Evr → Evr) (s : State) : (onEvr f s).syn = s.syn := rfl
@[simp] theorem onEvr_hst (f : Evr → Evr) (s : State) : (onEvr f s).hst = s.hst := rfl
@[simp] theorem onEvr_aux (f : Evr → Evr) (s : State) : (onEvr f s).aux = s.aux := rfl
@[simp] theorem onEvr_fab (f : Evr → Evr) (s : State) : (onEvr f s).fab = s.fab := rfl
@[simp] theorem onEvr_dma (f : Evr → Evr) (s : State) : (onEvr f s).dma = s.dma := rfl
@[simp] theorem onEvr_nvc (f : Evr → Evr) (s : State) : (onEvr f s).nvc = s.nvc := rfl
@[simp] theorem onEvr_nand (f : Evr → Evr) (s : State) : (onEvr f s).nand = s.nand := rfl
@[simp] theorem onEvr_otp (f : Evr → Evr) (s : State) : (onEvr f s).otp = s.otp := rfl
@[simp] theorem onEvr_lcu (f : Evr → Evr) (s : State) : (onEvr f s).lcu = s.lcu := rfl
@[simp] theorem onEvr_mem (f : Evr → Evr) (s : State) : (onEvr f s).mem = s.mem := rfl
@[simp] theorem onEvr_free (f : Evr → Evr) (s : State) : (onEvr f s).free = s.free := rfl
@[simp] theorem onEvr_pending (f : Evr → Evr) (s : State) : (onEvr f s).pending = s.pending := rfl
@[simp] theorem onEvr_slice (f : Evr → Evr) (s : State) (q : Port) : (onEvr f s).slice q = s.slice q := rfl

/-! `onLcu` -/

@[simp] theorem onLcu_slices (f : Lcu → Lcu) (s : State) : (onLcu f s).slices = s.slices := rfl
@[simp] theorem onLcu_sup (f : Lcu → Lcu) (s : State) : (onLcu f s).sup = s.sup := rfl
@[simp] theorem onLcu_did (f : Lcu → Lcu) (s : State) : (onLcu f s).did = s.did := rfl
@[simp] theorem onLcu_evr (f : Lcu → Lcu) (s : State) : (onLcu f s).evr = s.evr := rfl
@[simp] theorem onLcu_eva (f : Lcu → Lcu) (s : State) : (onLcu f s).eva = s.eva := rfl
@[simp] theorem onLcu_bud (f : Lcu → Lcu) (s : State) : (onLcu f s).bud = s.bud := rfl
@[simp] theorem onLcu_kln (f : Lcu → Lcu) (s : State) : (onLcu f s).kln = s.kln := rfl
@[simp] theorem onLcu_cyc (f : Lcu → Lcu) (s : State) : (onLcu f s).cyc = s.cyc := rfl
@[simp] theorem onLcu_syn (f : Lcu → Lcu) (s : State) : (onLcu f s).syn = s.syn := rfl
@[simp] theorem onLcu_hst (f : Lcu → Lcu) (s : State) : (onLcu f s).hst = s.hst := rfl
@[simp] theorem onLcu_aux (f : Lcu → Lcu) (s : State) : (onLcu f s).aux = s.aux := rfl
@[simp] theorem onLcu_fab (f : Lcu → Lcu) (s : State) : (onLcu f s).fab = s.fab := rfl
@[simp] theorem onLcu_dma (f : Lcu → Lcu) (s : State) : (onLcu f s).dma = s.dma := rfl
@[simp] theorem onLcu_nvc (f : Lcu → Lcu) (s : State) : (onLcu f s).nvc = s.nvc := rfl
@[simp] theorem onLcu_nand (f : Lcu → Lcu) (s : State) : (onLcu f s).nand = s.nand := rfl
@[simp] theorem onLcu_otp (f : Lcu → Lcu) (s : State) : (onLcu f s).otp = s.otp := rfl
@[simp] theorem onLcu_lcu (f : Lcu → Lcu) (s : State) : (onLcu f s).lcu = f s.lcu := rfl
@[simp] theorem onLcu_mem (f : Lcu → Lcu) (s : State) : (onLcu f s).mem = s.mem := rfl
@[simp] theorem onLcu_free (f : Lcu → Lcu) (s : State) : (onLcu f s).free = s.free := rfl
@[simp] theorem onLcu_pending (f : Lcu → Lcu) (s : State) : (onLcu f s).pending = s.pending := rfl
@[simp] theorem onLcu_slice (f : Lcu → Lcu) (s : State) (q : Port) : (onLcu f s).slice q = s.slice q := rfl

/-! `onNvc` -/

@[simp] theorem onNvc_slices (f : Nvc → Nvc) (s : State) : (onNvc f s).slices = s.slices := rfl
@[simp] theorem onNvc_sup (f : Nvc → Nvc) (s : State) : (onNvc f s).sup = s.sup := rfl
@[simp] theorem onNvc_did (f : Nvc → Nvc) (s : State) : (onNvc f s).did = s.did := rfl
@[simp] theorem onNvc_evr (f : Nvc → Nvc) (s : State) : (onNvc f s).evr = s.evr := rfl
@[simp] theorem onNvc_eva (f : Nvc → Nvc) (s : State) : (onNvc f s).eva = s.eva := rfl
@[simp] theorem onNvc_bud (f : Nvc → Nvc) (s : State) : (onNvc f s).bud = s.bud := rfl
@[simp] theorem onNvc_kln (f : Nvc → Nvc) (s : State) : (onNvc f s).kln = s.kln := rfl
@[simp] theorem onNvc_cyc (f : Nvc → Nvc) (s : State) : (onNvc f s).cyc = s.cyc := rfl
@[simp] theorem onNvc_syn (f : Nvc → Nvc) (s : State) : (onNvc f s).syn = s.syn := rfl
@[simp] theorem onNvc_hst (f : Nvc → Nvc) (s : State) : (onNvc f s).hst = s.hst := rfl
@[simp] theorem onNvc_aux (f : Nvc → Nvc) (s : State) : (onNvc f s).aux = s.aux := rfl
@[simp] theorem onNvc_fab (f : Nvc → Nvc) (s : State) : (onNvc f s).fab = s.fab := rfl
@[simp] theorem onNvc_dma (f : Nvc → Nvc) (s : State) : (onNvc f s).dma = s.dma := rfl
@[simp] theorem onNvc_nvc (f : Nvc → Nvc) (s : State) : (onNvc f s).nvc = f s.nvc := rfl
@[simp] theorem onNvc_nand (f : Nvc → Nvc) (s : State) : (onNvc f s).nand = s.nand := rfl
@[simp] theorem onNvc_otp (f : Nvc → Nvc) (s : State) : (onNvc f s).otp = s.otp := rfl
@[simp] theorem onNvc_lcu (f : Nvc → Nvc) (s : State) : (onNvc f s).lcu = s.lcu := rfl
@[simp] theorem onNvc_mem (f : Nvc → Nvc) (s : State) : (onNvc f s).mem = s.mem := rfl
@[simp] theorem onNvc_free (f : Nvc → Nvc) (s : State) : (onNvc f s).free = s.free := rfl
@[simp] theorem onNvc_pending (f : Nvc → Nvc) (s : State) : (onNvc f s).pending = s.pending := rfl
@[simp] theorem onNvc_slice (f : Nvc → Nvc) (s : State) (q : Port) : (onNvc f s).slice q = s.slice q := rfl

/-! `onNand` -/

@[simp] theorem onNand_slices (f : Nand → Nand) (s : State) : (onNand f s).slices = s.slices := rfl
@[simp] theorem onNand_sup (f : Nand → Nand) (s : State) : (onNand f s).sup = s.sup := rfl
@[simp] theorem onNand_did (f : Nand → Nand) (s : State) : (onNand f s).did = s.did := rfl
@[simp] theorem onNand_evr (f : Nand → Nand) (s : State) : (onNand f s).evr = s.evr := rfl
@[simp] theorem onNand_eva (f : Nand → Nand) (s : State) : (onNand f s).eva = s.eva := rfl
@[simp] theorem onNand_bud (f : Nand → Nand) (s : State) : (onNand f s).bud = s.bud := rfl
@[simp] theorem onNand_kln (f : Nand → Nand) (s : State) : (onNand f s).kln = s.kln := rfl
@[simp] theorem onNand_cyc (f : Nand → Nand) (s : State) : (onNand f s).cyc = s.cyc := rfl
@[simp] theorem onNand_syn (f : Nand → Nand) (s : State) : (onNand f s).syn = s.syn := rfl
@[simp] theorem onNand_hst (f : Nand → Nand) (s : State) : (onNand f s).hst = s.hst := rfl
@[simp] theorem onNand_aux (f : Nand → Nand) (s : State) : (onNand f s).aux = s.aux := rfl
@[simp] theorem onNand_fab (f : Nand → Nand) (s : State) : (onNand f s).fab = s.fab := rfl
@[simp] theorem onNand_dma (f : Nand → Nand) (s : State) : (onNand f s).dma = s.dma := rfl
@[simp] theorem onNand_nvc (f : Nand → Nand) (s : State) : (onNand f s).nvc = s.nvc := rfl
@[simp] theorem onNand_nand (f : Nand → Nand) (s : State) : (onNand f s).nand = f s.nand := rfl
@[simp] theorem onNand_otp (f : Nand → Nand) (s : State) : (onNand f s).otp = s.otp := rfl
@[simp] theorem onNand_lcu (f : Nand → Nand) (s : State) : (onNand f s).lcu = s.lcu := rfl
@[simp] theorem onNand_mem (f : Nand → Nand) (s : State) : (onNand f s).mem = s.mem := rfl
@[simp] theorem onNand_free (f : Nand → Nand) (s : State) : (onNand f s).free = s.free := rfl
@[simp] theorem onNand_pending (f : Nand → Nand) (s : State) : (onNand f s).pending = s.pending := rfl
@[simp] theorem onNand_slice (f : Nand → Nand) (s : State) (q : Port) : (onNand f s).slice q = s.slice q := rfl

/-! `onMem` -/

@[simp] theorem onMem_slices (f : List Host.Cell → List Host.Cell) (s : State) : (onMem f s).slices = s.slices := rfl
@[simp] theorem onMem_sup (f : List Host.Cell → List Host.Cell) (s : State) : (onMem f s).sup = s.sup := rfl
@[simp] theorem onMem_did (f : List Host.Cell → List Host.Cell) (s : State) : (onMem f s).did = s.did := rfl
@[simp] theorem onMem_evr (f : List Host.Cell → List Host.Cell) (s : State) : (onMem f s).evr = s.evr := rfl
@[simp] theorem onMem_eva (f : List Host.Cell → List Host.Cell) (s : State) : (onMem f s).eva = s.eva := rfl
@[simp] theorem onMem_bud (f : List Host.Cell → List Host.Cell) (s : State) : (onMem f s).bud = s.bud := rfl
@[simp] theorem onMem_kln (f : List Host.Cell → List Host.Cell) (s : State) : (onMem f s).kln = s.kln := rfl
@[simp] theorem onMem_cyc (f : List Host.Cell → List Host.Cell) (s : State) : (onMem f s).cyc = s.cyc := rfl
@[simp] theorem onMem_syn (f : List Host.Cell → List Host.Cell) (s : State) : (onMem f s).syn = s.syn := rfl
@[simp] theorem onMem_hst (f : List Host.Cell → List Host.Cell) (s : State) : (onMem f s).hst = s.hst := rfl
@[simp] theorem onMem_aux (f : List Host.Cell → List Host.Cell) (s : State) : (onMem f s).aux = s.aux := rfl
@[simp] theorem onMem_fab (f : List Host.Cell → List Host.Cell) (s : State) : (onMem f s).fab = s.fab := rfl
@[simp] theorem onMem_dma (f : List Host.Cell → List Host.Cell) (s : State) : (onMem f s).dma = s.dma := rfl
@[simp] theorem onMem_nvc (f : List Host.Cell → List Host.Cell) (s : State) : (onMem f s).nvc = s.nvc := rfl
@[simp] theorem onMem_nand (f : List Host.Cell → List Host.Cell) (s : State) : (onMem f s).nand = s.nand := rfl
@[simp] theorem onMem_otp (f : List Host.Cell → List Host.Cell) (s : State) : (onMem f s).otp = s.otp := rfl
@[simp] theorem onMem_lcu (f : List Host.Cell → List Host.Cell) (s : State) : (onMem f s).lcu = s.lcu := rfl
@[simp] theorem onMem_mem (f : List Host.Cell → List Host.Cell) (s : State) : (onMem f s).mem = f s.mem := rfl
@[simp] theorem onMem_free (f : List Host.Cell → List Host.Cell) (s : State) : (onMem f s).free = s.free := rfl
@[simp] theorem onMem_pending (f : List Host.Cell → List Host.Cell) (s : State) : (onMem f s).pending = s.pending := rfl
@[simp] theorem onMem_slice (f : List Host.Cell → List Host.Cell) (s : State) (q : Port) : (onMem f s).slice q = s.slice q := rfl

/-! `onOtp` -/

@[simp] theorem onOtp_slices (f : Otp → Otp) (s : State) : (onOtp f s).slices = s.slices := rfl
@[simp] theorem onOtp_sup (f : Otp → Otp) (s : State) : (onOtp f s).sup = s.sup := rfl
@[simp] theorem onOtp_did (f : Otp → Otp) (s : State) : (onOtp f s).did = s.did := rfl
@[simp] theorem onOtp_evr (f : Otp → Otp) (s : State) : (onOtp f s).evr = s.evr := rfl
@[simp] theorem onOtp_eva (f : Otp → Otp) (s : State) : (onOtp f s).eva = s.eva := rfl
@[simp] theorem onOtp_bud (f : Otp → Otp) (s : State) : (onOtp f s).bud = s.bud := rfl
@[simp] theorem onOtp_kln (f : Otp → Otp) (s : State) : (onOtp f s).kln = s.kln := rfl
@[simp] theorem onOtp_cyc (f : Otp → Otp) (s : State) : (onOtp f s).cyc = s.cyc := rfl
@[simp] theorem onOtp_syn (f : Otp → Otp) (s : State) : (onOtp f s).syn = s.syn := rfl
@[simp] theorem onOtp_hst (f : Otp → Otp) (s : State) : (onOtp f s).hst = s.hst := rfl
@[simp] theorem onOtp_aux (f : Otp → Otp) (s : State) : (onOtp f s).aux = s.aux := rfl
@[simp] theorem onOtp_fab (f : Otp → Otp) (s : State) : (onOtp f s).fab = s.fab := rfl
@[simp] theorem onOtp_dma (f : Otp → Otp) (s : State) : (onOtp f s).dma = s.dma := rfl
@[simp] theorem onOtp_nvc (f : Otp → Otp) (s : State) : (onOtp f s).nvc = s.nvc := rfl
@[simp] theorem onOtp_nand (f : Otp → Otp) (s : State) : (onOtp f s).nand = s.nand := rfl
@[simp] theorem onOtp_otp (f : Otp → Otp) (s : State) : (onOtp f s).otp = f s.otp := rfl
@[simp] theorem onOtp_lcu (f : Otp → Otp) (s : State) : (onOtp f s).lcu = s.lcu := rfl
@[simp] theorem onOtp_mem (f : Otp → Otp) (s : State) : (onOtp f s).mem = s.mem := rfl
@[simp] theorem onOtp_free (f : Otp → Otp) (s : State) : (onOtp f s).free = s.free := rfl
@[simp] theorem onOtp_pending (f : Otp → Otp) (s : State) : (onOtp f s).pending = s.pending := rfl
@[simp] theorem onOtp_slice (f : Otp → Otp) (s : State) (q : Port) : (onOtp f s).slice q = s.slice q := rfl

/-! `takeFree` -/

@[simp] theorem takeFree_slices (s : State) : (takeFree s).slices = s.slices := rfl
@[simp] theorem takeFree_sup (s : State) : (takeFree s).sup = s.sup := rfl
@[simp] theorem takeFree_did (s : State) : (takeFree s).did = s.did := rfl
@[simp] theorem takeFree_evr (s : State) : (takeFree s).evr = s.evr := rfl
@[simp] theorem takeFree_eva (s : State) : (takeFree s).eva = s.eva := rfl
@[simp] theorem takeFree_bud (s : State) : (takeFree s).bud = s.bud := rfl
@[simp] theorem takeFree_kln (s : State) : (takeFree s).kln = s.kln := rfl
@[simp] theorem takeFree_cyc (s : State) : (takeFree s).cyc = s.cyc := rfl
@[simp] theorem takeFree_syn (s : State) : (takeFree s).syn = s.syn := rfl
@[simp] theorem takeFree_hst (s : State) : (takeFree s).hst = s.hst := rfl
@[simp] theorem takeFree_aux (s : State) : (takeFree s).aux = s.aux := rfl
@[simp] theorem takeFree_fab (s : State) : (takeFree s).fab = s.fab := rfl
@[simp] theorem takeFree_dma (s : State) : (takeFree s).dma = s.dma := rfl
@[simp] theorem takeFree_nvc (s : State) : (takeFree s).nvc = s.nvc := rfl
@[simp] theorem takeFree_nand (s : State) : (takeFree s).nand = s.nand := rfl
@[simp] theorem takeFree_otp (s : State) : (takeFree s).otp = s.otp := rfl
@[simp] theorem takeFree_lcu (s : State) : (takeFree s).lcu = s.lcu := rfl
@[simp] theorem takeFree_mem (s : State) : (takeFree s).mem = s.mem := rfl
@[simp] theorem takeFree_free (s : State) : (takeFree s).free = s.free + 1 := rfl
@[simp] theorem takeFree_pending (s : State) : (takeFree s).pending = s.pending := rfl
@[simp] theorem takeFree_slice (s : State) (q : Port) : (takeFree s).slice q = s.slice q := rfl

/-! `onSlice` -/

@[simp] theorem onSlice_slices (p : Port) (f : Slice → Slice) (s : State) : (onSlice p f s).slices = updAt s.slices p f := rfl
@[simp] theorem onSlice_sup (p : Port) (f : Slice → Slice) (s : State) : (onSlice p f s).sup = s.sup := rfl
@[simp] theorem onSlice_did (p : Port) (f : Slice → Slice) (s : State) : (onSlice p f s).did = s.did := rfl
@[simp] theorem onSlice_evr (p : Port) (f : Slice → Slice) (s : State) : (onSlice p f s).evr = s.evr := rfl
@[simp] theorem onSlice_eva (p : Port) (f : Slice → Slice) (s : State) : (onSlice p f s).eva = s.eva := rfl
@[simp] theorem onSlice_bud (p : Port) (f : Slice → Slice) (s : State) : (onSlice p f s).bud = s.bud := rfl
@[simp] theorem onSlice_kln (p : Port) (f : Slice → Slice) (s : State) : (onSlice p f s).kln = s.kln := rfl
@[simp] theorem onSlice_cyc (p : Port) (f : Slice → Slice) (s : State) : (onSlice p f s).cyc = s.cyc := rfl
@[simp] theorem onSlice_syn (p : Port) (f : Slice → Slice) (s : State) : (onSlice p f s).syn = s.syn := rfl
@[simp] theorem onSlice_hst (p : Port) (f : Slice → Slice) (s : State) : (onSlice p f s).hst = s.hst := rfl
@[simp] theorem onSlice_aux (p : Port) (f : Slice → Slice) (s : State) : (onSlice p f s).aux = s.aux := rfl
@[simp] theorem onSlice_fab (p : Port) (f : Slice → Slice) (s : State) : (onSlice p f s).fab = s.fab := rfl
@[simp] theorem onSlice_dma (p : Port) (f : Slice → Slice) (s : State) : (onSlice p f s).dma = s.dma := rfl
@[simp] theorem onSlice_nvc (p : Port) (f : Slice → Slice) (s : State) : (onSlice p f s).nvc = s.nvc := rfl
@[simp] theorem onSlice_nand (p : Port) (f : Slice → Slice) (s : State) : (onSlice p f s).nand = s.nand := rfl
@[simp] theorem onSlice_otp (p : Port) (f : Slice → Slice) (s : State) : (onSlice p f s).otp = s.otp := rfl
@[simp] theorem onSlice_lcu (p : Port) (f : Slice → Slice) (s : State) : (onSlice p f s).lcu = s.lcu := rfl
@[simp] theorem onSlice_mem (p : Port) (f : Slice → Slice) (s : State) : (onSlice p f s).mem = s.mem := rfl
@[simp] theorem onSlice_free (p : Port) (f : Slice → Slice) (s : State) : (onSlice p f s).free = s.free := rfl
@[simp] theorem onSlice_pending (p : Port) (f : Slice → Slice) (s : State) : (onSlice p f s).pending = s.pending := rfl

/-! `onPortBud` -/

@[simp] theorem onPortBud_slices (p : Port) (f : PortBud → PortBud) (s : State) : (onPortBud p f s).slices = s.slices := rfl
@[simp] theorem onPortBud_sup (p : Port) (f : PortBud → PortBud) (s : State) : (onPortBud p f s).sup = s.sup := rfl
@[simp] theorem onPortBud_did (p : Port) (f : PortBud → PortBud) (s : State) : (onPortBud p f s).did = s.did := rfl
@[simp] theorem onPortBud_evr (p : Port) (f : PortBud → PortBud) (s : State) : (onPortBud p f s).evr = s.evr := rfl
@[simp] theorem onPortBud_eva (p : Port) (f : PortBud → PortBud) (s : State) : (onPortBud p f s).eva = s.eva := rfl
@[simp] theorem onPortBud_bud (p : Port) (f : PortBud → PortBud) (s : State) : (onPortBud p f s).bud = { s.bud with ports := updAt s.bud.ports p f } := rfl
@[simp] theorem onPortBud_kln (p : Port) (f : PortBud → PortBud) (s : State) : (onPortBud p f s).kln = s.kln := rfl
@[simp] theorem onPortBud_cyc (p : Port) (f : PortBud → PortBud) (s : State) : (onPortBud p f s).cyc = s.cyc := rfl
@[simp] theorem onPortBud_syn (p : Port) (f : PortBud → PortBud) (s : State) : (onPortBud p f s).syn = s.syn := rfl
@[simp] theorem onPortBud_hst (p : Port) (f : PortBud → PortBud) (s : State) : (onPortBud p f s).hst = s.hst := rfl
@[simp] theorem onPortBud_aux (p : Port) (f : PortBud → PortBud) (s : State) : (onPortBud p f s).aux = s.aux := rfl
@[simp] theorem onPortBud_fab (p : Port) (f : PortBud → PortBud) (s : State) : (onPortBud p f s).fab = s.fab := rfl
@[simp] theorem onPortBud_dma (p : Port) (f : PortBud → PortBud) (s : State) : (onPortBud p f s).dma = s.dma := rfl
@[simp] theorem onPortBud_nvc (p : Port) (f : PortBud → PortBud) (s : State) : (onPortBud p f s).nvc = s.nvc := rfl
@[simp] theorem onPortBud_nand (p : Port) (f : PortBud → PortBud) (s : State) : (onPortBud p f s).nand = s.nand := rfl
@[simp] theorem onPortBud_otp (p : Port) (f : PortBud → PortBud) (s : State) : (onPortBud p f s).otp = s.otp := rfl
@[simp] theorem onPortBud_lcu (p : Port) (f : PortBud → PortBud) (s : State) : (onPortBud p f s).lcu = s.lcu := rfl
@[simp] theorem onPortBud_mem (p : Port) (f : PortBud → PortBud) (s : State) : (onPortBud p f s).mem = s.mem := rfl
@[simp] theorem onPortBud_free (p : Port) (f : PortBud → PortBud) (s : State) : (onPortBud p f s).free = s.free := rfl
@[simp] theorem onPortBud_pending (p : Port) (f : PortBud → PortBud) (s : State) : (onPortBud p f s).pending = s.pending := rfl
@[simp] theorem onPortBud_slice (p : Port) (f : PortBud → PortBud) (s : State) (q : Port) : (onPortBud p f s).slice q = s.slice q := rfl

/-! `onPortKln` -/

@[simp] theorem onPortKln_slices (p : Port) (f : PortKln → PortKln) (s : State) : (onPortKln p f s).slices = s.slices := rfl
@[simp] theorem onPortKln_sup (p : Port) (f : PortKln → PortKln) (s : State) : (onPortKln p f s).sup = s.sup := rfl
@[simp] theorem onPortKln_did (p : Port) (f : PortKln → PortKln) (s : State) : (onPortKln p f s).did = s.did := rfl
@[simp] theorem onPortKln_evr (p : Port) (f : PortKln → PortKln) (s : State) : (onPortKln p f s).evr = s.evr := rfl
@[simp] theorem onPortKln_eva (p : Port) (f : PortKln → PortKln) (s : State) : (onPortKln p f s).eva = s.eva := rfl
@[simp] theorem onPortKln_bud (p : Port) (f : PortKln → PortKln) (s : State) : (onPortKln p f s).bud = s.bud := rfl
@[simp] theorem onPortKln_kln (p : Port) (f : PortKln → PortKln) (s : State) : (onPortKln p f s).kln = { s.kln with ports := updAt s.kln.ports p f } := rfl
@[simp] theorem onPortKln_cyc (p : Port) (f : PortKln → PortKln) (s : State) : (onPortKln p f s).cyc = s.cyc := rfl
@[simp] theorem onPortKln_syn (p : Port) (f : PortKln → PortKln) (s : State) : (onPortKln p f s).syn = s.syn := rfl
@[simp] theorem onPortKln_hst (p : Port) (f : PortKln → PortKln) (s : State) : (onPortKln p f s).hst = s.hst := rfl
@[simp] theorem onPortKln_aux (p : Port) (f : PortKln → PortKln) (s : State) : (onPortKln p f s).aux = s.aux := rfl
@[simp] theorem onPortKln_fab (p : Port) (f : PortKln → PortKln) (s : State) : (onPortKln p f s).fab = s.fab := rfl
@[simp] theorem onPortKln_dma (p : Port) (f : PortKln → PortKln) (s : State) : (onPortKln p f s).dma = s.dma := rfl
@[simp] theorem onPortKln_nvc (p : Port) (f : PortKln → PortKln) (s : State) : (onPortKln p f s).nvc = s.nvc := rfl
@[simp] theorem onPortKln_nand (p : Port) (f : PortKln → PortKln) (s : State) : (onPortKln p f s).nand = s.nand := rfl
@[simp] theorem onPortKln_otp (p : Port) (f : PortKln → PortKln) (s : State) : (onPortKln p f s).otp = s.otp := rfl
@[simp] theorem onPortKln_lcu (p : Port) (f : PortKln → PortKln) (s : State) : (onPortKln p f s).lcu = s.lcu := rfl
@[simp] theorem onPortKln_mem (p : Port) (f : PortKln → PortKln) (s : State) : (onPortKln p f s).mem = s.mem := rfl
@[simp] theorem onPortKln_free (p : Port) (f : PortKln → PortKln) (s : State) : (onPortKln p f s).free = s.free := rfl
@[simp] theorem onPortKln_pending (p : Port) (f : PortKln → PortKln) (s : State) : (onPortKln p f s).pending = s.pending := rfl
@[simp] theorem onPortKln_slice (p : Port) (f : PortKln → PortKln) (s : State) (q : Port) : (onPortKln p f s).slice q = s.slice q := rfl

/-! `onSheaf` -/

@[simp] theorem onSheaf_slices (k : Fin 8) (f : Sheaf → Sheaf) (s : State) : (onSheaf k f s).slices = s.slices := rfl
@[simp] theorem onSheaf_sup (k : Fin 8) (f : Sheaf → Sheaf) (s : State) : (onSheaf k f s).sup = s.sup := rfl
@[simp] theorem onSheaf_did (k : Fin 8) (f : Sheaf → Sheaf) (s : State) : (onSheaf k f s).did = s.did := rfl
@[simp] theorem onSheaf_evr (k : Fin 8) (f : Sheaf → Sheaf) (s : State) : (onSheaf k f s).evr = s.evr := rfl
@[simp] theorem onSheaf_eva (k : Fin 8) (f : Sheaf → Sheaf) (s : State) : (onSheaf k f s).eva = s.eva := rfl
@[simp] theorem onSheaf_bud (k : Fin 8) (f : Sheaf → Sheaf) (s : State) : (onSheaf k f s).bud = s.bud := rfl
@[simp] theorem onSheaf_kln (k : Fin 8) (f : Sheaf → Sheaf) (s : State) : (onSheaf k f s).kln = { s.kln with sheaves := updAt s.kln.sheaves k f } := rfl
@[simp] theorem onSheaf_cyc (k : Fin 8) (f : Sheaf → Sheaf) (s : State) : (onSheaf k f s).cyc = s.cyc := rfl
@[simp] theorem onSheaf_syn (k : Fin 8) (f : Sheaf → Sheaf) (s : State) : (onSheaf k f s).syn = s.syn := rfl
@[simp] theorem onSheaf_hst (k : Fin 8) (f : Sheaf → Sheaf) (s : State) : (onSheaf k f s).hst = s.hst := rfl
@[simp] theorem onSheaf_aux (k : Fin 8) (f : Sheaf → Sheaf) (s : State) : (onSheaf k f s).aux = s.aux := rfl
@[simp] theorem onSheaf_fab (k : Fin 8) (f : Sheaf → Sheaf) (s : State) : (onSheaf k f s).fab = s.fab := rfl
@[simp] theorem onSheaf_dma (k : Fin 8) (f : Sheaf → Sheaf) (s : State) : (onSheaf k f s).dma = s.dma := rfl
@[simp] theorem onSheaf_nvc (k : Fin 8) (f : Sheaf → Sheaf) (s : State) : (onSheaf k f s).nvc = s.nvc := rfl
@[simp] theorem onSheaf_nand (k : Fin 8) (f : Sheaf → Sheaf) (s : State) : (onSheaf k f s).nand = s.nand := rfl
@[simp] theorem onSheaf_otp (k : Fin 8) (f : Sheaf → Sheaf) (s : State) : (onSheaf k f s).otp = s.otp := rfl
@[simp] theorem onSheaf_lcu (k : Fin 8) (f : Sheaf → Sheaf) (s : State) : (onSheaf k f s).lcu = s.lcu := rfl
@[simp] theorem onSheaf_mem (k : Fin 8) (f : Sheaf → Sheaf) (s : State) : (onSheaf k f s).mem = s.mem := rfl
@[simp] theorem onSheaf_free (k : Fin 8) (f : Sheaf → Sheaf) (s : State) : (onSheaf k f s).free = s.free := rfl
@[simp] theorem onSheaf_pending (k : Fin 8) (f : Sheaf → Sheaf) (s : State) : (onSheaf k f s).pending = s.pending := rfl
@[simp] theorem onSheaf_slice (k : Fin 8) (f : Sheaf → Sheaf) (s : State) (q : Port) : (onSheaf k f s).slice q = s.slice q := rfl

/-! `onDma` -/

@[simp] theorem onDma_slices (c : Fin 16) (f : DmaCh → DmaCh) (s : State) : (onDma c f s).slices = s.slices := rfl
@[simp] theorem onDma_sup (c : Fin 16) (f : DmaCh → DmaCh) (s : State) : (onDma c f s).sup = s.sup := rfl
@[simp] theorem onDma_did (c : Fin 16) (f : DmaCh → DmaCh) (s : State) : (onDma c f s).did = s.did := rfl
@[simp] theorem onDma_evr (c : Fin 16) (f : DmaCh → DmaCh) (s : State) : (onDma c f s).evr = s.evr := rfl
@[simp] theorem onDma_eva (c : Fin 16) (f : DmaCh → DmaCh) (s : State) : (onDma c f s).eva = s.eva := rfl
@[simp] theorem onDma_bud (c : Fin 16) (f : DmaCh → DmaCh) (s : State) : (onDma c f s).bud = s.bud := rfl
@[simp] theorem onDma_kln (c : Fin 16) (f : DmaCh → DmaCh) (s : State) : (onDma c f s).kln = s.kln := rfl
@[simp] theorem onDma_cyc (c : Fin 16) (f : DmaCh → DmaCh) (s : State) : (onDma c f s).cyc = s.cyc := rfl
@[simp] theorem onDma_syn (c : Fin 16) (f : DmaCh → DmaCh) (s : State) : (onDma c f s).syn = s.syn := rfl
@[simp] theorem onDma_hst (c : Fin 16) (f : DmaCh → DmaCh) (s : State) : (onDma c f s).hst = s.hst := rfl
@[simp] theorem onDma_aux (c : Fin 16) (f : DmaCh → DmaCh) (s : State) : (onDma c f s).aux = s.aux := rfl
@[simp] theorem onDma_fab (c : Fin 16) (f : DmaCh → DmaCh) (s : State) : (onDma c f s).fab = s.fab := rfl
@[simp] theorem onDma_dma (c : Fin 16) (f : DmaCh → DmaCh) (s : State) : (onDma c f s).dma = updAt s.dma c f := rfl
@[simp] theorem onDma_nvc (c : Fin 16) (f : DmaCh → DmaCh) (s : State) : (onDma c f s).nvc = s.nvc := rfl
@[simp] theorem onDma_nand (c : Fin 16) (f : DmaCh → DmaCh) (s : State) : (onDma c f s).nand = s.nand := rfl
@[simp] theorem onDma_otp (c : Fin 16) (f : DmaCh → DmaCh) (s : State) : (onDma c f s).otp = s.otp := rfl
@[simp] theorem onDma_lcu (c : Fin 16) (f : DmaCh → DmaCh) (s : State) : (onDma c f s).lcu = s.lcu := rfl
@[simp] theorem onDma_mem (c : Fin 16) (f : DmaCh → DmaCh) (s : State) : (onDma c f s).mem = s.mem := rfl
@[simp] theorem onDma_free (c : Fin 16) (f : DmaCh → DmaCh) (s : State) : (onDma c f s).free = s.free := rfl
@[simp] theorem onDma_pending (c : Fin 16) (f : DmaCh → DmaCh) (s : State) : (onDma c f s).pending = s.pending := rfl
@[simp] theorem onDma_slice (c : Fin 16) (f : DmaCh → DmaCh) (s : State) (q : Port) : (onDma c f s).slice q = s.slice q := rfl

/-! `onLdBank` -/

@[simp] theorem onLdBank_slices (k : Bank) (f : LdBank → LdBank) (s : State) : (onLdBank k f s).slices = s.slices := rfl
@[simp] theorem onLdBank_sup (k : Bank) (f : LdBank → LdBank) (s : State) : (onLdBank k f s).sup = s.sup := rfl
@[simp] theorem onLdBank_did (k : Bank) (f : LdBank → LdBank) (s : State) : (onLdBank k f s).did = s.did := rfl
@[simp] theorem onLdBank_evr (k : Bank) (f : LdBank → LdBank) (s : State) : (onLdBank k f s).evr = s.evr := rfl
@[simp] theorem onLdBank_eva (k : Bank) (f : LdBank → LdBank) (s : State) : (onLdBank k f s).eva = s.eva := rfl
@[simp] theorem onLdBank_bud (k : Bank) (f : LdBank → LdBank) (s : State) : (onLdBank k f s).bud = s.bud := rfl
@[simp] theorem onLdBank_kln (k : Bank) (f : LdBank → LdBank) (s : State) : (onLdBank k f s).kln = s.kln := rfl
@[simp] theorem onLdBank_cyc (k : Bank) (f : LdBank → LdBank) (s : State) : (onLdBank k f s).cyc = { s.cyc with banks := s.cyc.banks.upd k f } := rfl
@[simp] theorem onLdBank_syn (k : Bank) (f : LdBank → LdBank) (s : State) : (onLdBank k f s).syn = s.syn := rfl
@[simp] theorem onLdBank_hst (k : Bank) (f : LdBank → LdBank) (s : State) : (onLdBank k f s).hst = s.hst := rfl
@[simp] theorem onLdBank_aux (k : Bank) (f : LdBank → LdBank) (s : State) : (onLdBank k f s).aux = s.aux := rfl
@[simp] theorem onLdBank_fab (k : Bank) (f : LdBank → LdBank) (s : State) : (onLdBank k f s).fab = s.fab := rfl
@[simp] theorem onLdBank_dma (k : Bank) (f : LdBank → LdBank) (s : State) : (onLdBank k f s).dma = s.dma := rfl
@[simp] theorem onLdBank_nvc (k : Bank) (f : LdBank → LdBank) (s : State) : (onLdBank k f s).nvc = s.nvc := rfl
@[simp] theorem onLdBank_nand (k : Bank) (f : LdBank → LdBank) (s : State) : (onLdBank k f s).nand = s.nand := rfl
@[simp] theorem onLdBank_otp (k : Bank) (f : LdBank → LdBank) (s : State) : (onLdBank k f s).otp = s.otp := rfl
@[simp] theorem onLdBank_lcu (k : Bank) (f : LdBank → LdBank) (s : State) : (onLdBank k f s).lcu = s.lcu := rfl
@[simp] theorem onLdBank_mem (k : Bank) (f : LdBank → LdBank) (s : State) : (onLdBank k f s).mem = s.mem := rfl
@[simp] theorem onLdBank_free (k : Bank) (f : LdBank → LdBank) (s : State) : (onLdBank k f s).free = s.free := rfl
@[simp] theorem onLdBank_pending (k : Bank) (f : LdBank → LdBank) (s : State) : (onLdBank k f s).pending = s.pending := rfl
@[simp] theorem onLdBank_slice (k : Bank) (f : LdBank → LdBank) (s : State) (q : Port) : (onLdBank k f s).slice q = s.slice q := rfl

/-! `raise` -/

@[simp] theorem raise_slices (n : Nat) (s : State) : (raise n s).slices = s.slices := rfl
@[simp] theorem raise_sup (n : Nat) (s : State) : (raise n s).sup = s.sup := rfl
@[simp] theorem raise_did (n : Nat) (s : State) : (raise n s).did = s.did := rfl
@[simp] theorem raise_evr (n : Nat) (s : State) : (raise n s).evr = s.evr := rfl
theorem raise_eva (n : Nat) (s : State) : (raise n s).eva = { a := s.eva.a.set n, b := s.eva.b.set n, s := s.eva.s.set n, p := s.eva.p.set n, w := s.eva.w.set n } := rfl
@[simp] theorem raise_bud (n : Nat) (s : State) : (raise n s).bud = s.bud := rfl
@[simp] theorem raise_kln (n : Nat) (s : State) : (raise n s).kln = s.kln := rfl
@[simp] theorem raise_cyc (n : Nat) (s : State) : (raise n s).cyc = s.cyc := rfl
@[simp] theorem raise_syn (n : Nat) (s : State) : (raise n s).syn = s.syn := rfl
@[simp] theorem raise_hst (n : Nat) (s : State) : (raise n s).hst = s.hst := rfl
@[simp] theorem raise_aux (n : Nat) (s : State) : (raise n s).aux = s.aux := rfl
@[simp] theorem raise_fab (n : Nat) (s : State) : (raise n s).fab = s.fab := rfl
@[simp] theorem raise_dma (n : Nat) (s : State) : (raise n s).dma = s.dma := rfl
@[simp] theorem raise_nvc (n : Nat) (s : State) : (raise n s).nvc = s.nvc := rfl
@[simp] theorem raise_nand (n : Nat) (s : State) : (raise n s).nand = s.nand := rfl
@[simp] theorem raise_otp (n : Nat) (s : State) : (raise n s).otp = s.otp := rfl
@[simp] theorem raise_lcu (n : Nat) (s : State) : (raise n s).lcu = s.lcu := rfl
@[simp] theorem raise_mem (n : Nat) (s : State) : (raise n s).mem = s.mem := rfl
@[simp] theorem raise_free (n : Nat) (s : State) : (raise n s).free = s.free := rfl
@[simp] theorem raise_pending (n : Nat) (s : State) : (raise n s).pending = s.pending := rfl
@[simp] theorem raise_slice (n : Nat) (s : State) (q : Port) : (raise n s).slice q = s.slice q := rfl

/-! `onAtt` -/

@[simp] theorem onAtt_slices (p : Port) (f : SliceAtt → SliceAtt) (s : State) : (onAtt p f s).slices = updAt s.slices p (fun x => { x with att := f x.att }) := rfl
@[simp] theorem onAtt_sup (p : Port) (f : SliceAtt → SliceAtt) (s : State) : (onAtt p f s).sup = s.sup := rfl
@[simp] theorem onAtt_did (p : Port) (f : SliceAtt → SliceAtt) (s : State) : (onAtt p f s).did = s.did := rfl
@[simp] theorem onAtt_evr (p : Port) (f : SliceAtt → SliceAtt) (s : State) : (onAtt p f s).evr = s.evr := rfl
@[simp] theorem onAtt_eva (p : Port) (f : SliceAtt → SliceAtt) (s : State) : (onAtt p f s).eva = s.eva := rfl
@[simp] theorem onAtt_bud (p : Port) (f : SliceAtt → SliceAtt) (s : State) : (onAtt p f s).bud = s.bud := rfl
@[simp] theorem onAtt_kln (p : Port) (f : SliceAtt → SliceAtt) (s : State) : (onAtt p f s).kln = s.kln := rfl
@[simp] theorem onAtt_cyc (p : Port) (f : SliceAtt → SliceAtt) (s : State) : (onAtt p f s).cyc = s.cyc := rfl
@[simp] theorem onAtt_syn (p : Port) (f : SliceAtt → SliceAtt) (s : State) : (onAtt p f s).syn = s.syn := rfl
@[simp] theorem onAtt_hst (p : Port) (f : SliceAtt → SliceAtt) (s : State) : (onAtt p f s).hst = s.hst := rfl
@[simp] theorem onAtt_aux (p : Port) (f : SliceAtt → SliceAtt) (s : State) : (onAtt p f s).aux = s.aux := rfl
@[simp] theorem onAtt_fab (p : Port) (f : SliceAtt → SliceAtt) (s : State) : (onAtt p f s).fab = s.fab := rfl
@[simp] theorem onAtt_dma (p : Port) (f : SliceAtt → SliceAtt) (s : State) : (onAtt p f s).dma = s.dma := rfl
@[simp] theorem onAtt_nvc (p : Port) (f : SliceAtt → SliceAtt) (s : State) : (onAtt p f s).nvc = s.nvc := rfl
@[simp] theorem onAtt_nand (p : Port) (f : SliceAtt → SliceAtt) (s : State) : (onAtt p f s).nand = s.nand := rfl
@[simp] theorem onAtt_otp (p : Port) (f : SliceAtt → SliceAtt) (s : State) : (onAtt p f s).otp = s.otp := rfl
@[simp] theorem onAtt_lcu (p : Port) (f : SliceAtt → SliceAtt) (s : State) : (onAtt p f s).lcu = s.lcu := rfl
@[simp] theorem onAtt_mem (p : Port) (f : SliceAtt → SliceAtt) (s : State) : (onAtt p f s).mem = s.mem := rfl
@[simp] theorem onAtt_free (p : Port) (f : SliceAtt → SliceAtt) (s : State) : (onAtt p f s).free = s.free := rfl
@[simp] theorem onAtt_pending (p : Port) (f : SliceAtt → SliceAtt) (s : State) : (onAtt p f s).pending = s.pending := rfl

/-! `onPd` -/

@[simp] theorem onPd_slices (p : Port) (f : SlicePd → SlicePd) (s : State) : (onPd p f s).slices = updAt s.slices p (fun x => { x with pd := f x.pd }) := rfl
@[simp] theorem onPd_sup (p : Port) (f : SlicePd → SlicePd) (s : State) : (onPd p f s).sup = s.sup := rfl
@[simp] theorem onPd_did (p : Port) (f : SlicePd → SlicePd) (s : State) : (onPd p f s).did = s.did := rfl
@[simp] theorem onPd_evr (p : Port) (f : SlicePd → SlicePd) (s : State) : (onPd p f s).evr = s.evr := rfl
@[simp] theorem onPd_eva (p : Port) (f : SlicePd → SlicePd) (s : State) : (onPd p f s).eva = s.eva := rfl
@[simp] theorem onPd_bud (p : Port) (f : SlicePd → SlicePd) (s : State) : (onPd p f s).bud = s.bud := rfl
@[simp] theorem onPd_kln (p : Port) (f : SlicePd → SlicePd) (s : State) : (onPd p f s).kln = s.kln := rfl
@[simp] theorem onPd_cyc (p : Port) (f : SlicePd → SlicePd) (s : State) : (onPd p f s).cyc = s.cyc := rfl
@[simp] theorem onPd_syn (p : Port) (f : SlicePd → SlicePd) (s : State) : (onPd p f s).syn = s.syn := rfl
@[simp] theorem onPd_hst (p : Port) (f : SlicePd → SlicePd) (s : State) : (onPd p f s).hst = s.hst := rfl
@[simp] theorem onPd_aux (p : Port) (f : SlicePd → SlicePd) (s : State) : (onPd p f s).aux = s.aux := rfl
@[simp] theorem onPd_fab (p : Port) (f : SlicePd → SlicePd) (s : State) : (onPd p f s).fab = s.fab := rfl
@[simp] theorem onPd_dma (p : Port) (f : SlicePd → SlicePd) (s : State) : (onPd p f s).dma = s.dma := rfl
@[simp] theorem onPd_nvc (p : Port) (f : SlicePd → SlicePd) (s : State) : (onPd p f s).nvc = s.nvc := rfl
@[simp] theorem onPd_nand (p : Port) (f : SlicePd → SlicePd) (s : State) : (onPd p f s).nand = s.nand := rfl
@[simp] theorem onPd_otp (p : Port) (f : SlicePd → SlicePd) (s : State) : (onPd p f s).otp = s.otp := rfl
@[simp] theorem onPd_lcu (p : Port) (f : SlicePd → SlicePd) (s : State) : (onPd p f s).lcu = s.lcu := rfl
@[simp] theorem onPd_mem (p : Port) (f : SlicePd → SlicePd) (s : State) : (onPd p f s).mem = s.mem := rfl
@[simp] theorem onPd_free (p : Port) (f : SlicePd → SlicePd) (s : State) : (onPd p f s).free = s.free := rfl
@[simp] theorem onPd_pending (p : Port) (f : SlicePd → SlicePd) (s : State) : (onPd p f s).pending = s.pending := rfl

/-! `onOff` -/

@[simp] theorem onOff_slices (p : Port) (f : SliceOff → SliceOff) (s : State) : (onOff p f s).slices = updAt s.slices p (fun x => { x with off := f x.off }) := rfl
@[simp] theorem onOff_sup (p : Port) (f : SliceOff → SliceOff) (s : State) : (onOff p f s).sup = s.sup := rfl
@[simp] theorem onOff_did (p : Port) (f : SliceOff → SliceOff) (s : State) : (onOff p f s).did = s.did := rfl
@[simp] theorem onOff_evr (p : Port) (f : SliceOff → SliceOff) (s : State) : (onOff p f s).evr = s.evr := rfl
@[simp] theorem onOff_eva (p : Port) (f : SliceOff → SliceOff) (s : State) : (onOff p f s).eva = s.eva := rfl
@[simp] theorem onOff_bud (p : Port) (f : SliceOff → SliceOff) (s : State) : (onOff p f s).bud = s.bud := rfl
@[simp] theorem onOff_kln (p : Port) (f : SliceOff → SliceOff) (s : State) : (onOff p f s).kln = s.kln := rfl
@[simp] theorem onOff_cyc (p : Port) (f : SliceOff → SliceOff) (s : State) : (onOff p f s).cyc = s.cyc := rfl
@[simp] theorem onOff_syn (p : Port) (f : SliceOff → SliceOff) (s : State) : (onOff p f s).syn = s.syn := rfl
@[simp] theorem onOff_hst (p : Port) (f : SliceOff → SliceOff) (s : State) : (onOff p f s).hst = s.hst := rfl
@[simp] theorem onOff_aux (p : Port) (f : SliceOff → SliceOff) (s : State) : (onOff p f s).aux = s.aux := rfl
@[simp] theorem onOff_fab (p : Port) (f : SliceOff → SliceOff) (s : State) : (onOff p f s).fab = s.fab := rfl
@[simp] theorem onOff_dma (p : Port) (f : SliceOff → SliceOff) (s : State) : (onOff p f s).dma = s.dma := rfl
@[simp] theorem onOff_nvc (p : Port) (f : SliceOff → SliceOff) (s : State) : (onOff p f s).nvc = s.nvc := rfl
@[simp] theorem onOff_nand (p : Port) (f : SliceOff → SliceOff) (s : State) : (onOff p f s).nand = s.nand := rfl
@[simp] theorem onOff_otp (p : Port) (f : SliceOff → SliceOff) (s : State) : (onOff p f s).otp = s.otp := rfl
@[simp] theorem onOff_lcu (p : Port) (f : SliceOff → SliceOff) (s : State) : (onOff p f s).lcu = s.lcu := rfl
@[simp] theorem onOff_mem (p : Port) (f : SliceOff → SliceOff) (s : State) : (onOff p f s).mem = s.mem := rfl
@[simp] theorem onOff_free (p : Port) (f : SliceOff → SliceOff) (s : State) : (onOff p f s).free = s.free := rfl
@[simp] theorem onOff_pending (p : Port) (f : SliceOff → SliceOff) (s : State) : (onOff p f s).pending = s.pending := rfl

/-! `onMb` -/

@[simp] theorem onMb_slices (p : Port) (f : SliceMb → SliceMb) (s : State) : (onMb p f s).slices = updAt s.slices p (fun x => { x with mb := f x.mb }) := rfl
@[simp] theorem onMb_sup (p : Port) (f : SliceMb → SliceMb) (s : State) : (onMb p f s).sup = s.sup := rfl
@[simp] theorem onMb_did (p : Port) (f : SliceMb → SliceMb) (s : State) : (onMb p f s).did = s.did := rfl
@[simp] theorem onMb_evr (p : Port) (f : SliceMb → SliceMb) (s : State) : (onMb p f s).evr = s.evr := rfl
@[simp] theorem onMb_eva (p : Port) (f : SliceMb → SliceMb) (s : State) : (onMb p f s).eva = s.eva := rfl
@[simp] theorem onMb_bud (p : Port) (f : SliceMb → SliceMb) (s : State) : (onMb p f s).bud = s.bud := rfl
@[simp] theorem onMb_kln (p : Port) (f : SliceMb → SliceMb) (s : State) : (onMb p f s).kln = s.kln := rfl
@[simp] theorem onMb_cyc (p : Port) (f : SliceMb → SliceMb) (s : State) : (onMb p f s).cyc = s.cyc := rfl
@[simp] theorem onMb_syn (p : Port) (f : SliceMb → SliceMb) (s : State) : (onMb p f s).syn = s.syn := rfl
@[simp] theorem onMb_hst (p : Port) (f : SliceMb → SliceMb) (s : State) : (onMb p f s).hst = s.hst := rfl
@[simp] theorem onMb_aux (p : Port) (f : SliceMb → SliceMb) (s : State) : (onMb p f s).aux = s.aux := rfl
@[simp] theorem onMb_fab (p : Port) (f : SliceMb → SliceMb) (s : State) : (onMb p f s).fab = s.fab := rfl
@[simp] theorem onMb_dma (p : Port) (f : SliceMb → SliceMb) (s : State) : (onMb p f s).dma = s.dma := rfl
@[simp] theorem onMb_nvc (p : Port) (f : SliceMb → SliceMb) (s : State) : (onMb p f s).nvc = s.nvc := rfl
@[simp] theorem onMb_nand (p : Port) (f : SliceMb → SliceMb) (s : State) : (onMb p f s).nand = s.nand := rfl
@[simp] theorem onMb_otp (p : Port) (f : SliceMb → SliceMb) (s : State) : (onMb p f s).otp = s.otp := rfl
@[simp] theorem onMb_lcu (p : Port) (f : SliceMb → SliceMb) (s : State) : (onMb p f s).lcu = s.lcu := rfl
@[simp] theorem onMb_mem (p : Port) (f : SliceMb → SliceMb) (s : State) : (onMb p f s).mem = s.mem := rfl
@[simp] theorem onMb_free (p : Port) (f : SliceMb → SliceMb) (s : State) : (onMb p f s).free = s.free := rfl
@[simp] theorem onMb_pending (p : Port) (f : SliceMb → SliceMb) (s : State) : (onMb p f s).pending = s.pending := rfl

/-! `onPs` -/

@[simp] theorem onPs_slices (p : Port) (f : SlicePs → SlicePs) (s : State) : (onPs p f s).slices = updAt s.slices p (fun x => { x with ps := f x.ps }) := rfl
@[simp] theorem onPs_sup (p : Port) (f : SlicePs → SlicePs) (s : State) : (onPs p f s).sup = s.sup := rfl
@[simp] theorem onPs_did (p : Port) (f : SlicePs → SlicePs) (s : State) : (onPs p f s).did = s.did := rfl
@[simp] theorem onPs_evr (p : Port) (f : SlicePs → SlicePs) (s : State) : (onPs p f s).evr = s.evr := rfl
@[simp] theorem onPs_eva (p : Port) (f : SlicePs → SlicePs) (s : State) : (onPs p f s).eva = s.eva := rfl
@[simp] theorem onPs_bud (p : Port) (f : SlicePs → SlicePs) (s : State) : (onPs p f s).bud = s.bud := rfl
@[simp] theorem onPs_kln (p : Port) (f : SlicePs → SlicePs) (s : State) : (onPs p f s).kln = s.kln := rfl
@[simp] theorem onPs_cyc (p : Port) (f : SlicePs → SlicePs) (s : State) : (onPs p f s).cyc = s.cyc := rfl
@[simp] theorem onPs_syn (p : Port) (f : SlicePs → SlicePs) (s : State) : (onPs p f s).syn = s.syn := rfl
@[simp] theorem onPs_hst (p : Port) (f : SlicePs → SlicePs) (s : State) : (onPs p f s).hst = s.hst := rfl
@[simp] theorem onPs_aux (p : Port) (f : SlicePs → SlicePs) (s : State) : (onPs p f s).aux = s.aux := rfl
@[simp] theorem onPs_fab (p : Port) (f : SlicePs → SlicePs) (s : State) : (onPs p f s).fab = s.fab := rfl
@[simp] theorem onPs_dma (p : Port) (f : SlicePs → SlicePs) (s : State) : (onPs p f s).dma = s.dma := rfl
@[simp] theorem onPs_nvc (p : Port) (f : SlicePs → SlicePs) (s : State) : (onPs p f s).nvc = s.nvc := rfl
@[simp] theorem onPs_nand (p : Port) (f : SlicePs → SlicePs) (s : State) : (onPs p f s).nand = s.nand := rfl
@[simp] theorem onPs_otp (p : Port) (f : SlicePs → SlicePs) (s : State) : (onPs p f s).otp = s.otp := rfl
@[simp] theorem onPs_lcu (p : Port) (f : SlicePs → SlicePs) (s : State) : (onPs p f s).lcu = s.lcu := rfl
@[simp] theorem onPs_mem (p : Port) (f : SlicePs → SlicePs) (s : State) : (onPs p f s).mem = s.mem := rfl
@[simp] theorem onPs_free (p : Port) (f : SlicePs → SlicePs) (s : State) : (onPs p f s).free = s.free := rfl
@[simp] theorem onPs_pending (p : Port) (f : SlicePs → SlicePs) (s : State) : (onPs p f s).pending = s.pending := rfl

/-! `onSw` -/

@[simp] theorem onSw_slices (p : Port) (f : SliceSw → SliceSw) (s : State) : (onSw p f s).slices = updAt s.slices p (fun x => { x with sw := f x.sw }) := rfl
@[simp] theorem onSw_sup (p : Port) (f : SliceSw → SliceSw) (s : State) : (onSw p f s).sup = s.sup := rfl
@[simp] theorem onSw_did (p : Port) (f : SliceSw → SliceSw) (s : State) : (onSw p f s).did = s.did := rfl
@[simp] theorem onSw_evr (p : Port) (f : SliceSw → SliceSw) (s : State) : (onSw p f s).evr = s.evr := rfl
@[simp] theorem onSw_eva (p : Port) (f : SliceSw → SliceSw) (s : State) : (onSw p f s).eva = s.eva := rfl
@[simp] theorem onSw_bud (p : Port) (f : SliceSw → SliceSw) (s : State) : (onSw p f s).bud = s.bud := rfl
@[simp] theorem onSw_kln (p : Port) (f : SliceSw → SliceSw) (s : State) : (onSw p f s).kln = s.kln := rfl
@[simp] theorem onSw_cyc (p : Port) (f : SliceSw → SliceSw) (s : State) : (onSw p f s).cyc = s.cyc := rfl
@[simp] theorem onSw_syn (p : Port) (f : SliceSw → SliceSw) (s : State) : (onSw p f s).syn = s.syn := rfl
@[simp] theorem onSw_hst (p : Port) (f : SliceSw → SliceSw) (s : State) : (onSw p f s).hst = s.hst := rfl
@[simp] theorem onSw_aux (p : Port) (f : SliceSw → SliceSw) (s : State) : (onSw p f s).aux = s.aux := rfl
@[simp] theorem onSw_fab (p : Port) (f : SliceSw → SliceSw) (s : State) : (onSw p f s).fab = s.fab := rfl
@[simp] theorem onSw_dma (p : Port) (f : SliceSw → SliceSw) (s : State) : (onSw p f s).dma = s.dma := rfl
@[simp] theorem onSw_nvc (p : Port) (f : SliceSw → SliceSw) (s : State) : (onSw p f s).nvc = s.nvc := rfl
@[simp] theorem onSw_nand (p : Port) (f : SliceSw → SliceSw) (s : State) : (onSw p f s).nand = s.nand := rfl
@[simp] theorem onSw_otp (p : Port) (f : SliceSw → SliceSw) (s : State) : (onSw p f s).otp = s.otp := rfl
@[simp] theorem onSw_lcu (p : Port) (f : SliceSw → SliceSw) (s : State) : (onSw p f s).lcu = s.lcu := rfl
@[simp] theorem onSw_mem (p : Port) (f : SliceSw → SliceSw) (s : State) : (onSw p f s).mem = s.mem := rfl
@[simp] theorem onSw_free (p : Port) (f : SliceSw → SliceSw) (s : State) : (onSw p f s).free = s.free := rfl
@[simp] theorem onSw_pending (p : Port) (f : SliceSw → SliceSw) (s : State) : (onSw p f s).pending = s.pending := rfl

/-! `onPr` -/

@[simp] theorem onPr_slices (p : Port) (f : SlicePr → SlicePr) (s : State) : (onPr p f s).slices = updAt s.slices p (fun x => { x with pr := f x.pr }) := rfl
@[simp] theorem onPr_sup (p : Port) (f : SlicePr → SlicePr) (s : State) : (onPr p f s).sup = s.sup := rfl
@[simp] theorem onPr_did (p : Port) (f : SlicePr → SlicePr) (s : State) : (onPr p f s).did = s.did := rfl
@[simp] theorem onPr_evr (p : Port) (f : SlicePr → SlicePr) (s : State) : (onPr p f s).evr = s.evr := rfl
@[simp] theorem onPr_eva (p : Port) (f : SlicePr → SlicePr) (s : State) : (onPr p f s).eva = s.eva := rfl
@[simp] theorem onPr_bud (p : Port) (f : SlicePr → SlicePr) (s : State) : (onPr p f s).bud = s.bud := rfl
@[simp] theorem onPr_kln (p : Port) (f : SlicePr → SlicePr) (s : State) : (onPr p f s).kln = s.kln := rfl
@[simp] theorem onPr_cyc (p : Port) (f : SlicePr → SlicePr) (s : State) : (onPr p f s).cyc = s.cyc := rfl
@[simp] theorem onPr_syn (p : Port) (f : SlicePr → SlicePr) (s : State) : (onPr p f s).syn = s.syn := rfl
@[simp] theorem onPr_hst (p : Port) (f : SlicePr → SlicePr) (s : State) : (onPr p f s).hst = s.hst := rfl
@[simp] theorem onPr_aux (p : Port) (f : SlicePr → SlicePr) (s : State) : (onPr p f s).aux = s.aux := rfl
@[simp] theorem onPr_fab (p : Port) (f : SlicePr → SlicePr) (s : State) : (onPr p f s).fab = s.fab := rfl
@[simp] theorem onPr_dma (p : Port) (f : SlicePr → SlicePr) (s : State) : (onPr p f s).dma = s.dma := rfl
@[simp] theorem onPr_nvc (p : Port) (f : SlicePr → SlicePr) (s : State) : (onPr p f s).nvc = s.nvc := rfl
@[simp] theorem onPr_nand (p : Port) (f : SlicePr → SlicePr) (s : State) : (onPr p f s).nand = s.nand := rfl
@[simp] theorem onPr_otp (p : Port) (f : SlicePr → SlicePr) (s : State) : (onPr p f s).otp = s.otp := rfl
@[simp] theorem onPr_lcu (p : Port) (f : SlicePr → SlicePr) (s : State) : (onPr p f s).lcu = s.lcu := rfl
@[simp] theorem onPr_mem (p : Port) (f : SlicePr → SlicePr) (s : State) : (onPr p f s).mem = s.mem := rfl
@[simp] theorem onPr_free (p : Port) (f : SlicePr → SlicePr) (s : State) : (onPr p f s).free = s.free := rfl
@[simp] theorem onPr_pending (p : Port) (f : SlicePr → SlicePr) (s : State) : (onPr p f s).pending = s.pending := rfl

/-! `onGr` -/

@[simp] theorem onGr_slices (p : Port) (f : SliceGr → SliceGr) (s : State) : (onGr p f s).slices = updAt s.slices p (fun x => { x with gr := f x.gr }) := rfl
@[simp] theorem onGr_sup (p : Port) (f : SliceGr → SliceGr) (s : State) : (onGr p f s).sup = s.sup := rfl
@[simp] theorem onGr_did (p : Port) (f : SliceGr → SliceGr) (s : State) : (onGr p f s).did = s.did := rfl
@[simp] theorem onGr_evr (p : Port) (f : SliceGr → SliceGr) (s : State) : (onGr p f s).evr = s.evr := rfl
@[simp] theorem onGr_eva (p : Port) (f : SliceGr → SliceGr) (s : State) : (onGr p f s).eva = s.eva := rfl
@[simp] theorem onGr_bud (p : Port) (f : SliceGr → SliceGr) (s : State) : (onGr p f s).bud = s.bud := rfl
@[simp] theorem onGr_kln (p : Port) (f : SliceGr → SliceGr) (s : State) : (onGr p f s).kln = s.kln := rfl
@[simp] theorem onGr_cyc (p : Port) (f : SliceGr → SliceGr) (s : State) : (onGr p f s).cyc = s.cyc := rfl
@[simp] theorem onGr_syn (p : Port) (f : SliceGr → SliceGr) (s : State) : (onGr p f s).syn = s.syn := rfl
@[simp] theorem onGr_hst (p : Port) (f : SliceGr → SliceGr) (s : State) : (onGr p f s).hst = s.hst := rfl
@[simp] theorem onGr_aux (p : Port) (f : SliceGr → SliceGr) (s : State) : (onGr p f s).aux = s.aux := rfl
@[simp] theorem onGr_fab (p : Port) (f : SliceGr → SliceGr) (s : State) : (onGr p f s).fab = s.fab := rfl
@[simp] theorem onGr_dma (p : Port) (f : SliceGr → SliceGr) (s : State) : (onGr p f s).dma = s.dma := rfl
@[simp] theorem onGr_nvc (p : Port) (f : SliceGr → SliceGr) (s : State) : (onGr p f s).nvc = s.nvc := rfl
@[simp] theorem onGr_nand (p : Port) (f : SliceGr → SliceGr) (s : State) : (onGr p f s).nand = s.nand := rfl
@[simp] theorem onGr_otp (p : Port) (f : SliceGr → SliceGr) (s : State) : (onGr p f s).otp = s.otp := rfl
@[simp] theorem onGr_lcu (p : Port) (f : SliceGr → SliceGr) (s : State) : (onGr p f s).lcu = s.lcu := rfl
@[simp] theorem onGr_mem (p : Port) (f : SliceGr → SliceGr) (s : State) : (onGr p f s).mem = s.mem := rfl
@[simp] theorem onGr_free (p : Port) (f : SliceGr → SliceGr) (s : State) : (onGr p f s).free = s.free := rfl
@[simp] theorem onGr_pending (p : Port) (f : SliceGr → SliceGr) (s : State) : (onGr p f s).pending = s.pending := rfl

/-! `onTh` -/

@[simp] theorem onTh_slices (p : Port) (f : SliceTh → SliceTh) (s : State) : (onTh p f s).slices = updAt s.slices p (fun x => { x with th := f x.th }) := rfl
@[simp] theorem onTh_sup (p : Port) (f : SliceTh → SliceTh) (s : State) : (onTh p f s).sup = s.sup := rfl
@[simp] theorem onTh_did (p : Port) (f : SliceTh → SliceTh) (s : State) : (onTh p f s).did = s.did := rfl
@[simp] theorem onTh_evr (p : Port) (f : SliceTh → SliceTh) (s : State) : (onTh p f s).evr = s.evr := rfl
@[simp] theorem onTh_eva (p : Port) (f : SliceTh → SliceTh) (s : State) : (onTh p f s).eva = s.eva := rfl
@[simp] theorem onTh_bud (p : Port) (f : SliceTh → SliceTh) (s : State) : (onTh p f s).bud = s.bud := rfl
@[simp] theorem onTh_kln (p : Port) (f : SliceTh → SliceTh) (s : State) : (onTh p f s).kln = s.kln := rfl
@[simp] theorem onTh_cyc (p : Port) (f : SliceTh → SliceTh) (s : State) : (onTh p f s).cyc = s.cyc := rfl
@[simp] theorem onTh_syn (p : Port) (f : SliceTh → SliceTh) (s : State) : (onTh p f s).syn = s.syn := rfl
@[simp] theorem onTh_hst (p : Port) (f : SliceTh → SliceTh) (s : State) : (onTh p f s).hst = s.hst := rfl
@[simp] theorem onTh_aux (p : Port) (f : SliceTh → SliceTh) (s : State) : (onTh p f s).aux = s.aux := rfl
@[simp] theorem onTh_fab (p : Port) (f : SliceTh → SliceTh) (s : State) : (onTh p f s).fab = s.fab := rfl
@[simp] theorem onTh_dma (p : Port) (f : SliceTh → SliceTh) (s : State) : (onTh p f s).dma = s.dma := rfl
@[simp] theorem onTh_nvc (p : Port) (f : SliceTh → SliceTh) (s : State) : (onTh p f s).nvc = s.nvc := rfl
@[simp] theorem onTh_nand (p : Port) (f : SliceTh → SliceTh) (s : State) : (onTh p f s).nand = s.nand := rfl
@[simp] theorem onTh_otp (p : Port) (f : SliceTh → SliceTh) (s : State) : (onTh p f s).otp = s.otp := rfl
@[simp] theorem onTh_lcu (p : Port) (f : SliceTh → SliceTh) (s : State) : (onTh p f s).lcu = s.lcu := rfl
@[simp] theorem onTh_mem (p : Port) (f : SliceTh → SliceTh) (s : State) : (onTh p f s).mem = s.mem := rfl
@[simp] theorem onTh_free (p : Port) (f : SliceTh → SliceTh) (s : State) : (onTh p f s).free = s.free := rfl
@[simp] theorem onTh_pending (p : Port) (f : SliceTh → SliceTh) (s : State) : (onTh p f s).pending = s.pending := rfl

/-! `onPins` -/

@[simp] theorem onPins_slices (p : Port) (f : SlicePins → SlicePins) (s : State) : (onPins p f s).slices = updAt s.slices p (fun x => { x with pins := f x.pins }) := rfl
@[simp] theorem onPins_sup (p : Port) (f : SlicePins → SlicePins) (s : State) : (onPins p f s).sup = s.sup := rfl
@[simp] theorem onPins_did (p : Port) (f : SlicePins → SlicePins) (s : State) : (onPins p f s).did = s.did := rfl
@[simp] theorem onPins_evr (p : Port) (f : SlicePins → SlicePins) (s : State) : (onPins p f s).evr = s.evr := rfl
@[simp] theorem onPins_eva (p : Port) (f : SlicePins → SlicePins) (s : State) : (onPins p f s).eva = s.eva := rfl
@[simp] theorem onPins_bud (p : Port) (f : SlicePins → SlicePins) (s : State) : (onPins p f s).bud = s.bud := rfl
@[simp] theorem onPins_kln (p : Port) (f : SlicePins → SlicePins) (s : State) : (onPins p f s).kln = s.kln := rfl
@[simp] theorem onPins_cyc (p : Port) (f : SlicePins → SlicePins) (s : State) : (onPins p f s).cyc = s.cyc := rfl
@[simp] theorem onPins_syn (p : Port) (f : SlicePins → SlicePins) (s : State) : (onPins p f s).syn = s.syn := rfl
@[simp] theorem onPins_hst (p : Port) (f : SlicePins → SlicePins) (s : State) : (onPins p f s).hst = s.hst := rfl
@[simp] theorem onPins_aux (p : Port) (f : SlicePins → SlicePins) (s : State) : (onPins p f s).aux = s.aux := rfl
@[simp] theorem onPins_fab (p : Port) (f : SlicePins → SlicePins) (s : State) : (onPins p f s).fab = s.fab := rfl
@[simp] theorem onPins_dma (p : Port) (f : SlicePins → SlicePins) (s : State) : (onPins p f s).dma = s.dma := rfl
@[simp] theorem onPins_nvc (p : Port) (f : SlicePins → SlicePins) (s : State) : (onPins p f s).nvc = s.nvc := rfl
@[simp] theorem onPins_nand (p : Port) (f : SlicePins → SlicePins) (s : State) : (onPins p f s).nand = s.nand := rfl
@[simp] theorem onPins_otp (p : Port) (f : SlicePins → SlicePins) (s : State) : (onPins p f s).otp = s.otp := rfl
@[simp] theorem onPins_lcu (p : Port) (f : SlicePins → SlicePins) (s : State) : (onPins p f s).lcu = s.lcu := rfl
@[simp] theorem onPins_mem (p : Port) (f : SlicePins → SlicePins) (s : State) : (onPins p f s).mem = s.mem := rfl
@[simp] theorem onPins_free (p : Port) (f : SlicePins → SlicePins) (s : State) : (onPins p f s).free = s.free := rfl
@[simp] theorem onPins_pending (p : Port) (f : SlicePins → SlicePins) (s : State) : (onPins p f s).pending = s.pending := rfl

end Sys2Proof.Machine
end

