-- ==== Sys2Proof/Laws/Beside.lean ====
section
/-!
SUPPORT. What an operation on one port leaves alone: every other slice and every shared block but the recorder and the
aggregator (`State.beside`).
-/

namespace Sys2Proof.Machine

theorem hideSlice_get (p q : Port) (v : Vector Slice 24) :
    (hideSlice p v).get q = if q = p then {} else { v.get q with ps := { (v.get q).ps with pwmph := {} } } := by
  simp [hideSlice, Vector.get_eq_getElem]

theorem hideSlice_ext (p : Port) (u v : Vector Slice 24)
    (h : ∀ q, q ≠ p → ({ u.get q with ps := { (u.get q).ps with pwmph := {} } } : Slice)
      = { v.get q with ps := { (v.get q).ps with pwmph := {} } }) : hideSlice p u = hideSlice p v := by
  apply Vector.ext; intro i hi
  have e := hideSlice_get p ⟨i, hi⟩
  simp only [Vector.get_eq_getElem] at e h
  rw [e, e]; split
  · rfl
  · rename_i hq; exact h _ hq

@[simp] theorem hideSlice_updAt (p : Port) (f : Slice → Slice) (v : Vector Slice 24) :
    hideSlice p (updAt v p f) = hideSlice p v := hideSlice_ext _ _ _ (fun q hq => by simp [hq])

theorem hideSlice_phase (p q : Port) (f : Slice → Slice) (v : Vector Slice 24)
    (h : ∀ x, ({ f x with ps := { (f x).ps with pwmph := {} } } : Slice) = { x with ps := { x.ps with pwmph := {} } }) :
    hideSlice p (updAt v q f) = hideSlice p v := by
  refine hideSlice_ext _ _ _ (fun r _ => ?_)
  rw [get_updAt]; split
  · rename_i e; subst e; exact h _
  · rfl

theorem onSlice_phase (x p : Port) (f : Slice → Slice) (s : State)
    (h : ∀ x, ({ f x with ps := { (f x).ps with pwmph := {} } } : Slice) = { x with ps := { x.ps with pwmph := {} } }) :
    (onSlice p f s).beside x = s.beside x := by
  simp only [onSlice, State.beside, hideSlice_phase x p f s.slices h]

/-- What the other slices hold is the same, stagger phases apart. -/
theorem beside_slice {p q : Port} {s t : State} (h : t.beside p = s.beside p) (hq : q ≠ p) :
    ({ t.slice q with ps := { (t.slice q).ps with pwmph := {} } } : Slice)
      = { s.slice q with ps := { (s.slice q).ps with pwmph := {} } } := by
  have e := congrArg (fun u => u.slices.get q) h
  simpa [State.beside, State.slice, hideSlice_get, hq] using e

@[simp] theorem beside_ite (p : Port) (c : Prop) [Decidable c] (a b : State) :
    (if c then a else b).beside p = if c then a.beside p else b.beside p := by split <;> rfl

@[simp] theorem beside_foldl {α : Type} (p : Port) (l : List α) (f : State → α → State) (s : State)
    (h : ∀ s x, (f s x).beside p = s.beside p) : (l.foldl f s).beside p = s.beside p := by
  induction l generalizing s with
  | nil => rfl
  | cons x l ih => rw [List.foldl_cons, ih, h]


/-! Ops -/

@[simp] theorem onSlice_beside (p : Port) (f : Slice → Slice) (s : State) :
    (onSlice p f s).beside p = s.beside p := by simp [onSlice, State.beside]

@[simp] theorem onAtt_beside (p : Port) (f : SliceAtt → SliceAtt) (s : State) :
    (onAtt p f s).beside p = s.beside p := by simp [onAtt]

@[simp] theorem onPd_beside (p : Port) (f : SlicePd → SlicePd) (s : State) :
    (onPd p f s).beside p = s.beside p := by simp [onPd]

@[simp] theorem onOff_beside (p : Port) (f : SliceOff → SliceOff) (s : State) :
    (onOff p f s).beside p = s.beside p := by simp [onOff]

@[simp] theorem onMb_beside (p : Port) (f : SliceMb → SliceMb) (s : State) :
    (onMb p f s).beside p = s.beside p := by simp [onMb]

@[simp] theorem onPs_beside (p : Port) (f : SlicePs → SlicePs) (s : State) :
    (onPs p f s).beside p = s.beside p := by simp [onPs]

@[simp] theorem onSw_beside (p : Port) (f : SliceSw → SliceSw) (s : State) :
    (onSw p f s).beside p = s.beside p := by simp [onSw]

@[simp] theorem onPr_beside (p : Port) (f : SlicePr → SlicePr) (s : State) :
    (onPr p f s).beside p = s.beside p := by simp [onPr]

@[simp] theorem onGr_beside (p : Port) (f : SliceGr → SliceGr) (s : State) :
    (onGr p f s).beside p = s.beside p := by simp [onGr]

@[simp] theorem onTh_beside (p : Port) (f : SliceTh → SliceTh) (s : State) :
    (onTh p f s).beside p = s.beside p := by simp [onTh]

@[simp] theorem onPins_beside (p : Port) (f : SlicePins → SlicePins) (s : State) :
    (onPins p f s).beside p = s.beside p := by simp [onPins]

@[simp] theorem onPortBud_beside (p : Port) (f : PortBud → PortBud) (s : State) :
    (onPortBud p f s).beside p = s.beside p := by simp [onPortBud, State.beside]

@[simp] theorem onEvr_beside (x : Port) (f : Evr → Evr) (s : State) :
    (onEvr f s).beside x = s.beside x := by simp [onEvr, State.beside]

@[simp] theorem onEvrBank_beside (x : Port) (k : Bank) (f : EvrBank → EvrBank) (s : State) :
    (onEvrBank k f s).beside x = s.beside x := by simp [onEvrBank]

@[simp] theorem onEvaBank_beside (x : Port) (k : Bank) (f : EvaBank → EvaBank) (s : State) :
    (onEvaBank k f s).beside x = s.beside x := by simp [onEvaBank, State.beside]

@[simp] theorem raise_beside (x : Port) (n : Nat) (s : State) :
    (raise n s).beside x = s.beside x := by simp [raise, State.beside]

@[simp] theorem ringPut_beside (x : Port) (type : BitVec 8) (source : BitVec 8) (flags : BitVec 16) (data : BitVec 48)
    (s : State) :
    (ringPut type source flags data s).beside x = s.beside x := by simp only [ringPut]; (repeat' split) <;> simp [State.beside]

@[simp] theorem ringWrite_beside (x : Port) (type : BitVec 8) (source : BitVec 8) (flags : BitVec 16) (data : BitVec 48)
    (s : State) :
    (ringWrite type source flags data s).beside x = s.beside x := by simp [ringWrite]

@[simp] theorem hwRecord_beside (x : Port) (type : BitVec 8) (source : BitVec 8) (flags : BitVec 16) (data : BitVec 48)
    (s : State) :
    (hwRecord type source flags data s).beside x = s.beside x := by simp [hwRecord]

@[simp] theorem fwRecord_beside (x : Port) (source : Nat) (word : Word) (idx : Nat) (s : State) :
    (fwRecord source word idx s).beside x = s.beside x := by simp [fwRecord]

@[simp] theorem globalEvent_beside (x : Port) (n : Nat) (word : Word) (idx : Nat) (s : State) :
    (globalEvent n word idx s).beside x = s.beside x := by simp [globalEvent]

@[simp] theorem portEvent_beside (p : Port) (k : Nat) (s : State) :
    (portEvent p k s).beside p = s.beside p := by simp [portEvent]

@[simp] theorem supplyRecord_beside (x : Port) (source : BitVec 8) (s : State) :
    (supplyRecord source s).beside x = s.beside x := by simp [supplyRecord]

@[simp] theorem supplyEvent_beside (x : Port) (n : Nat) (s : State) :
    (supplyEvent n s).beside x = s.beside x := by simp [supplyEvent]

/-! PowerOps -/

@[simp] theorem tripEvent_beside (p : Port) (latched : Bool) (s : State) :
    (tripEvent p latched s).beside p = s.beside p := by simp [tripEvent]

@[simp] theorem selfCheck_beside (p : Port) (s : State) :
    (selfCheck p s).beside p = s.beside p := by simp [selfCheck]

@[simp] theorem selfCheckWith_beside (p : Port) (bad : BitVec 4) (s : State) :
    (selfCheckWith p bad s).beside p = s.beside p := by simp [selfCheckWith]

@[simp] theorem startConv_beside (p : Port) (s : State) :
    (startConv p s).beside p = s.beside p := by simp [startConv]

@[simp] theorem startSwapConv_beside (p : Port) (s : State) :
    (startSwapConv p s).beside p = s.beside p := by simp [startSwapConv]

@[simp] theorem startPower_beside (p : Port) (s : State) :
    (startPower p s).beside p = s.beside p := by simp [startPower]

@[simp] theorem writePwmph_beside (x : Port) (p : Port) (w : Word) (s : State) :
    (writePwmph p w s).beside x = s.beside x := onSlice_phase x p _ s (fun _ => rfl)

@[simp] theorem spreadGroup_beside (x : Port) (g : Nat) (s : State) :
    (spreadGroup g s).beside x = s.beside x := beside_foldl _ _ _ _ (fun _ _ => writePwmph_beside _ _ _ _)

@[simp] theorem spreading_beside (x : Port) (f : State → State) (s : State) (hf : ∀ (y0 : State),
    (f y0).beside x = y0.beside x) :
    (spreading f s).beside x = s.beside x := by
  simp only [spreading]; split
  · exact hf s
  · rw [beside_foldl]
    · exact hf s
    · intro t g; split
      · rfl
      · exact spreadGroup_beside _ _ _

/-! FarEnd -/

@[simp] theorem feReport_beside (p : Port) (cnl : Byte) (vin : BitVec 16) (fault : Byte) (s : State) :
    (feReport p cnl vin fault s).beside p = s.beside p := by simp [feReport]

@[simp] theorem feEnd_beside (p : Port) (s : State) :
    (feEnd p s).beside p = s.beside p := by simp [feEnd]

@[simp] theorem feDiscard_beside (p : Port) (s : State) :
    (feDiscard p s).beside p = s.beside p := by simp [feDiscard]

@[simp] theorem feWithdraw_beside (p : Port) (s : State) :
    (feWithdraw p s).beside p = s.beside p := by simp [feWithdraw]

@[simp] theorem feCycle_beside (p : Port) (s : State) :
    (feCycle p s).beside p = s.beside p := by simp [feCycle]

@[simp] theorem phaseLoad_beside (p : Port) (force : Bool) (s : State) :
    (phaseLoad p force s).beside p = s.beside p := by simp [phaseLoad]

/-! EngineOps -/

@[simp] theorem pump_beside (p : Port) (s : State) :
    (pump p s).beside p = s.beside p := by simp [pump]

@[simp] theorem queueMsg_beside (p : Port) (m : TxMsg) (s : State) :
    (queueMsg p m s).beside p = s.beside p := by simp [queueMsg]

@[simp] theorem startAms_beside (p : Port) (c : Ctx) (kind : MsgKind) (words : List Word) (s : State) :
    (startAms p c kind words s).beside p = s.beside p := by simp [startAms]

@[simp] theorem reply_beside (p : Port) (c : Ctx) (kind : MsgKind) (words : List Word) (s : State) :
    (reply p c kind words s).beside p = s.beside p := by simp [reply]

@[simp] theorem replyWhy_beside (p : Port) (kind : MsgKind) (why : TxWhy) (s : State) :
    (replyWhy p kind why s).beside p = s.beside p := by simp [replyWhy]

@[simp] theorem endAms_beside (p : Port) (s : State) :
    (endAms p s).beside p = s.beside p := by simp [endAms]

@[simp] theorem policyForget_beside (p : Port) (s : State) :
    (policyForget p s).beside p = s.beside p := by simp [policyForget]

@[simp] theorem errorRecovery_beside (p : Port) (s : State) :
    (errorRecovery p s).beside p = s.beside p := by simp [errorRecovery]

@[simp] theorem detach_beside (p : Port) (s : State) :
    (detach p s).beside p = s.beside p := by simp [detach]

@[simp] theorem pdSilence_beside (p : Port) (s : State) :
    (pdSilence p s).beside p = s.beside p := by simp [pdSilence]

@[simp] theorem hrPower_beside (p : Port) (s : State) :
    (hrPower p s).beside p = s.beside p := by simp [hrPower]

@[simp] theorem emitHardReset_beside (p : Port) (s : State) :
    (emitHardReset p s).beside p = s.beside p := by simp [emitHardReset]

@[simp] theorem sendHardReset_beside (p : Port) (s : State) :
    (sendHardReset p s).beside p = s.beside p := by simp [sendHardReset]

@[simp] theorem sendSoftReset_beside (p : Port) (c : Ctx) (s : State) :
    (sendSoftReset p c s).beside p = s.beside p := by simp [sendSoftReset]

@[simp] theorem sendCableReset_beside (p : Port) (s : State) :
    (sendCableReset p s).beside p = s.beside p := by simp [sendCableReset]

@[simp] theorem protocolError_beside (p : Port) (c : Ctx) (s : State) :
    (protocolError p c s).beside p = s.beside p := by unfold protocolError; split <;> simp

@[simp] theorem discoverSend_beside (p : Port) (s : State) :
    (discoverSend p s).beside p = s.beside p := by simp [discoverSend]

@[simp] theorem discoverStart_beside (p : Port) (s : State) :
    (discoverStart p s).beside p = s.beside p := by simp [discoverStart]

/-! OfferOps -/

@[simp] theorem renewAdverts_beside (p : Port) (s : State) :
    (renewAdverts p s).beside p = s.beside p := by simp [renewAdverts]

@[simp] theorem advertise_beside (p : Port) (s : State) :
    (advertise p s).beside p = s.beside p := by simp [advertise]

@[simp] theorem abortChange_beside (p : Port) (cause : BitVec 3) (s : State) :
    (abortChange p cause s).beside p = s.beside p := by simp only [abortChange]; (repeat' split) <;> simp

@[simp] theorem tryAlert_beside (p : Port) (s : State) :
    (tryAlert p s).beside p = s.beside p := by simp [tryAlert]

@[simp] theorem alertBit_beside (p : Port) (b : BitVec 3) (s : State) :
    (alertBit p b s).beside p = s.beside p := by simp [alertBit]

@[simp] theorem limitsChanged_beside (p : Port) (s : State) :
    (limitsChanged p s).beside p = s.beside p := by simp only [limitsChanged]; (repeat' split) <;> simp

/-! Thatch -/

@[simp] theorem thAdvance_beside (p : Port) (step : ThStep) (state : BitVec 3) (kind : MsgKind) (words : List Word)
    (s : State) :
    (thAdvance p step state kind words s).beside p = s.beside p := by simp [thAdvance]

@[simp] theorem thStop_beside (p : Port) (state : BitVec 3) (s : State) :
    (thStop p state s).beside p = s.beside p := by simp [thStop]

@[simp] theorem thIdentityAnswer_beside (p : Port) (id : Option (BitVec 16 × BitVec 16)) (s : State) :
    (thIdentityAnswer p id s).beside p = s.beside p := by simp only [thIdentityAnswer]; (repeat' split) <;> simp

@[simp] theorem thSvidsAnswer_beside (p : Port) (svids : List (BitVec 16)) (s : State) :
    (thSvidsAnswer p svids s).beside p = s.beside p := by simp [thSvidsAnswer]

@[simp] theorem thSendEnter_beside (p : Port) (s : State) :
    (thSendEnter p s).beside p = s.beside p := by simp [thSendEnter]

@[simp] theorem thModesAnswer_beside (p : Port) (vdos : List Word) (s : State) :
    (thModesAnswer p vdos s).beside p = s.beside p := by simp only [thModesAnswer]; (repeat' split) <;> simp

@[simp] theorem enterModeAnswer_beside (p : Port) (ans : VdmType) (s : State) :
    (enterModeAnswer p ans s).beside p = s.beside p := by unfold enterModeAnswer; split <;> simp

@[simp] theorem thPollReport_beside (p : Port) (r : ThReport) (s : State) :
    (thPollReport p r s).beside p = s.beside p := by simp [thPollReport]

@[simp] theorem thFlags_beside (p : Port) (r : ThReport) (s : State) :
    (thFlags p r s).beside p = s.beside p := by simp [thFlags]

@[simp] theorem thOff_beside (p : Port) (s : State) :
    (thOff p s).beside p = s.beside p := by simp [thOff]

@[simp] theorem thExit_beside (p : Port) (s : State) :
    (thExit p s).beside p = s.beside p := by simp [thExit]

@[simp] theorem writeThctl_beside (p : Port) (w : Word) (s : State) :
    (writeThctl p w s).beside p = s.beside p := by simp [writeThctl]

@[simp] theorem vdmResponseTimeout_beside (p : Port) (s : State) :
    (vdmResponseTimeout p s).beside p = s.beside p := by simp only [vdmResponseTimeout]; (repeat' split) <;> simp

/-! GrantOps -/

@[simp] theorem sinkRequest_beside (p : Port) (answer : Bool) (s : State) :
    (sinkRequest p answer s).beside p = s.beside p := by simp only [sinkRequest]; (repeat' split) <;> simp

@[simp] theorem frsCheck_beside (p : Port) (s : State) :
    (frsCheck p s).beside p = s.beside p := by simp [frsCheck]

@[simp] theorem frsSignal_beside (p : Port) (s : State) :
    (frsSignal p s).beside p = s.beside p := by simp [frsSignal]

@[simp] theorem grantGone_beside (p : Port) (byCap : Bool) (s : State) :
    (grantGone p byCap s).beside p = s.beside p := by simp [grantGone]

@[simp] theorem grantBack_beside (p : Port) (s : State) :
    (grantBack p s).beside p = s.beside p := by simp [grantBack]

@[simp] theorem grantMoved_beside (p : Port) (old : SliceGr) (byCap : Bool) (s : State) :
    (grantMoved p old byCap s).beside p = s.beside p := by simp [grantMoved]

@[simp] theorem setGrant_beside (p : Port) (g : SlcGrant) (s : State) :
    (setGrant p g s).beside p = s.beside p := by simp [setGrant]

@[simp] theorem writeProflim_beside (p : Port) (v : SlcProflim) (s : State) :
    (writeProflim p v s).beside p = s.beside p := by simp [writeProflim]

/-! RecorderOps -/

@[simp] theorem recorderRecord_beside (x : Port) (source : Byte) (low : Nat) (cause : Nat) (high : Nat) (s : State) :
    (recorderRecord source low cause high s).beside x = s.beside x := by simp [recorderRecord]

@[simp] theorem saturated_beside (x : Port) (which : Nat) (s : State) :
    (saturated which s).beside x = s.beside x := by simp [saturated]

@[simp] theorem reportLost_beside (x : Port) (s : State) :
    (reportLost s).beside x = s.beside x := by simp [reportLost]

@[simp] theorem sectorLogged_beside (x : Port) (rs : List Rec4) (s : State) :
    (sectorLogged rs s).beside x = s.beside x := by unfold sectorLogged; split <;> simp

@[simp] theorem evrAdvance_beside (x : Port) (k : Bank) (s : State) :
    (evrAdvance k s).beside x = s.beside x := by simp [evrAdvance]

@[simp] theorem clearRing_beside (x : Port) (fw : Bool) (dom : Nat) (s : State) :
    (clearRing fw dom s).beside x = s.beside x := by simp [clearRing]

/-! ProtectOps -/

@[simp] theorem trip_beside (p : Port) (cause : BitVec 4) (i : BitVec 16) (v : BitVec 16) (s : State) :
    (trip p cause i v s).beside p = s.beside p := by simp [trip]

@[simp] theorem startAttempt_beside (p : Port) (s : State) :
    (startAttempt p s).beside p = s.beside p := by simp [startAttempt]

@[simp] theorem engineStart_beside (p : Port) (s : State) :
    (engineStart p s).beside p = s.beside p := by simp [engineStart]

/-! SwapOps -/

@[simp] theorem swapDone_beside (p : Port) (f : Slice → Slice) (s : State) :
    (swapDone p f s).beside p = s.beside p := by simp [swapDone]

@[simp] theorem sendSwap_beside (p : Port) (k : SwapKind) (s : State) :
    (sendSwap p k s).beside p = s.beside p := by simp [sendSwap]

@[simp] theorem trySwaps_beside (p : Port) (s : State) :
    (trySwaps p s).beside p = s.beside p := by simp [trySwaps]

@[simp] theorem dropSwap_beside (p : Port) (result : BitVec 3) (k : SwapKind) (s : State) :
    (dropSwap p result k s).beside p = s.beside p := by simp [dropSwap]

@[simp] theorem prFromSink_beside (p : Port) (s : State) :
    (prFromSink p s).beside p = s.beside p := by simp [prFromSink]

@[simp] theorem vconnAccepted_beside (p : Port) (s : State) :
    (vconnAccepted p s).beside p = s.beside p := by simp [vconnAccepted]

@[simp] theorem frsOldGate_beside (p : Port) (s : State) :
    (frsOldGate p s).beside p = s.beside p := by simp [frsOldGate]

@[simp] theorem swapAccepted_beside (p : Port) (k : SwapKind) (s : State) :
    (swapAccepted p k s).beside p = s.beside p := by unfold swapAccepted; split <;> simp

@[simp] theorem prRamp_beside (p : Port) (s : State) :
    (prRamp p s).beside p = s.beside p := by simp [prRamp]

@[simp] theorem prVbusDown_beside (p : Port) (s : State) :
    (prVbusDown p s).beside p = s.beside p := by simp [prVbusDown]

@[simp] theorem prGate_beside (p : Port) (s : State) :
    (prGate p s).beside p = s.beside p := by simp [prGate]

@[simp] theorem frsFinish_beside (p : Port) (s : State) :
    (frsFinish p s).beside p = s.beside p := by simp [frsFinish]

@[simp] theorem frsClose_beside (p : Port) (s : State) :
    (frsClose p s).beside p = s.beside p := by simp [frsClose]

/-! Supply -/

@[simp] theorem resumeChange_beside (p : Port) (s : State) :
    (resumeChange p s).beside p = s.beside p := by simp only [resumeChange]; (repeat' split) <;> simp

@[simp] theorem releaseTransitions_beside (p : Port) (s : State) :
    (releaseTransitions p s).beside p = s.beside p := by simp [releaseTransitions]

@[simp] theorem releaseResets_beside (p : Port) (s : State) :
    (releaseResets p s).beside p = s.beside p := by unfold releaseResets; split <;> simp

@[simp] theorem releaseAdverts_beside (p : Port) (s : State) :
    (releaseAdverts p s).beside p = s.beside p := by simp [releaseAdverts]

/-! Attach -/

@[simp] theorem whenReleased_beside (x : Port) (f : State → State) (s : State) (hf : ∀ (y0 : State),
    (f y0).beside x = y0.beside x) :
    (whenReleased f s).beside x = s.beside x := by simp only [whenReleased]; (repeat' split) <;> simp_all

@[simp] theorem enterDebug_beside (p : Port) (st : BitVec 4) (partner : BitVec 3) (s : State) :
    (enterDebug p st partner s).beside p = s.beside p := by simp [enterDebug]

@[simp] theorem attachSource_beside (p : Port) (s : State) :
    (attachSource p s).beside p = s.beside p := by simp [attachSource]

@[simp] theorem attachWaitDone_beside (p : Port) (s : State) :
    (attachWaitDone p s).beside p = s.beside p := by simp [attachWaitDone]

@[simp] theorem attachSink_beside (p : Port) (s : State) :
    (attachSink p s).beside p = s.beside p := by simp [attachSink]

@[simp] theorem sinkHeld_beside (p : Port) (s : State) :
    (sinkHeld p s).beside p = s.beside p := by simp [sinkHeld]

@[simp] theorem ccMoves_beside (p : Port) (changed : Bool) (s : State) :
    (ccMoves p changed s).beside p = s.beside p := by simp [ccMoves]

@[simp] theorem ccSample_beside (p : Port) (cc1 : Option Nat) (cc2 : Option Nat) (rpBoth : Bool) (ivc vvcIn : Nat) (s : State) :
    (ccSample p cc1 cc2 rpBoth ivc vvcIn s).beside p = s.beside p := by simp [ccSample]

@[simp] theorem ccDebounced_beside (p : Port) (s : State) :
    (ccDebounced p s).beside p = s.beside p := by simp [ccDebounced]

@[simp] theorem vbusSafe5_beside (p : Port) (s : State) :
    (vbusSafe5 p s).beside p = s.beside p := by simp [vbusSafe5]

@[simp] theorem sinkRecovered_beside (p : Port) (s : State) :
    (sinkRecovered p s).beside p = s.beside p := by simp [sinkRecovered]

@[simp] theorem vbusLevel_beside (p : Port) (mv : Nat) (s : State) :
    (vbusLevel p mv s).beside p = s.beside p := by simp [vbusLevel]

@[simp] theorem vconnBack_beside (p : Port) (s : State) :
    (vconnBack p s).beside p = s.beside p := by simp [vconnBack]

@[simp] theorem writeAttctl_beside (p : Port) (w : Word) (s : State) :
    (writeAttctl p w s).beside p = s.beside p := by simp [writeAttctl]

/-! Fuses -/

@[simp] theorem fuseRecords_beside (x : Port) (s : State) :
    (fuseRecords s).beside x = s.beside x := by simp [fuseRecords]

/-! Budget -/

@[simp] theorem lookupPort_beside (p : Port) (s : State) :
    (lookupPort p s).beside p = s.beside p := by simp only [lookupPort]; (repeat' split) <;> simp

/-! ConfigImage -/

@[simp] theorem withWord_beside (x : Port) (r : ImgRec) (i : Nat) (f : Word → State → State) (s : State) (hf : ∀ (y0 : Word)
    (y1 : State), (f y0 y1).beside x = y1.beside x) :
    (withWord r i f s).beside x = s.beside x := by simp only [withWord]; (repeat' split) <;> simp_all

@[simp] theorem applyThatch_beside (p : Port) (w : Word) (s : State) :
    (applyThatch p w s).beside p = s.beside p := by simp [applyThatch]

@[simp] theorem adjustRecord_beside (x : Port) (index : Nat) (adjust : Nat) (value : Word) (s : State) :
    (adjustRecord index adjust value s).beside x = s.beside x := by simp [adjustRecord]

@[simp] theorem loadEntry0_beside (p : Port) (s : State) :
    (loadEntry0 p s).beside p = s.beside p := by simp [loadEntry0]

@[simp] theorem loadEntry_beside (p : Port) (e : Nat) (s : State) :
    (loadEntry p e s).beside p = s.beside p := by unfold loadEntry; split <;> simp

@[simp] theorem checkComp_beside (p : Port) (s : State) :
    (checkComp p s).beside p = s.beside p := by simp [checkComp]

@[simp] theorem checkXt_beside (p : Port) (s : State) :
    (checkXt p s).beside p = s.beside p := by simp [checkXt]

/-! UpdateOps -/

@[simp] theorem bankRecord_beside (x : Port) (source : Byte) (bank : Bool) (cause : Nat) (s : State) :
    (bankRecord source bank cause s).beside x = s.beside x := by simp [bankRecord]

/-! Boot -/

@[simp] theorem clockRecord_beside (x : Port) (source : Byte) (cause : Nat) (s : State) :
    (clockRecord source cause s).beside x = s.beside x := by simp [clockRecord]

@[simp] theorem releaseTie_beside (p : Port) (h : HandoverSample) (s : State) :
    (releaseTie p h s).beside p = s.beside p := by simp [releaseTie]

@[simp] theorem coreRecord_beside (x : Port) (c : CoreId) (cause : Nat) (s : State) :
    (coreRecord c cause s).beside x = s.beside x := by simp [coreRecord]

/-! Contract -/

@[simp] theorem request_beside (p : Port) (r : RequestMsg) (s : State) :
    (request p r s).beside p = s.beside p := by simp only [request]; (repeat' split) <;> simp

@[simp] theorem acceptAcked_beside (p : Port) (s : State) :
    (acceptAcked p s).beside p = s.beside p := by simp only [acceptAcked]; (repeat' split) <;> simp

@[simp] theorem srcTransitionExpiry_beside (p : Port) (s : State) :
    (srcTransitionExpiry p s).beside p = s.beside p := by simp only [srcTransitionExpiry]; (repeat' split) <;> simp

@[simp] theorem afterCommit_beside (p : Port) (s : State) :
    (afterCommit p s).beside p = s.beside p := by simp [afterCommit]

@[simp] theorem commitContract_beside (p : Port) (s : State) :
    (commitContract p s).beside p = s.beside p := by simp only [commitContract]; (repeat' split) <;> simp

@[simp] theorem writeXctl_beside (p : Port) (w : Word) (s : State) :
    (writeXctl p w s).beside p = s.beside p := by simp [writeXctl]

@[simp] theorem eprAckAcked_beside (p : Port) (s : State) :
    (eprAckAcked p s).beside p = s.beside p := by simp [eprAckAcked]

@[simp] theorem eprEntered_beside (p : Port) (s : State) :
    (eprEntered p s).beside p = s.beside p := by simp [eprEntered]

@[simp] theorem eprLeft_beside (p : Port) (s : State) :
    (eprLeft p s).beside p = s.beside p := by simp [eprLeft]

/-! Swap -/

@[simp] theorem acceptSwap_beside (p : Port) (k : SwapKind) (s : State) :
    (acceptSwap p k s).beside p = s.beside p := by simp [acceptSwap]

@[simp] theorem answerSwap_beside (p : Port) (k : SwapKind) (ok : Slice → State → Bool) (waits : Bool) (s : State) :
    (answerSwap p k ok waits s).beside p = s.beside p := by simp [answerSwap]

@[simp] theorem unsupported_beside (p : Port) (c : Ctx) (s : State) :
    (unsupported p c s).beside p = s.beside p := by simp [unsupported]

@[simp] theorem writeSwctl_beside (p : Port) (w : Word) (s : State) :
    (writeSwctl p w s).beside p = s.beside p := by simp [writeSwctl]

@[simp] theorem swapAnswer_beside (p : Port) (a : SwapReply) (s : State) :
    (swapAnswer p a s).beside p = s.beside p := by simp only [swapAnswer]; (repeat' split) <;> simp

@[simp] theorem swapRetryTimer_beside (p : Port) (s : State) :
    (swapRetryTimer p s).beside p = s.beside p := by unfold swapRetryTimer; split <;> simp

@[simp] theorem becomeSource_beside (p : Port) (s : State) :
    (becomeSource p s).beside p = s.beside p := by simp [becomeSource]

@[simp] theorem becomeSink_beside (p : Port) (s : State) :
    (becomeSink p s).beside p = s.beside p := by simp [becomeSink]

@[simp] theorem swapPsRdy_beside (p : Port) (s : State) :
    (swapPsRdy p s).beside p = s.beside p := by unfold swapPsRdy; split <;> simp

@[simp] theorem swapReadyAcked_beside (p : Port) (k : SwapKind) (s : State) :
    (swapReadyAcked p k s).beside p = s.beside p := by unfold swapReadyAcked; split <;> simp

@[simp] theorem sourceCapabilities_beside (p : Port) (c : SourceCaps) (s : State) :
    (sourceCapabilities p c s).beside p = s.beside p := by simp [sourceCapabilities]

@[simp] theorem sinkCommit_beside (p : Port) (s : State) :
    (sinkCommit p s).beside p = s.beside p := by simp only [sinkCommit]; (repeat' split) <;> simp

/-! Message -/

@[simp] theorem answerUnsupported_beside (p : Port) (c : Ctx) (k : MsgKind) (s : State) :
    (answerUnsupported p c k s).beside p = s.beside p := by unfold answerUnsupported; split <;> simp

@[simp] theorem mbPush_beside (p : Port) (f : Frame) (isCopy : Bool) (phase : BitVec 16) (s : State) :
    (mbPush p f isCopy phase s).1.beside p = s.beside p := by simp only [mbPush]; (repeat' split) <;> simp

@[simp] theorem unsupportedMessage_beside (p : Port) (c : Ctx) (phase : BitVec 16) (s : State) :
    (unsupportedMessage p c phase s).beside p = s.beside p := by simp only [unsupportedMessage]; (repeat' split) <;> simp

@[simp] theorem hostReplyTimeout_beside (p : Port) (s : State) :
    (hostReplyTimeout p s).beside p = s.beside p := by simp only [hostReplyTimeout]; (repeat' split) <;> simp

@[simp] theorem engineAnswer_beside (p : Port) (awaited : Option TxMsg) (f : Frame) (s : State) :
    (engineAnswer p awaited f s).beside p = s.beside p := by simp only [engineAnswer]; (repeat' split) <;> simp

@[simp] theorem handOn_beside (p : Port) (f : Frame) (awaited : Option TxMsg) (phase : BitVec 16) (s : State) :
    (handOn p f awaited phase s).beside p = s.beside p := by simp [handOn]

@[simp] theorem chunkReceived_beside (p : Port) (c : Ctx) (s : State) :
    (chunkReceived p c s).beside p = s.beside p := by unfold chunkReceived; split <;> simp

@[simp] theorem takeFrame_beside (p : Port) (f : Frame) (phase : BitVec 16) (s : State) :
    (takeFrame p f phase s).beside p = s.beside p := by simp only [takeFrame]; (repeat' split) <;> simp

@[simp] theorem receiveFrame_beside (p : Port) (f : Frame) (phase : BitVec 16) (s : State) :
    (receiveFrame p f phase s).beside p = s.beside p := by simp [receiveFrame]

@[simp] theorem mailboxAcked_beside (p : Port) (m : TxMsg) (s : State) :
    (mailboxAcked p m s).beside p = s.beside p := by simp [mailboxAcked]

@[simp] theorem ownAcked_beside (p : Port) (m : TxMsg) (s : State) :
    (ownAcked p m s).beside p = s.beside p := by unfold ownAcked; split <;> simp

@[simp] theorem goodCrcReceived_beside (p : Port) (more : Bool) (s : State) :
    (goodCrcReceived p more s).beside p = s.beside p := by unfold goodCrcReceived; split <;> simp

@[simp] theorem txFailed_beside (p : Port) (m : TxMsg) (s : State) :
    (txFailed p m s).beside p = s.beside p := by simp only [txFailed]; (repeat' split) <;> simp

@[simp] theorem crcReceiveTimeout_beside (p : Port) (s : State) :
    (crcReceiveTimeout p s).beside p = s.beside p := by simp only [crcReceiveTimeout]; (repeat' split) <;> simp

@[simp] theorem senderResponseTimeout_beside (p : Port) (s : State) :
    (senderResponseTimeout p s).beside p = s.beside p := by simp only [senderResponseTimeout]; (repeat' split) <;> simp

@[simp] theorem chunkTimeout_beside (p : Port) (t : ChunkTimer) (s : State) :
    (chunkTimeout p t s).beside p = s.beside p := by simp only [chunkTimeout]; (repeat' split) <;> simp

@[simp] theorem hardReset_beside (p : Port) (s : State) :
    (hardReset p s).beside p = s.beside p := by simp only [hardReset]; (repeat' split) <;> simp

@[simp] theorem discoveryEnded_beside (p : Port) (s : State) :
    (discoveryEnded p s).beside p = s.beside p := by simp [discoveryEnded]

@[simp] theorem cableAnswer_beside (p : Port) (a : CableAnswer) (s : State) :
    (cableAnswer p a s).beside p = s.beside p := by unfold cableAnswer; split <;> simp

@[simp] theorem writePdctl_beside (p : Port) (w : Word) (s : State) :
    (writePdctl p w s).beside p = s.beside p := by simp [writePdctl]

/-! Mailbox -/

@[simp] theorem mbSend_beside (p : Port) (s : State) :
    (mbSend p s).beside p = s.beside p := by simp only [mbSend]; (repeat' split) <;> simp

@[simp] theorem mbAbort_beside (p : Port) (s : State) :
    (mbAbort p s).beside p = s.beside p := by simp [mbAbort]

@[simp] theorem writeMbtxCtl_beside (p : Port) (w : Word) (s : State) :
    (writeMbtxCtl p w s).beside p = s.beside p := by simp [writeMbtxCtl]

@[simp] theorem writeMbrxCtl_beside (p : Port) (w : Word) (s : State) :
    (writeMbrxCtl p w s).beside p = s.beside p := by simp [writeMbrxCtl]

/-! PowerStage -/

@[simp] theorem slotActions_beside (h : Nat) (p : Port) (s : State) :
    (slotActions h p s).beside p = s.beside p := by simp [slotActions]

/-! Protect -/

@[simp] theorem raiseLevel_beside (p : Port) (m : BitVec 4) (s : State) :
    (raiseLevel p m s).beside p = s.beside p := by simp [raiseLevel]

@[simp] theorem powerAgain_beside (p : Port) (s : State) :
    (powerAgain p s).beside p = s.beside p := by simp [powerAgain]

@[simp] theorem unlatch_beside (p : Port) (s : State) :
    (unlatch p s).beside p = s.beside p := by simp [unlatch]

@[simp] theorem sinkTrip_beside (p : Port) (cause : BitVec 4) (i : BitVec 16) (v : BitVec 16) (s : State) :
    (sinkTrip p cause i v s).beside p = s.beside p := by simp [sinkTrip]

/-! Recorder -/

@[simp] theorem writeCursor_beside (x : Port) (q : Requester) (isSrc : Bool) (w : Word) (s : State) :
    (writeCursor q isSrc w s).beside x = s.beside x := by simp [writeCursor]

@[simp] theorem clearPending_beside (x : Port) (k : Bank) (j : Fin 8) (w : Word) (s : State) :
    (clearPending k j w s).beside x = s.beside x := by simp [clearPending]

@[simp] theorem minutePasses_beside (x : Port) (s : State) :
    (minutePasses s).beside x = s.beside x := by simp [minutePasses]

/-! RegMap -/

@[simp] theorem writeSlcLow_beside (p : Port) (off : Nat) (w : Word) (s : State) :
    (writeSlcLow p off w s).beside p = s.beside p := by unfold writeSlcLow; split <;> simp

@[simp] theorem writeMbReg_beside (p : Port) (off : Nat) (w : Word) (s : State) :
    (writeMbReg p off w s).beside p = s.beside p := by simp [writeMbReg]

@[simp] theorem writeSlcPower_beside (p : Port) (off : Nat) (w : Word) (s : State) :
    (writeSlcPower p off w s).beside p = s.beside p := by unfold writeSlcPower; split <;> simp

@[simp] theorem writeEvr_beside (x : Port) (q : Requester) (off : Nat) (w : Word) (s : State) :
    (writeEvr q off w s).beside x = s.beside x := by simp [writeEvr]

@[simp] theorem writeEva_beside (x : Port) (k : Bank) (off : Nat) (w : Word) (s : State) :
    (writeEva k off w s).beside x = s.beside x := by unfold writeEva; split <;> simp

/-! Fabric -/

@[simp] theorem dmaEvent_beside (x : Port) (n : Nat) (c : Fin 16) (s : State) :
    (dmaEvent n c s).beside x = s.beside x := by simp [dmaEvent]

/-! HostPorts -/

@[simp] theorem hostEvent_beside (x : Port) (d : Domain) (s : State) :
    (hostEvent d s).beside x = s.beside x := by unfold hostEvent; split <;> simp

/-! Update -/

@[simp] theorem reloadSlice_beside (p : Port) (s : State) :
    (reloadSlice p s).beside p = s.beside p := by simp [reloadSlice]

end Sys2Proof.Machine
end

