-- ==== Sys2Proof/Laws/Events.lean ====
section
/-!
SUPPORT. Events and records change the aggregator and the recorder alone; an event sets its pending bit in every bank, and
no event or record clears one.
-/

namespace Sys2Proof.Machine

/-! `raise` -/

@[simp] theorem raise_runs (n : Nat) (s : State) : policyRuns (raise n s) = policyRuns s := by simp [policyRuns]

/-! `ringPut` -/

@[simp] theorem ringPut_slices (ty so : BitVec 8) (fl : BitVec 16) (da : BitVec 48) (s : State) : (ringPut ty so fl da s).slices = s.slices := by
  unfold ringPut; dsimp only; repeat' split
  all_goals rfl
@[simp] theorem ringPut_sup (ty so : BitVec 8) (fl : BitVec 16) (da : BitVec 48) (s : State) : (ringPut ty so fl da s).sup = s.sup := by
  unfold ringPut; dsimp only; repeat' split
  all_goals rfl
@[simp] theorem ringPut_did (ty so : BitVec 8) (fl : BitVec 16) (da : BitVec 48) (s : State) : (ringPut ty so fl da s).did = s.did := by
  unfold ringPut; dsimp only; repeat' split
  all_goals rfl
@[simp] theorem ringPut_bud (ty so : BitVec 8) (fl : BitVec 16) (da : BitVec 48) (s : State) : (ringPut ty so fl da s).bud = s.bud := by
  unfold ringPut; dsimp only; repeat' split
  all_goals rfl
@[simp] theorem ringPut_kln (ty so : BitVec 8) (fl : BitVec 16) (da : BitVec 48) (s : State) : (ringPut ty so fl da s).kln = s.kln := by
  unfold ringPut; dsimp only; repeat' split
  all_goals rfl
@[simp] theorem ringPut_cyc (ty so : BitVec 8) (fl : BitVec 16) (da : BitVec 48) (s : State) : (ringPut ty so fl da s).cyc = s.cyc := by
  unfold ringPut; dsimp only; repeat' split
  all_goals rfl
@[simp] theorem ringPut_syn (ty so : BitVec 8) (fl : BitVec 16) (da : BitVec 48) (s : State) : (ringPut ty so fl da s).syn = s.syn := by
  unfold ringPut; dsimp only; repeat' split
  all_goals rfl
@[simp] theorem ringPut_hst (ty so : BitVec 8) (fl : BitVec 16) (da : BitVec 48) (s : State) : (ringPut ty so fl da s).hst = s.hst := by
  unfold ringPut; dsimp only; repeat' split
  all_goals rfl
@[simp] theorem ringPut_aux (ty so : BitVec 8) (fl : BitVec 16) (da : BitVec 48) (s : State) : (ringPut ty so fl da s).aux = s.aux := by
  unfold ringPut; dsimp only; repeat' split
  all_goals rfl
@[simp] theorem ringPut_fab (ty so : BitVec 8) (fl : BitVec 16) (da : BitVec 48) (s : State) : (ringPut ty so fl da s).fab = s.fab := by
  unfold ringPut; dsimp only; repeat' split
  all_goals rfl
@[simp] theorem ringPut_dma (ty so : BitVec 8) (fl : BitVec 16) (da : BitVec 48) (s : State) : (ringPut ty so fl da s).dma = s.dma := by
  unfold ringPut; dsimp only; repeat' split
  all_goals rfl
@[simp] theorem ringPut_nvc (ty so : BitVec 8) (fl : BitVec 16) (da : BitVec 48) (s : State) : (ringPut ty so fl da s).nvc = s.nvc := by
  unfold ringPut; dsimp only; repeat' split
  all_goals rfl
@[simp] theorem ringPut_nand (ty so : BitVec 8) (fl : BitVec 16) (da : BitVec 48) (s : State) : (ringPut ty so fl da s).nand = s.nand := by
  unfold ringPut; dsimp only; repeat' split
  all_goals rfl
@[simp] theorem ringPut_otp (ty so : BitVec 8) (fl : BitVec 16) (da : BitVec 48) (s : State) : (ringPut ty so fl da s).otp = s.otp := by
  unfold ringPut; dsimp only; repeat' split
  all_goals rfl
@[simp] theorem ringPut_lcu (ty so : BitVec 8) (fl : BitVec 16) (da : BitVec 48) (s : State) : (ringPut ty so fl da s).lcu = s.lcu := by
  unfold ringPut; dsimp only; repeat' split
  all_goals rfl
@[simp] theorem ringPut_mem (ty so : BitVec 8) (fl : BitVec 16) (da : BitVec 48) (s : State) : (ringPut ty so fl da s).mem = s.mem := by
  unfold ringPut; dsimp only; repeat' split
  all_goals rfl
@[simp] theorem ringPut_free (ty so : BitVec 8) (fl : BitVec 16) (da : BitVec 48) (s : State) : (ringPut ty so fl da s).free = s.free := by
  unfold ringPut; dsimp only; repeat' split
  all_goals rfl
@[simp] theorem ringPut_pending (ty so : BitVec 8) (fl : BitVec 16) (da : BitVec 48) (s : State) : (ringPut ty so fl da s).pending = s.pending := by
  unfold ringPut; dsimp only; repeat' split
  all_goals rfl
@[simp] theorem ringPut_slice (ty so : BitVec 8) (fl : BitVec 16) (da : BitVec 48) (s : State) (q : Port) : (ringPut ty so fl da s).slice q = s.slice q := by simp [State.slice]
@[simp] theorem ringPut_runs (ty so : BitVec 8) (fl : BitVec 16) (da : BitVec 48) (s : State) : policyRuns (ringPut ty so fl da s) = policyRuns s := by simp [policyRuns]

/-! `ringWrite` -/

@[simp] theorem ringWrite_slices (ty so : BitVec 8) (fl : BitVec 16) (da : BitVec 48) (s : State) : (ringWrite ty so fl da s).slices = s.slices := by
  unfold ringWrite; repeat' split
  all_goals simp
@[simp] theorem ringWrite_sup (ty so : BitVec 8) (fl : BitVec 16) (da : BitVec 48) (s : State) : (ringWrite ty so fl da s).sup = s.sup := by
  unfold ringWrite; repeat' split
  all_goals simp
@[simp] theorem ringWrite_did (ty so : BitVec 8) (fl : BitVec 16) (da : BitVec 48) (s : State) : (ringWrite ty so fl da s).did = s.did := by
  unfold ringWrite; repeat' split
  all_goals simp
@[simp] theorem ringWrite_bud (ty so : BitVec 8) (fl : BitVec 16) (da : BitVec 48) (s : State) : (ringWrite ty so fl da s).bud = s.bud := by
  unfold ringWrite; repeat' split
  all_goals simp
@[simp] theorem ringWrite_kln (ty so : BitVec 8) (fl : BitVec 16) (da : BitVec 48) (s : State) : (ringWrite ty so fl da s).kln = s.kln := by
  unfold ringWrite; repeat' split
  all_goals simp
@[simp] theorem ringWrite_cyc (ty so : BitVec 8) (fl : BitVec 16) (da : BitVec 48) (s : State) : (ringWrite ty so fl da s).cyc = s.cyc := by
  unfold ringWrite; repeat' split
  all_goals simp
@[simp] theorem ringWrite_syn (ty so : BitVec 8) (fl : BitVec 16) (da : BitVec 48) (s : State) : (ringWrite ty so fl da s).syn = s.syn := by
  unfold ringWrite; repeat' split
  all_goals simp
@[simp] theorem ringWrite_hst (ty so : BitVec 8) (fl : BitVec 16) (da : BitVec 48) (s : State) : (ringWrite ty so fl da s).hst = s.hst := by
  unfold ringWrite; repeat' split
  all_goals simp
@[simp] theorem ringWrite_aux (ty so : BitVec 8) (fl : BitVec 16) (da : BitVec 48) (s : State) : (ringWrite ty so fl da s).aux = s.aux := by
  unfold ringWrite; repeat' split
  all_goals simp
@[simp] theorem ringWrite_fab (ty so : BitVec 8) (fl : BitVec 16) (da : BitVec 48) (s : State) : (ringWrite ty so fl da s).fab = s.fab := by
  unfold ringWrite; repeat' split
  all_goals simp
@[simp] theorem ringWrite_dma (ty so : BitVec 8) (fl : BitVec 16) (da : BitVec 48) (s : State) : (ringWrite ty so fl da s).dma = s.dma := by
  unfold ringWrite; repeat' split
  all_goals simp
@[simp] theorem ringWrite_nvc (ty so : BitVec 8) (fl : BitVec 16) (da : BitVec 48) (s : State) : (ringWrite ty so fl da s).nvc = s.nvc := by
  unfold ringWrite; repeat' split
  all_goals simp
@[simp] theorem ringWrite_nand (ty so : BitVec 8) (fl : BitVec 16) (da : BitVec 48) (s : State) : (ringWrite ty so fl da s).nand = s.nand := by
  unfold ringWrite; repeat' split
  all_goals simp
@[simp] theorem ringWrite_otp (ty so : BitVec 8) (fl : BitVec 16) (da : BitVec 48) (s : State) : (ringWrite ty so fl da s).otp = s.otp := by
  unfold ringWrite; repeat' split
  all_goals simp
@[simp] theorem ringWrite_lcu (ty so : BitVec 8) (fl : BitVec 16) (da : BitVec 48) (s : State) : (ringWrite ty so fl da s).lcu = s.lcu := by
  unfold ringWrite; repeat' split
  all_goals simp
@[simp] theorem ringWrite_mem (ty so : BitVec 8) (fl : BitVec 16) (da : BitVec 48) (s : State) : (ringWrite ty so fl da s).mem = s.mem := by
  unfold ringWrite; repeat' split
  all_goals simp
@[simp] theorem ringWrite_free (ty so : BitVec 8) (fl : BitVec 16) (da : BitVec 48) (s : State) : (ringWrite ty so fl da s).free = s.free := by
  unfold ringWrite; repeat' split
  all_goals simp
@[simp] theorem ringWrite_pending (ty so : BitVec 8) (fl : BitVec 16) (da : BitVec 48) (s : State) : (ringWrite ty so fl da s).pending = s.pending := by
  unfold ringWrite; repeat' split
  all_goals simp
@[simp] theorem ringWrite_slice (ty so : BitVec 8) (fl : BitVec 16) (da : BitVec 48) (s : State) (q : Port) : (ringWrite ty so fl da s).slice q = s.slice q := by simp [State.slice]
@[simp] theorem ringWrite_runs (ty so : BitVec 8) (fl : BitVec 16) (da : BitVec 48) (s : State) : policyRuns (ringWrite ty so fl da s) = policyRuns s := by simp [policyRuns]

/-! `hwRecord` -/

@[simp] theorem hwRecord_slices (ty so : BitVec 8) (fl : BitVec 16) (da : BitVec 48) (s : State) : (hwRecord ty so fl da s).slices = s.slices := by
  unfold hwRecord; repeat' split
  all_goals simp
@[simp] theorem hwRecord_sup (ty so : BitVec 8) (fl : BitVec 16) (da : BitVec 48) (s : State) : (hwRecord ty so fl da s).sup = s.sup := by
  unfold hwRecord; repeat' split
  all_goals simp
@[simp] theorem hwRecord_did (ty so : BitVec 8) (fl : BitVec 16) (da : BitVec 48) (s : State) : (hwRecord ty so fl da s).did = s.did := by
  unfold hwRecord; repeat' split
  all_goals simp
@[simp] theorem hwRecord_bud (ty so : BitVec 8) (fl : BitVec 16) (da : BitVec 48) (s : State) : (hwRecord ty so fl da s).bud = s.bud := by
  unfold hwRecord; repeat' split
  all_goals simp
@[simp] theorem hwRecord_kln (ty so : BitVec 8) (fl : BitVec 16) (da : BitVec 48) (s : State) : (hwRecord ty so fl da s).kln = s.kln := by
  unfold hwRecord; repeat' split
  all_goals simp
@[simp] theorem hwRecord_cyc (ty so : BitVec 8) (fl : BitVec 16) (da : BitVec 48) (s : State) : (hwRecord ty so fl da s).cyc = s.cyc := by
  unfold hwRecord; repeat' split
  all_goals simp
@[simp] theorem hwRecord_syn (ty so : BitVec 8) (fl : BitVec 16) (da : BitVec 48) (s : State) : (hwRecord ty so fl da s).syn = s.syn := by
  unfold hwRecord; repeat' split
  all_goals simp
@[simp] theorem hwRecord_hst (ty so : BitVec 8) (fl : BitVec 16) (da : BitVec 48) (s : State) : (hwRecord ty so fl da s).hst = s.hst := by
  unfold hwRecord; repeat' split
  all_goals simp
@[simp] theorem hwRecord_aux (ty so : BitVec 8) (fl : BitVec 16) (da : BitVec 48) (s : State) : (hwRecord ty so fl da s).aux = s.aux := by
  unfold hwRecord; repeat' split
  all_goals simp
@[simp] theorem hwRecord_fab (ty so : BitVec 8) (fl : BitVec 16) (da : BitVec 48) (s : State) : (hwRecord ty so fl da s).fab = s.fab := by
  unfold hwRecord; repeat' split
  all_goals simp
@[simp] theorem hwRecord_dma (ty so : BitVec 8) (fl : BitVec 16) (da : BitVec 48) (s : State) : (hwRecord ty so fl da s).dma = s.dma := by
  unfold hwRecord; repeat' split
  all_goals simp
@[simp] theorem hwRecord_nvc (ty so : BitVec 8) (fl : BitVec 16) (da : BitVec 48) (s : State) : (hwRecord ty so fl da s).nvc = s.nvc := by
  unfold hwRecord; repeat' split
  all_goals simp
@[simp] theorem hwRecord_nand (ty so : BitVec 8) (fl : BitVec 16) (da : BitVec 48) (s : State) : (hwRecord ty so fl da s).nand = s.nand := by
  unfold hwRecord; repeat' split
  all_goals simp
@[simp] theorem hwRecord_otp (ty so : BitVec 8) (fl : BitVec 16) (da : BitVec 48) (s : State) : (hwRecord ty so fl da s).otp = s.otp := by
  unfold hwRecord; repeat' split
  all_goals simp
@[simp] theorem hwRecord_lcu (ty so : BitVec 8) (fl : BitVec 16) (da : BitVec 48) (s : State) : (hwRecord ty so fl da s).lcu = s.lcu := by
  unfold hwRecord; repeat' split
  all_goals simp
@[simp] theorem hwRecord_mem (ty so : BitVec 8) (fl : BitVec 16) (da : BitVec 48) (s : State) : (hwRecord ty so fl da s).mem = s.mem := by
  unfold hwRecord; repeat' split
  all_goals simp
@[simp] theorem hwRecord_free (ty so : BitVec 8) (fl : BitVec 16) (da : BitVec 48) (s : State) : (hwRecord ty so fl da s).free = s.free := by
  unfold hwRecord; repeat' split
  all_goals simp
@[simp] theorem hwRecord_pending (ty so : BitVec 8) (fl : BitVec 16) (da : BitVec 48) (s : State) : (hwRecord ty so fl da s).pending = s.pending := by
  unfold hwRecord; repeat' split
  all_goals simp
@[simp] theorem hwRecord_slice (ty so : BitVec 8) (fl : BitVec 16) (da : BitVec 48) (s : State) (q : Port) : (hwRecord ty so fl da s).slice q = s.slice q := by simp [State.slice]
@[simp] theorem hwRecord_runs (ty so : BitVec 8) (fl : BitVec 16) (da : BitVec 48) (s : State) : policyRuns (hwRecord ty so fl da s) = policyRuns s := by simp [policyRuns]

/-! `fwRecord` -/

@[simp] theorem fwRecord_slices (n : Nat) (w : Word) (i : Nat) (s : State) : (fwRecord n w i s).slices = s.slices := by
  unfold fwRecord; repeat' split
  all_goals simp
@[simp] theorem fwRecord_sup (n : Nat) (w : Word) (i : Nat) (s : State) : (fwRecord n w i s).sup = s.sup := by
  unfold fwRecord; repeat' split
  all_goals simp
@[simp] theorem fwRecord_did (n : Nat) (w : Word) (i : Nat) (s : State) : (fwRecord n w i s).did = s.did := by
  unfold fwRecord; repeat' split
  all_goals simp
@[simp] theorem fwRecord_bud (n : Nat) (w : Word) (i : Nat) (s : State) : (fwRecord n w i s).bud = s.bud := by
  unfold fwRecord; repeat' split
  all_goals simp
@[simp] theorem fwRecord_kln (n : Nat) (w : Word) (i : Nat) (s : State) : (fwRecord n w i s).kln = s.kln := by
  unfold fwRecord; repeat' split
  all_goals simp
@[simp] theorem fwRecord_cyc (n : Nat) (w : Word) (i : Nat) (s : State) : (fwRecord n w i s).cyc = s.cyc := by
  unfold fwRecord; repeat' split
  all_goals simp
@[simp] theorem fwRecord_syn (n : Nat) (w : Word) (i : Nat) (s : State) : (fwRecord n w i s).syn = s.syn := by
  unfold fwRecord; repeat' split
  all_goals simp
@[simp] theorem fwRecord_hst (n : Nat) (w : Word) (i : Nat) (s : State) : (fwRecord n w i s).hst = s.hst := by
  unfold fwRecord; repeat' split
  all_goals simp
@[simp] theorem fwRecord_aux (n : Nat) (w : Word) (i : Nat) (s : State) : (fwRecord n w i s).aux = s.aux := by
  unfold fwRecord; repeat' split
  all_goals simp
@[simp] theorem fwRecord_fab (n : Nat) (w : Word) (i : Nat) (s : State) : (fwRecord n w i s).fab = s.fab := by
  unfold fwRecord; repeat' split
  all_goals simp
@[simp] theorem fwRecord_dma (n : Nat) (w : Word) (i : Nat) (s : State) : (fwRecord n w i s).dma = s.dma := by
  unfold fwRecord; repeat' split
  all_goals simp
@[simp] theorem fwRecord_nvc (n : Nat) (w : Word) (i : Nat) (s : State) : (fwRecord n w i s).nvc = s.nvc := by
  unfold fwRecord; repeat' split
  all_goals simp
@[simp] theorem fwRecord_nand (n : Nat) (w : Word) (i : Nat) (s : State) : (fwRecord n w i s).nand = s.nand := by
  unfold fwRecord; repeat' split
  all_goals simp
@[simp] theorem fwRecord_otp (n : Nat) (w : Word) (i : Nat) (s : State) : (fwRecord n w i s).otp = s.otp := by
  unfold fwRecord; repeat' split
  all_goals simp
@[simp] theorem fwRecord_lcu (n : Nat) (w : Word) (i : Nat) (s : State) : (fwRecord n w i s).lcu = s.lcu := by
  unfold fwRecord; repeat' split
  all_goals simp
@[simp] theorem fwRecord_mem (n : Nat) (w : Word) (i : Nat) (s : State) : (fwRecord n w i s).mem = s.mem := by
  unfold fwRecord; repeat' split
  all_goals simp
@[simp] theorem fwRecord_free (n : Nat) (w : Word) (i : Nat) (s : State) : (fwRecord n w i s).free = s.free := by
  unfold fwRecord; repeat' split
  all_goals simp
@[simp] theorem fwRecord_pending (n : Nat) (w : Word) (i : Nat) (s : State) : (fwRecord n w i s).pending = s.pending := by
  unfold fwRecord; repeat' split
  all_goals simp
@[simp] theorem fwRecord_slice (n : Nat) (w : Word) (i : Nat) (s : State) (q : Port) : (fwRecord n w i s).slice q = s.slice q := by simp [State.slice]
@[simp] theorem fwRecord_runs (n : Nat) (w : Word) (i : Nat) (s : State) : policyRuns (fwRecord n w i s) = policyRuns s := by simp [policyRuns]

/-! `globalEvent` -/

@[simp] theorem globalEvent_slices (n : Nat) (w : Word) (i : Nat) (s : State) : (globalEvent n w i s).slices = s.slices := by
  unfold globalEvent; repeat' split
  all_goals simp
@[simp] theorem globalEvent_sup (n : Nat) (w : Word) (i : Nat) (s : State) : (globalEvent n w i s).sup = s.sup := by
  unfold globalEvent; repeat' split
  all_goals simp
@[simp] theorem globalEvent_did (n : Nat) (w : Word) (i : Nat) (s : State) : (globalEvent n w i s).did = s.did := by
  unfold globalEvent; repeat' split
  all_goals simp
@[simp] theorem globalEvent_bud (n : Nat) (w : Word) (i : Nat) (s : State) : (globalEvent n w i s).bud = s.bud := by
  unfold globalEvent; repeat' split
  all_goals simp
@[simp] theorem globalEvent_kln (n : Nat) (w : Word) (i : Nat) (s : State) : (globalEvent n w i s).kln = s.kln := by
  unfold globalEvent; repeat' split
  all_goals simp
@[simp] theorem globalEvent_cyc (n : Nat) (w : Word) (i : Nat) (s : State) : (globalEvent n w i s).cyc = s.cyc := by
  unfold globalEvent; repeat' split
  all_goals simp
@[simp] theorem globalEvent_syn (n : Nat) (w : Word) (i : Nat) (s : State) : (globalEvent n w i s).syn = s.syn := by
  unfold globalEvent; repeat' split
  all_goals simp
@[simp] theorem globalEvent_hst (n : Nat) (w : Word) (i : Nat) (s : State) : (globalEvent n w i s).hst = s.hst := by
  unfold globalEvent; repeat' split
  all_goals simp
@[simp] theorem globalEvent_aux (n : Nat) (w : Word) (i : Nat) (s : State) : (globalEvent n w i s).aux = s.aux := by
  unfold globalEvent; repeat' split
  all_goals simp
@[simp] theorem globalEvent_fab (n : Nat) (w : Word) (i : Nat) (s : State) : (globalEvent n w i s).fab = s.fab := by
  unfold globalEvent; repeat' split
  all_goals simp
@[simp] theorem globalEvent_dma (n : Nat) (w : Word) (i : Nat) (s : State) : (globalEvent n w i s).dma = s.dma := by
  unfold globalEvent; repeat' split
  all_goals simp
@[simp] theorem globalEvent_nvc (n : Nat) (w : Word) (i : Nat) (s : State) : (globalEvent n w i s).nvc = s.nvc := by
  unfold globalEvent; repeat' split
  all_goals simp
@[simp] theorem globalEvent_nand (n : Nat) (w : Word) (i : Nat) (s : State) : (globalEvent n w i s).nand = s.nand := by
  unfold globalEvent; repeat' split
  all_goals simp
@[simp] theorem globalEvent_otp (n : Nat) (w : Word) (i : Nat) (s : State) : (globalEvent n w i s).otp = s.otp := by
  unfold globalEvent; repeat' split
  all_goals simp
@[simp] theorem globalEvent_lcu (n : Nat) (w : Word) (i : Nat) (s : State) : (globalEvent n w i s).lcu = s.lcu := by
  unfold globalEvent; repeat' split
  all_goals simp
@[simp] theorem globalEvent_mem (n : Nat) (w : Word) (i : Nat) (s : State) : (globalEvent n w i s).mem = s.mem := by
  unfold globalEvent; repeat' split
  all_goals simp
@[simp] theorem globalEvent_free (n : Nat) (w : Word) (i : Nat) (s : State) : (globalEvent n w i s).free = s.free := by
  unfold globalEvent; repeat' split
  all_goals simp
@[simp] theorem globalEvent_pending (n : Nat) (w : Word) (i : Nat) (s : State) : (globalEvent n w i s).pending = s.pending := by
  unfold globalEvent; repeat' split
  all_goals simp
@[simp] theorem globalEvent_slice (n : Nat) (w : Word) (i : Nat) (s : State) (q : Port) : (globalEvent n w i s).slice q = s.slice q := by simp [State.slice]
@[simp] theorem globalEvent_runs (n : Nat) (w : Word) (i : Nat) (s : State) : policyRuns (globalEvent n w i s) = policyRuns s := by simp [policyRuns]

/-! `portEvent` -/

@[simp] theorem portEvent_slices (p : Port) (k : Nat) (s : State) : (portEvent p k s).slices = s.slices := by
  unfold portEvent; repeat' split
  all_goals simp
@[simp] theorem portEvent_sup (p : Port) (k : Nat) (s : State) : (portEvent p k s).sup = s.sup := by
  unfold portEvent; repeat' split
  all_goals simp
@[simp] theorem portEvent_did (p : Port) (k : Nat) (s : State) : (portEvent p k s).did = s.did := by
  unfold portEvent; repeat' split
  all_goals simp
@[simp] theorem portEvent_bud (p : Port) (k : Nat) (s : State) : (portEvent p k s).bud = s.bud := by
  unfold portEvent; repeat' split
  all_goals simp
@[simp] theorem portEvent_kln (p : Port) (k : Nat) (s : State) : (portEvent p k s).kln = s.kln := by
  unfold portEvent; repeat' split
  all_goals simp
@[simp] theorem portEvent_cyc (p : Port) (k : Nat) (s : State) : (portEvent p k s).cyc = s.cyc := by
  unfold portEvent; repeat' split
  all_goals simp
@[simp] theorem portEvent_syn (p : Port) (k : Nat) (s : State) : (portEvent p k s).syn = s.syn := by
  unfold portEvent; repeat' split
  all_goals simp
@[simp] theorem portEvent_hst (p : Port) (k : Nat) (s : State) : (portEvent p k s).hst = s.hst := by
  unfold portEvent; repeat' split
  all_goals simp
@[simp] theorem portEvent_aux (p : Port) (k : Nat) (s : State) : (portEvent p k s).aux = s.aux := by
  unfold portEvent; repeat' split
  all_goals simp
@[simp] theorem portEvent_fab (p : Port) (k : Nat) (s : State) : (portEvent p k s).fab = s.fab := by
  unfold portEvent; repeat' split
  all_goals simp
@[simp] theorem portEvent_dma (p : Port) (k : Nat) (s : State) : (portEvent p k s).dma = s.dma := by
  unfold portEvent; repeat' split
  all_goals simp
@[simp] theorem portEvent_nvc (p : Port) (k : Nat) (s : State) : (portEvent p k s).nvc = s.nvc := by
  unfold portEvent; repeat' split
  all_goals simp
@[simp] theorem portEvent_nand (p : Port) (k : Nat) (s : State) : (portEvent p k s).nand = s.nand := by
  unfold portEvent; repeat' split
  all_goals simp
@[simp] theorem portEvent_otp (p : Port) (k : Nat) (s : State) : (portEvent p k s).otp = s.otp := by
  unfold portEvent; repeat' split
  all_goals simp
@[simp] theorem portEvent_lcu (p : Port) (k : Nat) (s : State) : (portEvent p k s).lcu = s.lcu := by
  unfold portEvent; repeat' split
  all_goals simp
@[simp] theorem portEvent_mem (p : Port) (k : Nat) (s : State) : (portEvent p k s).mem = s.mem := by
  unfold portEvent; repeat' split
  all_goals simp
@[simp] theorem portEvent_free (p : Port) (k : Nat) (s : State) : (portEvent p k s).free = s.free := by
  unfold portEvent; repeat' split
  all_goals simp
@[simp] theorem portEvent_pending (p : Port) (k : Nat) (s : State) : (portEvent p k s).pending = s.pending := by
  unfold portEvent; repeat' split
  all_goals simp
@[simp] theorem portEvent_slice (p : Port) (k : Nat) (s : State) (q : Port) : (portEvent p k s).slice q = s.slice q := by simp [State.slice]
@[simp] theorem portEvent_runs (p : Port) (k : Nat) (s : State) : policyRuns (portEvent p k s) = policyRuns s := by simp [policyRuns]

/-! `supplyRecord` -/

@[simp] theorem supplyRecord_slices (so : BitVec 8) (s : State) : (supplyRecord so s).slices = s.slices := by
  unfold supplyRecord; repeat' split
  all_goals simp
@[simp] theorem supplyRecord_sup (so : BitVec 8) (s : State) : (supplyRecord so s).sup = s.sup := by
  unfold supplyRecord; repeat' split
  all_goals simp
@[simp] theorem supplyRecord_did (so : BitVec 8) (s : State) : (supplyRecord so s).did = s.did := by
  unfold supplyRecord; repeat' split
  all_goals simp
@[simp] theorem supplyRecord_bud (so : BitVec 8) (s : State) : (supplyRecord so s).bud = s.bud := by
  unfold supplyRecord; repeat' split
  all_goals simp
@[simp] theorem supplyRecord_kln (so : BitVec 8) (s : State) : (supplyRecord so s).kln = s.kln := by
  unfold supplyRecord; repeat' split
  all_goals simp
@[simp] theorem supplyRecord_cyc (so : BitVec 8) (s : State) : (supplyRecord so s).cyc = s.cyc := by
  unfold supplyRecord; repeat' split
  all_goals simp
@[simp] theorem supplyRecord_syn (so : BitVec 8) (s : State) : (supplyRecord so s).syn = s.syn := by
  unfold supplyRecord; repeat' split
  all_goals simp
@[simp] theorem supplyRecord_hst (so : BitVec 8) (s : State) : (supplyRecord so s).hst = s.hst := by
  unfold supplyRecord; repeat' split
  all_goals simp
@[simp] theorem supplyRecord_aux (so : BitVec 8) (s : State) : (supplyRecord so s).aux = s.aux := by
  unfold supplyRecord; repeat' split
  all_goals simp
@[simp] theorem supplyRecord_fab (so : BitVec 8) (s : State) : (supplyRecord so s).fab = s.fab := by
  unfold supplyRecord; repeat' split
  all_goals simp
@[simp] theorem supplyRecord_dma (so : BitVec 8) (s : State) : (supplyRecord so s).dma = s.dma := by
  unfold supplyRecord; repeat' split
  all_goals simp
@[simp] theorem supplyRecord_nvc (so : BitVec 8) (s : State) : (supplyRecord so s).nvc = s.nvc := by
  unfold supplyRecord; repeat' split
  all_goals simp
@[simp] theorem supplyRecord_nand (so : BitVec 8) (s : State) : (supplyRecord so s).nand = s.nand := by
  unfold supplyRecord; repeat' split
  all_goals simp
@[simp] theorem supplyRecord_otp (so : BitVec 8) (s : State) : (supplyRecord so s).otp = s.otp := by
  unfold supplyRecord; repeat' split
  all_goals simp
@[simp] theorem supplyRecord_lcu (so : BitVec 8) (s : State) : (supplyRecord so s).lcu = s.lcu := by
  unfold supplyRecord; repeat' split
  all_goals simp
@[simp] theorem supplyRecord_mem (so : BitVec 8) (s : State) : (supplyRecord so s).mem = s.mem := by
  unfold supplyRecord; repeat' split
  all_goals simp
@[simp] theorem supplyRecord_free (so : BitVec 8) (s : State) : (supplyRecord so s).free = s.free := by
  unfold supplyRecord; repeat' split
  all_goals simp
@[simp] theorem supplyRecord_pending (so : BitVec 8) (s : State) : (supplyRecord so s).pending = s.pending := by
  unfold supplyRecord; repeat' split
  all_goals simp
@[simp] theorem supplyRecord_slice (so : BitVec 8) (s : State) (q : Port) : (supplyRecord so s).slice q = s.slice q := by simp [State.slice]
@[simp] theorem supplyRecord_runs (so : BitVec 8) (s : State) : policyRuns (supplyRecord so s) = policyRuns s := by simp [policyRuns]

/-! `supplyEvent` -/

@[simp] theorem supplyEvent_slices (n : Nat) (s : State) : (supplyEvent n s).slices = s.slices := by
  unfold supplyEvent; repeat' split
  all_goals simp
@[simp] theorem supplyEvent_sup (n : Nat) (s : State) : (supplyEvent n s).sup = s.sup := by
  unfold supplyEvent; repeat' split
  all_goals simp
@[simp] theorem supplyEvent_did (n : Nat) (s : State) : (supplyEvent n s).did = s.did := by
  unfold supplyEvent; repeat' split
  all_goals simp
@[simp] theorem supplyEvent_bud (n : Nat) (s : State) : (supplyEvent n s).bud = s.bud := by
  unfold supplyEvent; repeat' split
  all_goals simp
@[simp] theorem supplyEvent_kln (n : Nat) (s : State) : (supplyEvent n s).kln = s.kln := by
  unfold supplyEvent; repeat' split
  all_goals simp
@[simp] theorem supplyEvent_cyc (n : Nat) (s : State) : (supplyEvent n s).cyc = s.cyc := by
  unfold supplyEvent; repeat' split
  all_goals simp
@[simp] theorem supplyEvent_syn (n : Nat) (s : State) : (supplyEvent n s).syn = s.syn := by
  unfold supplyEvent; repeat' split
  all_goals simp
@[simp] theorem supplyEvent_hst (n : Nat) (s : State) : (supplyEvent n s).hst = s.hst := by
  unfold supplyEvent; repeat' split
  all_goals simp
@[simp] theorem supplyEvent_aux (n : Nat) (s : State) : (supplyEvent n s).aux = s.aux := by
  unfold supplyEvent; repeat' split
  all_goals simp
@[simp] theorem supplyEvent_fab (n : Nat) (s : State) : (supplyEvent n s).fab = s.fab := by
  unfold supplyEvent; repeat' split
  all_goals simp
@[simp] theorem supplyEvent_dma (n : Nat) (s : State) : (supplyEvent n s).dma = s.dma := by
  unfold supplyEvent; repeat' split
  all_goals simp
@[simp] theorem supplyEvent_nvc (n : Nat) (s : State) : (supplyEvent n s).nvc = s.nvc := by
  unfold supplyEvent; repeat' split
  all_goals simp
@[simp] theorem supplyEvent_nand (n : Nat) (s : State) : (supplyEvent n s).nand = s.nand := by
  unfold supplyEvent; repeat' split
  all_goals simp
@[simp] theorem supplyEvent_otp (n : Nat) (s : State) : (supplyEvent n s).otp = s.otp := by
  unfold supplyEvent; repeat' split
  all_goals simp
@[simp] theorem supplyEvent_lcu (n : Nat) (s : State) : (supplyEvent n s).lcu = s.lcu := by
  unfold supplyEvent; repeat' split
  all_goals simp
@[simp] theorem supplyEvent_mem (n : Nat) (s : State) : (supplyEvent n s).mem = s.mem := by
  unfold supplyEvent; repeat' split
  all_goals simp
@[simp] theorem supplyEvent_free (n : Nat) (s : State) : (supplyEvent n s).free = s.free := by
  unfold supplyEvent; repeat' split
  all_goals simp
@[simp] theorem supplyEvent_pending (n : Nat) (s : State) : (supplyEvent n s).pending = s.pending := by
  unfold supplyEvent; repeat' split
  all_goals simp
@[simp] theorem supplyEvent_slice (n : Nat) (s : State) (q : Port) : (supplyEvent n s).slice q = s.slice q := by simp [State.slice]
@[simp] theorem supplyEvent_runs (n : Nat) (s : State) : policyRuns (supplyEvent n s) = policyRuns s := by simp [policyRuns]

/-! `tripEvent` -/

@[simp] theorem tripEvent_slices (p : Port) (l : Bool) (s : State) : (tripEvent p l s).slices = s.slices := by
  unfold tripEvent; repeat' split
  all_goals simp
@[simp] theorem tripEvent_sup (p : Port) (l : Bool) (s : State) : (tripEvent p l s).sup = s.sup := by
  unfold tripEvent; repeat' split
  all_goals simp
@[simp] theorem tripEvent_did (p : Port) (l : Bool) (s : State) : (tripEvent p l s).did = s.did := by
  unfold tripEvent; repeat' split
  all_goals simp
@[simp] theorem tripEvent_bud (p : Port) (l : Bool) (s : State) : (tripEvent p l s).bud = s.bud := by
  unfold tripEvent; repeat' split
  all_goals simp
@[simp] theorem tripEvent_kln (p : Port) (l : Bool) (s : State) : (tripEvent p l s).kln = s.kln := by
  unfold tripEvent; repeat' split
  all_goals simp
@[simp] theorem tripEvent_cyc (p : Port) (l : Bool) (s : State) : (tripEvent p l s).cyc = s.cyc := by
  unfold tripEvent; repeat' split
  all_goals simp
@[simp] theorem tripEvent_syn (p : Port) (l : Bool) (s : State) : (tripEvent p l s).syn = s.syn := by
  unfold tripEvent; repeat' split
  all_goals simp
@[simp] theorem tripEvent_hst (p : Port) (l : Bool) (s : State) : (tripEvent p l s).hst = s.hst := by
  unfold tripEvent; repeat' split
  all_goals simp
@[simp] theorem tripEvent_aux (p : Port) (l : Bool) (s : State) : (tripEvent p l s).aux = s.aux := by
  unfold tripEvent; repeat' split
  all_goals simp
@[simp] theorem tripEvent_fab (p : Port) (l : Bool) (s : State) : (tripEvent p l s).fab = s.fab := by
  unfold tripEvent; repeat' split
  all_goals simp
@[simp] theorem tripEvent_dma (p : Port) (l : Bool) (s : State) : (tripEvent p l s).dma = s.dma := by
  unfold tripEvent; repeat' split
  all_goals simp
@[simp] theorem tripEvent_nvc (p : Port) (l : Bool) (s : State) : (tripEvent p l s).nvc = s.nvc := by
  unfold tripEvent; repeat' split
  all_goals simp
@[simp] theorem tripEvent_nand (p : Port) (l : Bool) (s : State) : (tripEvent p l s).nand = s.nand := by
  unfold tripEvent; repeat' split
  all_goals simp
@[simp] theorem tripEvent_otp (p : Port) (l : Bool) (s : State) : (tripEvent p l s).otp = s.otp := by
  unfold tripEvent; repeat' split
  all_goals simp
@[simp] theorem tripEvent_lcu (p : Port) (l : Bool) (s : State) : (tripEvent p l s).lcu = s.lcu := by
  unfold tripEvent; repeat' split
  all_goals simp
@[simp] theorem tripEvent_mem (p : Port) (l : Bool) (s : State) : (tripEvent p l s).mem = s.mem := by
  unfold tripEvent; repeat' split
  all_goals simp
@[simp] theorem tripEvent_free (p : Port) (l : Bool) (s : State) : (tripEvent p l s).free = s.free := by
  unfold tripEvent; repeat' split
  all_goals simp
@[simp] theorem tripEvent_pending (p : Port) (l : Bool) (s : State) : (tripEvent p l s).pending = s.pending := by
  unfold tripEvent; repeat' split
  all_goals simp
@[simp] theorem tripEvent_slice (p : Port) (l : Bool) (s : State) (q : Port) : (tripEvent p l s).slice q = s.slice q := by simp [State.slice]
@[simp] theorem tripEvent_runs (p : Port) (l : Bool) (s : State) : policyRuns (tripEvent p l s) = policyRuns s := by simp [policyRuns]

/-! `recorderRecord` -/

@[simp] theorem recorderRecord_slices (so : Byte) (l c h : Nat) (s : State) : (recorderRecord so l c h s).slices = s.slices := by
  unfold recorderRecord; repeat' split
  all_goals simp
@[simp] theorem recorderRecord_sup (so : Byte) (l c h : Nat) (s : State) : (recorderRecord so l c h s).sup = s.sup := by
  unfold recorderRecord; repeat' split
  all_goals simp
@[simp] theorem recorderRecord_did (so : Byte) (l c h : Nat) (s : State) : (recorderRecord so l c h s).did = s.did := by
  unfold recorderRecord; repeat' split
  all_goals simp
@[simp] theorem recorderRecord_bud (so : Byte) (l c h : Nat) (s : State) : (recorderRecord so l c h s).bud = s.bud := by
  unfold recorderRecord; repeat' split
  all_goals simp
@[simp] theorem recorderRecord_kln (so : Byte) (l c h : Nat) (s : State) : (recorderRecord so l c h s).kln = s.kln := by
  unfold recorderRecord; repeat' split
  all_goals simp
@[simp] theorem recorderRecord_cyc (so : Byte) (l c h : Nat) (s : State) : (recorderRecord so l c h s).cyc = s.cyc := by
  unfold recorderRecord; repeat' split
  all_goals simp
@[simp] theorem recorderRecord_syn (so : Byte) (l c h : Nat) (s : State) : (recorderRecord so l c h s).syn = s.syn := by
  unfold recorderRecord; repeat' split
  all_goals simp
@[simp] theorem recorderRecord_hst (so : Byte) (l c h : Nat) (s : State) : (recorderRecord so l c h s).hst = s.hst := by
  unfold recorderRecord; repeat' split
  all_goals simp
@[simp] theorem recorderRecord_aux (so : Byte) (l c h : Nat) (s : State) : (recorderRecord so l c h s).aux = s.aux := by
  unfold recorderRecord; repeat' split
  all_goals simp
@[simp] theorem recorderRecord_fab (so : Byte) (l c h : Nat) (s : State) : (recorderRecord so l c h s).fab = s.fab := by
  unfold recorderRecord; repeat' split
  all_goals simp
@[simp] theorem recorderRecord_dma (so : Byte) (l c h : Nat) (s : State) : (recorderRecord so l c h s).dma = s.dma := by
  unfold recorderRecord; repeat' split
  all_goals simp
@[simp] theorem recorderRecord_nvc (so : Byte) (l c h : Nat) (s : State) : (recorderRecord so l c h s).nvc = s.nvc := by
  unfold recorderRecord; repeat' split
  all_goals simp
@[simp] theorem recorderRecord_nand (so : Byte) (l c h : Nat) (s : State) : (recorderRecord so l c h s).nand = s.nand := by
  unfold recorderRecord; repeat' split
  all_goals simp
@[simp] theorem recorderRecord_otp (so : Byte) (l c h : Nat) (s : State) : (recorderRecord so l c h s).otp = s.otp := by
  unfold recorderRecord; repeat' split
  all_goals simp
@[simp] theorem recorderRecord_lcu (so : Byte) (l c h : Nat) (s : State) : (recorderRecord so l c h s).lcu = s.lcu := by
  unfold recorderRecord; repeat' split
  all_goals simp
@[simp] theorem recorderRecord_mem (so : Byte) (l c h : Nat) (s : State) : (recorderRecord so l c h s).mem = s.mem := by
  unfold recorderRecord; repeat' split
  all_goals simp
@[simp] theorem recorderRecord_free (so : Byte) (l c h : Nat) (s : State) : (recorderRecord so l c h s).free = s.free := by
  unfold recorderRecord; repeat' split
  all_goals simp
@[simp] theorem recorderRecord_pending (so : Byte) (l c h : Nat) (s : State) : (recorderRecord so l c h s).pending = s.pending := by
  unfold recorderRecord; repeat' split
  all_goals simp
@[simp] theorem recorderRecord_slice (so : Byte) (l c h : Nat) (s : State) (q : Port) : (recorderRecord so l c h s).slice q = s.slice q := by simp [State.slice]
@[simp] theorem recorderRecord_runs (so : Byte) (l c h : Nat) (s : State) : policyRuns (recorderRecord so l c h s) = policyRuns s := by simp [policyRuns]

/-! `saturated` -/

@[simp] theorem saturated_slices (n : Nat) (s : State) : (saturated n s).slices = s.slices := by
  unfold saturated; repeat' split
  all_goals simp
@[simp] theorem saturated_sup (n : Nat) (s : State) : (saturated n s).sup = s.sup := by
  unfold saturated; repeat' split
  all_goals simp
@[simp] theorem saturated_did (n : Nat) (s : State) : (saturated n s).did = s.did := by
  unfold saturated; repeat' split
  all_goals simp
@[simp] theorem saturated_bud (n : Nat) (s : State) : (saturated n s).bud = s.bud := by
  unfold saturated; repeat' split
  all_goals simp
@[simp] theorem saturated_kln (n : Nat) (s : State) : (saturated n s).kln = s.kln := by
  unfold saturated; repeat' split
  all_goals simp
@[simp] theorem saturated_cyc (n : Nat) (s : State) : (saturated n s).cyc = s.cyc := by
  unfold saturated; repeat' split
  all_goals simp
@[simp] theorem saturated_syn (n : Nat) (s : State) : (saturated n s).syn = s.syn := by
  unfold saturated; repeat' split
  all_goals simp
@[simp] theorem saturated_hst (n : Nat) (s : State) : (saturated n s).hst = s.hst := by
  unfold saturated; repeat' split
  all_goals simp
@[simp] theorem saturated_aux (n : Nat) (s : State) : (saturated n s).aux = s.aux := by
  unfold saturated; repeat' split
  all_goals simp
@[simp] theorem saturated_fab (n : Nat) (s : State) : (saturated n s).fab = s.fab := by
  unfold saturated; repeat' split
  all_goals simp
@[simp] theorem saturated_dma (n : Nat) (s : State) : (saturated n s).dma = s.dma := by
  unfold saturated; repeat' split
  all_goals simp
@[simp] theorem saturated_nvc (n : Nat) (s : State) : (saturated n s).nvc = s.nvc := by
  unfold saturated; repeat' split
  all_goals simp
@[simp] theorem saturated_nand (n : Nat) (s : State) : (saturated n s).nand = s.nand := by
  unfold saturated; repeat' split
  all_goals simp
@[simp] theorem saturated_otp (n : Nat) (s : State) : (saturated n s).otp = s.otp := by
  unfold saturated; repeat' split
  all_goals simp
@[simp] theorem saturated_lcu (n : Nat) (s : State) : (saturated n s).lcu = s.lcu := by
  unfold saturated; repeat' split
  all_goals simp
@[simp] theorem saturated_mem (n : Nat) (s : State) : (saturated n s).mem = s.mem := by
  unfold saturated; repeat' split
  all_goals simp
@[simp] theorem saturated_free (n : Nat) (s : State) : (saturated n s).free = s.free := by
  unfold saturated; repeat' split
  all_goals simp
@[simp] theorem saturated_pending (n : Nat) (s : State) : (saturated n s).pending = s.pending := by
  unfold saturated; repeat' split
  all_goals simp
@[simp] theorem saturated_slice (n : Nat) (s : State) (q : Port) : (saturated n s).slice q = s.slice q := by simp [State.slice]
@[simp] theorem saturated_runs (n : Nat) (s : State) : policyRuns (saturated n s) = policyRuns s := by simp [policyRuns]

/-! `clockRecord` -/

@[simp] theorem clockRecord_slices (so : Byte) (c : Nat) (s : State) : (clockRecord so c s).slices = s.slices := by
  unfold clockRecord; repeat' split
  all_goals simp
@[simp] theorem clockRecord_sup (so : Byte) (c : Nat) (s : State) : (clockRecord so c s).sup = s.sup := by
  unfold clockRecord; repeat' split
  all_goals simp
@[simp] theorem clockRecord_did (so : Byte) (c : Nat) (s : State) : (clockRecord so c s).did = s.did := by
  unfold clockRecord; repeat' split
  all_goals simp
@[simp] theorem clockRecord_bud (so : Byte) (c : Nat) (s : State) : (clockRecord so c s).bud = s.bud := by
  unfold clockRecord; repeat' split
  all_goals simp
@[simp] theorem clockRecord_kln (so : Byte) (c : Nat) (s : State) : (clockRecord so c s).kln = s.kln := by
  unfold clockRecord; repeat' split
  all_goals simp
@[simp] theorem clockRecord_cyc (so : Byte) (c : Nat) (s : State) : (clockRecord so c s).cyc = s.cyc := by
  unfold clockRecord; repeat' split
  all_goals simp
@[simp] theorem clockRecord_syn (so : Byte) (c : Nat) (s : State) : (clockRecord so c s).syn = s.syn := by
  unfold clockRecord; repeat' split
  all_goals simp
@[simp] theorem clockRecord_hst (so : Byte) (c : Nat) (s : State) : (clockRecord so c s).hst = s.hst := by
  unfold clockRecord; repeat' split
  all_goals simp
@[simp] theorem clockRecord_aux (so : Byte) (c : Nat) (s : State) : (clockRecord so c s).aux = s.aux := by
  unfold clockRecord; repeat' split
  all_goals simp
@[simp] theorem clockRecord_fab (so : Byte) (c : Nat) (s : State) : (clockRecord so c s).fab = s.fab := by
  unfold clockRecord; repeat' split
  all_goals simp
@[simp] theorem clockRecord_dma (so : Byte) (c : Nat) (s : State) : (clockRecord so c s).dma = s.dma := by
  unfold clockRecord; repeat' split
  all_goals simp
@[simp] theorem clockRecord_nvc (so : Byte) (c : Nat) (s : State) : (clockRecord so c s).nvc = s.nvc := by
  unfold clockRecord; repeat' split
  all_goals simp
@[simp] theorem clockRecord_nand (so : Byte) (c : Nat) (s : State) : (clockRecord so c s).nand = s.nand := by
  unfold clockRecord; repeat' split
  all_goals simp
@[simp] theorem clockRecord_otp (so : Byte) (c : Nat) (s : State) : (clockRecord so c s).otp = s.otp := by
  unfold clockRecord; repeat' split
  all_goals simp
@[simp] theorem clockRecord_lcu (so : Byte) (c : Nat) (s : State) : (clockRecord so c s).lcu = s.lcu := by
  unfold clockRecord; repeat' split
  all_goals simp
@[simp] theorem clockRecord_mem (so : Byte) (c : Nat) (s : State) : (clockRecord so c s).mem = s.mem := by
  unfold clockRecord; repeat' split
  all_goals simp
@[simp] theorem clockRecord_free (so : Byte) (c : Nat) (s : State) : (clockRecord so c s).free = s.free := by
  unfold clockRecord; repeat' split
  all_goals simp
@[simp] theorem clockRecord_pending (so : Byte) (c : Nat) (s : State) : (clockRecord so c s).pending = s.pending := by
  unfold clockRecord; repeat' split
  all_goals simp
@[simp] theorem clockRecord_slice (so : Byte) (c : Nat) (s : State) (q : Port) : (clockRecord so c s).slice q = s.slice q := by simp [State.slice]
@[simp] theorem clockRecord_runs (so : Byte) (c : Nat) (s : State) : policyRuns (clockRecord so c s) = policyRuns s := by simp [policyRuns]

/-! `coreRecord` -/

@[simp] theorem coreRecord_slices (q : CoreId) (c : Nat) (s : State) : (coreRecord q c s).slices = s.slices := by
  unfold coreRecord; repeat' split
  all_goals simp
@[simp] theorem coreRecord_sup (q : CoreId) (c : Nat) (s : State) : (coreRecord q c s).sup = s.sup := by
  unfold coreRecord; repeat' split
  all_goals simp
@[simp] theorem coreRecord_did (q : CoreId) (c : Nat) (s : State) : (coreRecord q c s).did = s.did := by
  unfold coreRecord; repeat' split
  all_goals simp
@[simp] theorem coreRecord_bud (q : CoreId) (c : Nat) (s : State) : (coreRecord q c s).bud = s.bud := by
  unfold coreRecord; repeat' split
  all_goals simp
@[simp] theorem coreRecord_kln (q : CoreId) (c : Nat) (s : State) : (coreRecord q c s).kln = s.kln := by
  unfold coreRecord; repeat' split
  all_goals simp
@[simp] theorem coreRecord_cyc (q : CoreId) (c : Nat) (s : State) : (coreRecord q c s).cyc = s.cyc := by
  unfold coreRecord; repeat' split
  all_goals simp
@[simp] theorem coreRecord_syn (q : CoreId) (c : Nat) (s : State) : (coreRecord q c s).syn = s.syn := by
  unfold coreRecord; repeat' split
  all_goals simp
@[simp] theorem coreRecord_hst (q : CoreId) (c : Nat) (s : State) : (coreRecord q c s).hst = s.hst := by
  unfold coreRecord; repeat' split
  all_goals simp
@[simp] theorem coreRecord_aux (q : CoreId) (c : Nat) (s : State) : (coreRecord q c s).aux = s.aux := by
  unfold coreRecord; repeat' split
  all_goals simp
@[simp] theorem coreRecord_fab (q : CoreId) (c : Nat) (s : State) : (coreRecord q c s).fab = s.fab := by
  unfold coreRecord; repeat' split
  all_goals simp
@[simp] theorem coreRecord_dma (q : CoreId) (c : Nat) (s : State) : (coreRecord q c s).dma = s.dma := by
  unfold coreRecord; repeat' split
  all_goals simp
@[simp] theorem coreRecord_nvc (q : CoreId) (c : Nat) (s : State) : (coreRecord q c s).nvc = s.nvc := by
  unfold coreRecord; repeat' split
  all_goals simp
@[simp] theorem coreRecord_nand (q : CoreId) (c : Nat) (s : State) : (coreRecord q c s).nand = s.nand := by
  unfold coreRecord; repeat' split
  all_goals simp
@[simp] theorem coreRecord_otp (q : CoreId) (c : Nat) (s : State) : (coreRecord q c s).otp = s.otp := by
  unfold coreRecord; repeat' split
  all_goals simp
@[simp] theorem coreRecord_lcu (q : CoreId) (c : Nat) (s : State) : (coreRecord q c s).lcu = s.lcu := by
  unfold coreRecord; repeat' split
  all_goals simp
@[simp] theorem coreRecord_mem (q : CoreId) (c : Nat) (s : State) : (coreRecord q c s).mem = s.mem := by
  unfold coreRecord; repeat' split
  all_goals simp
@[simp] theorem coreRecord_free (q : CoreId) (c : Nat) (s : State) : (coreRecord q c s).free = s.free := by
  unfold coreRecord; repeat' split
  all_goals simp
@[simp] theorem coreRecord_pending (q : CoreId) (c : Nat) (s : State) : (coreRecord q c s).pending = s.pending := by
  unfold coreRecord; repeat' split
  all_goals simp
@[simp] theorem coreRecord_slice (q : CoreId) (c : Nat) (s : State) (r : Port) : (coreRecord q c s).slice r = s.slice r := by simp [State.slice]
@[simp] theorem coreRecord_runs (q : CoreId) (c : Nat) (s : State) : policyRuns (coreRecord q c s) = policyRuns s := by simp [policyRuns]

/-! `bankRecord` -/

@[simp] theorem bankRecord_slices (so : Byte) (b : Bool) (c : Nat) (s : State) : (bankRecord so b c s).slices = s.slices := by
  unfold bankRecord; repeat' split
  all_goals simp
@[simp] theorem bankRecord_sup (so : Byte) (b : Bool) (c : Nat) (s : State) : (bankRecord so b c s).sup = s.sup := by
  unfold bankRecord; repeat' split
  all_goals simp
@[simp] theorem bankRecord_did (so : Byte) (b : Bool) (c : Nat) (s : State) : (bankRecord so b c s).did = s.did := by
  unfold bankRecord; repeat' split
  all_goals simp
@[simp] theorem bankRecord_bud (so : Byte) (b : Bool) (c : Nat) (s : State) : (bankRecord so b c s).bud = s.bud := by
  unfold bankRecord; repeat' split
  all_goals simp
@[simp] theorem bankRecord_kln (so : Byte) (b : Bool) (c : Nat) (s : State) : (bankRecord so b c s).kln = s.kln := by
  unfold bankRecord; repeat' split
  all_goals simp
@[simp] theorem bankRecord_cyc (so : Byte) (b : Bool) (c : Nat) (s : State) : (bankRecord so b c s).cyc = s.cyc := by
  unfold bankRecord; repeat' split
  all_goals simp
@[simp] theorem bankRecord_syn (so : Byte) (b : Bool) (c : Nat) (s : State) : (bankRecord so b c s).syn = s.syn := by
  unfold bankRecord; repeat' split
  all_goals simp
@[simp] theorem bankRecord_hst (so : Byte) (b : Bool) (c : Nat) (s : State) : (bankRecord so b c s).hst = s.hst := by
  unfold bankRecord; repeat' split
  all_goals simp
@[simp] theorem bankRecord_aux (so : Byte) (b : Bool) (c : Nat) (s : State) : (bankRecord so b c s).aux = s.aux := by
  unfold bankRecord; repeat' split
  all_goals simp
@[simp] theorem bankRecord_fab (so : Byte) (b : Bool) (c : Nat) (s : State) : (bankRecord so b c s).fab = s.fab := by
  unfold bankRecord; repeat' split
  all_goals simp
@[simp] theorem bankRecord_dma (so : Byte) (b : Bool) (c : Nat) (s : State) : (bankRecord so b c s).dma = s.dma := by
  unfold bankRecord; repeat' split
  all_goals simp
@[simp] theorem bankRecord_nvc (so : Byte) (b : Bool) (c : Nat) (s : State) : (bankRecord so b c s).nvc = s.nvc := by
  unfold bankRecord; repeat' split
  all_goals simp
@[simp] theorem bankRecord_nand (so : Byte) (b : Bool) (c : Nat) (s : State) : (bankRecord so b c s).nand = s.nand := by
  unfold bankRecord; repeat' split
  all_goals simp
@[simp] theorem bankRecord_otp (so : Byte) (b : Bool) (c : Nat) (s : State) : (bankRecord so b c s).otp = s.otp := by
  unfold bankRecord; repeat' split
  all_goals simp
@[simp] theorem bankRecord_lcu (so : Byte) (b : Bool) (c : Nat) (s : State) : (bankRecord so b c s).lcu = s.lcu := by
  unfold bankRecord; repeat' split
  all_goals simp
@[simp] theorem bankRecord_mem (so : Byte) (b : Bool) (c : Nat) (s : State) : (bankRecord so b c s).mem = s.mem := by
  unfold bankRecord; repeat' split
  all_goals simp
@[simp] theorem bankRecord_free (so : Byte) (b : Bool) (c : Nat) (s : State) : (bankRecord so b c s).free = s.free := by
  unfold bankRecord; repeat' split
  all_goals simp
@[simp] theorem bankRecord_pending (so : Byte) (b : Bool) (c : Nat) (s : State) : (bankRecord so b c s).pending = s.pending := by
  unfold bankRecord; repeat' split
  all_goals simp
@[simp] theorem bankRecord_slice (so : Byte) (b : Bool) (c : Nat) (s : State) (q : Port) : (bankRecord so b c s).slice q = s.slice q := by simp [State.slice]
@[simp] theorem bankRecord_runs (so : Byte) (b : Bool) (c : Nat) (s : State) : policyRuns (bankRecord so b c s) = policyRuns s := by simp [policyRuns]

/-! `hostEvent` -/

@[simp] theorem hostEvent_slices (d : Domain) (s : State) : (hostEvent d s).slices = s.slices := by
  unfold hostEvent; repeat' split
  all_goals simp
@[simp] theorem hostEvent_sup (d : Domain) (s : State) : (hostEvent d s).sup = s.sup := by
  unfold hostEvent; repeat' split
  all_goals simp
@[simp] theorem hostEvent_did (d : Domain) (s : State) : (hostEvent d s).did = s.did := by
  unfold hostEvent; repeat' split
  all_goals simp
@[simp] theorem hostEvent_bud (d : Domain) (s : State) : (hostEvent d s).bud = s.bud := by
  unfold hostEvent; repeat' split
  all_goals simp
@[simp] theorem hostEvent_kln (d : Domain) (s : State) : (hostEvent d s).kln = s.kln := by
  unfold hostEvent; repeat' split
  all_goals simp
@[simp] theorem hostEvent_cyc (d : Domain) (s : State) : (hostEvent d s).cyc = s.cyc := by
  unfold hostEvent; repeat' split
  all_goals simp
@[simp] theorem hostEvent_syn (d : Domain) (s : State) : (hostEvent d s).syn = s.syn := by
  unfold hostEvent; repeat' split
  all_goals simp
@[simp] theorem hostEvent_hst (d : Domain) (s : State) : (hostEvent d s).hst = s.hst := by
  unfold hostEvent; repeat' split
  all_goals simp
@[simp] theorem hostEvent_aux (d : Domain) (s : State) : (hostEvent d s).aux = s.aux := by
  unfold hostEvent; repeat' split
  all_goals simp
@[simp] theorem hostEvent_fab (d : Domain) (s : State) : (hostEvent d s).fab = s.fab := by
  unfold hostEvent; repeat' split
  all_goals simp
@[simp] theorem hostEvent_dma (d : Domain) (s : State) : (hostEvent d s).dma = s.dma := by
  unfold hostEvent; repeat' split
  all_goals simp
@[simp] theorem hostEvent_nvc (d : Domain) (s : State) : (hostEvent d s).nvc = s.nvc := by
  unfold hostEvent; repeat' split
  all_goals simp
@[simp] theorem hostEvent_nand (d : Domain) (s : State) : (hostEvent d s).nand = s.nand := by
  unfold hostEvent; repeat' split
  all_goals simp
@[simp] theorem hostEvent_otp (d : Domain) (s : State) : (hostEvent d s).otp = s.otp := by
  unfold hostEvent; repeat' split
  all_goals simp
@[simp] theorem hostEvent_lcu (d : Domain) (s : State) : (hostEvent d s).lcu = s.lcu := by
  unfold hostEvent; repeat' split
  all_goals simp
@[simp] theorem hostEvent_mem (d : Domain) (s : State) : (hostEvent d s).mem = s.mem := by
  unfold hostEvent; repeat' split
  all_goals simp
@[simp] theorem hostEvent_free (d : Domain) (s : State) : (hostEvent d s).free = s.free := by
  unfold hostEvent; repeat' split
  all_goals simp
@[simp] theorem hostEvent_pending (d : Domain) (s : State) : (hostEvent d s).pending = s.pending := by
  unfold hostEvent; repeat' split
  all_goals simp
@[simp] theorem hostEvent_slice (d : Domain) (s : State) (q : Port) : (hostEvent d s).slice q = s.slice q := by simp [State.slice]
@[simp] theorem hostEvent_runs (d : Domain) (s : State) : policyRuns (hostEvent d s) = policyRuns s := by simp [policyRuns]

/-! `dmaEvent` -/

@[simp] theorem dmaEvent_slices (n : Nat) (c : Fin 16) (s : State) : (dmaEvent n c s).slices = s.slices := by
  unfold dmaEvent; repeat' split
  all_goals simp
@[simp] theorem dmaEvent_sup (n : Nat) (c : Fin 16) (s : State) : (dmaEvent n c s).sup = s.sup := by
  unfold dmaEvent; repeat' split
  all_goals simp
@[simp] theorem dmaEvent_did (n : Nat) (c : Fin 16) (s : State) : (dmaEvent n c s).did = s.did := by
  unfold dmaEvent; repeat' split
  all_goals simp
@[simp] theorem dmaEvent_bud (n : Nat) (c : Fin 16) (s : State) : (dmaEvent n c s).bud = s.bud := by
  unfold dmaEvent; repeat' split
  all_goals simp
@[simp] theorem dmaEvent_kln (n : Nat) (c : Fin 16) (s : State) : (dmaEvent n c s).kln = s.kln := by
  unfold dmaEvent; repeat' split
  all_goals simp
@[simp] theorem dmaEvent_cyc (n : Nat) (c : Fin 16) (s : State) : (dmaEvent n c s).cyc = s.cyc := by
  unfold dmaEvent; repeat' split
  all_goals simp
@[simp] theorem dmaEvent_syn (n : Nat) (c : Fin 16) (s : State) : (dmaEvent n c s).syn = s.syn := by
  unfold dmaEvent; repeat' split
  all_goals simp
@[simp] theorem dmaEvent_hst (n : Nat) (c : Fin 16) (s : State) : (dmaEvent n c s).hst = s.hst := by
  unfold dmaEvent; repeat' split
  all_goals simp
@[simp] theorem dmaEvent_aux (n : Nat) (c : Fin 16) (s : State) : (dmaEvent n c s).aux = s.aux := by
  unfold dmaEvent; repeat' split
  all_goals simp
@[simp] theorem dmaEvent_fab (n : Nat) (c : Fin 16) (s : State) : (dmaEvent n c s).fab = s.fab := by
  unfold dmaEvent; repeat' split
  all_goals simp
@[simp] theorem dmaEvent_dma (n : Nat) (c : Fin 16) (s : State) : (dmaEvent n c s).dma = s.dma := by
  unfold dmaEvent; repeat' split
  all_goals simp
@[simp] theorem dmaEvent_nvc (n : Nat) (c : Fin 16) (s : State) : (dmaEvent n c s).nvc = s.nvc := by
  unfold dmaEvent; repeat' split
  all_goals simp
@[simp] theorem dmaEvent_nand (n : Nat) (c : Fin 16) (s : State) : (dmaEvent n c s).nand = s.nand := by
  unfold dmaEvent; repeat' split
  all_goals simp
@[simp] theorem dmaEvent_otp (n : Nat) (c : Fin 16) (s : State) : (dmaEvent n c s).otp = s.otp := by
  unfold dmaEvent; repeat' split
  all_goals simp
@[simp] theorem dmaEvent_lcu (n : Nat) (c : Fin 16) (s : State) : (dmaEvent n c s).lcu = s.lcu := by
  unfold dmaEvent; repeat' split
  all_goals simp
@[simp] theorem dmaEvent_mem (n : Nat) (c : Fin 16) (s : State) : (dmaEvent n c s).mem = s.mem := by
  unfold dmaEvent; repeat' split
  all_goals simp
@[simp] theorem dmaEvent_free (n : Nat) (c : Fin 16) (s : State) : (dmaEvent n c s).free = s.free := by
  unfold dmaEvent; repeat' split
  all_goals simp
@[simp] theorem dmaEvent_pending (n : Nat) (c : Fin 16) (s : State) : (dmaEvent n c s).pending = s.pending := by
  unfold dmaEvent; repeat' split
  all_goals simp
@[simp] theorem dmaEvent_slice (n : Nat) (c : Fin 16) (s : State) (q : Port) : (dmaEvent n c s).slice q = s.slice q := by simp [State.slice]
@[simp] theorem dmaEvent_runs (n : Nat) (c : Fin 16) (s : State) : policyRuns (dmaEvent n c s) = policyRuns s := by simp [policyRuns]

/-! ## Pending bits -/

theorem set_mono (n m : Nat) (x : EvaBank) (h : x.pend.getLsbD n = true) : (x.set m).pend.getLsbD n = true := by
  simp [EvaBank.set, h]

theorem set_self (n : Nat) (x : EvaBank) (h : n < 256) : (x.set n).pend.getLsbD n = true := by
  simp only [EvaBank.set, BitVec.getLsbD_or, Bool.or_eq_true]
  right
  show (BitVec.ofNat 256 (1 <<< n)).getLsbD n = true
  rw [BitVec.getLsbD_ofNat, Nat.testBit_shiftLeft]
  simp [h]

@[simp] theorem raise_raised (n : Nat) (s : State) (h : n < 256) : (raise n s).eva.raised n = true := by
  simp only [Eva.raised, raise, set_self, h, Bool.and_self]

theorem raise_keeps {n : Nat} (m : Nat) {s : State} (h : s.eva.raised n = true) : (raise m s).eva.raised n = true := by
  simp only [Eva.raised, Bool.and_eq_true] at h
  simp [Eva.raised, raise, set_mono, h]

theorem ringPut_keeps {n : Nat} (ty so : BitVec 8) (fl : BitVec 16) (da : BitVec 48) {s : State} (h : s.eva.raised n = true) :
    (ringPut ty so fl da s).eva.raised n = true := by
  unfold ringPut; dsimp only; repeat' split
  all_goals first | exact h | exact raise_keeps _ h

theorem ringWrite_keeps {n : Nat} (ty so : BitVec 8) (fl : BitVec 16) (da : BitVec 48) {s : State} (h : s.eva.raised n = true) :
    (ringWrite ty so fl da s).eva.raised n = true := by
  unfold ringWrite; dsimp only; split
  · exact ringPut_keeps _ _ _ _ (ringPut_keeps _ _ _ _ h)
  · exact ringPut_keeps _ _ _ _ h

theorem hwRecord_keeps {n : Nat} (ty so : BitVec 8) (fl : BitVec 16) (da : BitVec 48) {s : State} (h : s.eva.raised n = true) :
    (hwRecord ty so fl da s).eva.raised n = true := by
  unfold hwRecord; repeat' split
  · exact ringWrite_keeps _ _ _ _ h
  all_goals exact h

@[simp] theorem fwRecord_eva (n : Nat) (w : Word) (i : Nat) (s : State) : (fwRecord n w i s).eva = s.eva := by
  unfold fwRecord; split <;> rfl

@[simp] theorem globalEvent_eva (n : Nat) (w : Word) (i : Nat) (s : State) : (globalEvent n w i s).eva = (raise n s).eva := by
  simp [globalEvent]

theorem portEvent_eva (p : Port) (k : Nat) (s : State) : (portEvent p k s).eva = (raise (8 * p.val + k) s).eva := by
  unfold portEvent; split
  · rename_i h; subst h; rfl
  · simp

@[simp] theorem portEvent_raised (p : Port) (k : Nat) (s : State) (h : k < 8) :
    (portEvent p k s).eva.raised (8 * p.val + k) = true := by
  rw [portEvent_eva]; exact raise_raised _ _ (by omega)

@[simp] theorem portEvent_raised0 (p : Port) (s : State) : (portEvent p 0 s).eva.raised (8 * p.val) = true :=
  portEvent_raised p 0 s (by decide)

theorem portEvent_keeps {n : Nat} (p : Port) (k : Nat) {s : State} (h : s.eva.raised n = true) :
    (portEvent p k s).eva.raised n = true := by
  rw [portEvent_eva]; exact raise_keeps _ h

theorem recorderRecord_keeps {n : Nat} (so : Byte) (l c k : Nat) {s : State} (h : s.eva.raised n = true) :
    (recorderRecord so l c k s).eva.raised n = true := hwRecord_keeps _ _ _ _ h

@[simp] theorem saturated_raised (k : Nat) (s : State) : (saturated k s).eva.raised 223 = true :=
  recorderRecord_keeps _ _ _ _ (raise_raised _ _ (by decide))

@[simp] theorem supplyEvent_raised (n : Nat) (s : State) (h : n < 256) : (supplyEvent n s).eva.raised n = true :=
  hwRecord_keeps _ _ _ _ (raise_raised _ _ h)

@[simp] theorem tripEvent_raised (p : Port) (l : Bool) (s : State) : (tripEvent p l s).eva.raised (8 * p.val + 3) = true :=
  hwRecord_keeps _ _ _ _ (raise_raised _ _ (by omega))

@[simp] theorem dmaEvent_raised (n : Nat) (c : Fin 16) (s : State) (h : n < 256) : (dmaEvent n c s).eva.raised n = true := by
  simp [dmaEvent, h]

end Sys2Proof.Machine
end

