-- ==== Sys2Proof/Laws/Released.lean ====
section
/-!
SUPPORT. What the Policy Core's spreading of stagger phases adds to a command (R172): the phase registers, and nothing else.
-/

namespace Sys2Proof.Machine

/-- A slice but for its stagger phase. -/
def Slice.noPhase (x : Slice) : Slice := { x with ps := { x.ps with pwmph := {} } }

theorem spreadGroup_noPhase (g : Nat) (s : State) (p : Port) : ((spreadGroup g s).slice p).noPhase = (s.slice p).noPhase := by
  unfold spreadGroup
  dsimp only
  generalize (groupRunning s g).length = n
  generalize (groupRunning s g).zipIdx = l
  induction l generalizing s with
  | nil => rfl
  | cons m l ih =>
    rw [List.foldl_cons, ih]
    unfold writePwmph onPs
    rcases eq_or_ne p m.1 with h | h
    · subst h; simp [Slice.noPhase]
    · rw [slice_onSlice_ne _ _ h]

theorem spreadGroup_rest (g : Nat) (s : State) : spreadGroup g s = { s with slices := (spreadGroup g s).slices } := by
  unfold spreadGroup
  dsimp only
  generalize (groupRunning s g).length = n
  generalize (groupRunning s g).zipIdx = l
  induction l generalizing s with
  | nil => rfl
  | cons m l ih => rw [List.foldl_cons, ih]; rfl

theorem spreading_noPhase (f : State → State) (s : State) (p : Port) :
    ((spreading f s).slice p).noPhase = ((f s).slice p).noPhase := by
  unfold spreading
  dsimp only
  split
  · rfl
  · generalize [1, 2, 3, 4, 5, 6, 7, 8] = l
    generalize f s = t
    induction l generalizing t with
    | nil => rfl
    | cons g l ih =>
      rw [List.foldl_cons, ih]
      split
      · rfl
      · exact spreadGroup_noPhase g t p

theorem spreading_rest (f : State → State) (s : State) :
    spreading f s = { f s with slices := (spreading f s).slices } := by
  unfold spreading
  dsimp only
  split
  · rfl
  · generalize [1, 2, 3, 4, 5, 6, 7, 8] = l
    generalize f s = t
    induction l generalizing t with
    | nil => rfl
    | cons g l ih =>
      rw [List.foldl_cons, ih]
      split
      · rfl
      · rw [spreadGroup_rest g t]

theorem spreading_same (f : State → State) (s : State) (h : f s = s) : spreading f s = s := by
  unfold spreading
  dsimp only
  rw [h]
  split
  · rfl
  · simp

/-- The slices before release do not act. -/
theorem whenReleased_off (f : State → State) (s : State) (h : s.did.released = false) : whenReleased f s = s := by
  simp [whenReleased, h]

theorem whenReleased_same (f : State → State) (s : State) (h : f s = s) : whenReleased f s = s := by
  unfold whenReleased; split
  · exact spreading_same f s h
  · rfl

theorem whenReleased_noPhase (f : State → State) (s : State) (p : Port) (h : s.did.released = true) :
    ((whenReleased f s).slice p).noPhase = ((f s).slice p).noPhase := by
  rw [whenReleased, if_pos h, spreading_noPhase]

theorem whenReleased_rest (f : State → State) (s : State) (h : s.did.released = true) :
    whenReleased f s = { f s with slices := (whenReleased f s).slices } := by
  rw [whenReleased, if_pos h]; exact spreading_rest f s

/-! ## Field by field -/

@[simp] theorem spreading_sup (f : State → State) (s : State) : (spreading f s).sup = (f s).sup := by
  rw [spreading_rest]
@[simp] theorem spreading_did (f : State → State) (s : State) : (spreading f s).did = (f s).did := by
  rw [spreading_rest]
@[simp] theorem spreading_evr (f : State → State) (s : State) : (spreading f s).evr = (f s).evr := by
  rw [spreading_rest]
@[simp] theorem spreading_eva (f : State → State) (s : State) : (spreading f s).eva = (f s).eva := by
  rw [spreading_rest]
@[simp] theorem spreading_bud (f : State → State) (s : State) : (spreading f s).bud = (f s).bud := by
  rw [spreading_rest]
@[simp] theorem spreading_kln (f : State → State) (s : State) : (spreading f s).kln = (f s).kln := by
  rw [spreading_rest]
@[simp] theorem spreading_cyc (f : State → State) (s : State) : (spreading f s).cyc = (f s).cyc := by
  rw [spreading_rest]
@[simp] theorem spreading_syn (f : State → State) (s : State) : (spreading f s).syn = (f s).syn := by
  rw [spreading_rest]
@[simp] theorem spreading_hst (f : State → State) (s : State) : (spreading f s).hst = (f s).hst := by
  rw [spreading_rest]
@[simp] theorem spreading_aux (f : State → State) (s : State) : (spreading f s).aux = (f s).aux := by
  rw [spreading_rest]
@[simp] theorem spreading_fab (f : State → State) (s : State) : (spreading f s).fab = (f s).fab := by
  rw [spreading_rest]
@[simp] theorem spreading_dma (f : State → State) (s : State) : (spreading f s).dma = (f s).dma := by
  rw [spreading_rest]
@[simp] theorem spreading_nvc (f : State → State) (s : State) : (spreading f s).nvc = (f s).nvc := by
  rw [spreading_rest]
@[simp] theorem spreading_nand (f : State → State) (s : State) : (spreading f s).nand = (f s).nand := by
  rw [spreading_rest]
@[simp] theorem spreading_otp (f : State → State) (s : State) : (spreading f s).otp = (f s).otp := by
  rw [spreading_rest]
@[simp] theorem spreading_lcu (f : State → State) (s : State) : (spreading f s).lcu = (f s).lcu := by
  rw [spreading_rest]
@[simp] theorem spreading_mem (f : State → State) (s : State) : (spreading f s).mem = (f s).mem := by
  rw [spreading_rest]
@[simp] theorem spreading_free (f : State → State) (s : State) : (spreading f s).free = (f s).free := by
  rw [spreading_rest]
@[simp] theorem spreading_pending (f : State → State) (s : State) : (spreading f s).pending = (f s).pending := by
  rw [spreading_rest]
@[simp] theorem spreading_att_of (f : State → State) (s : State) (p : Port) : ((spreading f s).slice p).att = ((f s).slice p).att := by
  have h := congrArg Slice.att (spreading_noPhase f s p); exact h
@[simp] theorem spreading_pd_of (f : State → State) (s : State) (p : Port) : ((spreading f s).slice p).pd = ((f s).slice p).pd := by
  have h := congrArg Slice.pd (spreading_noPhase f s p); exact h
@[simp] theorem spreading_off_of (f : State → State) (s : State) (p : Port) : ((spreading f s).slice p).off = ((f s).slice p).off := by
  have h := congrArg Slice.off (spreading_noPhase f s p); exact h
@[simp] theorem spreading_mb_of (f : State → State) (s : State) (p : Port) : ((spreading f s).slice p).mb = ((f s).slice p).mb := by
  have h := congrArg Slice.mb (spreading_noPhase f s p); exact h
@[simp] theorem spreading_sw_of (f : State → State) (s : State) (p : Port) : ((spreading f s).slice p).sw = ((f s).slice p).sw := by
  have h := congrArg Slice.sw (spreading_noPhase f s p); exact h
@[simp] theorem spreading_pr_of (f : State → State) (s : State) (p : Port) : ((spreading f s).slice p).pr = ((f s).slice p).pr := by
  have h := congrArg Slice.pr (spreading_noPhase f s p); exact h
@[simp] theorem spreading_gr_of (f : State → State) (s : State) (p : Port) : ((spreading f s).slice p).gr = ((f s).slice p).gr := by
  have h := congrArg Slice.gr (spreading_noPhase f s p); exact h
@[simp] theorem spreading_pins_of (f : State → State) (s : State) (p : Port) : ((spreading f s).slice p).pins = ((f s).slice p).pins := by
  have h := congrArg Slice.pins (spreading_noPhase f s p); exact h
@[simp] theorem spreading_th_of (f : State → State) (s : State) (p : Port) : ((spreading f s).slice p).th = ((f s).slice p).th := by
  have h := congrArg Slice.th (spreading_noPhase f s p); exact h
@[simp] theorem spreading_snap_of (f : State → State) (s : State) (p : Port) : ((spreading f s).slice p).snap = ((f s).slice p).snap := by
  have h := congrArg Slice.snap (spreading_noPhase f s p); exact h
@[simp] theorem spreading_hold_of (f : State → State) (s : State) (p : Port) : ((spreading f s).slice p).hold = ((f s).slice p).hold := by
  have h := congrArg Slice.hold (spreading_noPhase f s p); exact h
@[simp] theorem spreading_ps_pwmcfg (f : State → State) (s : State) (p : Port) :
    ((spreading f s).slice p).ps.pwmcfg = ((f s).slice p).ps.pwmcfg := by
  have h := congrArg (fun x : Slice => x.ps.pwmcfg) (spreading_noPhase f s p); exact h
@[simp] theorem spreading_ps_pwmlim (f : State → State) (s : State) (p : Port) :
    ((spreading f s).slice p).ps.pwmlim = ((f s).slice p).ps.pwmlim := by
  have h := congrArg (fun x : Slice => x.ps.pwmlim) (spreading_noPhase f s p); exact h
@[simp] theorem spreading_ps_cmpb0 (f : State → State) (s : State) (p : Port) :
    ((spreading f s).slice p).ps.cmpb0 = ((f s).slice p).ps.cmpb0 := by
  have h := congrArg (fun x : Slice => x.ps.cmpb0) (spreading_noPhase f s p); exact h
@[simp] theorem spreading_ps_cmpb1 (f : State → State) (s : State) (p : Port) :
    ((spreading f s).slice p).ps.cmpb1 = ((f s).slice p).ps.cmpb1 := by
  have h := congrArg (fun x : Slice => x.ps.cmpb1) (spreading_noPhase f s p); exact h
@[simp] theorem spreading_ps_pscfg (f : State → State) (s : State) (p : Port) :
    ((spreading f s).slice p).ps.pscfg = ((f s).slice p).ps.pscfg := by
  have h := congrArg (fun x : Slice => x.ps.pscfg) (spreading_noPhase f s p); exact h
@[simp] theorem spreading_ps_pwmofs (f : State → State) (s : State) (p : Port) :
    ((spreading f s).slice p).ps.pwmofs = ((f s).slice p).ps.pwmofs := by
  have h := congrArg (fun x : Slice => x.ps.pwmofs) (spreading_noPhase f s p); exact h
@[simp] theorem spreading_ps_psstat (f : State → State) (s : State) (p : Port) :
    ((spreading f s).slice p).ps.psstat = ((f s).slice p).ps.psstat := by
  have h := congrArg (fun x : Slice => x.ps.psstat) (spreading_noPhase f s p); exact h
@[simp] theorem spreading_ps_festat (f : State → State) (s : State) (p : Port) :
    ((spreading f s).slice p).ps.festat = ((f s).slice p).ps.festat := by
  have h := congrArg (fun x : Slice => x.ps.festat) (spreading_noPhase f s p); exact h
@[simp] theorem spreading_ps_feres (f : State → State) (s : State) (p : Port) :
    ((spreading f s).slice p).ps.feres = ((f s).slice p).ps.feres := by
  have h := congrArg (fun x : Slice => x.ps.feres) (spreading_noPhase f s p); exact h
@[simp] theorem spreading_ps_fevolt (f : State → State) (s : State) (p : Port) :
    ((spreading f s).slice p).ps.fevolt = ((f s).slice p).ps.fevolt := by
  have h := congrArg (fun x : Slice => x.ps.fevolt) (spreading_noPhase f s p); exact h
@[simp] theorem spreading_ps_tlmV (f : State → State) (s : State) (p : Port) :
    ((spreading f s).slice p).ps.tlmV = ((f s).slice p).ps.tlmV := by
  have h := congrArg (fun x : Slice => x.ps.tlmV) (spreading_noPhase f s p); exact h
@[simp] theorem spreading_ps_tlmI (f : State → State) (s : State) (p : Port) :
    ((spreading f s).slice p).ps.tlmI = ((f s).slice p).ps.tlmI := by
  have h := congrArg (fun x : Slice => x.ps.tlmI) (spreading_noPhase f s p); exact h
@[simp] theorem spreading_ps_psctl (f : State → State) (s : State) (p : Port) :
    ((spreading f s).slice p).ps.psctl = ((f s).slice p).ps.psctl := by
  have h := congrArg (fun x : Slice => x.ps.psctl) (spreading_noPhase f s p); exact h
@[simp] theorem spreading_ps_eno (f : State → State) (s : State) (p : Port) :
    ((spreading f s).slice p).ps.eno = ((f s).slice p).ps.eno := by
  have h := congrArg (fun x : Slice => x.ps.eno) (spreading_noPhase f s p); exact h
@[simp] theorem spreading_ps_eni (f : State → State) (s : State) (p : Port) :
    ((spreading f s).slice p).ps.eni = ((f s).slice p).ps.eni := by
  have h := congrArg (fun x : Slice => x.ps.eni) (spreading_noPhase f s p); exact h
@[simp] theorem spreading_ps_enoRes (f : State → State) (s : State) (p : Port) :
    ((spreading f s).slice p).ps.enoRes = ((f s).slice p).ps.enoRes := by
  have h := congrArg (fun x : Slice => x.ps.enoRes) (spreading_noPhase f s p); exact h
@[simp] theorem spreading_ps_eniRes (f : State → State) (s : State) (p : Port) :
    ((spreading f s).slice p).ps.eniRes = ((f s).slice p).ps.eniRes := by
  have h := congrArg (fun x : Slice => x.ps.eniRes) (spreading_noPhase f s p); exact h
@[simp] theorem spreading_ps_vset (f : State → State) (s : State) (p : Port) :
    ((spreading f s).slice p).ps.vset = ((f s).slice p).ps.vset := by
  have h := congrArg (fun x : Slice => x.ps.vset) (spreading_noPhase f s p); exact h
@[simp] theorem spreading_ps_vref (f : State → State) (s : State) (p : Port) :
    ((spreading f s).slice p).ps.vref = ((f s).slice p).ps.vref := by
  have h := congrArg (fun x : Slice => x.ps.vref) (spreading_noPhase f s p); exact h
@[simp] theorem spreading_ps_u1 (f : State → State) (s : State) (p : Port) :
    ((spreading f s).slice p).ps.u1 = ((f s).slice p).ps.u1 := by
  have h := congrArg (fun x : Slice => x.ps.u1) (spreading_noPhase f s p); exact h
@[simp] theorem spreading_ps_u2 (f : State → State) (s : State) (p : Port) :
    ((spreading f s).slice p).ps.u2 = ((f s).slice p).ps.u2 := by
  have h := congrArg (fun x : Slice => x.ps.u2) (spreading_noPhase f s p); exact h
@[simp] theorem spreading_ps_e1 (f : State → State) (s : State) (p : Port) :
    ((spreading f s).slice p).ps.e1 = ((f s).slice p).ps.e1 := by
  have h := congrArg (fun x : Slice => x.ps.e1) (spreading_noPhase f s p); exact h
@[simp] theorem spreading_ps_e2 (f : State → State) (s : State) (p : Port) :
    ((spreading f s).slice p).ps.e2 = ((f s).slice p).ps.e2 := by
  have h := congrArg (fun x : Slice => x.ps.e2) (spreading_noPhase f s p); exact h
@[simp] theorem spreading_ps_steps (f : State → State) (s : State) (p : Port) :
    ((spreading f s).slice p).ps.steps = ((f s).slice p).ps.steps := by
  have h := congrArg (fun x : Slice => x.ps.steps) (spreading_noPhase f s p); exact h
@[simp] theorem spreading_ps_vpre (f : State → State) (s : State) (p : Port) :
    ((spreading f s).slice p).ps.vpre = ((f s).slice p).ps.vpre := by
  have h := congrArg (fun x : Slice => x.ps.vpre) (spreading_noPhase f s p); exact h
@[simp] theorem spreading_ps_periods (f : State → State) (s : State) (p : Port) :
    ((spreading f s).slice p).ps.periods = ((f s).slice p).ps.periods := by
  have h := congrArg (fun x : Slice => x.ps.periods) (spreading_noPhase f s p); exact h
@[simp] theorem spreading_ps_fbFresh (f : State → State) (s : State) (p : Port) :
    ((spreading f s).slice p).ps.fbFresh = ((f s).slice p).ps.fbFresh := by
  have h := congrArg (fun x : Slice => x.ps.fbFresh) (spreading_noPhase f s p); exact h
@[simp] theorem spreading_ps_phase (f : State → State) (s : State) (p : Port) :
    ((spreading f s).slice p).ps.phase = ((f s).slice p).ps.phase := by
  have h := congrArg (fun x : Slice => x.ps.phase) (spreading_noPhase f s p); exact h
@[simp] theorem spreading_ps_swapStart (f : State → State) (s : State) (p : Port) :
    ((spreading f s).slice p).ps.swapStart = ((f s).slice p).ps.swapStart := by
  have h := congrArg (fun x : Slice => x.ps.swapStart) (spreading_noPhase f s p); exact h
@[simp] theorem spreading_ps_startHeld (f : State → State) (s : State) (p : Port) :
    ((spreading f s).slice p).ps.startHeld = ((f s).slice p).ps.startHeld := by
  have h := congrArg (fun x : Slice => x.ps.startHeld) (spreading_noPhase f s p); exact h
@[simp] theorem spreading_ps_feSamples (f : State → State) (s : State) (p : Port) :
    ((spreading f s).slice p).ps.feSamples = ((f s).slice p).ps.feSamples := by
  have h := congrArg (fun x : Slice => x.ps.feSamples) (spreading_noPhase f s p); exact h
@[simp] theorem spreading_ps_fePrevI (f : State → State) (s : State) (p : Port) :
    ((spreading f s).slice p).ps.fePrevI = ((f s).slice p).ps.fePrevI := by
  have h := congrArg (fun x : Slice => x.ps.fePrevI) (spreading_noPhase f s p); exact h
@[simp] theorem spreading_ps_feFrozen (f : State → State) (s : State) (p : Port) :
    ((spreading f s).slice p).ps.feFrozen = ((f s).slice p).ps.feFrozen := by
  have h := congrArg (fun x : Slice => x.ps.feFrozen) (spreading_noPhase f s p); exact h
@[simp] theorem spreading_ps_feCx (f : State → State) (s : State) (p : Port) :
    ((spreading f s).slice p).ps.feCx = ((f s).slice p).ps.feCx := by
  have h := congrArg (fun x : Slice => x.ps.feCx) (spreading_noPhase f s p); exact h
@[simp] theorem spreading_ps_feQuiet (f : State → State) (s : State) (p : Port) :
    ((spreading f s).slice p).ps.feQuiet = ((f s).slice p).ps.feQuiet := by
  have h := congrArg (fun x : Slice => x.ps.feQuiet) (spreading_noPhase f s p); exact h
@[simp] theorem spreading_ps_feBad (f : State → State) (s : State) (p : Port) :
    ((spreading f s).slice p).ps.feBad = ((f s).slice p).ps.feBad := by
  have h := congrArg (fun x : Slice => x.ps.feBad) (spreading_noPhase f s p); exact h

/-! ## After release -/

@[simp] theorem whenReleased_sup (f : State → State) (s : State) (h : s.did.released = true) : (whenReleased f s).sup = (f s).sup := by
  rw [whenReleased_rest f s h]
@[simp] theorem whenReleased_did (f : State → State) (s : State) (h : s.did.released = true) : (whenReleased f s).did = (f s).did := by
  rw [whenReleased_rest f s h]
@[simp] theorem whenReleased_evr (f : State → State) (s : State) (h : s.did.released = true) : (whenReleased f s).evr = (f s).evr := by
  rw [whenReleased_rest f s h]
@[simp] theorem whenReleased_eva (f : State → State) (s : State) (h : s.did.released = true) : (whenReleased f s).eva = (f s).eva := by
  rw [whenReleased_rest f s h]
@[simp] theorem whenReleased_bud (f : State → State) (s : State) (h : s.did.released = true) : (whenReleased f s).bud = (f s).bud := by
  rw [whenReleased_rest f s h]
@[simp] theorem whenReleased_kln (f : State → State) (s : State) (h : s.did.released = true) : (whenReleased f s).kln = (f s).kln := by
  rw [whenReleased_rest f s h]
@[simp] theorem whenReleased_cyc (f : State → State) (s : State) (h : s.did.released = true) : (whenReleased f s).cyc = (f s).cyc := by
  rw [whenReleased_rest f s h]
@[simp] theorem whenReleased_syn (f : State → State) (s : State) (h : s.did.released = true) : (whenReleased f s).syn = (f s).syn := by
  rw [whenReleased_rest f s h]
@[simp] theorem whenReleased_hst (f : State → State) (s : State) (h : s.did.released = true) : (whenReleased f s).hst = (f s).hst := by
  rw [whenReleased_rest f s h]
@[simp] theorem whenReleased_aux (f : State → State) (s : State) (h : s.did.released = true) : (whenReleased f s).aux = (f s).aux := by
  rw [whenReleased_rest f s h]
@[simp] theorem whenReleased_fab (f : State → State) (s : State) (h : s.did.released = true) : (whenReleased f s).fab = (f s).fab := by
  rw [whenReleased_rest f s h]
@[simp] theorem whenReleased_dma (f : State → State) (s : State) (h : s.did.released = true) : (whenReleased f s).dma = (f s).dma := by
  rw [whenReleased_rest f s h]
@[simp] theorem whenReleased_nvc (f : State → State) (s : State) (h : s.did.released = true) : (whenReleased f s).nvc = (f s).nvc := by
  rw [whenReleased_rest f s h]
@[simp] theorem whenReleased_nand (f : State → State) (s : State) (h : s.did.released = true) : (whenReleased f s).nand = (f s).nand := by
  rw [whenReleased_rest f s h]
@[simp] theorem whenReleased_otp (f : State → State) (s : State) (h : s.did.released = true) : (whenReleased f s).otp = (f s).otp := by
  rw [whenReleased_rest f s h]
@[simp] theorem whenReleased_lcu (f : State → State) (s : State) (h : s.did.released = true) : (whenReleased f s).lcu = (f s).lcu := by
  rw [whenReleased_rest f s h]
@[simp] theorem whenReleased_mem (f : State → State) (s : State) (h : s.did.released = true) : (whenReleased f s).mem = (f s).mem := by
  rw [whenReleased_rest f s h]
@[simp] theorem whenReleased_free (f : State → State) (s : State) (h : s.did.released = true) : (whenReleased f s).free = (f s).free := by
  rw [whenReleased_rest f s h]
@[simp] theorem whenReleased_pending (f : State → State) (s : State) (h : s.did.released = true) : (whenReleased f s).pending = (f s).pending := by
  rw [whenReleased_rest f s h]
@[simp] theorem whenReleased_att_of (f : State → State) (s : State) (p : Port) (r : s.did.released = true) :
    ((whenReleased f s).slice p).att = ((f s).slice p).att := by
  have h := congrArg Slice.att (whenReleased_noPhase f s p r); exact h
@[simp] theorem whenReleased_pd_of (f : State → State) (s : State) (p : Port) (r : s.did.released = true) :
    ((whenReleased f s).slice p).pd = ((f s).slice p).pd := by
  have h := congrArg Slice.pd (whenReleased_noPhase f s p r); exact h
@[simp] theorem whenReleased_off_of (f : State → State) (s : State) (p : Port) (r : s.did.released = true) :
    ((whenReleased f s).slice p).off = ((f s).slice p).off := by
  have h := congrArg Slice.off (whenReleased_noPhase f s p r); exact h
@[simp] theorem whenReleased_mb_of (f : State → State) (s : State) (p : Port) (r : s.did.released = true) :
    ((whenReleased f s).slice p).mb = ((f s).slice p).mb := by
  have h := congrArg Slice.mb (whenReleased_noPhase f s p r); exact h
@[simp] theorem whenReleased_sw_of (f : State → State) (s : State) (p : Port) (r : s.did.released = true) :
    ((whenReleased f s).slice p).sw = ((f s).slice p).sw := by
  have h := congrArg Slice.sw (whenReleased_noPhase f s p r); exact h
@[simp] theorem whenReleased_pr_of (f : State → State) (s : State) (p : Port) (r : s.did.released = true) :
    ((whenReleased f s).slice p).pr = ((f s).slice p).pr := by
  have h := congrArg Slice.pr (whenReleased_noPhase f s p r); exact h
@[simp] theorem whenReleased_gr_of (f : State → State) (s : State) (p : Port) (r : s.did.released = true) :
    ((whenReleased f s).slice p).gr = ((f s).slice p).gr := by
  have h := congrArg Slice.gr (whenReleased_noPhase f s p r); exact h
@[simp] theorem whenReleased_pins_of (f : State → State) (s : State) (p : Port) (r : s.did.released = true) :
    ((whenReleased f s).slice p).pins = ((f s).slice p).pins := by
  have h := congrArg Slice.pins (whenReleased_noPhase f s p r); exact h
@[simp] theorem whenReleased_th_of (f : State → State) (s : State) (p : Port) (r : s.did.released = true) :
    ((whenReleased f s).slice p).th = ((f s).slice p).th := by
  have h := congrArg Slice.th (whenReleased_noPhase f s p r); exact h
@[simp] theorem whenReleased_snap_of (f : State → State) (s : State) (p : Port) (r : s.did.released = true) :
    ((whenReleased f s).slice p).snap = ((f s).slice p).snap := by
  have h := congrArg Slice.snap (whenReleased_noPhase f s p r); exact h
@[simp] theorem whenReleased_hold_of (f : State → State) (s : State) (p : Port) (r : s.did.released = true) :
    ((whenReleased f s).slice p).hold = ((f s).slice p).hold := by
  have h := congrArg Slice.hold (whenReleased_noPhase f s p r); exact h
@[simp] theorem whenReleased_ps_pwmcfg (f : State → State) (s : State) (p : Port) (r : s.did.released = true) :
    ((whenReleased f s).slice p).ps.pwmcfg = ((f s).slice p).ps.pwmcfg := by
  have h := congrArg (fun x : Slice => x.ps.pwmcfg) (whenReleased_noPhase f s p r); exact h
@[simp] theorem whenReleased_ps_pwmlim (f : State → State) (s : State) (p : Port) (r : s.did.released = true) :
    ((whenReleased f s).slice p).ps.pwmlim = ((f s).slice p).ps.pwmlim := by
  have h := congrArg (fun x : Slice => x.ps.pwmlim) (whenReleased_noPhase f s p r); exact h
@[simp] theorem whenReleased_ps_cmpb0 (f : State → State) (s : State) (p : Port) (r : s.did.released = true) :
    ((whenReleased f s).slice p).ps.cmpb0 = ((f s).slice p).ps.cmpb0 := by
  have h := congrArg (fun x : Slice => x.ps.cmpb0) (whenReleased_noPhase f s p r); exact h
@[simp] theorem whenReleased_ps_cmpb1 (f : State → State) (s : State) (p : Port) (r : s.did.released = true) :
    ((whenReleased f s).slice p).ps.cmpb1 = ((f s).slice p).ps.cmpb1 := by
  have h := congrArg (fun x : Slice => x.ps.cmpb1) (whenReleased_noPhase f s p r); exact h
@[simp] theorem whenReleased_ps_pscfg (f : State → State) (s : State) (p : Port) (r : s.did.released = true) :
    ((whenReleased f s).slice p).ps.pscfg = ((f s).slice p).ps.pscfg := by
  have h := congrArg (fun x : Slice => x.ps.pscfg) (whenReleased_noPhase f s p r); exact h
@[simp] theorem whenReleased_ps_pwmofs (f : State → State) (s : State) (p : Port) (r : s.did.released = true) :
    ((whenReleased f s).slice p).ps.pwmofs = ((f s).slice p).ps.pwmofs := by
  have h := congrArg (fun x : Slice => x.ps.pwmofs) (whenReleased_noPhase f s p r); exact h
@[simp] theorem whenReleased_ps_psstat (f : State → State) (s : State) (p : Port) (r : s.did.released = true) :
    ((whenReleased f s).slice p).ps.psstat = ((f s).slice p).ps.psstat := by
  have h := congrArg (fun x : Slice => x.ps.psstat) (whenReleased_noPhase f s p r); exact h
@[simp] theorem whenReleased_ps_festat (f : State → State) (s : State) (p : Port) (r : s.did.released = true) :
    ((whenReleased f s).slice p).ps.festat = ((f s).slice p).ps.festat := by
  have h := congrArg (fun x : Slice => x.ps.festat) (whenReleased_noPhase f s p r); exact h
@[simp] theorem whenReleased_ps_feres (f : State → State) (s : State) (p : Port) (r : s.did.released = true) :
    ((whenReleased f s).slice p).ps.feres = ((f s).slice p).ps.feres := by
  have h := congrArg (fun x : Slice => x.ps.feres) (whenReleased_noPhase f s p r); exact h
@[simp] theorem whenReleased_ps_fevolt (f : State → State) (s : State) (p : Port) (r : s.did.released = true) :
    ((whenReleased f s).slice p).ps.fevolt = ((f s).slice p).ps.fevolt := by
  have h := congrArg (fun x : Slice => x.ps.fevolt) (whenReleased_noPhase f s p r); exact h
@[simp] theorem whenReleased_ps_tlmV (f : State → State) (s : State) (p : Port) (r : s.did.released = true) :
    ((whenReleased f s).slice p).ps.tlmV = ((f s).slice p).ps.tlmV := by
  have h := congrArg (fun x : Slice => x.ps.tlmV) (whenReleased_noPhase f s p r); exact h
@[simp] theorem whenReleased_ps_tlmI (f : State → State) (s : State) (p : Port) (r : s.did.released = true) :
    ((whenReleased f s).slice p).ps.tlmI = ((f s).slice p).ps.tlmI := by
  have h := congrArg (fun x : Slice => x.ps.tlmI) (whenReleased_noPhase f s p r); exact h
@[simp] theorem whenReleased_ps_psctl (f : State → State) (s : State) (p : Port) (r : s.did.released = true) :
    ((whenReleased f s).slice p).ps.psctl = ((f s).slice p).ps.psctl := by
  have h := congrArg (fun x : Slice => x.ps.psctl) (whenReleased_noPhase f s p r); exact h
@[simp] theorem whenReleased_ps_eno (f : State → State) (s : State) (p : Port) (r : s.did.released = true) :
    ((whenReleased f s).slice p).ps.eno = ((f s).slice p).ps.eno := by
  have h := congrArg (fun x : Slice => x.ps.eno) (whenReleased_noPhase f s p r); exact h
@[simp] theorem whenReleased_ps_eni (f : State → State) (s : State) (p : Port) (r : s.did.released = true) :
    ((whenReleased f s).slice p).ps.eni = ((f s).slice p).ps.eni := by
  have h := congrArg (fun x : Slice => x.ps.eni) (whenReleased_noPhase f s p r); exact h
@[simp] theorem whenReleased_ps_enoRes (f : State → State) (s : State) (p : Port) (r : s.did.released = true) :
    ((whenReleased f s).slice p).ps.enoRes = ((f s).slice p).ps.enoRes := by
  have h := congrArg (fun x : Slice => x.ps.enoRes) (whenReleased_noPhase f s p r); exact h
@[simp] theorem whenReleased_ps_eniRes (f : State → State) (s : State) (p : Port) (r : s.did.released = true) :
    ((whenReleased f s).slice p).ps.eniRes = ((f s).slice p).ps.eniRes := by
  have h := congrArg (fun x : Slice => x.ps.eniRes) (whenReleased_noPhase f s p r); exact h
@[simp] theorem whenReleased_ps_vset (f : State → State) (s : State) (p : Port) (r : s.did.released = true) :
    ((whenReleased f s).slice p).ps.vset = ((f s).slice p).ps.vset := by
  have h := congrArg (fun x : Slice => x.ps.vset) (whenReleased_noPhase f s p r); exact h
@[simp] theorem whenReleased_ps_vref (f : State → State) (s : State) (p : Port) (r : s.did.released = true) :
    ((whenReleased f s).slice p).ps.vref = ((f s).slice p).ps.vref := by
  have h := congrArg (fun x : Slice => x.ps.vref) (whenReleased_noPhase f s p r); exact h
@[simp] theorem whenReleased_ps_u1 (f : State → State) (s : State) (p : Port) (r : s.did.released = true) :
    ((whenReleased f s).slice p).ps.u1 = ((f s).slice p).ps.u1 := by
  have h := congrArg (fun x : Slice => x.ps.u1) (whenReleased_noPhase f s p r); exact h
@[simp] theorem whenReleased_ps_u2 (f : State → State) (s : State) (p : Port) (r : s.did.released = true) :
    ((whenReleased f s).slice p).ps.u2 = ((f s).slice p).ps.u2 := by
  have h := congrArg (fun x : Slice => x.ps.u2) (whenReleased_noPhase f s p r); exact h
@[simp] theorem whenReleased_ps_e1 (f : State → State) (s : State) (p : Port) (r : s.did.released = true) :
    ((whenReleased f s).slice p).ps.e1 = ((f s).slice p).ps.e1 := by
  have h := congrArg (fun x : Slice => x.ps.e1) (whenReleased_noPhase f s p r); exact h
@[simp] theorem whenReleased_ps_e2 (f : State → State) (s : State) (p : Port) (r : s.did.released = true) :
    ((whenReleased f s).slice p).ps.e2 = ((f s).slice p).ps.e2 := by
  have h := congrArg (fun x : Slice => x.ps.e2) (whenReleased_noPhase f s p r); exact h
@[simp] theorem whenReleased_ps_steps (f : State → State) (s : State) (p : Port) (r : s.did.released = true) :
    ((whenReleased f s).slice p).ps.steps = ((f s).slice p).ps.steps := by
  have h := congrArg (fun x : Slice => x.ps.steps) (whenReleased_noPhase f s p r); exact h
@[simp] theorem whenReleased_ps_vpre (f : State → State) (s : State) (p : Port) (r : s.did.released = true) :
    ((whenReleased f s).slice p).ps.vpre = ((f s).slice p).ps.vpre := by
  have h := congrArg (fun x : Slice => x.ps.vpre) (whenReleased_noPhase f s p r); exact h
@[simp] theorem whenReleased_ps_periods (f : State → State) (s : State) (p : Port) (r : s.did.released = true) :
    ((whenReleased f s).slice p).ps.periods = ((f s).slice p).ps.periods := by
  have h := congrArg (fun x : Slice => x.ps.periods) (whenReleased_noPhase f s p r); exact h
@[simp] theorem whenReleased_ps_fbFresh (f : State → State) (s : State) (p : Port) (r : s.did.released = true) :
    ((whenReleased f s).slice p).ps.fbFresh = ((f s).slice p).ps.fbFresh := by
  have h := congrArg (fun x : Slice => x.ps.fbFresh) (whenReleased_noPhase f s p r); exact h
@[simp] theorem whenReleased_ps_phase (f : State → State) (s : State) (p : Port) (r : s.did.released = true) :
    ((whenReleased f s).slice p).ps.phase = ((f s).slice p).ps.phase := by
  have h := congrArg (fun x : Slice => x.ps.phase) (whenReleased_noPhase f s p r); exact h
@[simp] theorem whenReleased_ps_swapStart (f : State → State) (s : State) (p : Port) (r : s.did.released = true) :
    ((whenReleased f s).slice p).ps.swapStart = ((f s).slice p).ps.swapStart := by
  have h := congrArg (fun x : Slice => x.ps.swapStart) (whenReleased_noPhase f s p r); exact h
@[simp] theorem whenReleased_ps_startHeld (f : State → State) (s : State) (p : Port) (r : s.did.released = true) :
    ((whenReleased f s).slice p).ps.startHeld = ((f s).slice p).ps.startHeld := by
  have h := congrArg (fun x : Slice => x.ps.startHeld) (whenReleased_noPhase f s p r); exact h
@[simp] theorem whenReleased_ps_feSamples (f : State → State) (s : State) (p : Port) (r : s.did.released = true) :
    ((whenReleased f s).slice p).ps.feSamples = ((f s).slice p).ps.feSamples := by
  have h := congrArg (fun x : Slice => x.ps.feSamples) (whenReleased_noPhase f s p r); exact h
@[simp] theorem whenReleased_ps_fePrevI (f : State → State) (s : State) (p : Port) (r : s.did.released = true) :
    ((whenReleased f s).slice p).ps.fePrevI = ((f s).slice p).ps.fePrevI := by
  have h := congrArg (fun x : Slice => x.ps.fePrevI) (whenReleased_noPhase f s p r); exact h
@[simp] theorem whenReleased_ps_feFrozen (f : State → State) (s : State) (p : Port) (r : s.did.released = true) :
    ((whenReleased f s).slice p).ps.feFrozen = ((f s).slice p).ps.feFrozen := by
  have h := congrArg (fun x : Slice => x.ps.feFrozen) (whenReleased_noPhase f s p r); exact h
@[simp] theorem whenReleased_ps_feCx (f : State → State) (s : State) (p : Port) (r : s.did.released = true) :
    ((whenReleased f s).slice p).ps.feCx = ((f s).slice p).ps.feCx := by
  have h := congrArg (fun x : Slice => x.ps.feCx) (whenReleased_noPhase f s p r); exact h
@[simp] theorem whenReleased_ps_feQuiet (f : State → State) (s : State) (p : Port) (r : s.did.released = true) :
    ((whenReleased f s).slice p).ps.feQuiet = ((f s).slice p).ps.feQuiet := by
  have h := congrArg (fun x : Slice => x.ps.feQuiet) (whenReleased_noPhase f s p r); exact h
@[simp] theorem whenReleased_ps_feBad (f : State → State) (s : State) (p : Port) (r : s.did.released = true) :
    ((whenReleased f s).slice p).ps.feBad = ((f s).slice p).ps.feBad := by
  have h := congrArg (fun x : Slice => x.ps.feBad) (whenReleased_noPhase f s p r); exact h

end Sys2Proof.Machine
end

