-- ==== Sys2Proof/Laws/Slices.lean ====
section
/-!
SUPPORT. What the operations on a slice leave alone, one lemma for each block, register or field.
-/

namespace Sys2Proof.Machine


/-! `Slice.refresh` -/

@[simp] theorem refresh_off (x : Slice) : x.refresh.off = x.off := rfl
@[simp] theorem refresh_mb (x : Slice) : x.refresh.mb = x.mb := rfl
@[simp] theorem refresh_ps (x : Slice) : x.refresh.ps = x.ps := rfl
@[simp] theorem refresh_sw (x : Slice) : x.refresh.sw = x.sw := rfl
@[simp] theorem refresh_pr (x : Slice) : x.refresh.pr = x.pr := rfl
@[simp] theorem refresh_gr (x : Slice) : x.refresh.gr = x.gr := rfl
@[simp] theorem refresh_pins (x : Slice) : x.refresh.pins = x.pins := rfl
@[simp] theorem refresh_th (x : Slice) : x.refresh.th = x.th := rfl
@[simp] theorem refresh_snap (x : Slice) : x.refresh.snap = x.snap := rfl
@[simp] theorem refresh_hold (x : Slice) : x.refresh.hold = x.hold := rfl

/-! `Slice.transmit` -/

@[simp] theorem transmit_att (x : Slice) : x.transmit.att = x.att := by
  unfold Slice.transmit; (repeat' split) <;> rfl
@[simp] theorem transmit_off (x : Slice) : x.transmit.off = x.off := by
  unfold Slice.transmit; (repeat' split) <;> rfl
@[simp] theorem transmit_ps (x : Slice) : x.transmit.ps = x.ps := by
  unfold Slice.transmit; (repeat' split) <;> rfl
@[simp] theorem transmit_sw (x : Slice) : x.transmit.sw = x.sw := by
  unfold Slice.transmit; (repeat' split) <;> rfl
@[simp] theorem transmit_pr (x : Slice) : x.transmit.pr = x.pr := by
  unfold Slice.transmit; (repeat' split) <;> rfl
@[simp] theorem transmit_gr (x : Slice) : x.transmit.gr = x.gr := by
  unfold Slice.transmit; (repeat' split) <;> rfl
@[simp] theorem transmit_pins (x : Slice) : x.transmit.pins = x.pins := by
  unfold Slice.transmit; (repeat' split) <;> rfl
@[simp] theorem transmit_th (x : Slice) : x.transmit.th = x.th := by
  unfold Slice.transmit; (repeat' split) <;> rfl
@[simp] theorem transmit_snap (x : Slice) : x.transmit.snap = x.snap := by
  unfold Slice.transmit; (repeat' split) <;> rfl
@[simp] theorem transmit_hold (x : Slice) : x.transmit.hold = x.hold := by
  unfold Slice.transmit; (repeat' split) <;> rfl

/-! `Slice.pump` -/

@[simp] theorem pump_off (x : Slice) : x.pump.off = x.off := by
  simp only [Slice.pump, Slice.pump, Slice.transmit, Slice.openIsog, Slice.sink, SlicePs.fbBack]; (repeat' split) <;> rfl
@[simp] theorem pump_ps (x : Slice) : x.pump.ps = x.ps := by
  simp only [Slice.pump, Slice.pump, Slice.transmit, Slice.openIsog, Slice.sink, SlicePs.fbBack]; (repeat' split) <;> rfl
@[simp] theorem pump_sw (x : Slice) : x.pump.sw = x.sw := by
  simp only [Slice.pump, Slice.pump, Slice.transmit, Slice.openIsog, Slice.sink, SlicePs.fbBack]; (repeat' split) <;> rfl
@[simp] theorem pump_pr (x : Slice) : x.pump.pr = x.pr := by
  simp only [Slice.pump, Slice.pump, Slice.transmit, Slice.openIsog, Slice.sink, SlicePs.fbBack]; (repeat' split) <;> rfl
@[simp] theorem pump_gr (x : Slice) : x.pump.gr = x.gr := by
  simp only [Slice.pump, Slice.pump, Slice.transmit, Slice.openIsog, Slice.sink, SlicePs.fbBack]; (repeat' split) <;> rfl
@[simp] theorem pump_pins (x : Slice) : x.pump.pins = x.pins := by
  simp only [Slice.pump, Slice.pump, Slice.transmit, Slice.openIsog, Slice.sink, SlicePs.fbBack]; (repeat' split) <;> rfl
@[simp] theorem pump_th (x : Slice) : x.pump.th = x.th := by
  simp only [Slice.pump, Slice.pump, Slice.transmit, Slice.openIsog, Slice.sink, SlicePs.fbBack]; (repeat' split) <;> rfl
@[simp] theorem pump_snap (x : Slice) : x.pump.snap = x.snap := by
  simp only [Slice.pump, Slice.pump, Slice.transmit, Slice.openIsog, Slice.sink, SlicePs.fbBack]; (repeat' split) <;> rfl
@[simp] theorem pump_hold (x : Slice) : x.pump.hold = x.hold := by
  simp only [Slice.pump, Slice.pump, Slice.transmit, Slice.openIsog, Slice.sink, SlicePs.fbBack]; (repeat' split) <;> rfl

/-! `Slice.endOwn` -/

@[simp] theorem endOwn_off (x : Slice) : x.endOwn.off = x.off := by
  simp only [Slice.endOwn, Slice.pump, Slice.transmit, Slice.openIsog, Slice.sink, SlicePs.fbBack]; (repeat' split) <;> rfl
@[simp] theorem endOwn_ps (x : Slice) : x.endOwn.ps = x.ps := by
  simp only [Slice.endOwn, Slice.pump, Slice.transmit, Slice.openIsog, Slice.sink, SlicePs.fbBack]; (repeat' split) <;> rfl
@[simp] theorem endOwn_sw (x : Slice) : x.endOwn.sw = x.sw := by
  simp only [Slice.endOwn, Slice.pump, Slice.transmit, Slice.openIsog, Slice.sink, SlicePs.fbBack]; (repeat' split) <;> rfl
@[simp] theorem endOwn_pr (x : Slice) : x.endOwn.pr = x.pr := by
  simp only [Slice.endOwn, Slice.pump, Slice.transmit, Slice.openIsog, Slice.sink, SlicePs.fbBack]; (repeat' split) <;> rfl
@[simp] theorem endOwn_gr (x : Slice) : x.endOwn.gr = x.gr := by
  simp only [Slice.endOwn, Slice.pump, Slice.transmit, Slice.openIsog, Slice.sink, SlicePs.fbBack]; (repeat' split) <;> rfl
@[simp] theorem endOwn_pins (x : Slice) : x.endOwn.pins = x.pins := by
  simp only [Slice.endOwn, Slice.pump, Slice.transmit, Slice.openIsog, Slice.sink, SlicePs.fbBack]; (repeat' split) <;> rfl
@[simp] theorem endOwn_th (x : Slice) : x.endOwn.th = x.th := by
  simp only [Slice.endOwn, Slice.pump, Slice.transmit, Slice.openIsog, Slice.sink, SlicePs.fbBack]; (repeat' split) <;> rfl
@[simp] theorem endOwn_snap (x : Slice) : x.endOwn.snap = x.snap := by
  simp only [Slice.endOwn, Slice.pump, Slice.transmit, Slice.openIsog, Slice.sink, SlicePs.fbBack]; (repeat' split) <;> rfl
@[simp] theorem endOwn_hold (x : Slice) : x.endOwn.hold = x.hold := by
  simp only [Slice.endOwn, Slice.pump, Slice.transmit, Slice.openIsog, Slice.sink, SlicePs.fbBack]; (repeat' split) <;> rfl

/-! `Slice.endPartner` -/

@[simp] theorem endPartner_off (x : Slice) : x.endPartner.off = x.off := by
  simp only [Slice.endPartner, Slice.pump, Slice.transmit, Slice.openIsog, Slice.sink, SlicePs.fbBack]; (repeat' split) <;> rfl
@[simp] theorem endPartner_ps (x : Slice) : x.endPartner.ps = x.ps := by
  simp only [Slice.endPartner, Slice.pump, Slice.transmit, Slice.openIsog, Slice.sink, SlicePs.fbBack]; (repeat' split) <;> rfl
@[simp] theorem endPartner_sw (x : Slice) : x.endPartner.sw = x.sw := by
  simp only [Slice.endPartner, Slice.pump, Slice.transmit, Slice.openIsog, Slice.sink, SlicePs.fbBack]; (repeat' split) <;> rfl
@[simp] theorem endPartner_pr (x : Slice) : x.endPartner.pr = x.pr := by
  simp only [Slice.endPartner, Slice.pump, Slice.transmit, Slice.openIsog, Slice.sink, SlicePs.fbBack]; (repeat' split) <;> rfl
@[simp] theorem endPartner_gr (x : Slice) : x.endPartner.gr = x.gr := by
  simp only [Slice.endPartner, Slice.pump, Slice.transmit, Slice.openIsog, Slice.sink, SlicePs.fbBack]; (repeat' split) <;> rfl
@[simp] theorem endPartner_pins (x : Slice) : x.endPartner.pins = x.pins := by
  simp only [Slice.endPartner, Slice.pump, Slice.transmit, Slice.openIsog, Slice.sink, SlicePs.fbBack]; (repeat' split) <;> rfl
@[simp] theorem endPartner_th (x : Slice) : x.endPartner.th = x.th := by
  simp only [Slice.endPartner, Slice.pump, Slice.transmit, Slice.openIsog, Slice.sink, SlicePs.fbBack]; (repeat' split) <;> rfl
@[simp] theorem endPartner_snap (x : Slice) : x.endPartner.snap = x.snap := by
  simp only [Slice.endPartner, Slice.pump, Slice.transmit, Slice.openIsog, Slice.sink, SlicePs.fbBack]; (repeat' split) <;> rfl
@[simp] theorem endPartner_hold (x : Slice) : x.endPartner.hold = x.hold := by
  simp only [Slice.endPartner, Slice.pump, Slice.transmit, Slice.openIsog, Slice.sink, SlicePs.fbBack]; (repeat' split) <;> rfl

/-! `Slice.resetCtx` -/

@[simp] theorem resetCtx_att (c : Ctx) (k : BitVec 4) (x : Slice) : (Slice.resetCtx c k x).att = x.att := rfl
@[simp] theorem resetCtx_off (c : Ctx) (k : BitVec 4) (x : Slice) : (Slice.resetCtx c k x).off = x.off := rfl
@[simp] theorem resetCtx_ps (c : Ctx) (k : BitVec 4) (x : Slice) : (Slice.resetCtx c k x).ps = x.ps := rfl
@[simp] theorem resetCtx_sw (c : Ctx) (k : BitVec 4) (x : Slice) : (Slice.resetCtx c k x).sw = x.sw := rfl
@[simp] theorem resetCtx_pr (c : Ctx) (k : BitVec 4) (x : Slice) : (Slice.resetCtx c k x).pr = x.pr := rfl
@[simp] theorem resetCtx_gr (c : Ctx) (k : BitVec 4) (x : Slice) : (Slice.resetCtx c k x).gr = x.gr := rfl
@[simp] theorem resetCtx_pins (c : Ctx) (k : BitVec 4) (x : Slice) : (Slice.resetCtx c k x).pins = x.pins := rfl
@[simp] theorem resetCtx_th (c : Ctx) (k : BitVec 4) (x : Slice) : (Slice.resetCtx c k x).th = x.th := rfl
@[simp] theorem resetCtx_snap (c : Ctx) (k : BitVec 4) (x : Slice) : (Slice.resetCtx c k x).snap = x.snap := rfl
@[simp] theorem resetCtx_hold (c : Ctx) (k : BitVec 4) (x : Slice) : (Slice.resetCtx c k x).hold = x.hold := rfl

/-! `Slice.clearContract` -/

@[simp] theorem clearContract_att (x : Slice) : x.clearContract.att = x.att := rfl
@[simp] theorem clearContract_mb (x : Slice) : x.clearContract.mb = x.mb := rfl
@[simp] theorem clearContract_pr (x : Slice) : x.clearContract.pr = x.pr := rfl
@[simp] theorem clearContract_gr (x : Slice) : x.clearContract.gr = x.gr := rfl
@[simp] theorem clearContract_pins (x : Slice) : x.clearContract.pins = x.pins := rfl
@[simp] theorem clearContract_th (x : Slice) : x.clearContract.th = x.th := rfl
@[simp] theorem clearContract_snap (x : Slice) : x.clearContract.snap = x.snap := rfl
@[simp] theorem clearContract_hold (x : Slice) : x.clearContract.hold = x.hold := rfl

/-! `Slice.endChange` -/

@[simp] theorem endChange_att (k : BitVec 3) (x : Slice) : (Slice.endChange k x).att = x.att := by
  unfold Slice.endChange; (repeat' split) <;> rfl
@[simp] theorem endChange_pd (k : BitVec 3) (x : Slice) : (Slice.endChange k x).pd = x.pd := by
  unfold Slice.endChange; (repeat' split) <;> rfl
@[simp] theorem endChange_mb (k : BitVec 3) (x : Slice) : (Slice.endChange k x).mb = x.mb := by
  unfold Slice.endChange; (repeat' split) <;> rfl
@[simp] theorem endChange_sw (k : BitVec 3) (x : Slice) : (Slice.endChange k x).sw = x.sw := by
  unfold Slice.endChange; (repeat' split) <;> rfl
@[simp] theorem endChange_pr (k : BitVec 3) (x : Slice) : (Slice.endChange k x).pr = x.pr := by
  unfold Slice.endChange; (repeat' split) <;> rfl
@[simp] theorem endChange_gr (k : BitVec 3) (x : Slice) : (Slice.endChange k x).gr = x.gr := by
  unfold Slice.endChange; (repeat' split) <;> rfl
@[simp] theorem endChange_pins (k : BitVec 3) (x : Slice) : (Slice.endChange k x).pins = x.pins := by
  unfold Slice.endChange; (repeat' split) <;> rfl
@[simp] theorem endChange_th (k : BitVec 3) (x : Slice) : (Slice.endChange k x).th = x.th := by
  unfold Slice.endChange; (repeat' split) <;> rfl
@[simp] theorem endChange_snap (k : BitVec 3) (x : Slice) : (Slice.endChange k x).snap = x.snap := by
  unfold Slice.endChange; (repeat' split) <;> rfl
@[simp] theorem endChange_hold (k : BitVec 3) (x : Slice) : (Slice.endChange k x).hold = x.hold := by
  unfold Slice.endChange; (repeat' split) <;> rfl

/-! `Slice.endSwap` -/

@[simp] theorem endSwap_att (k : BitVec 3) (x : Slice) : (Slice.endSwap k x).att = x.att := rfl
@[simp] theorem endSwap_pd (k : BitVec 3) (x : Slice) : (Slice.endSwap k x).pd = x.pd := rfl
@[simp] theorem endSwap_off (k : BitVec 3) (x : Slice) : (Slice.endSwap k x).off = x.off := rfl
@[simp] theorem endSwap_mb (k : BitVec 3) (x : Slice) : (Slice.endSwap k x).mb = x.mb := rfl
@[simp] theorem endSwap_ps (k : BitVec 3) (x : Slice) : (Slice.endSwap k x).ps = x.ps := rfl
@[simp] theorem endSwap_pr (k : BitVec 3) (x : Slice) : (Slice.endSwap k x).pr = x.pr := rfl
@[simp] theorem endSwap_gr (k : BitVec 3) (x : Slice) : (Slice.endSwap k x).gr = x.gr := rfl
@[simp] theorem endSwap_pins (k : BitVec 3) (x : Slice) : (Slice.endSwap k x).pins = x.pins := rfl
@[simp] theorem endSwap_th (k : BitVec 3) (x : Slice) : (Slice.endSwap k x).th = x.th := rfl
@[simp] theorem endSwap_snap (k : BitVec 3) (x : Slice) : (Slice.endSwap k x).snap = x.snap := rfl
@[simp] theorem endSwap_hold (k : BitVec 3) (x : Slice) : (Slice.endSwap k x).hold = x.hold := rfl

/-! `Slice.vconnOpen` -/

@[simp] theorem vconnOpen_pd (x : Slice) : x.vconnOpen.pd = x.pd := by
  unfold Slice.vconnOpen; (repeat' split) <;> rfl
@[simp] theorem vconnOpen_off (x : Slice) : x.vconnOpen.off = x.off := by
  unfold Slice.vconnOpen; (repeat' split) <;> rfl
@[simp] theorem vconnOpen_mb (x : Slice) : x.vconnOpen.mb = x.mb := by
  unfold Slice.vconnOpen; (repeat' split) <;> rfl
@[simp] theorem vconnOpen_ps (x : Slice) : x.vconnOpen.ps = x.ps := by
  unfold Slice.vconnOpen; (repeat' split) <;> rfl
@[simp] theorem vconnOpen_sw (x : Slice) : x.vconnOpen.sw = x.sw := by
  unfold Slice.vconnOpen; (repeat' split) <;> rfl
@[simp] theorem vconnOpen_pr (x : Slice) : x.vconnOpen.pr = x.pr := by
  unfold Slice.vconnOpen; (repeat' split) <;> rfl
@[simp] theorem vconnOpen_gr (x : Slice) : x.vconnOpen.gr = x.gr := by
  unfold Slice.vconnOpen; (repeat' split) <;> rfl
@[simp] theorem vconnOpen_th (x : Slice) : x.vconnOpen.th = x.th := by
  unfold Slice.vconnOpen; (repeat' split) <;> rfl
@[simp] theorem vconnOpen_snap (x : Slice) : x.vconnOpen.snap = x.snap := by
  unfold Slice.vconnOpen; (repeat' split) <;> rfl
@[simp] theorem vconnOpen_hold (x : Slice) : x.vconnOpen.hold = x.hold := by
  unfold Slice.vconnOpen; (repeat' split) <;> rfl

/-! `Slice.vconnClose` -/

@[simp] theorem vconnClose_off (b : Bool) (x : Slice) : (Slice.vconnClose b x).off = x.off := by
  unfold Slice.vconnClose; (repeat' split) <;> rfl
@[simp] theorem vconnClose_mb (b : Bool) (x : Slice) : (Slice.vconnClose b x).mb = x.mb := by
  unfold Slice.vconnClose; (repeat' split) <;> rfl
@[simp] theorem vconnClose_ps (b : Bool) (x : Slice) : (Slice.vconnClose b x).ps = x.ps := by
  unfold Slice.vconnClose; (repeat' split) <;> rfl
@[simp] theorem vconnClose_sw (b : Bool) (x : Slice) : (Slice.vconnClose b x).sw = x.sw := by
  unfold Slice.vconnClose; (repeat' split) <;> rfl
@[simp] theorem vconnClose_pr (b : Bool) (x : Slice) : (Slice.vconnClose b x).pr = x.pr := by
  unfold Slice.vconnClose; (repeat' split) <;> rfl
@[simp] theorem vconnClose_gr (b : Bool) (x : Slice) : (Slice.vconnClose b x).gr = x.gr := by
  unfold Slice.vconnClose; (repeat' split) <;> rfl
@[simp] theorem vconnClose_pins (b : Bool) (x : Slice) : (Slice.vconnClose b x).pins = x.pins := by
  unfold Slice.vconnClose; (repeat' split) <;> rfl
@[simp] theorem vconnClose_th (b : Bool) (x : Slice) : (Slice.vconnClose b x).th = x.th := by
  unfold Slice.vconnClose; (repeat' split) <;> rfl
@[simp] theorem vconnClose_snap (b : Bool) (x : Slice) : (Slice.vconnClose b x).snap = x.snap := by
  unfold Slice.vconnClose; (repeat' split) <;> rfl
@[simp] theorem vconnClose_hold (b : Bool) (x : Slice) : (Slice.vconnClose b x).hold = x.hold := by
  unfold Slice.vconnClose; (repeat' split) <;> rfl

/-! `Slice.sink` -/

@[simp] theorem sink_att (x : Slice) : x.sink.att = x.att := rfl
@[simp] theorem sink_pd (x : Slice) : x.sink.pd = x.pd := rfl
@[simp] theorem sink_off (x : Slice) : x.sink.off = x.off := rfl
@[simp] theorem sink_mb (x : Slice) : x.sink.mb = x.mb := rfl
@[simp] theorem sink_ps (x : Slice) : x.sink.ps = x.ps := rfl
@[simp] theorem sink_sw (x : Slice) : x.sink.sw = x.sw := rfl
@[simp] theorem sink_pr (x : Slice) : x.sink.pr = x.pr := rfl
@[simp] theorem sink_gr (x : Slice) : x.sink.gr = x.gr := rfl
@[simp] theorem sink_th (x : Slice) : x.sink.th = x.th := rfl
@[simp] theorem sink_snap (x : Slice) : x.sink.snap = x.snap := rfl
@[simp] theorem sink_hold (x : Slice) : x.sink.hold = x.hold := rfl

/-! `Slice.openIsog` -/

@[simp] theorem openIsog_att (x : Slice) : x.openIsog.att = x.att := rfl
@[simp] theorem openIsog_pd (x : Slice) : x.openIsog.pd = x.pd := rfl
@[simp] theorem openIsog_off (x : Slice) : x.openIsog.off = x.off := rfl
@[simp] theorem openIsog_mb (x : Slice) : x.openIsog.mb = x.mb := rfl
@[simp] theorem openIsog_sw (x : Slice) : x.openIsog.sw = x.sw := rfl
@[simp] theorem openIsog_gr (x : Slice) : x.openIsog.gr = x.gr := rfl
@[simp] theorem openIsog_th (x : Slice) : x.openIsog.th = x.th := rfl
@[simp] theorem openIsog_snap (x : Slice) : x.openIsog.snap = x.snap := rfl
@[simp] theorem openIsog_hold (x : Slice) : x.openIsog.hold = x.hold := rfl

/-! `Slice.stopConv` -/

@[simp] theorem stopConv_att (x : Slice) : x.stopConv.att = x.att := rfl
@[simp] theorem stopConv_pd (x : Slice) : x.stopConv.pd = x.pd := rfl
@[simp] theorem stopConv_off (x : Slice) : x.stopConv.off = x.off := rfl
@[simp] theorem stopConv_mb (x : Slice) : x.stopConv.mb = x.mb := rfl
@[simp] theorem stopConv_sw (x : Slice) : x.stopConv.sw = x.sw := rfl
@[simp] theorem stopConv_gr (x : Slice) : x.stopConv.gr = x.gr := rfl
@[simp] theorem stopConv_th (x : Slice) : x.stopConv.th = x.th := rfl
@[simp] theorem stopConv_snap (x : Slice) : x.stopConv.snap = x.snap := rfl
@[simp] theorem stopConv_hold (x : Slice) : x.stopConv.hold = x.hold := rfl

/-! `Slice.powerOff` -/

@[simp] theorem powerOff_att (x : Slice) : x.powerOff.att = x.att := rfl
@[simp] theorem powerOff_pd (x : Slice) : x.powerOff.pd = x.pd := rfl
@[simp] theorem powerOff_off (x : Slice) : x.powerOff.off = x.off := rfl
@[simp] theorem powerOff_mb (x : Slice) : x.powerOff.mb = x.mb := rfl
@[simp] theorem powerOff_sw (x : Slice) : x.powerOff.sw = x.sw := rfl
@[simp] theorem powerOff_gr (x : Slice) : x.powerOff.gr = x.gr := rfl
@[simp] theorem powerOff_th (x : Slice) : x.powerOff.th = x.th := rfl
@[simp] theorem powerOff_snap (x : Slice) : x.powerOff.snap = x.snap := rfl
@[simp] theorem powerOff_hold (x : Slice) : x.powerOff.hold = x.hold := rfl

/-! `Slice.rampDown` -/

@[simp] theorem rampDown_att (x : Slice) : x.rampDown.att = x.att := rfl
@[simp] theorem rampDown_pd (x : Slice) : x.rampDown.pd = x.pd := rfl
@[simp] theorem rampDown_off (x : Slice) : x.rampDown.off = x.off := rfl
@[simp] theorem rampDown_mb (x : Slice) : x.rampDown.mb = x.mb := rfl
@[simp] theorem rampDown_sw (x : Slice) : x.rampDown.sw = x.sw := rfl
@[simp] theorem rampDown_gr (x : Slice) : x.rampDown.gr = x.gr := rfl
@[simp] theorem rampDown_th (x : Slice) : x.rampDown.th = x.th := rfl
@[simp] theorem rampDown_snap (x : Slice) : x.rampDown.snap = x.snap := rfl
@[simp] theorem rampDown_hold (x : Slice) : x.rampDown.hold = x.hold := rfl

/-! `Slice.beginStart` -/

@[simp] theorem beginStart_att (x : Slice) : x.beginStart.att = x.att := rfl
@[simp] theorem beginStart_pd (x : Slice) : x.beginStart.pd = x.pd := rfl
@[simp] theorem beginStart_off (x : Slice) : x.beginStart.off = x.off := rfl
@[simp] theorem beginStart_mb (x : Slice) : x.beginStart.mb = x.mb := rfl
@[simp] theorem beginStart_sw (x : Slice) : x.beginStart.sw = x.sw := rfl
@[simp] theorem beginStart_pr (x : Slice) : x.beginStart.pr = x.pr := rfl
@[simp] theorem beginStart_gr (x : Slice) : x.beginStart.gr = x.gr := rfl
@[simp] theorem beginStart_th (x : Slice) : x.beginStart.th = x.th := rfl
@[simp] theorem beginStart_snap (x : Slice) : x.beginStart.snap = x.snap := rfl
@[simp] theorem beginStart_hold (x : Slice) : x.beginStart.hold = x.hold := rfl

/-! `Slice.enter` -/

@[simp] theorem enter_off (st : BitVec 4) (x : Slice) : (Slice.enter st x).off = x.off := rfl
@[simp] theorem enter_mb (st : BitVec 4) (x : Slice) : (Slice.enter st x).mb = x.mb := rfl
@[simp] theorem enter_ps (st : BitVec 4) (x : Slice) : (Slice.enter st x).ps = x.ps := rfl
@[simp] theorem enter_sw (st : BitVec 4) (x : Slice) : (Slice.enter st x).sw = x.sw := rfl
@[simp] theorem enter_pr (st : BitVec 4) (x : Slice) : (Slice.enter st x).pr = x.pr := rfl
@[simp] theorem enter_gr (st : BitVec 4) (x : Slice) : (Slice.enter st x).gr = x.gr := rfl
@[simp] theorem enter_th (st : BitVec 4) (x : Slice) : (Slice.enter st x).th = x.th := rfl
@[simp] theorem enter_snap (st : BitVec 4) (x : Slice) : (Slice.enter st x).snap = x.snap := rfl
@[simp] theorem enter_hold (st : BitVec 4) (x : Slice) : (Slice.enter st x).hold = x.hold := rfl

/-! `Slice.unattached` -/

@[simp] theorem unattached_off (x : Slice) : x.unattached.off = x.off := rfl
@[simp] theorem unattached_mb (x : Slice) : x.unattached.mb = x.mb := rfl
@[simp] theorem unattached_ps (x : Slice) : x.unattached.ps = x.ps := rfl
@[simp] theorem unattached_sw (x : Slice) : x.unattached.sw = x.sw := rfl
@[simp] theorem unattached_pr (x : Slice) : x.unattached.pr = x.pr := rfl
@[simp] theorem unattached_gr (x : Slice) : x.unattached.gr = x.gr := rfl
@[simp] theorem unattached_th (x : Slice) : x.unattached.th = x.th := rfl
@[simp] theorem unattached_snap (x : Slice) : x.unattached.snap = x.snap := rfl
@[simp] theorem unattached_hold (x : Slice) : x.unattached.hold = x.hold := rfl

/-! `Slice.refresh` -/

@[simp] theorem refresh_att_attcfg (x : Slice) : x.refresh.att.attcfg = x.att.attcfg := rfl
@[simp] theorem refresh_att_ccmeas (x : Slice) : x.refresh.att.ccmeas = x.att.ccmeas := rfl
@[simp] theorem refresh_att_vconn (x : Slice) : x.refresh.att.vconn = x.att.vconn := rfl
@[simp] theorem refresh_att_attctl (x : Slice) : x.refresh.att.attctl = x.att.attctl := rfl
@[simp] theorem refresh_att_c1 (x : Slice) : x.refresh.att.c1 = x.att.c1 := rfl
@[simp] theorem refresh_att_c2 (x : Slice) : x.refresh.att.c2 = x.att.c2 := rfl
@[simp] theorem refresh_att_rp1 (x : Slice) : x.refresh.att.rp1 = x.att.rp1 := rfl
@[simp] theorem refresh_att_rp2 (x : Slice) : x.refresh.att.rp2 = x.att.rp2 := rfl
@[simp] theorem refresh_att_rpHeld (x : Slice) : x.refresh.att.rpHeld = x.att.rpHeld := rfl
@[simp] theorem refresh_att_tryDone (x : Slice) : x.refresh.att.tryDone = x.att.tryDone := rfl
@[simp] theorem refresh_att_vconnLow (x : Slice) : x.refresh.att.vconnLow = x.att.vconnLow := rfl
@[simp] theorem refresh_att_detaching (x : Slice) : x.refresh.att.detaching = x.att.detaching := rfl
@[simp] theorem refresh_att_vbusMv (x : Slice) : x.refresh.att.vbusMv = x.att.vbusMv := rfl
@[simp] theorem refresh_pd_pdcfg (x : Slice) : x.refresh.pd.pdcfg = x.pd.pdcfg := rfl
@[simp] theorem refresh_pd_pdcnt (x : Slice) : x.refresh.pd.pdcnt = x.pd.pdcnt := rfl
@[simp] theorem refresh_pd_pdctl (x : Slice) : x.refresh.pd.pdctl = x.pd.pdctl := rfl
@[simp] theorem refresh_pd_cblVdo (x : Slice) : x.refresh.pd.cblVdo = x.pd.cblVdo := rfl
@[simp] theorem refresh_pd_cblVdo2 (x : Slice) : x.refresh.pd.cblVdo2 = x.pd.cblVdo2 := rfl
@[simp] theorem refresh_pd_cblId (x : Slice) : x.refresh.pd.cblId = x.pd.cblId := rfl
@[simp] theorem refresh_pd_cblStat (x : Slice) : x.refresh.pd.cblStat = x.pd.cblStat := rfl
@[simp] theorem refresh_pd_txId (x : Slice) : x.refresh.pd.txId = x.pd.txId := rfl
@[simp] theorem refresh_pd_rxId (x : Slice) : x.refresh.pd.rxId = x.pd.rxId := rfl
@[simp] theorem refresh_pd_rxBuf (x : Slice) : x.refresh.pd.rxBuf = x.pd.rxBuf := rfl
@[simp] theorem refresh_pd_goodCrc (x : Slice) : x.refresh.pd.goodCrc = x.pd.goodCrc := rfl
@[simp] theorem refresh_pd_ready (x : Slice) : x.refresh.pd.ready = x.pd.ready := rfl
@[simp] theorem refresh_pd_restart (x : Slice) : x.refresh.pd.restart = x.pd.restart := rfl
@[simp] theorem refresh_pd_inflight (x : Slice) : x.refresh.pd.inflight = x.pd.inflight := rfl
@[simp] theorem refresh_pd_retries (x : Slice) : x.refresh.pd.retries = x.pd.retries := rfl
@[simp] theorem refresh_pd_waitReply (x : Slice) : x.refresh.pd.waitReply = x.pd.waitReply := rfl
@[simp] theorem refresh_pd_partnerAms (x : Slice) : x.refresh.pd.partnerAms = x.pd.partnerAms := rfl
@[simp] theorem refresh_pd_ownOpen (x : Slice) : x.refresh.pd.ownOpen = x.pd.ownOpen := rfl
@[simp] theorem refresh_pd_hrSent (x : Slice) : x.refresh.pd.hrSent = x.pd.hrSent := rfl
@[simp] theorem refresh_pd_hadContract (x : Slice) : x.refresh.pd.hadContract = x.pd.hadContract := rfl
@[simp] theorem refresh_pd_conSince (x : Slice) : x.refresh.pd.conSince = x.pd.conSince := rfl
@[simp] theorem refresh_pd_capsTries (x : Slice) : x.refresh.pd.capsTries = x.pd.capsTries := rfl
@[simp] theorem refresh_pd_capsSent (x : Slice) : x.refresh.pd.capsSent = x.pd.capsSent := rfl
@[simp] theorem refresh_pd_discovering (x : Slice) : x.refresh.pd.discovering = x.pd.discovering := rfl
@[simp] theorem refresh_pd_discEnded (x : Slice) : x.refresh.pd.discEnded = x.pd.discEnded := rfl
@[simp] theorem refresh_pd_discSop2 (x : Slice) : x.refresh.pd.discSop2 = x.pd.discSop2 := rfl
@[simp] theorem refresh_pd_hrPhase (x : Slice) : x.refresh.pd.hrPhase = x.pd.hrPhase := rfl
@[simp] theorem refresh_pd_hrWait (x : Slice) : x.refresh.pd.hrWait = x.pd.hrWait := rfl
@[simp] theorem refresh_pd_unchkOffered (x : Slice) : x.refresh.pd.unchkOffered = x.pd.unchkOffered := rfl
@[simp] theorem refresh_pd_chunkRx (x : Slice) : x.refresh.pd.chunkRx = x.pd.chunkRx := rfl
@[simp] theorem refresh_pd_chunkTx (x : Slice) : x.refresh.pd.chunkTx = x.pd.chunkTx := rfl
@[simp] theorem refresh_pd_bistCarrier (x : Slice) : x.refresh.pd.bistCarrier = x.pd.bistCarrier := rfl
@[simp] theorem refresh_pd_busyCount (x : Slice) : x.refresh.pd.busyCount = x.pd.busyCount := rfl

/-! `Slice.transmit` -/

@[simp] theorem transmit_pd_pdcfg (x : Slice) : x.transmit.pd.pdcfg = x.pd.pdcfg := by
  unfold Slice.transmit; (repeat' split) <;> rfl
@[simp] theorem transmit_pd_pdstat (x : Slice) : x.transmit.pd.pdstat = x.pd.pdstat := by
  unfold Slice.transmit; (repeat' split) <;> rfl
@[simp] theorem transmit_pd_pdcnt (x : Slice) : x.transmit.pd.pdcnt = x.pd.pdcnt := by
  unfold Slice.transmit; (repeat' split) <;> rfl
@[simp] theorem transmit_pd_pdctl (x : Slice) : x.transmit.pd.pdctl = x.pd.pdctl := by
  unfold Slice.transmit; (repeat' split) <;> rfl
@[simp] theorem transmit_pd_cblVdo (x : Slice) : x.transmit.pd.cblVdo = x.pd.cblVdo := by
  unfold Slice.transmit; (repeat' split) <;> rfl
@[simp] theorem transmit_pd_cblVdo2 (x : Slice) : x.transmit.pd.cblVdo2 = x.pd.cblVdo2 := by
  unfold Slice.transmit; (repeat' split) <;> rfl
@[simp] theorem transmit_pd_cblId (x : Slice) : x.transmit.pd.cblId = x.pd.cblId := by
  unfold Slice.transmit; (repeat' split) <;> rfl
@[simp] theorem transmit_pd_cblStat (x : Slice) : x.transmit.pd.cblStat = x.pd.cblStat := by
  unfold Slice.transmit; (repeat' split) <;> rfl
@[simp] theorem transmit_pd_txId (x : Slice) : x.transmit.pd.txId = x.pd.txId := by
  unfold Slice.transmit; (repeat' split) <;> rfl
@[simp] theorem transmit_pd_rxId (x : Slice) : x.transmit.pd.rxId = x.pd.rxId := by
  unfold Slice.transmit; (repeat' split) <;> rfl
@[simp] theorem transmit_pd_rxBuf (x : Slice) : x.transmit.pd.rxBuf = x.pd.rxBuf := by
  unfold Slice.transmit; (repeat' split) <;> rfl
@[simp] theorem transmit_pd_goodCrc (x : Slice) : x.transmit.pd.goodCrc = x.pd.goodCrc := by
  unfold Slice.transmit; (repeat' split) <;> rfl
@[simp] theorem transmit_pd_restart (x : Slice) : x.transmit.pd.restart = x.pd.restart := by
  unfold Slice.transmit; (repeat' split) <;> rfl
@[simp] theorem transmit_pd_ngHeld (x : Slice) : x.transmit.pd.ngHeld = x.pd.ngHeld := by
  unfold Slice.transmit; (repeat' split) <;> rfl
@[simp] theorem transmit_pd_waitReply (x : Slice) : x.transmit.pd.waitReply = x.pd.waitReply := by
  unfold Slice.transmit; (repeat' split) <;> rfl
@[simp] theorem transmit_pd_partnerAms (x : Slice) : x.transmit.pd.partnerAms = x.pd.partnerAms := by
  unfold Slice.transmit; (repeat' split) <;> rfl
@[simp] theorem transmit_pd_ownOpen (x : Slice) : x.transmit.pd.ownOpen = x.pd.ownOpen := by
  unfold Slice.transmit; (repeat' split) <;> rfl
@[simp] theorem transmit_pd_hrSent (x : Slice) : x.transmit.pd.hrSent = x.pd.hrSent := by
  unfold Slice.transmit; (repeat' split) <;> rfl
@[simp] theorem transmit_pd_hadContract (x : Slice) : x.transmit.pd.hadContract = x.pd.hadContract := by
  unfold Slice.transmit; (repeat' split) <;> rfl
@[simp] theorem transmit_pd_conSince (x : Slice) : x.transmit.pd.conSince = x.pd.conSince := by
  unfold Slice.transmit; (repeat' split) <;> rfl
@[simp] theorem transmit_pd_capsTries (x : Slice) : x.transmit.pd.capsTries = x.pd.capsTries := by
  unfold Slice.transmit; (repeat' split) <;> rfl
@[simp] theorem transmit_pd_capsSent (x : Slice) : x.transmit.pd.capsSent = x.pd.capsSent := by
  unfold Slice.transmit; (repeat' split) <;> rfl
@[simp] theorem transmit_pd_discovering (x : Slice) : x.transmit.pd.discovering = x.pd.discovering := by
  unfold Slice.transmit; (repeat' split) <;> rfl
@[simp] theorem transmit_pd_discEnded (x : Slice) : x.transmit.pd.discEnded = x.pd.discEnded := by
  unfold Slice.transmit; (repeat' split) <;> rfl
@[simp] theorem transmit_pd_discSop2 (x : Slice) : x.transmit.pd.discSop2 = x.pd.discSop2 := by
  unfold Slice.transmit; (repeat' split) <;> rfl
@[simp] theorem transmit_pd_hrPhase (x : Slice) : x.transmit.pd.hrPhase = x.pd.hrPhase := by
  unfold Slice.transmit; (repeat' split) <;> rfl
@[simp] theorem transmit_pd_hrWait (x : Slice) : x.transmit.pd.hrWait = x.pd.hrWait := by
  unfold Slice.transmit; (repeat' split) <;> rfl
@[simp] theorem transmit_pd_unchkOffered (x : Slice) : x.transmit.pd.unchkOffered = x.pd.unchkOffered := by
  unfold Slice.transmit; (repeat' split) <;> rfl
@[simp] theorem transmit_pd_chunkRx (x : Slice) : x.transmit.pd.chunkRx = x.pd.chunkRx := by
  unfold Slice.transmit; (repeat' split) <;> rfl
@[simp] theorem transmit_pd_chunkTx (x : Slice) : x.transmit.pd.chunkTx = x.pd.chunkTx := by
  unfold Slice.transmit; (repeat' split) <;> rfl
@[simp] theorem transmit_pd_bistCarrier (x : Slice) : x.transmit.pd.bistCarrier = x.pd.bistCarrier := by
  unfold Slice.transmit; (repeat' split) <;> rfl
@[simp] theorem transmit_pd_busyCount (x : Slice) : x.transmit.pd.busyCount = x.pd.busyCount := by
  unfold Slice.transmit; (repeat' split) <;> rfl
@[simp] theorem transmit_mb_ctx (x : Slice) : x.transmit.mb.ctx = x.mb.ctx := by
  unfold Slice.transmit; (repeat' split) <;> rfl
@[simp] theorem transmit_mb_len (x : Slice) : x.transmit.mb.len = x.mb.len := by
  unfold Slice.transmit; (repeat' split) <;> rfl
@[simp] theorem transmit_mb_txData (x : Slice) : x.transmit.mb.txData = x.mb.txData := by
  unfold Slice.transmit; (repeat' split) <;> rfl
@[simp] theorem transmit_mb_rxq (x : Slice) : x.transmit.mb.rxq = x.mb.rxq := by
  unfold Slice.transmit; (repeat' split) <;> rfl
@[simp] theorem transmit_mb_ovr (x : Slice) : x.transmit.mb.ovr = x.mb.ovr := by
  unfold Slice.transmit; (repeat' split) <;> rfl
@[simp] theorem transmit_mb_hrst (x : Slice) : x.transmit.mb.hrst = x.mb.hrst := by
  unfold Slice.transmit; (repeat' split) <;> rfl
@[simp] theorem transmit_mb_late (x : Slice) : x.transmit.mb.late = x.mb.late := by
  unfold Slice.transmit; (repeat' split) <;> rfl
@[simp] theorem transmit_mb_copyOn (x : Slice) : x.transmit.mb.copyOn = x.mb.copyOn := by
  unfold Slice.transmit; (repeat' split) <;> rfl
@[simp] theorem transmit_mb_hostAms (x : Slice) : x.transmit.mb.hostAms = x.mb.hostAms := by
  unfold Slice.transmit; (repeat' split) <;> rfl
@[simp] theorem transmit_mb_hostOwes (x : Slice) : x.transmit.mb.hostOwes = x.mb.hostOwes := by
  unfold Slice.transmit; (repeat' split) <;> rfl

/-! `Slice.pump` -/

@[simp] theorem pump_att_attcfg (x : Slice) : x.pump.att.attcfg = x.att.attcfg := by
  simp only [Slice.pump, Slice.pump, Slice.transmit, Slice.openIsog, Slice.sink, SlicePs.fbBack]; (repeat' split) <;> rfl
@[simp] theorem pump_att_ccmeas (x : Slice) : x.pump.att.ccmeas = x.att.ccmeas := by
  simp only [Slice.pump, Slice.pump, Slice.transmit, Slice.openIsog, Slice.sink, SlicePs.fbBack]; (repeat' split) <;> rfl
@[simp] theorem pump_att_vconn (x : Slice) : x.pump.att.vconn = x.att.vconn := by
  simp only [Slice.pump, Slice.pump, Slice.transmit, Slice.openIsog, Slice.sink, SlicePs.fbBack]; (repeat' split) <;> rfl
@[simp] theorem pump_att_attctl (x : Slice) : x.pump.att.attctl = x.att.attctl := by
  simp only [Slice.pump, Slice.pump, Slice.transmit, Slice.openIsog, Slice.sink, SlicePs.fbBack]; (repeat' split) <;> rfl
@[simp] theorem pump_att_c1 (x : Slice) : x.pump.att.c1 = x.att.c1 := by
  simp only [Slice.pump, Slice.pump, Slice.transmit, Slice.openIsog, Slice.sink, SlicePs.fbBack]; (repeat' split) <;> rfl
@[simp] theorem pump_att_c2 (x : Slice) : x.pump.att.c2 = x.att.c2 := by
  simp only [Slice.pump, Slice.pump, Slice.transmit, Slice.openIsog, Slice.sink, SlicePs.fbBack]; (repeat' split) <;> rfl
@[simp] theorem pump_att_rp1 (x : Slice) : x.pump.att.rp1 = x.att.rp1 := by
  simp only [Slice.pump, Slice.pump, Slice.transmit, Slice.openIsog, Slice.sink, SlicePs.fbBack]; (repeat' split) <;> rfl
@[simp] theorem pump_att_rp2 (x : Slice) : x.pump.att.rp2 = x.att.rp2 := by
  simp only [Slice.pump, Slice.pump, Slice.transmit, Slice.openIsog, Slice.sink, SlicePs.fbBack]; (repeat' split) <;> rfl
@[simp] theorem pump_att_rpHeld (x : Slice) : x.pump.att.rpHeld = x.att.rpHeld := by
  simp only [Slice.pump, Slice.pump, Slice.transmit, Slice.openIsog, Slice.sink, SlicePs.fbBack]; (repeat' split) <;> rfl
@[simp] theorem pump_att_tryDone (x : Slice) : x.pump.att.tryDone = x.att.tryDone := by
  simp only [Slice.pump, Slice.pump, Slice.transmit, Slice.openIsog, Slice.sink, SlicePs.fbBack]; (repeat' split) <;> rfl
@[simp] theorem pump_att_vconnLow (x : Slice) : x.pump.att.vconnLow = x.att.vconnLow := by
  simp only [Slice.pump, Slice.pump, Slice.transmit, Slice.openIsog, Slice.sink, SlicePs.fbBack]; (repeat' split) <;> rfl
@[simp] theorem pump_att_detaching (x : Slice) : x.pump.att.detaching = x.att.detaching := by
  simp only [Slice.pump, Slice.pump, Slice.transmit, Slice.openIsog, Slice.sink, SlicePs.fbBack]; (repeat' split) <;> rfl
@[simp] theorem pump_att_vbusMv (x : Slice) : x.pump.att.vbusMv = x.att.vbusMv := by
  simp only [Slice.pump, Slice.pump, Slice.transmit, Slice.openIsog, Slice.sink, SlicePs.fbBack]; (repeat' split) <;> rfl
@[simp] theorem pump_pd_pdcfg (x : Slice) : x.pump.pd.pdcfg = x.pd.pdcfg := by
  simp only [Slice.pump, Slice.pump, Slice.transmit, Slice.openIsog, Slice.sink, SlicePs.fbBack]; (repeat' split) <;> rfl
@[simp] theorem pump_pd_pdcnt (x : Slice) : x.pump.pd.pdcnt = x.pd.pdcnt := by
  simp only [Slice.pump, Slice.pump, Slice.transmit, Slice.openIsog, Slice.sink, SlicePs.fbBack]; (repeat' split) <;> rfl
@[simp] theorem pump_pd_pdctl (x : Slice) : x.pump.pd.pdctl = x.pd.pdctl := by
  simp only [Slice.pump, Slice.pump, Slice.transmit, Slice.openIsog, Slice.sink, SlicePs.fbBack]; (repeat' split) <;> rfl
@[simp] theorem pump_pd_cblVdo (x : Slice) : x.pump.pd.cblVdo = x.pd.cblVdo := by
  simp only [Slice.pump, Slice.pump, Slice.transmit, Slice.openIsog, Slice.sink, SlicePs.fbBack]; (repeat' split) <;> rfl
@[simp] theorem pump_pd_cblVdo2 (x : Slice) : x.pump.pd.cblVdo2 = x.pd.cblVdo2 := by
  simp only [Slice.pump, Slice.pump, Slice.transmit, Slice.openIsog, Slice.sink, SlicePs.fbBack]; (repeat' split) <;> rfl
@[simp] theorem pump_pd_cblId (x : Slice) : x.pump.pd.cblId = x.pd.cblId := by
  simp only [Slice.pump, Slice.pump, Slice.transmit, Slice.openIsog, Slice.sink, SlicePs.fbBack]; (repeat' split) <;> rfl
@[simp] theorem pump_pd_cblStat (x : Slice) : x.pump.pd.cblStat = x.pd.cblStat := by
  simp only [Slice.pump, Slice.pump, Slice.transmit, Slice.openIsog, Slice.sink, SlicePs.fbBack]; (repeat' split) <;> rfl
@[simp] theorem pump_pd_txId (x : Slice) : x.pump.pd.txId = x.pd.txId := by
  simp only [Slice.pump, Slice.pump, Slice.transmit, Slice.openIsog, Slice.sink, SlicePs.fbBack]; (repeat' split) <;> rfl
@[simp] theorem pump_pd_rxId (x : Slice) : x.pump.pd.rxId = x.pd.rxId := by
  simp only [Slice.pump, Slice.pump, Slice.transmit, Slice.openIsog, Slice.sink, SlicePs.fbBack]; (repeat' split) <;> rfl
@[simp] theorem pump_pd_rxBuf (x : Slice) : x.pump.pd.rxBuf = x.pd.rxBuf := by
  simp only [Slice.pump, Slice.pump, Slice.transmit, Slice.openIsog, Slice.sink, SlicePs.fbBack]; (repeat' split) <;> rfl
@[simp] theorem pump_pd_goodCrc (x : Slice) : x.pump.pd.goodCrc = x.pd.goodCrc := by
  simp only [Slice.pump, Slice.pump, Slice.transmit, Slice.openIsog, Slice.sink, SlicePs.fbBack]; (repeat' split) <;> rfl
@[simp] theorem pump_pd_restart (x : Slice) : x.pump.pd.restart = x.pd.restart := by
  simp only [Slice.pump, Slice.pump, Slice.transmit, Slice.openIsog, Slice.sink, SlicePs.fbBack]; (repeat' split) <;> rfl
@[simp] theorem pump_pd_waitReply (x : Slice) : x.pump.pd.waitReply = x.pd.waitReply := by
  simp only [Slice.pump, Slice.pump, Slice.transmit, Slice.openIsog, Slice.sink, SlicePs.fbBack]; (repeat' split) <;> rfl
@[simp] theorem pump_pd_partnerAms (x : Slice) : x.pump.pd.partnerAms = x.pd.partnerAms := by
  simp only [Slice.pump, Slice.pump, Slice.transmit, Slice.openIsog, Slice.sink, SlicePs.fbBack]; (repeat' split) <;> rfl
@[simp] theorem pump_pd_ownOpen (x : Slice) : x.pump.pd.ownOpen = x.pd.ownOpen := by
  simp only [Slice.pump, Slice.pump, Slice.transmit, Slice.openIsog, Slice.sink, SlicePs.fbBack]; (repeat' split) <;> rfl
@[simp] theorem pump_pd_hrSent (x : Slice) : x.pump.pd.hrSent = x.pd.hrSent := by
  simp only [Slice.pump, Slice.pump, Slice.transmit, Slice.openIsog, Slice.sink, SlicePs.fbBack]; (repeat' split) <;> rfl
@[simp] theorem pump_pd_hadContract (x : Slice) : x.pump.pd.hadContract = x.pd.hadContract := by
  simp only [Slice.pump, Slice.pump, Slice.transmit, Slice.openIsog, Slice.sink, SlicePs.fbBack]; (repeat' split) <;> rfl
@[simp] theorem pump_pd_conSince (x : Slice) : x.pump.pd.conSince = x.pd.conSince := by
  simp only [Slice.pump, Slice.pump, Slice.transmit, Slice.openIsog, Slice.sink, SlicePs.fbBack]; (repeat' split) <;> rfl
@[simp] theorem pump_pd_capsTries (x : Slice) : x.pump.pd.capsTries = x.pd.capsTries := by
  simp only [Slice.pump, Slice.pump, Slice.transmit, Slice.openIsog, Slice.sink, SlicePs.fbBack]; (repeat' split) <;> rfl
@[simp] theorem pump_pd_capsSent (x : Slice) : x.pump.pd.capsSent = x.pd.capsSent := by
  simp only [Slice.pump, Slice.pump, Slice.transmit, Slice.openIsog, Slice.sink, SlicePs.fbBack]; (repeat' split) <;> rfl
@[simp] theorem pump_pd_discovering (x : Slice) : x.pump.pd.discovering = x.pd.discovering := by
  simp only [Slice.pump, Slice.pump, Slice.transmit, Slice.openIsog, Slice.sink, SlicePs.fbBack]; (repeat' split) <;> rfl
@[simp] theorem pump_pd_discEnded (x : Slice) : x.pump.pd.discEnded = x.pd.discEnded := by
  simp only [Slice.pump, Slice.pump, Slice.transmit, Slice.openIsog, Slice.sink, SlicePs.fbBack]; (repeat' split) <;> rfl
@[simp] theorem pump_pd_discSop2 (x : Slice) : x.pump.pd.discSop2 = x.pd.discSop2 := by
  simp only [Slice.pump, Slice.pump, Slice.transmit, Slice.openIsog, Slice.sink, SlicePs.fbBack]; (repeat' split) <;> rfl
@[simp] theorem pump_pd_hrPhase (x : Slice) : x.pump.pd.hrPhase = x.pd.hrPhase := by
  simp only [Slice.pump, Slice.pump, Slice.transmit, Slice.openIsog, Slice.sink, SlicePs.fbBack]; (repeat' split) <;> rfl
@[simp] theorem pump_pd_hrWait (x : Slice) : x.pump.pd.hrWait = x.pd.hrWait := by
  simp only [Slice.pump, Slice.pump, Slice.transmit, Slice.openIsog, Slice.sink, SlicePs.fbBack]; (repeat' split) <;> rfl
@[simp] theorem pump_pd_unchkOffered (x : Slice) : x.pump.pd.unchkOffered = x.pd.unchkOffered := by
  simp only [Slice.pump, Slice.pump, Slice.transmit, Slice.openIsog, Slice.sink, SlicePs.fbBack]; (repeat' split) <;> rfl
@[simp] theorem pump_pd_chunkRx (x : Slice) : x.pump.pd.chunkRx = x.pd.chunkRx := by
  simp only [Slice.pump, Slice.pump, Slice.transmit, Slice.openIsog, Slice.sink, SlicePs.fbBack]; (repeat' split) <;> rfl
@[simp] theorem pump_pd_chunkTx (x : Slice) : x.pump.pd.chunkTx = x.pd.chunkTx := by
  simp only [Slice.pump, Slice.pump, Slice.transmit, Slice.openIsog, Slice.sink, SlicePs.fbBack]; (repeat' split) <;> rfl
@[simp] theorem pump_pd_bistCarrier (x : Slice) : x.pump.pd.bistCarrier = x.pd.bistCarrier := by
  simp only [Slice.pump, Slice.pump, Slice.transmit, Slice.openIsog, Slice.sink, SlicePs.fbBack]; (repeat' split) <;> rfl
@[simp] theorem pump_pd_busyCount (x : Slice) : x.pump.pd.busyCount = x.pd.busyCount := by
  simp only [Slice.pump, Slice.pump, Slice.transmit, Slice.openIsog, Slice.sink, SlicePs.fbBack]; (repeat' split) <;> rfl
@[simp] theorem pump_mb_ctx (x : Slice) : x.pump.mb.ctx = x.mb.ctx := by
  simp only [Slice.pump, Slice.pump, Slice.transmit, Slice.openIsog, Slice.sink, SlicePs.fbBack]; (repeat' split) <;> rfl
@[simp] theorem pump_mb_len (x : Slice) : x.pump.mb.len = x.mb.len := by
  simp only [Slice.pump, Slice.pump, Slice.transmit, Slice.openIsog, Slice.sink, SlicePs.fbBack]; (repeat' split) <;> rfl
@[simp] theorem pump_mb_txData (x : Slice) : x.pump.mb.txData = x.mb.txData := by
  simp only [Slice.pump, Slice.pump, Slice.transmit, Slice.openIsog, Slice.sink, SlicePs.fbBack]; (repeat' split) <;> rfl
@[simp] theorem pump_mb_rxq (x : Slice) : x.pump.mb.rxq = x.mb.rxq := by
  simp only [Slice.pump, Slice.pump, Slice.transmit, Slice.openIsog, Slice.sink, SlicePs.fbBack]; (repeat' split) <;> rfl
@[simp] theorem pump_mb_ovr (x : Slice) : x.pump.mb.ovr = x.mb.ovr := by
  simp only [Slice.pump, Slice.pump, Slice.transmit, Slice.openIsog, Slice.sink, SlicePs.fbBack]; (repeat' split) <;> rfl
@[simp] theorem pump_mb_hrst (x : Slice) : x.pump.mb.hrst = x.mb.hrst := by
  simp only [Slice.pump, Slice.pump, Slice.transmit, Slice.openIsog, Slice.sink, SlicePs.fbBack]; (repeat' split) <;> rfl
@[simp] theorem pump_mb_late (x : Slice) : x.pump.mb.late = x.mb.late := by
  simp only [Slice.pump, Slice.pump, Slice.transmit, Slice.openIsog, Slice.sink, SlicePs.fbBack]; (repeat' split) <;> rfl
@[simp] theorem pump_mb_copyOn (x : Slice) : x.pump.mb.copyOn = x.mb.copyOn := by
  simp only [Slice.pump, Slice.pump, Slice.transmit, Slice.openIsog, Slice.sink, SlicePs.fbBack]; (repeat' split) <;> rfl
@[simp] theorem pump_mb_hostAms (x : Slice) : x.pump.mb.hostAms = x.mb.hostAms := by
  simp only [Slice.pump, Slice.pump, Slice.transmit, Slice.openIsog, Slice.sink, SlicePs.fbBack]; (repeat' split) <;> rfl
@[simp] theorem pump_mb_hostOwes (x : Slice) : x.pump.mb.hostOwes = x.mb.hostOwes := by
  simp only [Slice.pump, Slice.pump, Slice.transmit, Slice.openIsog, Slice.sink, SlicePs.fbBack]; (repeat' split) <;> rfl

/-! `Slice.endOwn` -/

@[simp] theorem endOwn_att_attcfg (x : Slice) : x.endOwn.att.attcfg = x.att.attcfg := by
  simp only [Slice.endOwn, Slice.pump, Slice.transmit, Slice.openIsog, Slice.sink, SlicePs.fbBack]; (repeat' split) <;> rfl
@[simp] theorem endOwn_att_ccmeas (x : Slice) : x.endOwn.att.ccmeas = x.att.ccmeas := by
  simp only [Slice.endOwn, Slice.pump, Slice.transmit, Slice.openIsog, Slice.sink, SlicePs.fbBack]; (repeat' split) <;> rfl
@[simp] theorem endOwn_att_vconn (x : Slice) : x.endOwn.att.vconn = x.att.vconn := by
  simp only [Slice.endOwn, Slice.pump, Slice.transmit, Slice.openIsog, Slice.sink, SlicePs.fbBack]; (repeat' split) <;> rfl
@[simp] theorem endOwn_att_attctl (x : Slice) : x.endOwn.att.attctl = x.att.attctl := by
  simp only [Slice.endOwn, Slice.pump, Slice.transmit, Slice.openIsog, Slice.sink, SlicePs.fbBack]; (repeat' split) <;> rfl
@[simp] theorem endOwn_att_c1 (x : Slice) : x.endOwn.att.c1 = x.att.c1 := by
  simp only [Slice.endOwn, Slice.pump, Slice.transmit, Slice.openIsog, Slice.sink, SlicePs.fbBack]; (repeat' split) <;> rfl
@[simp] theorem endOwn_att_c2 (x : Slice) : x.endOwn.att.c2 = x.att.c2 := by
  simp only [Slice.endOwn, Slice.pump, Slice.transmit, Slice.openIsog, Slice.sink, SlicePs.fbBack]; (repeat' split) <;> rfl
@[simp] theorem endOwn_att_rp1 (x : Slice) : x.endOwn.att.rp1 = x.att.rp1 := by
  simp only [Slice.endOwn, Slice.pump, Slice.transmit, Slice.openIsog, Slice.sink, SlicePs.fbBack]; (repeat' split) <;> rfl
@[simp] theorem endOwn_att_rp2 (x : Slice) : x.endOwn.att.rp2 = x.att.rp2 := by
  simp only [Slice.endOwn, Slice.pump, Slice.transmit, Slice.openIsog, Slice.sink, SlicePs.fbBack]; (repeat' split) <;> rfl
@[simp] theorem endOwn_att_rpHeld (x : Slice) : x.endOwn.att.rpHeld = x.att.rpHeld := by
  simp only [Slice.endOwn, Slice.pump, Slice.transmit, Slice.openIsog, Slice.sink, SlicePs.fbBack]; (repeat' split) <;> rfl
@[simp] theorem endOwn_att_tryDone (x : Slice) : x.endOwn.att.tryDone = x.att.tryDone := by
  simp only [Slice.endOwn, Slice.pump, Slice.transmit, Slice.openIsog, Slice.sink, SlicePs.fbBack]; (repeat' split) <;> rfl
@[simp] theorem endOwn_att_vconnLow (x : Slice) : x.endOwn.att.vconnLow = x.att.vconnLow := by
  simp only [Slice.endOwn, Slice.pump, Slice.transmit, Slice.openIsog, Slice.sink, SlicePs.fbBack]; (repeat' split) <;> rfl
@[simp] theorem endOwn_att_detaching (x : Slice) : x.endOwn.att.detaching = x.att.detaching := by
  simp only [Slice.endOwn, Slice.pump, Slice.transmit, Slice.openIsog, Slice.sink, SlicePs.fbBack]; (repeat' split) <;> rfl
@[simp] theorem endOwn_att_vbusMv (x : Slice) : x.endOwn.att.vbusMv = x.att.vbusMv := by
  simp only [Slice.endOwn, Slice.pump, Slice.transmit, Slice.openIsog, Slice.sink, SlicePs.fbBack]; (repeat' split) <;> rfl
@[simp] theorem endOwn_pd_pdcfg (x : Slice) : x.endOwn.pd.pdcfg = x.pd.pdcfg := by
  simp only [Slice.endOwn, Slice.pump, Slice.transmit, Slice.openIsog, Slice.sink, SlicePs.fbBack]; (repeat' split) <;> rfl
@[simp] theorem endOwn_pd_pdcnt (x : Slice) : x.endOwn.pd.pdcnt = x.pd.pdcnt := by
  simp only [Slice.endOwn, Slice.pump, Slice.transmit, Slice.openIsog, Slice.sink, SlicePs.fbBack]; (repeat' split) <;> rfl
@[simp] theorem endOwn_pd_pdctl (x : Slice) : x.endOwn.pd.pdctl = x.pd.pdctl := by
  simp only [Slice.endOwn, Slice.pump, Slice.transmit, Slice.openIsog, Slice.sink, SlicePs.fbBack]; (repeat' split) <;> rfl
@[simp] theorem endOwn_pd_cblVdo (x : Slice) : x.endOwn.pd.cblVdo = x.pd.cblVdo := by
  simp only [Slice.endOwn, Slice.pump, Slice.transmit, Slice.openIsog, Slice.sink, SlicePs.fbBack]; (repeat' split) <;> rfl
@[simp] theorem endOwn_pd_cblVdo2 (x : Slice) : x.endOwn.pd.cblVdo2 = x.pd.cblVdo2 := by
  simp only [Slice.endOwn, Slice.pump, Slice.transmit, Slice.openIsog, Slice.sink, SlicePs.fbBack]; (repeat' split) <;> rfl
@[simp] theorem endOwn_pd_cblId (x : Slice) : x.endOwn.pd.cblId = x.pd.cblId := by
  simp only [Slice.endOwn, Slice.pump, Slice.transmit, Slice.openIsog, Slice.sink, SlicePs.fbBack]; (repeat' split) <;> rfl
@[simp] theorem endOwn_pd_cblStat (x : Slice) : x.endOwn.pd.cblStat = x.pd.cblStat := by
  simp only [Slice.endOwn, Slice.pump, Slice.transmit, Slice.openIsog, Slice.sink, SlicePs.fbBack]; (repeat' split) <;> rfl
@[simp] theorem endOwn_pd_txId (x : Slice) : x.endOwn.pd.txId = x.pd.txId := by
  simp only [Slice.endOwn, Slice.pump, Slice.transmit, Slice.openIsog, Slice.sink, SlicePs.fbBack]; (repeat' split) <;> rfl
@[simp] theorem endOwn_pd_rxId (x : Slice) : x.endOwn.pd.rxId = x.pd.rxId := by
  simp only [Slice.endOwn, Slice.pump, Slice.transmit, Slice.openIsog, Slice.sink, SlicePs.fbBack]; (repeat' split) <;> rfl
@[simp] theorem endOwn_pd_rxBuf (x : Slice) : x.endOwn.pd.rxBuf = x.pd.rxBuf := by
  simp only [Slice.endOwn, Slice.pump, Slice.transmit, Slice.openIsog, Slice.sink, SlicePs.fbBack]; (repeat' split) <;> rfl
@[simp] theorem endOwn_pd_goodCrc (x : Slice) : x.endOwn.pd.goodCrc = x.pd.goodCrc := by
  simp only [Slice.endOwn, Slice.pump, Slice.transmit, Slice.openIsog, Slice.sink, SlicePs.fbBack]; (repeat' split) <;> rfl
@[simp] theorem endOwn_pd_restart (x : Slice) : x.endOwn.pd.restart = x.pd.restart := by
  simp only [Slice.endOwn, Slice.pump, Slice.transmit, Slice.openIsog, Slice.sink, SlicePs.fbBack]; (repeat' split) <;> rfl
@[simp] theorem endOwn_pd_partnerAms (x : Slice) : x.endOwn.pd.partnerAms = x.pd.partnerAms := by
  simp only [Slice.endOwn, Slice.pump, Slice.transmit, Slice.openIsog, Slice.sink, SlicePs.fbBack]; (repeat' split) <;> rfl
@[simp] theorem endOwn_pd_hrSent (x : Slice) : x.endOwn.pd.hrSent = x.pd.hrSent := by
  simp only [Slice.endOwn, Slice.pump, Slice.transmit, Slice.openIsog, Slice.sink, SlicePs.fbBack]; (repeat' split) <;> rfl
@[simp] theorem endOwn_pd_hadContract (x : Slice) : x.endOwn.pd.hadContract = x.pd.hadContract := by
  simp only [Slice.endOwn, Slice.pump, Slice.transmit, Slice.openIsog, Slice.sink, SlicePs.fbBack]; (repeat' split) <;> rfl
@[simp] theorem endOwn_pd_conSince (x : Slice) : x.endOwn.pd.conSince = x.pd.conSince := by
  simp only [Slice.endOwn, Slice.pump, Slice.transmit, Slice.openIsog, Slice.sink, SlicePs.fbBack]; (repeat' split) <;> rfl
@[simp] theorem endOwn_pd_capsTries (x : Slice) : x.endOwn.pd.capsTries = x.pd.capsTries := by
  simp only [Slice.endOwn, Slice.pump, Slice.transmit, Slice.openIsog, Slice.sink, SlicePs.fbBack]; (repeat' split) <;> rfl
@[simp] theorem endOwn_pd_capsSent (x : Slice) : x.endOwn.pd.capsSent = x.pd.capsSent := by
  simp only [Slice.endOwn, Slice.pump, Slice.transmit, Slice.openIsog, Slice.sink, SlicePs.fbBack]; (repeat' split) <;> rfl
@[simp] theorem endOwn_pd_discovering (x : Slice) : x.endOwn.pd.discovering = x.pd.discovering := by
  simp only [Slice.endOwn, Slice.pump, Slice.transmit, Slice.openIsog, Slice.sink, SlicePs.fbBack]; (repeat' split) <;> rfl
@[simp] theorem endOwn_pd_discEnded (x : Slice) : x.endOwn.pd.discEnded = x.pd.discEnded := by
  simp only [Slice.endOwn, Slice.pump, Slice.transmit, Slice.openIsog, Slice.sink, SlicePs.fbBack]; (repeat' split) <;> rfl
@[simp] theorem endOwn_pd_discSop2 (x : Slice) : x.endOwn.pd.discSop2 = x.pd.discSop2 := by
  simp only [Slice.endOwn, Slice.pump, Slice.transmit, Slice.openIsog, Slice.sink, SlicePs.fbBack]; (repeat' split) <;> rfl
@[simp] theorem endOwn_pd_hrPhase (x : Slice) : x.endOwn.pd.hrPhase = x.pd.hrPhase := by
  simp only [Slice.endOwn, Slice.pump, Slice.transmit, Slice.openIsog, Slice.sink, SlicePs.fbBack]; (repeat' split) <;> rfl
@[simp] theorem endOwn_pd_hrWait (x : Slice) : x.endOwn.pd.hrWait = x.pd.hrWait := by
  simp only [Slice.endOwn, Slice.pump, Slice.transmit, Slice.openIsog, Slice.sink, SlicePs.fbBack]; (repeat' split) <;> rfl
@[simp] theorem endOwn_pd_unchkOffered (x : Slice) : x.endOwn.pd.unchkOffered = x.pd.unchkOffered := by
  simp only [Slice.endOwn, Slice.pump, Slice.transmit, Slice.openIsog, Slice.sink, SlicePs.fbBack]; (repeat' split) <;> rfl
@[simp] theorem endOwn_pd_chunkRx (x : Slice) : x.endOwn.pd.chunkRx = x.pd.chunkRx := by
  simp only [Slice.endOwn, Slice.pump, Slice.transmit, Slice.openIsog, Slice.sink, SlicePs.fbBack]; (repeat' split) <;> rfl
@[simp] theorem endOwn_pd_chunkTx (x : Slice) : x.endOwn.pd.chunkTx = x.pd.chunkTx := by
  simp only [Slice.endOwn, Slice.pump, Slice.transmit, Slice.openIsog, Slice.sink, SlicePs.fbBack]; (repeat' split) <;> rfl
@[simp] theorem endOwn_pd_bistCarrier (x : Slice) : x.endOwn.pd.bistCarrier = x.pd.bistCarrier := by
  simp only [Slice.endOwn, Slice.pump, Slice.transmit, Slice.openIsog, Slice.sink, SlicePs.fbBack]; (repeat' split) <;> rfl
@[simp] theorem endOwn_pd_busyCount (x : Slice) : x.endOwn.pd.busyCount = x.pd.busyCount := by
  simp only [Slice.endOwn, Slice.pump, Slice.transmit, Slice.openIsog, Slice.sink, SlicePs.fbBack]; (repeat' split) <;> rfl
@[simp] theorem endOwn_mb_ctx (x : Slice) : x.endOwn.mb.ctx = x.mb.ctx := by
  simp only [Slice.endOwn, Slice.pump, Slice.transmit, Slice.openIsog, Slice.sink, SlicePs.fbBack]; (repeat' split) <;> rfl
@[simp] theorem endOwn_mb_len (x : Slice) : x.endOwn.mb.len = x.mb.len := by
  simp only [Slice.endOwn, Slice.pump, Slice.transmit, Slice.openIsog, Slice.sink, SlicePs.fbBack]; (repeat' split) <;> rfl
@[simp] theorem endOwn_mb_txData (x : Slice) : x.endOwn.mb.txData = x.mb.txData := by
  simp only [Slice.endOwn, Slice.pump, Slice.transmit, Slice.openIsog, Slice.sink, SlicePs.fbBack]; (repeat' split) <;> rfl
@[simp] theorem endOwn_mb_rxq (x : Slice) : x.endOwn.mb.rxq = x.mb.rxq := by
  simp only [Slice.endOwn, Slice.pump, Slice.transmit, Slice.openIsog, Slice.sink, SlicePs.fbBack]; (repeat' split) <;> rfl
@[simp] theorem endOwn_mb_ovr (x : Slice) : x.endOwn.mb.ovr = x.mb.ovr := by
  simp only [Slice.endOwn, Slice.pump, Slice.transmit, Slice.openIsog, Slice.sink, SlicePs.fbBack]; (repeat' split) <;> rfl
@[simp] theorem endOwn_mb_hrst (x : Slice) : x.endOwn.mb.hrst = x.mb.hrst := by
  simp only [Slice.endOwn, Slice.pump, Slice.transmit, Slice.openIsog, Slice.sink, SlicePs.fbBack]; (repeat' split) <;> rfl
@[simp] theorem endOwn_mb_late (x : Slice) : x.endOwn.mb.late = x.mb.late := by
  simp only [Slice.endOwn, Slice.pump, Slice.transmit, Slice.openIsog, Slice.sink, SlicePs.fbBack]; (repeat' split) <;> rfl
@[simp] theorem endOwn_mb_copyOn (x : Slice) : x.endOwn.mb.copyOn = x.mb.copyOn := by
  simp only [Slice.endOwn, Slice.pump, Slice.transmit, Slice.openIsog, Slice.sink, SlicePs.fbBack]; (repeat' split) <;> rfl
@[simp] theorem endOwn_mb_hostAms (x : Slice) : x.endOwn.mb.hostAms = x.mb.hostAms := by
  simp only [Slice.endOwn, Slice.pump, Slice.transmit, Slice.openIsog, Slice.sink, SlicePs.fbBack]; (repeat' split) <;> rfl
@[simp] theorem endOwn_mb_hostOwes (x : Slice) : x.endOwn.mb.hostOwes = x.mb.hostOwes := by
  simp only [Slice.endOwn, Slice.pump, Slice.transmit, Slice.openIsog, Slice.sink, SlicePs.fbBack]; (repeat' split) <;> rfl

/-! `Slice.endPartner` -/

@[simp] theorem endPartner_att_attcfg (x : Slice) : x.endPartner.att.attcfg = x.att.attcfg := by
  simp only [Slice.endPartner, Slice.pump, Slice.transmit, Slice.openIsog, Slice.sink, SlicePs.fbBack]; (repeat' split) <;> rfl
@[simp] theorem endPartner_att_ccmeas (x : Slice) : x.endPartner.att.ccmeas = x.att.ccmeas := by
  simp only [Slice.endPartner, Slice.pump, Slice.transmit, Slice.openIsog, Slice.sink, SlicePs.fbBack]; (repeat' split) <;> rfl
@[simp] theorem endPartner_att_vconn (x : Slice) : x.endPartner.att.vconn = x.att.vconn := by
  simp only [Slice.endPartner, Slice.pump, Slice.transmit, Slice.openIsog, Slice.sink, SlicePs.fbBack]; (repeat' split) <;> rfl
@[simp] theorem endPartner_att_attctl (x : Slice) : x.endPartner.att.attctl = x.att.attctl := by
  simp only [Slice.endPartner, Slice.pump, Slice.transmit, Slice.openIsog, Slice.sink, SlicePs.fbBack]; (repeat' split) <;> rfl
@[simp] theorem endPartner_att_c1 (x : Slice) : x.endPartner.att.c1 = x.att.c1 := by
  simp only [Slice.endPartner, Slice.pump, Slice.transmit, Slice.openIsog, Slice.sink, SlicePs.fbBack]; (repeat' split) <;> rfl
@[simp] theorem endPartner_att_c2 (x : Slice) : x.endPartner.att.c2 = x.att.c2 := by
  simp only [Slice.endPartner, Slice.pump, Slice.transmit, Slice.openIsog, Slice.sink, SlicePs.fbBack]; (repeat' split) <;> rfl
@[simp] theorem endPartner_att_rp1 (x : Slice) : x.endPartner.att.rp1 = x.att.rp1 := by
  simp only [Slice.endPartner, Slice.pump, Slice.transmit, Slice.openIsog, Slice.sink, SlicePs.fbBack]; (repeat' split) <;> rfl
@[simp] theorem endPartner_att_rp2 (x : Slice) : x.endPartner.att.rp2 = x.att.rp2 := by
  simp only [Slice.endPartner, Slice.pump, Slice.transmit, Slice.openIsog, Slice.sink, SlicePs.fbBack]; (repeat' split) <;> rfl
@[simp] theorem endPartner_att_rpHeld (x : Slice) : x.endPartner.att.rpHeld = x.att.rpHeld := by
  simp only [Slice.endPartner, Slice.pump, Slice.transmit, Slice.openIsog, Slice.sink, SlicePs.fbBack]; (repeat' split) <;> rfl
@[simp] theorem endPartner_att_tryDone (x : Slice) : x.endPartner.att.tryDone = x.att.tryDone := by
  simp only [Slice.endPartner, Slice.pump, Slice.transmit, Slice.openIsog, Slice.sink, SlicePs.fbBack]; (repeat' split) <;> rfl
@[simp] theorem endPartner_att_vconnLow (x : Slice) : x.endPartner.att.vconnLow = x.att.vconnLow := by
  simp only [Slice.endPartner, Slice.pump, Slice.transmit, Slice.openIsog, Slice.sink, SlicePs.fbBack]; (repeat' split) <;> rfl
@[simp] theorem endPartner_att_detaching (x : Slice) : x.endPartner.att.detaching = x.att.detaching := by
  simp only [Slice.endPartner, Slice.pump, Slice.transmit, Slice.openIsog, Slice.sink, SlicePs.fbBack]; (repeat' split) <;> rfl
@[simp] theorem endPartner_att_vbusMv (x : Slice) : x.endPartner.att.vbusMv = x.att.vbusMv := by
  simp only [Slice.endPartner, Slice.pump, Slice.transmit, Slice.openIsog, Slice.sink, SlicePs.fbBack]; (repeat' split) <;> rfl
@[simp] theorem endPartner_pd_pdcfg (x : Slice) : x.endPartner.pd.pdcfg = x.pd.pdcfg := by
  simp only [Slice.endPartner, Slice.pump, Slice.transmit, Slice.openIsog, Slice.sink, SlicePs.fbBack]; (repeat' split) <;> rfl
@[simp] theorem endPartner_pd_pdcnt (x : Slice) : x.endPartner.pd.pdcnt = x.pd.pdcnt := by
  simp only [Slice.endPartner, Slice.pump, Slice.transmit, Slice.openIsog, Slice.sink, SlicePs.fbBack]; (repeat' split) <;> rfl
@[simp] theorem endPartner_pd_pdctl (x : Slice) : x.endPartner.pd.pdctl = x.pd.pdctl := by
  simp only [Slice.endPartner, Slice.pump, Slice.transmit, Slice.openIsog, Slice.sink, SlicePs.fbBack]; (repeat' split) <;> rfl
@[simp] theorem endPartner_pd_cblVdo (x : Slice) : x.endPartner.pd.cblVdo = x.pd.cblVdo := by
  simp only [Slice.endPartner, Slice.pump, Slice.transmit, Slice.openIsog, Slice.sink, SlicePs.fbBack]; (repeat' split) <;> rfl
@[simp] theorem endPartner_pd_cblVdo2 (x : Slice) : x.endPartner.pd.cblVdo2 = x.pd.cblVdo2 := by
  simp only [Slice.endPartner, Slice.pump, Slice.transmit, Slice.openIsog, Slice.sink, SlicePs.fbBack]; (repeat' split) <;> rfl
@[simp] theorem endPartner_pd_cblId (x : Slice) : x.endPartner.pd.cblId = x.pd.cblId := by
  simp only [Slice.endPartner, Slice.pump, Slice.transmit, Slice.openIsog, Slice.sink, SlicePs.fbBack]; (repeat' split) <;> rfl
@[simp] theorem endPartner_pd_cblStat (x : Slice) : x.endPartner.pd.cblStat = x.pd.cblStat := by
  simp only [Slice.endPartner, Slice.pump, Slice.transmit, Slice.openIsog, Slice.sink, SlicePs.fbBack]; (repeat' split) <;> rfl
@[simp] theorem endPartner_pd_txId (x : Slice) : x.endPartner.pd.txId = x.pd.txId := by
  simp only [Slice.endPartner, Slice.pump, Slice.transmit, Slice.openIsog, Slice.sink, SlicePs.fbBack]; (repeat' split) <;> rfl
@[simp] theorem endPartner_pd_rxId (x : Slice) : x.endPartner.pd.rxId = x.pd.rxId := by
  simp only [Slice.endPartner, Slice.pump, Slice.transmit, Slice.openIsog, Slice.sink, SlicePs.fbBack]; (repeat' split) <;> rfl
@[simp] theorem endPartner_pd_rxBuf (x : Slice) : x.endPartner.pd.rxBuf = x.pd.rxBuf := by
  simp only [Slice.endPartner, Slice.pump, Slice.transmit, Slice.openIsog, Slice.sink, SlicePs.fbBack]; (repeat' split) <;> rfl
@[simp] theorem endPartner_pd_goodCrc (x : Slice) : x.endPartner.pd.goodCrc = x.pd.goodCrc := by
  simp only [Slice.endPartner, Slice.pump, Slice.transmit, Slice.openIsog, Slice.sink, SlicePs.fbBack]; (repeat' split) <;> rfl
@[simp] theorem endPartner_pd_waitReply (x : Slice) : x.endPartner.pd.waitReply = x.pd.waitReply := by
  simp only [Slice.endPartner, Slice.pump, Slice.transmit, Slice.openIsog, Slice.sink, SlicePs.fbBack]; (repeat' split) <;> rfl
@[simp] theorem endPartner_pd_ownOpen (x : Slice) : x.endPartner.pd.ownOpen = x.pd.ownOpen := by
  simp only [Slice.endPartner, Slice.pump, Slice.transmit, Slice.openIsog, Slice.sink, SlicePs.fbBack]; (repeat' split) <;> rfl
@[simp] theorem endPartner_pd_hrSent (x : Slice) : x.endPartner.pd.hrSent = x.pd.hrSent := by
  simp only [Slice.endPartner, Slice.pump, Slice.transmit, Slice.openIsog, Slice.sink, SlicePs.fbBack]; (repeat' split) <;> rfl
@[simp] theorem endPartner_pd_hadContract (x : Slice) : x.endPartner.pd.hadContract = x.pd.hadContract := by
  simp only [Slice.endPartner, Slice.pump, Slice.transmit, Slice.openIsog, Slice.sink, SlicePs.fbBack]; (repeat' split) <;> rfl
@[simp] theorem endPartner_pd_conSince (x : Slice) : x.endPartner.pd.conSince = x.pd.conSince := by
  simp only [Slice.endPartner, Slice.pump, Slice.transmit, Slice.openIsog, Slice.sink, SlicePs.fbBack]; (repeat' split) <;> rfl
@[simp] theorem endPartner_pd_capsTries (x : Slice) : x.endPartner.pd.capsTries = x.pd.capsTries := by
  simp only [Slice.endPartner, Slice.pump, Slice.transmit, Slice.openIsog, Slice.sink, SlicePs.fbBack]; (repeat' split) <;> rfl
@[simp] theorem endPartner_pd_capsSent (x : Slice) : x.endPartner.pd.capsSent = x.pd.capsSent := by
  simp only [Slice.endPartner, Slice.pump, Slice.transmit, Slice.openIsog, Slice.sink, SlicePs.fbBack]; (repeat' split) <;> rfl
@[simp] theorem endPartner_pd_discovering (x : Slice) : x.endPartner.pd.discovering = x.pd.discovering := by
  simp only [Slice.endPartner, Slice.pump, Slice.transmit, Slice.openIsog, Slice.sink, SlicePs.fbBack]; (repeat' split) <;> rfl
@[simp] theorem endPartner_pd_discEnded (x : Slice) : x.endPartner.pd.discEnded = x.pd.discEnded := by
  simp only [Slice.endPartner, Slice.pump, Slice.transmit, Slice.openIsog, Slice.sink, SlicePs.fbBack]; (repeat' split) <;> rfl
@[simp] theorem endPartner_pd_discSop2 (x : Slice) : x.endPartner.pd.discSop2 = x.pd.discSop2 := by
  simp only [Slice.endPartner, Slice.pump, Slice.transmit, Slice.openIsog, Slice.sink, SlicePs.fbBack]; (repeat' split) <;> rfl
@[simp] theorem endPartner_pd_hrPhase (x : Slice) : x.endPartner.pd.hrPhase = x.pd.hrPhase := by
  simp only [Slice.endPartner, Slice.pump, Slice.transmit, Slice.openIsog, Slice.sink, SlicePs.fbBack]; (repeat' split) <;> rfl
@[simp] theorem endPartner_pd_hrWait (x : Slice) : x.endPartner.pd.hrWait = x.pd.hrWait := by
  simp only [Slice.endPartner, Slice.pump, Slice.transmit, Slice.openIsog, Slice.sink, SlicePs.fbBack]; (repeat' split) <;> rfl
@[simp] theorem endPartner_pd_unchkOffered (x : Slice) : x.endPartner.pd.unchkOffered = x.pd.unchkOffered := by
  simp only [Slice.endPartner, Slice.pump, Slice.transmit, Slice.openIsog, Slice.sink, SlicePs.fbBack]; (repeat' split) <;> rfl
@[simp] theorem endPartner_pd_chunkRx (x : Slice) : x.endPartner.pd.chunkRx = x.pd.chunkRx := by
  simp only [Slice.endPartner, Slice.pump, Slice.transmit, Slice.openIsog, Slice.sink, SlicePs.fbBack]; (repeat' split) <;> rfl
@[simp] theorem endPartner_pd_chunkTx (x : Slice) : x.endPartner.pd.chunkTx = x.pd.chunkTx := by
  simp only [Slice.endPartner, Slice.pump, Slice.transmit, Slice.openIsog, Slice.sink, SlicePs.fbBack]; (repeat' split) <;> rfl
@[simp] theorem endPartner_pd_bistCarrier (x : Slice) : x.endPartner.pd.bistCarrier = x.pd.bistCarrier := by
  simp only [Slice.endPartner, Slice.pump, Slice.transmit, Slice.openIsog, Slice.sink, SlicePs.fbBack]; (repeat' split) <;> rfl
@[simp] theorem endPartner_pd_busyCount (x : Slice) : x.endPartner.pd.busyCount = x.pd.busyCount := by
  simp only [Slice.endPartner, Slice.pump, Slice.transmit, Slice.openIsog, Slice.sink, SlicePs.fbBack]; (repeat' split) <;> rfl
@[simp] theorem endPartner_mb_ctx (x : Slice) : x.endPartner.mb.ctx = x.mb.ctx := by
  simp only [Slice.endPartner, Slice.pump, Slice.transmit, Slice.openIsog, Slice.sink, SlicePs.fbBack]; (repeat' split) <;> rfl
@[simp] theorem endPartner_mb_len (x : Slice) : x.endPartner.mb.len = x.mb.len := by
  simp only [Slice.endPartner, Slice.pump, Slice.transmit, Slice.openIsog, Slice.sink, SlicePs.fbBack]; (repeat' split) <;> rfl
@[simp] theorem endPartner_mb_txData (x : Slice) : x.endPartner.mb.txData = x.mb.txData := by
  simp only [Slice.endPartner, Slice.pump, Slice.transmit, Slice.openIsog, Slice.sink, SlicePs.fbBack]; (repeat' split) <;> rfl
@[simp] theorem endPartner_mb_rxq (x : Slice) : x.endPartner.mb.rxq = x.mb.rxq := by
  simp only [Slice.endPartner, Slice.pump, Slice.transmit, Slice.openIsog, Slice.sink, SlicePs.fbBack]; (repeat' split) <;> rfl
@[simp] theorem endPartner_mb_ovr (x : Slice) : x.endPartner.mb.ovr = x.mb.ovr := by
  simp only [Slice.endPartner, Slice.pump, Slice.transmit, Slice.openIsog, Slice.sink, SlicePs.fbBack]; (repeat' split) <;> rfl
@[simp] theorem endPartner_mb_hrst (x : Slice) : x.endPartner.mb.hrst = x.mb.hrst := by
  simp only [Slice.endPartner, Slice.pump, Slice.transmit, Slice.openIsog, Slice.sink, SlicePs.fbBack]; (repeat' split) <;> rfl
@[simp] theorem endPartner_mb_late (x : Slice) : x.endPartner.mb.late = x.mb.late := by
  simp only [Slice.endPartner, Slice.pump, Slice.transmit, Slice.openIsog, Slice.sink, SlicePs.fbBack]; (repeat' split) <;> rfl
@[simp] theorem endPartner_mb_copyOn (x : Slice) : x.endPartner.mb.copyOn = x.mb.copyOn := by
  simp only [Slice.endPartner, Slice.pump, Slice.transmit, Slice.openIsog, Slice.sink, SlicePs.fbBack]; (repeat' split) <;> rfl
@[simp] theorem endPartner_mb_hostAms (x : Slice) : x.endPartner.mb.hostAms = x.mb.hostAms := by
  simp only [Slice.endPartner, Slice.pump, Slice.transmit, Slice.openIsog, Slice.sink, SlicePs.fbBack]; (repeat' split) <;> rfl
@[simp] theorem endPartner_mb_hostOwes (x : Slice) : x.endPartner.mb.hostOwes = x.mb.hostOwes := by
  simp only [Slice.endPartner, Slice.pump, Slice.transmit, Slice.openIsog, Slice.sink, SlicePs.fbBack]; (repeat' split) <;> rfl

/-! `Slice.resetCtx` -/

@[simp] theorem resetCtx_pd_pdcfg (c : Ctx) (k : BitVec 4) (x : Slice) : (Slice.resetCtx c k x).pd.pdcfg = x.pd.pdcfg := rfl
@[simp] theorem resetCtx_pd_pdstat (c : Ctx) (k : BitVec 4) (x : Slice) : (Slice.resetCtx c k x).pd.pdstat = x.pd.pdstat := rfl
@[simp] theorem resetCtx_pd_pdcnt (c : Ctx) (k : BitVec 4) (x : Slice) : (Slice.resetCtx c k x).pd.pdcnt = x.pd.pdcnt := rfl
@[simp] theorem resetCtx_pd_pdctl (c : Ctx) (k : BitVec 4) (x : Slice) : (Slice.resetCtx c k x).pd.pdctl = x.pd.pdctl := rfl
@[simp] theorem resetCtx_pd_cblVdo (c : Ctx) (k : BitVec 4) (x : Slice) : (Slice.resetCtx c k x).pd.cblVdo = x.pd.cblVdo := rfl
@[simp] theorem resetCtx_pd_cblVdo2 (c : Ctx) (k : BitVec 4) (x : Slice) : (Slice.resetCtx c k x).pd.cblVdo2 = x.pd.cblVdo2 := rfl
@[simp] theorem resetCtx_pd_cblId (c : Ctx) (k : BitVec 4) (x : Slice) : (Slice.resetCtx c k x).pd.cblId = x.pd.cblId := rfl
@[simp] theorem resetCtx_pd_cblStat (c : Ctx) (k : BitVec 4) (x : Slice) : (Slice.resetCtx c k x).pd.cblStat = x.pd.cblStat := rfl
@[simp] theorem resetCtx_pd_goodCrc (c : Ctx) (k : BitVec 4) (x : Slice) : (Slice.resetCtx c k x).pd.goodCrc = x.pd.goodCrc := rfl
@[simp] theorem resetCtx_pd_retries (c : Ctx) (k : BitVec 4) (x : Slice) : (Slice.resetCtx c k x).pd.retries = x.pd.retries := rfl
@[simp] theorem resetCtx_pd_ngHeld (c : Ctx) (k : BitVec 4) (x : Slice) : (Slice.resetCtx c k x).pd.ngHeld = x.pd.ngHeld := rfl
@[simp] theorem resetCtx_pd_hrSent (c : Ctx) (k : BitVec 4) (x : Slice) : (Slice.resetCtx c k x).pd.hrSent = x.pd.hrSent := rfl
@[simp] theorem resetCtx_pd_hadContract (c : Ctx) (k : BitVec 4) (x : Slice) : (Slice.resetCtx c k x).pd.hadContract = x.pd.hadContract := rfl
@[simp] theorem resetCtx_pd_conSince (c : Ctx) (k : BitVec 4) (x : Slice) : (Slice.resetCtx c k x).pd.conSince = x.pd.conSince := rfl
@[simp] theorem resetCtx_pd_capsTries (c : Ctx) (k : BitVec 4) (x : Slice) : (Slice.resetCtx c k x).pd.capsTries = x.pd.capsTries := rfl
@[simp] theorem resetCtx_pd_capsSent (c : Ctx) (k : BitVec 4) (x : Slice) : (Slice.resetCtx c k x).pd.capsSent = x.pd.capsSent := rfl
@[simp] theorem resetCtx_pd_discovering (c : Ctx) (k : BitVec 4) (x : Slice) : (Slice.resetCtx c k x).pd.discovering = x.pd.discovering := rfl
@[simp] theorem resetCtx_pd_discEnded (c : Ctx) (k : BitVec 4) (x : Slice) : (Slice.resetCtx c k x).pd.discEnded = x.pd.discEnded := rfl
@[simp] theorem resetCtx_pd_discSop2 (c : Ctx) (k : BitVec 4) (x : Slice) : (Slice.resetCtx c k x).pd.discSop2 = x.pd.discSop2 := rfl
@[simp] theorem resetCtx_pd_hrPhase (c : Ctx) (k : BitVec 4) (x : Slice) : (Slice.resetCtx c k x).pd.hrPhase = x.pd.hrPhase := rfl
@[simp] theorem resetCtx_pd_hrWait (c : Ctx) (k : BitVec 4) (x : Slice) : (Slice.resetCtx c k x).pd.hrWait = x.pd.hrWait := rfl
@[simp] theorem resetCtx_pd_unchkOffered (c : Ctx) (k : BitVec 4) (x : Slice) : (Slice.resetCtx c k x).pd.unchkOffered = x.pd.unchkOffered := rfl
@[simp] theorem resetCtx_pd_bistCarrier (c : Ctx) (k : BitVec 4) (x : Slice) : (Slice.resetCtx c k x).pd.bistCarrier = x.pd.bistCarrier := rfl
@[simp] theorem resetCtx_pd_busyCount (c : Ctx) (k : BitVec 4) (x : Slice) : (Slice.resetCtx c k x).pd.busyCount = x.pd.busyCount := rfl

/-! `Slice.clearContract` -/

@[simp] theorem clearContract_pd_pdcfg (x : Slice) : x.clearContract.pd.pdcfg = x.pd.pdcfg := rfl
@[simp] theorem clearContract_pd_pdcnt (x : Slice) : x.clearContract.pd.pdcnt = x.pd.pdcnt := rfl
@[simp] theorem clearContract_pd_pdctl (x : Slice) : x.clearContract.pd.pdctl = x.pd.pdctl := rfl
@[simp] theorem clearContract_pd_cblVdo (x : Slice) : x.clearContract.pd.cblVdo = x.pd.cblVdo := rfl
@[simp] theorem clearContract_pd_cblVdo2 (x : Slice) : x.clearContract.pd.cblVdo2 = x.pd.cblVdo2 := rfl
@[simp] theorem clearContract_pd_cblId (x : Slice) : x.clearContract.pd.cblId = x.pd.cblId := rfl
@[simp] theorem clearContract_pd_cblStat (x : Slice) : x.clearContract.pd.cblStat = x.pd.cblStat := rfl
@[simp] theorem clearContract_pd_txId (x : Slice) : x.clearContract.pd.txId = x.pd.txId := rfl
@[simp] theorem clearContract_pd_rxId (x : Slice) : x.clearContract.pd.rxId = x.pd.rxId := rfl
@[simp] theorem clearContract_pd_rxBuf (x : Slice) : x.clearContract.pd.rxBuf = x.pd.rxBuf := rfl
@[simp] theorem clearContract_pd_goodCrc (x : Slice) : x.clearContract.pd.goodCrc = x.pd.goodCrc := rfl
@[simp] theorem clearContract_pd_ready (x : Slice) : x.clearContract.pd.ready = x.pd.ready := rfl
@[simp] theorem clearContract_pd_restart (x : Slice) : x.clearContract.pd.restart = x.pd.restart := rfl
@[simp] theorem clearContract_pd_inflight (x : Slice) : x.clearContract.pd.inflight = x.pd.inflight := rfl
@[simp] theorem clearContract_pd_retries (x : Slice) : x.clearContract.pd.retries = x.pd.retries := rfl
@[simp] theorem clearContract_pd_ngHeld (x : Slice) : x.clearContract.pd.ngHeld = x.pd.ngHeld := rfl
@[simp] theorem clearContract_pd_waitReply (x : Slice) : x.clearContract.pd.waitReply = x.pd.waitReply := rfl
@[simp] theorem clearContract_pd_partnerAms (x : Slice) : x.clearContract.pd.partnerAms = x.pd.partnerAms := rfl
@[simp] theorem clearContract_pd_ownOpen (x : Slice) : x.clearContract.pd.ownOpen = x.pd.ownOpen := rfl
@[simp] theorem clearContract_pd_hrSent (x : Slice) : x.clearContract.pd.hrSent = x.pd.hrSent := rfl
@[simp] theorem clearContract_pd_hadContract (x : Slice) : x.clearContract.pd.hadContract = x.pd.hadContract := rfl
@[simp] theorem clearContract_pd_discovering (x : Slice) : x.clearContract.pd.discovering = x.pd.discovering := rfl
@[simp] theorem clearContract_pd_discEnded (x : Slice) : x.clearContract.pd.discEnded = x.pd.discEnded := rfl
@[simp] theorem clearContract_pd_discSop2 (x : Slice) : x.clearContract.pd.discSop2 = x.pd.discSop2 := rfl
@[simp] theorem clearContract_pd_hrPhase (x : Slice) : x.clearContract.pd.hrPhase = x.pd.hrPhase := rfl
@[simp] theorem clearContract_pd_hrWait (x : Slice) : x.clearContract.pd.hrWait = x.pd.hrWait := rfl
@[simp] theorem clearContract_pd_unchkOffered (x : Slice) : x.clearContract.pd.unchkOffered = x.pd.unchkOffered := rfl
@[simp] theorem clearContract_pd_chunkRx (x : Slice) : x.clearContract.pd.chunkRx = x.pd.chunkRx := rfl
@[simp] theorem clearContract_pd_chunkTx (x : Slice) : x.clearContract.pd.chunkTx = x.pd.chunkTx := rfl
@[simp] theorem clearContract_pd_bistCarrier (x : Slice) : x.clearContract.pd.bistCarrier = x.pd.bistCarrier := rfl
@[simp] theorem clearContract_pd_busyCount (x : Slice) : x.clearContract.pd.busyCount = x.pd.busyCount := rfl
@[simp] theorem clearContract_off_offcfg (x : Slice) : x.clearContract.off.offcfg = x.off.offcfg := rfl
@[simp] theorem clearContract_off_xcfg (x : Slice) : x.clearContract.off.xcfg = x.off.xcfg := rfl
@[simp] theorem clearContract_off_proflim (x : Slice) : x.clearContract.off.proflim = x.off.proflim := rfl
@[simp] theorem clearContract_off_xstat (x : Slice) : x.clearContract.off.xstat = x.off.xstat := rfl
@[simp] theorem clearContract_off_rdo (x : Slice) : x.clearContract.off.rdo = x.off.rdo := rfl
@[simp] theorem clearContract_off_offctl (x : Slice) : x.clearContract.off.offctl = x.off.offctl := rfl
@[simp] theorem clearContract_off_lastOffer (x : Slice) : x.clearContract.off.lastOffer = x.off.lastOffer := rfl
@[simp] theorem clearContract_off_lastOfferEpr (x : Slice) : x.clearContract.off.lastOfferEpr = x.off.lastOfferEpr := rfl
@[simp] theorem clearContract_off_xstep (x : Slice) : x.clearContract.off.xstep = x.off.xstep := rfl
@[simp] theorem clearContract_off_xheld (x : Slice) : x.clearContract.off.xheld = x.off.xheld := rfl
@[simp] theorem clearContract_off_change (x : Slice) : x.clearContract.off.change = x.off.change := rfl
@[simp] theorem clearContract_off_ocpFlag (x : Slice) : x.clearContract.off.ocpFlag = x.off.ocpFlag := rfl
@[simp] theorem clearContract_ps_pwmcfg (x : Slice) : x.clearContract.ps.pwmcfg = x.ps.pwmcfg := rfl
@[simp] theorem clearContract_ps_pwmlim (x : Slice) : x.clearContract.ps.pwmlim = x.ps.pwmlim := rfl
@[simp] theorem clearContract_ps_cmpb0 (x : Slice) : x.clearContract.ps.cmpb0 = x.ps.cmpb0 := rfl
@[simp] theorem clearContract_ps_cmpb1 (x : Slice) : x.clearContract.ps.cmpb1 = x.ps.cmpb1 := rfl
@[simp] theorem clearContract_ps_pscfg (x : Slice) : x.clearContract.ps.pscfg = x.ps.pscfg := rfl
@[simp] theorem clearContract_ps_pwmph (x : Slice) : x.clearContract.ps.pwmph = x.ps.pwmph := rfl
@[simp] theorem clearContract_ps_pwmofs (x : Slice) : x.clearContract.ps.pwmofs = x.ps.pwmofs := rfl
@[simp] theorem clearContract_ps_festat (x : Slice) : x.clearContract.ps.festat = x.ps.festat := rfl
@[simp] theorem clearContract_ps_feres (x : Slice) : x.clearContract.ps.feres = x.ps.feres := rfl
@[simp] theorem clearContract_ps_fevolt (x : Slice) : x.clearContract.ps.fevolt = x.ps.fevolt := rfl
@[simp] theorem clearContract_ps_tlmV (x : Slice) : x.clearContract.ps.tlmV = x.ps.tlmV := rfl
@[simp] theorem clearContract_ps_tlmI (x : Slice) : x.clearContract.ps.tlmI = x.ps.tlmI := rfl
@[simp] theorem clearContract_ps_psctl (x : Slice) : x.clearContract.ps.psctl = x.ps.psctl := rfl
@[simp] theorem clearContract_ps_eno (x : Slice) : x.clearContract.ps.eno = x.ps.eno := rfl
@[simp] theorem clearContract_ps_eni (x : Slice) : x.clearContract.ps.eni = x.ps.eni := rfl
@[simp] theorem clearContract_ps_enoRes (x : Slice) : x.clearContract.ps.enoRes = x.ps.enoRes := rfl
@[simp] theorem clearContract_ps_eniRes (x : Slice) : x.clearContract.ps.eniRes = x.ps.eniRes := rfl
@[simp] theorem clearContract_ps_vref (x : Slice) : x.clearContract.ps.vref = x.ps.vref := rfl
@[simp] theorem clearContract_ps_u1 (x : Slice) : x.clearContract.ps.u1 = x.ps.u1 := rfl
@[simp] theorem clearContract_ps_u2 (x : Slice) : x.clearContract.ps.u2 = x.ps.u2 := rfl
@[simp] theorem clearContract_ps_e1 (x : Slice) : x.clearContract.ps.e1 = x.ps.e1 := rfl
@[simp] theorem clearContract_ps_e2 (x : Slice) : x.clearContract.ps.e2 = x.ps.e2 := rfl
@[simp] theorem clearContract_ps_steps (x : Slice) : x.clearContract.ps.steps = x.ps.steps := rfl
@[simp] theorem clearContract_ps_vpre (x : Slice) : x.clearContract.ps.vpre = x.ps.vpre := rfl
@[simp] theorem clearContract_ps_periods (x : Slice) : x.clearContract.ps.periods = x.ps.periods := rfl
@[simp] theorem clearContract_ps_fbFresh (x : Slice) : x.clearContract.ps.fbFresh = x.ps.fbFresh := rfl
@[simp] theorem clearContract_ps_phase (x : Slice) : x.clearContract.ps.phase = x.ps.phase := rfl
@[simp] theorem clearContract_ps_swapStart (x : Slice) : x.clearContract.ps.swapStart = x.ps.swapStart := rfl
@[simp] theorem clearContract_ps_startHeld (x : Slice) : x.clearContract.ps.startHeld = x.ps.startHeld := rfl
@[simp] theorem clearContract_ps_feSamples (x : Slice) : x.clearContract.ps.feSamples = x.ps.feSamples := rfl
@[simp] theorem clearContract_ps_fePrevI (x : Slice) : x.clearContract.ps.fePrevI = x.ps.fePrevI := rfl
@[simp] theorem clearContract_ps_feFrozen (x : Slice) : x.clearContract.ps.feFrozen = x.ps.feFrozen := rfl
@[simp] theorem clearContract_ps_feCx (x : Slice) : x.clearContract.ps.feCx = x.ps.feCx := rfl
@[simp] theorem clearContract_ps_feQuiet (x : Slice) : x.clearContract.ps.feQuiet = x.ps.feQuiet := rfl
@[simp] theorem clearContract_ps_feBad (x : Slice) : x.clearContract.ps.feBad = x.ps.feBad := rfl
@[simp] theorem clearContract_sw_swcfg (x : Slice) : x.clearContract.sw.swcfg = x.sw.swcfg := rfl
@[simp] theorem clearContract_sw_swctl (x : Slice) : x.clearContract.sw.swctl = x.sw.swctl := rfl
@[simp] theorem clearContract_sw_step (x : Slice) : x.clearContract.sw.step = x.sw.step := rfl
@[simp] theorem clearContract_sw_wantPr (x : Slice) : x.clearContract.sw.wantPr = x.sw.wantPr := rfl
@[simp] theorem clearContract_sw_wantDr (x : Slice) : x.clearContract.sw.wantDr = x.sw.wantDr := rfl
@[simp] theorem clearContract_sw_wantVc (x : Slice) : x.clearContract.sw.wantVc = x.sw.wantVc := rfl
@[simp] theorem clearContract_sw_autoVc (x : Slice) : x.clearContract.sw.autoVc = x.sw.autoVc := rfl
@[simp] theorem clearContract_sw_outstanding (x : Slice) : x.clearContract.sw.outstanding = x.sw.outstanding := rfl
@[simp] theorem clearContract_sw_waits (x : Slice) : x.clearContract.sw.waits = x.sw.waits := rfl
@[simp] theorem clearContract_sw_retry (x : Slice) : x.clearContract.sw.retry = x.sw.retry := rfl
@[simp] theorem clearContract_sw_startDue (x : Slice) : x.clearContract.sw.startDue = x.sw.startDue := rfl
@[simp] theorem clearContract_sw_due (x : Slice) : x.clearContract.sw.due = x.sw.due := rfl
@[simp] theorem clearContract_sw_mine (x : Slice) : x.clearContract.sw.mine = x.sw.mine := rfl
@[simp] theorem clearContract_sw_frsClosed (x : Slice) : x.clearContract.sw.frsClosed = x.sw.frsClosed := rfl
@[simp] theorem clearContract_sw_frsOldRdy (x : Slice) : x.clearContract.sw.frsOldRdy = x.sw.frsOldRdy := rfl
@[simp] theorem clearContract_sw_frsRecent (x : Slice) : x.clearContract.sw.frsRecent = x.sw.frsRecent := rfl
@[simp] theorem clearContract_sw_eprPossible (x : Slice) : x.clearContract.sw.eprPossible = x.sw.eprPossible := rfl
@[simp] theorem clearContract_sw_offered (x : Slice) : x.clearContract.sw.offered = x.sw.offered := rfl

/-! `Slice.endChange` -/

@[simp] theorem endChange_off_offcfg (k : BitVec 3) (x : Slice) : (Slice.endChange k x).off.offcfg = x.off.offcfg := by
  unfold Slice.endChange; (repeat' split) <;> rfl
@[simp] theorem endChange_off_xcfg (k : BitVec 3) (x : Slice) : (Slice.endChange k x).off.xcfg = x.off.xcfg := by
  unfold Slice.endChange; (repeat' split) <;> rfl
@[simp] theorem endChange_off_proflim (k : BitVec 3) (x : Slice) : (Slice.endChange k x).off.proflim = x.off.proflim := by
  unfold Slice.endChange; (repeat' split) <;> rfl
@[simp] theorem endChange_off_contract (k : BitVec 3) (x : Slice) : (Slice.endChange k x).off.contract = x.off.contract := by
  unfold Slice.endChange; (repeat' split) <;> rfl
@[simp] theorem endChange_off_rdo (k : BitVec 3) (x : Slice) : (Slice.endChange k x).off.rdo = x.off.rdo := by
  unfold Slice.endChange; (repeat' split) <;> rfl
@[simp] theorem endChange_off_offctl (k : BitVec 3) (x : Slice) : (Slice.endChange k x).off.offctl = x.off.offctl := by
  unfold Slice.endChange; (repeat' split) <;> rfl
@[simp] theorem endChange_off_lastOffer (k : BitVec 3) (x : Slice) : (Slice.endChange k x).off.lastOffer = x.off.lastOffer := by
  unfold Slice.endChange; (repeat' split) <;> rfl
@[simp] theorem endChange_off_lastOfferEpr (k : BitVec 3) (x : Slice) : (Slice.endChange k x).off.lastOfferEpr = x.off.lastOfferEpr := by
  unfold Slice.endChange; (repeat' split) <;> rfl
@[simp] theorem endChange_off_conMv (k : BitVec 3) (x : Slice) : (Slice.endChange k x).off.conMv = x.off.conMv := by
  unfold Slice.endChange; (repeat' split) <;> rfl
@[simp] theorem endChange_off_conMa (k : BitVec 3) (x : Slice) : (Slice.endChange k x).off.conMa = x.off.conMa := by
  unfold Slice.endChange; (repeat' split) <;> rfl
@[simp] theorem endChange_off_conEprCap (k : BitVec 3) (x : Slice) : (Slice.endChange k x).off.conEprCap = x.off.conEprCap := by
  unfold Slice.endChange; (repeat' split) <;> rfl
@[simp] theorem endChange_off_advertDue (k : BitVec 3) (x : Slice) : (Slice.endChange k x).off.advertDue = x.off.advertDue := by
  unfold Slice.endChange; (repeat' split) <;> rfl
@[simp] theorem endChange_off_advertLater (k : BitVec 3) (x : Slice) : (Slice.endChange k x).off.advertLater = x.off.advertLater := by
  unfold Slice.endChange; (repeat' split) <;> rfl
@[simp] theorem endChange_off_advertHold (k : BitVec 3) (x : Slice) : (Slice.endChange k x).off.advertHold = x.off.advertHold := by
  unfold Slice.endChange; (repeat' split) <;> rfl
@[simp] theorem endChange_off_eprLeaving (k : BitVec 3) (x : Slice) : (Slice.endChange k x).off.eprLeaving = x.off.eprLeaving := by
  unfold Slice.endChange; (repeat' split) <;> rfl
@[simp] theorem endChange_off_limit (k : BitVec 3) (x : Slice) : (Slice.endChange k x).off.limit = x.off.limit := by
  unfold Slice.endChange; (repeat' split) <;> rfl
@[simp] theorem endChange_off_complRun (k : BitVec 3) (x : Slice) : (Slice.endChange k x).off.complRun = x.off.complRun := by
  unfold Slice.endChange; (repeat' split) <;> rfl
@[simp] theorem endChange_off_complCon (k : BitVec 3) (x : Slice) : (Slice.endChange k x).off.complCon = x.off.complCon := by
  unfold Slice.endChange; (repeat' split) <;> rfl
@[simp] theorem endChange_off_alertBits (k : BitVec 3) (x : Slice) : (Slice.endChange k x).off.alertBits = x.off.alertBits := by
  unfold Slice.endChange; (repeat' split) <;> rfl
@[simp] theorem endChange_off_alertLater (k : BitVec 3) (x : Slice) : (Slice.endChange k x).off.alertLater = x.off.alertLater := by
  unfold Slice.endChange; (repeat' split) <;> rfl
@[simp] theorem endChange_off_alertHold (k : BitVec 3) (x : Slice) : (Slice.endChange k x).off.alertHold = x.off.alertHold := by
  unfold Slice.endChange; (repeat' split) <;> rfl
@[simp] theorem endChange_off_ocpFlag (k : BitVec 3) (x : Slice) : (Slice.endChange k x).off.ocpFlag = x.off.ocpFlag := by
  unfold Slice.endChange; (repeat' split) <;> rfl
@[simp] theorem endChange_ps_pwmcfg (k : BitVec 3) (x : Slice) : (Slice.endChange k x).ps.pwmcfg = x.ps.pwmcfg := by
  unfold Slice.endChange; (repeat' split) <;> rfl
@[simp] theorem endChange_ps_pwmlim (k : BitVec 3) (x : Slice) : (Slice.endChange k x).ps.pwmlim = x.ps.pwmlim := by
  unfold Slice.endChange; (repeat' split) <;> rfl
@[simp] theorem endChange_ps_cmpb0 (k : BitVec 3) (x : Slice) : (Slice.endChange k x).ps.cmpb0 = x.ps.cmpb0 := by
  unfold Slice.endChange; (repeat' split) <;> rfl
@[simp] theorem endChange_ps_cmpb1 (k : BitVec 3) (x : Slice) : (Slice.endChange k x).ps.cmpb1 = x.ps.cmpb1 := by
  unfold Slice.endChange; (repeat' split) <;> rfl
@[simp] theorem endChange_ps_pscfg (k : BitVec 3) (x : Slice) : (Slice.endChange k x).ps.pscfg = x.ps.pscfg := by
  unfold Slice.endChange; (repeat' split) <;> rfl
@[simp] theorem endChange_ps_pwmph (k : BitVec 3) (x : Slice) : (Slice.endChange k x).ps.pwmph = x.ps.pwmph := by
  unfold Slice.endChange; (repeat' split) <;> rfl
@[simp] theorem endChange_ps_pwmofs (k : BitVec 3) (x : Slice) : (Slice.endChange k x).ps.pwmofs = x.ps.pwmofs := by
  unfold Slice.endChange; (repeat' split) <;> rfl
@[simp] theorem endChange_ps_psstat (k : BitVec 3) (x : Slice) : (Slice.endChange k x).ps.psstat = x.ps.psstat := by
  unfold Slice.endChange; (repeat' split) <;> rfl
@[simp] theorem endChange_ps_festat (k : BitVec 3) (x : Slice) : (Slice.endChange k x).ps.festat = x.ps.festat := by
  unfold Slice.endChange; (repeat' split) <;> rfl
@[simp] theorem endChange_ps_feres (k : BitVec 3) (x : Slice) : (Slice.endChange k x).ps.feres = x.ps.feres := by
  unfold Slice.endChange; (repeat' split) <;> rfl
@[simp] theorem endChange_ps_fevolt (k : BitVec 3) (x : Slice) : (Slice.endChange k x).ps.fevolt = x.ps.fevolt := by
  unfold Slice.endChange; (repeat' split) <;> rfl
@[simp] theorem endChange_ps_tlmV (k : BitVec 3) (x : Slice) : (Slice.endChange k x).ps.tlmV = x.ps.tlmV := by
  unfold Slice.endChange; (repeat' split) <;> rfl
@[simp] theorem endChange_ps_tlmI (k : BitVec 3) (x : Slice) : (Slice.endChange k x).ps.tlmI = x.ps.tlmI := by
  unfold Slice.endChange; (repeat' split) <;> rfl
@[simp] theorem endChange_ps_psctl (k : BitVec 3) (x : Slice) : (Slice.endChange k x).ps.psctl = x.ps.psctl := by
  unfold Slice.endChange; (repeat' split) <;> rfl
@[simp] theorem endChange_ps_eno (k : BitVec 3) (x : Slice) : (Slice.endChange k x).ps.eno = x.ps.eno := by
  unfold Slice.endChange; (repeat' split) <;> rfl
@[simp] theorem endChange_ps_eni (k : BitVec 3) (x : Slice) : (Slice.endChange k x).ps.eni = x.ps.eni := by
  unfold Slice.endChange; (repeat' split) <;> rfl
@[simp] theorem endChange_ps_enoRes (k : BitVec 3) (x : Slice) : (Slice.endChange k x).ps.enoRes = x.ps.enoRes := by
  unfold Slice.endChange; (repeat' split) <;> rfl
@[simp] theorem endChange_ps_eniRes (k : BitVec 3) (x : Slice) : (Slice.endChange k x).ps.eniRes = x.ps.eniRes := by
  unfold Slice.endChange; (repeat' split) <;> rfl
@[simp] theorem endChange_ps_vset (k : BitVec 3) (x : Slice) : (Slice.endChange k x).ps.vset = x.ps.vset := by
  unfold Slice.endChange; (repeat' split) <;> rfl
@[simp] theorem endChange_ps_vref (k : BitVec 3) (x : Slice) : (Slice.endChange k x).ps.vref = x.ps.vref := by
  unfold Slice.endChange; (repeat' split) <;> rfl
@[simp] theorem endChange_ps_u1 (k : BitVec 3) (x : Slice) : (Slice.endChange k x).ps.u1 = x.ps.u1 := by
  unfold Slice.endChange; (repeat' split) <;> rfl
@[simp] theorem endChange_ps_u2 (k : BitVec 3) (x : Slice) : (Slice.endChange k x).ps.u2 = x.ps.u2 := by
  unfold Slice.endChange; (repeat' split) <;> rfl
@[simp] theorem endChange_ps_e1 (k : BitVec 3) (x : Slice) : (Slice.endChange k x).ps.e1 = x.ps.e1 := by
  unfold Slice.endChange; (repeat' split) <;> rfl
@[simp] theorem endChange_ps_e2 (k : BitVec 3) (x : Slice) : (Slice.endChange k x).ps.e2 = x.ps.e2 := by
  unfold Slice.endChange; (repeat' split) <;> rfl
@[simp] theorem endChange_ps_steps (k : BitVec 3) (x : Slice) : (Slice.endChange k x).ps.steps = x.ps.steps := by
  unfold Slice.endChange; (repeat' split) <;> rfl
@[simp] theorem endChange_ps_vpre (k : BitVec 3) (x : Slice) : (Slice.endChange k x).ps.vpre = x.ps.vpre := by
  unfold Slice.endChange; (repeat' split) <;> rfl
@[simp] theorem endChange_ps_periods (k : BitVec 3) (x : Slice) : (Slice.endChange k x).ps.periods = x.ps.periods := by
  unfold Slice.endChange; (repeat' split) <;> rfl
@[simp] theorem endChange_ps_fbFresh (k : BitVec 3) (x : Slice) : (Slice.endChange k x).ps.fbFresh = x.ps.fbFresh := by
  unfold Slice.endChange; (repeat' split) <;> rfl
@[simp] theorem endChange_ps_phase (k : BitVec 3) (x : Slice) : (Slice.endChange k x).ps.phase = x.ps.phase := by
  unfold Slice.endChange; (repeat' split) <;> rfl
@[simp] theorem endChange_ps_swapStart (k : BitVec 3) (x : Slice) : (Slice.endChange k x).ps.swapStart = x.ps.swapStart := by
  unfold Slice.endChange; (repeat' split) <;> rfl
@[simp] theorem endChange_ps_startHeld (k : BitVec 3) (x : Slice) : (Slice.endChange k x).ps.startHeld = x.ps.startHeld := by
  unfold Slice.endChange; (repeat' split) <;> rfl
@[simp] theorem endChange_ps_feSamples (k : BitVec 3) (x : Slice) : (Slice.endChange k x).ps.feSamples = x.ps.feSamples := by
  unfold Slice.endChange; (repeat' split) <;> rfl
@[simp] theorem endChange_ps_fePrevI (k : BitVec 3) (x : Slice) : (Slice.endChange k x).ps.fePrevI = x.ps.fePrevI := by
  unfold Slice.endChange; (repeat' split) <;> rfl
@[simp] theorem endChange_ps_feQuiet (k : BitVec 3) (x : Slice) : (Slice.endChange k x).ps.feQuiet = x.ps.feQuiet := by
  unfold Slice.endChange; (repeat' split) <;> rfl
@[simp] theorem endChange_ps_feBad (k : BitVec 3) (x : Slice) : (Slice.endChange k x).ps.feBad = x.ps.feBad := by
  unfold Slice.endChange; (repeat' split) <;> rfl

/-! `Slice.endSwap` -/

@[simp] theorem endSwap_sw_swcfg (k : BitVec 3) (x : Slice) : (Slice.endSwap k x).sw.swcfg = x.sw.swcfg := rfl
@[simp] theorem endSwap_sw_swctl (k : BitVec 3) (x : Slice) : (Slice.endSwap k x).sw.swctl = x.sw.swctl := rfl
@[simp] theorem endSwap_sw_wantPr (k : BitVec 3) (x : Slice) : (Slice.endSwap k x).sw.wantPr = x.sw.wantPr := rfl
@[simp] theorem endSwap_sw_wantDr (k : BitVec 3) (x : Slice) : (Slice.endSwap k x).sw.wantDr = x.sw.wantDr := rfl
@[simp] theorem endSwap_sw_wantVc (k : BitVec 3) (x : Slice) : (Slice.endSwap k x).sw.wantVc = x.sw.wantVc := rfl
@[simp] theorem endSwap_sw_autoVc (k : BitVec 3) (x : Slice) : (Slice.endSwap k x).sw.autoVc = x.sw.autoVc := rfl
@[simp] theorem endSwap_sw_retry (k : BitVec 3) (x : Slice) : (Slice.endSwap k x).sw.retry = x.sw.retry := rfl
@[simp] theorem endSwap_sw_startDue (k : BitVec 3) (x : Slice) : (Slice.endSwap k x).sw.startDue = x.sw.startDue := rfl
@[simp] theorem endSwap_sw_frsRecent (k : BitVec 3) (x : Slice) : (Slice.endSwap k x).sw.frsRecent = x.sw.frsRecent := rfl
@[simp] theorem endSwap_sw_eprPossible (k : BitVec 3) (x : Slice) : (Slice.endSwap k x).sw.eprPossible = x.sw.eprPossible := rfl
@[simp] theorem endSwap_sw_offered (k : BitVec 3) (x : Slice) : (Slice.endSwap k x).sw.offered = x.sw.offered := rfl
@[simp] theorem endSwap_sw_snkReq (k : BitVec 3) (x : Slice) : (Slice.endSwap k x).sw.snkReq = x.sw.snkReq := rfl
@[simp] theorem endSwap_sw_snkMv (k : BitVec 3) (x : Slice) : (Slice.endSwap k x).sw.snkMv = x.sw.snkMv := rfl
@[simp] theorem endSwap_sw_snkMa (k : BitVec 3) (x : Slice) : (Slice.endSwap k x).sw.snkMa = x.sw.snkMa := rfl
@[simp] theorem endSwap_sw_snkEpr (k : BitVec 3) (x : Slice) : (Slice.endSwap k x).sw.snkEpr = x.sw.snkEpr := rfl
@[simp] theorem endSwap_sw_snkEntering (k : BitVec 3) (x : Slice) : (Slice.endSwap k x).sw.snkEntering = x.sw.snkEntering := rfl
@[simp] theorem endSwap_sw_eprFailed (k : BitVec 3) (x : Slice) : (Slice.endSwap k x).sw.eprFailed = x.sw.eprFailed := rfl
@[simp] theorem endSwap_sw_snkWaitRdy (k : BitVec 3) (x : Slice) : (Slice.endSwap k x).sw.snkWaitRdy = x.sw.snkWaitRdy := rfl

/-! `Slice.vconnOpen` -/

@[simp] theorem vconnOpen_att_attcfg (x : Slice) : x.vconnOpen.att.attcfg = x.att.attcfg := by
  unfold Slice.vconnOpen; (repeat' split) <;> rfl
@[simp] theorem vconnOpen_att_ccmeas (x : Slice) : x.vconnOpen.att.ccmeas = x.att.ccmeas := by
  unfold Slice.vconnOpen; (repeat' split) <;> rfl
@[simp] theorem vconnOpen_att_vconn (x : Slice) : x.vconnOpen.att.vconn = x.att.vconn := by
  unfold Slice.vconnOpen; (repeat' split) <;> rfl
@[simp] theorem vconnOpen_att_attctl (x : Slice) : x.vconnOpen.att.attctl = x.att.attctl := by
  unfold Slice.vconnOpen; (repeat' split) <;> rfl
@[simp] theorem vconnOpen_att_c1 (x : Slice) : x.vconnOpen.att.c1 = x.att.c1 := by
  unfold Slice.vconnOpen; (repeat' split) <;> rfl
@[simp] theorem vconnOpen_att_c2 (x : Slice) : x.vconnOpen.att.c2 = x.att.c2 := by
  unfold Slice.vconnOpen; (repeat' split) <;> rfl
@[simp] theorem vconnOpen_att_rp1 (x : Slice) : x.vconnOpen.att.rp1 = x.att.rp1 := by
  unfold Slice.vconnOpen; (repeat' split) <;> rfl
@[simp] theorem vconnOpen_att_rp2 (x : Slice) : x.vconnOpen.att.rp2 = x.att.rp2 := by
  unfold Slice.vconnOpen; (repeat' split) <;> rfl
@[simp] theorem vconnOpen_att_rpHeld (x : Slice) : x.vconnOpen.att.rpHeld = x.att.rpHeld := by
  unfold Slice.vconnOpen; (repeat' split) <;> rfl
@[simp] theorem vconnOpen_att_tryDone (x : Slice) : x.vconnOpen.att.tryDone = x.att.tryDone := by
  unfold Slice.vconnOpen; (repeat' split) <;> rfl
@[simp] theorem vconnOpen_att_vconnLow (x : Slice) : x.vconnOpen.att.vconnLow = x.att.vconnLow := by
  unfold Slice.vconnOpen; (repeat' split) <;> rfl
@[simp] theorem vconnOpen_att_detaching (x : Slice) : x.vconnOpen.att.detaching = x.att.detaching := by
  unfold Slice.vconnOpen; (repeat' split) <;> rfl
@[simp] theorem vconnOpen_att_vbusMv (x : Slice) : x.vconnOpen.att.vbusMv = x.att.vbusMv := by
  unfold Slice.vconnOpen; (repeat' split) <;> rfl
@[simp] theorem vconnOpen_pins_term (x : Slice) : x.vconnOpen.pins.term = x.pins.term := by
  unfold Slice.vconnOpen; (repeat' split) <;> rfl
@[simp] theorem vconnOpen_pins_pwm (x : Slice) : x.vconnOpen.pins.pwm = x.pins.pwm := by
  unfold Slice.vconnOpen; (repeat' split) <;> rfl
@[simp] theorem vconnOpen_pins_sbu (x : Slice) : x.vconnOpen.pins.sbu = x.pins.sbu := by
  unfold Slice.vconnOpen; (repeat' split) <;> rfl
@[simp] theorem vconnOpen_pins_isog (x : Slice) : x.vconnOpen.pins.isog = x.pins.isog := by
  unfold Slice.vconnOpen; (repeat' split) <;> rfl
@[simp] theorem vconnOpen_pins_snkg (x : Slice) : x.vconnOpen.pins.snkg = x.pins.snkg := by
  unfold Slice.vconnOpen; (repeat' split) <;> rfl
@[simp] theorem vconnOpen_pins_disch (x : Slice) : x.vconnOpen.pins.disch = x.pins.disch := by
  unfold Slice.vconnOpen; (repeat' split) <;> rfl

/-! `Slice.vconnClose` -/

@[simp] theorem vconnClose_att_attcfg (b : Bool) (x : Slice) : (Slice.vconnClose b x).att.attcfg = x.att.attcfg := by
  unfold Slice.vconnClose; (repeat' split) <;> rfl
@[simp] theorem vconnClose_att_ccmeas (b : Bool) (x : Slice) : (Slice.vconnClose b x).att.ccmeas = x.att.ccmeas := by
  unfold Slice.vconnClose; (repeat' split) <;> rfl
@[simp] theorem vconnClose_att_vconn (b : Bool) (x : Slice) : (Slice.vconnClose b x).att.vconn = x.att.vconn := by
  unfold Slice.vconnClose; (repeat' split) <;> rfl
@[simp] theorem vconnClose_att_attctl (b : Bool) (x : Slice) : (Slice.vconnClose b x).att.attctl = x.att.attctl := by
  unfold Slice.vconnClose; (repeat' split) <;> rfl
@[simp] theorem vconnClose_att_c1 (b : Bool) (x : Slice) : (Slice.vconnClose b x).att.c1 = x.att.c1 := by
  unfold Slice.vconnClose; (repeat' split) <;> rfl
@[simp] theorem vconnClose_att_c2 (b : Bool) (x : Slice) : (Slice.vconnClose b x).att.c2 = x.att.c2 := by
  unfold Slice.vconnClose; (repeat' split) <;> rfl
@[simp] theorem vconnClose_att_rp1 (b : Bool) (x : Slice) : (Slice.vconnClose b x).att.rp1 = x.att.rp1 := by
  unfold Slice.vconnClose; (repeat' split) <;> rfl
@[simp] theorem vconnClose_att_rp2 (b : Bool) (x : Slice) : (Slice.vconnClose b x).att.rp2 = x.att.rp2 := by
  unfold Slice.vconnClose; (repeat' split) <;> rfl
@[simp] theorem vconnClose_att_rpHeld (b : Bool) (x : Slice) : (Slice.vconnClose b x).att.rpHeld = x.att.rpHeld := by
  unfold Slice.vconnClose; (repeat' split) <;> rfl
@[simp] theorem vconnClose_att_tryDone (b : Bool) (x : Slice) : (Slice.vconnClose b x).att.tryDone = x.att.tryDone := by
  unfold Slice.vconnClose; (repeat' split) <;> rfl
@[simp] theorem vconnClose_att_detaching (b : Bool) (x : Slice) : (Slice.vconnClose b x).att.detaching = x.att.detaching := by
  unfold Slice.vconnClose; (repeat' split) <;> rfl
@[simp] theorem vconnClose_att_vbusMv (b : Bool) (x : Slice) : (Slice.vconnClose b x).att.vbusMv = x.att.vbusMv := by
  unfold Slice.vconnClose; (repeat' split) <;> rfl
@[simp] theorem vconnClose_pd_pdcfg (b : Bool) (x : Slice) : (Slice.vconnClose b x).pd.pdcfg = x.pd.pdcfg := by
  unfold Slice.vconnClose; (repeat' split) <;> rfl
@[simp] theorem vconnClose_pd_pdcnt (b : Bool) (x : Slice) : (Slice.vconnClose b x).pd.pdcnt = x.pd.pdcnt := by
  unfold Slice.vconnClose; (repeat' split) <;> rfl
@[simp] theorem vconnClose_pd_pdctl (b : Bool) (x : Slice) : (Slice.vconnClose b x).pd.pdctl = x.pd.pdctl := by
  unfold Slice.vconnClose; (repeat' split) <;> rfl
@[simp] theorem vconnClose_pd_cblVdo (b : Bool) (x : Slice) : (Slice.vconnClose b x).pd.cblVdo = x.pd.cblVdo := by
  unfold Slice.vconnClose; (repeat' split) <;> rfl
@[simp] theorem vconnClose_pd_cblVdo2 (b : Bool) (x : Slice) : (Slice.vconnClose b x).pd.cblVdo2 = x.pd.cblVdo2 := by
  unfold Slice.vconnClose; (repeat' split) <;> rfl
@[simp] theorem vconnClose_pd_cblId (b : Bool) (x : Slice) : (Slice.vconnClose b x).pd.cblId = x.pd.cblId := by
  unfold Slice.vconnClose; (repeat' split) <;> rfl
@[simp] theorem vconnClose_pd_cblStat (b : Bool) (x : Slice) : (Slice.vconnClose b x).pd.cblStat = x.pd.cblStat := by
  unfold Slice.vconnClose; (repeat' split) <;> rfl
@[simp] theorem vconnClose_pd_txId (b : Bool) (x : Slice) : (Slice.vconnClose b x).pd.txId = x.pd.txId := by
  unfold Slice.vconnClose; (repeat' split) <;> rfl
@[simp] theorem vconnClose_pd_rxId (b : Bool) (x : Slice) : (Slice.vconnClose b x).pd.rxId = x.pd.rxId := by
  unfold Slice.vconnClose; (repeat' split) <;> rfl
@[simp] theorem vconnClose_pd_rxBuf (b : Bool) (x : Slice) : (Slice.vconnClose b x).pd.rxBuf = x.pd.rxBuf := by
  unfold Slice.vconnClose; (repeat' split) <;> rfl
@[simp] theorem vconnClose_pd_goodCrc (b : Bool) (x : Slice) : (Slice.vconnClose b x).pd.goodCrc = x.pd.goodCrc := by
  unfold Slice.vconnClose; (repeat' split) <;> rfl
@[simp] theorem vconnClose_pd_ready (b : Bool) (x : Slice) : (Slice.vconnClose b x).pd.ready = x.pd.ready := by
  unfold Slice.vconnClose; (repeat' split) <;> rfl
@[simp] theorem vconnClose_pd_restart (b : Bool) (x : Slice) : (Slice.vconnClose b x).pd.restart = x.pd.restart := by
  unfold Slice.vconnClose; (repeat' split) <;> rfl
@[simp] theorem vconnClose_pd_inflight (b : Bool) (x : Slice) : (Slice.vconnClose b x).pd.inflight = x.pd.inflight := by
  unfold Slice.vconnClose; (repeat' split) <;> rfl
@[simp] theorem vconnClose_pd_retries (b : Bool) (x : Slice) : (Slice.vconnClose b x).pd.retries = x.pd.retries := by
  unfold Slice.vconnClose; (repeat' split) <;> rfl
@[simp] theorem vconnClose_pd_ngHeld (b : Bool) (x : Slice) : (Slice.vconnClose b x).pd.ngHeld = x.pd.ngHeld := by
  unfold Slice.vconnClose; (repeat' split) <;> rfl
@[simp] theorem vconnClose_pd_waitReply (b : Bool) (x : Slice) : (Slice.vconnClose b x).pd.waitReply = x.pd.waitReply := by
  unfold Slice.vconnClose; (repeat' split) <;> rfl
@[simp] theorem vconnClose_pd_partnerAms (b : Bool) (x : Slice) : (Slice.vconnClose b x).pd.partnerAms = x.pd.partnerAms := by
  unfold Slice.vconnClose; (repeat' split) <;> rfl
@[simp] theorem vconnClose_pd_ownOpen (b : Bool) (x : Slice) : (Slice.vconnClose b x).pd.ownOpen = x.pd.ownOpen := by
  unfold Slice.vconnClose; (repeat' split) <;> rfl
@[simp] theorem vconnClose_pd_hrSent (b : Bool) (x : Slice) : (Slice.vconnClose b x).pd.hrSent = x.pd.hrSent := by
  unfold Slice.vconnClose; (repeat' split) <;> rfl
@[simp] theorem vconnClose_pd_hadContract (b : Bool) (x : Slice) : (Slice.vconnClose b x).pd.hadContract = x.pd.hadContract := by
  unfold Slice.vconnClose; (repeat' split) <;> rfl
@[simp] theorem vconnClose_pd_conSince (b : Bool) (x : Slice) : (Slice.vconnClose b x).pd.conSince = x.pd.conSince := by
  unfold Slice.vconnClose; (repeat' split) <;> rfl
@[simp] theorem vconnClose_pd_capsTries (b : Bool) (x : Slice) : (Slice.vconnClose b x).pd.capsTries = x.pd.capsTries := by
  unfold Slice.vconnClose; (repeat' split) <;> rfl
@[simp] theorem vconnClose_pd_capsSent (b : Bool) (x : Slice) : (Slice.vconnClose b x).pd.capsSent = x.pd.capsSent := by
  unfold Slice.vconnClose; (repeat' split) <;> rfl
@[simp] theorem vconnClose_pd_discovering (b : Bool) (x : Slice) : (Slice.vconnClose b x).pd.discovering = x.pd.discovering := by
  unfold Slice.vconnClose; (repeat' split) <;> rfl
@[simp] theorem vconnClose_pd_discEnded (b : Bool) (x : Slice) : (Slice.vconnClose b x).pd.discEnded = x.pd.discEnded := by
  unfold Slice.vconnClose; (repeat' split) <;> rfl
@[simp] theorem vconnClose_pd_discSop2 (b : Bool) (x : Slice) : (Slice.vconnClose b x).pd.discSop2 = x.pd.discSop2 := by
  unfold Slice.vconnClose; (repeat' split) <;> rfl
@[simp] theorem vconnClose_pd_hrPhase (b : Bool) (x : Slice) : (Slice.vconnClose b x).pd.hrPhase = x.pd.hrPhase := by
  unfold Slice.vconnClose; (repeat' split) <;> rfl
@[simp] theorem vconnClose_pd_hrWait (b : Bool) (x : Slice) : (Slice.vconnClose b x).pd.hrWait = x.pd.hrWait := by
  unfold Slice.vconnClose; (repeat' split) <;> rfl
@[simp] theorem vconnClose_pd_unchkOffered (b : Bool) (x : Slice) : (Slice.vconnClose b x).pd.unchkOffered = x.pd.unchkOffered := by
  unfold Slice.vconnClose; (repeat' split) <;> rfl
@[simp] theorem vconnClose_pd_chunkRx (b : Bool) (x : Slice) : (Slice.vconnClose b x).pd.chunkRx = x.pd.chunkRx := by
  unfold Slice.vconnClose; (repeat' split) <;> rfl
@[simp] theorem vconnClose_pd_chunkTx (b : Bool) (x : Slice) : (Slice.vconnClose b x).pd.chunkTx = x.pd.chunkTx := by
  unfold Slice.vconnClose; (repeat' split) <;> rfl
@[simp] theorem vconnClose_pd_bistCarrier (b : Bool) (x : Slice) : (Slice.vconnClose b x).pd.bistCarrier = x.pd.bistCarrier := by
  unfold Slice.vconnClose; (repeat' split) <;> rfl
@[simp] theorem vconnClose_pd_busyCount (b : Bool) (x : Slice) : (Slice.vconnClose b x).pd.busyCount = x.pd.busyCount := by
  unfold Slice.vconnClose; (repeat' split) <;> rfl

/-! `Slice.sink` -/

@[simp] theorem sink_pins_term (x : Slice) : x.sink.pins.term = x.pins.term := rfl
@[simp] theorem sink_pins_pwm (x : Slice) : x.sink.pins.pwm = x.pins.pwm := rfl
@[simp] theorem sink_pins_sbu (x : Slice) : x.sink.pins.sbu = x.pins.sbu := rfl
@[simp] theorem sink_pins_isog (x : Slice) : x.sink.pins.isog = x.pins.isog := rfl
@[simp] theorem sink_pins_snkg (x : Slice) : x.sink.pins.snkg = x.pins.snkg := rfl
@[simp] theorem sink_pins_vconnPull (x : Slice) : x.sink.pins.vconnPull = x.pins.vconnPull := rfl

/-! `Slice.openIsog` -/

@[simp] theorem openIsog_ps_pwmcfg (x : Slice) : x.openIsog.ps.pwmcfg = x.ps.pwmcfg := by
  simp only [Slice.openIsog, Slice.pump, Slice.transmit, Slice.openIsog, Slice.sink, SlicePs.fbBack]; (repeat' split) <;> rfl
@[simp] theorem openIsog_ps_pwmlim (x : Slice) : x.openIsog.ps.pwmlim = x.ps.pwmlim := by
  simp only [Slice.openIsog, Slice.pump, Slice.transmit, Slice.openIsog, Slice.sink, SlicePs.fbBack]; (repeat' split) <;> rfl
@[simp] theorem openIsog_ps_cmpb0 (x : Slice) : x.openIsog.ps.cmpb0 = x.ps.cmpb0 := by
  simp only [Slice.openIsog, Slice.pump, Slice.transmit, Slice.openIsog, Slice.sink, SlicePs.fbBack]; (repeat' split) <;> rfl
@[simp] theorem openIsog_ps_cmpb1 (x : Slice) : x.openIsog.ps.cmpb1 = x.ps.cmpb1 := by
  simp only [Slice.openIsog, Slice.pump, Slice.transmit, Slice.openIsog, Slice.sink, SlicePs.fbBack]; (repeat' split) <;> rfl
@[simp] theorem openIsog_ps_pscfg (x : Slice) : x.openIsog.ps.pscfg = x.ps.pscfg := by
  simp only [Slice.openIsog, Slice.pump, Slice.transmit, Slice.openIsog, Slice.sink, SlicePs.fbBack]; (repeat' split) <;> rfl
@[simp] theorem openIsog_ps_pwmph (x : Slice) : x.openIsog.ps.pwmph = x.ps.pwmph := by
  simp only [Slice.openIsog, Slice.pump, Slice.transmit, Slice.openIsog, Slice.sink, SlicePs.fbBack]; (repeat' split) <;> rfl
@[simp] theorem openIsog_ps_pwmofs (x : Slice) : x.openIsog.ps.pwmofs = x.ps.pwmofs := by
  simp only [Slice.openIsog, Slice.pump, Slice.transmit, Slice.openIsog, Slice.sink, SlicePs.fbBack]; (repeat' split) <;> rfl
@[simp] theorem openIsog_ps_festat (x : Slice) : x.openIsog.ps.festat = x.ps.festat := by
  simp only [Slice.openIsog, Slice.pump, Slice.transmit, Slice.openIsog, Slice.sink, SlicePs.fbBack]; (repeat' split) <;> rfl
@[simp] theorem openIsog_ps_feres (x : Slice) : x.openIsog.ps.feres = x.ps.feres := by
  simp only [Slice.openIsog, Slice.pump, Slice.transmit, Slice.openIsog, Slice.sink, SlicePs.fbBack]; (repeat' split) <;> rfl
@[simp] theorem openIsog_ps_fevolt (x : Slice) : x.openIsog.ps.fevolt = x.ps.fevolt := by
  simp only [Slice.openIsog, Slice.pump, Slice.transmit, Slice.openIsog, Slice.sink, SlicePs.fbBack]; (repeat' split) <;> rfl
@[simp] theorem openIsog_ps_tlmV (x : Slice) : x.openIsog.ps.tlmV = x.ps.tlmV := by
  simp only [Slice.openIsog, Slice.pump, Slice.transmit, Slice.openIsog, Slice.sink, SlicePs.fbBack]; (repeat' split) <;> rfl
@[simp] theorem openIsog_ps_tlmI (x : Slice) : x.openIsog.ps.tlmI = x.ps.tlmI := by
  simp only [Slice.openIsog, Slice.pump, Slice.transmit, Slice.openIsog, Slice.sink, SlicePs.fbBack]; (repeat' split) <;> rfl
@[simp] theorem openIsog_ps_psctl (x : Slice) : x.openIsog.ps.psctl = x.ps.psctl := by
  simp only [Slice.openIsog, Slice.pump, Slice.transmit, Slice.openIsog, Slice.sink, SlicePs.fbBack]; (repeat' split) <;> rfl
@[simp] theorem openIsog_ps_eno (x : Slice) : x.openIsog.ps.eno = x.ps.eno := by
  simp only [Slice.openIsog, Slice.pump, Slice.transmit, Slice.openIsog, Slice.sink, SlicePs.fbBack]; (repeat' split) <;> rfl
@[simp] theorem openIsog_ps_eni (x : Slice) : x.openIsog.ps.eni = x.ps.eni := by
  simp only [Slice.openIsog, Slice.pump, Slice.transmit, Slice.openIsog, Slice.sink, SlicePs.fbBack]; (repeat' split) <;> rfl
@[simp] theorem openIsog_ps_enoRes (x : Slice) : x.openIsog.ps.enoRes = x.ps.enoRes := by
  simp only [Slice.openIsog, Slice.pump, Slice.transmit, Slice.openIsog, Slice.sink, SlicePs.fbBack]; (repeat' split) <;> rfl
@[simp] theorem openIsog_ps_eniRes (x : Slice) : x.openIsog.ps.eniRes = x.ps.eniRes := by
  simp only [Slice.openIsog, Slice.pump, Slice.transmit, Slice.openIsog, Slice.sink, SlicePs.fbBack]; (repeat' split) <;> rfl
@[simp] theorem openIsog_ps_vset (x : Slice) : x.openIsog.ps.vset = x.ps.vset := by
  simp only [Slice.openIsog, Slice.pump, Slice.transmit, Slice.openIsog, Slice.sink, SlicePs.fbBack]; (repeat' split) <;> rfl
@[simp] theorem openIsog_ps_vref (x : Slice) : x.openIsog.ps.vref = x.ps.vref := by
  simp only [Slice.openIsog, Slice.pump, Slice.transmit, Slice.openIsog, Slice.sink, SlicePs.fbBack]; (repeat' split) <;> rfl
@[simp] theorem openIsog_ps_u1 (x : Slice) : x.openIsog.ps.u1 = x.ps.u1 := by
  simp only [Slice.openIsog, Slice.pump, Slice.transmit, Slice.openIsog, Slice.sink, SlicePs.fbBack]; (repeat' split) <;> rfl
@[simp] theorem openIsog_ps_u2 (x : Slice) : x.openIsog.ps.u2 = x.ps.u2 := by
  simp only [Slice.openIsog, Slice.pump, Slice.transmit, Slice.openIsog, Slice.sink, SlicePs.fbBack]; (repeat' split) <;> rfl
@[simp] theorem openIsog_ps_e1 (x : Slice) : x.openIsog.ps.e1 = x.ps.e1 := by
  simp only [Slice.openIsog, Slice.pump, Slice.transmit, Slice.openIsog, Slice.sink, SlicePs.fbBack]; (repeat' split) <;> rfl
@[simp] theorem openIsog_ps_e2 (x : Slice) : x.openIsog.ps.e2 = x.ps.e2 := by
  simp only [Slice.openIsog, Slice.pump, Slice.transmit, Slice.openIsog, Slice.sink, SlicePs.fbBack]; (repeat' split) <;> rfl
@[simp] theorem openIsog_ps_steps (x : Slice) : x.openIsog.ps.steps = x.ps.steps := by
  simp only [Slice.openIsog, Slice.pump, Slice.transmit, Slice.openIsog, Slice.sink, SlicePs.fbBack]; (repeat' split) <;> rfl
@[simp] theorem openIsog_ps_vpre (x : Slice) : x.openIsog.ps.vpre = x.ps.vpre := by
  simp only [Slice.openIsog, Slice.pump, Slice.transmit, Slice.openIsog, Slice.sink, SlicePs.fbBack]; (repeat' split) <;> rfl
@[simp] theorem openIsog_ps_periods (x : Slice) : x.openIsog.ps.periods = x.ps.periods := by
  simp only [Slice.openIsog, Slice.pump, Slice.transmit, Slice.openIsog, Slice.sink, SlicePs.fbBack]; (repeat' split) <;> rfl
@[simp] theorem openIsog_ps_phase (x : Slice) : x.openIsog.ps.phase = x.ps.phase := by
  simp only [Slice.openIsog, Slice.pump, Slice.transmit, Slice.openIsog, Slice.sink, SlicePs.fbBack]; (repeat' split) <;> rfl
@[simp] theorem openIsog_ps_swapStart (x : Slice) : x.openIsog.ps.swapStart = x.ps.swapStart := by
  simp only [Slice.openIsog, Slice.pump, Slice.transmit, Slice.openIsog, Slice.sink, SlicePs.fbBack]; (repeat' split) <;> rfl
@[simp] theorem openIsog_ps_startHeld (x : Slice) : x.openIsog.ps.startHeld = x.ps.startHeld := by
  simp only [Slice.openIsog, Slice.pump, Slice.transmit, Slice.openIsog, Slice.sink, SlicePs.fbBack]; (repeat' split) <;> rfl
@[simp] theorem openIsog_ps_feSamples (x : Slice) : x.openIsog.ps.feSamples = x.ps.feSamples := by
  simp only [Slice.openIsog, Slice.pump, Slice.transmit, Slice.openIsog, Slice.sink, SlicePs.fbBack]; (repeat' split) <;> rfl
@[simp] theorem openIsog_ps_fePrevI (x : Slice) : x.openIsog.ps.fePrevI = x.ps.fePrevI := by
  simp only [Slice.openIsog, Slice.pump, Slice.transmit, Slice.openIsog, Slice.sink, SlicePs.fbBack]; (repeat' split) <;> rfl
@[simp] theorem openIsog_ps_feFrozen (x : Slice) : x.openIsog.ps.feFrozen = x.ps.feFrozen := by
  simp only [Slice.openIsog, Slice.pump, Slice.transmit, Slice.openIsog, Slice.sink, SlicePs.fbBack]; (repeat' split) <;> rfl
@[simp] theorem openIsog_ps_feCx (x : Slice) : x.openIsog.ps.feCx = x.ps.feCx := by
  simp only [Slice.openIsog, Slice.pump, Slice.transmit, Slice.openIsog, Slice.sink, SlicePs.fbBack]; (repeat' split) <;> rfl
@[simp] theorem openIsog_ps_feQuiet (x : Slice) : x.openIsog.ps.feQuiet = x.ps.feQuiet := by
  simp only [Slice.openIsog, Slice.pump, Slice.transmit, Slice.openIsog, Slice.sink, SlicePs.fbBack]; (repeat' split) <;> rfl
@[simp] theorem openIsog_ps_feBad (x : Slice) : x.openIsog.ps.feBad = x.ps.feBad := by
  simp only [Slice.openIsog, Slice.pump, Slice.transmit, Slice.openIsog, Slice.sink, SlicePs.fbBack]; (repeat' split) <;> rfl
@[simp] theorem openIsog_pr_prcfg (x : Slice) : x.openIsog.pr.prcfg = x.pr.prcfg := rfl
@[simp] theorem openIsog_pr_prtime (x : Slice) : x.openIsog.pr.prtime = x.pr.prtime := rfl
@[simp] theorem openIsog_pr_prretry (x : Slice) : x.openIsog.pr.prretry = x.pr.prretry := rfl
@[simp] theorem openIsog_pr_snkpr (x : Slice) : x.openIsog.pr.snkpr = x.pr.snkpr := rfl
@[simp] theorem openIsog_pr_prstat (x : Slice) : x.openIsog.pr.prstat = x.pr.prstat := rfl
@[simp] theorem openIsog_pr_tripv (x : Slice) : x.openIsog.pr.tripv = x.pr.tripv := rfl
@[simp] theorem openIsog_pr_prctl (x : Slice) : x.openIsog.pr.prctl = x.pr.prctl := rfl
@[simp] theorem openIsog_pr_lvl (x : Slice) : x.openIsog.pr.lvl = x.pr.lvl := rfl
@[simp] theorem openIsog_pr_acc (x : Slice) : x.openIsog.pr.acc = x.pr.acc := rfl
@[simp] theorem openIsog_pr_peakRun (x : Slice) : x.openIsog.pr.peakRun = x.pr.peakRun := rfl
@[simp] theorem openIsog_pr_revRun (x : Slice) : x.openIsog.pr.revRun = x.pr.revRun := rfl
@[simp] theorem openIsog_pr_peakNow (x : Slice) : x.openIsog.pr.peakNow = x.pr.peakNow := rfl
@[simp] theorem openIsog_pr_revNow (x : Slice) : x.openIsog.pr.revNow = x.pr.revNow := rfl
@[simp] theorem openIsog_pr_falling (x : Slice) : x.openIsog.pr.falling = x.pr.falling := rfl
@[simp] theorem openIsog_pr_vhiHeld (x : Slice) : x.openIsog.pr.vhiHeld = x.pr.vhiHeld := rfl
@[simp] theorem openIsog_pr_tenSec (x : Slice) : x.openIsog.pr.tenSec = x.pr.tenSec := rfl
@[simp] theorem openIsog_pr_restore (x : Slice) : x.openIsog.pr.restore = x.pr.restore := rfl
@[simp] theorem openIsog_pr_recovered (x : Slice) : x.openIsog.pr.recovered = x.pr.recovered := rfl
@[simp] theorem openIsog_pr_attemptDue (x : Slice) : x.openIsog.pr.attemptDue = x.pr.attemptDue := rfl
@[simp] theorem openIsog_pr_ovSampled (x : Slice) : x.openIsog.pr.ovSampled = x.pr.ovSampled := rfl
@[simp] theorem openIsog_pr_bad (x : Slice) : x.openIsog.pr.bad = x.pr.bad := rfl
@[simp] theorem openIsog_pins_term (x : Slice) : x.openIsog.pins.term = x.pins.term := rfl
@[simp] theorem openIsog_pins_pwm (x : Slice) : x.openIsog.pins.pwm = x.pins.pwm := rfl
@[simp] theorem openIsog_pins_sbu (x : Slice) : x.openIsog.pins.sbu = x.pins.sbu := rfl
@[simp] theorem openIsog_pins_snkg (x : Slice) : x.openIsog.pins.snkg = x.pins.snkg := rfl
@[simp] theorem openIsog_pins_vconnPull (x : Slice) : x.openIsog.pins.vconnPull = x.pins.vconnPull := rfl

/-! `Slice.stopConv` -/

@[simp] theorem stopConv_ps_pwmcfg (x : Slice) : x.stopConv.ps.pwmcfg = x.ps.pwmcfg := rfl
@[simp] theorem stopConv_ps_pwmlim (x : Slice) : x.stopConv.ps.pwmlim = x.ps.pwmlim := rfl
@[simp] theorem stopConv_ps_cmpb0 (x : Slice) : x.stopConv.ps.cmpb0 = x.ps.cmpb0 := rfl
@[simp] theorem stopConv_ps_cmpb1 (x : Slice) : x.stopConv.ps.cmpb1 = x.ps.cmpb1 := rfl
@[simp] theorem stopConv_ps_pscfg (x : Slice) : x.stopConv.ps.pscfg = x.ps.pscfg := rfl
@[simp] theorem stopConv_ps_pwmph (x : Slice) : x.stopConv.ps.pwmph = x.ps.pwmph := rfl
@[simp] theorem stopConv_ps_pwmofs (x : Slice) : x.stopConv.ps.pwmofs = x.ps.pwmofs := rfl
@[simp] theorem stopConv_ps_festat (x : Slice) : x.stopConv.ps.festat = x.ps.festat := rfl
@[simp] theorem stopConv_ps_feres (x : Slice) : x.stopConv.ps.feres = x.ps.feres := rfl
@[simp] theorem stopConv_ps_fevolt (x : Slice) : x.stopConv.ps.fevolt = x.ps.fevolt := rfl
@[simp] theorem stopConv_ps_tlmV (x : Slice) : x.stopConv.ps.tlmV = x.ps.tlmV := rfl
@[simp] theorem stopConv_ps_tlmI (x : Slice) : x.stopConv.ps.tlmI = x.ps.tlmI := rfl
@[simp] theorem stopConv_ps_psctl (x : Slice) : x.stopConv.ps.psctl = x.ps.psctl := rfl
@[simp] theorem stopConv_ps_eno (x : Slice) : x.stopConv.ps.eno = x.ps.eno := rfl
@[simp] theorem stopConv_ps_eni (x : Slice) : x.stopConv.ps.eni = x.ps.eni := rfl
@[simp] theorem stopConv_ps_enoRes (x : Slice) : x.stopConv.ps.enoRes = x.ps.enoRes := rfl
@[simp] theorem stopConv_ps_eniRes (x : Slice) : x.stopConv.ps.eniRes = x.ps.eniRes := rfl
@[simp] theorem stopConv_ps_vset (x : Slice) : x.stopConv.ps.vset = x.ps.vset := rfl
@[simp] theorem stopConv_ps_vref (x : Slice) : x.stopConv.ps.vref = x.ps.vref := rfl
@[simp] theorem stopConv_ps_vpre (x : Slice) : x.stopConv.ps.vpre = x.ps.vpre := rfl
@[simp] theorem stopConv_ps_periods (x : Slice) : x.stopConv.ps.periods = x.ps.periods := rfl
@[simp] theorem stopConv_ps_fbFresh (x : Slice) : x.stopConv.ps.fbFresh = x.ps.fbFresh := rfl
@[simp] theorem stopConv_ps_phase (x : Slice) : x.stopConv.ps.phase = x.ps.phase := rfl
@[simp] theorem stopConv_ps_feSamples (x : Slice) : x.stopConv.ps.feSamples = x.ps.feSamples := rfl
@[simp] theorem stopConv_ps_fePrevI (x : Slice) : x.stopConv.ps.fePrevI = x.ps.fePrevI := rfl
@[simp] theorem stopConv_ps_feFrozen (x : Slice) : x.stopConv.ps.feFrozen = x.ps.feFrozen := rfl
@[simp] theorem stopConv_ps_feCx (x : Slice) : x.stopConv.ps.feCx = x.ps.feCx := rfl
@[simp] theorem stopConv_ps_feQuiet (x : Slice) : x.stopConv.ps.feQuiet = x.ps.feQuiet := rfl
@[simp] theorem stopConv_ps_feBad (x : Slice) : x.stopConv.ps.feBad = x.ps.feBad := rfl
@[simp] theorem stopConv_pr_prcfg (x : Slice) : x.stopConv.pr.prcfg = x.pr.prcfg := rfl
@[simp] theorem stopConv_pr_prtime (x : Slice) : x.stopConv.pr.prtime = x.pr.prtime := rfl
@[simp] theorem stopConv_pr_prretry (x : Slice) : x.stopConv.pr.prretry = x.pr.prretry := rfl
@[simp] theorem stopConv_pr_snkpr (x : Slice) : x.stopConv.pr.snkpr = x.pr.snkpr := rfl
@[simp] theorem stopConv_pr_prstat (x : Slice) : x.stopConv.pr.prstat = x.pr.prstat := rfl
@[simp] theorem stopConv_pr_tripv (x : Slice) : x.stopConv.pr.tripv = x.pr.tripv := rfl
@[simp] theorem stopConv_pr_prctl (x : Slice) : x.stopConv.pr.prctl = x.pr.prctl := rfl
@[simp] theorem stopConv_pr_lvl (x : Slice) : x.stopConv.pr.lvl = x.pr.lvl := rfl
@[simp] theorem stopConv_pr_gateStarted (x : Slice) : x.stopConv.pr.gateStarted = x.pr.gateStarted := rfl
@[simp] theorem stopConv_pr_tenSec (x : Slice) : x.stopConv.pr.tenSec = x.pr.tenSec := rfl
@[simp] theorem stopConv_pr_restore (x : Slice) : x.stopConv.pr.restore = x.pr.restore := rfl
@[simp] theorem stopConv_pr_recovered (x : Slice) : x.stopConv.pr.recovered = x.pr.recovered := rfl
@[simp] theorem stopConv_pr_attemptDue (x : Slice) : x.stopConv.pr.attemptDue = x.pr.attemptDue := rfl
@[simp] theorem stopConv_pr_ovSampled (x : Slice) : x.stopConv.pr.ovSampled = x.pr.ovSampled := rfl
@[simp] theorem stopConv_pr_bad (x : Slice) : x.stopConv.pr.bad = x.pr.bad := rfl
@[simp] theorem stopConv_pins_term (x : Slice) : x.stopConv.pins.term = x.pins.term := rfl
@[simp] theorem stopConv_pins_sbu (x : Slice) : x.stopConv.pins.sbu = x.pins.sbu := rfl
@[simp] theorem stopConv_pins_isog (x : Slice) : x.stopConv.pins.isog = x.pins.isog := rfl
@[simp] theorem stopConv_pins_snkg (x : Slice) : x.stopConv.pins.snkg = x.pins.snkg := rfl
@[simp] theorem stopConv_pins_disch (x : Slice) : x.stopConv.pins.disch = x.pins.disch := rfl
@[simp] theorem stopConv_pins_vconnPull (x : Slice) : x.stopConv.pins.vconnPull = x.pins.vconnPull := rfl

/-! `Slice.powerOff` -/

@[simp] theorem powerOff_ps_pwmcfg (x : Slice) : x.powerOff.ps.pwmcfg = x.ps.pwmcfg := by
  simp only [Slice.powerOff, Slice.pump, Slice.transmit, Slice.openIsog, Slice.sink, SlicePs.fbBack]; (repeat' split) <;> rfl
@[simp] theorem powerOff_ps_pwmlim (x : Slice) : x.powerOff.ps.pwmlim = x.ps.pwmlim := by
  simp only [Slice.powerOff, Slice.pump, Slice.transmit, Slice.openIsog, Slice.sink, SlicePs.fbBack]; (repeat' split) <;> rfl
@[simp] theorem powerOff_ps_cmpb0 (x : Slice) : x.powerOff.ps.cmpb0 = x.ps.cmpb0 := by
  simp only [Slice.powerOff, Slice.pump, Slice.transmit, Slice.openIsog, Slice.sink, SlicePs.fbBack]; (repeat' split) <;> rfl
@[simp] theorem powerOff_ps_cmpb1 (x : Slice) : x.powerOff.ps.cmpb1 = x.ps.cmpb1 := by
  simp only [Slice.powerOff, Slice.pump, Slice.transmit, Slice.openIsog, Slice.sink, SlicePs.fbBack]; (repeat' split) <;> rfl
@[simp] theorem powerOff_ps_pscfg (x : Slice) : x.powerOff.ps.pscfg = x.ps.pscfg := by
  simp only [Slice.powerOff, Slice.pump, Slice.transmit, Slice.openIsog, Slice.sink, SlicePs.fbBack]; (repeat' split) <;> rfl
@[simp] theorem powerOff_ps_pwmph (x : Slice) : x.powerOff.ps.pwmph = x.ps.pwmph := by
  simp only [Slice.powerOff, Slice.pump, Slice.transmit, Slice.openIsog, Slice.sink, SlicePs.fbBack]; (repeat' split) <;> rfl
@[simp] theorem powerOff_ps_pwmofs (x : Slice) : x.powerOff.ps.pwmofs = x.ps.pwmofs := by
  simp only [Slice.powerOff, Slice.pump, Slice.transmit, Slice.openIsog, Slice.sink, SlicePs.fbBack]; (repeat' split) <;> rfl
@[simp] theorem powerOff_ps_festat (x : Slice) : x.powerOff.ps.festat = x.ps.festat := by
  simp only [Slice.powerOff, Slice.pump, Slice.transmit, Slice.openIsog, Slice.sink, SlicePs.fbBack]; (repeat' split) <;> rfl
@[simp] theorem powerOff_ps_feres (x : Slice) : x.powerOff.ps.feres = x.ps.feres := by
  simp only [Slice.powerOff, Slice.pump, Slice.transmit, Slice.openIsog, Slice.sink, SlicePs.fbBack]; (repeat' split) <;> rfl
@[simp] theorem powerOff_ps_fevolt (x : Slice) : x.powerOff.ps.fevolt = x.ps.fevolt := by
  simp only [Slice.powerOff, Slice.pump, Slice.transmit, Slice.openIsog, Slice.sink, SlicePs.fbBack]; (repeat' split) <;> rfl
@[simp] theorem powerOff_ps_tlmV (x : Slice) : x.powerOff.ps.tlmV = x.ps.tlmV := by
  simp only [Slice.powerOff, Slice.pump, Slice.transmit, Slice.openIsog, Slice.sink, SlicePs.fbBack]; (repeat' split) <;> rfl
@[simp] theorem powerOff_ps_tlmI (x : Slice) : x.powerOff.ps.tlmI = x.ps.tlmI := by
  simp only [Slice.powerOff, Slice.pump, Slice.transmit, Slice.openIsog, Slice.sink, SlicePs.fbBack]; (repeat' split) <;> rfl
@[simp] theorem powerOff_ps_psctl (x : Slice) : x.powerOff.ps.psctl = x.ps.psctl := by
  simp only [Slice.powerOff, Slice.pump, Slice.transmit, Slice.openIsog, Slice.sink, SlicePs.fbBack]; (repeat' split) <;> rfl
@[simp] theorem powerOff_ps_eno (x : Slice) : x.powerOff.ps.eno = x.ps.eno := by
  simp only [Slice.powerOff, Slice.pump, Slice.transmit, Slice.openIsog, Slice.sink, SlicePs.fbBack]; (repeat' split) <;> rfl
@[simp] theorem powerOff_ps_eni (x : Slice) : x.powerOff.ps.eni = x.ps.eni := by
  simp only [Slice.powerOff, Slice.pump, Slice.transmit, Slice.openIsog, Slice.sink, SlicePs.fbBack]; (repeat' split) <;> rfl
@[simp] theorem powerOff_ps_enoRes (x : Slice) : x.powerOff.ps.enoRes = x.ps.enoRes := by
  simp only [Slice.powerOff, Slice.pump, Slice.transmit, Slice.openIsog, Slice.sink, SlicePs.fbBack]; (repeat' split) <;> rfl
@[simp] theorem powerOff_ps_eniRes (x : Slice) : x.powerOff.ps.eniRes = x.ps.eniRes := by
  simp only [Slice.powerOff, Slice.pump, Slice.transmit, Slice.openIsog, Slice.sink, SlicePs.fbBack]; (repeat' split) <;> rfl
@[simp] theorem powerOff_ps_vset (x : Slice) : x.powerOff.ps.vset = x.ps.vset := by
  simp only [Slice.powerOff, Slice.pump, Slice.transmit, Slice.openIsog, Slice.sink, SlicePs.fbBack]; (repeat' split) <;> rfl
@[simp] theorem powerOff_ps_vref (x : Slice) : x.powerOff.ps.vref = x.ps.vref := by
  simp only [Slice.powerOff, Slice.pump, Slice.transmit, Slice.openIsog, Slice.sink, SlicePs.fbBack]; (repeat' split) <;> rfl
@[simp] theorem powerOff_ps_vpre (x : Slice) : x.powerOff.ps.vpre = x.ps.vpre := by
  simp only [Slice.powerOff, Slice.pump, Slice.transmit, Slice.openIsog, Slice.sink, SlicePs.fbBack]; (repeat' split) <;> rfl
@[simp] theorem powerOff_ps_periods (x : Slice) : x.powerOff.ps.periods = x.ps.periods := by
  simp only [Slice.powerOff, Slice.pump, Slice.transmit, Slice.openIsog, Slice.sink, SlicePs.fbBack]; (repeat' split) <;> rfl
@[simp] theorem powerOff_ps_phase (x : Slice) : x.powerOff.ps.phase = x.ps.phase := by
  simp only [Slice.powerOff, Slice.pump, Slice.transmit, Slice.openIsog, Slice.sink, SlicePs.fbBack]; (repeat' split) <;> rfl
@[simp] theorem powerOff_ps_feSamples (x : Slice) : x.powerOff.ps.feSamples = x.ps.feSamples := by
  simp only [Slice.powerOff, Slice.pump, Slice.transmit, Slice.openIsog, Slice.sink, SlicePs.fbBack]; (repeat' split) <;> rfl
@[simp] theorem powerOff_ps_fePrevI (x : Slice) : x.powerOff.ps.fePrevI = x.ps.fePrevI := by
  simp only [Slice.powerOff, Slice.pump, Slice.transmit, Slice.openIsog, Slice.sink, SlicePs.fbBack]; (repeat' split) <;> rfl
@[simp] theorem powerOff_ps_feFrozen (x : Slice) : x.powerOff.ps.feFrozen = x.ps.feFrozen := by
  simp only [Slice.powerOff, Slice.pump, Slice.transmit, Slice.openIsog, Slice.sink, SlicePs.fbBack]; (repeat' split) <;> rfl
@[simp] theorem powerOff_ps_feCx (x : Slice) : x.powerOff.ps.feCx = x.ps.feCx := by
  simp only [Slice.powerOff, Slice.pump, Slice.transmit, Slice.openIsog, Slice.sink, SlicePs.fbBack]; (repeat' split) <;> rfl
@[simp] theorem powerOff_ps_feQuiet (x : Slice) : x.powerOff.ps.feQuiet = x.ps.feQuiet := by
  simp only [Slice.powerOff, Slice.pump, Slice.transmit, Slice.openIsog, Slice.sink, SlicePs.fbBack]; (repeat' split) <;> rfl
@[simp] theorem powerOff_ps_feBad (x : Slice) : x.powerOff.ps.feBad = x.ps.feBad := by
  simp only [Slice.powerOff, Slice.pump, Slice.transmit, Slice.openIsog, Slice.sink, SlicePs.fbBack]; (repeat' split) <;> rfl
@[simp] theorem powerOff_pr_prcfg (x : Slice) : x.powerOff.pr.prcfg = x.pr.prcfg := rfl
@[simp] theorem powerOff_pr_prtime (x : Slice) : x.powerOff.pr.prtime = x.pr.prtime := rfl
@[simp] theorem powerOff_pr_prretry (x : Slice) : x.powerOff.pr.prretry = x.pr.prretry := rfl
@[simp] theorem powerOff_pr_snkpr (x : Slice) : x.powerOff.pr.snkpr = x.pr.snkpr := rfl
@[simp] theorem powerOff_pr_prstat (x : Slice) : x.powerOff.pr.prstat = x.pr.prstat := rfl
@[simp] theorem powerOff_pr_tripv (x : Slice) : x.powerOff.pr.tripv = x.pr.tripv := rfl
@[simp] theorem powerOff_pr_prctl (x : Slice) : x.powerOff.pr.prctl = x.pr.prctl := rfl
@[simp] theorem powerOff_pr_lvl (x : Slice) : x.powerOff.pr.lvl = x.pr.lvl := rfl
@[simp] theorem powerOff_pr_tenSec (x : Slice) : x.powerOff.pr.tenSec = x.pr.tenSec := rfl
@[simp] theorem powerOff_pr_restore (x : Slice) : x.powerOff.pr.restore = x.pr.restore := rfl
@[simp] theorem powerOff_pr_recovered (x : Slice) : x.powerOff.pr.recovered = x.pr.recovered := rfl
@[simp] theorem powerOff_pr_attemptDue (x : Slice) : x.powerOff.pr.attemptDue = x.pr.attemptDue := rfl
@[simp] theorem powerOff_pr_ovSampled (x : Slice) : x.powerOff.pr.ovSampled = x.pr.ovSampled := rfl
@[simp] theorem powerOff_pr_bad (x : Slice) : x.powerOff.pr.bad = x.pr.bad := rfl
@[simp] theorem powerOff_pins_term (x : Slice) : x.powerOff.pins.term = x.pins.term := rfl
@[simp] theorem powerOff_pins_sbu (x : Slice) : x.powerOff.pins.sbu = x.pins.sbu := rfl
@[simp] theorem powerOff_pins_snkg (x : Slice) : x.powerOff.pins.snkg = x.pins.snkg := rfl
@[simp] theorem powerOff_pins_vconnPull (x : Slice) : x.powerOff.pins.vconnPull = x.pins.vconnPull := rfl

/-! `Slice.rampDown` -/

@[simp] theorem rampDown_ps_pwmcfg (x : Slice) : x.rampDown.ps.pwmcfg = x.ps.pwmcfg := rfl
@[simp] theorem rampDown_ps_pwmlim (x : Slice) : x.rampDown.ps.pwmlim = x.ps.pwmlim := rfl
@[simp] theorem rampDown_ps_cmpb0 (x : Slice) : x.rampDown.ps.cmpb0 = x.ps.cmpb0 := rfl
@[simp] theorem rampDown_ps_cmpb1 (x : Slice) : x.rampDown.ps.cmpb1 = x.ps.cmpb1 := rfl
@[simp] theorem rampDown_ps_pscfg (x : Slice) : x.rampDown.ps.pscfg = x.ps.pscfg := rfl
@[simp] theorem rampDown_ps_pwmph (x : Slice) : x.rampDown.ps.pwmph = x.ps.pwmph := rfl
@[simp] theorem rampDown_ps_pwmofs (x : Slice) : x.rampDown.ps.pwmofs = x.ps.pwmofs := rfl
@[simp] theorem rampDown_ps_festat (x : Slice) : x.rampDown.ps.festat = x.ps.festat := rfl
@[simp] theorem rampDown_ps_feres (x : Slice) : x.rampDown.ps.feres = x.ps.feres := rfl
@[simp] theorem rampDown_ps_fevolt (x : Slice) : x.rampDown.ps.fevolt = x.ps.fevolt := rfl
@[simp] theorem rampDown_ps_tlmV (x : Slice) : x.rampDown.ps.tlmV = x.ps.tlmV := rfl
@[simp] theorem rampDown_ps_tlmI (x : Slice) : x.rampDown.ps.tlmI = x.ps.tlmI := rfl
@[simp] theorem rampDown_ps_psctl (x : Slice) : x.rampDown.ps.psctl = x.ps.psctl := rfl
@[simp] theorem rampDown_ps_eno (x : Slice) : x.rampDown.ps.eno = x.ps.eno := rfl
@[simp] theorem rampDown_ps_eni (x : Slice) : x.rampDown.ps.eni = x.ps.eni := rfl
@[simp] theorem rampDown_ps_enoRes (x : Slice) : x.rampDown.ps.enoRes = x.ps.enoRes := rfl
@[simp] theorem rampDown_ps_eniRes (x : Slice) : x.rampDown.ps.eniRes = x.ps.eniRes := rfl
@[simp] theorem rampDown_ps_vset (x : Slice) : x.rampDown.ps.vset = x.ps.vset := rfl
@[simp] theorem rampDown_ps_vref (x : Slice) : x.rampDown.ps.vref = x.ps.vref := rfl
@[simp] theorem rampDown_ps_u1 (x : Slice) : x.rampDown.ps.u1 = x.ps.u1 := rfl
@[simp] theorem rampDown_ps_u2 (x : Slice) : x.rampDown.ps.u2 = x.ps.u2 := rfl
@[simp] theorem rampDown_ps_e1 (x : Slice) : x.rampDown.ps.e1 = x.ps.e1 := rfl
@[simp] theorem rampDown_ps_e2 (x : Slice) : x.rampDown.ps.e2 = x.ps.e2 := rfl
@[simp] theorem rampDown_ps_steps (x : Slice) : x.rampDown.ps.steps = x.ps.steps := rfl
@[simp] theorem rampDown_ps_vpre (x : Slice) : x.rampDown.ps.vpre = x.ps.vpre := rfl
@[simp] theorem rampDown_ps_periods (x : Slice) : x.rampDown.ps.periods = x.ps.periods := rfl
@[simp] theorem rampDown_ps_fbFresh (x : Slice) : x.rampDown.ps.fbFresh = x.ps.fbFresh := rfl
@[simp] theorem rampDown_ps_phase (x : Slice) : x.rampDown.ps.phase = x.ps.phase := rfl
@[simp] theorem rampDown_ps_swapStart (x : Slice) : x.rampDown.ps.swapStart = x.ps.swapStart := rfl
@[simp] theorem rampDown_ps_startHeld (x : Slice) : x.rampDown.ps.startHeld = x.ps.startHeld := rfl
@[simp] theorem rampDown_ps_feSamples (x : Slice) : x.rampDown.ps.feSamples = x.ps.feSamples := rfl
@[simp] theorem rampDown_ps_fePrevI (x : Slice) : x.rampDown.ps.fePrevI = x.ps.fePrevI := rfl
@[simp] theorem rampDown_ps_feFrozen (x : Slice) : x.rampDown.ps.feFrozen = x.ps.feFrozen := rfl
@[simp] theorem rampDown_ps_feCx (x : Slice) : x.rampDown.ps.feCx = x.ps.feCx := rfl
@[simp] theorem rampDown_ps_feQuiet (x : Slice) : x.rampDown.ps.feQuiet = x.ps.feQuiet := rfl
@[simp] theorem rampDown_ps_feBad (x : Slice) : x.rampDown.ps.feBad = x.ps.feBad := rfl
@[simp] theorem rampDown_pr_prcfg (x : Slice) : x.rampDown.pr.prcfg = x.pr.prcfg := rfl
@[simp] theorem rampDown_pr_prtime (x : Slice) : x.rampDown.pr.prtime = x.pr.prtime := rfl
@[simp] theorem rampDown_pr_prretry (x : Slice) : x.rampDown.pr.prretry = x.pr.prretry := rfl
@[simp] theorem rampDown_pr_snkpr (x : Slice) : x.rampDown.pr.snkpr = x.pr.snkpr := rfl
@[simp] theorem rampDown_pr_prstat (x : Slice) : x.rampDown.pr.prstat = x.pr.prstat := rfl
@[simp] theorem rampDown_pr_tripv (x : Slice) : x.rampDown.pr.tripv = x.pr.tripv := rfl
@[simp] theorem rampDown_pr_prctl (x : Slice) : x.rampDown.pr.prctl = x.pr.prctl := rfl
@[simp] theorem rampDown_pr_lvl (x : Slice) : x.rampDown.pr.lvl = x.pr.lvl := rfl
@[simp] theorem rampDown_pr_acc (x : Slice) : x.rampDown.pr.acc = x.pr.acc := rfl
@[simp] theorem rampDown_pr_peakRun (x : Slice) : x.rampDown.pr.peakRun = x.pr.peakRun := rfl
@[simp] theorem rampDown_pr_revRun (x : Slice) : x.rampDown.pr.revRun = x.pr.revRun := rfl
@[simp] theorem rampDown_pr_peakNow (x : Slice) : x.rampDown.pr.peakNow = x.pr.peakNow := rfl
@[simp] theorem rampDown_pr_revNow (x : Slice) : x.rampDown.pr.revNow = x.pr.revNow := rfl
@[simp] theorem rampDown_pr_falling (x : Slice) : x.rampDown.pr.falling = x.pr.falling := rfl
@[simp] theorem rampDown_pr_gateStarted (x : Slice) : x.rampDown.pr.gateStarted = x.pr.gateStarted := rfl
@[simp] theorem rampDown_pr_tenSec (x : Slice) : x.rampDown.pr.tenSec = x.pr.tenSec := rfl
@[simp] theorem rampDown_pr_restore (x : Slice) : x.rampDown.pr.restore = x.pr.restore := rfl
@[simp] theorem rampDown_pr_recovered (x : Slice) : x.rampDown.pr.recovered = x.pr.recovered := rfl
@[simp] theorem rampDown_pr_attemptDue (x : Slice) : x.rampDown.pr.attemptDue = x.pr.attemptDue := rfl
@[simp] theorem rampDown_pr_ovSampled (x : Slice) : x.rampDown.pr.ovSampled = x.pr.ovSampled := rfl
@[simp] theorem rampDown_pr_bad (x : Slice) : x.rampDown.pr.bad = x.pr.bad := rfl
@[simp] theorem rampDown_pins_term (x : Slice) : x.rampDown.pins.term = x.pins.term := rfl
@[simp] theorem rampDown_pins_sbu (x : Slice) : x.rampDown.pins.sbu = x.pins.sbu := rfl
@[simp] theorem rampDown_pins_isog (x : Slice) : x.rampDown.pins.isog = x.pins.isog := rfl
@[simp] theorem rampDown_pins_snkg (x : Slice) : x.rampDown.pins.snkg = x.pins.snkg := rfl
@[simp] theorem rampDown_pins_disch (x : Slice) : x.rampDown.pins.disch = x.pins.disch := rfl
@[simp] theorem rampDown_pins_vconnPull (x : Slice) : x.rampDown.pins.vconnPull = x.pins.vconnPull := rfl

/-! `Slice.beginStart` -/

@[simp] theorem beginStart_ps_pwmcfg (x : Slice) : x.beginStart.ps.pwmcfg = x.ps.pwmcfg := by
  simp only [Slice.beginStart, Slice.pump, Slice.transmit, Slice.openIsog, Slice.sink, SlicePs.fbBack]; (repeat' split) <;> rfl
@[simp] theorem beginStart_ps_pwmlim (x : Slice) : x.beginStart.ps.pwmlim = x.ps.pwmlim := by
  simp only [Slice.beginStart, Slice.pump, Slice.transmit, Slice.openIsog, Slice.sink, SlicePs.fbBack]; (repeat' split) <;> rfl
@[simp] theorem beginStart_ps_cmpb0 (x : Slice) : x.beginStart.ps.cmpb0 = x.ps.cmpb0 := by
  simp only [Slice.beginStart, Slice.pump, Slice.transmit, Slice.openIsog, Slice.sink, SlicePs.fbBack]; (repeat' split) <;> rfl
@[simp] theorem beginStart_ps_cmpb1 (x : Slice) : x.beginStart.ps.cmpb1 = x.ps.cmpb1 := by
  simp only [Slice.beginStart, Slice.pump, Slice.transmit, Slice.openIsog, Slice.sink, SlicePs.fbBack]; (repeat' split) <;> rfl
@[simp] theorem beginStart_ps_pscfg (x : Slice) : x.beginStart.ps.pscfg = x.ps.pscfg := by
  simp only [Slice.beginStart, Slice.pump, Slice.transmit, Slice.openIsog, Slice.sink, SlicePs.fbBack]; (repeat' split) <;> rfl
@[simp] theorem beginStart_ps_pwmph (x : Slice) : x.beginStart.ps.pwmph = x.ps.pwmph := by
  simp only [Slice.beginStart, Slice.pump, Slice.transmit, Slice.openIsog, Slice.sink, SlicePs.fbBack]; (repeat' split) <;> rfl
@[simp] theorem beginStart_ps_pwmofs (x : Slice) : x.beginStart.ps.pwmofs = x.ps.pwmofs := by
  simp only [Slice.beginStart, Slice.pump, Slice.transmit, Slice.openIsog, Slice.sink, SlicePs.fbBack]; (repeat' split) <;> rfl
@[simp] theorem beginStart_ps_festat (x : Slice) : x.beginStart.ps.festat = x.ps.festat := by
  simp only [Slice.beginStart, Slice.pump, Slice.transmit, Slice.openIsog, Slice.sink, SlicePs.fbBack]; (repeat' split) <;> rfl
@[simp] theorem beginStart_ps_feres (x : Slice) : x.beginStart.ps.feres = x.ps.feres := by
  simp only [Slice.beginStart, Slice.pump, Slice.transmit, Slice.openIsog, Slice.sink, SlicePs.fbBack]; (repeat' split) <;> rfl
@[simp] theorem beginStart_ps_fevolt (x : Slice) : x.beginStart.ps.fevolt = x.ps.fevolt := by
  simp only [Slice.beginStart, Slice.pump, Slice.transmit, Slice.openIsog, Slice.sink, SlicePs.fbBack]; (repeat' split) <;> rfl
@[simp] theorem beginStart_ps_tlmV (x : Slice) : x.beginStart.ps.tlmV = x.ps.tlmV := by
  simp only [Slice.beginStart, Slice.pump, Slice.transmit, Slice.openIsog, Slice.sink, SlicePs.fbBack]; (repeat' split) <;> rfl
@[simp] theorem beginStart_ps_tlmI (x : Slice) : x.beginStart.ps.tlmI = x.ps.tlmI := by
  simp only [Slice.beginStart, Slice.pump, Slice.transmit, Slice.openIsog, Slice.sink, SlicePs.fbBack]; (repeat' split) <;> rfl
@[simp] theorem beginStart_ps_psctl (x : Slice) : x.beginStart.ps.psctl = x.ps.psctl := by
  simp only [Slice.beginStart, Slice.pump, Slice.transmit, Slice.openIsog, Slice.sink, SlicePs.fbBack]; (repeat' split) <;> rfl
@[simp] theorem beginStart_ps_eno (x : Slice) : x.beginStart.ps.eno = x.ps.eno := by
  simp only [Slice.beginStart, Slice.pump, Slice.transmit, Slice.openIsog, Slice.sink, SlicePs.fbBack]; (repeat' split) <;> rfl
@[simp] theorem beginStart_ps_eni (x : Slice) : x.beginStart.ps.eni = x.ps.eni := by
  simp only [Slice.beginStart, Slice.pump, Slice.transmit, Slice.openIsog, Slice.sink, SlicePs.fbBack]; (repeat' split) <;> rfl
@[simp] theorem beginStart_ps_enoRes (x : Slice) : x.beginStart.ps.enoRes = x.ps.enoRes := by
  simp only [Slice.beginStart, Slice.pump, Slice.transmit, Slice.openIsog, Slice.sink, SlicePs.fbBack]; (repeat' split) <;> rfl
@[simp] theorem beginStart_ps_eniRes (x : Slice) : x.beginStart.ps.eniRes = x.ps.eniRes := by
  simp only [Slice.beginStart, Slice.pump, Slice.transmit, Slice.openIsog, Slice.sink, SlicePs.fbBack]; (repeat' split) <;> rfl
@[simp] theorem beginStart_ps_u1 (x : Slice) : x.beginStart.ps.u1 = x.ps.u1 := by
  simp only [Slice.beginStart, Slice.pump, Slice.transmit, Slice.openIsog, Slice.sink, SlicePs.fbBack]; (repeat' split) <;> rfl
@[simp] theorem beginStart_ps_u2 (x : Slice) : x.beginStart.ps.u2 = x.ps.u2 := by
  simp only [Slice.beginStart, Slice.pump, Slice.transmit, Slice.openIsog, Slice.sink, SlicePs.fbBack]; (repeat' split) <;> rfl
@[simp] theorem beginStart_ps_e1 (x : Slice) : x.beginStart.ps.e1 = x.ps.e1 := by
  simp only [Slice.beginStart, Slice.pump, Slice.transmit, Slice.openIsog, Slice.sink, SlicePs.fbBack]; (repeat' split) <;> rfl
@[simp] theorem beginStart_ps_e2 (x : Slice) : x.beginStart.ps.e2 = x.ps.e2 := by
  simp only [Slice.beginStart, Slice.pump, Slice.transmit, Slice.openIsog, Slice.sink, SlicePs.fbBack]; (repeat' split) <;> rfl
@[simp] theorem beginStart_ps_steps (x : Slice) : x.beginStart.ps.steps = x.ps.steps := by
  simp only [Slice.beginStart, Slice.pump, Slice.transmit, Slice.openIsog, Slice.sink, SlicePs.fbBack]; (repeat' split) <;> rfl
@[simp] theorem beginStart_ps_phase (x : Slice) : x.beginStart.ps.phase = x.ps.phase := by
  simp only [Slice.beginStart, Slice.pump, Slice.transmit, Slice.openIsog, Slice.sink, SlicePs.fbBack]; (repeat' split) <;> rfl
@[simp] theorem beginStart_ps_swapStart (x : Slice) : x.beginStart.ps.swapStart = x.ps.swapStart := by
  simp only [Slice.beginStart, Slice.pump, Slice.transmit, Slice.openIsog, Slice.sink, SlicePs.fbBack]; (repeat' split) <;> rfl
@[simp] theorem beginStart_ps_feSamples (x : Slice) : x.beginStart.ps.feSamples = x.ps.feSamples := by
  simp only [Slice.beginStart, Slice.pump, Slice.transmit, Slice.openIsog, Slice.sink, SlicePs.fbBack]; (repeat' split) <;> rfl
@[simp] theorem beginStart_ps_fePrevI (x : Slice) : x.beginStart.ps.fePrevI = x.ps.fePrevI := by
  simp only [Slice.beginStart, Slice.pump, Slice.transmit, Slice.openIsog, Slice.sink, SlicePs.fbBack]; (repeat' split) <;> rfl
@[simp] theorem beginStart_ps_feFrozen (x : Slice) : x.beginStart.ps.feFrozen = x.ps.feFrozen := by
  simp only [Slice.beginStart, Slice.pump, Slice.transmit, Slice.openIsog, Slice.sink, SlicePs.fbBack]; (repeat' split) <;> rfl
@[simp] theorem beginStart_ps_feCx (x : Slice) : x.beginStart.ps.feCx = x.ps.feCx := by
  simp only [Slice.beginStart, Slice.pump, Slice.transmit, Slice.openIsog, Slice.sink, SlicePs.fbBack]; (repeat' split) <;> rfl
@[simp] theorem beginStart_ps_feQuiet (x : Slice) : x.beginStart.ps.feQuiet = x.ps.feQuiet := by
  simp only [Slice.beginStart, Slice.pump, Slice.transmit, Slice.openIsog, Slice.sink, SlicePs.fbBack]; (repeat' split) <;> rfl
@[simp] theorem beginStart_ps_feBad (x : Slice) : x.beginStart.ps.feBad = x.ps.feBad := by
  simp only [Slice.beginStart, Slice.pump, Slice.transmit, Slice.openIsog, Slice.sink, SlicePs.fbBack]; (repeat' split) <;> rfl
@[simp] theorem beginStart_pins_term (x : Slice) : x.beginStart.pins.term = x.pins.term := rfl
@[simp] theorem beginStart_pins_sbu (x : Slice) : x.beginStart.pins.sbu = x.pins.sbu := rfl
@[simp] theorem beginStart_pins_isog (x : Slice) : x.beginStart.pins.isog = x.pins.isog := rfl
@[simp] theorem beginStart_pins_snkg (x : Slice) : x.beginStart.pins.snkg = x.pins.snkg := rfl
@[simp] theorem beginStart_pins_disch (x : Slice) : x.beginStart.pins.disch = x.pins.disch := rfl
@[simp] theorem beginStart_pins_vconnPull (x : Slice) : x.beginStart.pins.vconnPull = x.pins.vconnPull := rfl

/-! `Slice.enter` -/

@[simp] theorem enter_att_attcfg (st : BitVec 4) (x : Slice) : (Slice.enter st x).att.attcfg = x.att.attcfg := rfl
@[simp] theorem enter_att_ccmeas (st : BitVec 4) (x : Slice) : (Slice.enter st x).att.ccmeas = x.att.ccmeas := rfl
@[simp] theorem enter_att_vconn (st : BitVec 4) (x : Slice) : (Slice.enter st x).att.vconn = x.att.vconn := rfl
@[simp] theorem enter_att_attctl (st : BitVec 4) (x : Slice) : (Slice.enter st x).att.attctl = x.att.attctl := rfl
@[simp] theorem enter_att_c1 (st : BitVec 4) (x : Slice) : (Slice.enter st x).att.c1 = x.att.c1 := rfl
@[simp] theorem enter_att_c2 (st : BitVec 4) (x : Slice) : (Slice.enter st x).att.c2 = x.att.c2 := rfl
@[simp] theorem enter_att_rp1 (st : BitVec 4) (x : Slice) : (Slice.enter st x).att.rp1 = x.att.rp1 := rfl
@[simp] theorem enter_att_rp2 (st : BitVec 4) (x : Slice) : (Slice.enter st x).att.rp2 = x.att.rp2 := rfl
@[simp] theorem enter_att_vconnLow (st : BitVec 4) (x : Slice) : (Slice.enter st x).att.vconnLow = x.att.vconnLow := rfl
@[simp] theorem enter_att_detaching (st : BitVec 4) (x : Slice) : (Slice.enter st x).att.detaching = x.att.detaching := rfl
@[simp] theorem enter_att_vbusMv (st : BitVec 4) (x : Slice) : (Slice.enter st x).att.vbusMv = x.att.vbusMv := rfl
@[simp] theorem enter_pd_pdcfg (st : BitVec 4) (x : Slice) : (Slice.enter st x).pd.pdcfg = x.pd.pdcfg := rfl
@[simp] theorem enter_pd_pdcnt (st : BitVec 4) (x : Slice) : (Slice.enter st x).pd.pdcnt = x.pd.pdcnt := rfl
@[simp] theorem enter_pd_pdctl (st : BitVec 4) (x : Slice) : (Slice.enter st x).pd.pdctl = x.pd.pdctl := rfl
@[simp] theorem enter_pd_cblVdo (st : BitVec 4) (x : Slice) : (Slice.enter st x).pd.cblVdo = x.pd.cblVdo := rfl
@[simp] theorem enter_pd_cblVdo2 (st : BitVec 4) (x : Slice) : (Slice.enter st x).pd.cblVdo2 = x.pd.cblVdo2 := rfl
@[simp] theorem enter_pd_cblId (st : BitVec 4) (x : Slice) : (Slice.enter st x).pd.cblId = x.pd.cblId := rfl
@[simp] theorem enter_pd_cblStat (st : BitVec 4) (x : Slice) : (Slice.enter st x).pd.cblStat = x.pd.cblStat := rfl
@[simp] theorem enter_pd_txId (st : BitVec 4) (x : Slice) : (Slice.enter st x).pd.txId = x.pd.txId := rfl
@[simp] theorem enter_pd_rxId (st : BitVec 4) (x : Slice) : (Slice.enter st x).pd.rxId = x.pd.rxId := rfl
@[simp] theorem enter_pd_rxBuf (st : BitVec 4) (x : Slice) : (Slice.enter st x).pd.rxBuf = x.pd.rxBuf := rfl
@[simp] theorem enter_pd_goodCrc (st : BitVec 4) (x : Slice) : (Slice.enter st x).pd.goodCrc = x.pd.goodCrc := rfl
@[simp] theorem enter_pd_ready (st : BitVec 4) (x : Slice) : (Slice.enter st x).pd.ready = x.pd.ready := rfl
@[simp] theorem enter_pd_restart (st : BitVec 4) (x : Slice) : (Slice.enter st x).pd.restart = x.pd.restart := rfl
@[simp] theorem enter_pd_inflight (st : BitVec 4) (x : Slice) : (Slice.enter st x).pd.inflight = x.pd.inflight := rfl
@[simp] theorem enter_pd_retries (st : BitVec 4) (x : Slice) : (Slice.enter st x).pd.retries = x.pd.retries := rfl
@[simp] theorem enter_pd_waitReply (st : BitVec 4) (x : Slice) : (Slice.enter st x).pd.waitReply = x.pd.waitReply := rfl
@[simp] theorem enter_pd_partnerAms (st : BitVec 4) (x : Slice) : (Slice.enter st x).pd.partnerAms = x.pd.partnerAms := rfl
@[simp] theorem enter_pd_ownOpen (st : BitVec 4) (x : Slice) : (Slice.enter st x).pd.ownOpen = x.pd.ownOpen := rfl
@[simp] theorem enter_pd_hrSent (st : BitVec 4) (x : Slice) : (Slice.enter st x).pd.hrSent = x.pd.hrSent := rfl
@[simp] theorem enter_pd_hadContract (st : BitVec 4) (x : Slice) : (Slice.enter st x).pd.hadContract = x.pd.hadContract := rfl
@[simp] theorem enter_pd_conSince (st : BitVec 4) (x : Slice) : (Slice.enter st x).pd.conSince = x.pd.conSince := rfl
@[simp] theorem enter_pd_capsTries (st : BitVec 4) (x : Slice) : (Slice.enter st x).pd.capsTries = x.pd.capsTries := rfl
@[simp] theorem enter_pd_capsSent (st : BitVec 4) (x : Slice) : (Slice.enter st x).pd.capsSent = x.pd.capsSent := rfl
@[simp] theorem enter_pd_discovering (st : BitVec 4) (x : Slice) : (Slice.enter st x).pd.discovering = x.pd.discovering := rfl
@[simp] theorem enter_pd_discEnded (st : BitVec 4) (x : Slice) : (Slice.enter st x).pd.discEnded = x.pd.discEnded := rfl
@[simp] theorem enter_pd_discSop2 (st : BitVec 4) (x : Slice) : (Slice.enter st x).pd.discSop2 = x.pd.discSop2 := rfl
@[simp] theorem enter_pd_hrPhase (st : BitVec 4) (x : Slice) : (Slice.enter st x).pd.hrPhase = x.pd.hrPhase := rfl
@[simp] theorem enter_pd_hrWait (st : BitVec 4) (x : Slice) : (Slice.enter st x).pd.hrWait = x.pd.hrWait := rfl
@[simp] theorem enter_pd_unchkOffered (st : BitVec 4) (x : Slice) : (Slice.enter st x).pd.unchkOffered = x.pd.unchkOffered := rfl
@[simp] theorem enter_pd_chunkRx (st : BitVec 4) (x : Slice) : (Slice.enter st x).pd.chunkRx = x.pd.chunkRx := rfl
@[simp] theorem enter_pd_chunkTx (st : BitVec 4) (x : Slice) : (Slice.enter st x).pd.chunkTx = x.pd.chunkTx := rfl
@[simp] theorem enter_pd_bistCarrier (st : BitVec 4) (x : Slice) : (Slice.enter st x).pd.bistCarrier = x.pd.bistCarrier := rfl
@[simp] theorem enter_pd_busyCount (st : BitVec 4) (x : Slice) : (Slice.enter st x).pd.busyCount = x.pd.busyCount := rfl
@[simp] theorem enter_pins_pwm (st : BitVec 4) (x : Slice) : (Slice.enter st x).pins.pwm = x.pins.pwm := rfl
@[simp] theorem enter_pins_sbu (st : BitVec 4) (x : Slice) : (Slice.enter st x).pins.sbu = x.pins.sbu := rfl
@[simp] theorem enter_pins_isog (st : BitVec 4) (x : Slice) : (Slice.enter st x).pins.isog = x.pins.isog := rfl
@[simp] theorem enter_pins_snkg (st : BitVec 4) (x : Slice) : (Slice.enter st x).pins.snkg = x.pins.snkg := rfl
@[simp] theorem enter_pins_disch (st : BitVec 4) (x : Slice) : (Slice.enter st x).pins.disch = x.pins.disch := rfl
@[simp] theorem enter_pins_vconnPull (st : BitVec 4) (x : Slice) : (Slice.enter st x).pins.vconnPull = x.pins.vconnPull := rfl

/-! `Slice.unattached` -/

@[simp] theorem unattached_att_attcfg (x : Slice) : x.unattached.att.attcfg = x.att.attcfg := rfl
@[simp] theorem unattached_att_ccmeas (x : Slice) : x.unattached.att.ccmeas = x.att.ccmeas := rfl
@[simp] theorem unattached_att_vconn (x : Slice) : x.unattached.att.vconn = x.att.vconn := rfl
@[simp] theorem unattached_att_attctl (x : Slice) : x.unattached.att.attctl = x.att.attctl := rfl
@[simp] theorem unattached_att_c1 (x : Slice) : x.unattached.att.c1 = x.att.c1 := rfl
@[simp] theorem unattached_att_c2 (x : Slice) : x.unattached.att.c2 = x.att.c2 := rfl
@[simp] theorem unattached_att_rp1 (x : Slice) : x.unattached.att.rp1 = x.att.rp1 := rfl
@[simp] theorem unattached_att_rp2 (x : Slice) : x.unattached.att.rp2 = x.att.rp2 := rfl
@[simp] theorem unattached_att_vconnLow (x : Slice) : x.unattached.att.vconnLow = x.att.vconnLow := rfl
@[simp] theorem unattached_att_vbusMv (x : Slice) : x.unattached.att.vbusMv = x.att.vbusMv := rfl
@[simp] theorem unattached_pd_pdcfg (x : Slice) : x.unattached.pd.pdcfg = x.pd.pdcfg := rfl
@[simp] theorem unattached_pd_pdcnt (x : Slice) : x.unattached.pd.pdcnt = x.pd.pdcnt := rfl
@[simp] theorem unattached_pd_pdctl (x : Slice) : x.unattached.pd.pdctl = x.pd.pdctl := rfl
@[simp] theorem unattached_pd_cblVdo (x : Slice) : x.unattached.pd.cblVdo = x.pd.cblVdo := rfl
@[simp] theorem unattached_pd_cblVdo2 (x : Slice) : x.unattached.pd.cblVdo2 = x.pd.cblVdo2 := rfl
@[simp] theorem unattached_pd_cblId (x : Slice) : x.unattached.pd.cblId = x.pd.cblId := rfl
@[simp] theorem unattached_pd_cblStat (x : Slice) : x.unattached.pd.cblStat = x.pd.cblStat := rfl
@[simp] theorem unattached_pd_txId (x : Slice) : x.unattached.pd.txId = x.pd.txId := rfl
@[simp] theorem unattached_pd_rxId (x : Slice) : x.unattached.pd.rxId = x.pd.rxId := rfl
@[simp] theorem unattached_pd_rxBuf (x : Slice) : x.unattached.pd.rxBuf = x.pd.rxBuf := rfl
@[simp] theorem unattached_pd_goodCrc (x : Slice) : x.unattached.pd.goodCrc = x.pd.goodCrc := rfl
@[simp] theorem unattached_pd_ready (x : Slice) : x.unattached.pd.ready = x.pd.ready := rfl
@[simp] theorem unattached_pd_restart (x : Slice) : x.unattached.pd.restart = x.pd.restart := rfl
@[simp] theorem unattached_pd_inflight (x : Slice) : x.unattached.pd.inflight = x.pd.inflight := rfl
@[simp] theorem unattached_pd_retries (x : Slice) : x.unattached.pd.retries = x.pd.retries := rfl
@[simp] theorem unattached_pd_waitReply (x : Slice) : x.unattached.pd.waitReply = x.pd.waitReply := rfl
@[simp] theorem unattached_pd_partnerAms (x : Slice) : x.unattached.pd.partnerAms = x.pd.partnerAms := rfl
@[simp] theorem unattached_pd_ownOpen (x : Slice) : x.unattached.pd.ownOpen = x.pd.ownOpen := rfl
@[simp] theorem unattached_pd_hrSent (x : Slice) : x.unattached.pd.hrSent = x.pd.hrSent := rfl
@[simp] theorem unattached_pd_hadContract (x : Slice) : x.unattached.pd.hadContract = x.pd.hadContract := rfl
@[simp] theorem unattached_pd_conSince (x : Slice) : x.unattached.pd.conSince = x.pd.conSince := rfl
@[simp] theorem unattached_pd_capsTries (x : Slice) : x.unattached.pd.capsTries = x.pd.capsTries := rfl
@[simp] theorem unattached_pd_capsSent (x : Slice) : x.unattached.pd.capsSent = x.pd.capsSent := rfl
@[simp] theorem unattached_pd_discovering (x : Slice) : x.unattached.pd.discovering = x.pd.discovering := rfl
@[simp] theorem unattached_pd_discEnded (x : Slice) : x.unattached.pd.discEnded = x.pd.discEnded := rfl
@[simp] theorem unattached_pd_discSop2 (x : Slice) : x.unattached.pd.discSop2 = x.pd.discSop2 := rfl
@[simp] theorem unattached_pd_hrPhase (x : Slice) : x.unattached.pd.hrPhase = x.pd.hrPhase := rfl
@[simp] theorem unattached_pd_hrWait (x : Slice) : x.unattached.pd.hrWait = x.pd.hrWait := rfl
@[simp] theorem unattached_pd_unchkOffered (x : Slice) : x.unattached.pd.unchkOffered = x.pd.unchkOffered := rfl
@[simp] theorem unattached_pd_chunkRx (x : Slice) : x.unattached.pd.chunkRx = x.pd.chunkRx := rfl
@[simp] theorem unattached_pd_chunkTx (x : Slice) : x.unattached.pd.chunkTx = x.pd.chunkTx := rfl
@[simp] theorem unattached_pd_bistCarrier (x : Slice) : x.unattached.pd.bistCarrier = x.pd.bistCarrier := rfl
@[simp] theorem unattached_pd_busyCount (x : Slice) : x.unattached.pd.busyCount = x.pd.busyCount := rfl
@[simp] theorem unattached_pins_pwm (x : Slice) : x.unattached.pins.pwm = x.pins.pwm := rfl
@[simp] theorem unattached_pins_sbu (x : Slice) : x.unattached.pins.sbu = x.pins.sbu := rfl
@[simp] theorem unattached_pins_isog (x : Slice) : x.unattached.pins.isog = x.pins.isog := rfl
@[simp] theorem unattached_pins_snkg (x : Slice) : x.unattached.pins.snkg = x.pins.snkg := rfl
@[simp] theorem unattached_pins_disch (x : Slice) : x.unattached.pins.disch = x.pins.disch := rfl
@[simp] theorem unattached_pins_vconnPull (x : Slice) : x.unattached.pins.vconnPull = x.pins.vconnPull := rfl

/-! `Slice.refresh` -/

@[simp] theorem refresh_att_attstat_state (x : Slice) : x.refresh.att.attstat.state = x.att.attstat.state := rfl
@[simp] theorem refresh_att_attstat_orient (x : Slice) : x.refresh.att.attstat.orient = x.att.attstat.orient := rfl
@[simp] theorem refresh_att_attstat_partner (x : Slice) : x.refresh.att.attstat.partner = x.att.attstat.partner := rfl
@[simp] theorem refresh_att_attstat_rpSeen (x : Slice) : x.refresh.att.attstat.rpSeen = x.att.attstat.rpSeen := rfl
@[simp] theorem refresh_att_attstat_nopwr (x : Slice) : x.refresh.att.attstat.nopwr = x.att.attstat.nopwr := rfl
@[simp] theorem refresh_att_attstat_dbclamp (x : Slice) : x.refresh.att.attstat.dbclamp = x.att.attstat.dbclamp := rfl
@[simp] theorem refresh_att_attstat_vbusPres (x : Slice) : x.refresh.att.attstat.vbusPres = x.att.attstat.vbusPres := rfl
@[simp] theorem refresh_att_attstat_vbusSafe0 (x : Slice) : x.refresh.att.attstat.vbusSafe0 = x.att.attstat.vbusSafe0 := rfl
@[simp] theorem refresh_att_attstat_foreign (x : Slice) : x.refresh.att.attstat.foreign = x.att.attstat.foreign := rfl
@[simp] theorem refresh_att_attstat_vconnOn (x : Slice) : x.refresh.att.attstat.vconnOn = x.att.attstat.vconnOn := rfl
@[simp] theorem refresh_att_attstat_vconnFlt (x : Slice) : x.refresh.att.attstat.vconnFlt = x.att.attstat.vconnFlt := rfl
@[simp] theorem refresh_att_attstat_dbgLink (x : Slice) : x.refresh.att.attstat.dbgLink = x.att.attstat.dbgLink := rfl
@[simp] theorem refresh_pd_pdstat_revSop (x : Slice) : x.refresh.pd.pdstat.revSop = x.pd.pdstat.revSop := rfl
@[simp] theorem refresh_pd_pdstat_revSop1 (x : Slice) : x.refresh.pd.pdstat.revSop1 = x.pd.pdstat.revSop1 := rfl
@[simp] theorem refresh_pd_pdstat_revSop2 (x : Slice) : x.refresh.pd.pdstat.revSop2 = x.pd.pdstat.revSop2 := rfl
@[simp] theorem refresh_pd_pdstat_pdConn (x : Slice) : x.refresh.pd.pdstat.pdConn = x.pd.pdstat.pdConn := rfl
@[simp] theorem refresh_pd_pdstat_pdSilent (x : Slice) : x.refresh.pd.pdstat.pdSilent = x.pd.pdstat.pdSilent := rfl
@[simp] theorem refresh_pd_pdstat_vcsrc (x : Slice) : x.refresh.pd.pdstat.vcsrc = x.pd.pdstat.vcsrc := rfl
@[simp] theorem refresh_pd_pdstat_unchkOn (x : Slice) : x.refresh.pd.pdstat.unchkOn = x.pd.pdstat.unchkOn := rfl
@[simp] theorem refresh_pd_pdstat_hrPend (x : Slice) : x.refresh.pd.pdstat.hrPend = x.pd.pdstat.hrPend := rfl

/-! `Slice.transmit` -/

@[simp] theorem transmit_mb_mbtxStat_abortLate (x : Slice) : x.transmit.mb.mbtxStat.abortLate = x.mb.mbtxStat.abortLate := by
  unfold Slice.transmit; (repeat' split) <;> rfl
@[simp] theorem transmit_mb_mbtxStat_cause (x : Slice) : x.transmit.mb.mbtxStat.cause = x.mb.mbtxStat.cause := by
  unfold Slice.transmit; (repeat' split) <;> rfl

/-! `Slice.pump` -/

@[simp] theorem pump_att_attstat_state (x : Slice) : x.pump.att.attstat.state = x.att.attstat.state := by
  simp only [Slice.pump, Slice.pump, Slice.transmit, Slice.openIsog, Slice.sink, SlicePs.fbBack]; (repeat' split) <;> rfl
@[simp] theorem pump_att_attstat_orient (x : Slice) : x.pump.att.attstat.orient = x.att.attstat.orient := by
  simp only [Slice.pump, Slice.pump, Slice.transmit, Slice.openIsog, Slice.sink, SlicePs.fbBack]; (repeat' split) <;> rfl
@[simp] theorem pump_att_attstat_partner (x : Slice) : x.pump.att.attstat.partner = x.att.attstat.partner := by
  simp only [Slice.pump, Slice.pump, Slice.transmit, Slice.openIsog, Slice.sink, SlicePs.fbBack]; (repeat' split) <;> rfl
@[simp] theorem pump_att_attstat_rpSeen (x : Slice) : x.pump.att.attstat.rpSeen = x.att.attstat.rpSeen := by
  simp only [Slice.pump, Slice.pump, Slice.transmit, Slice.openIsog, Slice.sink, SlicePs.fbBack]; (repeat' split) <;> rfl
@[simp] theorem pump_att_attstat_nopwr (x : Slice) : x.pump.att.attstat.nopwr = x.att.attstat.nopwr := by
  simp only [Slice.pump, Slice.pump, Slice.transmit, Slice.openIsog, Slice.sink, SlicePs.fbBack]; (repeat' split) <;> rfl
@[simp] theorem pump_att_attstat_dbclamp (x : Slice) : x.pump.att.attstat.dbclamp = x.att.attstat.dbclamp := by
  simp only [Slice.pump, Slice.pump, Slice.transmit, Slice.openIsog, Slice.sink, SlicePs.fbBack]; (repeat' split) <;> rfl
@[simp] theorem pump_att_attstat_vbusPres (x : Slice) : x.pump.att.attstat.vbusPres = x.att.attstat.vbusPres := by
  simp only [Slice.pump, Slice.pump, Slice.transmit, Slice.openIsog, Slice.sink, SlicePs.fbBack]; (repeat' split) <;> rfl
@[simp] theorem pump_att_attstat_vbusSafe0 (x : Slice) : x.pump.att.attstat.vbusSafe0 = x.att.attstat.vbusSafe0 := by
  simp only [Slice.pump, Slice.pump, Slice.transmit, Slice.openIsog, Slice.sink, SlicePs.fbBack]; (repeat' split) <;> rfl
@[simp] theorem pump_att_attstat_foreign (x : Slice) : x.pump.att.attstat.foreign = x.att.attstat.foreign := by
  simp only [Slice.pump, Slice.pump, Slice.transmit, Slice.openIsog, Slice.sink, SlicePs.fbBack]; (repeat' split) <;> rfl
@[simp] theorem pump_att_attstat_vconnOn (x : Slice) : x.pump.att.attstat.vconnOn = x.att.attstat.vconnOn := by
  simp only [Slice.pump, Slice.pump, Slice.transmit, Slice.openIsog, Slice.sink, SlicePs.fbBack]; (repeat' split) <;> rfl
@[simp] theorem pump_att_attstat_vconnFlt (x : Slice) : x.pump.att.attstat.vconnFlt = x.att.attstat.vconnFlt := by
  simp only [Slice.pump, Slice.pump, Slice.transmit, Slice.openIsog, Slice.sink, SlicePs.fbBack]; (repeat' split) <;> rfl
@[simp] theorem pump_att_attstat_dbgLink (x : Slice) : x.pump.att.attstat.dbgLink = x.att.attstat.dbgLink := by
  simp only [Slice.pump, Slice.pump, Slice.transmit, Slice.openIsog, Slice.sink, SlicePs.fbBack]; (repeat' split) <;> rfl
@[simp] theorem pump_pd_pdstat_revSop (x : Slice) : x.pump.pd.pdstat.revSop = x.pd.pdstat.revSop := by
  simp only [Slice.pump, Slice.pump, Slice.transmit, Slice.openIsog, Slice.sink, SlicePs.fbBack]; (repeat' split) <;> rfl
@[simp] theorem pump_pd_pdstat_revSop1 (x : Slice) : x.pump.pd.pdstat.revSop1 = x.pd.pdstat.revSop1 := by
  simp only [Slice.pump, Slice.pump, Slice.transmit, Slice.openIsog, Slice.sink, SlicePs.fbBack]; (repeat' split) <;> rfl
@[simp] theorem pump_pd_pdstat_revSop2 (x : Slice) : x.pump.pd.pdstat.revSop2 = x.pd.pdstat.revSop2 := by
  simp only [Slice.pump, Slice.pump, Slice.transmit, Slice.openIsog, Slice.sink, SlicePs.fbBack]; (repeat' split) <;> rfl
@[simp] theorem pump_pd_pdstat_pdConn (x : Slice) : x.pump.pd.pdstat.pdConn = x.pd.pdstat.pdConn := by
  simp only [Slice.pump, Slice.pump, Slice.transmit, Slice.openIsog, Slice.sink, SlicePs.fbBack]; (repeat' split) <;> rfl
@[simp] theorem pump_pd_pdstat_pdSilent (x : Slice) : x.pump.pd.pdstat.pdSilent = x.pd.pdstat.pdSilent := by
  simp only [Slice.pump, Slice.pump, Slice.transmit, Slice.openIsog, Slice.sink, SlicePs.fbBack]; (repeat' split) <;> rfl
@[simp] theorem pump_pd_pdstat_vcsrc (x : Slice) : x.pump.pd.pdstat.vcsrc = x.pd.pdstat.vcsrc := by
  simp only [Slice.pump, Slice.pump, Slice.transmit, Slice.openIsog, Slice.sink, SlicePs.fbBack]; (repeat' split) <;> rfl
@[simp] theorem pump_pd_pdstat_unchkOn (x : Slice) : x.pump.pd.pdstat.unchkOn = x.pd.pdstat.unchkOn := by
  simp only [Slice.pump, Slice.pump, Slice.transmit, Slice.openIsog, Slice.sink, SlicePs.fbBack]; (repeat' split) <;> rfl
@[simp] theorem pump_pd_pdstat_hrPend (x : Slice) : x.pump.pd.pdstat.hrPend = x.pd.pdstat.hrPend := by
  simp only [Slice.pump, Slice.pump, Slice.transmit, Slice.openIsog, Slice.sink, SlicePs.fbBack]; (repeat' split) <;> rfl
@[simp] theorem pump_mb_mbtxStat_abortLate (x : Slice) : x.pump.mb.mbtxStat.abortLate = x.mb.mbtxStat.abortLate := by
  simp only [Slice.pump, Slice.pump, Slice.transmit, Slice.openIsog, Slice.sink, SlicePs.fbBack]; (repeat' split) <;> rfl
@[simp] theorem pump_mb_mbtxStat_cause (x : Slice) : x.pump.mb.mbtxStat.cause = x.mb.mbtxStat.cause := by
  simp only [Slice.pump, Slice.pump, Slice.transmit, Slice.openIsog, Slice.sink, SlicePs.fbBack]; (repeat' split) <;> rfl

/-! `Slice.endOwn` -/

@[simp] theorem endOwn_att_attstat_state (x : Slice) : x.endOwn.att.attstat.state = x.att.attstat.state := by
  simp only [Slice.endOwn, Slice.pump, Slice.transmit, Slice.openIsog, Slice.sink, SlicePs.fbBack]; (repeat' split) <;> rfl
@[simp] theorem endOwn_att_attstat_orient (x : Slice) : x.endOwn.att.attstat.orient = x.att.attstat.orient := by
  simp only [Slice.endOwn, Slice.pump, Slice.transmit, Slice.openIsog, Slice.sink, SlicePs.fbBack]; (repeat' split) <;> rfl
@[simp] theorem endOwn_att_attstat_partner (x : Slice) : x.endOwn.att.attstat.partner = x.att.attstat.partner := by
  simp only [Slice.endOwn, Slice.pump, Slice.transmit, Slice.openIsog, Slice.sink, SlicePs.fbBack]; (repeat' split) <;> rfl
@[simp] theorem endOwn_att_attstat_rpSeen (x : Slice) : x.endOwn.att.attstat.rpSeen = x.att.attstat.rpSeen := by
  simp only [Slice.endOwn, Slice.pump, Slice.transmit, Slice.openIsog, Slice.sink, SlicePs.fbBack]; (repeat' split) <;> rfl
@[simp] theorem endOwn_att_attstat_nopwr (x : Slice) : x.endOwn.att.attstat.nopwr = x.att.attstat.nopwr := by
  simp only [Slice.endOwn, Slice.pump, Slice.transmit, Slice.openIsog, Slice.sink, SlicePs.fbBack]; (repeat' split) <;> rfl
@[simp] theorem endOwn_att_attstat_dbclamp (x : Slice) : x.endOwn.att.attstat.dbclamp = x.att.attstat.dbclamp := by
  simp only [Slice.endOwn, Slice.pump, Slice.transmit, Slice.openIsog, Slice.sink, SlicePs.fbBack]; (repeat' split) <;> rfl
@[simp] theorem endOwn_att_attstat_vbusPres (x : Slice) : x.endOwn.att.attstat.vbusPres = x.att.attstat.vbusPres := by
  simp only [Slice.endOwn, Slice.pump, Slice.transmit, Slice.openIsog, Slice.sink, SlicePs.fbBack]; (repeat' split) <;> rfl
@[simp] theorem endOwn_att_attstat_vbusSafe0 (x : Slice) : x.endOwn.att.attstat.vbusSafe0 = x.att.attstat.vbusSafe0 := by
  simp only [Slice.endOwn, Slice.pump, Slice.transmit, Slice.openIsog, Slice.sink, SlicePs.fbBack]; (repeat' split) <;> rfl
@[simp] theorem endOwn_att_attstat_foreign (x : Slice) : x.endOwn.att.attstat.foreign = x.att.attstat.foreign := by
  simp only [Slice.endOwn, Slice.pump, Slice.transmit, Slice.openIsog, Slice.sink, SlicePs.fbBack]; (repeat' split) <;> rfl
@[simp] theorem endOwn_att_attstat_vconnOn (x : Slice) : x.endOwn.att.attstat.vconnOn = x.att.attstat.vconnOn := by
  simp only [Slice.endOwn, Slice.pump, Slice.transmit, Slice.openIsog, Slice.sink, SlicePs.fbBack]; (repeat' split) <;> rfl
@[simp] theorem endOwn_att_attstat_vconnFlt (x : Slice) : x.endOwn.att.attstat.vconnFlt = x.att.attstat.vconnFlt := by
  simp only [Slice.endOwn, Slice.pump, Slice.transmit, Slice.openIsog, Slice.sink, SlicePs.fbBack]; (repeat' split) <;> rfl
@[simp] theorem endOwn_att_attstat_dbgLink (x : Slice) : x.endOwn.att.attstat.dbgLink = x.att.attstat.dbgLink := by
  simp only [Slice.endOwn, Slice.pump, Slice.transmit, Slice.openIsog, Slice.sink, SlicePs.fbBack]; (repeat' split) <;> rfl
@[simp] theorem endOwn_pd_pdstat_revSop (x : Slice) : x.endOwn.pd.pdstat.revSop = x.pd.pdstat.revSop := by
  simp only [Slice.endOwn, Slice.pump, Slice.transmit, Slice.openIsog, Slice.sink, SlicePs.fbBack]; (repeat' split) <;> rfl
@[simp] theorem endOwn_pd_pdstat_revSop1 (x : Slice) : x.endOwn.pd.pdstat.revSop1 = x.pd.pdstat.revSop1 := by
  simp only [Slice.endOwn, Slice.pump, Slice.transmit, Slice.openIsog, Slice.sink, SlicePs.fbBack]; (repeat' split) <;> rfl
@[simp] theorem endOwn_pd_pdstat_revSop2 (x : Slice) : x.endOwn.pd.pdstat.revSop2 = x.pd.pdstat.revSop2 := by
  simp only [Slice.endOwn, Slice.pump, Slice.transmit, Slice.openIsog, Slice.sink, SlicePs.fbBack]; (repeat' split) <;> rfl
@[simp] theorem endOwn_pd_pdstat_pdConn (x : Slice) : x.endOwn.pd.pdstat.pdConn = x.pd.pdstat.pdConn := by
  simp only [Slice.endOwn, Slice.pump, Slice.transmit, Slice.openIsog, Slice.sink, SlicePs.fbBack]; (repeat' split) <;> rfl
@[simp] theorem endOwn_pd_pdstat_pdSilent (x : Slice) : x.endOwn.pd.pdstat.pdSilent = x.pd.pdstat.pdSilent := by
  simp only [Slice.endOwn, Slice.pump, Slice.transmit, Slice.openIsog, Slice.sink, SlicePs.fbBack]; (repeat' split) <;> rfl
@[simp] theorem endOwn_pd_pdstat_vcsrc (x : Slice) : x.endOwn.pd.pdstat.vcsrc = x.pd.pdstat.vcsrc := by
  simp only [Slice.endOwn, Slice.pump, Slice.transmit, Slice.openIsog, Slice.sink, SlicePs.fbBack]; (repeat' split) <;> rfl
@[simp] theorem endOwn_pd_pdstat_unchkOn (x : Slice) : x.endOwn.pd.pdstat.unchkOn = x.pd.pdstat.unchkOn := by
  simp only [Slice.endOwn, Slice.pump, Slice.transmit, Slice.openIsog, Slice.sink, SlicePs.fbBack]; (repeat' split) <;> rfl
@[simp] theorem endOwn_pd_pdstat_hrPend (x : Slice) : x.endOwn.pd.pdstat.hrPend = x.pd.pdstat.hrPend := by
  simp only [Slice.endOwn, Slice.pump, Slice.transmit, Slice.openIsog, Slice.sink, SlicePs.fbBack]; (repeat' split) <;> rfl
@[simp] theorem endOwn_mb_mbtxStat_abortLate (x : Slice) : x.endOwn.mb.mbtxStat.abortLate = x.mb.mbtxStat.abortLate := by
  simp only [Slice.endOwn, Slice.pump, Slice.transmit, Slice.openIsog, Slice.sink, SlicePs.fbBack]; (repeat' split) <;> rfl

/-! `Slice.endPartner` -/

@[simp] theorem endPartner_pd_pdstat_pdConn (x : Slice) : x.endPartner.pd.pdstat.pdConn = x.pd.pdstat.pdConn := by
  simp only [Slice.endPartner, Slice.pump, Slice.transmit, Slice.openIsog, Slice.sink, SlicePs.fbBack]; (repeat' split) <;> rfl
@[simp] theorem endPartner_pd_pdstat_pdSilent (x : Slice) : x.endPartner.pd.pdstat.pdSilent = x.pd.pdstat.pdSilent := by
  simp only [Slice.endPartner, Slice.pump, Slice.transmit, Slice.openIsog, Slice.sink, SlicePs.fbBack]; (repeat' split) <;> rfl
@[simp] theorem endPartner_pd_pdstat_vcsrc (x : Slice) : x.endPartner.pd.pdstat.vcsrc = x.pd.pdstat.vcsrc := by
  simp only [Slice.endPartner, Slice.pump, Slice.transmit, Slice.openIsog, Slice.sink, SlicePs.fbBack]; (repeat' split) <;> rfl
@[simp] theorem endPartner_pd_pdstat_unchkOn (x : Slice) : x.endPartner.pd.pdstat.unchkOn = x.pd.pdstat.unchkOn := by
  simp only [Slice.endPartner, Slice.pump, Slice.transmit, Slice.openIsog, Slice.sink, SlicePs.fbBack]; (repeat' split) <;> rfl
@[simp] theorem endPartner_pd_pdstat_hrPend (x : Slice) : x.endPartner.pd.pdstat.hrPend = x.pd.pdstat.hrPend := by
  simp only [Slice.endPartner, Slice.pump, Slice.transmit, Slice.openIsog, Slice.sink, SlicePs.fbBack]; (repeat' split) <;> rfl
@[simp] theorem endPartner_mb_mbtxStat_abortLate (x : Slice) : x.endPartner.mb.mbtxStat.abortLate = x.mb.mbtxStat.abortLate := by
  simp only [Slice.endPartner, Slice.pump, Slice.transmit, Slice.openIsog, Slice.sink, SlicePs.fbBack]; (repeat' split) <;> rfl
@[simp] theorem endPartner_mb_mbtxStat_cause (x : Slice) : x.endPartner.mb.mbtxStat.cause = x.mb.mbtxStat.cause := by
  simp only [Slice.endPartner, Slice.pump, Slice.transmit, Slice.openIsog, Slice.sink, SlicePs.fbBack]; (repeat' split) <;> rfl

/-! `Slice.clearContract` -/

@[simp] theorem clearContract_pd_pdstat_revSop (x : Slice) : x.clearContract.pd.pdstat.revSop = x.pd.pdstat.revSop := rfl
@[simp] theorem clearContract_pd_pdstat_revSop1 (x : Slice) : x.clearContract.pd.pdstat.revSop1 = x.pd.pdstat.revSop1 := rfl
@[simp] theorem clearContract_pd_pdstat_revSop2 (x : Slice) : x.clearContract.pd.pdstat.revSop2 = x.pd.pdstat.revSop2 := rfl
@[simp] theorem clearContract_pd_pdstat_pdSilent (x : Slice) : x.clearContract.pd.pdstat.pdSilent = x.pd.pdstat.pdSilent := rfl
@[simp] theorem clearContract_pd_pdstat_vcsrc (x : Slice) : x.clearContract.pd.pdstat.vcsrc = x.pd.pdstat.vcsrc := rfl
@[simp] theorem clearContract_pd_pdstat_unchkOn (x : Slice) : x.clearContract.pd.pdstat.unchkOn = x.pd.pdstat.unchkOn := rfl
@[simp] theorem clearContract_pd_pdstat_rpCa (x : Slice) : x.clearContract.pd.pdstat.rpCa = x.pd.pdstat.rpCa := rfl
@[simp] theorem clearContract_pd_pdstat_hrPend (x : Slice) : x.clearContract.pd.pdstat.hrPend = x.pd.pdstat.hrPend := rfl
@[simp] theorem clearContract_pd_pdstat_ams (x : Slice) : x.clearContract.pd.pdstat.ams = x.pd.pdstat.ams := rfl
@[simp] theorem clearContract_ps_psstat_cstate (x : Slice) : x.clearContract.ps.psstat.cstate = x.ps.psstat.cstate := rfl
@[simp] theorem clearContract_ps_psstat_fb (x : Slice) : x.clearContract.ps.psstat.fb = x.ps.psstat.fb := rfl
@[simp] theorem clearContract_ps_psstat_dsat (x : Slice) : x.clearContract.ps.psstat.dsat = x.ps.psstat.dsat := rfl
@[simp] theorem clearContract_ps_psstat_pbfail (x : Slice) : x.clearContract.ps.psstat.pbfail = x.ps.psstat.pbfail := rfl
@[simp] theorem clearContract_ps_psstat_duty (x : Slice) : x.clearContract.ps.psstat.duty = x.ps.psstat.duty := rfl
@[simp] theorem clearContract_sw_swstat_prole (x : Slice) : x.clearContract.sw.swstat.prole = x.sw.swstat.prole := rfl
@[simp] theorem clearContract_sw_swstat_drole (x : Slice) : x.clearContract.sw.swstat.drole = x.sw.swstat.drole := rfl
@[simp] theorem clearContract_sw_swstat_attProle (x : Slice) : x.clearContract.sw.swstat.attProle = x.sw.swstat.attProle := rfl
@[simp] theorem clearContract_sw_swstat_attVcsrc (x : Slice) : x.clearContract.sw.swstat.attVcsrc = x.sw.swstat.attVcsrc := rfl
@[simp] theorem clearContract_sw_swstat_swap (x : Slice) : x.clearContract.sw.swstat.swap = x.sw.swstat.swap := rfl
@[simp] theorem clearContract_sw_swstat_last (x : Slice) : x.clearContract.sw.swstat.last = x.sw.swstat.last := rfl
@[simp] theorem clearContract_sw_swstat_lastKind (x : Slice) : x.clearContract.sw.swstat.lastKind = x.sw.swstat.lastKind := rfl
@[simp] theorem clearContract_sw_swstat_frsDet (x : Slice) : x.clearContract.sw.swstat.frsDet = x.sw.swstat.frsDet := rfl
@[simp] theorem clearContract_sw_swstat_snkp (x : Slice) : x.clearContract.sw.swstat.snkp = x.sw.swstat.snkp := rfl

/-! `Slice.endChange` -/

@[simp] theorem endChange_off_xstat_abortLate (k : BitVec 3) (x : Slice) : (Slice.endChange k x).off.xstat.abortLate = x.off.xstat.abortLate := by
  unfold Slice.endChange; (repeat' split) <;> rfl
@[simp] theorem endChange_off_xstat_target (k : BitVec 3) (x : Slice) : (Slice.endChange k x).off.xstat.target = x.off.xstat.target := by
  unfold Slice.endChange; (repeat' split) <;> rfl

/-! `Slice.endSwap` -/

@[simp] theorem endSwap_sw_swstat_prole (k : BitVec 3) (x : Slice) : (Slice.endSwap k x).sw.swstat.prole = x.sw.swstat.prole := by
  unfold Slice.endSwap; (repeat' split) <;> rfl
@[simp] theorem endSwap_sw_swstat_drole (k : BitVec 3) (x : Slice) : (Slice.endSwap k x).sw.swstat.drole = x.sw.swstat.drole := by
  unfold Slice.endSwap; (repeat' split) <;> rfl
@[simp] theorem endSwap_sw_swstat_attProle (k : BitVec 3) (x : Slice) : (Slice.endSwap k x).sw.swstat.attProle = x.sw.swstat.attProle := by
  unfold Slice.endSwap; (repeat' split) <;> rfl
@[simp] theorem endSwap_sw_swstat_attVcsrc (k : BitVec 3) (x : Slice) : (Slice.endSwap k x).sw.swstat.attVcsrc = x.sw.swstat.attVcsrc := by
  unfold Slice.endSwap; (repeat' split) <;> rfl
@[simp] theorem endSwap_sw_swstat_frsArmed (k : BitVec 3) (x : Slice) : (Slice.endSwap k x).sw.swstat.frsArmed = x.sw.swstat.frsArmed := by
  unfold Slice.endSwap; (repeat' split) <;> rfl
@[simp] theorem endSwap_sw_swstat_frsOffer (k : BitVec 3) (x : Slice) : (Slice.endSwap k x).sw.swstat.frsOffer = x.sw.swstat.frsOffer := by
  unfold Slice.endSwap; (repeat' split) <;> rfl
@[simp] theorem endSwap_sw_swstat_partFrs (k : BitVec 3) (x : Slice) : (Slice.endSwap k x).sw.swstat.partFrs = x.sw.swstat.partFrs := by
  unfold Slice.endSwap; (repeat' split) <;> rfl
@[simp] theorem endSwap_sw_swstat_aid (k : BitVec 3) (x : Slice) : (Slice.endSwap k x).sw.swstat.aid = x.sw.swstat.aid := by
  unfold Slice.endSwap; (repeat' split) <;> rfl
@[simp] theorem endSwap_sw_swstat_snkp (k : BitVec 3) (x : Slice) : (Slice.endSwap k x).sw.swstat.snkp = x.sw.swstat.snkp := by
  unfold Slice.endSwap; (repeat' split) <;> rfl

/-! `Slice.vconnOpen` -/

@[simp] theorem vconnOpen_att_attstat_state (x : Slice) : x.vconnOpen.att.attstat.state = x.att.attstat.state := by
  unfold Slice.vconnOpen; (repeat' split) <;> rfl
@[simp] theorem vconnOpen_att_attstat_orient (x : Slice) : x.vconnOpen.att.attstat.orient = x.att.attstat.orient := by
  unfold Slice.vconnOpen; (repeat' split) <;> rfl
@[simp] theorem vconnOpen_att_attstat_partner (x : Slice) : x.vconnOpen.att.attstat.partner = x.att.attstat.partner := by
  unfold Slice.vconnOpen; (repeat' split) <;> rfl
@[simp] theorem vconnOpen_att_attstat_rpSeen (x : Slice) : x.vconnOpen.att.attstat.rpSeen = x.att.attstat.rpSeen := by
  unfold Slice.vconnOpen; (repeat' split) <;> rfl
@[simp] theorem vconnOpen_att_attstat_rpNow (x : Slice) : x.vconnOpen.att.attstat.rpNow = x.att.attstat.rpNow := by
  unfold Slice.vconnOpen; (repeat' split) <;> rfl
@[simp] theorem vconnOpen_att_attstat_nopwr (x : Slice) : x.vconnOpen.att.attstat.nopwr = x.att.attstat.nopwr := by
  unfold Slice.vconnOpen; (repeat' split) <;> rfl
@[simp] theorem vconnOpen_att_attstat_dbclamp (x : Slice) : x.vconnOpen.att.attstat.dbclamp = x.att.attstat.dbclamp := by
  unfold Slice.vconnOpen; (repeat' split) <;> rfl
@[simp] theorem vconnOpen_att_attstat_vbusPres (x : Slice) : x.vconnOpen.att.attstat.vbusPres = x.att.attstat.vbusPres := by
  unfold Slice.vconnOpen; (repeat' split) <;> rfl
@[simp] theorem vconnOpen_att_attstat_vbusSafe0 (x : Slice) : x.vconnOpen.att.attstat.vbusSafe0 = x.att.attstat.vbusSafe0 := by
  unfold Slice.vconnOpen; (repeat' split) <;> rfl
@[simp] theorem vconnOpen_att_attstat_foreign (x : Slice) : x.vconnOpen.att.attstat.foreign = x.att.attstat.foreign := by
  unfold Slice.vconnOpen; (repeat' split) <;> rfl
@[simp] theorem vconnOpen_att_attstat_vconnFlt (x : Slice) : x.vconnOpen.att.attstat.vconnFlt = x.att.attstat.vconnFlt := by
  unfold Slice.vconnOpen; (repeat' split) <;> rfl
@[simp] theorem vconnOpen_att_attstat_dbgLink (x : Slice) : x.vconnOpen.att.attstat.dbgLink = x.att.attstat.dbgLink := by
  unfold Slice.vconnOpen; (repeat' split) <;> rfl

/-! `Slice.vconnClose` -/

@[simp] theorem vconnClose_att_attstat_state (b : Bool) (x : Slice) : (Slice.vconnClose b x).att.attstat.state = x.att.attstat.state := by
  unfold Slice.vconnClose; (repeat' split) <;> rfl
@[simp] theorem vconnClose_att_attstat_orient (b : Bool) (x : Slice) : (Slice.vconnClose b x).att.attstat.orient = x.att.attstat.orient := by
  unfold Slice.vconnClose; (repeat' split) <;> rfl
@[simp] theorem vconnClose_att_attstat_partner (b : Bool) (x : Slice) : (Slice.vconnClose b x).att.attstat.partner = x.att.attstat.partner := by
  unfold Slice.vconnClose; (repeat' split) <;> rfl
@[simp] theorem vconnClose_att_attstat_rpSeen (b : Bool) (x : Slice) : (Slice.vconnClose b x).att.attstat.rpSeen = x.att.attstat.rpSeen := by
  unfold Slice.vconnClose; (repeat' split) <;> rfl
@[simp] theorem vconnClose_att_attstat_rpNow (b : Bool) (x : Slice) : (Slice.vconnClose b x).att.attstat.rpNow = x.att.attstat.rpNow := by
  unfold Slice.vconnClose; (repeat' split) <;> rfl
@[simp] theorem vconnClose_att_attstat_nopwr (b : Bool) (x : Slice) : (Slice.vconnClose b x).att.attstat.nopwr = x.att.attstat.nopwr := by
  unfold Slice.vconnClose; (repeat' split) <;> rfl
@[simp] theorem vconnClose_att_attstat_dbclamp (b : Bool) (x : Slice) : (Slice.vconnClose b x).att.attstat.dbclamp = x.att.attstat.dbclamp := by
  unfold Slice.vconnClose; (repeat' split) <;> rfl
@[simp] theorem vconnClose_att_attstat_vbusPres (b : Bool) (x : Slice) : (Slice.vconnClose b x).att.attstat.vbusPres = x.att.attstat.vbusPres := by
  unfold Slice.vconnClose; (repeat' split) <;> rfl
@[simp] theorem vconnClose_att_attstat_vbusSafe0 (b : Bool) (x : Slice) : (Slice.vconnClose b x).att.attstat.vbusSafe0 = x.att.attstat.vbusSafe0 := by
  unfold Slice.vconnClose; (repeat' split) <;> rfl
@[simp] theorem vconnClose_att_attstat_foreign (b : Bool) (x : Slice) : (Slice.vconnClose b x).att.attstat.foreign = x.att.attstat.foreign := by
  unfold Slice.vconnClose; (repeat' split) <;> rfl
@[simp] theorem vconnClose_att_attstat_vconnFlt (b : Bool) (x : Slice) : (Slice.vconnClose b x).att.attstat.vconnFlt = x.att.attstat.vconnFlt := by
  unfold Slice.vconnClose; (repeat' split) <;> rfl
@[simp] theorem vconnClose_att_attstat_dbgLink (b : Bool) (x : Slice) : (Slice.vconnClose b x).att.attstat.dbgLink = x.att.attstat.dbgLink := by
  unfold Slice.vconnClose; (repeat' split) <;> rfl
@[simp] theorem vconnClose_pd_pdstat_revSop (b : Bool) (x : Slice) : (Slice.vconnClose b x).pd.pdstat.revSop = x.pd.pdstat.revSop := by
  unfold Slice.vconnClose; (repeat' split) <;> rfl
@[simp] theorem vconnClose_pd_pdstat_revSop1 (b : Bool) (x : Slice) : (Slice.vconnClose b x).pd.pdstat.revSop1 = x.pd.pdstat.revSop1 := by
  unfold Slice.vconnClose; (repeat' split) <;> rfl
@[simp] theorem vconnClose_pd_pdstat_revSop2 (b : Bool) (x : Slice) : (Slice.vconnClose b x).pd.pdstat.revSop2 = x.pd.pdstat.revSop2 := by
  unfold Slice.vconnClose; (repeat' split) <;> rfl
@[simp] theorem vconnClose_pd_pdstat_pdConn (b : Bool) (x : Slice) : (Slice.vconnClose b x).pd.pdstat.pdConn = x.pd.pdstat.pdConn := by
  unfold Slice.vconnClose; (repeat' split) <;> rfl
@[simp] theorem vconnClose_pd_pdstat_pdSilent (b : Bool) (x : Slice) : (Slice.vconnClose b x).pd.pdstat.pdSilent = x.pd.pdstat.pdSilent := by
  unfold Slice.vconnClose; (repeat' split) <;> rfl
@[simp] theorem vconnClose_pd_pdstat_unchkOn (b : Bool) (x : Slice) : (Slice.vconnClose b x).pd.pdstat.unchkOn = x.pd.pdstat.unchkOn := by
  unfold Slice.vconnClose; (repeat' split) <;> rfl
@[simp] theorem vconnClose_pd_pdstat_rpCa (b : Bool) (x : Slice) : (Slice.vconnClose b x).pd.pdstat.rpCa = x.pd.pdstat.rpCa := by
  unfold Slice.vconnClose; (repeat' split) <;> rfl
@[simp] theorem vconnClose_pd_pdstat_hrPend (b : Bool) (x : Slice) : (Slice.vconnClose b x).pd.pdstat.hrPend = x.pd.pdstat.hrPend := by
  unfold Slice.vconnClose; (repeat' split) <;> rfl
@[simp] theorem vconnClose_pd_pdstat_ams (b : Bool) (x : Slice) : (Slice.vconnClose b x).pd.pdstat.ams = x.pd.pdstat.ams := by
  unfold Slice.vconnClose; (repeat' split) <;> rfl

/-! `Slice.openIsog` -/

@[simp] theorem openIsog_ps_psstat_cstate (x : Slice) : x.openIsog.ps.psstat.cstate = x.ps.psstat.cstate := by
  simp only [Slice.openIsog, Slice.pump, Slice.transmit, Slice.openIsog, Slice.sink, SlicePs.fbBack]; (repeat' split) <;> rfl
@[simp] theorem openIsog_ps_psstat_clmode (x : Slice) : x.openIsog.ps.psstat.clmode = x.ps.psstat.clmode := by
  simp only [Slice.openIsog, Slice.pump, Slice.transmit, Slice.openIsog, Slice.sink, SlicePs.fbBack]; (repeat' split) <;> rfl
@[simp] theorem openIsog_ps_psstat_dsat (x : Slice) : x.openIsog.ps.psstat.dsat = x.ps.psstat.dsat := by
  simp only [Slice.openIsog, Slice.pump, Slice.transmit, Slice.openIsog, Slice.sink, SlicePs.fbBack]; (repeat' split) <;> rfl
@[simp] theorem openIsog_ps_psstat_pbfail (x : Slice) : x.openIsog.ps.psstat.pbfail = x.ps.psstat.pbfail := by
  simp only [Slice.openIsog, Slice.pump, Slice.transmit, Slice.openIsog, Slice.sink, SlicePs.fbBack]; (repeat' split) <;> rfl
@[simp] theorem openIsog_ps_psstat_limwait (x : Slice) : x.openIsog.ps.psstat.limwait = x.ps.psstat.limwait := by
  simp only [Slice.openIsog, Slice.pump, Slice.transmit, Slice.openIsog, Slice.sink, SlicePs.fbBack]; (repeat' split) <;> rfl
@[simp] theorem openIsog_ps_psstat_duty (x : Slice) : x.openIsog.ps.psstat.duty = x.ps.psstat.duty := by
  simp only [Slice.openIsog, Slice.pump, Slice.transmit, Slice.openIsog, Slice.sink, SlicePs.fbBack]; (repeat' split) <;> rfl

/-! `Slice.stopConv` -/

@[simp] theorem stopConv_ps_psstat_fb (x : Slice) : x.stopConv.ps.psstat.fb = x.ps.psstat.fb := rfl
@[simp] theorem stopConv_ps_psstat_pbfail (x : Slice) : x.stopConv.ps.psstat.pbfail = x.ps.psstat.pbfail := rfl
@[simp] theorem stopConv_ps_psstat_limwait (x : Slice) : x.stopConv.ps.psstat.limwait = x.ps.psstat.limwait := rfl

/-! `Slice.powerOff` -/

@[simp] theorem powerOff_ps_psstat_pbfail (x : Slice) : x.powerOff.ps.psstat.pbfail = x.ps.psstat.pbfail := by
  simp only [Slice.powerOff, Slice.pump, Slice.transmit, Slice.openIsog, Slice.sink, SlicePs.fbBack]; (repeat' split) <;> rfl
@[simp] theorem powerOff_ps_psstat_limwait (x : Slice) : x.powerOff.ps.psstat.limwait = x.ps.psstat.limwait := by
  simp only [Slice.powerOff, Slice.pump, Slice.transmit, Slice.openIsog, Slice.sink, SlicePs.fbBack]; (repeat' split) <;> rfl

/-! `Slice.rampDown` -/

@[simp] theorem rampDown_ps_psstat_fb (x : Slice) : x.rampDown.ps.psstat.fb = x.ps.psstat.fb := rfl
@[simp] theorem rampDown_ps_psstat_clmode (x : Slice) : x.rampDown.ps.psstat.clmode = x.ps.psstat.clmode := rfl
@[simp] theorem rampDown_ps_psstat_dsat (x : Slice) : x.rampDown.ps.psstat.dsat = x.ps.psstat.dsat := rfl
@[simp] theorem rampDown_ps_psstat_pbfail (x : Slice) : x.rampDown.ps.psstat.pbfail = x.ps.psstat.pbfail := rfl
@[simp] theorem rampDown_ps_psstat_limwait (x : Slice) : x.rampDown.ps.psstat.limwait = x.ps.psstat.limwait := rfl
@[simp] theorem rampDown_ps_psstat_duty (x : Slice) : x.rampDown.ps.psstat.duty = x.ps.psstat.duty := rfl

/-! `Slice.beginStart` -/

@[simp] theorem beginStart_ps_psstat_clmode (x : Slice) : x.beginStart.ps.psstat.clmode = x.ps.psstat.clmode := by
  simp only [Slice.beginStart, Slice.pump, Slice.transmit, Slice.openIsog, Slice.sink, SlicePs.fbBack]; (repeat' split) <;> rfl
@[simp] theorem beginStart_ps_psstat_dsat (x : Slice) : x.beginStart.ps.psstat.dsat = x.ps.psstat.dsat := by
  simp only [Slice.beginStart, Slice.pump, Slice.transmit, Slice.openIsog, Slice.sink, SlicePs.fbBack]; (repeat' split) <;> rfl
@[simp] theorem beginStart_ps_psstat_pbfail (x : Slice) : x.beginStart.ps.psstat.pbfail = x.ps.psstat.pbfail := by
  simp only [Slice.beginStart, Slice.pump, Slice.transmit, Slice.openIsog, Slice.sink, SlicePs.fbBack]; (repeat' split) <;> rfl
@[simp] theorem beginStart_ps_psstat_limwait (x : Slice) : x.beginStart.ps.psstat.limwait = x.ps.psstat.limwait := by
  simp only [Slice.beginStart, Slice.pump, Slice.transmit, Slice.openIsog, Slice.sink, SlicePs.fbBack]; (repeat' split) <;> rfl
@[simp] theorem beginStart_ps_psstat_duty (x : Slice) : x.beginStart.ps.psstat.duty = x.ps.psstat.duty := by
  simp only [Slice.beginStart, Slice.pump, Slice.transmit, Slice.openIsog, Slice.sink, SlicePs.fbBack]; (repeat' split) <;> rfl

/-! `Slice.enter` -/

@[simp] theorem enter_att_attstat_orient (st : BitVec 4) (x : Slice) : (Slice.enter st x).att.attstat.orient = x.att.attstat.orient := rfl
@[simp] theorem enter_att_attstat_partner (st : BitVec 4) (x : Slice) : (Slice.enter st x).att.attstat.partner = x.att.attstat.partner := rfl
@[simp] theorem enter_att_attstat_rpSeen (st : BitVec 4) (x : Slice) : (Slice.enter st x).att.attstat.rpSeen = x.att.attstat.rpSeen := rfl
@[simp] theorem enter_att_attstat_nopwr (st : BitVec 4) (x : Slice) : (Slice.enter st x).att.attstat.nopwr = x.att.attstat.nopwr := rfl
@[simp] theorem enter_att_attstat_dbclamp (st : BitVec 4) (x : Slice) : (Slice.enter st x).att.attstat.dbclamp = x.att.attstat.dbclamp := rfl
@[simp] theorem enter_att_attstat_vbusPres (st : BitVec 4) (x : Slice) : (Slice.enter st x).att.attstat.vbusPres = x.att.attstat.vbusPres := rfl
@[simp] theorem enter_att_attstat_vbusSafe0 (st : BitVec 4) (x : Slice) : (Slice.enter st x).att.attstat.vbusSafe0 = x.att.attstat.vbusSafe0 := rfl
@[simp] theorem enter_att_attstat_foreign (st : BitVec 4) (x : Slice) : (Slice.enter st x).att.attstat.foreign = x.att.attstat.foreign := rfl
@[simp] theorem enter_att_attstat_vconnOn (st : BitVec 4) (x : Slice) : (Slice.enter st x).att.attstat.vconnOn = x.att.attstat.vconnOn := rfl
@[simp] theorem enter_att_attstat_vconnFlt (st : BitVec 4) (x : Slice) : (Slice.enter st x).att.attstat.vconnFlt = x.att.attstat.vconnFlt := rfl
@[simp] theorem enter_att_attstat_dbgLink (st : BitVec 4) (x : Slice) : (Slice.enter st x).att.attstat.dbgLink = x.att.attstat.dbgLink := rfl
@[simp] theorem enter_pd_pdstat_revSop (st : BitVec 4) (x : Slice) : (Slice.enter st x).pd.pdstat.revSop = x.pd.pdstat.revSop := rfl
@[simp] theorem enter_pd_pdstat_revSop1 (st : BitVec 4) (x : Slice) : (Slice.enter st x).pd.pdstat.revSop1 = x.pd.pdstat.revSop1 := rfl
@[simp] theorem enter_pd_pdstat_revSop2 (st : BitVec 4) (x : Slice) : (Slice.enter st x).pd.pdstat.revSop2 = x.pd.pdstat.revSop2 := rfl
@[simp] theorem enter_pd_pdstat_pdConn (st : BitVec 4) (x : Slice) : (Slice.enter st x).pd.pdstat.pdConn = x.pd.pdstat.pdConn := rfl
@[simp] theorem enter_pd_pdstat_pdSilent (st : BitVec 4) (x : Slice) : (Slice.enter st x).pd.pdstat.pdSilent = x.pd.pdstat.pdSilent := rfl
@[simp] theorem enter_pd_pdstat_vcsrc (st : BitVec 4) (x : Slice) : (Slice.enter st x).pd.pdstat.vcsrc = x.pd.pdstat.vcsrc := rfl
@[simp] theorem enter_pd_pdstat_unchkOn (st : BitVec 4) (x : Slice) : (Slice.enter st x).pd.pdstat.unchkOn = x.pd.pdstat.unchkOn := rfl
@[simp] theorem enter_pd_pdstat_hrPend (st : BitVec 4) (x : Slice) : (Slice.enter st x).pd.pdstat.hrPend = x.pd.pdstat.hrPend := rfl

/-! `Slice.unattached` -/

@[simp] theorem unattached_att_attstat_orient (x : Slice) : x.unattached.att.attstat.orient = x.att.attstat.orient := rfl
@[simp] theorem unattached_att_attstat_rpSeen (x : Slice) : x.unattached.att.attstat.rpSeen = x.att.attstat.rpSeen := rfl
@[simp] theorem unattached_att_attstat_nopwr (x : Slice) : x.unattached.att.attstat.nopwr = x.att.attstat.nopwr := rfl
@[simp] theorem unattached_att_attstat_dbclamp (x : Slice) : x.unattached.att.attstat.dbclamp = x.att.attstat.dbclamp := rfl
@[simp] theorem unattached_att_attstat_vbusPres (x : Slice) : x.unattached.att.attstat.vbusPres = x.att.attstat.vbusPres := rfl
@[simp] theorem unattached_att_attstat_vbusSafe0 (x : Slice) : x.unattached.att.attstat.vbusSafe0 = x.att.attstat.vbusSafe0 := rfl
@[simp] theorem unattached_att_attstat_vconnOn (x : Slice) : x.unattached.att.attstat.vconnOn = x.att.attstat.vconnOn := rfl
@[simp] theorem unattached_att_attstat_vconnFlt (x : Slice) : x.unattached.att.attstat.vconnFlt = x.att.attstat.vconnFlt := rfl
@[simp] theorem unattached_att_attstat_dbgLink (x : Slice) : x.unattached.att.attstat.dbgLink = x.att.attstat.dbgLink := rfl
@[simp] theorem unattached_pd_pdstat_revSop (x : Slice) : x.unattached.pd.pdstat.revSop = x.pd.pdstat.revSop := rfl
@[simp] theorem unattached_pd_pdstat_revSop1 (x : Slice) : x.unattached.pd.pdstat.revSop1 = x.pd.pdstat.revSop1 := rfl
@[simp] theorem unattached_pd_pdstat_revSop2 (x : Slice) : x.unattached.pd.pdstat.revSop2 = x.pd.pdstat.revSop2 := rfl
@[simp] theorem unattached_pd_pdstat_pdConn (x : Slice) : x.unattached.pd.pdstat.pdConn = x.pd.pdstat.pdConn := rfl
@[simp] theorem unattached_pd_pdstat_pdSilent (x : Slice) : x.unattached.pd.pdstat.pdSilent = x.pd.pdstat.pdSilent := rfl
@[simp] theorem unattached_pd_pdstat_vcsrc (x : Slice) : x.unattached.pd.pdstat.vcsrc = x.pd.pdstat.vcsrc := rfl
@[simp] theorem unattached_pd_pdstat_unchkOn (x : Slice) : x.unattached.pd.pdstat.unchkOn = x.pd.pdstat.unchkOn := rfl
@[simp] theorem unattached_pd_pdstat_hrPend (x : Slice) : x.unattached.pd.pdstat.hrPend = x.pd.pdstat.hrPend := rfl

end Sys2Proof.Machine
end

