-- ==== Sys2Proof/Laws/Effects.lean ====
section
/-!
SUPPORT. What the shared operations on a slice bring about: the values they leave behind.
-/

namespace Sys2Proof.Machine

/-! ## Converter and isolation -/

@[simp] theorem openIsog_isog (x : Slice) : x.openIsog.pins.isog = false := rfl
@[simp] theorem stopConv_pwm (x : Slice) : x.stopConv.pins.pwm = .highZ := rfl
@[simp] theorem stopConv_cstate (x : Slice) : x.stopConv.ps.psstat.cstate = 0 := rfl
@[simp] theorem powerOff_isog (x : Slice) : x.powerOff.pins.isog = false := rfl
@[simp] theorem powerOff_pwm (x : Slice) : x.powerOff.pins.pwm = .highZ := rfl
@[simp] theorem openIsog_cstate (x : Slice) : x.openIsog.ps.psstat.cstate = x.ps.psstat.cstate := by
  simp only [Slice.openIsog, SlicePs.fbBack, sink_ps]; split <;> rfl
@[simp] theorem powerOff_cstate (x : Slice) : x.powerOff.ps.psstat.cstate = 0 := by simp [Slice.powerOff]
@[simp] theorem openIsog_att' (x : Slice) : x.openIsog.att = x.att := rfl
@[simp] theorem powerOff_att' (x : Slice) : x.powerOff.att = x.att := rfl

/-! ## States of the attach block -/

@[simp] theorem enter_state (st : BitVec 4) (x : Slice) : (x.enter st).att.attstat.state = st := rfl
@[simp] theorem enter_rpHeld (st : BitVec 4) (x : Slice) : (x.enter st).att.rpHeld = false := rfl
@[simp] theorem enter_tryDone (st : BitVec 4) (x : Slice) : (x.enter st).att.tryDone = false := rfl
@[simp] theorem enter_term (st : BitVec 4) (x : Slice) :
    (x.enter st).pins.term = if presentsRp st then .rp else if presentsRd st then .rd else .openCc := rfl
@[simp] theorem unattached_state (x : Slice) : x.unattached.att.attstat.state = if x.att.attcfg.role = 2 then 4 else 1 := rfl
@[simp] theorem unattached_detaching (x : Slice) : x.unattached.att.detaching = false := rfl
@[simp] theorem unattached_partner (x : Slice) : x.unattached.att.attstat.partner = 0 := rfl
@[simp] theorem unattached_foreign (x : Slice) : x.unattached.att.attstat.foreign = false := rfl
@[simp] theorem unattached_term (x : Slice) : x.unattached.pins.term = if x.att.attcfg.role = 2 then .rd else .rp := by
  simp only [Slice.unattached, enter_term]; split <;> rfl

/-! ## The queue of the engine -/

@[simp] theorem vconnOpen_on (x : Slice) : x.vconnOpen.att.attstat.vconnOn = false := by
  unfold Slice.vconnOpen; split
  · rfl
  · simp_all

@[simp] theorem pump_slice (p : Port) (s : State) : (pump p s).slice p = (s.slice p).pump := by simp [pump]

@[simp] theorem pump_slice_ne {p q : Port} (s : State) (h : q ≠ p) : (pump p s).slice q = s.slice q := by simp [pump, h]

theorem queueMsg_slice (p : Port) (m : TxMsg) (s : State) :
    (queueMsg p m s).slice p
      = if carries (s.slice p) m then
          { s.slice p with pd := { (s.slice p).pd with ready := (s.slice p).pd.ready ++ [m] } }.pump
        else s.slice p := by simp [queueMsg]

@[simp] theorem queueMsg_slice_ne {p q : Port} (m : TxMsg) (s : State) (h : q ≠ p) : (queueMsg p m s).slice q = s.slice q := by
  simp [queueMsg, h]

theorem transmit_sends (x : Slice) (m : TxMsg) (hi : x.pd.inflight = none) (hr : x.pd.ready = [m]) (hs : sendable x m = true) :
    x.transmit.pd.inflight = some m := by
  have hp : pickTx x = some m := by simp [pickTx, hr, hs]
  simp only [Slice.transmit, hi, Option.isSome_none, Bool.false_eq_true, if_false, hp]
  split <;> rfl

@[simp] theorem refresh_inflight (x : Slice) : x.refresh.pd.inflight = x.pd.inflight := rfl

/-- On an idle line a frame that starts no AMS goes out at once. -/
theorem pump_sends (x : Slice) (m : TxMsg) (hi : x.pd.inflight = none) (hr : x.pd.ready = [m]) (hs : m.starts = false) :
    x.pump.pd.inflight = some m := by
  simp only [Slice.pump, refresh_inflight]
  exact transmit_sends _ m hi hr (by simp [sendable, hs])

/-- While a frame is on the line the queue only grows. -/
theorem pump_busy (x : Slice) (h : x.pd.inflight.isSome = true) : x.pump = x.refresh.refresh := by
  have e : x.refresh.transmit = x.refresh := by simp [Slice.transmit, h]
  rw [Slice.pump, e]

theorem reply_sends (p : Port) (c : Ctx) (k : MsgKind) (w : List Word) (s : State)
    (hc : carries (s.slice p) { ctx := c, kind := k, prio := .reply, words := w } = true)
    (hi : (s.slice p).pd.inflight = none) (hr : (s.slice p).pd.ready = []) :
    ((reply p c k w s).slice p).pd.inflight = some { ctx := c, kind := k, prio := .reply, words := w } := by
  simp only [reply, queueMsg_slice, hc, if_true]
  exact pump_sends _ _ hi (by simp [hr]) (by rfl)

theorem queueMsg_busy (p : Port) (m : TxMsg) (s : State) (hc : carries (s.slice p) m = true)
    (hi : (s.slice p).pd.inflight.isSome = true) :
    ((queueMsg p m s).slice p).pd.ready = (s.slice p).pd.ready ++ [m] := by
  simp only [queueMsg_slice, hc, if_true]
  exact (congrArg (fun x : Slice => x.pd.ready) (pump_busy { s.slice p with pd := { (s.slice p).pd with ready := (s.slice p).pd.ready ++ [m] } } hi)).trans rfl

/-! ## Detach and ErrorRecovery -/

@[simp] theorem endChange_contract (k : BitVec 3) (x : Slice) : (x.endChange k).off.contract = x.off.contract := by
  unfold Slice.endChange; split <;> rfl
@[simp] theorem clearContract_contract (x : Slice) : x.clearContract.off.contract = {} := rfl
@[simp] theorem clearContract_pdConn (x : Slice) : x.clearContract.pd.pdstat.pdConn = false := rfl
@[simp] theorem clearAttach_contract (x : Slice) : x.clearAttach.off.contract = {} := by simp [Slice.clearAttach]
@[simp] theorem clearAttach_conMv (x : Slice) : x.clearAttach.off.conMv = 0 := by
  simp only [Slice.clearAttach, vconnOpen_off, endSwap_off]; rfl
@[simp] theorem clearAttach_pdstat (x : Slice) : x.clearAttach.pd.pdstat = {} := rfl
@[simp] theorem clearAttach_partner (x : Slice) : x.clearAttach.att.attstat.partner = 0 := rfl
@[simp] theorem clearAttach_rxq (x : Slice) : x.clearAttach.mb.rxq = [] := rfl
@[simp] theorem clearAttach_prole (x : Slice) : x.clearAttach.sw.swstat.prole = false := rfl
@[simp] theorem clearAttach_drole (x : Slice) : x.clearAttach.sw.swstat.drole = false := rfl
@[simp] theorem clearAttach_vconn (x : Slice) : x.clearAttach.att.attstat.vconnOn = false := by
  simp only [Slice.clearAttach, vconnOpen_on]
@[simp] theorem clearAttach_snkg (x : Slice) : x.clearAttach.pins.snkg = false := rfl
@[simp] theorem clearAttach_sbu (x : Slice) : x.clearAttach.pins.sbu = .highZ := rfl
@[simp] theorem clearAttach_cfg (x : Slice) : x.clearAttach.att.attcfg = x.att.attcfg := by
  simp [Slice.clearAttach]

@[simp] theorem policyForget_eva (p : Port) (s : State) : (policyForget p s).eva = s.eva := by
  unfold policyForget; split <;> rfl

theorem policyForget_slice (p : Port) (s : State) :
    (policyForget p s).slice p
      = if policyRuns s then { s.slice p with off := { (s.slice p).off with proflim := {} } } else s.slice p := by
  unfold policyForget; cases h : policyRuns s
  · simp
  · simp

@[simp] theorem policyForget_att (p : Port) (s : State) : ((policyForget p s).slice p).att = (s.slice p).att := by
  rw [policyForget_slice]; split <;> rfl
@[simp] theorem policyForget_pd (p : Port) (s : State) : ((policyForget p s).slice p).pd = (s.slice p).pd := by
  rw [policyForget_slice]; split <;> rfl
@[simp] theorem policyForget_ps (p : Port) (s : State) : ((policyForget p s).slice p).ps = (s.slice p).ps := by
  rw [policyForget_slice]; split <;> rfl
@[simp] theorem policyForget_sw (p : Port) (s : State) : ((policyForget p s).slice p).sw = (s.slice p).sw := by
  rw [policyForget_slice]; split <;> rfl
@[simp] theorem policyForget_pr (p : Port) (s : State) : ((policyForget p s).slice p).pr = (s.slice p).pr := by
  rw [policyForget_slice]; split <;> rfl
@[simp] theorem policyForget_pins (p : Port) (s : State) : ((policyForget p s).slice p).pins = (s.slice p).pins := by
  rw [policyForget_slice]; split <;> rfl
@[simp] theorem policyForget_contract (p : Port) (s : State) :
    ((policyForget p s).slice p).off.contract = (s.slice p).off.contract := by rw [policyForget_slice]; split <;> rfl

@[simp] theorem errorRecovery_state (p : Port) (s : State) : ((errorRecovery p s).slice p).att.attstat.state = 14 := by
  simp [errorRecovery]
@[simp] theorem errorRecovery_contract (p : Port) (s : State) : ((errorRecovery p s).slice p).off.contract = {} := by
  simp only [errorRecovery, slice_onSlice, sink_off]
  show (Slice.powerOff (Slice.clearAttach _)).off.contract = {}
  exact clearAttach_contract _
@[simp] theorem errorRecovery_isog (p : Port) (s : State) : ((errorRecovery p s).slice p).pins.isog = false := by
  simp [errorRecovery]
@[simp] theorem errorRecovery_pwm (p : Port) (s : State) : ((errorRecovery p s).slice p).pins.pwm = .highZ := by
  simp [errorRecovery]
@[simp] theorem errorRecovery_term (p : Port) (s : State) : ((errorRecovery p s).slice p).pins.term = .openCc := by
  simp [errorRecovery]
@[simp] theorem errorRecovery_raised (p : Port) (s : State) : (errorRecovery p s).eva.raised (8 * p.val + 7) = true := by
  simp only [errorRecovery, onSlice_eva, policyForget_eva]; exact portEvent_raised p 7 s (by decide)

theorem detach_eva (p : Port) (s : State) : (detach p s).eva.raised (8 * p.val) = true := by
  simp [detach]
@[simp] theorem detach_detaching (p : Port) (s : State) : ((detach p s).slice p).att.detaching = true := by
  simp only [detach, policyForget_att, portEvent_slice, slice_onSlice]
  split <;> split <;> rfl
@[simp] theorem detach_contract (p : Port) (s : State) : ((detach p s).slice p).off.contract = {} := by
  simp only [detach, policyForget_contract, portEvent_slice, slice_onSlice]
  split <;> split <;> exact clearAttach_contract _
@[simp] theorem detach_partner (p : Port) (s : State) : ((detach p s).slice p).att.attstat.partner = 0 := by
  simp only [detach, policyForget_att, portEvent_slice, slice_onSlice]
  split <;> split <;> rfl
@[simp] theorem detach_pdstat (p : Port) (s : State) : ((detach p s).slice p).pd.pdstat = {} := by
  simp only [detach, policyForget_pd, portEvent_slice, slice_onSlice]
  split <;> split <;> rfl
@[simp] theorem detach_vconn (p : Port) (s : State) : ((detach p s).slice p).att.attstat.vconnOn = false := by
  simp only [detach, policyForget_att, portEvent_slice, slice_onSlice]
  split <;> split <;> exact clearAttach_vconn _

end Sys2Proof.Machine
end

