-- ==== Sys2Proof/Laws/Kept.lean ====
section
/-!
SUPPORT. What an operation leaves alone: the memory and the queue (`State.kept`).
-/

namespace Sys2Proof.Machine

@[simp] theorem kept_mk (a b c d e f g h i j k l m n o p q r t u) :
    State.kept ⟨a, b, c, d, e, f, g, h, i, j, k, l, m, n, o, p, q, r, t, u⟩ = (r, u) := rfl

@[simp] theorem kept_eta (s : State) : (s.mem, s.pending) = s.kept := rfl

theorem kept_mem {s t : State} (h : t.kept = s.kept) : t.mem = s.mem := congrArg Prod.fst h

theorem kept_pending {s t : State} (h : t.kept = s.kept) : t.pending = s.pending := congrArg Prod.snd h

theorem kept_of_pair {s s' : State} {β : Type} {b : β} {r : State × β} (h : r = (s', b)) (k : r.1.kept = s.kept) :
    s'.kept = s.kept := by rw [← k, h]

@[simp] theorem kept_ite (c : Prop) [Decidable c] (a b : State) : (if c then a else b).kept = if c then a.kept else b.kept := by
  split <;> rfl

@[simp] theorem kept_foldl {α : Type} (l : List α) (f : State → α → State) (s : State) (h : ∀ s x, (f s x).kept = s.kept) :
    (l.foldl f s).kept = s.kept := by
  induction l generalizing s with
  | nil => rfl
  | cons x l ih => rw [List.foldl_cons, ih, h]

@[simp] theorem kept_foldl_pair {α β : Type} (l : List α) (f : State × β → α → State × β) (r : State × β)
    (h : ∀ r x, (f r x).1.kept = r.1.kept) : (l.foldl f r).1.kept = r.1.kept := by
  induction l generalizing r with
  | nil => rfl
  | cons x l ih => rw [List.foldl_cons, ih, h]


/-! Ops -/

@[simp] theorem onSlice_kept (p : Port) (f : Slice → Slice) (s : State) :
    (onSlice p f s).kept = s.kept := by simp [onSlice]

@[simp] theorem onAtt_kept (p : Port) (f : SliceAtt → SliceAtt) (s : State) :
    (onAtt p f s).kept = s.kept := by simp [onAtt]

@[simp] theorem onPd_kept (p : Port) (f : SlicePd → SlicePd) (s : State) :
    (onPd p f s).kept = s.kept := by simp [onPd]

@[simp] theorem onOff_kept (p : Port) (f : SliceOff → SliceOff) (s : State) :
    (onOff p f s).kept = s.kept := by simp [onOff]

@[simp] theorem onMb_kept (p : Port) (f : SliceMb → SliceMb) (s : State) :
    (onMb p f s).kept = s.kept := by simp [onMb]

@[simp] theorem onPs_kept (p : Port) (f : SlicePs → SlicePs) (s : State) :
    (onPs p f s).kept = s.kept := by simp [onPs]

@[simp] theorem onSw_kept (p : Port) (f : SliceSw → SliceSw) (s : State) :
    (onSw p f s).kept = s.kept := by simp [onSw]

@[simp] theorem onPr_kept (p : Port) (f : SlicePr → SlicePr) (s : State) :
    (onPr p f s).kept = s.kept := by simp [onPr]

@[simp] theorem onGr_kept (p : Port) (f : SliceGr → SliceGr) (s : State) :
    (onGr p f s).kept = s.kept := by simp [onGr]

@[simp] theorem onTh_kept (p : Port) (f : SliceTh → SliceTh) (s : State) :
    (onTh p f s).kept = s.kept := by simp [onTh]

@[simp] theorem onPins_kept (p : Port) (f : SlicePins → SlicePins) (s : State) :
    (onPins p f s).kept = s.kept := by simp [onPins]

@[simp] theorem onPortBud_kept (p : Port) (f : PortBud → PortBud) (s : State) :
    (onPortBud p f s).kept = s.kept := by simp [onPortBud]

@[simp] theorem onPortKln_kept (p : Port) (f : PortKln → PortKln) (s : State) :
    (onPortKln p f s).kept = s.kept := by simp [onPortKln]

@[simp] theorem onSheaf_kept (k : Fin 8) (f : Sheaf → Sheaf) (s : State) :
    (onSheaf k f s).kept = s.kept := by simp [onSheaf]

@[simp] theorem overPorts_kept (f : Port → State → State) (s : State) (hf : ∀ (y0 : Port) (y1 : State),
    (f y0 y1).kept = y1.kept) :
    (overPorts f s).kept = s.kept := by simp only [overPorts]; (repeat' split) <;> simp_all

@[simp] theorem onSup_kept (f : Sup → Sup) (s : State) :
    (onSup f s).kept = s.kept := by simp [onSup]

@[simp] theorem onDid_kept (f : Did → Did) (s : State) :
    (onDid f s).kept = s.kept := by simp [onDid]

@[simp] theorem onEvr_kept (f : Evr → Evr) (s : State) :
    (onEvr f s).kept = s.kept := by simp [onEvr]

@[simp] theorem onLcu_kept (f : Lcu → Lcu) (s : State) :
    (onLcu f s).kept = s.kept := by simp [onLcu]

@[simp] theorem onNvc_kept (f : Nvc → Nvc) (s : State) :
    (onNvc f s).kept = s.kept := by simp [onNvc]

@[simp] theorem onNand_kept (f : Nand → Nand) (s : State) :
    (onNand f s).kept = s.kept := by simp [onNand]

@[simp] theorem onLdBank_kept (k : Bank) (f : LdBank → LdBank) (s : State) :
    (onLdBank k f s).kept = s.kept := by simp [onLdBank]

@[simp] theorem onEvrBank_kept (k : Bank) (f : EvrBank → EvrBank) (s : State) :
    (onEvrBank k f s).kept = s.kept := by simp [onEvrBank]

@[simp] theorem onEvaBank_kept (k : Bank) (f : EvaBank → EvaBank) (s : State) :
    (onEvaBank k f s).kept = s.kept := by simp [onEvaBank]

@[simp] theorem takeFree_kept (s : State) :
    (takeFree s).kept = s.kept := by simp [takeFree]

@[simp] theorem raise_kept (n : Nat) (s : State) :
    (raise n s).kept = s.kept := by simp [raise]

@[simp] theorem ringPut_kept (type : BitVec 8) (source : BitVec 8) (flags : BitVec 16) (data : BitVec 48) (s : State) :
    (ringPut type source flags data s).kept = s.kept := by simp [ringPut]

@[simp] theorem ringWrite_kept (type : BitVec 8) (source : BitVec 8) (flags : BitVec 16) (data : BitVec 48) (s : State) :
    (ringWrite type source flags data s).kept = s.kept := by simp [ringWrite]

@[simp] theorem hwRecord_kept (type : BitVec 8) (source : BitVec 8) (flags : BitVec 16) (data : BitVec 48) (s : State) :
    (hwRecord type source flags data s).kept = s.kept := by simp [hwRecord]

@[simp] theorem fwRecord_kept (source : Nat) (word : Word) (idx : Nat) (s : State) :
    (fwRecord source word idx s).kept = s.kept := by simp [fwRecord]

@[simp] theorem globalEvent_kept (n : Nat) (word : Word) (idx : Nat) (s : State) :
    (globalEvent n word idx s).kept = s.kept := by simp [globalEvent]

@[simp] theorem portEvent_kept (p : Port) (k : Nat) (s : State) :
    (portEvent p k s).kept = s.kept := by simp [portEvent]

@[simp] theorem supplyRecord_kept (source : BitVec 8) (s : State) :
    (supplyRecord source s).kept = s.kept := by simp [supplyRecord]

@[simp] theorem supplyEvent_kept (n : Nat) (s : State) :
    (supplyEvent n s).kept = s.kept := by simp [supplyEvent]

@[simp] theorem takeSnapshot_kept (s : State) :
    (takeSnapshot s).kept = s.kept := by simp [takeSnapshot]

/-! PowerOps -/

@[simp] theorem tripEvent_kept (p : Port) (latched : Bool) (s : State) :
    (tripEvent p latched s).kept = s.kept := by simp [tripEvent]

@[simp] theorem selfCheck_kept (p : Port) (s : State) :
    (selfCheck p s).kept = s.kept := by simp [selfCheck]

@[simp] theorem selfCheckWith_kept (p : Port) (bad : BitVec 4) (s : State) :
    (selfCheckWith p bad s).kept = s.kept := by simp [selfCheckWith]

@[simp] theorem startConv_kept (p : Port) (s : State) :
    (startConv p s).kept = s.kept := by simp [startConv]

@[simp] theorem startSwapConv_kept (p : Port) (s : State) :
    (startSwapConv p s).kept = s.kept := by simp [startSwapConv]

@[simp] theorem startPower_kept (p : Port) (s : State) :
    (startPower p s).kept = s.kept := by simp [startPower]

@[simp] theorem writePwmph_kept (p : Port) (w : Word) (s : State) :
    (writePwmph p w s).kept = s.kept := by simp [writePwmph]

@[simp] theorem spreadGroup_kept (g : Nat) (s : State) :
    (spreadGroup g s).kept = s.kept := by simp [spreadGroup]

@[simp] theorem spreading_kept (f : State → State) (s : State) (hf : ∀ (y0 : State), (f y0).kept = y0.kept) :
    (spreading f s).kept = s.kept := by
  simp only [spreading]; split
  · exact hf s
  · rw [kept_foldl]
    · exact hf s
    · intro t g; split <;> simp

/-! FarEnd -/

@[simp] theorem feReport_kept (p : Port) (cnl : Byte) (vin : BitVec 16) (fault : Byte) (s : State) :
    (feReport p cnl vin fault s).kept = s.kept := by simp [feReport]

@[simp] theorem feEnd_kept (p : Port) (s : State) :
    (feEnd p s).kept = s.kept := by simp [feEnd]

@[simp] theorem feDiscard_kept (p : Port) (s : State) :
    (feDiscard p s).kept = s.kept := by simp [feDiscard]

@[simp] theorem feWithdraw_kept (p : Port) (s : State) :
    (feWithdraw p s).kept = s.kept := by simp [feWithdraw]

@[simp] theorem feCycle_kept (p : Port) (s : State) :
    (feCycle p s).kept = s.kept := by simp [feCycle]

@[simp] theorem phaseLoad_kept (p : Port) (force : Bool) (s : State) :
    (phaseLoad p force s).kept = s.kept := by simp [phaseLoad]

/-! EngineOps -/

@[simp] theorem pump_kept (p : Port) (s : State) :
    (pump p s).kept = s.kept := by simp [pump]

@[simp] theorem queueMsg_kept (p : Port) (m : TxMsg) (s : State) :
    (queueMsg p m s).kept = s.kept := by simp [queueMsg]

@[simp] theorem startAms_kept (p : Port) (c : Ctx) (kind : MsgKind) (words : List Word) (s : State) :
    (startAms p c kind words s).kept = s.kept := by simp [startAms]

@[simp] theorem reply_kept (p : Port) (c : Ctx) (kind : MsgKind) (words : List Word) (s : State) :
    (reply p c kind words s).kept = s.kept := by simp [reply]

@[simp] theorem replyWhy_kept (p : Port) (kind : MsgKind) (why : TxWhy) (s : State) :
    (replyWhy p kind why s).kept = s.kept := by simp [replyWhy]

@[simp] theorem endAms_kept (p : Port) (s : State) :
    (endAms p s).kept = s.kept := by simp [endAms]

@[simp] theorem policyForget_kept (p : Port) (s : State) :
    (policyForget p s).kept = s.kept := by simp [policyForget]

@[simp] theorem errorRecovery_kept (p : Port) (s : State) :
    (errorRecovery p s).kept = s.kept := by simp [errorRecovery]

@[simp] theorem detach_kept (p : Port) (s : State) :
    (detach p s).kept = s.kept := by simp [detach]

@[simp] theorem pdSilence_kept (p : Port) (s : State) :
    (pdSilence p s).kept = s.kept := by simp [pdSilence]

@[simp] theorem hrPower_kept (p : Port) (s : State) :
    (hrPower p s).kept = s.kept := by simp [hrPower]

@[simp] theorem emitHardReset_kept (p : Port) (s : State) :
    (emitHardReset p s).kept = s.kept := by simp [emitHardReset]

@[simp] theorem sendHardReset_kept (p : Port) (s : State) :
    (sendHardReset p s).kept = s.kept := by simp [sendHardReset]

@[simp] theorem sendSoftReset_kept (p : Port) (c : Ctx) (s : State) :
    (sendSoftReset p c s).kept = s.kept := by simp [sendSoftReset]

@[simp] theorem sendCableReset_kept (p : Port) (s : State) :
    (sendCableReset p s).kept = s.kept := by simp [sendCableReset]

@[simp] theorem protocolError_kept (p : Port) (c : Ctx) (s : State) :
    (protocolError p c s).kept = s.kept := by unfold protocolError; split <;> simp

@[simp] theorem discoverSend_kept (p : Port) (s : State) :
    (discoverSend p s).kept = s.kept := by simp [discoverSend]

@[simp] theorem discoverStart_kept (p : Port) (s : State) :
    (discoverStart p s).kept = s.kept := by simp [discoverStart]

/-! OfferOps -/

@[simp] theorem renewAdverts_kept (p : Port) (s : State) :
    (renewAdverts p s).kept = s.kept := by simp [renewAdverts]

@[simp] theorem advertise_kept (p : Port) (s : State) :
    (advertise p s).kept = s.kept := by simp [advertise]

@[simp] theorem abortChange_kept (p : Port) (cause : BitVec 3) (s : State) :
    (abortChange p cause s).kept = s.kept := by simp only [abortChange]; (repeat' split) <;> simp

@[simp] theorem tryAlert_kept (p : Port) (s : State) :
    (tryAlert p s).kept = s.kept := by simp [tryAlert]

@[simp] theorem alertBit_kept (p : Port) (b : BitVec 3) (s : State) :
    (alertBit p b s).kept = s.kept := by simp [alertBit]

@[simp] theorem limitsChanged_kept (p : Port) (s : State) :
    (limitsChanged p s).kept = s.kept := by simp only [limitsChanged]; (repeat' split) <;> simp

/-! SchedOps -/

@[simp] theorem onSlot_kept (k : Fin 128) (f : SchedSlot → SchedSlot) (s : State) :
    (onSlot k f s).kept = s.kept := by simp [onSlot]

@[simp] theorem slotSkipped_kept (k : Option (Fin 128 × Byte)) (s : State) :
    (slotSkipped k s).kept = s.kept := by unfold slotSkipped; split <;> simp

@[simp] theorem thFailedCmd_kept (p : Port) (s : State) :
    (thFailedCmd p s).kept = s.kept := by simp [thFailedCmd]

/-! Thatch -/

@[simp] theorem thAdvance_kept (p : Port) (step : ThStep) (state : BitVec 3) (kind : MsgKind) (words : List Word) (s : State) :
    (thAdvance p step state kind words s).kept = s.kept := by simp [thAdvance]

@[simp] theorem thStop_kept (p : Port) (state : BitVec 3) (s : State) :
    (thStop p state s).kept = s.kept := by simp [thStop]

@[simp] theorem thIdentityAnswer_kept (p : Port) (id : Option (BitVec 16 × BitVec 16)) (s : State) :
    (thIdentityAnswer p id s).kept = s.kept := by simp only [thIdentityAnswer]; (repeat' split) <;> simp

@[simp] theorem thSvidsAnswer_kept (p : Port) (svids : List (BitVec 16)) (s : State) :
    (thSvidsAnswer p svids s).kept = s.kept := by simp [thSvidsAnswer]

@[simp] theorem thSendEnter_kept (p : Port) (s : State) :
    (thSendEnter p s).kept = s.kept := by simp [thSendEnter]

@[simp] theorem thModesAnswer_kept (p : Port) (vdos : List Word) (s : State) :
    (thModesAnswer p vdos s).kept = s.kept := by simp only [thModesAnswer]; (repeat' split) <;> simp

@[simp] theorem enterModeAnswer_kept (p : Port) (ans : VdmType) (s : State) :
    (enterModeAnswer p ans s).kept = s.kept := by unfold enterModeAnswer; split <;> simp

@[simp] theorem thPollReport_kept (p : Port) (r : ThReport) (s : State) :
    (thPollReport p r s).kept = s.kept := by simp [thPollReport]

@[simp] theorem thFlags_kept (p : Port) (r : ThReport) (s : State) :
    (thFlags p r s).kept = s.kept := by simp [thFlags]

@[simp] theorem thOff_kept (p : Port) (s : State) :
    (thOff p s).kept = s.kept := by simp [thOff]

@[simp] theorem thExit_kept (p : Port) (s : State) :
    (thExit p s).kept = s.kept := by simp [thExit]

@[simp] theorem writeThctl_kept (p : Port) (w : Word) (s : State) :
    (writeThctl p w s).kept = s.kept := by simp [writeThctl]

@[simp] theorem vdmResponseTimeout_kept (p : Port) (s : State) :
    (vdmResponseTimeout p s).kept = s.kept := by simp only [vdmResponseTimeout]; (repeat' split) <;> simp

/-! DmaOps -/

@[simp] theorem onDma_kept (c : Fin 16) (f : DmaCh → DmaCh) (s : State) :
    (onDma c f s).kept = s.kept := by simp [onDma]

@[simp] theorem dmaStartBy_kept (k : Bank) (c : Fin 16) (s : State) :
    (dmaStartBy k c s).kept = s.kept := by simp [dmaStartBy]

@[simp] theorem dmaTrigger_kept (k : Bank) (mask : BitVec 16) (s : State) :
    (dmaTrigger k mask s).1.kept = s.kept := by
  unfold dmaTrigger; rw [kept_foldl_pair]
  intro r c; split
  · split
    · exact onDma_kept _ _ _
    · rfl
  · rfl

@[simp] theorem dmaAbortBy_kept (k : Bank) (c : Fin 16) (s : State) :
    (dmaAbortBy k c s).kept = s.kept := by simp [dmaAbortBy]

/-! GrantOps -/

@[simp] theorem sinkRequest_kept (p : Port) (answer : Bool) (s : State) :
    (sinkRequest p answer s).kept = s.kept := by simp only [sinkRequest]; (repeat' split) <;> simp

@[simp] theorem frsCheck_kept (p : Port) (s : State) :
    (frsCheck p s).kept = s.kept := by simp [frsCheck]

@[simp] theorem frsSignal_kept (p : Port) (s : State) :
    (frsSignal p s).kept = s.kept := by simp [frsSignal]

@[simp] theorem grantGone_kept (p : Port) (byCap : Bool) (s : State) :
    (grantGone p byCap s).kept = s.kept := by simp [grantGone]

@[simp] theorem grantBack_kept (p : Port) (s : State) :
    (grantBack p s).kept = s.kept := by simp [grantBack]

@[simp] theorem grantMoved_kept (p : Port) (old : SliceGr) (byCap : Bool) (s : State) :
    (grantMoved p old byCap s).kept = s.kept := by simp [grantMoved]

@[simp] theorem setGrant_kept (p : Port) (g : SlcGrant) (s : State) :
    (setGrant p g s).kept = s.kept := by simp [setGrant]

@[simp] theorem writeProflim_kept (p : Port) (v : SlcProflim) (s : State) :
    (writeProflim p v s).kept = s.kept := by simp [writeProflim]

/-! RecorderOps -/

@[simp] theorem logAppend_kept (rs : List Rec4) (s : State) :
    (logAppend rs s).kept = s.kept := by simp [logAppend]

@[simp] theorem powerFailFlush_kept (s : State) :
    (powerFailFlush s).kept = s.kept := by simp [powerFailFlush]

@[simp] theorem flushMerge_kept (s : State) :
    (flushMerge s).kept = s.kept := by unfold flushMerge; split <;> simp

@[simp] theorem recorderRecord_kept (source : Byte) (low : Nat) (cause : Nat) (high : Nat) (s : State) :
    (recorderRecord source low cause high s).kept = s.kept := by simp [recorderRecord]

@[simp] theorem saturated_kept (which : Nat) (s : State) :
    (saturated which s).kept = s.kept := by simp [saturated]

@[simp] theorem reportLost_kept (s : State) :
    (reportLost s).kept = s.kept := by simp [reportLost]

@[simp] theorem loadCounters_kept (s : State) :
    (loadCounters s).kept = s.kept := by simp [loadCounters]

@[simp] theorem recorderStart_kept (s : State) :
    (recorderStart s).kept = s.kept := by simp only [recorderStart]; (repeat' split) <;> simp

@[simp] theorem stageSector_kept (rs : List Rec4) (s : State) :
    (stageSector rs s).1.kept = s.kept := by unfold stageSector; split <;> simp

@[simp] theorem drainHw_kept (s : State) :
    (drainHw s).kept = s.kept := by
  unfold drainHw; simp only; split
  · rfl
  · split <;> rename_i h
    · exact kept_of_pair h (stageSector_kept _ _)
    · simp [kept_of_pair h (stageSector_kept _ _)]

@[simp] theorem drainFw_kept (s : State) :
    (drainFw s).kept = s.kept := by
  unfold drainFw; simp only; split
  · rfl
  · split <;> rename_i h
    · exact kept_of_pair h (stageSector_kept _ _)
    · simp [kept_of_pair h (stageSector_kept _ _)]

@[simp] theorem sectorLogged_kept (rs : List Rec4) (s : State) :
    (sectorLogged rs s).kept = s.kept := by unfold sectorLogged; split <;> simp

@[simp] theorem programPage_kept (s : State) :
    (programPage s).kept = s.kept := by simp [programPage]

@[simp] theorem logWinWrite_kept (i : Nat) (w : Word) (s : State) :
    (logWinWrite i w s).kept = s.kept := by simp [logWinWrite]

@[simp] theorem sectorsRead_kept (corr unc : Nat) (s : State) :
    (sectorsRead corr unc s).kept = s.kept := by simp [sectorsRead]

@[simp] theorem sectorRead_kept (r : SectorRead) (s : State) :
    (sectorRead r s).kept = s.kept := by cases r <;> simp [sectorRead]

@[simp] theorem evrFetched_kept (k : Bank) (rd : SectorRead) (s : State) :
    (evrFetched k rd s).kept = s.kept := by simp only [evrFetched]; (repeat' split) <;> simp

/-! NandOps -/

@[simp] theorem nandWear_kept (s : State) :
    (nandWear s).kept = s.kept := by simp [nandWear]

@[simp] theorem retireBlock_kept (part : Nat) (high : Bool) (s : State) :
    (retireBlock part high s).kept = s.kept := by simp only [retireBlock]; (repeat' split) <;> simp

@[simp] theorem noteWear_kept (w : BitVec 24) (s : State) :
    (noteWear w s).kept = s.kept := by simp only [noteWear]; (repeat' split) <;> simp

@[simp] theorem flashOp_kept (part : Nat) (high : Bool) (o : FlashOp) (s : State) :
    (flashOp part high o s).kept = s.kept := by simp only [flashOp]; (repeat' split) <;> simp

@[simp] theorem evrAdvance_kept (k : Bank) (s : State) :
    (evrAdvance k s).kept = s.kept := by simp [evrAdvance]

@[simp] theorem clearRing_kept (fw : Bool) (dom : Nat) (s : State) :
    (clearRing fw dom s).kept = s.kept := by simp [clearRing]

/-! SupplyOps -/

@[simp] theorem capUpdate_kept (s : State) :
    (capUpdate s).kept = s.kept := by simp [capUpdate]

@[simp] theorem publishVmax_kept (v : BitVec 9) (s : State) :
    (publishVmax v s).kept = s.kept := by simp [publishVmax]

@[simp] theorem pfwAssert_kept (s : State) :
    (pfwAssert s).kept = s.kept := by simp [pfwAssert]

@[simp] theorem pfwRelease_kept (s : State) :
    (pfwRelease s).kept = s.kept := by simp [pfwRelease]

@[simp] theorem holdAssert_kept (s : State) :
    (holdAssert s).kept = s.kept := by simp [holdAssert]

@[simp] theorem portsPresent_kept (s : State) :
    (portsPresent s).kept = s.kept := by simp [portsPresent]

@[simp] theorem activeMoved_kept (old : InputId) (s : State) :
    (activeMoved old s).kept = s.kept := by simp [activeMoved]

@[simp] theorem setActive_kept (x : InputId) (s : State) :
    (setActive x s).kept = s.kept := by unfold setActive; split <;> simp

@[simp] theorem onPath_kept (x : PathId) (f : Path → Path) (s : State) :
    (onPath x f s).kept = s.kept := by simp [onPath]

@[simp] theorem connectPath_kept (x : PathId) (attempt : Bool) (s : State) :
    (connectPath x attempt s).kept = s.kept := by simp [connectPath]

@[simp] theorem connectSink_kept (p : Port) (s : State) :
    (connectSink p s).kept = s.kept := by simp [connectSink]

@[simp] theorem connectNext_kept (s : State) :
    (connectNext s).kept = s.kept := by simp only [connectNext]; (repeat' split) <;> simp

@[simp] theorem supplyConfigured_kept (s : State) :
    (supplyConfigured s).kept = s.kept := by simp [supplyConfigured]

@[simp] theorem noSupply_kept (s : State) :
    (noSupply s).kept = s.kept := by simp only [noSupply]; (repeat' split) <;> simp

@[simp] theorem takeBackup_kept (armed : Bool) (s : State) :
    (takeBackup armed s).kept = s.kept := by simp [takeBackup]

@[simp] theorem activeLost_kept (s : State) :
    (activeLost s).kept = s.kept := by simp [activeLost]

/-! EtestOps -/

@[simp] theorem etestStart_kept (kind : BitVec 2) (s : State) :
    (etestStart kind s).1.kept = s.kept := by unfold etestStart; split <;> simp

@[simp] theorem etestFinish_kept (result : BitVec 3) (cause : BitVec 3) (atOnce : Bool) (s : State) :
    (etestFinish result cause atOnce s).kept = s.kept := by simp [etestFinish]

/-! Cycle -/

@[simp] theorem reference_kept (pNs : Int) (eNs : Int) (m : Nat) (s : State) :
    (reference pNs eNs m s).kept = s.kept := by simp [reference]

@[simp] theorem internalReference_kept (s : State) :
    (internalReference s).kept = s.kept := by simp [internalReference]

@[simp] theorem zcReference_kept (p : Nat) (m : Nat) (since : Int) (s : State) :
    (zcReference p m since s).kept = s.kept := by simp [zcReference]

@[simp] theorem zcCaptureAt_kept (t : Nat) (since : Int) (s : State) :
    (zcCaptureAt t since s).kept = s.kept := by simp only [zcCaptureAt]; (repeat' split) <;> simp

@[simp] theorem zcCapture_kept (t : Nat) (rising : Bool) (since : Int) (s : State) :
    (zcCapture t rising since s).kept = s.kept := by simp [zcCapture]

@[simp] theorem onTimer_kept (k : Fin 8) (f : Timer → Timer) (s : State) :
    (onTimer k f s).kept = s.kept := by simp [onTimer]

@[simp] theorem submit_kept (e : SchedEntry) (phase : BitVec 16) (s : State) :
    (submit e phase s).1.kept = s.kept := by simp only [submit]; (repeat' split) <;> simp

@[simp] theorem schedGo_kept (q : Requester) (phase : BitVec 16) (s : State) :
    (schedGo q phase s).kept = s.kept := by simp [schedGo]

@[simp] theorem schedAbort_kept (q : Requester) (h : BitVec 15) (s : State) :
    (schedAbort q h s).kept = s.kept := by simp only [schedAbort]; (repeat' split) <;> simp

@[simp] theorem writeLdctl_kept (q : Requester) (phase : BitVec 16) (w : Word) (s : State) :
    (writeLdctl q phase w s).kept = s.kept := by simp [writeLdctl]

@[simp] theorem carryOut_kept (k : Fin 128) (e : SchedEntry) (gen : Byte) (s : State) :
    (carryOut k e gen s).1.kept = s.kept := by simp only [carryOut]; (repeat' split) <;> simp

@[simp] theorem runEntry_kept (k : Fin 128) (late : Bool) (s : State) :
    (runEntry k late s).kept = s.kept := by simp [runEntry]

@[simp] theorem dispatchEntry_kept (k : Fin 128) (op : Byte) (s : State) :
    (dispatchEntry k op s).kept = s.kept := by simp [dispatchEntry]

@[simp] theorem runWaiting_kept (s : State) :
    (runWaiting s).kept = s.kept := by simp [runWaiting]

@[simp] theorem renumberBy_kept (d : Word) (s : State) :
    (renumberBy d s).kept = s.kept := by simp [renumberBy]

@[simp] theorem renumber_kept (cn : Word) (ep : BitVec 16) (s : State) :
    (renumber cn ep s).kept = s.kept := by simp [renumber]

@[simp] theorem advanceCn_kept (s : State) :
    (advanceCn s).kept = s.kept := by simp [advanceCn]

@[simp] theorem applyRenumberings_kept (s : State) :
    (applyRenumberings s).kept = s.kept := by simp only [applyRenumberings]; (repeat' split) <;> simp

@[simp] theorem latchSnapshots_kept (ms : List SnapMeas) (s : State) :
    (latchSnapshots ms s).kept = s.kept := by simp [latchSnapshots]

@[simp] theorem addSquare_kept (p : Port) (s : State) :
    (addSquare p s).kept = s.kept := by simp [addSquare]

@[simp] theorem countSnap_kept (s : State) :
    (countSnap s).kept = s.kept := by simp [countSnap]

@[simp] theorem collectCurrents_kept (s : State) :
    (collectCurrents s).kept = s.kept := by simp [collectCurrents]

@[simp] theorem commitEntries_kept (s : State) :
    (commitEntries s).kept = s.kept := by simp [commitEntries]

@[simp] theorem synSend_kept (fs : List (List Byte)) (s : State) :
    (synSend fs s).kept = s.kept := by simp [synSend]

@[simp] theorem boundaryClock_kept (s : State) :
    (boundaryClock s).kept = s.kept := by simp [boundaryClock]

@[simp] theorem cycleBoundary_kept (ms : List SnapMeas) (s : State) :
    (cycleBoundary ms s).kept = s.kept := by simp [cycleBoundary]

@[simp] theorem synForeign_kept (s : State) :
    (synForeign s).kept = s.kept := by simp [synForeign]

@[simp] theorem setSynState_kept (n : BitVec 3) (s : State) :
    (setSynState n s).kept = s.kept := by simp [setSynState]

@[simp] theorem tickAcquire_kept (tick : SynTick) (r : Int) (since : Int) (s : State) :
    (tickAcquire tick r since s).kept = s.kept := by simp [tickAcquire]

@[simp] theorem tickLocked_kept (tick : SynTick) (r : Int) (since : Int) (s : State) :
    (tickLocked tick r since s).kept = s.kept := by simp only [tickLocked]; (repeat' split) <;> simp

@[simp] theorem tickConflict_kept (tick : SynTick) (s : State) :
    (tickConflict tick s).kept = s.kept := by simp [tickConflict]

@[simp] theorem slaselineTick_kept (tick : SynTick) (t : Int) (since : Int) (tx : Bool) (s : State) :
    (slaselineTick tick t since tx s).kept = s.kept := by simp [slaselineTick]

@[simp] theorem tickMissed_kept (s : State) :
    (tickMissed s).kept = s.kept := by simp [tickMissed]

@[simp] theorem actedOn_kept (cmd : Word) (s : State) :
    (actedOn cmd s).kept = s.kept := by simp [actedOn]

@[simp] theorem synDup_kept (s : State) :
    (synDup s).kept = s.kept := by simp [synDup]

@[simp] theorem synSubmit_kept (e : SchedEntry) (phase : BitVec 16) (s : State) :
    (synSubmit e phase s).kept = s.kept := by simp [synSubmit]

@[simp] theorem synCommand_kept (dom : BitVec 16) (cmd : Word) (addressed : Bool) (act : State → State) (s : State)
    (hact : ∀ (y0 : State), (act y0).kept = y0.kept) :
    (synCommand dom cmd addressed act s).kept = s.kept := by simp only [synCommand]; (repeat' split) <;> simp_all

@[simp] theorem addTimeSet_kept (t : TimeSet) (s : State) :
    (addTimeSet t s).kept = s.kept := by simp [addTimeSet]

@[simp] theorem onSynBank_kept (bk : Bank) (f : SynBank → SynBank) (s : State) :
    (onSynBank bk f s).kept = s.kept := by simp [onSynBank]

@[simp] theorem synGo_kept (q : Requester) (s : State) :
    (synGo q s).kept = s.kept := by simp [synGo]

@[simp] theorem ownCommand_kept (c : SynCmd) (s : State) :
    (ownCommand c s).kept = s.kept := by simp [ownCommand]

@[simp] theorem synCommandSend_kept (s : State) :
    (synCommandSend s).kept = s.kept := by unfold synCommandSend; split <;> simp

@[simp] theorem writeSynCtl_kept (w : Word) (s : State) :
    (writeSynCtl w s).kept = s.kept := by simp [writeSynCtl]

/-! ProtectOps -/

@[simp] theorem trip_kept (p : Port) (cause : BitVec 4) (i : BitVec 16) (v : BitVec 16) (s : State) :
    (trip p cause i v s).kept = s.kept := by simp [trip]

@[simp] theorem startAttempt_kept (p : Port) (s : State) :
    (startAttempt p s).kept = s.kept := by simp [startAttempt]

@[simp] theorem engineStart_kept (p : Port) (s : State) :
    (engineStart p s).kept = s.kept := by simp [engineStart]

/-! SwapOps -/

@[simp] theorem swapDone_kept (p : Port) (f : Slice → Slice) (s : State) :
    (swapDone p f s).kept = s.kept := by simp [swapDone]

@[simp] theorem sendSwap_kept (p : Port) (k : SwapKind) (s : State) :
    (sendSwap p k s).kept = s.kept := by simp [sendSwap]

@[simp] theorem trySwaps_kept (p : Port) (s : State) :
    (trySwaps p s).kept = s.kept := by simp [trySwaps]

@[simp] theorem dropSwap_kept (p : Port) (result : BitVec 3) (k : SwapKind) (s : State) :
    (dropSwap p result k s).kept = s.kept := by simp [dropSwap]

@[simp] theorem prFromSink_kept (p : Port) (s : State) :
    (prFromSink p s).kept = s.kept := by simp [prFromSink]

@[simp] theorem vconnAccepted_kept (p : Port) (s : State) :
    (vconnAccepted p s).kept = s.kept := by simp [vconnAccepted]

@[simp] theorem frsOldGate_kept (p : Port) (s : State) :
    (frsOldGate p s).kept = s.kept := by simp [frsOldGate]

@[simp] theorem swapAccepted_kept (p : Port) (k : SwapKind) (s : State) :
    (swapAccepted p k s).kept = s.kept := by unfold swapAccepted; split <;> simp

@[simp] theorem prRamp_kept (p : Port) (s : State) :
    (prRamp p s).kept = s.kept := by simp [prRamp]

@[simp] theorem prVbusDown_kept (p : Port) (s : State) :
    (prVbusDown p s).kept = s.kept := by simp [prVbusDown]

@[simp] theorem prGate_kept (p : Port) (s : State) :
    (prGate p s).kept = s.kept := by simp [prGate]

@[simp] theorem frsFinish_kept (p : Port) (s : State) :
    (frsFinish p s).kept = s.kept := by simp [frsFinish]

@[simp] theorem frsClose_kept (p : Port) (s : State) :
    (frsClose p s).kept = s.kept := by simp [frsClose]

/-! Supply -/

@[simp] theorem resumeChange_kept (p : Port) (s : State) :
    (resumeChange p s).kept = s.kept := by simp only [resumeChange]; (repeat' split) <;> simp

@[simp] theorem releaseTransitions_kept (p : Port) (s : State) :
    (releaseTransitions p s).kept = s.kept := by simp [releaseTransitions]

@[simp] theorem releaseResets_kept (p : Port) (s : State) :
    (releaseResets p s).kept = s.kept := by unfold releaseResets; split <;> simp

@[simp] theorem releaseAdverts_kept (p : Port) (s : State) :
    (releaseAdverts p s).kept = s.kept := by simp [releaseAdverts]

@[simp] theorem startReturn_kept (x : PathId) (s : State) :
    (startReturn x s).kept = s.kept := by simp [startReturn]

@[simp] theorem vmaxFall_kept (vin : Nat) (s : State) :
    (vmaxFall vin s).kept = s.kept := by simp [vmaxFall]

@[simp] theorem holdRelease_kept (vin : Nat) (s : State) :
    (holdRelease vin s).kept = s.kept := by simp [holdRelease]

@[simp] theorem pfwFollow_kept (s : State) :
    (pfwFollow s).kept = s.kept := by simp [pfwFollow]

@[simp] theorem inputQualified_kept (x : PathId) (mv : Nat) (s : State) :
    (inputQualified x mv s).kept = s.kept := by simp [inputQualified]

@[simp] theorem inputLost_kept (x : PathId) (s : State) :
    (inputLost x s).kept = s.kept := by simp [inputLost]

@[simp] theorem cascadeLost_kept (p : Port) (s : State) :
    (cascadeLost p s).kept = s.kept := by simp only [cascadeLost]; (repeat' split) <;> simp

@[simp] theorem pathGood_kept (x : PathId) (vin : Nat) (s : State) :
    (pathGood x vin s).kept = s.kept := by unfold pathGood; split <;> simp

@[simp] theorem pathFails_kept (x : PathId) (cause : BitVec 2) (counted : Bool) (qual : Bool) (s : State) :
    (pathFails x cause counted qual s).kept = s.kept := by simp [pathFails]

@[simp] theorem sinkPathFails_kept (p : Port) (counted : Bool) (s : State) :
    (sinkPathFails p counted s).kept = s.kept := by simp [sinkPathFails]

@[simp] theorem writeSupRstat_kept (w : Word) (s : State) :
    (writeSupRstat w s).kept = s.kept := by simp [writeSupRstat]

@[simp] theorem setSupplyMeas_kept (vmain : BitVec 16) (vbkup : BitVec 16) (vbulk : BitVec 16) (vhk : BitVec 16) (s : State) :
    (setSupplyMeas vmain vbkup vbulk vhk s).kept = s.kept := by simp [setSupplyMeas]

@[simp] theorem etestWindow_kept (s : State) :
    (etestWindow s).kept = s.kept := by simp [etestWindow]

@[simp] theorem relayScene_kept (on : Bool) (s : State) :
    (relayScene on s).kept = s.kept := by simp [relayScene]

@[simp] theorem writeSupEtst_kept (w : Word) (s : State) :
    (writeSupEtst w s).kept = s.kept := by simp [writeSupEtst]

/-! Attach -/

@[simp] theorem whenReleased_kept (f : State → State) (s : State) (hf : ∀ (y0 : State), (f y0).kept = y0.kept) :
    (whenReleased f s).kept = s.kept := by simp only [whenReleased]; (repeat' split) <;> simp_all

@[simp] theorem enterDebug_kept (p : Port) (st : BitVec 4) (partner : BitVec 3) (s : State) :
    (enterDebug p st partner s).kept = s.kept := by simp [enterDebug]

@[simp] theorem attachSource_kept (p : Port) (s : State) :
    (attachSource p s).kept = s.kept := by simp [attachSource]

@[simp] theorem attachWaitDone_kept (p : Port) (s : State) :
    (attachWaitDone p s).kept = s.kept := by simp [attachWaitDone]

@[simp] theorem attachSink_kept (p : Port) (s : State) :
    (attachSink p s).kept = s.kept := by simp [attachSink]

@[simp] theorem sinkHeld_kept (p : Port) (s : State) :
    (sinkHeld p s).kept = s.kept := by simp [sinkHeld]

@[simp] theorem ccMoves_kept (p : Port) (changed : Bool) (s : State) :
    (ccMoves p changed s).kept = s.kept := by simp [ccMoves]

@[simp] theorem ccSample_kept (p : Port) (cc1 : Option Nat) (cc2 : Option Nat) (rpBoth : Bool) (ivc vvcIn : Nat) (s : State) :
    (ccSample p cc1 cc2 rpBoth ivc vvcIn s).kept = s.kept := by simp [ccSample]

@[simp] theorem ccDebounced_kept (p : Port) (s : State) :
    (ccDebounced p s).kept = s.kept := by simp [ccDebounced]

@[simp] theorem vbusSafe5_kept (p : Port) (s : State) :
    (vbusSafe5 p s).kept = s.kept := by simp [vbusSafe5]

@[simp] theorem sinkRecovered_kept (p : Port) (s : State) :
    (sinkRecovered p s).kept = s.kept := by simp [sinkRecovered]

@[simp] theorem vbusLevel_kept (p : Port) (mv : Nat) (s : State) :
    (vbusLevel p mv s).kept = s.kept := by simp [vbusLevel]

@[simp] theorem vconnInLow_kept (s : State) :
    (vconnInLow s).kept = s.kept := by simp [vconnInLow]

@[simp] theorem vconnBack_kept (p : Port) (s : State) :
    (vconnBack p s).kept = s.kept := by simp [vconnBack]

@[simp] theorem vconnInRestored_kept (s : State) :
    (vconnInRestored s).kept = s.kept := by simp [vconnInRestored]

@[simp] theorem writeAttctl_kept (p : Port) (w : Word) (s : State) :
    (writeAttctl p w s).kept = s.kept := by simp [writeAttctl]

/-! BootOps -/

@[simp] theorem pinsOff_kept (s : State) :
    (pinsOff s).kept = s.kept := by simp [pinsOff]

@[simp] theorem resetDevice_kept (s : State) :
    (resetDevice s).kept = s.kept := by simp [resetDevice]

@[simp] theorem preReset_kept (record : State → State) (s : State) (hrecord : ∀ (y0 : State), (record y0).kept = y0.kept) :
    (preReset record s).kept = s.kept := by simp only [preReset]; (repeat' split) <;> simp_all

@[simp] theorem wardenReset_kept (cause : BitVec 4) (s : State) :
    (wardenReset cause s).kept = s.kept := by simp [wardenReset]

@[simp] theorem setStage_kept (n : BitVec 4) (s : State) :
    (setStage n s).kept = s.kept := by simp [setStage]

@[simp] theorem enterRecovery_kept (cause : BitVec 3) (s : State) :
    (enterRecovery cause s).kept = s.kept := by simp [enterRecovery]

/-! Fuses -/

@[simp] theorem onOtp_kept (f : Otp → Otp) (s : State) :
    (onOtp f s).kept = s.kept := by simp [onOtp]

@[simp] theorem fuseRecords_kept (s : State) :
    (fuseRecords s).kept = s.kept := by simp [fuseRecords]

@[simp] theorem otpSensingDone_kept (r : SensingRead) (s : State) :
    (otpSensingDone r s).kept = s.kept := by simp [otpSensingDone]

@[simp] theorem writeOverride_kept (w : Fin 128) (v : Word) (s : State) :
    (writeOverride w v s).kept = s.kept := by simp [writeOverride]

@[simp] theorem setSticky_kept (w : Word) (s : State) :
    (setSticky w s).kept = s.kept := by simp [setSticky]

@[simp] theorem burnGo_kept (s : State) :
    (burnGo s).kept = s.kept := by simp [burnGo]

@[simp] theorem burnAbort_kept (s : State) :
    (burnAbort s).kept = s.kept := by simp [burnAbort]

@[simp] theorem writeBurn_kept (w : Word) (s : State) :
    (writeBurn w s).kept = s.kept := by simp [writeBurn]

@[simp] theorem otpAudit_kept (differ : List (Fin 128)) (s : State) :
    (otpAudit differ s).kept = s.kept := by simp [otpAudit]

@[simp] theorem lifecycleStart_kept (s : State) :
    (lifecycleStart s).kept = s.kept := by simp [lifecycleStart]

/-! Budget -/

@[simp] theorem lookupPort_kept (p : Port) (s : State) :
    (lookupPort p s).kept = s.kept := by simp only [lookupPort]; (repeat' split) <;> simp

@[simp] theorem writeRoundGrant_kept (r : RoundPort) (s : State) :
    (writeRoundGrant r s).kept = s.kept := by simp [writeRoundGrant]

@[simp] theorem budgetRound_kept (dt : Nat) (s : State) :
    (budgetRound dt s).kept = s.kept := by simp [budgetRound]

@[simp] theorem policyStart_kept (s : State) :
    (policyStart s).kept = s.kept := by simp [policyStart]

@[simp] theorem kilnPort_kept (dtMs : Nat) (first : Bool) (sh : Sheaf) (qs : Nat) (tamb : Int) (dtsSs : Int) (dts : Int)
    (m : KilnMember) (s : State) :
    (kilnPort dtMs first sh qs tamb dtsSs dts m s).kept = s.kept := by simp [kilnPort]

@[simp] theorem kilnSheaf_kept (dtMs : Nat) (first : Bool) (k : Fin 8) (s : State) :
    (kilnSheaf dtMs first k s).kept = s.kept := by simp [kilnSheaf]

@[simp] theorem kilnUpdate_kept (s : State) :
    (kilnUpdate s).kept = s.kept := by simp [kilnUpdate]

/-! MapOps -/

@[simp] theorem setWindows_kept (k : Fin 7) (ws : List Window) (s : State) :
    (setWindows k ws s).kept = s.kept := by simp [setWindows]

@[simp] theorem onWindow_kept (k : Fin 7) (i : Fin 32) (f : Window → Window) (s : State) :
    (onWindow k i f s).kept = s.kept := by simp [onWindow]

@[simp] theorem mapApply_kept (s : State) :
    (mapApply s).kept = s.kept := by simp [mapApply]

@[simp] theorem fabricFault_kept (q : Requester) (a : Nat) (cause : BitVec 2) (write : Bool) (s : State) :
    (fabricFault q a cause write s).kept = s.kept := by simp [fabricFault]

/-! ConfigImage -/

@[simp] theorem withWord_kept (r : ImgRec) (i : Nat) (f : Word → State → State) (s : State) (hf : ∀ (y0 : Word)
    (y1 : State), (f y0 y1).kept = y1.kept) :
    (withWord r i f s).kept = s.kept := by simp only [withWord]; (repeat' split) <;> simp_all

@[simp] theorem applyDevice_kept (r : ImgRec) (s : State) :
    (applyDevice r s).kept = s.kept := by
  unfold applyDevice
  repeat (refine (withWord_kept _ _ _ _ ?_).trans ?_; · exact fun _ _ => rfl)
  rfl

@[simp] theorem applySupply_kept (r : ImgRec) (s : State) :
    (applySupply r s).kept = s.kept := by
  unfold applySupply
  repeat (refine (withWord_kept _ _ _ _ ?_).trans ?_; · exact fun _ _ => rfl)
  rfl

@[simp] theorem applyShed_kept (r : ImgRec) (s : State) :
    (applyShed r s).kept = s.kept := by simp [applyShed]

@[simp] theorem applyPort_kept (p : Port) (r : ImgRec) (s : State) :
    (applyPort p r s).kept = s.kept := by simp [applyPort]

@[simp] theorem applySheaf_kept (k : Fin 8) (r : ImgRec) (s : State) :
    (applySheaf k r s).kept = s.kept := by simp [applySheaf]

@[simp] theorem applyStagger_kept (g : Byte) (ports : Word) (s : State) :
    (applyStagger g ports s).kept = s.kept := by simp [applyStagger]

@[simp] theorem applySync_kept (r : ImgRec) (s : State) :
    (applySync r s).kept = s.kept := by
  unfold applySync; simp only [kept_mk, kept_eta]
  repeat (refine (withWord_kept _ _ _ _ ?_).trans ?_; · exact fun _ _ => rfl)
  rfl

@[simp] theorem applyHost_kept (r : ImgRec) (s : State) :
    (applyHost r s).kept = s.kept := by
  unfold applyHost; simp only [kept_mk, kept_eta]
  repeat (refine (withWord_kept _ _ _ _ ?_).trans ?_; · exact fun _ _ => rfl)
  rfl

@[simp] theorem applyThatch_kept (p : Port) (w : Word) (s : State) :
    (applyThatch p w s).kept = s.kept := by simp [applyThatch]

@[simp] theorem applyUpdate_kept (r : ImgRec) (s : State) :
    (applyUpdate r s).kept = s.kept := by
  unfold applyUpdate
  repeat (refine (withWord_kept _ _ _ _ ?_).trans ?_; · exact fun _ _ => rfl)
  rfl

@[simp] theorem applyRejected_kept (r : ImgRec) (s : State) :
    (applyRejected r s).kept = s.kept := by simp only [applyRejected]; (repeat' split) <;> simp

@[simp] theorem adjustRecord_kept (index : Nat) (adjust : Nat) (value : Word) (s : State) :
    (adjustRecord index adjust value s).kept = s.kept := by simp [adjustRecord]

@[simp] theorem loadEntry0_kept (p : Port) (s : State) :
    (loadEntry0 p s).kept = s.kept := by simp [loadEntry0]

@[simp] theorem loadEntry_kept (p : Port) (e : Nat) (s : State) :
    (loadEntry p e s).kept = s.kept := by unfold loadEntry; split <;> simp

@[simp] theorem checkComp_kept (p : Port) (s : State) :
    (checkComp p s).kept = s.kept := by simp [checkComp]

@[simp] theorem checkPrecharge_kept (s : State) :
    (checkPrecharge s).kept = s.kept := by simp [checkPrecharge]

@[simp] theorem checkVconn_kept (s : State) :
    (checkVconn s).kept = s.kept := by
  unfold checkVconn; refine kept_foldl _ _ _ (fun s p => ?_)
  split <;> simp

@[simp] theorem checkXt_kept (p : Port) (s : State) :
    (checkXt p s).kept = s.kept := by simp [checkXt]

@[simp] theorem checkStagger_kept (s : State) :
    (checkStagger s).kept = s.kept := by
  unfold checkStagger; refine overPorts_kept _ _ (fun p s => ?_)
  simp only; split
  · rfl
  · split
    · split <;> simp
    · rfl

@[simp] theorem applyItem_kept (s : State) (it : BitVec 16 × Word) :
    (applyItem s it).kept = s.kept := by simp [applyItem]

@[simp] theorem putSettings_kept (items : List (BitVec 16 × Word)) (s : State) :
    (putSettings items s).kept = s.kept := by simp [putSettings]

@[simp] theorem applySettings_kept (s : State) :
    (applySettings s).kept = s.kept := by unfold applySettings; split <;> simp

@[simp] theorem settingsChanged_kept (s : State) :
    (settingsChanged s).kept = s.kept := by simp [settingsChanged]

@[simp] theorem setOwnerLock_kept (on : Bool) (s : State) :
    (setOwnerLock on s).kept = s.kept := by simp [setOwnerLock]

@[simp] theorem loadDomainWindows_kept (m : List (Byte × List Window)) (d : Domain) (s : State) :
    (loadDomainWindows m d s).kept = s.kept := by simp [loadDomainWindows]

@[simp] theorem walkResults_kept (slot : Bool) (w : Walk) (s : State) :
    (walkResults slot w s).kept = s.kept := by simp [walkResults]

@[simp] theorem setLocks_kept (s : State) :
    (setLocks s).kept = s.kept := by simp [setLocks]

@[simp] theorem startSlase_kept (s : State) :
    (startSlase s).kept = s.kept := by simp [startSlase]

@[simp] theorem keepImage_kept (img : List Byte) (slot : Bool) (w : Walk) (s : State) :
    (keepImage img slot w s).kept = s.kept := by simp [keepImage]

@[simp] theorem loadComps_kept (l : List (Byte × Nat)) (s : State) :
    (loadComps l s).kept = s.kept := by
  unfold loadComps; refine kept_foldl _ _ _ (fun s c => ?_)
  split <;> simp

@[simp] theorem checkAll_kept (s : State) :
    (checkAll s).kept = s.kept := by simp [checkAll]

@[simp] theorem loadWindows_kept (m : List (Byte × List Window)) (s : State) :
    (loadWindows m s).kept = s.kept := by simp [loadWindows]

@[simp] theorem startClock_kept (s : State) :
    (startClock s).kept = s.kept := by simp [startClock]

/-! UpdateOps -/

@[simp] theorem onBankAt_kept (b : Bool) (f : FwBank → FwBank) (s : State) :
    (onBankAt b f s).kept = s.kept := by simp [onBankAt]

@[simp] theorem writePointer_kept (active : Bool) (trial : Bool) (prev : Bool) (cfgSlot : Bool) (s : State) :
    (writePointer active trial prev cfgSlot s).kept = s.kept := by simp [writePointer]

@[simp] theorem loadPointer_kept (s : State) :
    (loadPointer s).kept = s.kept := by unfold loadPointer; split <;> simp

@[simp] theorem bankRecord_kept (source : Byte) (bank : Bool) (cause : Nat) (s : State) :
    (bankRecord source bank cause s).kept = s.kept := by simp [bankRecord]

@[simp] theorem returnTo_kept (bank : Bool) (cause : Nat) (s : State) :
    (returnTo bank cause s).kept = s.kept := by simp [returnTo]

@[simp] theorem firmwareMap_kept (img : List Byte) (s : State) :
    (firmwareMap img s).kept = s.kept := by simp [firmwareMap]

@[simp] theorem settingsReturn_kept (s : State) :
    (settingsReturn s).kept = s.kept := by unfold settingsReturn; split <;> simp

/-! Boot -/

@[simp] theorem preResetFlush_kept (n : Nat) (s : State) :
    (preResetFlush n s).kept = s.kept := by simp [preResetFlush]

@[simp] theorem clockRecord_kept (source : Byte) (cause : Nat) (s : State) :
    (clockRecord source cause s).kept = s.kept := by simp [clockRecord]

@[simp] theorem referenceLost_kept (s : State) :
    (referenceLost s).kept = s.kept := by simp [referenceLost]

@[simp] theorem pllLocked_kept (s : State) :
    (pllLocked s).kept = s.kept := by simp [pllLocked]

@[simp] theorem bankFailed_kept (s : State) :
    (bankFailed s).kept = s.kept := by simp only [bankFailed]; (repeat' split) <;> simp

@[simp] theorem flashFound_kept (f : FlashInfo) (s : State) :
    (flashFound f s).kept = s.kept := by simp [flashFound]

@[simp] theorem wardenStart_kept (b : Bool) (s : State) :
    (wardenStart b s).kept = s.kept := by simp [wardenStart]

@[simp] theorem bankUnread_kept (b : Bool) (s : State) :
    (bankUnread b s).kept = s.kept := by simp [bankUnread]

@[simp] theorem wardenFirmware_kept (f : FlashInfo) (readOk : Bool) (s : State) :
    (wardenFirmware f readOk s).kept = s.kept := by simp only [wardenFirmware]; (repeat' split) <;> simp

@[simp] theorem bootPointer_kept (s : State) :
    (bootPointer s).kept = s.kept := by simp [bootPointer]

@[simp] theorem policyFirmware_kept (readOk : Bool) (s : State) :
    (policyFirmware readOk s).kept = s.kept := by simp only [policyFirmware]; (repeat' split) <;> simp

@[simp] theorem releaseTie_kept (p : Port) (h : HandoverSample) (s : State) :
    (releaseTie p h s).kept = s.kept := by simp [releaseTie]

@[simp] theorem sliceRelease_kept (relMs : Nat) (bad : List (Port × BitVec 4)) (h0 : HandoverSample) (h1 : HandoverSample)
    (s : State) :
    (sliceRelease relMs bad h0 h1 s).kept = s.kept := by simp [sliceRelease]

@[simp] theorem onCore_kept (c : CoreId) (f : Core → Core) (s : State) :
    (onCore c f s).kept = s.kept := by simp [onCore]

@[simp] theorem coreRecord_kept (c : CoreId) (cause : Nat) (s : State) :
    (coreRecord c cause s).kept = s.kept := by simp [coreRecord]

@[simp] theorem watchdogExpiry_kept (c : CoreId) (recent : Nat) (s : State) :
    (watchdogExpiry c recent s).kept = s.kept := by simp [watchdogExpiry]

@[simp] theorem coreResume_kept (c : CoreId) (s : State) :
    (coreResume c s).kept = s.kept := by unfold coreResume; split <;> simp

@[simp] theorem coreRestartDone_kept (c : CoreId) (r : RestartCheck) (s : State) :
    (coreRestartDone c r s).kept = s.kept := by simp only [coreRestartDone]; (repeat' split) <;> simp

@[simp] theorem dieReading_kept (t : BitVec 16) (s : State) :
    (dieReading t s).kept = s.kept := by simp [dieReading]

@[simp] theorem dieTempWarning_kept (t : BitVec 16) (s : State) :
    (dieTempWarning t s).kept = s.kept := by simp [dieTempWarning]

@[simp] theorem dieTempWarningClear_kept (t : BitVec 16) (s : State) :
    (dieTempWarningClear t s).kept = s.kept := by simp [dieTempWarningClear]

@[simp] theorem thermalShutdown_kept (t : BitVec 16) (s : State) :
    (thermalShutdown t s).kept = s.kept := by simp only [thermalShutdown]; (repeat' split) <;> simp

@[simp] theorem thermalRestart_kept (t : BitVec 16) (s : State) :
    (thermalRestart t s).kept = s.kept := by simp [thermalRestart]

/-! Contract -/

@[simp] theorem request_kept (p : Port) (r : RequestMsg) (s : State) :
    (request p r s).kept = s.kept := by simp only [request]; (repeat' split) <;> simp

@[simp] theorem acceptAcked_kept (p : Port) (s : State) :
    (acceptAcked p s).kept = s.kept := by simp only [acceptAcked]; (repeat' split) <;> simp

@[simp] theorem srcTransitionExpiry_kept (p : Port) (s : State) :
    (srcTransitionExpiry p s).kept = s.kept := by simp only [srcTransitionExpiry]; (repeat' split) <;> simp

@[simp] theorem afterCommit_kept (p : Port) (s : State) :
    (afterCommit p s).kept = s.kept := by simp [afterCommit]

@[simp] theorem commitContract_kept (p : Port) (s : State) :
    (commitContract p s).kept = s.kept := by simp only [commitContract]; (repeat' split) <;> simp

@[simp] theorem writeXctl_kept (p : Port) (w : Word) (s : State) :
    (writeXctl p w s).kept = s.kept := by simp [writeXctl]

@[simp] theorem eprAckAcked_kept (p : Port) (s : State) :
    (eprAckAcked p s).kept = s.kept := by simp [eprAckAcked]

@[simp] theorem eprEntered_kept (p : Port) (s : State) :
    (eprEntered p s).kept = s.kept := by simp [eprEntered]

@[simp] theorem eprLeft_kept (p : Port) (s : State) :
    (eprLeft p s).kept = s.kept := by simp [eprLeft]

/-! HostOps -/

@[simp] theorem onHst_kept (d : Domain) (f : HstBank → HstBank) (s : State) :
    (onHst d f s).kept = s.kept := by simp [onHst]

@[simp] theorem mailboxGo_kept (d : Domain) (s : State) :
    (mailboxGo d s).kept = s.kept := by simp [mailboxGo]

@[simp] theorem writeHstCtl_kept (d : Domain) (w : Word) (s : State) :
    (writeHstCtl d w s).kept = s.kept := by simp [writeHstCtl]

/-! Swap -/

@[simp] theorem acceptSwap_kept (p : Port) (k : SwapKind) (s : State) :
    (acceptSwap p k s).kept = s.kept := by simp [acceptSwap]

@[simp] theorem answerSwap_kept (p : Port) (k : SwapKind) (ok : Slice → State → Bool) (waits : Bool) (s : State) :
    (answerSwap p k ok waits s).kept = s.kept := by simp [answerSwap]

@[simp] theorem unsupported_kept (p : Port) (c : Ctx) (s : State) :
    (unsupported p c s).kept = s.kept := by simp [unsupported]

@[simp] theorem writeSwctl_kept (p : Port) (w : Word) (s : State) :
    (writeSwctl p w s).kept = s.kept := by simp [writeSwctl]

@[simp] theorem swapAnswer_kept (p : Port) (a : SwapReply) (s : State) :
    (swapAnswer p a s).kept = s.kept := by simp only [swapAnswer]; (repeat' split) <;> simp

@[simp] theorem swapRetryTimer_kept (p : Port) (s : State) :
    (swapRetryTimer p s).kept = s.kept := by unfold swapRetryTimer; split <;> simp

@[simp] theorem becomeSource_kept (p : Port) (s : State) :
    (becomeSource p s).kept = s.kept := by simp [becomeSource]

@[simp] theorem becomeSink_kept (p : Port) (s : State) :
    (becomeSink p s).kept = s.kept := by simp [becomeSink]

@[simp] theorem swapPsRdy_kept (p : Port) (s : State) :
    (swapPsRdy p s).kept = s.kept := by unfold swapPsRdy; split <;> simp

@[simp] theorem swapReadyAcked_kept (p : Port) (k : SwapKind) (s : State) :
    (swapReadyAcked p k s).kept = s.kept := by unfold swapReadyAcked; split <;> simp

@[simp] theorem sourceCapabilities_kept (p : Port) (c : SourceCaps) (s : State) :
    (sourceCapabilities p c s).kept = s.kept := by simp [sourceCapabilities]

@[simp] theorem sinkCommit_kept (p : Port) (s : State) :
    (sinkCommit p s).kept = s.kept := by simp only [sinkCommit]; (repeat' split) <;> simp

/-! Message -/

@[simp] theorem answerUnsupported_kept (p : Port) (c : Ctx) (k : MsgKind) (s : State) :
    (answerUnsupported p c k s).kept = s.kept := by unfold answerUnsupported; split <;> simp

@[simp] theorem mbPush_kept (p : Port) (f : Frame) (isCopy : Bool) (phase : BitVec 16) (s : State) :
    (mbPush p f isCopy phase s).1.kept = s.kept := by simp only [mbPush]; (repeat' split) <;> simp

@[simp] theorem unsupportedMessage_kept (p : Port) (c : Ctx) (phase : BitVec 16) (s : State) :
    (unsupportedMessage p c phase s).kept = s.kept := by simp only [unsupportedMessage]; (repeat' split) <;> simp

@[simp] theorem hostReplyTimeout_kept (p : Port) (s : State) :
    (hostReplyTimeout p s).kept = s.kept := by simp only [hostReplyTimeout]; (repeat' split) <;> simp

@[simp] theorem engineAnswer_kept (p : Port) (awaited : Option TxMsg) (f : Frame) (s : State) :
    (engineAnswer p awaited f s).kept = s.kept := by simp only [engineAnswer]; (repeat' split) <;> simp

@[simp] theorem handOn_kept (p : Port) (f : Frame) (awaited : Option TxMsg) (phase : BitVec 16) (s : State) :
    (handOn p f awaited phase s).kept = s.kept := by simp [handOn]

@[simp] theorem chunkReceived_kept (p : Port) (c : Ctx) (s : State) :
    (chunkReceived p c s).kept = s.kept := by unfold chunkReceived; split <;> simp

@[simp] theorem takeFrame_kept (p : Port) (f : Frame) (phase : BitVec 16) (s : State) :
    (takeFrame p f phase s).kept = s.kept := by simp only [takeFrame]; (repeat' split) <;> simp

@[simp] theorem receiveFrame_kept (p : Port) (f : Frame) (phase : BitVec 16) (s : State) :
    (receiveFrame p f phase s).kept = s.kept := by simp [receiveFrame]

@[simp] theorem mailboxAcked_kept (p : Port) (m : TxMsg) (s : State) :
    (mailboxAcked p m s).kept = s.kept := by simp [mailboxAcked]

@[simp] theorem ownAcked_kept (p : Port) (m : TxMsg) (s : State) :
    (ownAcked p m s).kept = s.kept := by unfold ownAcked; split <;> simp

@[simp] theorem goodCrcReceived_kept (p : Port) (more : Bool) (s : State) :
    (goodCrcReceived p more s).kept = s.kept := by unfold goodCrcReceived; split <;> simp

@[simp] theorem txFailed_kept (p : Port) (m : TxMsg) (s : State) :
    (txFailed p m s).kept = s.kept := by simp only [txFailed]; (repeat' split) <;> simp

@[simp] theorem crcReceiveTimeout_kept (p : Port) (s : State) :
    (crcReceiveTimeout p s).kept = s.kept := by simp only [crcReceiveTimeout]; (repeat' split) <;> simp

@[simp] theorem senderResponseTimeout_kept (p : Port) (s : State) :
    (senderResponseTimeout p s).kept = s.kept := by simp only [senderResponseTimeout]; (repeat' split) <;> simp

@[simp] theorem chunkTimeout_kept (p : Port) (t : ChunkTimer) (s : State) :
    (chunkTimeout p t s).kept = s.kept := by simp only [chunkTimeout]; (repeat' split) <;> simp

@[simp] theorem hardReset_kept (p : Port) (s : State) :
    (hardReset p s).kept = s.kept := by simp only [hardReset]; (repeat' split) <;> simp

@[simp] theorem discoveryEnded_kept (p : Port) (s : State) :
    (discoveryEnded p s).kept = s.kept := by simp [discoveryEnded]

@[simp] theorem cableAnswer_kept (p : Port) (a : CableAnswer) (s : State) :
    (cableAnswer p a s).kept = s.kept := by unfold cableAnswer; split <;> simp

@[simp] theorem writePdctl_kept (p : Port) (w : Word) (s : State) :
    (writePdctl p w s).kept = s.kept := by simp [writePdctl]

/-! Mailbox -/

@[simp] theorem mbSend_kept (p : Port) (s : State) :
    (mbSend p s).kept = s.kept := by simp only [mbSend]; (repeat' split) <;> simp

@[simp] theorem mbAbort_kept (p : Port) (s : State) :
    (mbAbort p s).kept = s.kept := by simp [mbAbort]

@[simp] theorem writeMbtxCtl_kept (p : Port) (w : Word) (s : State) :
    (writeMbtxCtl p w s).kept = s.kept := by simp [writeMbtxCtl]

@[simp] theorem writeMbrxCtl_kept (p : Port) (w : Word) (s : State) :
    (writeMbrxCtl p w s).kept = s.kept := by simp [writeMbrxCtl]

/-! PowerStage -/

@[simp] theorem slotActions_kept (h : Nat) (p : Port) (s : State) :
    (slotActions h p s).kept = s.kept := by simp [slotActions]

/-! Protect -/

@[simp] theorem raiseLevel_kept (p : Port) (m : BitVec 4) (s : State) :
    (raiseLevel p m s).kept = s.kept := by simp [raiseLevel]

@[simp] theorem powerAgain_kept (p : Port) (s : State) :
    (powerAgain p s).kept = s.kept := by simp [powerAgain]

@[simp] theorem unlatch_kept (p : Port) (s : State) :
    (unlatch p s).kept = s.kept := by simp [unlatch]

@[simp] theorem softCheck_kept (p : Port) (s : State) :
    (softCheck p s).kept = s.kept := by simp [softCheck]

@[simp] theorem writePrctl_kept (p : Port) (w : Word) (s : State) :
    (writePrctl p w s).kept = s.kept := by simp [writePrctl]

@[simp] theorem sinkTrip_kept (p : Port) (cause : BitVec 4) (i : BitVec 16) (v : BitVec 16) (s : State) :
    (sinkTrip p cause i v s).kept = s.kept := by simp [sinkTrip]

/-! Recorder -/

@[simp] theorem writeCursor_kept (q : Requester) (isSrc : Bool) (w : Word) (s : State) :
    (writeCursor q isSrc w s).kept = s.kept := by simp [writeCursor]

@[simp] theorem clearPending_kept (k : Bank) (j : Fin 8) (w : Word) (s : State) :
    (clearPending k j w s).kept = s.kept := by simp [clearPending]

@[simp] theorem minutePasses_kept (s : State) :
    (minutePasses s).kept = s.kept := by simp [minutePasses]

@[simp] theorem onPage_kept (k : Bank) (f : PageBank → PageBank) (s : State) :
    (onPage k f s).kept = s.kept := by simp [onPage]

@[simp] theorem writePgsel_kept (k : Bank) (w : Word) (s : State) :
    (writePgsel k w s).kept = s.kept := by simp [writePgsel]

@[simp] theorem pageReady_kept (k : Bank) (words : List Word) (bad corr : BitVec 4) (s : State) :
    (pageReady k words bad corr s).kept = s.kept := by simp only [pageReady]; (repeat' split) <;> simp

/-! RegMap -/

@[simp] theorem writeSlcLow_kept (p : Port) (off : Nat) (w : Word) (s : State) :
    (writeSlcLow p off w s).kept = s.kept := by unfold writeSlcLow; split <;> simp

@[simp] theorem writeMbReg_kept (p : Port) (off : Nat) (w : Word) (s : State) :
    (writeMbReg p off w s).kept = s.kept := by simp [writeMbReg]

@[simp] theorem writeSlcPower_kept (p : Port) (off : Nat) (w : Word) (s : State) :
    (writeSlcPower p off w s).kept = s.kept := by unfold writeSlcPower; split <;> simp

@[simp] theorem writeSlcHigh_kept (q : Requester) (p : Port) (off : Nat) (w : Word) (s : State) :
    (writeSlcHigh q p off w s).kept = s.kept := by unfold writeSlcHigh; split <;> simp

@[simp] theorem writeSlc_kept (q : Requester) (p : Port) (off : Nat) (w : Word) (s : State) :
    (writeSlc q p off w s).kept = s.kept := by simp [writeSlc]

@[simp] theorem writeSup_kept (off : Nat) (w : Word) (s : State) :
    (writeSup off w s).kept = s.kept := by unfold writeSup; split <;> simp

@[simp] theorem writeBud_kept (off : Nat) (w : Word) (s : State) :
    (writeBud off w s).kept = s.kept := by simp only [writeBud]; (repeat' split) <;> simp

@[simp] theorem writeKln_kept (off : Nat) (w : Word) (s : State) :
    (writeKln off w s).kept = s.kept := by simp only [writeKln]; (repeat' split) <;> simp

@[simp] theorem writeCyc_kept (q : Requester) (off : Nat) (w : Word) (s : State) :
    (writeCyc q off w s).kept = s.kept := by simp only [writeCyc]; (repeat' split) <;> simp

@[simp] theorem onTxBank_kept (k : Bank) (f : SynBank → SynBank) (s : State) :
    (onTxBank k f s).kept = s.kept := by simp [onTxBank]

@[simp] theorem writeSyn_kept (q : Requester) (off : Nat) (w : Word) (s : State) :
    (writeSyn q off w s).kept = s.kept := by simp only [writeSyn]; (repeat' split) <;> simp

@[simp] theorem writeHst_kept (d : Domain) (off : Nat) (w : Word) (s : State) :
    (writeHst d off w s).kept = s.kept := by unfold writeHst; split <;> simp

@[simp] theorem writeFab_kept (q : Requester) (off : Nat) (w : Word) (s : State) :
    (writeFab q off w s).kept = s.kept := by simp only [writeFab]; (repeat' split) <;> simp

@[simp] theorem writeDmaCtl_kept (k : Bank) (c : Fin 16) (w : Word) (s : State) :
    (writeDmaCtl k c w s).kept = s.kept := by simp [writeDmaCtl]

@[simp] theorem writeDma_kept (q : Requester) (off : Nat) (w : Word) (s : State) :
    (writeDma q off w s).kept = s.kept := by unfold writeDma; split <;> simp

@[simp] theorem writeEvr_kept (q : Requester) (off : Nat) (w : Word) (s : State) :
    (writeEvr q off w s).kept = s.kept := by simp [writeEvr]

@[simp] theorem writeOtp_kept (q : Requester) (off : Nat) (w : Word) (s : State) :
    (writeOtp q off w s).kept = s.kept := by simp only [writeOtp]; (repeat' split) <;> simp

@[simp] theorem writeNvc_kept (q : Requester) (off : Nat) (w : Word) (s : State) :
    (writeNvc q off w s).kept = s.kept := by simp [writeNvc]

@[simp] theorem writeEva_kept (k : Bank) (off : Nat) (w : Word) (s : State) :
    (writeEva k off w s).kept = s.kept := by unfold writeEva; split <;> simp

@[simp] theorem writeShared_kept (q : Requester) (page : Nat) (off : Nat) (w : Word) (s : State) :
    (writeShared q page off w s).kept = s.kept := by unfold writeShared; split <;> simp

@[simp] theorem writeReg_kept (q : Requester) (a : Nat) (w : Word) (s : State) :
    (writeReg q a w s).kept = s.kept := by unfold writeReg; split <;> simp

/-! Fabric -/

@[simp] theorem arbStep_kept (r : Vector ArbReq 8) (s : State) :
    (arbStep r s).kept = s.kept := by simp [arbStep]

@[simp] theorem grantTo_kept (q : Requester) (s : State) :
    (grantTo q s).kept = s.kept := by simp [grantTo]

@[simp] theorem grantEnd_kept (s : State) :
    (grantEnd s).kept = s.kept := by simp [grantEnd]

@[simp] theorem preemptOnce_kept (q : Requester) (s : State) :
    (preemptOnce q s).kept = s.kept := by simp [preemptOnce]

@[simp] theorem preempted_kept (q : Requester) (n : Nat) (s : State) :
    (preempted q n s).kept = s.kept := by
  induction n generalizing s with
  | zero => rfl
  | succ n ih => unfold preempted; simp [ih]

@[simp] theorem afterBeat_kept (a : Nat) (s : State) :
    (afterBeat a s).kept = s.kept := by simp [afterBeat]

@[simp] theorem beatRead_kept (q : Requester) (a : Nat) (s : State) :
    (beatRead q a s).1.kept = s.kept := by unfold beatRead; split <;> simp

@[simp] theorem dmaEvent_kept (n : Nat) (c : Fin 16) (s : State) :
    (dmaEvent n c s).kept = s.kept := by simp [dmaEvent]

@[simp] theorem dmaFault_kept (c : Fin 16) (cause : BitVec 3) (write : Bool) (addr : Option Nat) (s : State) :
    (dmaFault c cause write addr s).kept = s.kept := by simp [dmaFault]

@[simp] theorem dmaFetch_kept (c : Fin 16) (s : State) :
    (dmaFetch c s).kept = s.kept := by simp only [dmaFetch]; (repeat' split) <;> simp

@[simp] theorem dmaAdvance_kept (c : Fin 16) (d : DmaDesc) (n : Nat) (s : State) :
    (dmaAdvance c d n s).kept = s.kept := by simp [dmaAdvance]

/-! HostPorts -/

@[simp] theorem hostEvent_kept (d : Domain) (s : State) :
    (hostEvent d s).kept = s.kept := by unfold hostEvent; split <;> simp

@[simp] theorem hostDiscard_kept (d : Domain) (cause : BitVec 4) (ev : Bool) (s : State) :
    (hostDiscard d cause ev s).kept = s.kept := by simp [hostDiscard]

@[simp] theorem hostRefuse_kept (d : Domain) (cause : BitVec 4) (s : State) :
    (hostRefuse d cause s).kept = s.kept := by simp [hostRefuse]

@[simp] theorem twPecFail_kept (s : State) :
    (twPecFail s).kept = s.kept := by simp [twPecFail]

@[simp] theorem readBeats_kept (d : Domain) (late : Option Nat) (n i a : Nat) (r : ReadRun) :
    (readBeats d late n i a r).state.kept = r.state.kept := by
  induction n generalizing i a r with
  | zero => rfl
  | succ n ih =>
    unfold readBeats
    split
    · rw [ih]
    · split <;> rename_i h
      · rw [ih]; exact kept_of_pair h (beatRead_kept _ _ _)
      · rw [ih]; have k := kept_of_pair h (beatRead_kept _ _ _)
        simp only; split
        · simp [k]
        · exact k

@[simp] theorem readPart_kept (d : Domain) (e a : Nat) (r : ReadRun) : (readPart d e a r).state.kept = r.state.kept := by
  unfold readPart
  repeat' split
  all_goals first
    | rfl
    | (rename_i h; exact kept_of_pair h (beatRead_kept _ _ _))

@[simp] theorem finishRead_kept (d : Domain) (a : Nat) (t : List Byte) (q : HostRead) (r : ReadRun) :
    (finishRead d a t q r).kept = r.state.kept := by simp [finishRead]


@[simp] theorem hostReadRun_kept (d : Domain) (addr : Nat) (cap : Nat) (q : HostRead) (s : State) :
    (hostReadRun d addr cap q s).state.kept = s.kept := by simp [hostReadRun]

@[simp] theorem twoWireRead_kept (q : HostRead) (s : State) :
    (twoWireRead q s).kept = s.kept := by simp only [twoWireRead]; (repeat' split) <;> simp

@[simp] theorem twoWireBusError_kept (f : TwFault) (s : State) :
    (twoWireBusError f s).kept = s.kept := by simp only [twoWireBusError]; (repeat' split) <;> simp

@[simp] theorem spiRead_kept (addr : Word) (bytes : Nat) (lateAt : Option Nat) (s : State) :
    (spiRead addr bytes lateAt s).kept = s.kept := by simp [spiRead]

@[simp] theorem applyBeat_kept (d : Domain) (s : State) :
    (applyBeat d s).kept = s.kept := by unfold applyBeat; split <;> simp

@[simp] theorem mailboxDo_kept (d : Domain) (cmd : Byte) (act : Word → State → State × Word) (s : State) (hact : ∀ w s,
    (act w s).1.kept = s.kept) :
    (mailboxDo d cmd act s).kept = s.kept := by
  unfold mailboxDo; simp only; split
  · rfl
  · simp [hact]

@[simp] theorem onAuxVal_kept (k : Fin 5) (f : AuxVal → AuxVal) (s : State) :
    (onAuxVal k f s).kept = s.kept := by simp [onAuxVal]

@[simp] theorem onAuxStat_kept (f : AuxStat → AuxStat) (s : State) :
    (onAuxStat f s).kept = s.kept := by simp [onAuxStat]

@[simp] theorem gaugeCheck_kept (dev : AuxDev) (raw : BitVec 16) (s : State) :
    (gaugeCheck dev raw s).kept = s.kept := by simp [gaugeCheck]

@[simp] theorem auxGood_kept (k : Fin 5) (dev : AuxDev) (raw : BitVec 16) (s : State) :
    (auxGood k dev raw s).kept = s.kept := by simp [auxGood]

@[simp] theorem auxMissed_kept (k : Fin 5) (s : State) :
    (auxMissed k s).kept = s.kept := by simp [auxMissed]

@[simp] theorem auxNack_kept (k : Fin 5) (s : State) :
    (auxNack k s).kept = s.kept := by simp [auxNack]

@[simp] theorem auxPoll_kept (k : Fin 5) (recovered : Bool) (r : AuxResult) (s : State) :
    (auxPoll k recovered r s).kept = s.kept := by simp only [auxPoll]; (repeat' split) <;> simp

/-! Update -/

@[simp] theorem svcDone_kept (data : List Byte) (s : State) :
    (svcDone data s).state.kept = s.kept := by simp [svcDone]

@[simp] theorem svcAccepted_kept (s : State) :
    (svcAccepted s).state.kept = s.kept := by simp [svcAccepted]

@[simp] theorem svcBadArg_kept (s : State) :
    (svcBadArg s).state.kept = s.kept := by simp [svcBadArg]

@[simp] theorem svcNotAllowed_kept (s : State) :
    (svcNotAllowed s).state.kept = s.kept := by simp [svcNotAllowed]

@[simp] theorem svcAuthFailed_kept (s : State) :
    (svcAuthFailed s).state.kept = s.kept := by simp [svcAuthFailed]

@[simp] theorem svcRefused_kept (cause : Byte) (s : State) :
    (svcRefused cause s).state.kept = s.kept := by simp [svcRefused]

@[simp] theorem svcBusy_kept (s : State) :
    (svcBusy s).state.kept = s.kept := by simp [svcBusy]

@[simp] theorem svcGate_kept (cmd : Byte) (recToo : Bool) (f : State → SvcOut) (s : State) (hf : ∀ s,
    (f s).state.kept = s.kept) :
    (svcGate cmd recToo f s).state.kept = s.kept := by
  unfold svcGate
  repeat' split
  all_goals first | rfl | exact hf s

@[simp] theorem svcRun_kept (cmd : Byte) (seq : Byte) (payload : List Byte) (recToo : Bool) (f : State → SvcOut) (s : State)
    (hf : ∀ s, (f s).state.kept = s.kept) :
    (svcRun cmd seq payload recToo f s).kept = s.kept := by simp only [svcRun]; (repeat' split) <;> simp_all

@[simp] theorem svcAuth_kept (cmd : Byte) (payload : List Byte) (a : Option AuthBlock) (f : State → SvcOut) (s : State)
    (hf : ∀ s, (f s).state.kept = s.kept) :
    (svcAuth cmd payload a f s).state.kept = s.kept := by simp only [svcAuth]; (repeat' split) <;> simp_all

@[simp] theorem svcHello_kept (s : State) :
    (svcHello s).state.kept = s.kept := by simp [svcHello]

@[simp] theorem svcStatus_kept (s : State) :
    (svcStatus s).state.kept = s.kept := by simp [svcStatus]

@[simp] theorem updateRefused_kept (c : BitVec 5) (s : State) :
    (updateRefused c s).state.kept = s.kept := by simp [updateRefused]

@[simp] theorem flashFormat_kept (s : State) :
    (flashFormat s).kept = s.kept := by simp [flashFormat]

@[simp] theorem eraseTarget_kept (cfg : Bool) (s : State) :
    (eraseTarget cfg s).kept = s.kept := by simp [eraseTarget]

@[simp] theorem beginTransfer_kept (cfg : Bool) (hdr : List Byte) (s : State) :
    (beginTransfer cfg hdr s).kept = s.kept := by simp [beginTransfer]

@[simp] theorem endTransfer_kept (st : BitVec 4) (c : BitVec 5) (s : State) :
    (endTransfer st c s).kept = s.kept := by simp [endTransfer]

@[simp] theorem transferOp_kept (o : FlashOp) (ok : State → SvcOut) (h : ∀ s, (ok s).state.kept = s.kept) (s : State) :
    (transferOp o ok s).state.kept = s.kept := by simp only [transferOp]; split <;> simp [h]

@[simp] theorem svcBegin_kept (target : Byte) (hdr : List Byte) (o : FlashOp) (s : State) :
    (svcBegin target hdr o s).state.kept = s.kept := by
  simp only [svcBegin]
  (repeat' split) <;> simp

@[simp] theorem targetAppend_kept (bs : List Byte) (s : State) :
    (targetAppend bs s).kept = s.kept := by simp [targetAppend]

@[simp] theorem svcData_kept (offset : Word) (data : List Byte) (o : FlashOp) (s : State) :
    (svcData offset data o s).state.kept = s.kept := by
  simp only [svcData]
  (repeat' split) <;> simp

@[simp] theorem transferReady_kept (s : State) :
    (transferReady s).kept = s.kept := by simp [transferReady]

@[simp] theorem svcEnd_kept (s : State) :
    (svcEnd s).state.kept = s.kept := by simp only [svcEnd]; (repeat' split) <;> simp

@[simp] theorem svcAbort_kept (s : State) :
    (svcAbort s).state.kept = s.kept := by simp only [svcAbort]; (repeat' split) <;> simp

@[simp] theorem activationResume_kept (s : State) :
    (activationResume s).kept = s.kept := by simp [activationResume]

@[simp] theorem reloadSlice_kept (p : Port) (s : State) :
    (reloadSlice p s).kept = s.kept := by simp [reloadSlice]

@[simp] theorem svcRegRead_kept (addr : Word) (n : Byte) (s : State) :
    (svcRegRead addr n s).state.kept = s.kept := by simp only [svcRegRead]; (repeat' split) <;> simp

@[simp] theorem svcBurn_kept (burn : Word) (data : Word) (s : State) :
    (svcBurn burn data s).state.kept = s.kept := by simp only [svcBurn]; (repeat' split) <;> simp

@[simp] theorem svcOverride_kept (word : Word) (value : Word) (s : State) :
    (svcOverride word value s).state.kept = s.kept := by simp only [svcOverride]; (repeat' split) <;> simp

@[simp] theorem svcSticky_kept (bits : Word) (s : State) :
    (svcSticky bits s).state.kept = s.kept := by unfold svcSticky; split <;> simp

@[simp] theorem svcLifecycle_kept (code : Byte) (s : State) :
    (svcLifecycle code s).state.kept = s.kept := by simp only [svcLifecycle]; (repeat' split) <;> simp

@[simp] theorem lifecycleErased_kept (k : BitVec 3) (s : State) :
    (lifecycleErased k s).kept = s.kept := by simp only [lifecycleErased]; (repeat' split) <;> simp

end Sys2Proof.Machine
end

