-- ==== Sys2Proof/Laws/Flash.lean ====
section
/-!
SUPPORT. What an erase, a program or a read of the flash can do: it changes the flash, its controller, the recorder and the
aggregator alone; wear that is not new changes nothing; and what becomes of a block that fails.
-/

namespace Sys2Proof.Machine

/-! `nandWear` -/

@[simp] theorem nandWear_slices (s : State) : (nandWear s).slices = s.slices := by
  unfold nandWear; simp
@[simp] theorem nandWear_sup (s : State) : (nandWear s).sup = s.sup := by
  unfold nandWear; simp
@[simp] theorem nandWear_did (s : State) : (nandWear s).did = s.did := by
  unfold nandWear; simp
@[simp] theorem nandWear_bud (s : State) : (nandWear s).bud = s.bud := by
  unfold nandWear; simp
@[simp] theorem nandWear_kln (s : State) : (nandWear s).kln = s.kln := by
  unfold nandWear; simp
@[simp] theorem nandWear_cyc (s : State) : (nandWear s).cyc = s.cyc := by
  unfold nandWear; simp
@[simp] theorem nandWear_syn (s : State) : (nandWear s).syn = s.syn := by
  unfold nandWear; simp
@[simp] theorem nandWear_hst (s : State) : (nandWear s).hst = s.hst := by
  unfold nandWear; simp
@[simp] theorem nandWear_aux (s : State) : (nandWear s).aux = s.aux := by
  unfold nandWear; simp
@[simp] theorem nandWear_fab (s : State) : (nandWear s).fab = s.fab := by
  unfold nandWear; simp
@[simp] theorem nandWear_dma (s : State) : (nandWear s).dma = s.dma := by
  unfold nandWear; simp
@[simp] theorem nandWear_otp (s : State) : (nandWear s).otp = s.otp := by
  unfold nandWear; simp
@[simp] theorem nandWear_lcu (s : State) : (nandWear s).lcu = s.lcu := by
  unfold nandWear; simp
@[simp] theorem nandWear_mem (s : State) : (nandWear s).mem = s.mem := by
  unfold nandWear; simp
@[simp] theorem nandWear_free (s : State) : (nandWear s).free = s.free := by
  unfold nandWear; simp
@[simp] theorem nandWear_pending (s : State) : (nandWear s).pending = s.pending := by
  unfold nandWear; simp
@[simp] theorem nandWear_nand (s : State) : (nandWear s).nand = s.nand := by
  unfold nandWear; simp
@[simp] theorem nandWear_nvc (s : State) : (nandWear s).nvc = s.nvc := by unfold nandWear; simp
theorem nandWear_raised (s : State) : (nandWear s).eva.raised 218 = true := by simp [nandWear]

/-! `retireBlock` -/

@[simp] theorem retireBlock_slices (part : Nat) (high : Bool) (s : State) : (retireBlock part high s).slices = s.slices := by
  simp only [retireBlock]; (repeat' split) <;> simp
@[simp] theorem retireBlock_sup (part : Nat) (high : Bool) (s : State) : (retireBlock part high s).sup = s.sup := by
  simp only [retireBlock]; (repeat' split) <;> simp
@[simp] theorem retireBlock_did (part : Nat) (high : Bool) (s : State) : (retireBlock part high s).did = s.did := by
  simp only [retireBlock]; (repeat' split) <;> simp
@[simp] theorem retireBlock_bud (part : Nat) (high : Bool) (s : State) : (retireBlock part high s).bud = s.bud := by
  simp only [retireBlock]; (repeat' split) <;> simp
@[simp] theorem retireBlock_kln (part : Nat) (high : Bool) (s : State) : (retireBlock part high s).kln = s.kln := by
  simp only [retireBlock]; (repeat' split) <;> simp
@[simp] theorem retireBlock_cyc (part : Nat) (high : Bool) (s : State) : (retireBlock part high s).cyc = s.cyc := by
  simp only [retireBlock]; (repeat' split) <;> simp
@[simp] theorem retireBlock_syn (part : Nat) (high : Bool) (s : State) : (retireBlock part high s).syn = s.syn := by
  simp only [retireBlock]; (repeat' split) <;> simp
@[simp] theorem retireBlock_hst (part : Nat) (high : Bool) (s : State) : (retireBlock part high s).hst = s.hst := by
  simp only [retireBlock]; (repeat' split) <;> simp
@[simp] theorem retireBlock_aux (part : Nat) (high : Bool) (s : State) : (retireBlock part high s).aux = s.aux := by
  simp only [retireBlock]; (repeat' split) <;> simp
@[simp] theorem retireBlock_fab (part : Nat) (high : Bool) (s : State) : (retireBlock part high s).fab = s.fab := by
  simp only [retireBlock]; (repeat' split) <;> simp
@[simp] theorem retireBlock_dma (part : Nat) (high : Bool) (s : State) : (retireBlock part high s).dma = s.dma := by
  simp only [retireBlock]; (repeat' split) <;> simp
@[simp] theorem retireBlock_otp (part : Nat) (high : Bool) (s : State) : (retireBlock part high s).otp = s.otp := by
  simp only [retireBlock]; (repeat' split) <;> simp
@[simp] theorem retireBlock_lcu (part : Nat) (high : Bool) (s : State) : (retireBlock part high s).lcu = s.lcu := by
  simp only [retireBlock]; (repeat' split) <;> simp
@[simp] theorem retireBlock_mem (part : Nat) (high : Bool) (s : State) : (retireBlock part high s).mem = s.mem := by
  simp only [retireBlock]; (repeat' split) <;> simp
@[simp] theorem retireBlock_free (part : Nat) (high : Bool) (s : State) : (retireBlock part high s).free = s.free := by
  simp only [retireBlock]; (repeat' split) <;> simp
@[simp] theorem retireBlock_pending (part : Nat) (high : Bool) (s : State) : (retireBlock part high s).pending = s.pending := by
  simp only [retireBlock]; (repeat' split) <;> simp

/-! `noteWear` -/

@[simp] theorem noteWear_slices (w : BitVec 24) (s : State) : (noteWear w s).slices = s.slices := by
  simp only [noteWear]; (repeat' split) <;> simp
@[simp] theorem noteWear_sup (w : BitVec 24) (s : State) : (noteWear w s).sup = s.sup := by
  simp only [noteWear]; (repeat' split) <;> simp
@[simp] theorem noteWear_did (w : BitVec 24) (s : State) : (noteWear w s).did = s.did := by
  simp only [noteWear]; (repeat' split) <;> simp
@[simp] theorem noteWear_bud (w : BitVec 24) (s : State) : (noteWear w s).bud = s.bud := by
  simp only [noteWear]; (repeat' split) <;> simp
@[simp] theorem noteWear_kln (w : BitVec 24) (s : State) : (noteWear w s).kln = s.kln := by
  simp only [noteWear]; (repeat' split) <;> simp
@[simp] theorem noteWear_cyc (w : BitVec 24) (s : State) : (noteWear w s).cyc = s.cyc := by
  simp only [noteWear]; (repeat' split) <;> simp
@[simp] theorem noteWear_syn (w : BitVec 24) (s : State) : (noteWear w s).syn = s.syn := by
  simp only [noteWear]; (repeat' split) <;> simp
@[simp] theorem noteWear_hst (w : BitVec 24) (s : State) : (noteWear w s).hst = s.hst := by
  simp only [noteWear]; (repeat' split) <;> simp
@[simp] theorem noteWear_aux (w : BitVec 24) (s : State) : (noteWear w s).aux = s.aux := by
  simp only [noteWear]; (repeat' split) <;> simp
@[simp] theorem noteWear_fab (w : BitVec 24) (s : State) : (noteWear w s).fab = s.fab := by
  simp only [noteWear]; (repeat' split) <;> simp
@[simp] theorem noteWear_dma (w : BitVec 24) (s : State) : (noteWear w s).dma = s.dma := by
  simp only [noteWear]; (repeat' split) <;> simp
@[simp] theorem noteWear_otp (w : BitVec 24) (s : State) : (noteWear w s).otp = s.otp := by
  simp only [noteWear]; (repeat' split) <;> simp
@[simp] theorem noteWear_lcu (w : BitVec 24) (s : State) : (noteWear w s).lcu = s.lcu := by
  simp only [noteWear]; (repeat' split) <;> simp
@[simp] theorem noteWear_mem (w : BitVec 24) (s : State) : (noteWear w s).mem = s.mem := by
  simp only [noteWear]; (repeat' split) <;> simp
@[simp] theorem noteWear_free (w : BitVec 24) (s : State) : (noteWear w s).free = s.free := by
  simp only [noteWear]; (repeat' split) <;> simp
@[simp] theorem noteWear_pending (w : BitVec 24) (s : State) : (noteWear w s).pending = s.pending := by
  simp only [noteWear]; (repeat' split) <;> simp
@[simp] theorem noteWear_nand (w : BitVec 24) (s : State) : (noteWear w s).nand = s.nand := by
  simp only [noteWear]; (repeat' split) <;> simp

/-! `flashOp` -/

@[simp] theorem flashOp_slices (part : Nat) (high : Bool) (o : FlashOp) (s : State) : (flashOp part high o s).slices = s.slices := by
  simp only [flashOp]; (repeat' split) <;> simp
@[simp] theorem flashOp_sup (part : Nat) (high : Bool) (o : FlashOp) (s : State) : (flashOp part high o s).sup = s.sup := by
  simp only [flashOp]; (repeat' split) <;> simp
@[simp] theorem flashOp_did (part : Nat) (high : Bool) (o : FlashOp) (s : State) : (flashOp part high o s).did = s.did := by
  simp only [flashOp]; (repeat' split) <;> simp
@[simp] theorem flashOp_bud (part : Nat) (high : Bool) (o : FlashOp) (s : State) : (flashOp part high o s).bud = s.bud := by
  simp only [flashOp]; (repeat' split) <;> simp
@[simp] theorem flashOp_kln (part : Nat) (high : Bool) (o : FlashOp) (s : State) : (flashOp part high o s).kln = s.kln := by
  simp only [flashOp]; (repeat' split) <;> simp
@[simp] theorem flashOp_cyc (part : Nat) (high : Bool) (o : FlashOp) (s : State) : (flashOp part high o s).cyc = s.cyc := by
  simp only [flashOp]; (repeat' split) <;> simp
@[simp] theorem flashOp_syn (part : Nat) (high : Bool) (o : FlashOp) (s : State) : (flashOp part high o s).syn = s.syn := by
  simp only [flashOp]; (repeat' split) <;> simp
@[simp] theorem flashOp_hst (part : Nat) (high : Bool) (o : FlashOp) (s : State) : (flashOp part high o s).hst = s.hst := by
  simp only [flashOp]; (repeat' split) <;> simp
@[simp] theorem flashOp_aux (part : Nat) (high : Bool) (o : FlashOp) (s : State) : (flashOp part high o s).aux = s.aux := by
  simp only [flashOp]; (repeat' split) <;> simp
@[simp] theorem flashOp_fab (part : Nat) (high : Bool) (o : FlashOp) (s : State) : (flashOp part high o s).fab = s.fab := by
  simp only [flashOp]; (repeat' split) <;> simp
@[simp] theorem flashOp_dma (part : Nat) (high : Bool) (o : FlashOp) (s : State) : (flashOp part high o s).dma = s.dma := by
  simp only [flashOp]; (repeat' split) <;> simp
@[simp] theorem flashOp_otp (part : Nat) (high : Bool) (o : FlashOp) (s : State) : (flashOp part high o s).otp = s.otp := by
  simp only [flashOp]; (repeat' split) <;> simp
@[simp] theorem flashOp_lcu (part : Nat) (high : Bool) (o : FlashOp) (s : State) : (flashOp part high o s).lcu = s.lcu := by
  simp only [flashOp]; (repeat' split) <;> simp
@[simp] theorem flashOp_mem (part : Nat) (high : Bool) (o : FlashOp) (s : State) : (flashOp part high o s).mem = s.mem := by
  simp only [flashOp]; (repeat' split) <;> simp
@[simp] theorem flashOp_free (part : Nat) (high : Bool) (o : FlashOp) (s : State) : (flashOp part high o s).free = s.free := by
  simp only [flashOp]; (repeat' split) <;> simp
@[simp] theorem flashOp_pending (part : Nat) (high : Bool) (o : FlashOp) (s : State) : (flashOp part high o s).pending = s.pending := by
  simp only [flashOp]; (repeat' split) <;> simp

/-! `sectorsRead` -/

@[simp] theorem sectorsRead_slices (corr unc : Nat) (s : State) : (sectorsRead corr unc s).slices = s.slices := by
  simp only [sectorsRead]; (repeat' split) <;> simp
@[simp] theorem sectorsRead_sup (corr unc : Nat) (s : State) : (sectorsRead corr unc s).sup = s.sup := by
  simp only [sectorsRead]; (repeat' split) <;> simp
@[simp] theorem sectorsRead_did (corr unc : Nat) (s : State) : (sectorsRead corr unc s).did = s.did := by
  simp only [sectorsRead]; (repeat' split) <;> simp
@[simp] theorem sectorsRead_bud (corr unc : Nat) (s : State) : (sectorsRead corr unc s).bud = s.bud := by
  simp only [sectorsRead]; (repeat' split) <;> simp
@[simp] theorem sectorsRead_kln (corr unc : Nat) (s : State) : (sectorsRead corr unc s).kln = s.kln := by
  simp only [sectorsRead]; (repeat' split) <;> simp
@[simp] theorem sectorsRead_cyc (corr unc : Nat) (s : State) : (sectorsRead corr unc s).cyc = s.cyc := by
  simp only [sectorsRead]; (repeat' split) <;> simp
@[simp] theorem sectorsRead_syn (corr unc : Nat) (s : State) : (sectorsRead corr unc s).syn = s.syn := by
  simp only [sectorsRead]; (repeat' split) <;> simp
@[simp] theorem sectorsRead_hst (corr unc : Nat) (s : State) : (sectorsRead corr unc s).hst = s.hst := by
  simp only [sectorsRead]; (repeat' split) <;> simp
@[simp] theorem sectorsRead_aux (corr unc : Nat) (s : State) : (sectorsRead corr unc s).aux = s.aux := by
  simp only [sectorsRead]; (repeat' split) <;> simp
@[simp] theorem sectorsRead_fab (corr unc : Nat) (s : State) : (sectorsRead corr unc s).fab = s.fab := by
  simp only [sectorsRead]; (repeat' split) <;> simp
@[simp] theorem sectorsRead_dma (corr unc : Nat) (s : State) : (sectorsRead corr unc s).dma = s.dma := by
  simp only [sectorsRead]; (repeat' split) <;> simp
@[simp] theorem sectorsRead_otp (corr unc : Nat) (s : State) : (sectorsRead corr unc s).otp = s.otp := by
  simp only [sectorsRead]; (repeat' split) <;> simp
@[simp] theorem sectorsRead_lcu (corr unc : Nat) (s : State) : (sectorsRead corr unc s).lcu = s.lcu := by
  simp only [sectorsRead]; (repeat' split) <;> simp
@[simp] theorem sectorsRead_mem (corr unc : Nat) (s : State) : (sectorsRead corr unc s).mem = s.mem := by
  simp only [sectorsRead]; (repeat' split) <;> simp
@[simp] theorem sectorsRead_free (corr unc : Nat) (s : State) : (sectorsRead corr unc s).free = s.free := by
  simp only [sectorsRead]; (repeat' split) <;> simp
@[simp] theorem sectorsRead_pending (corr unc : Nat) (s : State) : (sectorsRead corr unc s).pending = s.pending := by
  simp only [sectorsRead]; (repeat' split) <;> simp
@[simp] theorem sectorsRead_nand (corr unc : Nat) (s : State) : (sectorsRead corr unc s).nand = s.nand := by
  simp only [sectorsRead]; (repeat' split) <;> simp

/-! `sectorRead` -/

@[simp] theorem sectorRead_slices (r : SectorRead) (s : State) : (sectorRead r s).slices = s.slices := by
  unfold sectorRead; (repeat' split) <;> simp
@[simp] theorem sectorRead_sup (r : SectorRead) (s : State) : (sectorRead r s).sup = s.sup := by
  unfold sectorRead; (repeat' split) <;> simp
@[simp] theorem sectorRead_did (r : SectorRead) (s : State) : (sectorRead r s).did = s.did := by
  unfold sectorRead; (repeat' split) <;> simp
@[simp] theorem sectorRead_bud (r : SectorRead) (s : State) : (sectorRead r s).bud = s.bud := by
  unfold sectorRead; (repeat' split) <;> simp
@[simp] theorem sectorRead_kln (r : SectorRead) (s : State) : (sectorRead r s).kln = s.kln := by
  unfold sectorRead; (repeat' split) <;> simp
@[simp] theorem sectorRead_cyc (r : SectorRead) (s : State) : (sectorRead r s).cyc = s.cyc := by
  unfold sectorRead; (repeat' split) <;> simp
@[simp] theorem sectorRead_syn (r : SectorRead) (s : State) : (sectorRead r s).syn = s.syn := by
  unfold sectorRead; (repeat' split) <;> simp
@[simp] theorem sectorRead_hst (r : SectorRead) (s : State) : (sectorRead r s).hst = s.hst := by
  unfold sectorRead; (repeat' split) <;> simp
@[simp] theorem sectorRead_aux (r : SectorRead) (s : State) : (sectorRead r s).aux = s.aux := by
  unfold sectorRead; (repeat' split) <;> simp
@[simp] theorem sectorRead_fab (r : SectorRead) (s : State) : (sectorRead r s).fab = s.fab := by
  unfold sectorRead; (repeat' split) <;> simp
@[simp] theorem sectorRead_dma (r : SectorRead) (s : State) : (sectorRead r s).dma = s.dma := by
  unfold sectorRead; (repeat' split) <;> simp
@[simp] theorem sectorRead_otp (r : SectorRead) (s : State) : (sectorRead r s).otp = s.otp := by
  unfold sectorRead; (repeat' split) <;> simp
@[simp] theorem sectorRead_lcu (r : SectorRead) (s : State) : (sectorRead r s).lcu = s.lcu := by
  unfold sectorRead; (repeat' split) <;> simp
@[simp] theorem sectorRead_mem (r : SectorRead) (s : State) : (sectorRead r s).mem = s.mem := by
  unfold sectorRead; (repeat' split) <;> simp
@[simp] theorem sectorRead_free (r : SectorRead) (s : State) : (sectorRead r s).free = s.free := by
  unfold sectorRead; (repeat' split) <;> simp
@[simp] theorem sectorRead_pending (r : SectorRead) (s : State) : (sectorRead r s).pending = s.pending := by
  unfold sectorRead; (repeat' split) <;> simp
@[simp] theorem sectorRead_nand (r : SectorRead) (s : State) : (sectorRead r s).nand = s.nand := by
  unfold sectorRead; (repeat' split) <;> simp

/-! ## The banks of the recorder's window and the saturating counts -/

@[simp] theorem ringPut_bank (k : Bank) (ty so : BitVec 8) (fl : BitVec 16) (da : BitVec 48) (s : State) :
    evrBank k (ringPut ty so fl da s) = evrBank k s := by
  cases k <;> simp only [evrBank, ringPut] <;> (repeat' split) <;> rfl
@[simp] theorem raise_bank (k : Bank) (n : Nat) (s : State) : evrBank k (raise n s) = evrBank k s := by cases k <;> simp [evrBank]
@[simp] theorem fwRecord_bank (k : Bank) (n : Nat) (w : Word) (i : Nat) (s : State) : evrBank k (fwRecord n w i s) = evrBank k s := by
  cases k <;> simp only [evrBank, fwRecord] <;> (repeat' split) <;> rfl
@[simp] theorem globalEvent_bank (k : Bank) (n : Nat) (w : Word) (i : Nat) (s : State) : evrBank k (globalEvent n w i s) = evrBank k s := by
  simp [globalEvent]
@[simp] theorem onNvc_bank (k : Bank) (f : Nvc → Nvc) (s : State) : evrBank k (onNvc f s) = evrBank k s := by cases k <;> rfl
@[simp] theorem sectorsRead_bank (k : Bank) (a b : Nat) (s : State) : evrBank k (sectorsRead a b s) = evrBank k s := by
  simp only [sectorsRead]; split <;> simp
@[simp] theorem onEvrBank_bank (k : Bank) (f : EvrBank → EvrBank) (s : State) : evrBank k (onEvrBank k f s) = f (evrBank k s) := by
  cases k <;> rfl

@[simp] theorem satAdd_zero {n : Nat} (x : BitVec n) : satAdd x 0 = x := by
  have := x.isLt
  simp only [satAdd, Nat.add_zero]
  rw [if_neg (by omega)]; simp
theorem satAdd_one {n : Nat} (x : BitVec n) : satAdd x 1 = satInc x := by
  have := x.isLt
  simp only [satAdd, satInc]
  by_cases h : x = BitVec.allOnes n
  · subst h; simp [BitVec.toNat_allOnes]
    intro h; omega
  · have h2 : x.toNat ≠ 2 ^ n - 1 := fun e => h (BitVec.eq_of_toNat_eq (by simp [BitVec.toNat_allOnes, e]))
    rw [if_neg (by omega), if_neg h]
    apply BitVec.eq_of_toNat_eq; simp
@[simp] theorem sectorRead_bank (k : Bank) (r : SectorRead) (s : State) : evrBank k (sectorRead r s) = evrBank k s := by
  cases r <;> simp [sectorRead]

/-! ## The log's pages -/

@[simp] theorem sectorLogged_slices (rs : List Rec4) (s : State) : (sectorLogged rs s).slices = s.slices := by
  unfold sectorLogged; (repeat' split) <;> rfl
@[simp] theorem sectorsLogged_slices (ss : List (List Rec4)) (s : State) : (ss.foldl (fun s r => sectorLogged r s) s).slices = s.slices := by
  induction ss generalizing s with
  | nil => rfl
  | cons r rs ih => simp [ih]
@[simp] theorem sectorLogged_sup (rs : List Rec4) (s : State) : (sectorLogged rs s).sup = s.sup := by
  unfold sectorLogged; (repeat' split) <;> rfl
@[simp] theorem sectorsLogged_sup (ss : List (List Rec4)) (s : State) : (ss.foldl (fun s r => sectorLogged r s) s).sup = s.sup := by
  induction ss generalizing s with
  | nil => rfl
  | cons r rs ih => simp [ih]
@[simp] theorem sectorLogged_did (rs : List Rec4) (s : State) : (sectorLogged rs s).did = s.did := by
  unfold sectorLogged; (repeat' split) <;> rfl
@[simp] theorem sectorsLogged_did (ss : List (List Rec4)) (s : State) : (ss.foldl (fun s r => sectorLogged r s) s).did = s.did := by
  induction ss generalizing s with
  | nil => rfl
  | cons r rs ih => simp [ih]
@[simp] theorem sectorLogged_eva (rs : List Rec4) (s : State) : (sectorLogged rs s).eva = s.eva := by
  unfold sectorLogged; (repeat' split) <;> rfl
@[simp] theorem sectorsLogged_eva (ss : List (List Rec4)) (s : State) : (ss.foldl (fun s r => sectorLogged r s) s).eva = s.eva := by
  induction ss generalizing s with
  | nil => rfl
  | cons r rs ih => simp [ih]
@[simp] theorem sectorLogged_bud (rs : List Rec4) (s : State) : (sectorLogged rs s).bud = s.bud := by
  unfold sectorLogged; (repeat' split) <;> rfl
@[simp] theorem sectorsLogged_bud (ss : List (List Rec4)) (s : State) : (ss.foldl (fun s r => sectorLogged r s) s).bud = s.bud := by
  induction ss generalizing s with
  | nil => rfl
  | cons r rs ih => simp [ih]
@[simp] theorem sectorLogged_kln (rs : List Rec4) (s : State) : (sectorLogged rs s).kln = s.kln := by
  unfold sectorLogged; (repeat' split) <;> rfl
@[simp] theorem sectorsLogged_kln (ss : List (List Rec4)) (s : State) : (ss.foldl (fun s r => sectorLogged r s) s).kln = s.kln := by
  induction ss generalizing s with
  | nil => rfl
  | cons r rs ih => simp [ih]
@[simp] theorem sectorLogged_cyc (rs : List Rec4) (s : State) : (sectorLogged rs s).cyc = s.cyc := by
  unfold sectorLogged; (repeat' split) <;> rfl
@[simp] theorem sectorsLogged_cyc (ss : List (List Rec4)) (s : State) : (ss.foldl (fun s r => sectorLogged r s) s).cyc = s.cyc := by
  induction ss generalizing s with
  | nil => rfl
  | cons r rs ih => simp [ih]
@[simp] theorem sectorLogged_syn (rs : List Rec4) (s : State) : (sectorLogged rs s).syn = s.syn := by
  unfold sectorLogged; (repeat' split) <;> rfl
@[simp] theorem sectorsLogged_syn (ss : List (List Rec4)) (s : State) : (ss.foldl (fun s r => sectorLogged r s) s).syn = s.syn := by
  induction ss generalizing s with
  | nil => rfl
  | cons r rs ih => simp [ih]
@[simp] theorem sectorLogged_hst (rs : List Rec4) (s : State) : (sectorLogged rs s).hst = s.hst := by
  unfold sectorLogged; (repeat' split) <;> rfl
@[simp] theorem sectorsLogged_hst (ss : List (List Rec4)) (s : State) : (ss.foldl (fun s r => sectorLogged r s) s).hst = s.hst := by
  induction ss generalizing s with
  | nil => rfl
  | cons r rs ih => simp [ih]
@[simp] theorem sectorLogged_aux (rs : List Rec4) (s : State) : (sectorLogged rs s).aux = s.aux := by
  unfold sectorLogged; (repeat' split) <;> rfl
@[simp] theorem sectorsLogged_aux (ss : List (List Rec4)) (s : State) : (ss.foldl (fun s r => sectorLogged r s) s).aux = s.aux := by
  induction ss generalizing s with
  | nil => rfl
  | cons r rs ih => simp [ih]
@[simp] theorem sectorLogged_fab (rs : List Rec4) (s : State) : (sectorLogged rs s).fab = s.fab := by
  unfold sectorLogged; (repeat' split) <;> rfl
@[simp] theorem sectorsLogged_fab (ss : List (List Rec4)) (s : State) : (ss.foldl (fun s r => sectorLogged r s) s).fab = s.fab := by
  induction ss generalizing s with
  | nil => rfl
  | cons r rs ih => simp [ih]
@[simp] theorem sectorLogged_dma (rs : List Rec4) (s : State) : (sectorLogged rs s).dma = s.dma := by
  unfold sectorLogged; (repeat' split) <;> rfl
@[simp] theorem sectorsLogged_dma (ss : List (List Rec4)) (s : State) : (ss.foldl (fun s r => sectorLogged r s) s).dma = s.dma := by
  induction ss generalizing s with
  | nil => rfl
  | cons r rs ih => simp [ih]
@[simp] theorem sectorLogged_nvc (rs : List Rec4) (s : State) : (sectorLogged rs s).nvc = s.nvc := by
  unfold sectorLogged; (repeat' split) <;> rfl
@[simp] theorem sectorsLogged_nvc (ss : List (List Rec4)) (s : State) : (ss.foldl (fun s r => sectorLogged r s) s).nvc = s.nvc := by
  induction ss generalizing s with
  | nil => rfl
  | cons r rs ih => simp [ih]
@[simp] theorem sectorLogged_nand (rs : List Rec4) (s : State) : (sectorLogged rs s).nand = s.nand := by
  unfold sectorLogged; (repeat' split) <;> rfl
@[simp] theorem sectorsLogged_nand (ss : List (List Rec4)) (s : State) : (ss.foldl (fun s r => sectorLogged r s) s).nand = s.nand := by
  induction ss generalizing s with
  | nil => rfl
  | cons r rs ih => simp [ih]
@[simp] theorem sectorLogged_otp (rs : List Rec4) (s : State) : (sectorLogged rs s).otp = s.otp := by
  unfold sectorLogged; (repeat' split) <;> rfl
@[simp] theorem sectorsLogged_otp (ss : List (List Rec4)) (s : State) : (ss.foldl (fun s r => sectorLogged r s) s).otp = s.otp := by
  induction ss generalizing s with
  | nil => rfl
  | cons r rs ih => simp [ih]
@[simp] theorem sectorLogged_lcu (rs : List Rec4) (s : State) : (sectorLogged rs s).lcu = s.lcu := by
  unfold sectorLogged; (repeat' split) <;> rfl
@[simp] theorem sectorsLogged_lcu (ss : List (List Rec4)) (s : State) : (ss.foldl (fun s r => sectorLogged r s) s).lcu = s.lcu := by
  induction ss generalizing s with
  | nil => rfl
  | cons r rs ih => simp [ih]
@[simp] theorem sectorLogged_mem (rs : List Rec4) (s : State) : (sectorLogged rs s).mem = s.mem := by
  unfold sectorLogged; (repeat' split) <;> rfl
@[simp] theorem sectorsLogged_mem (ss : List (List Rec4)) (s : State) : (ss.foldl (fun s r => sectorLogged r s) s).mem = s.mem := by
  induction ss generalizing s with
  | nil => rfl
  | cons r rs ih => simp [ih]
@[simp] theorem sectorLogged_free (rs : List Rec4) (s : State) : (sectorLogged rs s).free = s.free := by
  unfold sectorLogged; (repeat' split) <;> rfl
@[simp] theorem sectorsLogged_free (ss : List (List Rec4)) (s : State) : (ss.foldl (fun s r => sectorLogged r s) s).free = s.free := by
  induction ss generalizing s with
  | nil => rfl
  | cons r rs ih => simp [ih]
@[simp] theorem sectorLogged_pending (rs : List Rec4) (s : State) : (sectorLogged rs s).pending = s.pending := by
  unfold sectorLogged; (repeat' split) <;> rfl
@[simp] theorem sectorsLogged_pending (ss : List (List Rec4)) (s : State) : (ss.foldl (fun s r => sectorLogged r s) s).pending = s.pending := by
  induction ss generalizing s with
  | nil => rfl
  | cons r rs ih => simp [ih]
@[simp] theorem sectorLogged_ring (rs : List Rec4) (s : State) : (sectorLogged rs s).evr.ring = s.evr.ring := by
  unfold sectorLogged; (repeat' split) <;> rfl
@[simp] theorem sectorsLogged_ring (ss : List (List Rec4)) (s : State) :
    (ss.foldl (fun s r => sectorLogged r s) s).evr.ring = s.evr.ring := by
  induction ss generalizing s with
  | nil => rfl
  | cons r rs ih => simp [ih]

/-- Slots that the log still holds are put at its end. -/
theorem logAppend_fits (rs : List Rec4) (s : State) (h0 : s.nand.logN ≠ 0)
    (h : (s.nand.log ++ rs).length ≤ s.nand.logN * 8192) :
    logAppend rs s = onNand (fun n => { n with log := s.nand.log ++ rs }) s := by
  have h1 : ¬ logCapacity s.nand < (s.nand.log ++ rs).length := Nat.not_lt.mpr h
  simp only [logAppend, if_neg h0, if_neg h1]

/-! ## What each one brings about -/

/-- A write count that is no new maximum leaves everything as it is. -/
theorem noteWear_same (w : BitVec 24) (s : State) (h : w.toNat ≤ s.nvc.wear.maxw.toNat) : noteWear w s = s := by
  have h1 : ¬ s.nvc.wear.maxw < w := by simp only [BitVec.lt_def]; omega
  have h2 : ¬ (s.nvc.wear.maxw.toNat ≤ 50000 ∧ 50000 < w.toNat) := by omega
  simp [noteWear, h1, h2]

/-- A new maximum is what `NVC_WEAR` shows. -/
theorem noteWear_maxw (w : BitVec 24) (s : State) :
    (noteWear w s).nvc.wear.maxw = if s.nvc.wear.maxw < w then w else s.nvc.wear.maxw := by
  simp only [noteWear]; split <;> split <;> simp

/-- The flash controller but for the write count. -/
theorem noteWear_err (w : BitVec 24) (s : State) : (noteWear w s).nvc.err = s.nvc.err := by
  simp only [noteWear]; split <;> split <;> simp

/-- An operation that succeeds on a block of no new write count has no effect of its own. -/
theorem flashOp_clean (part : Nat) (high : Bool) (o : FlashOp) (s : State) (hf : o.fails = false)
    (hw : o.wear.toNat ≤ s.nvc.wear.maxw.toNat) : flashOp part high o s = s := by
  simp [flashOp, hf, noteWear_same _ _ hw]

/-- The flash after a block of a partition is retired. -/
theorem retireBlock_nand (part : Nat) (high : Bool) (s : State) :
    (retireBlock part high s).nand
      = if 0 < s.nand.free then { s.nand with free := s.nand.free - 1 }
        else if 64 < s.nand.logN then s.nand.takeLog else s.nand.leftOut part high := by
  simp only [retireBlock]; (repeat' split) <;> simp [onNand, onNvc]

/-- The counters of the flash controller after it. -/
theorem retireBlock_err (part : Nat) (high : Bool) (s : State) :
    (retireBlock part high s).nvc.err = { s.nvc.err with badnew := satInc s.nvc.err.badnew } := by
  simp only [retireBlock]; (repeat' split) <;> simp [onNand, onNvc]

/-- A block that nothing replaces raises event 218. -/
theorem retireBlock_left_raised (part : Nat) (high : Bool) (s : State) (h : irreplaceable s.nand = true) :
    (retireBlock part high s).eva.raised 218 = true := by
  simp [irreplaceable] at h
  have h2 : ¬ 64 < s.nand.logN := by omega
  simp [retireBlock, h.1, h2, nandWear_raised]

/-- A read with uncorrectable sectors raises event 217. -/
theorem sectorsRead_raised (corr unc : Nat) (s : State) (h : unc ≠ 0) : (sectorsRead corr unc s).eva.raised 217 = true := by
  simp [sectorsRead, h]

/-- The flash controller after a write count is noted. -/
theorem noteWear_nvc (w : BitVec 24) (s : State) :
    (noteWear w s).nvc = { s.nvc with wear := { maxw := if s.nvc.wear.maxw < w then w else s.nvc.wear.maxw } } := by
  simp only [noteWear]; split <;> split <;> simp_all [onNvc]

/-- The flash controller after a block is retired: the counter `BADNEW`, and `RSV_PCT` where a reserve block is used. -/
theorem retireBlock_nvc (part : Nat) (high : Bool) (s : State) :
    (retireBlock part high s).nvc
      = { s.nvc with
          err := { s.nvc.err with badnew := satInc s.nvc.err.badnew }
          stat := if 0 < s.nand.free then
              { s.nvc.stat with rsvPct := reservePct { s.nand with free := s.nand.free - 1 } }
            else s.nvc.stat } := by
  simp only [retireBlock]; (repeat' split) <;> simp_all [onNand, onNvc]

/-- A reserve that falls below 25 % of that at format raises event 218. -/
theorem retireBlock_low_raised (part : Nat) (high : Bool) (s : State) (h : 0 < s.nand.free) (h1 : s.nand.free0 ≤ 4 * s.nand.free)
    (h2 : 4 * (s.nand.free - 1) < s.nand.free0) : (retireBlock part high s).eva.raised 218 = true := by
  simp [retireBlock, h, h1, h2, nandWear_raised]

/-- The first block taken from the log raises event 218. -/
theorem retireBlock_taken_raised (part : Nat) (high : Bool) (s : State) (h : s.nand.free = 0) (h1 : 64 < s.nand.logN)
    (h2 : s.nand.logTaken = false) : (retireBlock part high s).eva.raised 218 = true := by
  simp [retireBlock, h, h1, h2, nandWear_raised]

/-- The flash controller after a read. -/
theorem sectorsRead_nvc (corr unc : Nat) (s : State) :
    (sectorsRead corr unc s).nvc
      = { s.nvc with err := { s.nvc.err with corr := satAdd s.nvc.err.corr corr, unc := satAdd s.nvc.err.unc unc } } := by
  simp only [sectorsRead]; split <;> simp [onNvc]

/-- A mask that names a sector counts at least one. -/
theorem sectorCount_ne (m : BitVec 4) (h : m ≠ 0) : sectorCount m ≠ 0 := by revert m; decide

/-- Wear and retirement raise event 218 or no event. -/
theorem nandWear_eva (s : State) : (nandWear s).eva = (raise 218 s).eva := by simp [nandWear]

theorem retireBlock_eva (part : Nat) (high : Bool) (s : State) :
    (retireBlock part high s).eva = s.eva ∨ (retireBlock part high s).eva = (raise 218 s).eva := by
  simp only [retireBlock]
  split
  · split
    · right; rw [nandWear_eva]; rfl
    · left; rfl
  · split
    · split
      · left; rfl
      · right; rw [nandWear_eva]; rfl
    · right; rw [nandWear_eva]; rfl

theorem noteWear_eva (w : BitVec 24) (s : State) :
    (noteWear w s).eva = s.eva ∨ (noteWear w s).eva = (raise 218 s).eva := by
  simp only [noteWear]
  split <;> split
  · right; rw [nandWear_eva]; rfl
  · right; rw [nandWear_eva]
  · left; rfl
  · left; rfl

/-- Events that are pending stay so. -/
theorem retireBlock_keeps {n : Nat} (part : Nat) (high : Bool) {s : State} (h : s.eva.raised n = true) :
    (retireBlock part high s).eva.raised n = true := by
  rcases retireBlock_eva part high s with e | e <;> rw [e]
  · exact h
  · exact raise_keeps _ h

theorem noteWear_keeps {n : Nat} (w : BitVec 24) {s : State} (h : s.eva.raised n = true) : (noteWear w s).eva.raised n = true := by
  rcases noteWear_eva w s with e | e <;> rw [e]
  · exact h
  · exact raise_keeps _ h

theorem flashOp_keeps {n : Nat} (part : Nat) (high : Bool) (o : FlashOp) {s : State} (h : s.eva.raised n = true) :
    (flashOp part high o s).eva.raised n = true := by
  simp only [flashOp]; split
  · exact retireBlock_keeps _ _ (noteWear_keeps _ h)
  · exact noteWear_keeps _ h

/-- What it counts. -/
theorem sectorsRead_err (corr unc : Nat) (s : State) :
    (sectorsRead corr unc s).nvc.err
      = { s.nvc.err with corr := satAdd s.nvc.err.corr corr, unc := satAdd s.nvc.err.unc unc } := by
  simp only [sectorsRead]; split <;> simp [onNvc]

end Sys2Proof.Machine
end

