-- ==== Sys2Proof/Laws/Memory.lean ====
section
/-!
SUPPORT. The laws of memory: what a read finds after a write, that every operation keeps the canonical form, and the same for
the commands that write memory, with the queue they leave alone.
-/

namespace Sys2Proof.Machine

/-! ## The canonical list -/

theorem memFrom_mono {lo hi : Nat} (h : lo ≤ hi) : ∀ m, memFrom hi m = true → memFrom lo m = true
  | [], _ => rfl
  | (a, v) :: rest, e => by
    simp only [memFrom, Bool.and_eq_true, decide_eq_true_eq] at e ⊢
    exact ⟨⟨le_trans h e.1.1, e.1.2⟩, e.2⟩

theorem memFrom_memSet {lo a : Nat} (v : Byte) (h : lo ≤ a) (m : List Host.Cell) (w : memFrom lo m = true) :
    memFrom lo (memSet a v m) = true := by
  induction m generalizing lo with
  | nil =>
    unfold memSet; split
    · rfl
    · simp_all [memFrom]
  | cons c rest ih =>
    obtain ⟨b, x⟩ := c
    simp only [memFrom, Bool.and_eq_true, decide_eq_true_eq] at w
    obtain ⟨⟨hb, hx⟩, hr⟩ := w
    unfold memSet
    split
    · rename_i hlt
      simp only [memFrom, Bool.and_eq_true, decide_eq_true_eq]
      exact ⟨⟨hb, hx⟩, ih (by omega) hr⟩
    · rename_i hge
      simp only
      by_cases hv : v = memDefault <;> by_cases he : b = a <;> simp only [hv, he, if_true, if_false]
      · exact memFrom_mono (by omega) _ hr
      · simp only [memFrom, Bool.and_eq_true, decide_eq_true_eq]; exact ⟨⟨hb, hx⟩, hr⟩
      · simp only [memFrom, Bool.and_eq_true, decide_eq_true_eq]
        exact ⟨⟨h, by simpa using hv⟩, memFrom_mono (by omega) _ hr⟩
      · simp only [memFrom, Bool.and_eq_true, decide_eq_true_eq]
        exact ⟨⟨h, by simpa using hv⟩, ⟨by omega, hx⟩, hr⟩

/-- A write keeps the canonical form. -/
theorem wf_memSet (a : Nat) (v : Byte) {m : List Host.Cell} (w : Memory.wf m = true) : Memory.wf (memSet a v m) = true :=
  memFrom_memSet v (Nat.zero_le a) m w

theorem wf_memPut (a : Nat) (bs : List Byte) {m : List Host.Cell} (w : Memory.wf m = true) : Memory.wf (memPut a bs m) = true := by
  induction bs generalizing a m with
  | nil => exact w
  | cons b bs ih => exact ih (a + 1) (wf_memSet a b w)

theorem memFrom_filter {lo : Nat} (p : Host.Cell → Bool) (m : List Host.Cell) (w : memFrom lo m = true) :
    memFrom lo (m.filter p) = true := by
  induction m generalizing lo with
  | nil => rfl
  | cons c rest ih =>
    obtain ⟨a, v⟩ := c
    simp only [memFrom, Bool.and_eq_true, decide_eq_true_eq] at w
    rw [List.filter_cons]; split
    · simp only [memFrom, Bool.and_eq_true, decide_eq_true_eq]; exact ⟨w.1, ih w.2⟩
    · exact memFrom_mono (by omega) _ (ih w.2)

theorem wf_memClear (lo hi : Nat) {m : List Host.Cell} (w : Memory.wf m = true) : Memory.wf (memClear lo hi m) = true :=
  memFrom_filter _ m w

/-- Below its first address a list in canonical form reads the default. -/
theorem memGet_of_memFrom {lo a : Nat} (h : a < lo) (m : List Host.Cell) (w : memFrom lo m = true) : memGet m a = memDefault := by
  induction m generalizing lo with
  | nil => rfl
  | cons c rest ih =>
    obtain ⟨b, v⟩ := c
    simp only [memFrom, Bool.and_eq_true, decide_eq_true_eq] at w
    have : b ≠ a := by omega
    simp only [memGet, this, if_false]
    exact ih (lo := b + 1) (by omega) w.2

/-- A read after a write to the same address gives the byte written. -/
theorem memGet_memSet_self (a : Nat) (v : Byte) {lo : Nat} (m : List Host.Cell) (w : memFrom lo m = true) :
    memGet (memSet a v m) a = v := by
  induction m generalizing lo with
  | nil => unfold memSet; split <;> simp_all [memGet]
  | cons c rest ih =>
    obtain ⟨b, x⟩ := c
    simp only [memFrom, Bool.and_eq_true, decide_eq_true_eq] at w
    unfold memSet; split
    · rename_i hlt
      have : b ≠ a := by omega
      simp only [memGet, this, if_false]; exact ih w.2
    · simp only
      by_cases hv : v = memDefault <;> by_cases he : b = a <;> simp only [hv, he, if_true, if_false]
      · exact memGet_of_memFrom (lo := b + 1) (by omega) _ w.2
      · have : b ≠ a := he
        simp only [memGet, this, if_false]
        exact memGet_of_memFrom (lo := b + 1) (by omega) _ w.2
      · simp [memGet]
      · simp [memGet]

/-- A write leaves every other address alone. -/
theorem memGet_memSet_ne {a c : Nat} (h : c ≠ a) (v : Byte) (m : List Host.Cell) : memGet (memSet a v m) c = memGet m c := by
  induction m with
  | nil => unfold memSet; split <;> simp [memGet, Ne.symm h]
  | cons d rest ih =>
    obtain ⟨b, x⟩ := d
    unfold memSet; split
    · simp only [memGet]; split
      · rfl
      · exact ih
    · simp only
      by_cases hv : v = memDefault <;> by_cases he : b = a <;> simp_all [memGet, Ne.symm h]

theorem memGet_memPut {a c : Nat} (bs : List Byte) (h : c < a ∨ a + bs.length ≤ c) (m : List Host.Cell) :
    memGet (memPut a bs m) c = memGet m c := by
  induction bs generalizing a m with
  | nil => rfl
  | cons b bs ih =>
    simp only [List.length_cons] at h
    rw [memPut, ih (by omega), memGet_memSet_ne (by omega)]

/-! ## Words and bytes of the state -/

/-- A word written lies at its address; the model writes where memory is. -/
theorem readByte_writeMemWord_ne {a c : Nat} (w : Word) (s : State) (h : c < a ∨ a + 4 ≤ c) :
    readByte (writeMemWord a w s) c = readByte s c := by
  unfold writeMemWord; split
  · unfold readByte; split
    · simp only [onMem_mem]; exact memGet_memPut _ h _
    · rfl
  · rfl

theorem memOk_kept (s : State) : s.memOk = Memory.wf s.kept.1 := rfl

/-! ## Operations that write memory -/

@[simp] theorem onMem_queue (f : List Host.Cell → List Host.Cell) (s : State) : (onMem f s).kept.2 = s.kept.2 := rfl

@[simp] theorem writeMemWord_queue (a : Nat) (w : Word) (s : State) : (writeMemWord a w s).kept.2 = s.kept.2 := by
  unfold writeMemWord; split <;> rfl

theorem writeMemWord_wf (a : Nat) (w : Word) {s : State} (h : Memory.wf s.kept.1 = true) :
    Memory.wf (writeMemWord a w s).kept.1 = true := by
  unfold writeMemWord; split
  · exact wf_memPut _ _ h
  · exact h

@[simp] theorem writeBlock_queue (a n : Nat) (bs : List Byte) (s : State) : (writeBlock a n bs s).kept.2 = s.kept.2 := rfl

theorem writeBlock_wf (a n : Nat) (bs : List Byte) {s : State} (h : Memory.wf s.kept.1 = true) :
    Memory.wf (writeBlock a n bs s).kept.1 = true := wf_memPut _ _ (wf_memClear _ _ h)

@[simp] theorem writeWord_queue (q : Requester) (a : Nat) (w : Word) (s : State) : (writeWord q a w s).kept.2 = s.kept.2 := by
  unfold writeWord; split <;> simp

theorem writeWord_wf (q : Requester) (a : Nat) (w : Word) {s : State} (h : Memory.wf s.kept.1 = true) :
    Memory.wf (writeWord q a w s).kept.1 = true := by
  unfold writeWord; split
  · simpa using h
  · exact writeMemWord_wf a w h

theorem foldl_wf {α : Type} (l : List α) (f : State → α → State) {s : State} (w : Memory.wf s.kept.1 = true)
    (h : ∀ s x, Memory.wf s.kept.1 = true → Memory.wf (f s x).kept.1 = true) : Memory.wf (l.foldl f s).kept.1 = true := by
  induction l generalizing s with
  | nil => exact w
  | cons x l ih => exact ih (h s x w)

theorem foldl_queue {α : Type} (l : List α) (f : State → α → State) (s : State)
    (h : ∀ s x, (f s x).kept.2 = s.kept.2) : (l.foldl f s).kept.2 = s.kept.2 := by
  induction l generalizing s with
  | nil => rfl
  | cons x l ih => rw [List.foldl_cons, ih, h]

@[simp] theorem buildProfiles_queue (s : State) : (buildProfiles s).kept.2 = s.kept.2 := by
  unfold buildProfiles; simp only [kept_mk]
  exact congrArg Prod.snd (kept_foldl _ _ s (fun _ _ => by simp))

theorem buildProfiles_wf {s : State} (h : Memory.wf s.kept.1 = true) : Memory.wf (buildProfiles s).kept.1 = true := by
  unfold buildProfiles; simp only [kept_mk]
  refine writeBlock_wf _ _ _ ?_
  rw [kept_foldl]
  · exact h
  · intro s x; simp

@[simp] theorem spreading_queue (f : State → State) (s : State) (hf : (f s).kept.2 = s.kept.2) : (spreading f s).kept.2 = s.kept.2 := by
  simp only [spreading]; split
  · exact hf
  · rw [kept_foldl]
    · exact hf
    · intro t g; split <;> simp

theorem spreading_wf (f : State → State) (s : State) (hf : Memory.wf (f s).kept.1 = true) : Memory.wf (spreading f s).kept.1 = true := by
  simp only [spreading]; split
  · exact hf
  · rw [kept_foldl]
    · exact hf
    · intro t g; split <;> simp

@[simp] theorem applyBeats_queue (q : Requester) (l : List (Nat × Word)) (s : State) : (applyBeats q l s).kept.2 = s.kept.2 :=
  foldl_queue _ _ _ (fun _ _ => writeWord_queue _ _ _ _)

theorem applyBeats_wf (q : Requester) (l : List (Nat × Word)) {s : State} (h : Memory.wf s.kept.1 = true) :
    Memory.wf (applyBeats q l s).kept.1 = true := foldl_wf _ _ h (fun _ _ w => writeWord_wf _ _ _ w)

@[simp] theorem burstWrite_queue (q : Requester) (a : Nat) (ws : List Word) (s : State) :
    (burstWrite q a ws s).1.kept.2 = s.kept.2 := by
  unfold burstWrite; simp only; split
  · simp
  · simp only [grantEnd_kept]; rw [spreading_queue _ _ (by simp)]; simp

theorem burstWrite_wf (q : Requester) (a : Nat) (ws : List Word) {s : State} (h : Memory.wf s.kept.1 = true) :
    Memory.wf (burstWrite q a ws s).1.kept.1 = true := by
  unfold burstWrite; simp only; split
  · simpa using h
  · simp only [grantEnd_kept]; exact spreading_wf _ _ (applyBeats_wf _ _ (by simpa using h))

@[simp] theorem hostCommit_queue (d : Domain) (a : Nat) (data : List Byte) (s : State) : (hostCommit d a data s).kept.2 = s.kept.2 := by
  have k := burstWrite_queue (domReq d) a (bytesWords data) s
  unfold hostCommit; simp only; split <;> rename_i h <;> rw [h] at k <;> simpa using k

theorem hostCommit_wf (d : Domain) (a : Nat) (data : List Byte) {s : State} (h : Memory.wf s.kept.1 = true) :
    Memory.wf (hostCommit d a data s).kept.1 = true := by
  have k := burstWrite_wf (domReq d) a (bytesWords data) h
  unfold hostCommit; simp only; split <;> rename_i h <;> rw [h] at k <;> simpa using k

@[simp] theorem twoWireWrite_queue (w : TwWrite) (s : State) : (twoWireWrite w s).kept.2 = s.kept.2 := by
  unfold twoWireWrite; simp only; (repeat' split) <;> simp

theorem twoWireWrite_wf (w : TwWrite) {s : State} (h : Memory.wf s.kept.1 = true) : Memory.wf (twoWireWrite w s).kept.1 = true := by
  unfold twoWireWrite; simp only
  (repeat' split) <;> first | exact hostCommit_wf _ _ _ h | simpa using h

@[simp] theorem spiWrite_queue (w : SpiWrite) (s : State) : (spiWrite w s).kept.2 = s.kept.2 := by
  unfold spiWrite; (repeat' split) <;> simp

theorem spiWrite_wf (w : SpiWrite) {s : State} (h : Memory.wf s.kept.1 = true) : Memory.wf (spiWrite w s).kept.1 = true := by
  unfold spiWrite
  (repeat' split) <;> first | exact hostCommit_wf _ _ _ h | simpa using h

@[simp] theorem dmaBurst_queue (c : Fin 16) (s : State) : (dmaBurst c s).kept.2 = s.kept.2 := by
  unfold dmaBurst; simp only
  repeat' split
  all_goals first
    | (simp only [dmaFetch_kept, dmaFault_kept]; done)
    | (rw [dmaAdvance_kept, spreading_queue _ _ (applyBeats_queue _ _ _), kept_foldl _ _ _ (fun _ _ => afterBeat_kept _ _),
        dmaFetch_kept])

theorem dmaBurst_wf (c : Fin 16) {s : State} (h : Memory.wf s.kept.1 = true) : Memory.wf (dmaBurst c s).kept.1 = true := by
  have h0 : Memory.wf (dmaFetch c s).kept.1 = true := by rw [dmaFetch_kept]; exact h
  unfold dmaBurst; simp only
  repeat' split
  all_goals first
    | exact h0
    | (rw [dmaFault_kept]; exact h0)
    | (rw [dmaAdvance_kept]; refine spreading_wf _ _ (applyBeats_wf _ _ ?_)
       rw [kept_foldl _ _ _ (fun _ _ => afterBeat_kept _ _)]; exact h0)

@[simp] theorem dmaBurstCommit_queue (c : Fin 16) (n : Nat) (s : State) : (dmaBurstCommit c n s).kept.2 = s.kept.2 := by
  unfold dmaBurstCommit; split <;> simp

theorem dmaBurstCommit_wf (c : Fin 16) (n : Nat) {s : State} (h : Memory.wf s.kept.1 = true) :
    Memory.wf (dmaBurstCommit c n s).kept.1 = true := by
  unfold dmaBurstCommit; split
  · exact h
  · simp only [grantEnd_kept]; exact dmaBurst_wf _ (by simpa using h)

@[simp] theorem wipeDone_queue (s : State) : (wipeDone s).kept.2 = s.kept.2 := by
  unfold wipeDone; simp only; split <;> simp <;> rfl

theorem wipeDone_wf (s : State) : Memory.wf (wipeDone s).kept.1 = true := by
  unfold wipeDone; simp only; split <;> simp [memFrom, Memory.wf]

theorem walk_ite {c : Prop} [Decidable c] {a b : Walk} {k : List Host.Cell × List Instr} (ha : a.state.kept = k)
    (hb : b.state.kept = k) : (if c then a else b).state.kept = k := by split <;> assumption

theorem walk_dite {c : Prop} [Decidable c] {a : c → Walk} {b : ¬c → Walk} {k : List Host.Cell × List Instr}
    (ha : ∀ h, (a h).state.kept = k) (hb : ∀ h, (b h).state.kept = k) : (if h : c then a h else b h).state.kept = k := by
  split
  · exact ha _
  · exact hb _

theorem applyRecord_kept (w : Walk) (r : ImgRec) : (applyRecord w r).state.kept = w.state.kept := by
  unfold applyRecord; simp only
  repeat' first
    | refine walk_ite ?_ ?_
    | refine walk_dite (fun _ => ?_) (fun _ => ?_)
  all_goals first
    | (simp; done)
    | (split <;> simp; done)

theorem walkOne_kept (w : Walk) (r : ImgRec) (n : Nat) : (walkOne w r n).state.kept = w.state.kept := by
  unfold walkOne; simp only
  (repeat' split) <;> simp [applyRecord_kept]

theorem walk_kept (img : List Byte) (stop n off : Nat) (w : Walk) : (walk img stop n off w).state.kept = w.state.kept := by
  induction n generalizing off w with
  | zero => rfl
  | succ n ih =>
    unfold walk; simp only
    refine walk_ite rfl (walk_ite ?_ ?_)
    · rfl
    · rw [ih, walkOne_kept]

@[simp] theorem walkImage_kept (img : List Byte) (s : State) : (walkImage img s).state.kept = s.kept := walk_kept _ _ _ _ _

@[simp] theorem loadImage_queue (img : List Byte) (slot : Bool) (s : State) : (loadImage img slot s).kept.2 = s.kept.2 := by
  simp [loadImage]

theorem loadImage_wf (img : List Byte) (slot : Bool) {s : State} (h : Memory.wf s.kept.1 = true) :
    Memory.wf (loadImage img slot s).kept.1 = true := by
  simp only [loadImage, supplyConfigured_kept, startClock_kept, startSlase_kept, setLocks_kept, applySettings_kept,
    loadWindows_kept]
  exact buildProfiles_wf (by simpa using h)

@[simp] theorem configLoad_queue (s : State) : (configLoad s).kept.2 = s.kept.2 := by
  unfold configLoad; simp only; (repeat' split) <;> simp

theorem configLoad_wf {s : State} (h : Memory.wf s.kept.1 = true) : Memory.wf (configLoad s).kept.1 = true := by
  unfold configLoad; simp only
  repeat' split
  · exact h
  all_goals first
    | (rw [enterRecovery_kept]; exact h)
    | exact loadImage_wf _ _ h

@[simp] theorem activationRestart_queue (s : State) : (activationRestart s).kept.2 = s.kept.2 := by
  simp [activationRestart]

theorem activationRestart_wf {s : State} (h : Memory.wf s.kept.1 = true) : Memory.wf (activationRestart s).kept.1 = true := by
  unfold activationRestart; refine buildProfiles_wf ?_
  rw [settingsReturn_kept, onLcu_kept, onDid_kept]; exact h

@[simp] theorem rollback_queue (s : State) : (rollback s).kept.2 = s.kept.2 := by simp [rollback]

theorem rollback_wf {s : State} (h : Memory.wf s.kept.1 = true) : Memory.wf (rollback s).kept.1 = true := by
  unfold rollback; refine activationRestart_wf ?_
  rw [onLcu_kept, returnTo_kept]; exact h

@[simp] theorem watchdogExpiryAt_queue (c : CoreId) (n : Nat) (s : State) : (watchdogExpiryAt c n s).kept.2 = s.kept.2 := by
  unfold watchdogExpiryAt; split
  · rfl
  · simp only; split <;> simp

theorem watchdogExpiryAt_wf (c : CoreId) (n : Nat) {s : State} (h : Memory.wf s.kept.1 = true) :
    Memory.wf (watchdogExpiryAt c n s).kept.1 = true := by
  have k : Memory.wf (watchdogExpiry c n s).kept.1 = true := by rw [watchdogExpiry_kept]; exact h
  unfold watchdogExpiryAt; split
  · exact h
  · simp only; split
    · exact rollback_wf k
    · exact k

@[simp] theorem activationRestartDone_queue (r : RestartCheck) (s : State) : (activationRestartDone r s).kept.2 = s.kept.2 := by
  unfold activationRestartDone; repeat' split
  all_goals simp

theorem activationRestartDone_wf (r : RestartCheck) {s : State} (h : Memory.wf s.kept.1 = true) :
    Memory.wf (activationRestartDone r s).kept.1 = true := by
  unfold activationRestartDone; repeat' split
  · exact h
  · rw [wardenReset_kept]; exact h
  · rw [wardenReset_kept]; exact h
  · exact rollback_wf h
  · rw [activationResume_kept]; exact h

@[simp] theorem dmaAbort_queue (q : Requester) (c : Fin 16) (w : Bool) (s : State) : (dmaAbort q c w s).kept.2 = s.kept.2 := by
  unfold dmaAbort; repeat' split
  all_goals simp

theorem dmaAbort_wf (q : Requester) (c : Fin 16) (w : Bool) {s : State} (h : Memory.wf s.kept.1 = true) :
    Memory.wf (dmaAbort q c w s).kept.1 = true := by
  unfold dmaAbort; repeat' split
  · exact h
  · rw [dmaAbortBy_kept]; exact dmaBurstCommit_wf _ _ h
  · rw [dmaAbortBy_kept]; exact h

@[simp] theorem activateFirmware_queue (s : State) : (activateFirmware s).kept.2 = s.kept.2 := by simp [activateFirmware]

theorem activateFirmware_wf {s : State} (h : Memory.wf s.kept.1 = true) : Memory.wf (activateFirmware s).kept.1 = true := by
  unfold activateFirmware; refine activationRestart_wf ?_
  rw [onLcu_kept, bankRecord_kept, raise_kept, writePointer_kept]; exact h

@[simp] theorem svcCommit_queue (a : Nat) (ws : List Word) (s : State) : (svcCommit a ws s).1.kept.2 = s.kept.2 :=
  hostCommit_queue _ _ _ _

theorem svcCommit_wf (a : Nat) (ws : List Word) {s : State} (h : Memory.wf s.kept.1 = true) :
    Memory.wf (svcCommit a ws s).1.kept.1 = true := hostCommit_wf _ _ _ h

@[simp] theorem svcActivate_queue (s : State) : (svcActivate s).state.kept.2 = s.kept.2 := by
  unfold svcActivate; simp only; (repeat' split) <;> simp [svcAccepted]

theorem svcActivate_wf {s : State} (h : Memory.wf s.kept.1 = true) : Memory.wf (svcActivate s).state.kept.1 = true := by
  unfold svcActivate; simp only
  repeat' split
  all_goals first
    | (rw [updateRefused_kept]; exact h)
    | (rw [svcDone_kept, endTransfer_kept, writePointer_kept]; exact h)
    | (rw [svcAccepted_kept]; exact activateFirmware_wf h)

theorem queue_of_pair {s s' : State} {β : Type} {b : β} {r : State × β} (h : r = (s', b)) (k : r.1.kept.2 = s.kept.2) :
    s'.kept.2 = s.kept.2 := by rw [← k, h]

theorem wf_of_pair {s' : State} {β : Type} {b : β} {r : State × β} (h : r = (s', b)) (k : Memory.wf r.1.kept.1 = true) :
    Memory.wf s'.kept.1 = true := by rw [h] at k; exact k

@[simp] theorem svcRegWrite_queue (a : Word) (ws : List Word) (s : State) : (svcRegWrite a ws s).state.kept.2 = s.kept.2 := by
  unfold svcRegWrite; split
  · rfl
  · split
    · rfl
    · split; rename_i h
      split <;> exact queue_of_pair h (svcCommit_queue _ _ _)

theorem svcRegWrite_wf (a : Word) (ws : List Word) {s : State} (h : Memory.wf s.kept.1 = true) :
    Memory.wf (svcRegWrite a ws s).state.kept.1 = true := by
  unfold svcRegWrite; split
  · exact h
  · split
    · exact h
    · split; rename_i e
      split <;> exact wf_of_pair e (svcCommit_wf _ _ h)

@[simp] theorem svcMailbox_queue (cmd : Byte) (arg : Word) (s : State) : (svcMailbox cmd arg s).state.kept.2 = s.kept.2 := by
  unfold svcMailbox; split
  · rfl
  · split; rename_i e
    have k := queue_of_pair e (svcCommit_queue _ _ _)
    split
    · exact k
    · split; rename_i e'
      have k' := queue_of_pair e' (svcCommit_queue _ _ _)
      repeat' split
      all_goals exact k'.trans k

theorem svcMailbox_wf (cmd : Byte) (arg : Word) {s : State} (h : Memory.wf s.kept.1 = true) :
    Memory.wf (svcMailbox cmd arg s).state.kept.1 = true := by
  unfold svcMailbox; split
  · exact h
  · split; rename_i e
    have k := wf_of_pair e (svcCommit_wf _ _ h)
    split
    · exact k
    · split; rename_i e'
      have k' := wf_of_pair e' (svcCommit_wf _ _ k)
      repeat' split
      all_goals exact k'

theorem svcGate_queue (cmd : Byte) (r : Bool) (f : State → SvcOut) (s : State) (hf : ∀ s, (f s).state.kept.2 = s.kept.2) :
    (svcGate cmd r f s).state.kept.2 = s.kept.2 := by
  unfold svcGate
  repeat' split
  all_goals first | rfl | exact hf s

theorem svcGate_wf (cmd : Byte) (r : Bool) (f : State → SvcOut) {s : State} (h : Memory.wf s.kept.1 = true)
    (hf : ∀ s, Memory.wf s.kept.1 = true → Memory.wf (f s).state.kept.1 = true) :
    Memory.wf (svcGate cmd r f s).state.kept.1 = true := by
  unfold svcGate
  repeat' split
  all_goals first | exact h | exact hf s h

theorem svcRun_queue (cmd seq : Byte) (pl : List Byte) (r : Bool) (f : State → SvcOut) (s : State)
    (hf : ∀ s, (f s).state.kept.2 = s.kept.2) : (svcRun cmd seq pl r f s).kept.2 = s.kept.2 := by
  unfold svcRun; simp only; split
  · rfl
  · rw [onLcu_kept]; exact svcGate_queue _ _ _ _ hf

theorem svcRun_wf (cmd seq : Byte) (pl : List Byte) (r : Bool) (f : State → SvcOut) {s : State} (h : Memory.wf s.kept.1 = true)
    (hf : ∀ s, Memory.wf s.kept.1 = true → Memory.wf (f s).state.kept.1 = true) :
    Memory.wf (svcRun cmd seq pl r f s).kept.1 = true := by
  unfold svcRun; simp only; split
  · exact h
  · rw [onLcu_kept]; exact svcGate_wf _ _ _ h hf

end Sys2Proof.Machine
end

