-- ==== Sys2Proof/Laws/Service.lean ====
section
/-!
SUPPORT. Service frames: what a frame that is executed leaves, and what a Warden reset request does to the identity block.
-/

namespace Sys2Proof.Machine

theorem svcFresh_active {cmd seq : Byte} {pl : List Byte} {s : State} (h : svcFresh cmd seq pl s = true) : svcActive s = true := by
  simp [svcFresh] at h; exact h.1.1.1

theorem svcActive_iff (s : State) :
    svcActive s = true ↔ (s.did.cond = .recovery ∨ s.did.cond = .operation) ∧ s.did.preReset = false := by
  simp [svcActive]

theorem svcFresh_cond {cmd seq : Byte} {pl : List Byte} {s : State} (h : svcFresh cmd seq pl s = true) :
    s.did.cond = .recovery ∨ s.did.cond = .operation := ((svcActive_iff s).1 (svcFresh_active h)).1

theorem svcFresh_preReset {cmd seq : Byte} {pl : List Byte} {s : State} (h : svcFresh cmd seq pl s = true) :
    s.did.preReset = false := ((svcActive_iff s).1 (svcFresh_active h)).2

/-- A frame that is executed, in a mode that serves it: the command's effect, with the frame and its response stored. -/
theorem svcRun_fresh {cmd seq : Byte} {pl : List Byte} {rec_ : Bool} {f : State → SvcOut} {s : State}
    (h : svcFresh cmd seq pl s = true) (hm : rec_ = true ∨ s.did.cond = .operation) :
    svcRun cmd seq pl rec_ f s = svcAnswered cmd seq pl (f s).status (f s).cause (f s).data (f s).state := by
  have ha := svcFresh_active h
  simp [svcFresh] at h
  obtain ⟨⟨⟨_, hl⟩, hc⟩, hp⟩ := h
  have hg : svcGate cmd rec_ f s = f s := by
    rcases hm with hm | hm <;> simp [svcGate, hc, hp, hm, inRecovery]
  simp [svcRun, ha, hl, hg, svcAnswered, onLcu]

/-- A frame of a command that recovery does not serve. -/
theorem svcRun_barred {cmd seq : Byte} {pl : List Byte} {f : State → SvcOut} {s : State}
    (h : svcFresh cmd seq pl s = true) (hm : s.did.cond = .recovery) :
    svcRun cmd seq pl false f s = svcAnswered cmd seq pl 4 0 [] s := by
  have ha := svcFresh_active h
  simp [svcFresh] at h
  obtain ⟨⟨⟨_, hl⟩, hc⟩, hp⟩ := h
  simp [svcRun, ha, hl, svcGate, hc, hp, hm, inRecovery, svcNotAllowed, svcAnswered, onLcu]

/-- The answered state differs from what the command left in the service port's block alone. -/
@[simp] theorem svcAnswered_answer (cmd seq : Byte) (pl : List Byte) (st ca : Byte) (d : List Byte) (s : State) :
    svcAnswer (svcAnswered cmd seq pl st ca d s) = some (st, ca) := rfl

/-- What an operation on every port leaves alone at each port it leaves alone altogether. -/
theorem overPorts_same {α : Type} (g : State → α) (f : Port → State → State) (s : State) (h : ∀ p s, g (f p s) = g s) :
    g (overPorts f s) = g s := by
  have : ∀ (l : List Port) (s : State), g (l.foldl (fun s p => f p s) s) = g s := by
    intro l; induction l with
    | nil => intro s; rfl
    | cons x l ih => intro s; rw [List.foldl_cons, ih, h]
  exact this _ _

/-- A Warden reset request changes pins, `PS_EN` and the gates, the identity block, the recorder and nothing else: field by
field, in a mode where it acts (R77, R87). -/
theorem wardenReset_eq {s : State} (c : BitVec 4) (hp : s.did.preReset = false)
    (hc : s.did.cond = .recovery ∨ s.did.cond = .operation) :
    wardenReset c s = preReset (fun s => hwRecord 3 0xFF 8 (resetData s.did.srcs s.did.boot) s)
      (onDid (fun d => { d with srcs := { d.srcs with warden := true, wcause := c } }) s) := by
  rcases hc with hc | hc <;> simp [wardenReset, hp, hc]

theorem pinsOff_did (s : State) : (pinsOff s).did = { s.did with released := false } := by
  simp only [pinsOff, onDid, onSup]
  rw [overPorts_same State.did (fun p s => onSlice p (Slice.pinsOff p) s) s (fun _ _ => rfl)]

theorem pinsOff_otp (s : State) : (pinsOff s).otp = s.otp := by
  simp only [pinsOff, onDid, onSup]
  rw [overPorts_same State.otp (fun p s => onSlice p (Slice.pinsOff p) s) s (fun _ _ => rfl)]

theorem pinsOff_nand (s : State) : (pinsOff s).nand = s.nand := by
  simp only [pinsOff, onDid, onSup]
  rw [overPorts_same State.nand (fun p s => onSlice p (Slice.pinsOff p) s) s (fun _ _ => rfl)]

theorem pinsOff_lcu (s : State) : (pinsOff s).lcu = s.lcu := by
  simp only [pinsOff, onDid, onSup]
  rw [overPorts_same State.lcu (fun p s => onSlice p (Slice.pinsOff p) s) s (fun _ _ => rfl)]

theorem pinsOff_eva (s : State) : (pinsOff s).eva = s.eva := by
  simp only [pinsOff, onDid, onSup]
  rw [overPorts_same State.eva (fun p s => onSlice p (Slice.pinsOff p) s) s (fun _ _ => rfl)]

theorem wardenReset_did {s : State} (c : BitVec 4) (hp : s.did.preReset = false)
    (hc : s.did.cond = .recovery ∨ s.did.cond = .operation) :
    (wardenReset c s).did = { s.did with preReset := true, released := false, srcs := { s.did.srcs with warden := true, wcause := c } } := by
  rw [wardenReset_eq c hp hc]; simp [preReset, onDid, pinsOff_did]

@[simp] theorem wardenReset_otp (c : BitVec 4) (s : State) : (wardenReset c s).otp = s.otp := by
  unfold wardenReset; split
  · rfl
  · simp [preReset, onDid, pinsOff_otp]

@[simp] theorem wardenReset_nand (c : BitVec 4) (s : State) : (wardenReset c s).nand = s.nand := by
  unfold wardenReset; split
  · rfl
  · simp [preReset, onDid, pinsOff_nand]

@[simp] theorem wardenReset_lcu (c : BitVec 4) (s : State) : (wardenReset c s).lcu = s.lcu := by
  unfold wardenReset; split
  · rfl
  · simp [preReset, onDid, pinsOff_lcu]

end Sys2Proof.Machine
end

