-- ==== Sys2Proof/Laws/Supply.lean ====
section
/-!
SUPPORT. The operations on one slice leave the supply block alone, and what the supply block's own operations leave in it.
-/

namespace Sys2Proof.Machine

@[simp] theorem sup_ite (c : Prop) [Decidable c] (a b : State) : (if c then a else b).sup = if c then a.sup else b.sup := by
  split <;> rfl

@[simp] theorem sup_foldl {α : Type} (l : List α) (f : State → α → State) (s : State) (h : ∀ s x, (f s x).sup = s.sup) :
    (l.foldl f s).sup = s.sup := by
  induction l generalizing s with
  | nil => rfl
  | cons x l ih => rw [List.foldl_cons, ih, h]

@[simp] theorem overPorts_sup (f : Port → State → State) (s : State) (hf : ∀ (p : Port) (s : State), (f p s).sup = s.sup) :
    (overPorts f s).sup = s.sup := sup_foldl _ _ _ (fun s p => hf p s)

/-! Ops -/

@[simp] theorem onEvrBank_sup (k : Bank) (f : EvrBank → EvrBank) (s : State) :
    (onEvrBank k f s).sup = s.sup := by simp [onEvrBank]

@[simp] theorem onEvaBank_sup (k : Bank) (f : EvaBank → EvaBank) (s : State) :
    (onEvaBank k f s).sup = s.sup := by simp [onEvaBank]


/-! PowerOps -/

@[simp] theorem selfCheck_sup (p : Port) (s : State) :
    (selfCheck p s).sup = s.sup := by simp [selfCheck]

@[simp] theorem selfCheckWith_sup (p : Port) (bad : BitVec 4) (s : State) :
    (selfCheckWith p bad s).sup = s.sup := by simp [selfCheckWith]

@[simp] theorem startConv_sup (p : Port) (s : State) :
    (startConv p s).sup = s.sup := by simp [startConv]

@[simp] theorem startSwapConv_sup (p : Port) (s : State) :
    (startSwapConv p s).sup = s.sup := by simp [startSwapConv]

@[simp] theorem startPower_sup (p : Port) (s : State) :
    (startPower p s).sup = s.sup := by simp [startPower]

@[simp] theorem writePwmph_sup (p : Port) (w : Word) (s : State) :
    (writePwmph p w s).sup = s.sup := by simp [writePwmph]

@[simp] theorem spreadGroup_sup (g : Nat) (s : State) :
    (spreadGroup g s).sup = s.sup := by simp [spreadGroup]


/-! FarEnd -/

@[simp] theorem feReport_sup (p : Port) (cnl : Byte) (vin : BitVec 16) (fault : Byte) (s : State) :
    (feReport p cnl vin fault s).sup = s.sup := by simp [feReport]

@[simp] theorem feEnd_sup (p : Port) (s : State) :
    (feEnd p s).sup = s.sup := by simp [feEnd]

@[simp] theorem feDiscard_sup (p : Port) (s : State) :
    (feDiscard p s).sup = s.sup := by simp [feDiscard]

@[simp] theorem feWithdraw_sup (p : Port) (s : State) :
    (feWithdraw p s).sup = s.sup := by simp [feWithdraw]

@[simp] theorem feCycle_sup (p : Port) (s : State) :
    (feCycle p s).sup = s.sup := by simp [feCycle]

@[simp] theorem phaseLoad_sup (p : Port) (force : Bool) (s : State) :
    (phaseLoad p force s).sup = s.sup := by simp [phaseLoad]


/-! EngineOps -/

@[simp] theorem pump_sup (p : Port) (s : State) :
    (pump p s).sup = s.sup := by simp [pump]

@[simp] theorem queueMsg_sup (p : Port) (m : TxMsg) (s : State) :
    (queueMsg p m s).sup = s.sup := by simp [queueMsg]

@[simp] theorem startAms_sup (p : Port) (c : Ctx) (kind : MsgKind) (words : List Word) (s : State) :
    (startAms p c kind words s).sup = s.sup := by simp [startAms]

@[simp] theorem reply_sup (p : Port) (c : Ctx) (kind : MsgKind) (words : List Word) (s : State) :
    (reply p c kind words s).sup = s.sup := by simp [reply]

@[simp] theorem replyWhy_sup (p : Port) (kind : MsgKind) (why : TxWhy) (s : State) :
    (replyWhy p kind why s).sup = s.sup := by simp [replyWhy]

@[simp] theorem endAms_sup (p : Port) (s : State) :
    (endAms p s).sup = s.sup := by simp [endAms]

@[simp] theorem policyForget_sup (p : Port) (s : State) :
    (policyForget p s).sup = s.sup := by simp [policyForget]

@[simp] theorem errorRecovery_sup (p : Port) (s : State) :
    (errorRecovery p s).sup = s.sup := by simp [errorRecovery]

@[simp] theorem detach_sup (p : Port) (s : State) :
    (detach p s).sup = s.sup := by simp [detach]

@[simp] theorem pdSilence_sup (p : Port) (s : State) :
    (pdSilence p s).sup = s.sup := by simp [pdSilence]

@[simp] theorem hrPower_sup (p : Port) (s : State) :
    (hrPower p s).sup = s.sup := by simp [hrPower]

@[simp] theorem emitHardReset_sup (p : Port) (s : State) :
    (emitHardReset p s).sup = s.sup := by simp [emitHardReset]

@[simp] theorem sendHardReset_sup (p : Port) (s : State) :
    (sendHardReset p s).sup = s.sup := by simp [sendHardReset]

@[simp] theorem sendSoftReset_sup (p : Port) (c : Ctx) (s : State) :
    (sendSoftReset p c s).sup = s.sup := by simp [sendSoftReset]

@[simp] theorem sendCableReset_sup (p : Port) (s : State) :
    (sendCableReset p s).sup = s.sup := by simp [sendCableReset]

@[simp] theorem protocolError_sup (p : Port) (c : Ctx) (s : State) :
    (protocolError p c s).sup = s.sup := by unfold protocolError; split <;> simp

@[simp] theorem discoverSend_sup (p : Port) (s : State) :
    (discoverSend p s).sup = s.sup := by simp [discoverSend]

@[simp] theorem discoverStart_sup (p : Port) (s : State) :
    (discoverStart p s).sup = s.sup := by simp [discoverStart]


/-! OfferOps -/

@[simp] theorem renewAdverts_sup (p : Port) (s : State) :
    (renewAdverts p s).sup = s.sup := by simp [renewAdverts]

@[simp] theorem advertise_sup (p : Port) (s : State) :
    (advertise p s).sup = s.sup := by simp [advertise]

@[simp] theorem abortChange_sup (p : Port) (cause : BitVec 3) (s : State) :
    (abortChange p cause s).sup = s.sup := by simp only [abortChange]; (repeat' split) <;> simp

@[simp] theorem tryAlert_sup (p : Port) (s : State) :
    (tryAlert p s).sup = s.sup := by simp [tryAlert]

@[simp] theorem alertBit_sup (p : Port) (b : BitVec 3) (s : State) :
    (alertBit p b s).sup = s.sup := by simp [alertBit]

@[simp] theorem limitsChanged_sup (p : Port) (s : State) :
    (limitsChanged p s).sup = s.sup := by simp only [limitsChanged]; (repeat' split) <;> simp


/-! SchedOps -/

@[simp] theorem onSlot_sup (k : Fin 128) (f : SchedSlot → SchedSlot) (s : State) :
    (onSlot k f s).sup = s.sup := by simp [onSlot]

@[simp] theorem slotSkipped_sup (k : Option (Fin 128 × Byte)) (s : State) :
    (slotSkipped k s).sup = s.sup := by unfold slotSkipped; split <;> simp

@[simp] theorem thFailedCmd_sup (p : Port) (s : State) :
    (thFailedCmd p s).sup = s.sup := by simp [thFailedCmd]


/-! Thatch -/

@[simp] theorem thAdvance_sup (p : Port) (step : ThStep) (state : BitVec 3) (kind : MsgKind) (words : List Word) (s : State) :
    (thAdvance p step state kind words s).sup = s.sup := by simp [thAdvance]

@[simp] theorem thStop_sup (p : Port) (state : BitVec 3) (s : State) :
    (thStop p state s).sup = s.sup := by simp [thStop]

@[simp] theorem thIdentityAnswer_sup (p : Port) (id : Option (BitVec 16 × BitVec 16)) (s : State) :
    (thIdentityAnswer p id s).sup = s.sup := by simp only [thIdentityAnswer]; (repeat' split) <;> simp

@[simp] theorem thSvidsAnswer_sup (p : Port) (svids : List (BitVec 16)) (s : State) :
    (thSvidsAnswer p svids s).sup = s.sup := by simp [thSvidsAnswer]

@[simp] theorem thSendEnter_sup (p : Port) (s : State) :
    (thSendEnter p s).sup = s.sup := by simp [thSendEnter]

@[simp] theorem thModesAnswer_sup (p : Port) (vdos : List Word) (s : State) :
    (thModesAnswer p vdos s).sup = s.sup := by simp only [thModesAnswer]; (repeat' split) <;> simp

@[simp] theorem enterModeAnswer_sup (p : Port) (ans : VdmType) (s : State) :
    (enterModeAnswer p ans s).sup = s.sup := by unfold enterModeAnswer; split <;> simp

@[simp] theorem thPollReport_sup (p : Port) (r : ThReport) (s : State) :
    (thPollReport p r s).sup = s.sup := by simp [thPollReport]

@[simp] theorem thFlags_sup (p : Port) (r : ThReport) (s : State) :
    (thFlags p r s).sup = s.sup := by simp [thFlags]

@[simp] theorem thOff_sup (p : Port) (s : State) :
    (thOff p s).sup = s.sup := by simp [thOff]

@[simp] theorem thExit_sup (p : Port) (s : State) :
    (thExit p s).sup = s.sup := by simp [thExit]

@[simp] theorem writeThctl_sup (p : Port) (w : Word) (s : State) :
    (writeThctl p w s).sup = s.sup := by simp [writeThctl]

@[simp] theorem vdmResponseTimeout_sup (p : Port) (s : State) :
    (vdmResponseTimeout p s).sup = s.sup := by simp only [vdmResponseTimeout]; (repeat' split) <;> simp



/-! GrantOps -/

@[simp] theorem sinkRequest_sup (p : Port) (answer : Bool) (s : State) :
    (sinkRequest p answer s).sup = s.sup := by simp only [sinkRequest]; (repeat' split) <;> simp

@[simp] theorem frsCheck_sup (p : Port) (s : State) :
    (frsCheck p s).sup = s.sup := by simp [frsCheck]

@[simp] theorem frsSignal_sup (p : Port) (s : State) :
    (frsSignal p s).sup = s.sup := by simp [frsSignal]

@[simp] theorem grantGone_sup (p : Port) (byCap : Bool) (s : State) :
    (grantGone p byCap s).sup = s.sup := by simp [grantGone]

@[simp] theorem grantBack_sup (p : Port) (s : State) :
    (grantBack p s).sup = s.sup := by simp [grantBack]

@[simp] theorem grantMoved_sup (p : Port) (old : SliceGr) (byCap : Bool) (s : State) :
    (grantMoved p old byCap s).sup = s.sup := by simp [grantMoved]

@[simp] theorem setGrant_sup (p : Port) (g : SlcGrant) (s : State) :
    (setGrant p g s).sup = s.sup := by simp [setGrant]

@[simp] theorem writeProflim_sup (p : Port) (v : SlcProflim) (s : State) :
    (writeProflim p v s).sup = s.sup := by simp [writeProflim]


/-! RecorderOps -/

@[simp] theorem powerFailFlush_sup (s : State) :
    (powerFailFlush s).sup = s.sup := by simp [powerFailFlush]



/-! ProtectOps -/

@[simp] theorem trip_sup (p : Port) (cause : BitVec 4) (i : BitVec 16) (v : BitVec 16) (s : State) :
    (trip p cause i v s).sup = s.sup := by simp [trip]

@[simp] theorem startAttempt_sup (p : Port) (s : State) :
    (startAttempt p s).sup = s.sup := by simp [startAttempt]

@[simp] theorem engineStart_sup (p : Port) (s : State) :
    (engineStart p s).sup = s.sup := by simp [engineStart]


/-! SwapOps -/

@[simp] theorem swapDone_sup (p : Port) (f : Slice → Slice) (s : State) :
    (swapDone p f s).sup = s.sup := by simp [swapDone]

@[simp] theorem sendSwap_sup (p : Port) (k : SwapKind) (s : State) :
    (sendSwap p k s).sup = s.sup := by simp [sendSwap]

@[simp] theorem trySwaps_sup (p : Port) (s : State) :
    (trySwaps p s).sup = s.sup := by simp [trySwaps]

@[simp] theorem dropSwap_sup (p : Port) (result : BitVec 3) (k : SwapKind) (s : State) :
    (dropSwap p result k s).sup = s.sup := by simp [dropSwap]

@[simp] theorem prFromSink_sup (p : Port) (s : State) :
    (prFromSink p s).sup = s.sup := by simp [prFromSink]

@[simp] theorem vconnAccepted_sup (p : Port) (s : State) :
    (vconnAccepted p s).sup = s.sup := by simp [vconnAccepted]

@[simp] theorem frsOldGate_sup (p : Port) (s : State) :
    (frsOldGate p s).sup = s.sup := by simp [frsOldGate]

@[simp] theorem swapAccepted_sup (p : Port) (k : SwapKind) (s : State) :
    (swapAccepted p k s).sup = s.sup := by unfold swapAccepted; split <;> simp

@[simp] theorem prRamp_sup (p : Port) (s : State) :
    (prRamp p s).sup = s.sup := by simp [prRamp]

@[simp] theorem prVbusDown_sup (p : Port) (s : State) :
    (prVbusDown p s).sup = s.sup := by simp [prVbusDown]

@[simp] theorem prGate_sup (p : Port) (s : State) :
    (prGate p s).sup = s.sup := by simp [prGate]

@[simp] theorem frsFinish_sup (p : Port) (s : State) :
    (frsFinish p s).sup = s.sup := by simp [frsFinish]

@[simp] theorem frsClose_sup (p : Port) (s : State) :
    (frsClose p s).sup = s.sup := by simp [frsClose]

/-! ## The supply block's own operations: what each leaves in `sup` -/

@[simp] theorem portsPresent_sup (s : State) : (portsPresent s).sup = s.sup := by
  simp only [portsPresent]; split
  · rfl
  · exact overPorts_sup _ _ (fun p s => by simp)

@[simp] theorem capUpdate_sup (s : State) : (capUpdate s).sup = s.sup := by
  simp only [capUpdate]
  rw [sup_foldl]
  · split
    · exact overPorts_sup _ _ (fun p s => by simp)
    · rw [supplyEvent_sup]; exact overPorts_sup _ _ (fun p s => by simp)
  · intros; simp

@[simp] theorem publishVmax_sup (v : BitVec 9) (s : State) : (publishVmax v s).sup = { s.sup with maxpdo := v } := by
  simp only [publishVmax]; split
  · subst v; rfl
  · exact (overPorts_sup _ _ (fun p s => by simp)).trans rfl

@[simp] theorem pfwAssert_sup (s : State) : (pfwAssert s).sup = { s.sup with pfw := true } := by
  simp only [pfwAssert]; split
  · rename_i h; simp [← h]
  · simp

@[simp] theorem pfwRelease_sup (s : State) : (pfwRelease s).sup = { s.sup with pfw := false } := rfl

@[simp] theorem holdAssert_sup (s : State) : (holdAssert s).sup = { s.sup with hold := true } := by
  simp only [holdAssert]; split
  · rename_i h; simp [← h]
  · exact (overPorts_sup _ _ (fun p s => by simp)).trans rfl

@[simp] theorem activeMoved_sup (old : InputId) (s : State) : (activeMoved old s).sup =
    { s.sup with maxpdo := if s.sup.active = .none then 0 else s.sup.maxpdo } := by
  simp only [activeMoved, capUpdate_sup]
  split <;> rename_i h <;> split <;> simp_all <;> rw [overPorts_sup] <;> simp_all

theorem setActive_same {x : InputId} {s : State} (h : s.sup.active = x) : setActive x s = s := by
  simp [setActive, h]

/-- A change of the active input: what stands in the supply block after it. -/
@[simp] theorem setActive_sup {x : InputId} {s : State} (h : s.sup.active ≠ x) : (setActive x s).sup =
    { s.sup with
      active := x, everActive := s.sup.everActive || x ≠ .none, vmaxFresh := s.sup.active = .none && x ≠ .none
      aidSecond := s.sup.aidSecond && (x = .none || x = .cascade)
      cascQ := s.sup.cascQ && s.sup.active ≠ .cascade, cascPort := if s.sup.active = .cascade then none else s.sup.cascPort
      maxpdo := if x = .none then 0 else s.sup.maxpdo } := by
  simp only [setActive, h, if_false]
  cases hx : x <;> by_cases hc : s.sup.active = .cascade <;> simp_all

@[simp] theorem connectPath_sup (x : PathId) (a : Bool) (s : State) : (connectPath x a s).sup =
    match x with
    | .main => { s.sup with main := { s.sup.main with
        st := if a then .retrying else .connecting, attempt := a
        gate := !(s.sup.hswMain.mode && 10 * s.sup.vaux.vbulk.toNat + 8000 < 10 * s.sup.vin.vmain.toNat)
        precharge := s.sup.hswMain.mode && 10 * s.sup.vaux.vbulk.toNat + 8000 < 10 * s.sup.vin.vmain.toNat
        offDone := false, needQual := false, returnDue := false } }
    | .backup => { s.sup with bkup := { s.sup.bkup with
        st := if a then .retrying else .connecting, attempt := a
        gate := !(s.sup.hswBkup.mode && 10 * s.sup.vaux.vbulk.toNat + 8000 < 10 * s.sup.vin.vbkup.toNat)
        precharge := s.sup.hswBkup.mode && 10 * s.sup.vaux.vbulk.toNat + 8000 < 10 * s.sup.vin.vbkup.toNat
        offDone := false, needQual := false, returnDue := false } } := by
  cases x <;> rfl

/-- Nothing connects while an input is active. -/
theorem connectNext_active {s : State} (h : s.sup.active ≠ .none) : connectNext s = s := by simp [connectNext, h]

end Sys2Proof.Machine
end

