-- ==== Sys2Proof/WellFormed.lean ====
section
/-!
DEFINITION. Which commands can come about: the lengths that the spec gives to lists and blocks. Whether a command with a
length out of range is refused by the device is its meaning's affair; here stand the shapes that no sender can produce.
-/

namespace Sys2Proof

/-- An authorisation block holds a 64-byte key and a 64-byte signature (R410). -/
def authWell : Option AuthBlock → Bool
  | none => true
  | some a => a.pub.length == 64 && a.sig.length == 64

/-- The command has a shape that the spec allows: a snapshot per slice and an NTC reading per sheaf, a page of at most 512 words
(R403), an object position of 4 bits, a service payload of at most 1,024 bytes (R406), and blocks of R410. -/
def Instr.wellFormed : Instr → Bool
  | .pdMessageReceived _ f _ => decide (f.words.length ≤ 66)
  | .request _ r => decide (r.pos ≤ 15)
  | .ntcSample mv _ => mv.length == 8
  | .cycleBoundary ms => ms.length == 24
  | .discoverSvidsAck _ svids => decide (svids.length ≤ 12)
  | .discoverModesAck _ vdos => decide (vdos.length ≤ 6)
  | .nvcPageReady _ words _ _ => decide (words.length ≤ 512)
  | .svcBegin _ _ header _ => decide (header.length ≤ 1020)
  | .svcData _ _ data _ => decide (data.length ≤ 1020)
  | .svcRegWrite _ _ words => decide (words.length ≤ 255)
  | .svcOtpBurn _ _ _ auth => authWell auth
  | .svcOtpOverride _ _ _ auth => authWell auth
  | .svcStickyLock _ _ auth => authWell auth
  | .svcLifecycle _ _ auth => authWell auth
  | .powerOnReset | .externalReset | .wardenResetRequest _ | .preResetComplete _ | .resetRelease | .otpSensingDone _
  | .pllLock | .pllLockTimeout | .referenceLost | .wipeDone | .wardenFirmwareVerified _ _
  | .policyFirmwareVerified _ | .configLoad | .sliceRelease _ _ _ _ | .watchdogExpiry _ _ | .coreRestartDone _ _
  | .dieTempWarning _ | .dieTempWarningClear _ | .thermalShutdown _ | .thermalRestart _ | .vinHkLow | .vinHkRestored
  | .vconnInLow | .vconnInRestored | .inputQualified _ _ | .inputLost _ | .inputWarning _ | .backupPathConduct
  | .cascadeQualified _ | .cascadeLost _ | .pathGood _ _ | .sinkPathGood _ _ | .sinkPathTimeout _
  | .switchoverWindowEnd _ | .vmaxWindow _ _ _ _ _ _ | .vmaxRise | .staggerDelayEnd _ | .pathFault _
  | .prechargeDone _ | .prechargeTimeout _ | .pathOvervoltage _ | .supplyRetryAttempt _ | .supplyAttemptFail _ _
  | .supplyLatchClear _ | .emgAssert | .emgRelease | .etestStart _ | .etestAbort | .etestEnd _ _ | .ccSample _ _ _ _ _ _
  | .ccDebounceExpiry _ | .foreignVbus _ | .sourceDetach _ | .dischargeDone _ | .detachRampTimeout _
  | .vconnDischargeEnd _ | .vconnOvercurrent _ | .drpToggle _ | .drpTryExpiry _ | .tryTimeout _ | .sinkVbusLost _
  | .errrecWrite _ | .errorRecoveryEnd _ | .goodcrcReceived _ _ | .getSourceCap _ _ | .softReset _ _ | .hardReset _
  | .hardResetPsStart _ | .srcRecoverEnd _ | .cableIdentityAnswer _ _ | .discoverIdentityTimer _
  | .discoverIdentity _ | .getStatus _ | .getPpsStatus _ | .getRevision _ | .alert _ | .getSinkCap _ _
  | .unsupportedMessage _ _ _ | .bist _ _ | .sourceCapabilities _ _ | .eprModeEnter _ | .eprModeExit _
  | .eprKeepalive _ | .eprKeepaliveTimeout _ | .ppsTimeout _ | .crcReceiveTimeout _ | .senderResponseTimeout _
  | .noResponseTimeout _ | .sourceCapTimer _ | .chunkTimeout _ _ | .sinktxExpiry _ | .alertHoldoffExpiry _
  | .mbtxSend _ _ _ | .mbtxAbort _ | .mbrxPop _ | .hostReplyTimeout _ | .pdCntClear _ | .readv _
  | .readvHoldoffExpiry _ | .xctlAbort _ | .srcTransitionExpiry _ | .rampDone _ | .settleDone _
  | .transitionTimeout _ | .abortRampBackDone _ | .complianceExpiry _ _ | .grantWrite _ _ | .pwmPeriod _ _
  | .peakLimit _ _ _ | .revLimit _ _ _ | .shortTrip _ _ _ | .ovTrip _ _ _ | .fuseUpdate _ _ _ _
  | .protRetryAttempt _ _ | .attemptNotSettled _ _ _ | .triesResetTimer _ | .unlatch _ | .selftest _ _
  | .snkdropTrip _ _ _ | .sinkOvTrip _ _ _ | .ovSample _ _ | .prebiasPass _ | .prebiasFail _ _ _ _
  | .feedbackSwitch _ | .ppsCurrentLoop _ _ | .telemetryUpdate _ _ _ _ _ | .energyAccumulate _ _ _
  | .pwmphWrite _ _ _ | .halfCycleBoundary _ | .feReportLoss _ | .reqPr _ | .reqDr _ | .reqVc _ | .prSwap _
  | .drSwap _ | .vconnSwap _ | .frSwap _ | .swapAnswer _ _ | .swapPsRdy _ | .swapRetryTimer _ | .psSourceOnTimeout _
  | .psSourceOffTimeout _ | .swapVbusTimeout _ | .swapSourceStart _ | .vconnSourceTimeout _ | .sinkVbusWaitTimeout _
  | .frsSignalEnd _ | .frsDetect _ | .frsSwapTimeout _ | .aidPortTimeout | .eprWaitTimer _ | .budgetRound _
  | .kilnUpdate | .zcCapture _ _ _ | .zcTimeout | .timerMatch _ _ | .schedGo _ _ | .schedAbort _ _
  | .thatchCommand _ | .hostLimit _ | .emergencyTest _ | .snapshot _ | .dmaTrigger _ | .slaselineTick _ _ _ _
  | .tickMissed | .schedule _ _ _ _ _ _ _ | .snapshotFrame _ _ _ | .timeSet _ _ _ | .slaselineBadFrame _ | .synGo _
  | .synCommandSend | .synCntClear | .thatchDiscoveryStart _ | .enterModeAck _ _ | .enterModeTimeout _
  | .linkSettleEnd _ | .report _ _ _ _ | .thatchNoResponse _ _ | .thatchBadFrame _ _ | .thatchLinkLost _
  | .thatchGiveUp _ | .thatchReentry _ | .thatchExit _ | .thatchReenter _ | .twoWireWrite _ | .twoWireRead _
  | .twoWireBusError _ | .spiWrite _ | .spiRead _ _ _ | .spiUnknownCommand | .applyBeat _ | .clearEventRing _
  | .deviceReset _ | .ownerLock _ | .otpMarginAudit _ _ | .hstCntClear _ | .auxPoll _ _ _ | .mapApply
  | .eccCorrection _ _ _ | .dmaArm _ _ _ _ | .dmaStart _ _ | .dmaAbort _ _ _ | .dmaBurstCommit _ _
  | .evrCursorWrite _ _ _ | .evrFetchDone _ _ | .evrWin3Read _ _ | .evaClear _ _ _ | .ringDrain _ | .operatingMinute
  | .flushAreaErase _ | .logSectorAppend _ | .logPageProgram _ | .nvcPageSelect _ _ | .settingsWrite _ | .otpBurnDone _ _
  | .otpBurnInterrupt _ _ | .lifecycleEraseDone | .serviceFrameBad | .serviceBaudTimeout | .svcHello _
  | .svcSetBaud _ _ | .svcStatus _ | .svcEnd _ | .svcActivate _ | .svcAbort _ | .svcRegRead _ _ _
  | .svcMailbox _ _ _ | .svcReset _ _ | .updateTimeout | .activationRestartDone _ | .sliceReload _
  | .firmwareConfirm | .rollback | .registerWrite _ _ _ | .vbusClassificationChange _ _ | .vbusSafe0Debounce _
  | .attemptSuccess _ | .sinkWaitCapTimeout _ | .psTransitionTimeout _ | .sinkRequestTimer _
  | .eprSinkKeepaliveTimer _ | .enterEprTimeout _ | .bistCarrierModeEnd _ | .vdmResponseTimeout _ => true

end Sys2Proof
end

