-- ==== Sys2Proof/Tests/Slice0.lean ====
section
/-!
SUPPORT. Tests: commands of ill-formed shape are refused, and for every claim with hypotheses the states and operands that meet
them.
-/

namespace Sys2Proof.Tests

open Sys2Proof Sys2Proof.Machine

set_option maxRecDepth 100000

/-- A released device at its reset values, with one slice changed. -/
def st (p : Port) (f : Slice → Slice) : State :=
  { State.reset with did := { State.reset.did with released := true }, slices := updAt State.reset.slices p f }

/-- States and operands that meet the hypotheses of each clause of `Obligations.InputsAndWarning`. -/
theorem test_meets_InputsAndWarning :
    (∃ (s : State), s.sup.main.qual = false ∧ s.sup.main.latch = false ∧ s.otp.sensed = true ∧ s.sup.main.st ≠
      .notConfigured ∧ s.sup.main.st ≠ .retrying ∧ (s.sup.active = .backup ∨ s.sup.active = .cascade)) ∧ (∃ (s :
      State), s.sup.bkup.qual = false ∧ s.sup.bkup.latch = false ∧ s.otp.sensed = true ∧ s.sup.bkup.st ≠
      .notConfigured ∧ s.sup.bkup.st ≠ .retrying ∧ s.sup.active = .main) ∧ (∃ (s : State), s.sup.main.qual = false ∧
      s.sup.main.latch = false ∧ s.otp.sensed = true ∧ s.sup.main.st = .lost ∧ s.sup.active = .none ∧ s.sup.lock.cfgLk
      = true ∧ s.sup.main.attempt = false ∧ s.sup.bkup.busy = false ∧ s.sup.hswMain.mode = false) ∧ (∃ (s : State),
      s.sup.main.qual = false ∧ s.sup.main.latch = false ∧ s.otp.sensed = true ∧ s.sup.main.st = .retrying ∧
      s.sup.main.offDone = true ∧ s.sup.hswMain.mode = false) ∧ (∃ (x : PathId) (s : State), ((s.sup.path x).qual =
      true ∨ (s.sup.path x).latch = true)) ∧ (∃ (x : PathId) (s : State), (s.sup.path x).qual = false) ∧ (∃ (s :
      State), s.sup.main.qual = true ∧ s.sup.active = .main ∧ s.sup.etst = false ∧ s.sup.main.st ≠ .retrying ∧
      s.sup.bkup.qual = true ∧ s.sup.bkup.st = .staggerOrArmed) ∧ (∃ (s : State), s.sup.main.qual = true ∧
      s.sup.active = .main ∧ s.sup.etst = false ∧ s.sup.main.st = .connected ∧ s.sup.bkup.qual = false ∧ s.sup.cascQ =
      false) ∧ (∃ (s : State), s.sup.main.qual = true ∧ s.sup.active = .backup ∧ s.sup.etst = false ∧ s.sup.main.st =
      .staggerOrArmed) ∧ (∃ (s : State), s.sup.bkup.qual = true ∧ s.sup.active = .main ∧ s.sup.etst = false ∧
      s.sup.bkup.st = .staggerOrArmed) ∧ (∃ (s : State), (s.sup.active = .main ∧ s.sup.bkup.qual = false ∨
      s.sup.active = .backup ∧ s.sup.main.qual = false) ∧ s.sup.cascQ = false ∧ s.sup.pfw = false) ∧ (∃ (s : State),
      s.sup.active = .main ∧ s.sup.bkup.qual = true) ∧ (∃ (s : State), s.sup.active ≠ .none) ∧ (∃ (s : State),
      s.sup.bkup.qual = true ∧ (s.sup.bkup.st = .staggerOrArmed ∨ s.sup.bkup.st = .connecting) ∧ s.sup.bkup.precharge
      = false) ∧ (∃ (s : State), s.sup.bkup.qual = false) ∧ (∃ (p : Port) (s : State), aidPort s = some p ∧ 20000 ≤
      (s.slice p).sw.snkMv ∧ (s.slice p).sw.snkWaitRdy = false ∧ s.sup.cascQ = false ∧ s.sup.active ≠ .none) ∧ (∃ (p :
      Port) (s : State), aidPort s = some p ∧ 20000 ≤ (s.slice p).sw.snkMv ∧ (s.slice p).sw.snkWaitRdy = false ∧
      s.sup.cascQ = false ∧ s.sup.active = .none ∧ s.sup.lock.cfgLk = true ∧ s.sup.main.qual = false ∧ s.sup.bkup.qual
      = false ∧ s.sup.main.busy = false ∧ s.sup.bkup.busy = false ∧ s.sup.cascRetry = false ∧ s.sup.cascLatch = false
      ∧ (s.slice p).pins.snkg = false ∧ (s.slice p).pr.bad = 0 ∧ (s.slice p).pr.prstat.pstate = 0) ∧ (∃ (p : Port) (s
      : State), s.sup.cascQ = true ∧ s.sup.cascPort = some p ∧ s.sup.active ≠ .cascade) ∧ (∃ (p : Port) (s : State),
      s.sup.cascQ = true ∧ s.sup.cascPort = some p ∧ s.sup.active = .cascade ∧ s.sup.main.qual = true ∧
      s.sup.hswMain.mode = false) ∧ (∃ (s : State), s.sup.cascQ = false) :=
  ⟨⟨{ State.reset with otp.sensed := true, sup.main.st := .lost, sup.active := .backup }, by decide⟩,
   ⟨{ State.reset with otp.sensed := true, sup.bkup.st := .lost, sup.active := .main }, by decide⟩,
   ⟨{ State.reset with otp.sensed := true, sup.main.st := .lost, sup.lock.cfgLk := true }, by decide⟩,
   ⟨{ State.reset with otp.sensed := true, sup.main.st := .retrying, sup.main.offDone := true }, by decide⟩,
   ⟨.backup, { State.reset with sup.bkup.latch := true }, by decide⟩,
   ⟨.backup, State.reset, by decide⟩,
   ⟨{ State.reset with sup.main.qual := true, sup.main.st := .connected, sup.active := .main, sup.bkup.qual := true, sup.bkup.st := .staggerOrArmed },
     by decide⟩,
   ⟨{ State.reset with sup.main.qual := true, sup.main.st := .connected, sup.active := .main, sup.everActive := true, sup.maxpdo := 440, sup.psEn := true },
     by decide⟩,
   ⟨{ State.reset with sup.main.qual := true, sup.main.st := .staggerOrArmed, sup.active := .backup }, by decide⟩,
   ⟨{ State.reset with sup.bkup.qual := true, sup.bkup.st := .staggerOrArmed, sup.active := .main, sup.bkup.gate := true },
     by decide⟩,
   ⟨{ State.reset with sup.active := .main }, by decide⟩,
   ⟨{ State.reset with sup.active := .main, sup.bkup.qual := true }, by decide⟩,
   ⟨{ State.reset with sup.active := .main, sup.pfw := true }, by decide⟩,
   ⟨{ State.reset with sup.bkup.qual := true, sup.bkup.st := .connecting }, by decide⟩,
   ⟨{ State.reset with sup.bkup.st := .connecting }, by decide⟩,
   ⟨1,
     { st 1 (fun x => { x with att.attcfg.role := 2, sw.swcfg.tie := true, att.attstat.state := 6, sw.snkMv := 20000 }) with sup.active := .backup },
     by decide⟩,
   ⟨1,
     { st 1 (fun x => { x with att.attcfg.role := 2, sw.swcfg.tie := true, att.attstat.state := 6, sw.snkMv := 20000, ps.tlmV.vbus := 2000 }) with sup.lock.cfgLk := true },
     by decide⟩,
   ⟨1,
     { st 1 (fun x => { x with sw.swstat.snkp := 2, pins.snkg := true }) with sup.cascQ := true, sup.cascPort := some 1 },
     by decide⟩,
   ⟨1,
     { st 1 (fun x => { x with sw.swstat.snkp := 2, pins.snkg := true }) with sup.cascQ := true, sup.cascPort := some 1, sup.active := .cascade, sup.main.qual := true, sup.main.st := .staggerOrArmed },
     by decide⟩,
   ⟨State.reset, by decide⟩⟩

/-- States and operands that meet the hypotheses of each clause of `Obligations.PathsGoodAndFailed`. -/
theorem test_meets_PathsGoodAndFailed :
    (∃ (s : State), s.sup.main.gate = true ∧ s.sup.main.st = .connecting ∧ s.sup.active = .none ∧ s.sup.bkup.returnDue
      = false ∧ ((∀ k, (s.cyc.slots.get k).st ≠ .waiting))) ∧ (∃ (s : State), s.sup.bkup.gate = true ∧ s.sup.bkup.st =
      .connecting ∧ s.sup.active = .backup ∧ s.sup.main.returnDue = false ∧ s.sup.hold = true ∧ ((∀ k,
      (s.cyc.slots.get k).st ≠ .waiting))) ∧ (∃ (x : PathId) (s : State), (s.sup.path x).gate = false) ∧ (∃ (p : Port)
      (s : State), (s.slice p).pins.snkg = true ∧ s.sup.cascPort = some p ∧ s.sup.active = .none ∧
      s.sup.main.returnDue = false ∧ s.sup.bkup.returnDue = false ∧ ((∀ k, (s.cyc.slots.get k).st ≠ .waiting))) ∧ (∃
      (p : Port) (s : State), (s.slice p).pins.snkg = false) ∧ (∃ (p : Port) (s : State), (s.slice p).pins.snkg = true
      ∧ s.sup.active ≠ .cascade ∧ s.sup.cascAttempt = false) ∧ (∃ (p : Port) (s : State), (s.slice p).pins.snkg = true
      ∧ s.sup.active ≠ .cascade ∧ s.sup.cascAttempt = true ∧ s.sup.retry.count ≠ 0 ∧ s.sup.retry.count.toNat ≤ (satInc
      s.sup.cascTries).toNat) ∧ (∃ (s : State), s.sup.hold = true ∧ s.sup.main.returnDue = false ∧
      s.sup.bkup.returnDue = false ∧ ((∀ k, (s.cyc.slots.get k).st ≠ .waiting))) ∧ (∃ (s : State), s.sup.hold = false)
      ∧ (∃ (s : State), s.sup.main.st = .staggerOrArmed ∧ s.sup.main.qual = true ∧ (s.sup.active = .backup ∨
      s.sup.active = .cascade) ∧ s.sup.etst = false ∧ s.sup.hold = false ∧ s.sup.hswMain.mode = false) ∧ (∃ (s :
      State), s.sup.main.st = .staggerOrArmed ∧ s.sup.main.qual = true ∧ (s.sup.active = .backup ∨ s.sup.active =
      .cascade) ∧ s.sup.etst = false ∧ s.sup.hold = true) ∧ (∃ (s : State), s.sup.main.qual = false) ∧ (∃ (s : State),
      s.sup.main.precharge = true) ∧ (∃ (x : PathId) (s : State), (s.sup.path x).precharge = false) :=
  ⟨⟨{ State.reset with sup.main.qual := true, sup.main.st := .connecting, sup.main.gate := true, sup.hold := true },
     by decide⟩,
   ⟨{ State.reset with sup.bkup.qual := true, sup.bkup.st := .connecting, sup.bkup.gate := true, sup.active := .backup, sup.hold := true },
     by decide⟩,
   ⟨.main, State.reset, by decide⟩,
   ⟨1,
     { st 1 (fun x => { x with sw.swstat.snkp := 1, pins.snkg := true }) with sup.cascQ := true, sup.cascPort := some 1, sup.hold := true, sup.pfw := true },
     by decide⟩,
   ⟨1, State.reset, by decide⟩,
   ⟨1, st 1 (fun x => { x with sw.swstat.snkp := 1, pins.snkg := true }), by decide⟩,
   ⟨1,
     { st 1 (fun x => { x with sw.swstat.snkp := 1, pins.snkg := true }) with sup.cascAttempt := true, sup.retry.count := 1 },
     by decide⟩,
   ⟨{ State.reset with sup.hold := true, sup.active := .backup, sup.maxpdo := 440 }, by decide⟩,
   ⟨State.reset, by decide⟩,
   ⟨{ State.reset with sup.main.qual := true, sup.main.st := .staggerOrArmed, sup.active := .backup }, by decide⟩,
   ⟨{ State.reset with sup.main.qual := true, sup.main.st := .staggerOrArmed, sup.active := .cascade, sup.hold := true },
     by decide⟩,
   ⟨{ State.reset with sup.main.returnDue := true }, by decide⟩,
   ⟨{ State.reset with sup.main.precharge := true }, by decide⟩,
   ⟨.backup, State.reset, by decide⟩⟩

/-- States and operands that meet the hypotheses of each clause of `Obligations.PathFailuresAndRetries`. -/
theorem test_meets_PathFailuresAndRetries :
    (∃ (s : State), s.sup.main.st = .connecting ∧ s.sup.main.gate = true ∧ s.sup.main.qual = true) ∧ (∃ (s : State),
      s.sup.bkup.st = .connecting ∧ s.sup.bkup.gate = true ∧ s.sup.bkup.qual = true) ∧ (∃ (x : PathId) (s : State),
      (s.sup.path x).st ≠ .connecting) ∧ (∃ (s : State), s.sup.main.precharge = true ∧ s.sup.main.gate = false ∧
      s.sup.main.attempt = false ∧ s.sup.main.qual = true) ∧ (∃ (s : State), s.sup.main.precharge = true ∧
      s.sup.main.gate = false ∧ s.sup.main.attempt = true ∧ s.sup.retry.count ≠ 0 ∧ s.sup.retry.count.toNat ≤ (satInc
      s.sup.main.tries).toNat) ∧ (∃ (s : State), s.sup.main.st = .connecting ∧ s.sup.main.qual = true ∧
      s.sup.retry.count = 0) ∧ (∃ (x : PathId) (s : State), (s.sup.path x).busy = false) ∧ (∃ (s : State),
      s.sup.main.st = .retrying ∧ s.sup.main.attempt = false ∧ s.sup.main.qual = true ∧ s.sup.hswMain.mode = false) ∧
      (∃ (s : State), s.sup.main.st = .retrying ∧ s.sup.main.attempt = false ∧ s.sup.main.qual = false) ∧ (∃ (s :
      State), s.sup.bkup.st = .retrying ∧ s.sup.bkup.attempt = false ∧ s.sup.bkup.qual = true ∧ s.sup.active = .main)
      ∧ (∃ (s : State), s.sup.cascRetry = true ∧ s.sup.active ≠ .none) ∧ (∃ (s : State), s.sup.main.attempt = true ∧
      s.sup.main.qual = true ∧ s.sup.retry.count = 0) ∧ (∃ (s : State), s.sup.bkup.attempt = true ∧ s.sup.retry.count
      ≠ 0 ∧ s.sup.retry.count.toNat ≤ (satInc s.sup.bkup.tries).toNat) ∧ (∃ (s : State), s.sup.main.attempt = false) ∧
      (∃ (w : Word) (s : State), getBit w 16 = true ∧ getBit w 17 = false ∧ s.sup.main.latch = true) ∧ (∃ (w : Word)
      (s : State), getBit w 16 = false ∧ getBit w 17 = true ∧ s.sup.bkup.latch = true) ∧ (∃ (w : Word), getBit w 16 =
      false ∧ getBit w 17 = false) :=
  ⟨⟨{ State.reset with sup.main.qual := true, sup.main.st := .connecting, sup.main.gate := true }, by decide⟩,
   ⟨{ State.reset with sup.bkup.qual := true, sup.bkup.st := .connecting, sup.bkup.gate := true }, by decide⟩,
   ⟨.backup, State.reset, by decide⟩,
   ⟨{ State.reset with sup.main.qual := true, sup.main.st := .connecting, sup.main.precharge := true }, by decide⟩,
   ⟨{ State.reset with sup.main.qual := true, sup.main.st := .retrying, sup.main.precharge := true, sup.main.attempt := true, sup.retry.count := 1 },
     by decide⟩,
   ⟨{ State.reset with sup.main.qual := true, sup.main.st := .connecting, sup.main.gate := true, sup.retry.count := 0 },
     by decide⟩,
   ⟨.main, State.reset, by decide⟩,
   ⟨{ State.reset with sup.main.qual := true, sup.main.st := .retrying }, by decide⟩,
   ⟨{ State.reset with sup.main.st := .retrying }, by decide⟩,
   ⟨{ State.reset with sup.bkup.qual := true, sup.bkup.st := .retrying, sup.active := .main }, by decide⟩,
   ⟨{ State.reset with sup.cascRetry := true, sup.active := .main }, by decide⟩,
   ⟨{ State.reset with sup.main.qual := true, sup.main.st := .retrying, sup.main.attempt := true, sup.main.tries := 255, sup.retry.count := 0 },
     by decide⟩,
   ⟨{ State.reset with sup.bkup.qual := true, sup.bkup.st := .retrying, sup.bkup.attempt := true, sup.bkup.tries := 2, sup.retry.count := 3 },
     by decide⟩,
   ⟨State.reset, by decide⟩,
   ⟨0x10000, { State.reset with sup.main.latch := true, sup.main.tries := 3, sup.main.st := .latched }, by decide⟩,
   ⟨0x20000, { State.reset with sup.bkup.latch := true, sup.bkup.tries := 3, sup.bkup.st := .latched }, by decide⟩,
   ⟨0xFFFC, by decide⟩⟩

/-- States and operands that meet the hypotheses of each clause of `Obligations.VmaxAndEmergency`. -/
theorem test_meets_VmaxAndEmergency :
    (∃ (s : State), s.sup.active = .none ∧ s.sup.etst = false) ∧ (∃ (vin : Nat) (s : State), s.sup.active ≠ .none ∧
      s.sup.etst = false ∧ s.sup.vmaxFresh = false ∧ (vmaxOf vin).toNat ≤ s.sup.maxpdo.toNat) ∧ (∃ (s : State),
      s.sup.active ≠ .none ∧ s.sup.etst = false ∧ s.sup.vmaxFresh = true) ∧ (∃ (vin : Nat) (s : State), s.sup.active ≠
      .none ∧ s.sup.etst = false ∧ s.sup.vmaxFresh = false ∧ s.sup.maxpdo.toNat < (vmaxOf vin).toNat) ∧ (∃ (s :
      State), s.sup.active = .none ∧ s.sup.etst = true) ∧ (∃ (s : State), s.sup.active ≠ .none ∧ s.sup.vmaxFresh =
      false ∧ s.sup.maxpdo.toNat < s.sup.vmaxCand.toNat) ∧ (∃ (s : State), s.sup.vmaxCand.toNat ≤ s.sup.maxpdo.toNat)
      ∧ (∃ (s : State), s.sup.emgUsed = true ∧ s.sup.emg = false ∧ s.sup.etst = false) ∧ (∃ (s : State), s.sup.emgUsed
      = true ∧ s.sup.emg = false ∧ s.sup.etst = true ∧ s.sup.main.qual = true ∧ s.sup.active = .backup) ∧ (∃ (s :
      State), (s.sup.emgUsed = false ∨ s.sup.emg = true)) ∧ (∃ (s : State), s.sup.emg = true) ∧ (∃ (s : State),
      s.sup.emg = false) ∧ (∃ (kind : BitVec 2) (s : State), etestRefused kind s = false) ∧ (∃ (kind : BitVec 2) (s :
      State), etestRefused kind s = true) ∧ (∃ (s : State), s.sup.etst = true ∧ s.sup.main.qual = true ∧ s.sup.active
      = .backup ∧ s.sup.hswMain.mode = false) ∧ (∃ (s : State), s.sup.etst = false) ∧ (∃ (s : State), s.sup.etst =
      true ∧ s.sup.main.qual = true ∧ s.sup.active = .backup) ∧ (∃ (s : State), s.sup.etst = false) :=
  ⟨⟨State.reset, by decide⟩,
   ⟨40000, { State.reset with sup.active := .main, sup.maxpdo := 440 }, by decide⟩,
   ⟨{ State.reset with sup.active := .main, sup.vmaxFresh := true }, by decide⟩,
   ⟨48000, { State.reset with sup.active := .main, sup.maxpdo := 400, sup.vmaxCand := 480 }, by decide⟩,
   ⟨{ State.reset with sup.etst := true, sup.etres.vmin := 500 }, by decide⟩,
   ⟨{ State.reset with sup.active := .main, sup.maxpdo := 400, sup.vmaxCand := 480 }, by decide⟩,
   ⟨State.reset, by decide⟩,
   ⟨State.reset, by decide⟩,
   ⟨{ State.reset with sup.etst := true, sup.main.qual := true, sup.active := .backup }, by decide⟩,
   ⟨{ State.reset with sup.emgUsed := false }, by decide⟩,
   ⟨{ State.reset with sup.emg := true }, by decide⟩,
   ⟨State.reset, by decide⟩,
   ⟨1,
     { State.reset with sup.active := .main, sup.main.qual := true, sup.main.st := .connected, sup.bkup.qual := true, sup.bkup.st := .staggerOrArmed },
     by decide⟩,
   ⟨3,
     { State.reset with sup.active := .main, sup.main.qual := true, sup.main.st := .connected, sup.bkup.qual := true, sup.bkup.st := .staggerOrArmed },
     by decide⟩,
   ⟨{ State.reset with sup.etst := true, sup.main.qual := true, sup.active := .backup }, by decide⟩,
   ⟨{ State.reset with sup.etest.kind := 3, sup.etest.durMin := 0xFFFF }, by decide⟩,
   ⟨{ State.reset with sup.etst := true, sup.etestDur := true, sup.main.qual := true, sup.active := .backup, sup.thrBkup.uv := 400 },
     by decide⟩,
   ⟨State.reset, by decide⟩⟩

/-- States and operands that meet the hypotheses of each clause of `Obligations.ResetAndBoot`. -/
theorem test_meets_ResetAndBoot :
    (∃ (s : State), (wardenRuns s = true ∨ s.did.cond = .recovery) ∧ s.did.preReset = false ∧ s.did.cond ≠ .reset ∧
      s.did.cond ≠ .unpowered) ∧ (∃ (s : State), wardenRuns s = false ∧ s.did.cond ≠ .recovery) ∧ (∃ (s : State),
      s.did.preReset = true) ∧ (∃ (s : State), s.did.preReset = false) ∧ (∃ (s : State), s.did.cond = .reset ∧
      s.did.thermal = false) ∧ (∃ (s : State), (s.did.cond ≠ .reset ∨ s.did.thermal = true)) ∧ (∃ (s : State),
      s.did.cond = .boot ∧ s.did.preReset = false ∧ s.did.boot.stage = 1 ∧ s.otp.sensed = false) ∧ (∃ (s : State),
      s.otp.sensed = true) :=
  ⟨⟨{ st 2 (fun x => { x with pins.isog := true, pins.pwm := .sync }) with did.cond := .recovery }, by decide⟩,
   ⟨st 2 (fun x => { x with pins.isog := true }), by decide⟩,
   ⟨{ st 2 (fun x => { x with pins.isog := true }) with did.preReset := true, did.srcs.warden := true }, by decide⟩,
   ⟨State.reset, by decide⟩,
   ⟨State.reset, by decide⟩,
   ⟨{ State.reset with did.thermal := true }, by decide⟩,
   ⟨{ State.reset with did.cond := .boot, did.boot.stage := 1 }, by decide⟩,
   ⟨{ State.reset with otp.sensed := true }, by decide⟩⟩

/-- States and operands that meet the hypotheses of each clause of `Obligations.BootStages`. -/
theorem test_meets_BootStages :
    (∃ (s : State), s.did.cond = .boot ∧ s.did.preReset = false ∧ s.did.boot.stage = 1 ∧ s.otp.sensed = true) ∧ (∃ (s
      : State), s.did.boot.stage ≠ 1) ∧ (∃ (s : State), s.did.cond = .boot ∧ s.did.preReset = false ∧ s.did.boot.stage
      = 1 ∧ s.otp.sensed = true) ∧ (∃ (s : State), s.did.pllLocked = true ∧ s.did.refLost = false) ∧ (∃ (s : State),
      s.did.refLost = true) ∧ (∃ (s : State), s.did.cond = .boot ∧ s.did.preReset = false ∧ s.did.boot.stage = 2 ∧
      s.did.strap.svcEnLow = false) ∧ (∃ (s : State), s.did.cond = .boot ∧ s.did.preReset = false ∧ s.did.boot.stage =
      2 ∧ s.did.strap.svcEnLow = true) ∧ (∃ (s : State), s.did.boot.stage ≠ 2) ∧ (∃ (f : FlashInfo) (s : State),
      s.did.cond = .boot ∧ s.did.preReset = false ∧ s.did.boot.stage = 3 ∧ f.size = 0) ∧ (∃ (f : FlashInfo) (s :
      State), s.did.cond = .boot ∧ s.did.preReset = false ∧ s.did.boot.stage = 3 ∧ f.size ≠ 0 ∧ f.ptBad = false ∧
      s.did.secondBank = false) ∧ (∃ (f : FlashInfo) (s : State), s.did.cond = .boot ∧ s.did.preReset = false ∧
      s.did.boot.stage = 3 ∧ f.size ≠ 0 ∧ s.did.secondBank = true) ∧ (∃ (s : State), s.did.cond = .boot ∧
      s.did.preReset = false ∧ s.did.boot.stage = 4 ∧ s.did.secondBank = false) ∧ (∃ (s : State), s.did.cond = .boot ∧
      s.did.preReset = false ∧ s.did.boot.stage = 4 ∧ s.did.secondBank = true) ∧ (∃ (s : State), s.did.cond = .boot ∧
      s.did.boot.stage = 5 ∧ s.cyc.running = false) ∧ (∃ (s : State), (s.did.boot.stage ≠ 5 ∨ s.cyc.running = true)) ∧
      (∃ (s : State), s.did.cond = .boot ∧ s.did.preReset = false ∧ s.did.boot.stage = 6) ∧ (∃ (s : State),
      s.did.boot.stage ≠ 6) :=
  ⟨⟨{ State.reset with did.cond := .boot, did.boot.stage := 1, otp.sensed := true }, by decide⟩,
   ⟨State.reset, by decide⟩,
   ⟨{ State.reset with did.cond := .boot, did.boot.stage := 1, otp.sensed := true }, by decide⟩,
   ⟨{ State.reset with did.pllLocked := true }, by decide⟩,
   ⟨{ State.reset with did.refLost := true }, by decide⟩,
   ⟨{ State.reset with did.cond := .boot, did.boot.stage := 2 }, by decide⟩,
   ⟨{ State.reset with did.cond := .boot, did.boot.stage := 2, did.strap.svcEnLow := true }, by decide⟩,
   ⟨State.reset, by decide⟩,
   ⟨{ size := 0, ptCopy := false, ptBad := false, maxw := 5 },
     { State.reset with did.cond := .boot, did.boot.stage := 3 }, by decide⟩,
   ⟨{ size := 1, ptCopy := false, ptBad := false, maxw := 5 },
     { State.reset with did.cond := .boot, did.boot.stage := 3 }, by decide⟩,
   ⟨{ size := 1, ptCopy := false, ptBad := false, maxw := 5 },
     { State.reset with did.cond := .boot, did.boot.stage := 3, did.secondBank := true }, by decide⟩,
   ⟨{ State.reset with did.cond := .boot, did.boot.stage := 4 }, by decide⟩,
   ⟨{ State.reset with did.cond := .boot, did.boot.stage := 4, did.secondBank := true }, by decide⟩,
   ⟨{ State.reset with did.cond := .boot, did.boot.stage := 5 }, by decide⟩,
   ⟨{ State.reset with did.boot.stage := 5, did.cond := .boot, cyc.running := true }, by decide⟩,
   ⟨{ State.reset with did.cond := .boot, did.boot.stage := 6, sup.active := .main, did.inputSeen := true }, by
     decide⟩,
   ⟨State.reset, by decide⟩⟩

/-- States and operands that meet the hypotheses of each clause of `Obligations.CoresAndTemperature`. -/
theorem test_meets_CoresAndTemperature :
    (∃ (s : State), policyRuns s = true ∧ s.lcu.state ≠ 6) ∧ (∃ (s : State), wardenRuns s = true ∧ s.lcu.state ≠ 6) ∧
      (∃ (s : State), wardenRuns s = true ∧ s.lcu.state = 6) ∧ (∃ (s : State), policyRuns s = false) ∧ (∃ (s : State),
      s.did.policy.restarting = true ∧ s.did.policy.held = false ∧ s.lcu.paused = false) ∧ (∃ (s : State),
      s.did.warden.restarting = true ∧ s.did.warden.held = false ∧ s.lcu.paused = false) ∧ (∃ (s : State),
      s.did.policy.restarting = true ∧ s.did.policy.held = false ∧ s.lcu.paused = false ∧ s.did.preReset = false ∧
      s.did.cond = .operation) ∧ (∃ (s : State), s.did.warden.restarting = true ∧ s.did.warden.held = false ∧
      s.lcu.paused = false ∧ s.did.preReset = false ∧ s.did.cond = .operation) ∧ (∃ (c : CoreId) (s : State), ((coreOf
      c s).restarting = false ∨ (coreOf c s).held = true ∨ s.lcu.paused = true)) ∧ (∃ (v : BitVec 16) (s : State),
      s.did.cond = .operation ∧ s.did.twarn = false ∧ 2000 ≤ v.toInt) ∧ (∃ (v : BitVec 16) (s : State), s.did.cond =
      .operation ∧ (s.did.twarn = true ∨ v.toInt < 2000)) ∧ (∃ (v : BitVec 16) (s : State), s.did.cond = .operation ∧
      v.toInt ≤ 1840) ∧ (∃ (v : BitVec 16) (s : State), s.did.cond = .operation ∧ 1840 < v.toInt) ∧ (∃ (v : BitVec 16)
      (s : State), s.did.cond = .operation ∧ s.did.thermal = false ∧ s.did.preReset = false ∧ 2320 ≤ v.toInt) ∧ (∃ (v
      : BitVec 16) (s : State), s.did.cond = .operation ∧ v.toInt < 2320) ∧ (∃ (v : BitVec 16) (s : State), s.did.cond
      = .reset ∧ v.toInt < 1760) ∧ (∃ (v : BitVec 16) (s : State), s.did.cond = .reset ∧ 1760 ≤ v.toInt) ∧ (∃ (s :
      State), s.did.hkLow = false ∧ s.did.cond ≠ .reset ∧ s.did.cond ≠ .unpowered) ∧ (∃ (s : State), s.did.hkLow =
      true) :=
  ⟨⟨{ State.reset with did.policy.started := true }, by decide⟩,
   ⟨{ State.reset with did.warden.started := true }, by decide⟩,
   ⟨{ State.reset with did.warden.started := true, lcu.state := 6 }, by decide⟩,
   ⟨State.reset, by decide⟩,
   ⟨{ State.reset with did.policy.started := true, did.policy.restarting := true }, by decide⟩,
   ⟨{ State.reset with did.warden.started := true, did.warden.restarting := true }, by decide⟩,
   ⟨{ State.reset with did.policy.restarting := true, did.cond := .operation }, by decide⟩,
   ⟨{ State.reset with did.warden.restarting := true, did.cond := .operation }, by decide⟩,
   ⟨.warden, State.reset, by decide⟩,
   ⟨2000, { State.reset with did.cond := .operation }, by decide⟩,
   ⟨1999, { State.reset with did.cond := .operation }, by decide⟩,
   ⟨1840, { State.reset with did.cond := .operation, did.twarn := true }, by decide⟩,
   ⟨1841, { State.reset with did.cond := .operation, did.twarn := true }, by decide⟩,
   ⟨2320, { st 3 (fun x => { x with pins.isog := true, pins.pwm := .sync }) with did.cond := .operation }, by decide⟩,
   ⟨2319, { State.reset with did.cond := .operation }, by decide⟩,
   ⟨1759, { State.reset with did.thermal := true }, by decide⟩,
   ⟨1760, { State.reset with did.thermal := true }, by decide⟩,
   ⟨{ State.reset with did.cond := .boot }, by decide⟩,
   ⟨{ State.reset with did.hkLow := true }, by decide⟩⟩

/-- States and operands that meet the hypotheses of each clause of `Obligations.SourceAttach`. -/
theorem test_meets_SourceAttach :
    (∃ (p : Port) (s : State), s.did.released = true ∧ (s.slice p).att.attstat.state = 1 ∧ (s.slice
      p).att.attstat.vconnOn = false) ∧ (∃ (p : Port) (s : State), s.did.released = true ∧ (s.slice
      p).att.attstat.state = 2 ∧ (s.slice p).att.c1 ≠ .rd ∧ (s.slice p).att.c2 ≠ .rd) ∧ (∃ (p : Port) (s : State),
      s.did.released = true ∧ ((s.slice p).att.attstat.state = 3 ∨ (s.slice p).att.attstat.state = 12)) ∧ (∃ (p :
      Port) (s : State), s.did.released = true ∧ (s.slice p).att.attstat.state = 2 ∧ (s.slice p).att.c1 = .rd ∧
      (s.slice p).att.c2 = .openBall ∧ (s.slice p).att.attcfg.role = 1 ∧ (s.slice p).att.attstat.vbusSafe0 = false) ∧
      (∃ (p : Port) (s : State), s.did.released = true ∧ (s.slice p).att.attstat.state = 2 ∧ (s.slice p).att.c1 = .rd
      ∧ (s.slice p).att.c2 = .openBall ∧ (s.slice p).att.attcfg.role = 1 ∧ (s.slice p).att.attstat.vbusSafe0 = true) ∧
      (∃ (p : Port) (s : State), s.did.released = true ∧ (s.slice p).att.attstat.state = 1 ∧ (s.slice p).att.c1 = .ra
      ∧ (s.slice p).att.c2 = .ra) ∧ (∃ (p : Port) (s : State), s.did.released = true ∧ (s.slice p).att.attstat.state =
      2 ∧ (s.slice p).att.c1 = .openBall ∧ (s.slice p).att.c2 = .rd ∧ (s.slice p).att.attcfg.role = 1 ∧ (s.slice
      p).att.rpHeld = true ∧ (s.slice p).att.attstat.vbusSafe0 = true) ∧ (∃ (p : Port) (s : State), s.did.released =
      true ∧ (s.slice p).att.attstat.state = 2 ∧ (s.slice p).att.attstat.vbusSafe0 = false) :=
  ⟨⟨3, st 3 (fun x => { x with att.attstat.state := 1, att.attstat.rpNow := 1 }), by decide⟩,
   ⟨1, st 1 (fun x => { x with att.attstat.state := 2, att.attcfg.role := 2 }), by decide⟩,
   ⟨23, st 23 (fun x => { x with att.attstat.state := 12 }), by decide⟩,
   ⟨4, st 4 (fun x => { x with att.attstat.state := 2, att.attstat.vbusSafe0 := false, att.c1 := .rd }), by decide⟩,
   ⟨4, st 4 (fun x => { x with att.attstat.state := 2, att.attstat.vbusSafe0 := true, att.c1 := .rd }), by decide⟩,
   ⟨4, st 4 (fun x => { x with att.attstat.state := 1, att.c1 := .ra, att.c2 := .ra }), by decide⟩,
   ⟨4, st 4 (fun x =>
     { x with att.attstat.state := 2, att.attstat.vbusSafe0 := true, att.c2 := .rd, att.rpHeld := true }), by decide⟩,
   ⟨4, st 4 (fun x => { x with att.attstat.state := 2, att.attstat.vbusSafe0 := false }), by decide⟩⟩

/-- States and operands that meet the hypotheses of each clause of `Obligations.SinkAttach`. -/
theorem test_meets_SinkAttach :
    (∃ (p : Port) (s : State), s.did.released = true ∧ (s.slice p).att.attcfg.role = 2 ∧ (s.slice p).att.attstat.state
      = 1) ∧ (∃ (p : Port) (s : State), s.did.released = true ∧ (s.slice p).att.attcfg.role = 2 ∧ (s.slice
      p).att.attstat.state = 4 ∧ s.sup.active ≠ .none) ∧ (∃ (p : Port) (s : State), (s.slice p).att.attcfg.role = 2 ∧
      (s.slice p).att.attstat.state = 4 ∧ s.sup.active = .none) ∧ (∃ (p : Port) (s : State), (s.slice
      p).att.attcfg.role ≠ 2) ∧ (∃ (p : Port) (s : State), s.did.released = true ∧ (s.slice p).att.attstat.state = 7)
      ∧ (∃ (p : Port) (s : State), s.did.released = true ∧ (s.slice p).att.attstat.state = 9 ∧ (s.slice p).att.rpHeld
      = false) ∧ (∃ (p : Port) (s : State), s.did.released = true ∧ (s.slice p).att.attstat.state = 9) ∧ (∃ (p : Port)
      (s : State), (s.slice p).att.attstat.state ≠ 9) ∧ (∃ (p : Port) (s : State), s.did.released = true ∧ (s.slice
      p).att.attstat.state = 5 ∧ (s.slice p).att.rp1 ≠ 0 ∧ (s.slice p).att.rp2 = 0 ∧ (s.slice p).att.attcfg.trySel ≠ 1
      ∧ (s.slice p).att.attstat.vbusPres = true) ∧ (∃ (p : Port) (s : State), s.did.released = true ∧ (s.slice
      p).att.attstat.state = 6 ∧ (s.slice p).pd.hrPhase = .idle ∧ (s.slice p).sw.swstat.swap = 0) ∧ (∃ (p : Port) (s :
      State), (s.slice p).att.attstat.state = 6 ∧ (s.slice p).sw.swstat.swap = 1) ∧ (∃ (p : Port) (mv : Nat) (s :
      State), s.did.released = true ∧ (s.slice p).att.rpHeld = false ∧ (s.slice p).sw.step = .idle ∧ (s.slice
      p).pd.hrPhase = .idle ∧ (mv < 4750 ∨ 5500 < mv)) :=
  ⟨⟨0, st 0 (fun x => { x with att.attstat.state := 1, att.attcfg.role := 2 }), by decide⟩,
   ⟨0, { st 0 (fun x => { x with att.attstat.state := 4, att.attcfg.role := 2 }) with sup.active := .main }, by
     decide⟩,
   ⟨0, st 0 (fun x => { x with att.attstat.state := 4, att.attcfg.role := 2 }), by decide⟩,
   ⟨0, st 0 (fun x => { x with att.attstat.state := 4, att.attcfg.role := 1 }), by decide⟩,
   ⟨1, st 1 (fun x => { x with att.attstat.state := 7 }), by decide⟩,
   ⟨1, st 1 (fun x => { x with att.attstat.state := 9 }), by decide⟩,
   ⟨1, st 1 (fun x => { x with att.attstat.state := 9 }), by decide⟩,
   ⟨1, st 1 (fun x => { x with att.attstat.state := 10 }), by decide⟩,
   ⟨0, st 0 (fun x => { x with att.attstat.state := 5, att.rp1 := 3, att.attstat.vbusPres := true }), by decide⟩,
   ⟨0, st 0 (fun x => { x with att.attstat.state := 6, sw.swstat.prole := true, pins.snkg := true }), by decide⟩,
   ⟨0, st 0 (fun x => { x with att.attstat.state := 6, sw.swstat.swap := 1 }), by decide⟩,
   ⟨9, 4749, st 9 (fun x => x), by decide⟩⟩

/-- States and operands that meet the hypotheses of each clause of `Obligations.DetachAndVconn`. -/
theorem test_meets_DetachAndVconn :
    (∃ (p : Port) (s : State), s.did.released = true ∧ (s.slice p).att.attstat.state = 3 ∧ (s.slice p).att.detaching =
      false ∧ (s.slice p).pins.term = .rp) ∧ (∃ (p : Port) (s : State), s.did.released = true ∧ (s.slice
      p).att.detaching = true ∧ (s.slice p).sw.step ≠ .srcRamp) ∧ (∃ (p : Port) (s : State), s.did.released = true ∧
      (s.slice p).att.detaching = true ∧ (s.slice p).ps.psstat.cstate = 6 ∧ (s.slice p).pins.isog = true ∧ (s.slice
      p).att.attstat.vbusSafe0 = false) ∧ (∃ (p : Port) (s : State), s.did.released = true ∧ (s.slice p).att.detaching
      = true ∧ (s.slice p).att.attstat.vbusSafe0 = true ∧ (s.slice p).pins.isog = false ∧ (s.slice p).ps.psstat.cstate
      = 0) ∧ (∃ (p : Port) (s : State), s.did.released = true ∧ (s.slice p).att.detaching = false) ∧ (∃ (p : Port) (s
      : State), s.did.released = true ∧ (s.slice p).att.attstat.vconnOn = true ∧ (s.slice p).pd.capsSent = false) ∧ (∃
      (p : Port) (s : State), s.did.released = true ∧ (s.slice p).att.attstat.state ≠ 0 ∧ (s.slice
      p).att.attstat.state ≠ 15) ∧ (∃ (p : Port) (s : State), s.did.released = true ∧ (s.slice p).att.attstat.state =
      14) ∧ (∃ (p : Port) (s : State), (∀ q, (s.slice q).pd.capsSent = false) ∧ (s.slice p).att.attstat.vconnOn =
      true) ∧ (∃ (p : Port) (s : State), (∀ q, (s.slice q).pd.capsSent = false) ∧ (s.slice p).att.vconnLow = true ∧
      (s.slice p).att.attcfg.vcls = 1 ∧ (s.slice p).att.attstat.vconnFlt = false) :=
  ⟨⟨5, st 5 (fun x => { x with att.attstat.state := 3, pins.term := .rp }), by decide⟩,
   ⟨5, st 5 (fun x => { x with att.detaching := true, pins.isog := true }), by decide⟩,
   ⟨5, st 5 (fun x =>
     { x with att.detaching := true, att.attstat.vbusSafe0 := false, pins.isog := true, ps.psstat.cstate := 6 }), by
     decide⟩,
   ⟨5, st 5 (fun x => { x with att.detaching := true, att.attstat.vbusSafe0 := true, pins.vconnPull := true }), by
     decide⟩,
   ⟨5, st 5 (fun x => { x with pins.vconnPull := true }), by decide⟩,
   ⟨5, st 5 (fun x => { x with att.attstat.vconnOn := true, pd.discovering := true }), by decide⟩,
   ⟨5, st 5 (fun x => { x with att.attstat.state := 6 }), by decide⟩,
   ⟨5, st 5 (fun x => { x with att.attstat.state := 14 }), by decide⟩,
   ⟨5, st 5 (fun x => { x with att.attstat.vconnOn := true }), by decide⟩,
   ⟨5, st 5 (fun x => { x with att.attcfg.vcls := 1, att.vconnLow := true }), by decide⟩⟩

/-- States and operands that meet the hypotheses of each clause of `Obligations.Reception`. -/
theorem test_meets_Reception :
    (∃ (f : Frame) (s : State), s.did.released = true ∧ f.crcOk = false) ∧ (∃ (p : Port) (f : Frame) (s : State),
      f.crcOk = true ∧ ctxActive (s.slice p) f.ctx = false) ∧ (∃ (p : Port) (f : Frame) (s : State), s.did.released =
      true ∧ f.crcOk = true ∧ ctxActive (s.slice p) f.ctx = true ∧ (s.slice p).pd.rxId.get f.ctx = some f.msgId ∧
      f.kind ≠ .softReset) ∧ (∃ (p : Port) (f : Frame) (s : State), s.did.released = true ∧ 2 ≤ p.val ∧ f.crcOk = true
      ∧ f.ctx = .sop ∧ f.kind = .getStatus ∧ f.rolesOk = true ∧ f.extended = false ∧ f.rev2 = false ∧ sopActive
      (s.slice p) = true ∧ rev2 (s.slice p) .sop = false ∧ (s.slice p).pd.rxId.sop ≠ some f.msgId ∧ (s.slice
      p).pd.waitReply = none ∧ (s.slice p).mb.hostAms = none ∧ (s.slice p).mb.copyOn = false) ∧ (∃ (p : Port) (s :
      State), (s.slice p).pd.inflight = none) ∧ (∃ (p : Port) (m : TxMsg) (s : State), s.did.released = true ∧
      (s.slice p).pd.inflight = some m) ∧ (∃ (p : Port) (m : TxMsg) (s : State), s.did.released = true ∧ 2 ≤ p.val ∧
      (s.slice p).pd.inflight = some m ∧ m.prio = .reply ∧ m.why = .plain ∧ expectsReply m.kind = false ∧ (s.slice
      p).pd.ready = [] ∧ (s.slice p).pd.restart = []) :=
  ⟨⟨{ ctx := .sop, kind := .ping, msgId := 0, rev2 := false, extended := false, unchunked := false, rolesOk := true, arg := 0, crcOk := false, len := 2, words := [] },
     st 2 (fun x => { x with pd.pdcnt.crcerr := 0xFFFF }), by decide⟩,
   ⟨2,
     { ctx := .sop2, kind := .ping, msgId := 0, rev2 := false, extended := false, unchunked := false, rolesOk := true, arg := 0, crcOk := true, len := 2, words := [] },
     st 2 (fun x => x), by decide⟩,
   ⟨2,
     { ctx := .sop, kind := .ping, msgId := 7, rev2 := false, extended := false, unchunked := false, rolesOk := true, arg := 0, crcOk := true, len := 2, words := [] },
     st 2 (fun x => { x with att.attstat.state := 3, pins.isog := true, pd.rxId.sop := some 7 }), by decide⟩,
   ⟨2,
     { ctx := .sop, kind := .getStatus, msgId := 7, rev2 := false, extended := false, unchunked := false, rolesOk := true, arg := 0, crcOk := true, len := 2, words := [] },
     st 2 (fun x => { x with att.attstat.state := 3, pins.isog := true, pd.rxId.sop := some 6, pd.hrSent := 1 }), by
     decide⟩,
   ⟨2, st 2 (fun x => x), by decide⟩,
   ⟨2, { ctx := .sop, kind := .status, prio := .reply }, st 2 (fun x =>
     { x with pd.inflight := some { ctx := .sop, kind := .status, prio := .reply } }), by decide⟩,
   ⟨2, { ctx := .sop, kind := .status, prio := .reply }, st 2 (fun x =>
     { x with pd.inflight := some { ctx := .sop, kind := .status, prio := .reply }, pd.txId.sop := 7, pd.partnerAms := true }),
     by decide⟩⟩

/-- States and operands that meet the hypotheses of each clause of `Obligations.FailuresAndTimers`. -/
theorem test_meets_FailuresAndTimers :
    (∃ (p : Port) (m : TxMsg) (s : State), s.did.released = true ∧ (s.slice p).pd.inflight = some m ∧ (s.slice
      p).pd.retries < nRetryCount (s.slice p) m.ctx) ∧ (∃ (p : Port) (m : TxMsg) (s : State), s.did.released = true ∧
      (s.slice p).pd.inflight = some m ∧ nRetryCount (s.slice p) m.ctx ≤ (s.slice p).pd.retries ∧ m.prio = .mailbox ∧
      (s.slice p).pd.ready = []) ∧ (∃ (p : Port) (m : TxMsg) (s : State), s.did.released = true ∧ (s.slice
      p).pd.inflight = some m ∧ nRetryCount (s.slice p) m.ctx ≤ (s.slice p).pd.retries ∧ m.prio = .reply ∧ m.why =
      .plain ∧ m.ctx = .sop ∧ m.kind ≠ .softReset ∧ powerTransition (s.slice p) = false) ∧ (∃ (p : Port) (m : TxMsg)
      (s : State), s.did.released = true ∧ (s.slice p).pd.waitReply = some m ∧ m.kind = .getStatus ∧ m.ctx = .sop ∧
      powerTransition (s.slice p) = false ∧ (s.slice p).off.eprLeaving = false) ∧ (∃ (p : Port) (m : TxMsg) (s :
      State), s.did.released = true ∧ (s.slice p).pd.waitReply = some m ∧ m.kind = .softReset ∧ m.ctx = .sop ∧
      s.sup.hold = false ∧ (s.slice p).pd.hrSent < nHardResetCount ∧ (s.slice p).sw.swstat.swap = 0) ∧ (∃ (p : Port)
      (s : State), (s.slice p).pd.hrSent = 0) ∧ (∃ (p : Port) (s : State), s.did.released = true ∧ nHardResetCount ≤
      (s.slice p).pd.hrSent ∧ (s.slice p).pd.hadContract = true) ∧ (∃ (p : Port) (s : State), s.did.released = true ∧
      nHardResetCount ≤ (s.slice p).pd.hrSent ∧ (s.slice p).pd.hadContract = false) ∧ (∃ (p : Port) (s : State),
      s.did.released = true ∧ 0 < (s.slice p).pd.hrSent ∧ (s.slice p).pd.hrSent < nHardResetCount ∧ s.sup.hold = true)
      ∧ (∃ (p : Port) (t0 : ChunkTimer) (s : State), s.did.released = true ∧ (t0 = .senderResponse ∨ t0 =
      .receiverResponse) ∧ (s.slice p).pd.chunkRx = true) ∧ (∃ (p : Port) (t0 : ChunkTimer) (m : TxMsg) (s : State),
      s.did.released = true ∧ (t0 = .senderRequest ∨ t0 = .receiverRequest) ∧ (s.slice p).pd.chunkTx = some m ∧ m.prio
      = .mailbox ∧ (s.slice p).pd.ready = []) ∧ (∃ (p : Port) (s : State), s.did.released = true ∧ 2 ≤ p.val ∧
      (s.slice p).pd.pdstat.rpCa = 2 ∧ caInUse (s.slice p) = true ∧ (s.slice p).sw.swstat.prole = false ∧ (s.slice
      p).pd.ownOpen = true) ∧ (∃ (p : Port) (s : State), (s.slice p).pd.pdstat.rpCa ≠ 2) ∧ (∃ (p : Port) (s : State),
      s.did.released = true ∧ (s.slice p).pd.capsSent = true ∧ (s.slice p).pd.conSince = false ∧ (s.slice
      p).pd.waitReply = none ∧ (s.slice p).pd.inflight = none ∧ (s.slice p).pd.ready = [] ∧ (s.slice p).pd.restart =
      [] ∧ (s.slice p).off.xstep = .idle ∧ s.sup.hold = false ∧ (s.slice p).sw.swstat.prole = false ∧ (s.slice
      p).sw.swstat.swap = 0 ∧ sopActive (s.slice p) = true ∧ (s.slice p).pd.pdstat.pdConn = false ∧ rev2 (s.slice p)
      .sop = false ∧ (s.slice p).pd.ownOpen = false ∧ (s.slice p).pd.partnerAms = false ∧ (s.slice p).mb.hostAms =
      none) :=
  ⟨⟨2, { ctx := .sop, kind := .status, prio := .reply }, st 2 (fun x =>
     { x with pd.inflight := some { ctx := .sop, kind := .status, prio := .reply }, pd.retries := 1 }), by decide⟩,
   ⟨2, { ctx := .sop, kind := .getStatus, prio := .mailbox }, st 2 (fun x =>
     { x with pd.inflight := some { ctx := .sop, kind := .getStatus, prio := .mailbox }, pd.retries := 2 }), by
     decide⟩,
   ⟨2, { ctx := .sop, kind := .status, prio := .reply }, st 2 (fun x =>
     { x with pd.inflight := some { ctx := .sop, kind := .status, prio := .reply }, pd.retries := 2, pd.txId.sop := 3 }),
     by decide⟩,
   ⟨2, { ctx := .sop, kind := .getStatus, prio := .ams }, st 2 (fun x =>
     { x with pd.waitReply := some { ctx := .sop, kind := .getStatus, prio := .ams }, pd.txId.sop := 3 }), by decide⟩,
   ⟨2, { ctx := .sop, kind := .softReset, prio := .ams }, st 2 (fun x =>
     { x with pd.waitReply := some { ctx := .sop, kind := .softReset, prio := .ams }, pd.hrSent := 1 }), by decide⟩,
   ⟨2, st 2 (fun x => x), by decide⟩,
   ⟨2, st 2 (fun x => { x with pd.hrSent := 2, pd.hadContract := true }), by decide⟩,
   ⟨2, st 2 (fun x => { x with pd.hrSent := 2 }), by decide⟩,
   ⟨2, { st 2 (fun x => { x with pd.hrSent := 1 }) with sup.hold := true }, by decide⟩,
   ⟨2, .receiverResponse, st 2 (fun x => { x with pd.chunkRx := true }), by decide⟩,
   ⟨2, .receiverRequest, { ctx := .sop, kind := .securityRequest, prio := .mailbox }, st 2 (fun x =>
     { x with pd.chunkTx := some { ctx := .sop, kind := .securityRequest, prio := .mailbox } }), by decide⟩,
   ⟨2, st 2 (fun x =>
     { x with pd.pdstat.rpCa := 2, pd.pdstat.pdConn := true, pd.pdstat.revSop := 2, pd.ownOpen := true }), by decide⟩,
   ⟨2, st 2 (fun x => x), by decide⟩,
   ⟨2, st 2 (fun x => { x with att.attstat.state := 3, pins.isog := true, pd.capsSent := true }), by decide⟩⟩

/-- States and operands that meet the hypotheses of each clause of `Obligations.ResetsOfTheEngine`. -/
theorem test_meets_ResetsOfTheEngine :
    (∃ (p : Port) (s : State), s.did.released = true ∧ sopActive (s.slice p) = true ∧ (s.slice p).pd.ready = [] ∧
      (s.slice p).pd.inflight = none) ∧ (∃ (p : Port) (c : Ctx) (s : State), ctxActive (s.slice p) c = false) ∧ (∃ (p
      : Port) (s : State), s.did.released = true ∧ takesHardReset (s.slice p) = true ∧ s.sup.hold = false) ∧ (∃ (p :
      Port) (s : State), s.did.released = true ∧ takesHardReset (s.slice p) = true ∧ s.sup.hold = true) ∧ (∃ (p :
      Port) (s : State), takesHardReset (s.slice p) = false) ∧ (∃ (p : Port) (s : State), s.did.released = true ∧
      (s.slice p).pd.hrPhase = .waitPs ∧ (s.slice p).sw.swstat.prole = true) ∧ (∃ (p : Port) (s : State),
      s.did.released = true ∧ (s.slice p).pd.hrPhase = .waitPs ∧ (s.slice p).sw.swstat.prole = false ∧ (s.slice
      p).ps.psstat.cstate = 4 ∧ (s.slice p).pins.isog = true) ∧ (∃ (p : Port) (s : State), s.did.released = true ∧
      (s.slice p).pd.hrPhase = .recover ∧ (s.slice p).sw.swstat.prole = false ∧ (s.slice p).pr.prstat.pstate = 0 ∧
      s.sup.active = .none) ∧ (∃ (p : Port) (s : State), s.did.released = true ∧ (s.slice p).pd.hrPhase = .recover ∧
      (s.slice p).sw.swstat.prole = false ∧ (s.slice p).pr.prstat.pstate = 0 ∧ s.sup.active ≠ .none ∧ (s.slice
      p).gr.none = false ∧ s.sup.hold = false ∧ (s.slice p).pr.bad = 0) ∧ (∃ (p : Port) (s : State), s.did.released =
      true ∧ sopActive (s.slice p) = true) ∧ (∃ (mode : BitVec 4), mode ≠ 0) ∧ (∃ (s : State), s.did.released = true) :=
  ⟨⟨2, st 2 (fun x => { x with att.attstat.state := 3, pins.isog := true, pd.txId.sop := 5 }), by decide⟩,
   ⟨2, .sop1, st 2 (fun x => x), by decide⟩,
   ⟨2, st 2 (fun x => { x with att.attstat.state := 3, pr.prstat.pstate := 2 }), by decide⟩,
   ⟨2, { st 2 (fun x => { x with att.attstat.state := 6 }) with sup.hold := true }, by decide⟩,
   ⟨2, st 2 (fun x => { x with att.attstat.state := 3, pr.prstat.pstate := 3 }), by decide⟩,
   ⟨1, st 1 (fun x => { x with pd.hrPhase := .waitPs, sw.swstat.prole := true, pins.isog := true }), by decide⟩,
   ⟨1, st 1 (fun x => { x with pd.hrPhase := .waitPs, ps.psstat.cstate := 4, pins.isog := true }), by decide⟩,
   ⟨1, st 1 (fun x => { x with pd.hrPhase := .recover }), by decide⟩,
   ⟨1,
     { st 1 (fun x => { x with pd.hrPhase := .recover, gr.grant.pwr := 5, gr.cap := 255 }) with sup.active := .backup },
     by decide⟩,
   ⟨2, st 2 (fun x => { x with att.attstat.state := 3, pins.isog := true }), by decide⟩,
   ⟨1, by decide⟩,
   ⟨st 2 (fun x => { x with pd.bistCarrier := true }), by decide⟩⟩

/-- States and operands that meet the hypotheses of each clause of `Obligations.CableDiscovery`. -/
theorem test_meets_CableDiscovery :
    (∃ (p : Port) (a : CableAnswer) (s : State), s.did.released = true ∧ a.ctx = .sop1 ∧ (s.slice p).pd.discovering =
      true ∧ a.nak = true ∧ (s.slice p).pd.capsSent = false) ∧ (∃ (p : Port) (a : CableAnswer) (s : State),
      s.did.released = true ∧ a.ctx = .sop1 ∧ (s.slice p).pd.discovering = true ∧ a.nak = false ∧ a.active = false ∧
      (s.slice p).pd.capsSent = false) ∧ (∃ (p : Port) (s : State), s.did.released = true ∧ (s.slice p).pd.discovering
      = true ∧ nDiscoverIdentityCount ≤ (s.slice p).pd.cblStat.tries.toNat ∧ (s.slice p).pd.capsSent = false) ∧ (∃ (p
      : Port) (s : State), s.did.released = true ∧ (s.slice p).pd.discovering = true ∧ (s.slice
      p).pd.cblStat.tries.toNat < nDiscoverIdentityCount ∧ (s.slice p).pd.cblStat.tries ≠ 3 ∧ sop1Active (s.slice p) =
      true) ∧ (∃ (p : Port) (s : State), (s.slice p).pd.discovering = false) ∧ (∃ (p : Port) (s : State),
      s.did.released = true ∧ sopActive (s.slice p) = true ∧ (s.slice p).pd.pdstat.pdSilent = false ∧ (s.slice
      p).pd.ready = [] ∧ (s.slice p).pd.inflight = none) :=
  ⟨⟨2,
     { ctx := .sop1, nak := true, rev2 := false, vdo1 := 0, vdo2 := 0, vid := 0, pid := 0, active := false, ilim := 0, vmax := 0, epr := false, sop2 := false },
     st 2 (fun x => { x with pd.discovering := true }), by decide⟩,
   ⟨2,
     { ctx := .sop1, nak := false, rev2 := false, vdo1 := 7, vdo2 := 0, vid := 1, pid := 2, active := false, ilim := 2, vmax := 3, epr := true, sop2 := false },
     st 2 (fun x => { x with pd.discovering := true }), by decide⟩,
   ⟨2, st 2 (fun x => { x with pd.discovering := true, pd.cblStat.tries := 20 }), by decide⟩,
   ⟨2, st 2 (fun x =>
     { x with pd.discovering := true, pd.cblStat.tries := 19, pd.pdstat.vcsrc := true, att.attstat.vconnOn := true, att.attstat.state := 3, pins.isog := true }),
     by decide⟩,
   ⟨2, st 2 (fun x => x), by decide⟩,
   ⟨2, st 2 (fun x => { x with att.attstat.state := 3, pins.isog := true }), by decide⟩⟩

/-- States and operands that meet the hypotheses of each clause of `Obligations.Answers`. -/
theorem test_meets_Answers :
    (∃ (p : Port) (s : State), s.did.released = true ∧ sopActive (s.slice p) = true ∧ (s.slice p).pd.pdstat.pdSilent =
      false ∧ rev2 (s.slice p) .sop = false ∧ (s.slice p).pd.ready = [] ∧ (s.slice p).pd.inflight = none) ∧ (∃ (p :
      Port) (s : State), s.did.released = true ∧ sopActive (s.slice p) = true ∧ (s.slice p).pd.pdstat.pdSilent = false
      ∧ rev2 (s.slice p) .sop = false ∧ (s.slice p).pd.ready = [] ∧ (s.slice p).pd.inflight = none) ∧ (∃ (p : Port) (s
      : State), s.did.released = true ∧ sopActive (s.slice p) = true ∧ (s.slice p).pd.pdstat.pdSilent = false ∧ rev2
      (s.slice p) .sop = false ∧ (s.slice p).pd.ready = [] ∧ (s.slice p).pd.inflight = none) ∧ (∃ (p : Port) (s :
      State), s.did.released = true ∧ sopActive (s.slice p) = true ∧ rev2 (s.slice p) .sop = true) ∧ (∃ (p : Port) (s
      : State), s.did.released = true ∧ sopActive (s.slice p) = true ∧ (s.slice p).pd.pdstat.pdSilent = false ∧ rev2
      (s.slice p) .sop = false ∧ (s.slice p).pd.ready = [] ∧ (s.slice p).pd.inflight = none ∧ (s.slice
      p).off.contract.epr = true) ∧ (∃ (p : Port) (s : State), (s.slice p).off.contract.epr = false) ∧ (∃ (p : Port)
      (s : State), s.did.released = true ∧ sopActive (s.slice p) = true ∧ (s.slice p).pd.pdstat.pdSilent = false ∧
      rev2 (s.slice p) .sop = false ∧ (s.slice p).pd.inflight.isSome = true) ∧ (∃ (p : Port) (s : State),
      s.did.released = true ∧ sopActive (s.slice p) = true ∧ rev2 (s.slice p) .sop = false ∧ s.sup.hold = true) ∧ (∃
      (p : Port) (s : State), s.did.released = true ∧ sopActive (s.slice p) = true ∧ (s.slice p).pd.pdstat.pdSilent =
      false ∧ rev2 (s.slice p) .sop = false ∧ s.sup.hold = false ∧ (s.slice p).pd.ready = [] ∧ (s.slice p).pd.inflight
      = none) :=
  ⟨⟨2, st 2 (fun x => { x with att.attstat.state := 3, pins.isog := true }), by decide⟩,
   ⟨2, st 2 (fun x => { x with att.attstat.state := 3, pins.isog := true }), by decide⟩,
   ⟨2, st 2 (fun x => { x with att.attstat.state := 3, pins.isog := true }), by decide⟩,
   ⟨2, st 2 (fun x => { x with att.attstat.state := 3, pins.isog := true, pd.pdcfg.maxrev := 1 }), by decide⟩,
   ⟨2, st 2 (fun x => { x with att.attstat.state := 3, pins.isog := true, off.contract.epr := true }), by decide⟩,
   ⟨2, st 2 (fun x => x), by decide⟩,
   ⟨2, st 2 (fun x =>
     { x with att.attstat.state := 3, pins.isog := true, pd.inflight := some { ctx := .sop, kind := .status, prio := .reply } }),
     by decide⟩,
   ⟨2, { st 2 (fun x => { x with att.attstat.state := 3, pins.isog := true }) with sup.hold := true }, by decide⟩,
   ⟨2, st 2 (fun x => { x with att.attstat.state := 3, pins.isog := true }), by decide⟩⟩

/-- States and operands that meet the hypotheses of each clause of `Obligations.Mailboxes`. -/
theorem test_meets_Mailboxes :
    (∃ (p : Port) (s : State), s.did.released = true ∧ portOpen p (s.slice p) = false ∧ (s.slice p).mb.mbtxStat.state
      = 0) ∧ (∃ (p : Port) (s : State), s.did.released = true ∧ portOpen p (s.slice p) = true ∧ (s.slice
      p).mb.mbtxStat.state = 2) ∧ (∃ (p : Port) (len : BitVec 9) (c : BitVec 4) (s : State), s.did.released = true ∧
      portOpen p (s.slice p) = true ∧ (s.slice p).mb.mbtxStat.state = 0 ∧ mbCheck p
      { (s.slice p) with mb := { (s.slice p).mb with ctx := 0, len := len } } s.sup.maxpdo = .inl c) ∧ (∃ (p : Port)
      (len : BitVec 9) (m : TxMsg) (s : State), s.did.released = true ∧ portOpen p (s.slice p) = true ∧ (s.slice
      p).mb.mbtxStat.state = 0 ∧ mbCheck p { (s.slice p) with mb := { (s.slice p).mb with ctx := 0, len := len } }
      s.sup.maxpdo = .inr m ∧ (s.slice p).pd.inflight.isSome = true) ∧ (∃ (p : Port) (s : State), s.did.released =
      true ∧ portOpen p (s.slice p) = true ∧ (s.slice p).mb.mbtxStat.state = 1) ∧ (∃ (p : Port) (s : State),
      s.did.released = true ∧ portOpen p (s.slice p) = true ∧ (s.slice p).mb.mbtxStat.state = 2) ∧ (∃ (p : Port) (s :
      State), s.did.released = true ∧ portOpen p (s.slice p) = true) ∧ (∃ (p : Port) (s : State), portOpen p (s.slice
      p) = false) ∧ (∃ (p : Port) (f : Frame) (s : State), s.did.released = true ∧ (s.slice p).pd.rxBuf.sop = some f ∧
      unsupportedRow p (s.slice p) f.kind = some true ∧ portOpen p (s.slice p) = true ∧ (s.slice p).pd.pdcfg.hostrx =
      true ∧ (s.slice p).mb.rxq.length < 4) ∧ (∃ (p : Port) (f : Frame) (s : State), s.did.released = true ∧ (s.slice
      p).mb.hostOwes = some f ∧ (s.slice p).mb.mbtxStat.state = 1) ∧ (∃ (p : Port) (s : State), (s.slice
      p).mb.hostOwes = none) :=
  ⟨⟨4, st 4 (fun x => { x with pd.pdcfg.openF := true }), by decide⟩,
   ⟨3, st 3 (fun x => { x with pd.pdcfg.openF := true, mb.mbtxStat.state := 2 }), by decide⟩,
   ⟨3, 2, 2, st 3 (fun x => { x with pd.pdcfg.openF := true, mb.txData := [3] }), by decide⟩,
   ⟨3, 2, { ctx := .sop, kind := .getStatus, prio := .mailbox, why := .mailbox, words := [18] }, st 3 (fun x =>
     { x with pd.pdcfg.openF := true, mb.txData := [18], att.attstat.state := 3, pins.isog := true, pd.inflight := some { ctx := .sop, kind := .status, prio := .reply } }),
     by decide⟩,
   ⟨3, st 3 (fun x => { x with pd.pdcfg.openF := true, mb.mbtxStat.state := 1, mb.ctx := 1, mb.len := 7 }), by decide⟩,
   ⟨3, st 3 (fun x => { x with pd.pdcfg.openF := true, mb.mbtxStat.state := 2, mb.ctx := 1, mb.len := 7 }), by decide⟩,
   ⟨3, st 3 (fun x =>
     { x with pd.pdcfg.openF := true, mb.copyOn := true, mb.rxq := [{ ctx := .sop, isCopy := false, len := 2, words := [0], phase := 0, cnLo := 0 }] }),
     by decide⟩,
   ⟨4, st 4 (fun x => { x with pd.pdcfg.openF := true }), by decide⟩,
   ⟨3,
     { ctx := .sop, kind := .getBatteryCap, msgId := 0, rev2 := false, extended := true, unchunked := false, rolesOk := true, arg := 0, crcOk := true, len := 4, words := [0] },
     st 3 (fun x =>
     { x with pd.pdcfg.openF := true, pd.pdcfg.hostrx := true, pd.rxBuf.sop := some { ctx := .sop, kind := .getBatteryCap, msgId := 0, rev2 := false, extended := true, unchunked := false, rolesOk := true, arg := 0, crcOk := true, len := 4, words := [0] } }),
     by decide⟩,
   ⟨3,
     { ctx := .sop, kind := .getBatteryCap, msgId := 0, rev2 := false, extended := true, unchunked := false, rolesOk := true, arg := 0, crcOk := true, len := 4, words := [0] },
     st 3 (fun x =>
     { x with mb.mbtxStat.state := 1, mb.hostOwes := some { ctx := .sop, kind := .getBatteryCap, msgId := 0, rev2 := false, extended := true, unchunked := false, rolesOk := true, arg := 0, crcOk := true, len := 4, words := [0] } }),
     by decide⟩,
   ⟨3, st 3 (fun x => x), by decide⟩⟩

/-- States and operands that meet the hypotheses of each clause of `Obligations.Requests`. -/
theorem test_meets_Requests :
    (∃ (p : Port) (s : State), s.did.released = true ∧ (s.slice p).sw.swstat.prole = false ∧ sopActive (s.slice p) =
      true ∧ (s.slice p).pd.pdstat.pdSilent = false ∧ (s.slice p).off.xstep = .idle ∧ s.sup.hold = true ∧ (s.slice
      p).pd.ready = [] ∧ (s.slice p).pd.inflight = none) ∧ (∃ (p : Port) (r : RequestMsg) (o : Offer) (s : State),
      s.did.released = true ∧ (s.slice p).sw.swstat.prole = false ∧ sopActive (s.slice p) = true ∧ (s.slice
      p).off.xstep = .idle ∧ s.sup.hold = false ∧ (judge (Slice.requestRev r
      { (s.slice p) with off := { (s.slice p).off with rdo := r.rdo } }) (buildOffer (Slice.requestRev r
      { (s.slice p) with off := { (s.slice p).off with rdo := r.rdo } }) s.sup.maxpdo) false r).offer = some o) ∧ (∃
      (p : Port) (r : RequestMsg) (s : State), s.did.released = true ∧ (s.slice p).sw.swstat.prole = false ∧ sopActive
      (s.slice p) = true ∧ (s.slice p).pd.pdstat.pdSilent = false ∧ (s.slice p).off.xstep = .idle ∧ s.sup.hold = false
      ∧ (s.slice p).off.lastOffer.find? (fun o => o.pos = r.pos) = none ∧ (s.slice p).pd.ready = [] ∧ (s.slice
      p).pd.inflight = none) ∧ (∃ (p : Port) (s : State), s.did.released = true ∧ (s.slice p).sw.swstat.prole = false
      ∧ sopActive (s.slice p) = true ∧ (s.slice p).off.xstep = .ramping ∧ s.sup.hold = false ∧ (s.slice p).pd.hrSent <
      nHardResetCount) ∧ (∃ (p : Port) (s : State), (s.slice p).sw.swstat.prole = true) :=
  ⟨⟨2, { st 2 (fun x => { x with att.attstat.state := 3, pins.isog := true }) with sup.hold := true }, by decide⟩,
   ⟨2,
     { rdo := 9, epr := false, pos := 1, mv := 0, ma := 3000, mismatch := false, eprCap := false, unchunked := false, rev2 := false, copyOk := true },
     { pos := 1, kind := .fixed, vmin := 5000, vmax := 5000, ma := 3000 },
     { st 2 (fun x => { x with att.attstat.state := 3, pins.isog := true, gr.cap := 255, gr.grant.pwr := 2400, off.offcfg.imax := 50, off.proflim.iceil := 50, off.lastOffer := [{ pos := 1, kind := .fixed, vmin := 5000, vmax := 5000, ma := 3000 }] }) with sup.maxpdo := 480 },
     by decide⟩,
   ⟨2,
     { rdo := 9, epr := false, pos := 2, mv := 0, ma := 100, mismatch := false, eprCap := false, unchunked := false, rev2 := false, copyOk := true },
     st 2 (fun x => { x with att.attstat.state := 3, pins.isog := true }), by decide⟩,
   ⟨2, st 2 (fun x => { x with att.attstat.state := 3, pins.isog := true, off.xstep := .ramping }), by decide⟩,
   ⟨0, st 0 (fun x => { x with sw.swstat.prole := true }), by decide⟩⟩

/-- States and operands that meet the hypotheses of each clause of `Obligations.ContractChange`. -/
theorem test_meets_ContractChange :
    (∃ (p : Port) (c : NewContract) (s : State), s.did.released = true ∧ (s.slice p).sw.step = .idle ∧ atStep (s.slice
      p) .waitTransition = true ∧ (s.slice p).off.change = some c) ∧ (∃ (p : Port) (s : State), (s.slice p).sw.step =
      .idle ∧ (s.slice p).off.xheld = true) ∧ (∃ (p : Port) (s : State), s.did.released = true ∧ atStep (s.slice p)
      .ramping = true) ∧ (∃ (p : Port) (s : State), atStep (s.slice p) .ramping = false) ∧ (∃ (p : Port) (s : State),
      s.did.released = true ∧ atStep (s.slice p) .settling = true ∧ sopActive (s.slice p) = true ∧ (s.slice
      p).pd.ready = [] ∧ (s.slice p).pd.inflight = none) ∧ (∃ (p : Port) (s : State), s.did.released = true ∧
      inTransition (s.slice p) = true ∧ (s.slice p).off.xheld = false ∧ readyOnLine (s.slice p) = false ∧ s.sup.hold =
      false ∧ (s.slice p).pd.hrSent < nHardResetCount) ∧ (∃ (p : Port) (s : State), (s.slice p).off.xheld = true) ∧ (∃
      (p : Port) (s : State), s.did.released = true ∧ (s.slice p).off.xstep = .rampingBack) ∧ (∃ (p : Port) (s :
      State), (s.slice p).off.xstep ≠ .rampingBack) ∧ (∃ (p : Port) (s : State), s.did.released = true ∧ (s.slice
      p).off.xstep = .ramping ∧ readyOnLine (s.slice p) = false) ∧ (∃ (p : Port) (s : State), (s.slice p).off.xstep =
      .idle) ∧ (∃ (s : State), s.did.released = true ∧ s.sup.hold = true) ∧ (∃ (p : Port) (s : State), s.did.released
      = true ∧ s.sup.hold = false ∧ (s.slice p).sw.swstat.prole = false ∧ sopActive (s.slice p) = true ∧ rev2 (s.slice
      p) .sop = false ∧ (s.slice p).pd.ready = [] ∧ (s.slice p).pd.restart = [] ∧ (s.slice p).pd.inflight.isSome =
      true) ∧ (∃ (p : Port) (s : State), s.did.released = true ∧ (s.slice p).off.advertLater = false) :=
  ⟨⟨2, { mv := 9000, ma := 3000, pos := 2, kind := .fixed, mismatch := false, eprCap := false, unchunked := false },
     st 2 (fun x =>
     { x with off.xstep := .waitTransition, off.change := some { mv := 9000, ma := 3000, pos := 2, kind := .fixed, mismatch := false, eprCap := false, unchunked := false } }),
     by decide⟩,
   ⟨2, st 2 (fun x => { x with off.xheld := true, off.xstep := .waitTransition }), by decide⟩,
   ⟨2, st 2 (fun x => { x with off.xstep := .ramping, ps.vset := 9000 }), by decide⟩,
   ⟨2, st 2 (fun x => { x with off.xstep := .ramping, off.xheld := true }), by decide⟩,
   ⟨2, st 2 (fun x => { x with att.attstat.state := 3, pins.isog := true, off.xstep := .settling }), by decide⟩,
   ⟨2, st 2 (fun x => { x with off.xstep := .settling, pd.hrSent := 1 }), by decide⟩,
   ⟨2, st 2 (fun x => { x with off.xstep := .settling, off.xheld := true }), by decide⟩,
   ⟨2, st 2 (fun x => { x with off.xstep := .rampingBack }), by decide⟩,
   ⟨2, st 2 (fun x => { x with off.xstep := .ramping }), by decide⟩,
   ⟨2, st 2 (fun x => { x with off.xstep := .ramping, off.conMv := 9000 }), by decide⟩,
   ⟨2, st 2 (fun x => x), by decide⟩,
   ⟨{ st 2 (fun x => x) with sup.hold := true }, by decide⟩,
   ⟨2, st 2 (fun x =>
     { x with att.attstat.state := 3, pins.isog := true, pd.inflight := some { ctx := .sop, kind := .status, prio := .reply } }),
     by decide⟩,
   ⟨2, st 2 (fun x => { x with off.advertHold := true }), by decide⟩⟩

/-- States and operands that meet the hypotheses of each clause of `Obligations.EprGrantAndAlert`. -/
theorem test_meets_EprGrantAndAlert :
    (∃ (p : Port) (s : State), s.did.released = true ∧ (s.slice p).sw.swstat.prole = false ∧ sopActive (s.slice p) =
      true ∧ rev2 (s.slice p) .sop = false ∧ eprEntryReason (s.slice p) s.sup.maxpdo = 0 ∧ (s.slice p).pd.ready = [] ∧
      (s.slice p).pd.inflight = none) ∧ (∃ (p : Port) (s : State), s.did.released = true ∧ (s.slice p).sw.swstat.prole
      = false ∧ sopActive (s.slice p) = true ∧ rev2 (s.slice p) .sop = false ∧ eprEntryReason (s.slice p) s.sup.maxpdo
      ≠ 0 ∧ (s.slice p).pd.ready = [] ∧ (s.slice p).pd.inflight = none) ∧ (∃ (p : Port) (s : State), s.did.released =
      true ∧ (s.slice p).sw.swstat.prole = false ∧ sopActive (s.slice p) = true ∧ (s.slice p).off.conMv ≤ 20000) ∧ (∃
      (p : Port) (s : State), s.did.released = true ∧ (s.slice p).sw.swstat.prole = false ∧ sopActive (s.slice p) =
      true ∧ 20000 < (s.slice p).off.conMv ∧ s.sup.hold = false ∧ (s.slice p).pd.hrSent < nHardResetCount) ∧ (∃ (p :
      Port) (s : State), s.did.released = true ∧ (s.slice p).off.contract.epr = true ∧ (s.slice p).sw.swstat.prole =
      false ∧ s.sup.hold = false ∧ (s.slice p).pd.hrSent < nHardResetCount) ∧ (∃ (p : Port) (s : State), (s.slice
      p).off.contract.epr = false) ∧ (∃ (p : Port) (s : State), s.did.released = true ∧ (s.slice p).off.contract.kind
      = 2 ∧ (s.slice p).sw.swstat.prole = false ∧ (s.slice p).off.xstep = .idle ∧ s.sup.hold = false ∧ (s.slice
      p).pd.hrSent < nHardResetCount) ∧ (∃ (p : Port) (s : State), (s.slice p).off.contract.kind ≠ 2) ∧ (∃ (s :
      State), s.did.released = true) ∧ (∃ (p : Port) (mean : Nat) (s : State), s.did.released = true ∧ (s.slice
      p).off.complRun = true ∧ (s.slice p).off.complCon = false ∧ 10 * (s.slice p).gr.eff < mean) ∧ (∃ (p : Port)
      (mean : Nat) (s : State), s.did.released = true ∧ (s.slice p).off.complRun = true ∧ mean ≤ 10 * (s.slice
      p).gr.eff) ∧ (∃ (p : Port) (s : State), (s.slice p).att.attstat.state = 3 ∧ (s.slice p).att.detaching = false ∧
      (s.slice p).att.attstat.nopwr = false) :=
  ⟨⟨2,
     { st 2 (fun x => { x with att.attstat.state := 3, pins.isog := true, off.contract.kind := 1, off.contract.pos := 1, off.conEprCap := true, pd.pdstat.vcsrc := true, pd.discEnded := true, pd.cblStat := { kind := 1, ilim := 2, vmax := 3, epr := true }, gr.cap := 255, gr.grant.pwr := 2400, off.offcfg := { fix5 := true, fix28 := true, epr := true, imax := 50 }, off.proflim := { vceil := 500, iceil := 50, mask := 0x7FF } }) with sup.maxpdo := 480 },
     by decide⟩,
   ⟨2, st 2 (fun x => { x with att.attstat.state := 3, pins.isog := true }), by decide⟩,
   ⟨2, st 2 (fun x =>
     { x with att.attstat.state := 3, pins.isog := true, off.contract.epr := true, off.conMv := 20000 }), by decide⟩,
   ⟨2, st 2 (fun x =>
     { x with att.attstat.state := 3, pins.isog := true, off.contract.epr := true, off.conMv := 20001 }), by decide⟩,
   ⟨2, st 2 (fun x => { x with off.contract.epr := true }), by decide⟩,
   ⟨2, st 2 (fun x => x), by decide⟩,
   ⟨2, st 2 (fun x => { x with off.contract.kind := 2 }), by decide⟩,
   ⟨2, st 2 (fun x => { x with off.contract.kind := 3 }), by decide⟩,
   ⟨st 2 (fun x => { x with off.alertHold := true, off.alertLater := 4, off.alertBits := 1 }), by decide⟩,
   ⟨2, 1, st 2 (fun x => { x with off.complRun := true }), by decide⟩,
   ⟨2, 0, st 2 (fun x => { x with off.complRun := true }), by decide⟩,
   ⟨2, st 2 (fun x =>
     { x with att.attstat.state := 3, pins.isog := true, pins.pwm := .sync, gr.cap := 255, gr.grant.pwr := 600 }), by
     decide⟩⟩

/-- States and operands that meet the hypotheses of each clause of `Obligations.TieSink`. -/
theorem test_meets_TieSink :
    (∃ (p : Port) (s : State), s.did.released = true ∧ (s.slice p).att.attstat.state = 6 ∧ (s.slice p).sw.swstat.swap
      = 0 ∧ (s.slice p).pd.pdstat.pdSilent = false ∧ (s.slice p).sw.snkEpr = false ∧ (s.slice p).pd.ready = [] ∧
      (s.slice p).pd.inflight = none) ∧ (∃ (p : Port) (s : State), (s.slice p).att.attstat.state ≠ 6) ∧ (∃ (p : Port)
      (s : State), s.did.released = true ∧ 2 ≤ p.val ∧ sopActive (s.slice p) = true ∧ (s.slice p).pd.pdstat.pdSilent =
      false ∧ rev2 (s.slice p) .sop = false ∧ (s.slice p).pd.ready = [] ∧ (s.slice p).pd.inflight = none) ∧ (∃ (p :
      Port) (s : State), s.did.released = true ∧ p.val < 2 ∧ (s.slice p).att.attcfg.role = 2 ∧ (s.slice
      p).sw.swcfg.tie = false ∧ sopActive (s.slice p) = true ∧ (s.slice p).pd.pdstat.pdSilent = false ∧ rev2 (s.slice
      p) .sop = false ∧ (s.slice p).pd.ready = [] ∧ (s.slice p).pd.inflight = none) ∧ (∃ (p : Port) (s : State),
      s.did.released = true ∧ (s.slice p).att.attstat.state = 6 ∧ (s.slice p).sw.offered = none ∧ sopActive (s.slice
      p) = true ∧ s.sup.hold = false ∧ (s.slice p).pd.hrSent < nHardResetCount) ∧ (∃ (p : Port) (s : State),
      s.did.released = true ∧ (s.slice p).sw.snkWaitRdy = true ∧ s.sup.hold = false ∧ (s.slice p).pd.hrSent <
      nHardResetCount) ∧ (∃ (p : Port) (s : State), (s.slice p).sw.snkWaitRdy = false) ∧ (∃ (p : Port) (c :
      SourceCaps) (s : State), s.did.released = true ∧ (s.slice p).sw.snkWaitRdy = false ∧ (s.slice p).sw.offered =
      some c ∧ (s.slice p).att.attstat.state = 6 ∧ (s.slice p).sw.swstat.swap = 0) ∧ (∃ (p : Port) (s : State),
      s.did.released = true ∧ (s.slice p).sw.snkEpr = true ∧ sopActive (s.slice p) = true ∧ (s.slice
      p).pd.pdstat.pdSilent = false ∧ rev2 (s.slice p) .sop = false ∧ (s.slice p).pd.inflight.isSome = true) ∧ (∃ (p :
      Port) (s : State), s.did.released = true ∧ (s.slice p).sw.snkEntering = true ∧ (s.slice p).sw.snkEpr = false) ∧
      (∃ (p : Port) (c : SourceCaps) (s : State), s.did.released = true ∧ (s.slice p).sw.offered = some c ∧ (s.slice
      p).sw.eprPossible = false) ∧ (∃ (s : State), s.sup.active = .none ∧ (s.slice 0).sw.swstat.aid = false) ∧ (∃ (s :
      State), s.sup.active ≠ .none) :=
  ⟨⟨0, st 0 (fun x => { x with att.attstat.state := 6, sw.swstat.prole := true }), by decide⟩,
   ⟨0, st 0 (fun x => { x with att.attstat.state := 3 }), by decide⟩,
   ⟨2, st 2 (fun x => { x with att.attstat.state := 3, pins.isog := true }), by decide⟩,
   ⟨1, st 1 (fun x =>
     { x with att.attstat.state := 3, att.attcfg.role := 2, pins.isog := true, sw.swcfg.tie := false }), by decide⟩,
   ⟨1, st 1 (fun x => { x with att.attstat.state := 6 }), by decide⟩,
   ⟨1, st 1 (fun x => { x with att.attstat.state := 6, sw.snkWaitRdy := true }), by decide⟩,
   ⟨1, st 1 (fun x => { x with att.attstat.state := 6 }), by decide⟩,
   ⟨1, { epr := false, eprCap := false, unchunked := false, rev2 := false, fixed := [] }, st 1 (fun x =>
     { x with att.attstat.state := 6, sw.offered := some { epr := false, eprCap := false, unchunked := false, rev2 := false, fixed := [] } }),
     by decide⟩,
   ⟨1, st 1 (fun x =>
     { x with att.attstat.state := 6, sw.snkEpr := true, pd.inflight := some { ctx := .sop, kind := .status, prio := .reply } }),
     by decide⟩,
   ⟨1, st 1 (fun x => { x with att.attstat.state := 6, sw.snkEntering := true }), by decide⟩,
   ⟨1, { epr := false, eprCap := false, unchunked := false, rev2 := false, fixed := [] }, st 1 (fun x =>
     { x with att.attstat.state := 6, sw.offered := some { epr := false, eprCap := false, unchunked := false, rev2 := false, fixed := [] } }),
     by decide⟩,
   ⟨st 1 (fun x => x), by decide⟩,
   ⟨{ st 1 (fun x => x) with sup.active := .main }, by decide⟩⟩

/-- States and operands that meet the hypotheses of each clause of `Obligations.Converter`. -/
theorem test_meets_Converter :
    (∃ (p : Port) (s : State), s.did.released = true ∧ (s.slice p).ps.running = true) ∧ (∃ (p : Port) (s : State),
      (s.slice p).ps.running = false) ∧ (∃ (p : Port) (s : State), s.did.released = true ∧ (s.slice
      p).ps.psstat.cstate = 3 ∧ s.sup.hold = false ∧ (s.slice p).ps.swapStart = false) ∧ (∃ (p : Port) (s : State),
      s.did.released = true ∧ (s.slice p).ps.psstat.cstate = 2 ∧ s.sup.hold = false ∧ (s.slice p).ps.swapStart = true)
      ∧ (∃ (s : State), s.sup.hold = true) ∧ (∃ (p : Port) (s : State), s.did.released = true ∧ (s.slice
      p).ps.psstat.cstate = 4 ∧ (s.slice p).pins.isog = true ∧ (s.slice p).ps.psstat.fb = false) ∧ (∃ (p : Port) (s :
      State), (s.slice p).ps.psstat.fb = true) ∧ (∃ (p : Port) (s : State), s.did.released = true ∧ (s.slice
      p).off.contract.kind = 2 ∧ (s.slice p).sw.swstat.prole = false ∧ (s.slice p).off.xstep = .idle ∧ (s.slice
      p).ps.psstat.cstate = 5) ∧ (∃ (p : Port) (s : State), (s.slice p).off.contract.kind ≠ 2) :=
  ⟨⟨2, st 2 (fun x =>
     { x with ps.psstat.cstate := 5, ps.vset := 9000, ps.vref := 800000000, ps.u1 := 5000, ps.cmpb0.b0 := 100 }), by
     decide⟩,
   ⟨2, st 2 (fun x => { x with ps.psstat.cstate := 7 }), by decide⟩,
   ⟨2, st 2 (fun x => { x with ps.psstat.cstate := 3 }), by decide⟩,
   ⟨1, st 1 (fun x => { x with ps.psstat.cstate := 2, ps.swapStart := true }), by decide⟩,
   ⟨{ st 1 (fun x => { x with ps.psstat.cstate := 2 }) with sup.hold := true }, by decide⟩,
   ⟨1, st 1 (fun x => { x with ps.psstat.cstate := 4, pins.isog := true }), by decide⟩,
   ⟨1, st 1 (fun x => { x with ps.psstat.cstate := 4, ps.psstat.fb := true }), by decide⟩,
   ⟨1, st 1 (fun x =>
     { x with ps.psstat.cstate := 5, off.contract.kind := 2, off.conMv := 5000, off.conMa := 3000, ps.vset := 3310 }),
     by decide⟩,
   ⟨1, st 1 (fun x => { x with ps.psstat.cstate := 5, off.contract.kind := 1 }), by decide⟩⟩

/-- States and operands that meet the hypotheses of each clause of `Obligations.Measurement`. -/
theorem test_meets_Measurement :
    (∃ (s : State), s.did.released = true) ∧ (∃ (p : Port) (cv : BitVec 12) (ci : BitVec 12) (s : State),
      s.did.released = true ∧ 0 ≤ ci.toInt ∧ (addEnergy (s.slice p).ps.eno (s.slice p).ps.enoRes (15 * cv.toNat * (500
      * ci.toInt.natAbs) / (s.slice p).ps.rsh)).2.2 = false) ∧ (∃ (p : Port) (cv : BitVec 12) (ci : BitVec 12) (s :
      State), s.did.released = true ∧ p.val < 2 ∧ ci.toInt < 0 ∧ (addEnergy (s.slice p).ps.eni (s.slice p).ps.eniRes
      (15 * cv.toNat * (500 * ci.toInt.natAbs) / (s.slice p).ps.rsh)).2.2 = true) ∧ (∃ (p : Port) (ci : BitVec 12), 2
      ≤ p.val ∧ ci.toInt < 0) ∧ (∃ (p : Port) (half : Bool) (s : State), s.did.released = true ∧ slotMatches (s.slice
      p) (2 * s.cyc.cn.toNat + (if half then 1 else 0)) = true ∧ (s.slice p).ps.psstat.limwait = true ∧ (s.slice
      p).ps.psstat.cstate = 5) ∧ (∃ (p : Port) (half : Bool) (s : State), s.did.released = true ∧ slotMatches (s.slice
      p) (2 * s.cyc.cn.toNat + (if half then 1 else 0)) = true ∧ (s.slice p).ps.psstat.limwait = false ∧ (s.slice
      p).ps.psstat.cstate = 7 ∧ (s.slice p).gr.none = false ∧ (s.slice p).pr.prstat.pstate = 0 ∧ s.sup.hold = true) ∧
      (∃ (p : Port) (s : State), s.did.released = true ∧ (s.slice p).ps.festat.state = 2 ∧ (s.slice p).th.feAsked =
      false) ∧ (∃ (p : Port) (s : State), (s.slice p).ps.festat.state = 0) :=
  ⟨⟨st 23 (fun x => x), by decide⟩,
   ⟨23, 1000, 0x7FF, st 23 (fun x => { x with ps.enoRes := 99999999 }), by decide⟩,
   ⟨1, 1000, 0x800, st 1 (fun x => { x with ps.eniRes := 99999999, ps.eni := 0xFFFFFFFFFFFF }), by decide⟩,
   ⟨2, 0xFFF, by decide⟩,
   ⟨23, true, st 23 (fun x =>
     { x with ps.pscfg.zslot := 1, ps.psstat.limwait := true, ps.psstat.cstate := 5, off.limit := .shed }), by decide⟩,
   ⟨23, false,
     { st 23 (fun x => { x with ps.psstat.cstate := 7, ps.pscfg.zidx := 0, gr.cap := 255, gr.grant.pwr := 100 }) with sup.hold := true },
     by decide⟩,
   ⟨23, st 23 (fun x => { x with ps.festat.state := 2, ps.festat.comp := 30, ps.vset := 5300 }), by decide⟩,
   ⟨23, st 23 (fun x => x), by decide⟩⟩

/-- States and operands that meet the hypotheses of each clause of `Obligations.SwapRequests`. -/
theorem test_meets_SwapRequests :
    (∃ (p : Port) (s : State), s.did.released = true ∧ 2 ≤ p.val ∧ sopActive (s.slice p) = true ∧ (s.slice
      p).pd.pdstat.pdSilent = false ∧ rev2 (s.slice p) .sop = false ∧ (s.slice p).pd.ready = [] ∧ (s.slice
      p).pd.inflight = none) ∧ (∃ (p : Port) (s : State), s.did.released = true ∧ p.val < 2 ∧ sopActive (s.slice p) =
      true ∧ (s.slice p).pd.pdstat.pdSilent = false ∧ (s.slice p).att.attcfg.role = 2 ∧ (s.slice p).off.changing =
      false ∧ (s.slice p).sw.snkWaitRdy = false ∧ (s.slice p).sw.outstanding = none ∧ s.sup.hold = true ∧ (s.slice
      p).pd.ready = [] ∧ (s.slice p).pd.inflight = none) ∧ (∃ (p : Port) (s : State), s.did.released = true ∧ p.val <
      2 ∧ sopActive (s.slice p) = true ∧ (s.slice p).pd.pdstat.pdSilent = false ∧ (s.slice p).att.attcfg.role = 2 ∧
      (s.slice p).off.changing = false ∧ (s.slice p).sw.snkWaitRdy = false ∧ (s.slice p).sw.outstanding = none ∧
      s.sup.hold = false ∧ (s.slice p).sw.swstat.prole = false ∧ (s.slice p).sw.swcfg.prAccSrc = true ∧ (s.slice
      p).pd.ready = [] ∧ (s.slice p).pd.inflight = none) ∧ (∃ (p : Port) (s : State), s.did.released = true ∧ 2 ≤
      p.val ∧ sopActive (s.slice p) = true ∧ (s.slice p).pd.pdstat.pdSilent = false ∧ (s.slice p).pd.ready = [] ∧
      (s.slice p).pd.inflight = none) ∧ (∃ (p : Port) (s : State), s.did.released = true ∧ p.val < 2 ∧ sopActive
      (s.slice p) = true ∧ (s.slice p).pd.pdstat.pdSilent = false ∧ (s.slice p).att.attcfg.role = 2 ∧ (s.slice
      p).sw.outstanding = none ∧ (s.slice p).sw.swcfg.drAcc = true ∧ modeEntered (s.slice p) = false ∧ (s.slice
      p).pd.ready = [] ∧ (s.slice p).pd.inflight = none) ∧ (∃ (p : Port) (s : State), s.did.released = true ∧ p.val <
      2 ∧ sopActive (s.slice p) = true ∧ (s.slice p).pd.pdstat.pdSilent = false ∧ (s.slice p).att.attcfg.role = 2 ∧
      (s.slice p).sw.outstanding = none ∧ s.sup.hold = false ∧ (s.slice p).pd.pdstat.vcsrc = false ∧ (s.slice
      p).att.attcfg.vcls = 2 ∧ s.sup.vconnOk = true ∧ (s.slice p).pd.ready = [] ∧ (s.slice p).pd.inflight = none) ∧ (∃
      (p : Port) (s : State), s.did.released = true ∧ 2 ≤ p.val ∧ sopActive (s.slice p) = true ∧ (s.slice
      p).pd.pdstat.pdSilent = false ∧ (s.slice p).pd.ready = [] ∧ (s.slice p).pd.inflight = none) ∧ (∃ (p : Port) (s :
      State), s.did.released = true ∧ p.val < 2 ∧ sopActive (s.slice p) = true ∧ (s.slice p).pd.pdstat.pdSilent =
      false ∧ (s.slice p).att.attcfg.role = 2 ∧ (s.slice p).sw.frsRecent = true ∧ (s.slice p).sw.step = .frsWaitFr ∧
      (s.slice p).pd.ready = [] ∧ (s.slice p).pd.inflight = none) ∧ (∃ (p : Port) (s : State), s.did.released = true ∧
      p.val < 2 ∧ sopActive (s.slice p) = true ∧ (s.slice p).sw.frsRecent = false ∧ s.sup.hold = false ∧ (s.slice
      p).pd.hrSent < nHardResetCount) ∧ (∃ (p : Port) (s : State), s.did.released = true ∧ p.val < 2 ∧ (s.slice
      p).att.attcfg.role = 2 ∧ maySwap s (s.slice p) = true) ∧ (∃ (p : Port) (s : State), s.did.released = true ∧
      p.val < 2 ∧ (s.slice p).att.attcfg.role = 2 ∧ (s.slice p).pd.partnerAms = true) ∧ (∃ (p : Port) (s : State),
      s.did.released = true ∧ p.val < 2 ∧ (s.slice p).att.attcfg.role = 2 ∧ maySwap s (s.slice p) = true ∧ (s.slice
      p).sw.wantPr = false) ∧ (∃ (p : Port) (s : State), s.did.released = true ∧ p.val < 2 ∧ (s.slice
      p).att.attcfg.role = 2 ∧ maySwap s (s.slice p) = true ∧ (s.slice p).sw.wantPr = false ∧ (s.slice p).sw.wantDr =
      false) ∧ (∃ (p : Port) (s : State), s.did.released = true ∧ 2 ≤ p.val) ∧ (∃ (p : Port) (s : State),
      s.did.released = true ∧ (s.slice p).sw.outstanding = some .pr) ∧ (∃ (p : Port) (s : State), s.did.released =
      true ∧ (s.slice p).sw.outstanding = some .vconn) ∧ (∃ (p : Port) (s : State), s.did.released = true ∧ (s.slice
      p).sw.outstanding = some .dr ∧ (s.slice p).sw.waits < 2) ∧ (∃ (p : Port) (s : State), s.did.released = true ∧
      (s.slice p).sw.outstanding = some .dr ∧ 2 ≤ (s.slice p).sw.waits) ∧ (∃ (p : Port) (s : State), s.did.released =
      true ∧ (s.slice p).sw.outstanding = some .dr ∧ (s.slice p).sw.swstat.swap = 3) ∧ (∃ (p : Port) (s : State),
      s.did.released = true ∧ (s.slice p).sw.retry = some .dr ∧ (s.slice p).pd.partnerAms = true) ∧ (∃ (p : Port) (s :
      State), (s.slice p).sw.retry = none) :=
  ⟨⟨2, st 2 (fun x => { x with att.attstat.state := 3, pins.isog := true }), by decide⟩,
   ⟨0,
     { st 0 (fun x => { x with att.attstat.state := 3, att.attcfg.role := 2, pins.isog := true }) with sup.hold := true },
     by decide⟩,
   ⟨1, st 1 (fun x =>
     { x with att.attstat.state := 3, att.attcfg.role := 2, pins.isog := true, sw.swcfg.prAccSrc := true }), by
     decide⟩,
   ⟨2, st 2 (fun x => { x with att.attstat.state := 3, pins.isog := true }), by decide⟩,
   ⟨1, st 1 (fun x =>
     { x with att.attstat.state := 3, att.attcfg.role := 2, pins.isog := true, sw.swcfg.drAcc := true }), by decide⟩,
   ⟨1,
     { st 1 (fun x => { x with att.attstat.state := 3, att.attcfg.role := 2, att.attcfg.vcls := 2, pins.isog := true }) with sup.vconnOk := true },
     by decide⟩,
   ⟨2, st 2 (fun x => { x with att.attstat.state := 3, pins.isog := true }), by decide⟩,
   ⟨1, st 1 (fun x =>
     { x with att.attcfg.role := 2, sw.swstat.swap := 2, sw.frsRecent := true, sw.step := .frsWaitFr }), by decide⟩,
   ⟨1, st 1 (fun x => { x with att.attcfg.role := 2, att.attstat.state := 6 }), by decide⟩,
   ⟨1, st 1 (fun x => { x with att.attcfg.role := 2, att.attstat.state := 6 }), by decide⟩,
   ⟨1, st 1 (fun x => { x with att.attcfg.role := 2, att.attstat.state := 6, pd.partnerAms := true }), by decide⟩,
   ⟨1, st 1 (fun x => { x with att.attcfg.role := 2, att.attstat.state := 6 }), by decide⟩,
   ⟨1, st 1 (fun x => { x with att.attcfg.role := 2, att.attstat.state := 6 }), by decide⟩,
   ⟨2, st 2 (fun x => x), by decide⟩,
   ⟨1, st 1 (fun x => { x with sw.outstanding := some .pr, sw.swstat.swap := 1 }), by decide⟩,
   ⟨1, st 1 (fun x => { x with sw.outstanding := some .vconn, sw.swstat.swap := 4 }), by decide⟩,
   ⟨1, st 1 (fun x => { x with sw.outstanding := some .dr, sw.swstat.swap := 3, sw.waits := 1 }), by decide⟩,
   ⟨1, st 1 (fun x => { x with sw.outstanding := some .dr, sw.swstat.swap := 3, sw.waits := 2 }), by decide⟩,
   ⟨1, st 1 (fun x => { x with sw.outstanding := some .dr, sw.swstat.swap := 3 }), by decide⟩,
   ⟨1, st 1 (fun x => { x with sw.retry := some .dr, pd.partnerAms := true }), by decide⟩,
   ⟨1, st 1 (fun x => x), by decide⟩⟩

/-- States and operands that meet the hypotheses of each clause of `Obligations.SwapSteps`. -/
theorem test_meets_SwapSteps :
    (∃ (p : Port) (s : State), s.did.released = true ∧ (s.slice p).sw.step = .srcReady ∧ (s.slice p).sw.swstat.swap =
      1) ∧ (∃ (p : Port) (s : State), s.did.released = true ∧ (s.slice p).sw.step = .vcGive ∧ (s.slice
      p).sw.swstat.swap = 4) ∧ (∃ (p : Port) (s : State), s.did.released = true ∧ (s.slice p).sw.step = .snkWait ∧
      (s.slice p).att.attstat.vbusSafe0 = false) ∧ (∃ (p : Port) (s : State), s.did.released = true ∧ (s.slice
      p).sw.step = .snkWait ∧ (s.slice p).att.attstat.vbusSafe0 = true ∧ s.sup.hold = false) ∧ (∃ (p : Port) (s :
      State), s.did.released = true ∧ (s.slice p).sw.startDue = true ∧ s.sup.hold = true) ∧ (∃ (p : Port) (s : State),
      (s.slice p).sw.startDue = false) ∧ (∃ (p : Port) (s : State), s.did.released = true ∧ (s.slice p).sw.step =
      .srcReady) ∧ (∃ (p : Port) (s : State), (s.slice p).sw.step ≠ .srcReady) ∧ (∃ (p : Port) (s : State),
      s.did.released = true ∧ (s.slice p).sw.step = .snkWait) ∧ (∃ (p : Port) (s : State), (s.slice p).sw.step ≠
      .snkWait) ∧ (∃ (p : Port) (s : State), s.did.released = true ∧ (s.slice p).sw.step = .snkVbus ∧ (s.slice
      p).att.attstat.vbusSafe0 = false ∧ s.sup.hold = false ∧ (s.slice p).pd.hrSent < nHardResetCount) ∧ (∃ (p : Port)
      (s : State), (s.slice p).att.attstat.vbusSafe0 = true) ∧ (∃ (p : Port) (s : State), s.did.released = true ∧
      (s.slice p).sw.step = .vcGive ∧ s.sup.hold = false ∧ (s.slice p).pd.hrSent < nHardResetCount) ∧ (∃ (p : Port) (s
      : State), s.did.released = true ∧ (s.slice p).sw.swstat.prole = true ∧ (s.slice p).pd.hrPhase ≠ .idle ∧ (s.slice
      p).att.attstat.vbusPres = false) ∧ (∃ (p : Port) (s : State), (s.slice p).att.attstat.vbusPres = true) ∧ (∃ (p :
      Port) (s : State), s.did.released = true ∧ (s.slice p).sw.step = .frsSignal) ∧ (∃ (p : Port) (s : State),
      s.did.released = true ∧ (s.slice p).sw.swstat.frsArmed = true ∧ 4750 ≤ (s.slice p).att.vbusMv) ∧ (∃ (p : Port)
      (s : State), (s.slice p).sw.swstat.frsArmed = false) ∧ (∃ (p : Port) (s : State), s.did.released = true ∧
      (s.slice p).sw.step = .frsWaitFr) ∧ (∃ (p : Port) (s : State), s.did.released = true ∧ (s.slice p).sw.step =
      .frsOldReady) :=
  ⟨⟨1, st 1 (fun x => { x with sw.step := .srcReady, sw.swstat.swap := 1, off.contract.kind := 1 }), by decide⟩,
   ⟨1, st 1 (fun x =>
     { x with sw.step := .vcGive, sw.swstat.swap := 4, pd.pdstat.vcsrc := true, att.attstat.vconnOn := true }), by
     decide⟩,
   ⟨1, st 1 (fun x => { x with sw.step := .snkWait, att.attstat.vbusSafe0 := false }), by decide⟩,
   ⟨1, st 1 (fun x => { x with sw.step := .snkWait, att.attstat.vbusSafe0 := true }), by decide⟩,
   ⟨1, { st 1 (fun x => { x with sw.startDue := true }) with sup.hold := true }, by decide⟩,
   ⟨1, st 1 (fun x => x), by decide⟩,
   ⟨1, st 1 (fun x => { x with sw.step := .srcReady }), by decide⟩,
   ⟨1, st 1 (fun x => { x with sw.step := .snkWait }), by decide⟩,
   ⟨1, st 1 (fun x => { x with sw.step := .snkWait }), by decide⟩,
   ⟨1, st 1 (fun x => { x with sw.step := .srcReady }), by decide⟩,
   ⟨1, st 1 (fun x => { x with sw.step := .snkVbus, sw.swstat.swap := 1, att.attstat.vbusSafe0 := false }), by decide⟩,
   ⟨1, st 1 (fun x => { x with sw.step := .snkVbus, sw.swstat.swap := 1, att.attstat.vbusSafe0 := true }), by decide⟩,
   ⟨1, st 1 (fun x => { x with sw.step := .vcGive, sw.swstat.swap := 4 }), by decide⟩,
   ⟨1, st 1 (fun x => { x with sw.swstat.prole := true, pd.hrPhase := .recover }), by decide⟩,
   ⟨1, st 1 (fun x => { x with sw.swstat.prole := true, pd.hrPhase := .recover, att.attstat.vbusPres := true }), by
     decide⟩,
   ⟨1, st 1 (fun x => { x with sw.step := .frsSignal, sw.swstat.swap := 2, pins.isog := true }), by decide⟩,
   ⟨1, st 1 (fun x =>
     { x with att.attstat.state := 6, sw.swstat.frsArmed := true, att.vbusMv := 4750, pins.snkg := true }), by decide⟩,
   ⟨1, st 1 (fun x => x), by decide⟩,
   ⟨1, st 1 (fun x => { x with sw.step := .frsWaitFr, sw.frsRecent := true }), by decide⟩,
   ⟨1, st 1 (fun x => { x with sw.step := .frsOldReady, sw.frsRecent := true }), by decide⟩⟩

/-- States and operands that meet the hypotheses of each clause of `Obligations.Trips`. -/
theorem test_meets_Trips :
    (∃ (p : Port) (s : State), s.did.released = true ∧ (s.slice p).ps.running = true ∧ (s.slice p).pr.peakNow = false
      ∧ pkMax (s.slice p).pr ≤ (s.slice p).pr.peakRun + 1 ∧ (s.slice p).pr.prstat.pstate = 0 ∧ inExchange (s.slice p)
      = false) ∧ (∃ (p : Port) (s : State), s.did.released = true ∧ (s.slice p).ps.running = true ∧ (s.slice
      p).pr.peakNow = false ∧ (s.slice p).pr.peakRun + 1 < pkMax (s.slice p).pr) ∧ (∃ (p : Port) (s : State),
      s.did.released = true ∧ (s.slice p).ps.running = true ∧ (s.slice p).sw.swstat.prole = false ∧ (s.slice
      p).pins.pwm = .sync ∧ (s.slice p).pr.revNow = false ∧ pkMax (s.slice p).pr ≤ (s.slice p).pr.revRun + 1 ∧
      (s.slice p).pr.falling = false ∧ (s.slice p).pr.prstat.pstate = 0 ∧ inExchange (s.slice p) = false) ∧ (∃ (p :
      Port) (s : State), s.did.released = true ∧ (s.slice p).ps.running = true ∧ (s.slice p).sw.swstat.prole = false ∧
      (s.slice p).pins.pwm = .sync ∧ (s.slice p).pr.falling = true) ∧ (∃ (p : Port) (s : State), s.did.released = true
      ∧ ((s.slice p).ps.running = true ∨ (s.slice p).pins.isog = true) ∧ (s.slice p).pr.prstat.pstate = 0 ∧ inExchange
      (s.slice p) = false) ∧ (∃ (p : Port) (s : State), (s.slice p).ps.running = false ∧ (s.slice p).pins.isog =
      false) ∧ (∃ (p : Port) (s : State), s.did.released = true ∧ sourceWatched (s.slice p) = true ∧ (s.slice
      p).pr.prstat.pstate = 0 ∧ inExchange (s.slice p) = false) ∧ (∃ (p : Port) (s : State), sourceWatched (s.slice p)
      = false) ∧ (∃ (p : Port) (s : State), s.did.released = true ∧ (s.slice p).ps.psstat.cstate = 3 ∧ s.sup.hold =
      false ∧ (s.slice p).pr.prstat.pstate = 0 ∧ inExchange (s.slice p) = false) ∧ (∃ (p : Port) (mean : Int) (s :
      State), s.did.released = true ∧ (s.slice p).ps.running = true ∧ fuseStep (s.slice p).ir mean (s.slice p).pr.acc
      < fuseK (s.slice p)) ∧ (∃ (p : Port) (mean : Int) (s : State), s.did.released = true ∧ (s.slice p).ps.running =
      true ∧ fuseK (s.slice p) ≤ fuseStep (s.slice p).ir mean (s.slice p).pr.acc ∧ (s.slice p).pr.prstat.pstate = 0 ∧
      inExchange (s.slice p) = false) ∧ (∃ (p : Port) (s : State), s.did.released = true ∧ (s.slice
      p).pr.prstat.pstate = 2 ∧ (s.slice p).pr.gateStarted = true ∧ (s.slice p).ps.running = true ∧ inExchange
      (s.slice p) = false ∧ retryCount p s ≠ 0 ∧ retryCount p s ≤ (satInc (s.slice p).pr.prstat.tries).toNat) ∧ (∃ (p
      : Port) (s : State), s.did.released = true ∧ (s.slice p).pr.prstat.pstate = 2 ∧ (s.slice p).pr.gateStarted =
      true ∧ (s.slice p).ps.running = true ∧ inExchange (s.slice p) = false ∧ retryCount p s = 0) ∧ (∃ (p : Port) (s :
      State), (s.slice p).pr.gateStarted = false) :=
  ⟨⟨2, st 2 (fun x => { x with ps.psstat.cstate := 5, pins.isog := true, pr.prcfg.pkMax := 3, pr.peakRun := 2 }), by
     decide⟩,
   ⟨2, st 2 (fun x => { x with ps.psstat.cstate := 5, pr.prcfg.pkMax := 3, pr.peakRun := 1 }), by decide⟩,
   ⟨2, st 2 (fun x => { x with ps.psstat.cstate := 5, pins.pwm := .sync, pr.prcfg.pkMax := 0 }), by decide⟩,
   ⟨2, st 2 (fun x => { x with ps.psstat.cstate := 5, pins.pwm := .sync, pr.falling := true, pr.revRun := 255 }), by
     decide⟩,
   ⟨2, st 2 (fun x => { x with pins.isog := true, pr.prstat.trips := 0xFFFF }), by decide⟩,
   ⟨2, st 2 (fun x => x), by decide⟩,
   ⟨2, st 2 (fun x => { x with pins.isog := true }), by decide⟩,
   ⟨0, st 0 (fun x => { x with sw.swstat.prole := true }), by decide⟩,
   ⟨2, st 2 (fun x => { x with ps.psstat.cstate := 3 }), by decide⟩,
   ⟨2, 4000, st 2 (fun x => { x with ps.psstat.cstate := 5 }), by decide⟩,
   ⟨2, 4000, st 2 (fun x => { x with ps.psstat.cstate := 5, pr.acc := 100000000000 }), by decide⟩,
   ⟨2,
     { st 2 (fun x => { x with ps.psstat.cstate := 4, pr.prstat.pstate := 2, pr.gateStarted := true, pr.prretry.count := 1 }) with sup.tier0 := 0xFFFFFF },
     by decide⟩,
   ⟨2, st 2 (fun x =>
     { x with ps.psstat.cstate := 4, pr.prstat.pstate := 2, pr.gateStarted := true, pr.prretry.count := 0, pr.prstat.tries := 255 }),
     by decide⟩,
   ⟨2, st 2 (fun x => { x with pr.prstat.pstate := 2 }), by decide⟩⟩

/-- States and operands that meet the hypotheses of each clause of `Obligations.RetriesAndChecks`. -/
theorem test_meets_RetriesAndChecks :
    (∃ (p : Port) (s : State), s.did.released = true ∧ (s.slice p).pr.prstat.pstate = 1 ∧ (s.slice p).sw.swstat.prole
      = false ∧ s.sup.hold = false ∧ (s.slice p).pr.restore = false) ∧ (∃ (p : Port) (bad : BitVec 4) (s : State),
      s.did.released = true ∧ (s.slice p).pr.prstat.pstate = 1 ∧ (s.slice p).sw.swstat.prole = false ∧ s.sup.hold =
      false ∧ (s.slice p).pr.restore = false ∧ bad ≠ 0) ∧ (∃ (p : Port) (s : State), s.did.released = true ∧ (s.slice
      p).pr.prstat.pstate = 1 ∧ (s.slice p).sw.swstat.prole = false ∧ s.sup.hold = true) ∧ (∃ (p : Port) (s : State),
      s.did.released = true ∧ (s.slice p).pr.prstat.pstate = 2 ∧ (s.slice p).pr.gateStarted = true) ∧ (∃ (p : Port) (s
      : State), s.did.released = true ∧ (s.slice p).pr.tenSec = true) ∧ (∃ (p : Port) (s : State), (s.slice
      p).pr.tenSec = false) ∧ (∃ (p : Port) (s : State), s.did.released = true ∧ (s.slice p).pr.prstat.pstate = 3 ∧
      (s.slice p).pr.bad = 0) ∧ (∃ (p : Port) (s : State), s.did.released = true ∧ (s.slice p).pr.prstat.pstate ≠ 3) ∧
      (∃ (p : Port) (bad : BitVec 4) (s : State), s.did.released = true ∧ (s.slice p).ps.psstat.cstate = 0 ∧ (s.slice
      p).pins.isog = false ∧ (s.slice p).pins.snkg = false ∧ bad ≠ 0) ∧ (∃ (p : Port) (s : State), s.did.released =
      true ∧ (s.slice p).ps.psstat.cstate = 0 ∧ (s.slice p).pins.isog = false ∧ (s.slice p).pins.snkg = false ∧
      (s.slice p).pr.prstat.pstate = 0) ∧ (∃ (p : Port) (s : State), s.did.released = true ∧ (s.slice p).pins.isog =
      true) ∧ (∃ (p : Port) (s : State), s.did.released = true ∧ (s.slice p).sw.swstat.snkp = 2 ∧ (s.slice
      p).att.attstat.state = 6 ∧ (s.slice p).pr.bad = 0) ∧ (∃ (p : Port) (s : State), (s.slice p).sw.swstat.snkp ≠ 2)
      ∧ (∃ (p : Port) (s : State), s.did.released = true ∧ (s.slice p).sw.swstat.prole = true ∧ (s.slice
      p).pr.prstat.pstate = 0 ∧ (s.slice p).sw.swstat.snkp = 2 ∧ s.sup.hold = false ∧ (s.slice p).pd.hrSent <
      nHardResetCount ∧ s.sup.active ≠ .cascade) ∧ (∃ (p : Port) (s : State), s.did.released = true ∧ (s.slice
      p).sw.swstat.prole = true ∧ (s.slice p).pr.prstat.pstate = 0 ∧ (s.slice p).sw.swstat.snkp = 2 ∧ (s.slice
      p).att.attstat.state = 6 ∧ (s.slice p).pr.bad = 0 ∧ s.sup.active = .cascade ∧ s.sup.cascQ = true ∧
      s.sup.cascPort = some p ∧ s.sup.main.qual = false ∧ s.sup.bkup.qual = false ∧ (s.slice p).pd.hrSent <
      nHardResetCount) ∧ (∃ (p : Port) (s : State), s.did.released = true ∧ (s.slice p).ps.running = false ∧ (s.slice
      p).pins.isog = false ∧ (s.slice p).sw.swstat.snkp = 0 ∧ (s.slice p).pr.ovSampled = false) ∧ (∃ (p : Port) (s :
      State), (s.slice p).pins.isog = true) :=
  ⟨⟨2, st 2 (fun x => { x with pr.prstat.pstate := 1, ps.tlmV.vcnv := 501 }), by decide⟩,
   ⟨2, 8, st 2 (fun x => { x with pr.prstat.pstate := 1 }), by decide⟩,
   ⟨2, { st 2 (fun x => { x with pr.prstat.pstate := 1 }) with sup.hold := true }, by decide⟩,
   ⟨2, st 2 (fun x => { x with pr.prstat.pstate := 2, pr.gateStarted := true }), by decide⟩,
   ⟨2, st 2 (fun x => { x with pr.tenSec := true, pr.prstat.tries := 7 }), by decide⟩,
   ⟨2, st 2 (fun x => { x with pr.prstat.tries := 7 }), by decide⟩,
   ⟨2, st 2 (fun x => { x with pr.prstat.pstate := 3, pr.prstat.tries := 7 }), by decide⟩,
   ⟨2, st 2 (fun x => { x with pr.prstat.pstate := 1, pr.prctl.cfgLk := true }), by decide⟩,
   ⟨2, 1, st 2 (fun x => x), by decide⟩,
   ⟨2, st 2 (fun x => { x with pr.prstat.scfail := 3 }), by decide⟩,
   ⟨2, st 2 (fun x => { x with pins.isog := true }), by decide⟩,
   ⟨1, st 1 (fun x =>
     { x with sw.swstat.snkp := 2, pins.snkg := true, att.attstat.state := 6, sw.swstat.prole := true }), by decide⟩,
   ⟨1, st 1 (fun x => { x with sw.swstat.snkp := 1 }), by decide⟩,
   ⟨1, st 1 (fun x =>
     { x with sw.swstat.snkp := 2, pins.snkg := true, att.attstat.state := 6, sw.swstat.prole := true }), by decide⟩,
   ⟨1,
     { st 1 (fun x => { x with sw.swstat.snkp := 2, pins.snkg := true, att.attstat.state := 6, sw.swstat.prole := true }) with sup.active := .cascade, sup.cascQ := true, sup.cascPort := some 1 },
     by decide⟩,
   ⟨1, st 1 (fun x => x), by decide⟩,
   ⟨1, st 1 (fun x => { x with pins.isog := true }), by decide⟩⟩

/-- States and operands that meet the hypotheses of each clause of `Obligations.BudgetAndKiln`. -/
theorem test_meets_BudgetAndKiln :
    (∃ (s : State), policyRuns s = true ∧ s.sup.hold = false ∧ s.did.cond = .operation) ∧ (∃ (s : State), policyRuns s
      = true ∧ s.sup.hold = false ∧ s.did.cond = .boot ∧ s.did.boot.stage = 5 ∧ s.cyc.running = true) ∧ (∃ (s :
      State), (policyRuns s = false ∨ s.sup.hold = true) ∧ s.did.cond = .operation) ∧ (∃ (mv : List Nat) (vdda : Nat)
      (k : Fin 8) (s : State), policyRuns s = true ∧ (s.kln.sheaves.get k).a.en = true ∧ (s.kln.sheaves.get
      k).a.ntc.toNat < 8 ∧ 3 * vdda ≤ 100 * mv.getD (s.kln.sheaves.get k).a.ntc.toNat 0 ∧ 100 * mv.getD
      (s.kln.sheaves.get k).a.ntc.toNat 0 ≤ 97 * vdda) ∧ (∃ (mv : List Nat) (vdda : Nat) (k : Fin 8) (s : State),
      policyRuns s = true ∧ (s.kln.sheaves.get k).a.en = true ∧ (s.kln.sheaves.get k).a.ntc.toNat < 8 ∧ 97 * vdda <
      100 * mv.getD (s.kln.sheaves.get k).a.ntc.toNat 0) ∧ (∃ (k : Fin 8) (s : State), policyRuns s = true ∧
      (s.kln.sheaves.get k).a.en = false) ∧ (∃ (s : State), policyRuns s = false) ∧ (∃ (s : State), policyRuns s =
      true ∧ s.cyc.cn.toNat % kilnEvery s = 0) ∧ (∃ (k : Fin 8) (s : State), policyRuns s = true ∧ s.cyc.cn.toNat %
      kilnEvery s = 0 ∧ s.kln.first = true ∧ (s.kln.sheaves.get k).a.en = true) ∧ (∃ (s : State), (policyRuns s =
      false ∨ s.cyc.cn.toNat % kilnEvery s ≠ 0)) :=
  ⟨⟨{ st 3 (fun x => { x with att.attstat.state := 3, off.contract.volt := 100 }) with did.policy.started := true, did.cond := .operation, sup.active := .main, sup.main.qual := true, bud.inp.bMain := 600, bud.cfg.eff := 90 },
     by decide⟩,
   ⟨{ State.reset with did.policy.started := true, did.cond := .boot, did.boot.stage := 5, cyc.running := true }, by
     decide⟩,
   ⟨{ State.reset with did.policy.started := true, did.cond := .operation, sup.hold := true }, by decide⟩,
   ⟨[0, 1650], 3300, 2,
     { State.reset with did.policy.started := true, kln.sheaves := updAt State.reset.kln.sheaves 2 (fun x => { x with a.en := true, a.ntc := 1, d.rpu := 10000, d.rnom := 10000, d.beta := 3435 }) },
     by decide⟩,
   ⟨[0, 3300], 3300, 2,
     { State.reset with did.policy.started := true, kln.sheaves := updAt State.reset.kln.sheaves 2 (fun x => { x with a.en := true, a.ntc := 1 }) },
     by decide⟩,
   ⟨2, { State.reset with did.policy.started := true }, by decide⟩,
   ⟨State.reset, by decide⟩,
   ⟨{ State.reset with did.policy.started := true, cyc.cn := 100, kln.sheaves := updAt State.reset.kln.sheaves 2 (fun x => { x with a.en := true, a.ntc := 8, ntcN := 4 }) },
     by decide⟩,
   ⟨2,
     { State.reset with did.policy.started := true, cyc.cn := 100, kln.first := true, kln.snaps := 10, kln.sheaves := updAt State.reset.kln.sheaves 2 (fun x => { x with a.en := true, a.ntc := 8, b.ths := 900 }), kln.ports := updAt State.reset.kln.ports 4 (fun x => { x with pcfg.sheaf := 2, pcfg.rpm := 2000, sumSq := 90000000 }) },
     by decide⟩,
   ⟨{ State.reset with did.policy.started := true, cyc.cn := 101 }, by decide⟩⟩

/-- States and operands that meet the hypotheses of each clause of `Obligations.CycleClock`. -/
theorem test_meets_CycleClock :
    (∃ (rising : Bool) (s : State), (s.cyc.running = false ∨ zcCounts s.cyc.cfg rising = false)) ∧ (∃ (rising : Bool)
      (s : State), s.cyc.running = true ∧ zcCounts s.cyc.cfg rising = true ∧ s.cyc.zcEdges + 1 < (zcEvery
      s.cyc.cfg).1) ∧ (∃ (rising : Bool) (s : State), s.cyc.running = true ∧ zcCounts s.cyc.cfg rising = true ∧
      (zcEvery s.cyc.cfg).1 ≤ s.cyc.zcEdges + 1 ∧ s.cyc.zcLast = none) ∧ (∃ (t0 : Nat) (rising : Bool) (s : State),
      s.cyc.running = true ∧ zcCounts s.cyc.cfg rising = true ∧ (zcEvery s.cyc.cfg).1 ≤ s.cyc.zcEdges + 1 ∧
      s.cyc.zcLast = some t0) ∧ (∃ (us : Nat) (t0 : Nat) (rising : Bool) (s : State), s.cyc.running = true ∧ zcCounts
      s.cyc.cfg rising = true ∧ (zcEvery s.cyc.cfg).1 ≤ s.cyc.zcEdges + 1 ∧ s.cyc.zcLast = some t0 ∧ ((us - t0) * 1000
      / (zcEvery s.cyc.cfg).2 < 15000000 ∨ 22500000 < (us - t0) * 1000 / (zcEvery s.cyc.cfg).2)) ∧ (∃ (us : Nat) (t0 :
      Nat) (rising : Bool) (s : State), s.cyc.running = true ∧ s.cyc.cfg.edge = 0 ∧ s.cyc.cfg.psc = 0 ∧ rising = true
      ∧ s.cyc.zcLast = some t0 ∧ s.cyc.cfg.zcEn = true ∧ s.cyc.zcGood = 7 ∧ 15000000 ≤ (us - t0) * 1000 ∧ (us - t0) *
      1000 ≤ 22500000 ∧ s.cyc.zcP = (us - t0) * 1000 ∧ s.syn.stat.state ≠ 2) ∧ (∃ (s : State), s.cyc.running = false)
      ∧ (∃ (s : State), s.cyc.running = true ∧ s.cyc.cn + 1 ≠ 0 ∧ s.syn.lockAt = none ∧ s.cyc.timeSets = []) ∧ (∃ (s :
      State), s.cyc.running = true ∧ s.cyc.cn + 1 ≠ 0 ∧ s.syn.lockAt = none ∧ s.cyc.timeSets = [] ∧ wantedSource s =
      .internal) ∧ (∃ (s : State), s.cyc.running = true ∧ s.cyc.cn = 0xFFFFFFFF ∧ s.syn.lockAt = none ∧ s.cyc.timeSets
      = []) ∧ (∃ (cn : Word) (ep : BitVec 16) (s : State), s.cyc.running = true ∧ s.cyc.cn + 1 ≠ 0 ∧ s.syn.lockAt =
      some (cn, ep) ∧ s.cyc.timeSets = [] ∧ cn ≠ s.cyc.cn + 1) ∧ (∃ (k : Fin 8) (s : State), (s.cyc.timers.get
      k).ctl.en = false) ∧ (∃ (k : Fin 8) (s : State), (s.cyc.timers.get k).ctl.en = true) ∧ (∃ (k : Fin 8) (s :
      State), (s.cyc.timers.get k).ctl.en = true ∧ (s.cyc.timers.get k).ctl.oneshot = true) ∧ (∃ (k : Fin 8) (s :
      State), (s.cyc.timers.get k).ctl.en = true ∧ (s.cyc.timers.get k).ctl.oneshot = false) :=
  ⟨⟨true, State.reset, by decide⟩,
   ⟨true, { State.reset with cyc.running := true, cyc.cfg.psc := 3 }, by decide⟩,
   ⟨true, { State.reset with cyc.running := true }, by decide⟩,
   ⟨1000, true, { State.reset with cyc.running := true, cyc.zcLast := some 1000 }, by decide⟩,
   ⟨11000, 1000, true,
     { State.reset with cyc.running := true, cyc.zcLast := some 1000, cyc.zcValid := true, cyc.cfg.zcEn := true }, by
     decide⟩,
   ⟨21000, 1000, true,
     { State.reset with cyc.running := true, cyc.zcLast := some 1000, cyc.zcP := 20000000, cyc.zcGood := 7, cyc.cfg.zcEn := true },
     by decide⟩,
   ⟨State.reset, by decide⟩,
   ⟨{ State.reset with cyc.running := true, cyc.cn := 6, cyc.slots := updAt State.reset.cyc.slots 9 (fun x => { x with st := .pending, entry.tcn := 7 }) },
     by decide⟩,
   ⟨{ State.reset with cyc.running := true, cyc.cfg.intHz := true }, by decide⟩,
   ⟨{ State.reset with cyc.running := true, cyc.cn := 0xFFFFFFFF, cyc.epoch := 0xFFFF }, by decide⟩,
   ⟨1000, 4, { State.reset with cyc.running := true, cyc.cn := 6, syn.lockAt := some (1000, 4) }, by decide⟩,
   ⟨3, State.reset, by decide⟩,
   ⟨3,
     { State.reset with cyc.timers := updAt State.reset.cyc.timers 3 (fun x => { x with ctl.en := true, matchV := 77 }) },
     by decide⟩,
   ⟨3,
     { State.reset with cyc.timers := updAt State.reset.cyc.timers 3 (fun x => { x with ctl.en := true, ctl.oneshot := true, top := 77 }) },
     by decide⟩,
   ⟨3,
     { State.reset with cyc.timers := updAt State.reset.cyc.timers 3 (fun x => { x with ctl.en := true, top := 77, matchV := 0 }) },
     by decide⟩⟩

/-- States and operands that meet the hypotheses of each clause of `Obligations.Scheduler`. -/
theorem test_meets_Scheduler :
    (∃ (q : Requester) (e : SchedEntry) (s : State), e =
      { tcn := (s.cyc.banks.get (bankOf q s)).ld0, tphase := (s.cyc.banks.get (bankOf q s)).ld1.tphase, op := (s.cyc.banks.get (bankOf q s)).ld1.op, arg0 := (s.cyc.banks.get (bankOf q s)).ld2, arg1 := (s.cyc.banks.get (bankOf q s)).ld3, src := schedSrcOf (bankOf q s) }
      ∧ submitCause e s ≠ 0) ∧ (∃ (q : Requester) (e : SchedEntry) (k : Fin 128) (s : State), e =
      { tcn := (s.cyc.banks.get (bankOf q s)).ld0, tphase := (s.cyc.banks.get (bankOf q s)).ld1.tphase, op := (s.cyc.banks.get (bankOf q s)).ld1.op, arg0 := (s.cyc.banks.get (bankOf q s)).ld2, arg1 := (s.cyc.banks.get (bankOf q s)).ld3, src := schedSrcOf (bankOf q s) }
      ∧ submitCause e s = 0 ∧ slotFor s = some k) ∧ (∃ (q : Requester) (h : BitVec 15) (k : Fin 128) (s : State),
      abortResult (bankOf q s) h s = (3, some k)) ∧ (∃ (q : Requester) (h : BitVec 15) (k : Fin 128) (s : State),
      abortResult (bankOf q s) h s = (4, some k)) ∧ (∃ (q : Requester) (h : BitVec 15) (s : State), abortResult
      (bankOf q s) h s = (5, none)) ∧ (∃ (k : Fin 128) (p : Port) (s : State), (s.cyc.slots.get k).st = .pending ∧
      (s.cyc.slots.get k).entry.op = 1 ∧ (s.cyc.slots.get k).committed = true ∧ (s.cyc.slots.get k).entry.arg0.getLsbD
      p.val = true) ∧ (∃ (k : Fin 128) (p : Port) (s : State), (s.cyc.slots.get k).st = .pending ∧ (s.cyc.slots.get
      k).entry.op = 1 ∧ (s.cyc.slots.get k).committed = true ∧ (s.cyc.slots.get k).entry.arg0.getLsbD p.val = false) ∧
      (∃ (k : Fin 128) (s : State), (s.cyc.slots.get k).st = .pending ∧ (s.cyc.slots.get k).entry.op = 2 ∧
      (s.cyc.slots.get k).committed = true ∧ s.sup.hold = false ∧ (s.cyc.slots.get k).res = 0) ∧ (∃ (k : Fin 128) (s :
      State), (s.cyc.slots.get k).st = .pending ∧ (s.cyc.slots.get k).entry.op = 2 ∧ (s.cyc.slots.get k).committed =
      true ∧ s.sup.hold = true) ∧ (∃ (k : Fin 128) (s : State), (s.cyc.slots.get k).st = .pending ∧ (s.cyc.slots.get
      k).entry.op = 3 ∧ (s.cyc.slots.get k).committed = true ∧ (s.cyc.slots.get k).res = 0 ∧ etestRefused (getField
      (s.cyc.slots.get k).entry.arg1 0 2) s = false) ∧ (∃ (k : Fin 128) (s : State), (s.cyc.slots.get k).st = .pending
      ∧ (s.cyc.slots.get k).entry.op = 3 ∧ (s.cyc.slots.get k).committed = true ∧ etestRefused (getField
      (s.cyc.slots.get k).entry.arg1 0 2) s = true) ∧ (∃ (k : Fin 128) (s : State), (s.cyc.slots.get k).st = .pending
      ∧ (s.cyc.slots.get k).entry.op = 4 ∧ (s.cyc.slots.get k).committed = true ∧ s.cyc.snapTaken = false) ∧ (∃ (k :
      Fin 128) (s : State), (s.cyc.slots.get k).st = .pending ∧ (s.cyc.slots.get k).entry.op = 4 ∧ (s.cyc.slots.get
      k).committed = true ∧ s.cyc.snapTaken = true) ∧ (∃ (k : Fin 128) (c : Fin 16) (s : State), (s.cyc.slots.get
      k).st = .pending ∧ (s.cyc.slots.get k).entry.op = 5 ∧ (s.cyc.slots.get k).committed = true ∧ (s.cyc.slots.get
      k).entry.arg0.getLsbD c.val = true) ∧ (∃ (k : Fin 128) (c : Fin 16) (s : State), (s.cyc.slots.get k).st =
      .pending ∧ (s.cyc.slots.get k).entry.op = 5 ∧ (s.cyc.slots.get k).committed = true ∧ (s.cyc.slots.get
      k).entry.arg0.getLsbD c.val = false) ∧ (∃ (k : Fin 128) (s : State), ((s.cyc.slots.get k).st ≠ .pending ∨
      (s.cyc.slots.get k).committed = false)) ∧ (∃ (k : Fin 128) (s : State), ((s.cyc.slots.get k).st ≠ .pending ∨
      (s.cyc.slots.get k).committed = false)) ∧ (∃ (k : Fin 128) (s : State), ((s.cyc.slots.get k).st ≠ .pending ∨
      (s.cyc.slots.get k).committed = false)) ∧ (∃ (k : Fin 128) (s : State), ((s.cyc.slots.get k).st ≠ .pending ∨
      (s.cyc.slots.get k).committed = false)) ∧ (∃ (k : Fin 128) (s : State), ((s.cyc.slots.get k).st ≠ .pending ∨
      (s.cyc.slots.get k).committed = false)) :=
  ⟨⟨.domB, { tcn := 9, tphase := 0, op := 7, arg0 := 0, arg1 := 0, src := .b },
     { State.reset with cyc.banks := State.reset.cyc.banks.upd .b (fun x => { x with ld0 := 9, ld1.op := 7 }) }, by
     decide⟩,
   ⟨.domB, { tcn := 9, tphase := 0, op := 4, arg0 := 0, arg1 := 0, src := .b }, 0,
     { State.reset with cyc.banks := State.reset.cyc.banks.upd .b (fun x => { x with ld0 := 9, ld1.op := 4 }) }, by
     decide⟩,
   ⟨.domA, 137, 9,
     { State.reset with cyc.slots := updAt State.reset.cyc.slots 9 (fun x => { x with st := .pending, gen := 1 }) },
     by decide⟩,
   ⟨.domA, 137, 9,
     { State.reset with cyc.slots := updAt State.reset.cyc.slots 9 (fun x => { x with st := .pending, gen := 1, committed := true }) },
     by decide⟩,
   ⟨.domB, 137,
     { State.reset with cyc.slots := updAt State.reset.cyc.slots 9 (fun x => { x with st := .pending, gen := 1 }) },
     by decide⟩,
   ⟨9, 2,
     { State.reset with cyc.slots := updAt State.reset.cyc.slots 9 (fun x => { x with st := .pending, committed := true, entry := { x.entry with op := 1, arg0 := 0x01000004, arg1 := 500 } }) },
     by decide⟩,
   ⟨9, 3,
     { State.reset with cyc.slots := updAt State.reset.cyc.slots 9 (fun x => { x with st := .pending, committed := true, entry := { x.entry with op := 1, arg0 := 0x01000004, arg1 := 500 } }) },
     by decide⟩,
   ⟨9,
     { State.reset with cyc.slots := updAt State.reset.cyc.slots 9 (fun x => { x with st := .pending, committed := true, entry := { x.entry with op := 2, arg0 := 0x24, arg1 := 100 } }) },
     by decide⟩,
   ⟨9,
     { State.reset with sup.hold := true, cyc.slots := updAt State.reset.cyc.slots 9 (fun x => { x with st := .pending, committed := true, entry := { x.entry with op := 2, arg0 := 0x24, arg1 := 100 } }) },
     by decide⟩,
   ⟨9,
     { State.reset with sup.active := .main, sup.main.qual := true, sup.bkup.qual := true, sup.bkup.st := .staggerOrArmed, cyc.slots := updAt State.reset.cyc.slots 9 (fun x => { x with st := .pending, committed := true, entry := { x.entry with op := 3, arg1 := 1 } }) },
     by decide⟩,
   ⟨9,
     { State.reset with sup.active := .backup, cyc.slots := updAt State.reset.cyc.slots 9 (fun x => { x with st := .pending, committed := true, entry := { x.entry with op := 3, arg1 := 1 } }) },
     by decide⟩,
   ⟨9,
     { st 4 (fun x => { x with snap.cn := 77 }) with cyc.slots := updAt State.reset.cyc.slots 9 (fun x => { x with st := .pending, committed := true, entry := { x.entry with op := 4 } }) },
     by decide⟩,
   ⟨9,
     { State.reset with cyc.snapTaken := true, cyc.slots := updAt State.reset.cyc.slots 9 (fun x => { x with st := .pending, committed := true, entry := { x.entry with op := 4 } }) },
     by decide⟩,
   ⟨9, 3,
     { State.reset with dma := updAt State.reset.dma 3 (fun x => { x with ctl.arm := true, ctl.owner := 1 }), cyc.slots := updAt State.reset.cyc.slots 9 (fun x => { x with st := .pending, committed := true, entry := { x.entry with op := 5, arg0 := 8, src := .b } }) },
     by decide⟩,
   ⟨9, 4,
     { State.reset with cyc.slots := updAt State.reset.cyc.slots 9 (fun x => { x with st := .pending, committed := true, entry := { x.entry with op := 5, arg0 := 8, src := .b } }) },
     by decide⟩,
   ⟨9, State.reset, by decide⟩,
   ⟨9, State.reset, by decide⟩,
   ⟨9, State.reset, by decide⟩,
   ⟨9, State.reset, by decide⟩,
   ⟨9, State.reset, by decide⟩⟩

/-- States and operands that meet the hypotheses of each clause of `Obligations.SlaseLine`. -/
theorem test_meets_SlaseLine :
    (∃ (s : State), (s.syn.cfg.en = false ∨ s.syn.stat.state = 0)) ∧ (∃ (k : SynTick) (s : State), s.syn.cfg.en = true
      ∧ s.syn.stat.state ≠ 0 ∧ k.dom ≠ s.syn.cfg2.dom) ∧ (∃ (k : SynTick) (s : State), s.syn.cfg.en = true ∧
      s.syn.stat.state = 4 ∧ k.dom = s.syn.cfg2.dom) ∧ (∃ (k : SynTick) (s : State), s.syn.cfg.en = true ∧
      s.syn.stat.state = 4 ∧ k.dom = s.syn.cfg2.dom) ∧ (∃ (k : SynTick) (s : State), s.syn.cfg.en = true ∧
      s.syn.stat.state = 1 ∧ k.dom = s.syn.cfg2.dom ∧ k.cn ≠ s.syn.lastCn + 1) ∧ (∃ (k : SynTick) (ns : Int) (s :
      State), s.syn.cfg.en = true ∧ s.syn.stat.state = 1 ∧ k.dom = s.syn.cfg2.dom ∧ k.cn = s.syn.lastCn + 1 ∧
      s.syn.run = 7 ∧ s.syn.cfg2.dly = 0 ∧ 15000000 ≤ ns - s.syn.lastT ∧ ns - s.syn.lastT ≤ 22500000) ∧ (∃ (k :
      SynTick) (s : State), s.syn.cfg.en = true ∧ s.syn.stat.state = 2 ∧ k.dom = s.syn.cfg2.dom ∧ k.cn = s.cyc.cn ∧
      s.syn.cfg2.dly = 0 ∧ s.cyc.len = 0x3D090000) ∧ (∃ (s : State), s.syn.stat.state ≠ 2) ∧ (∃ (s : State),
      s.syn.stat.state = 2 ∧ s.syn.stat.miss.toNat < 7) ∧ (∃ (s : State), s.syn.stat.state = 2 ∧ s.syn.stat.miss = 7) :=
  ⟨⟨State.reset, by decide⟩,
   ⟨{ dom := 1, cn := 5, epoch := 0, maddr := 3 },
     { State.reset with syn.cfg.en := true, syn.stat.state := 1, syn.cfg2.dom := 9 }, by decide⟩,
   ⟨{ dom := 9, cn := 5, epoch := 0, maddr := 3 },
     { State.reset with syn.cfg.en := true, syn.stat.state := 4, syn.cfg2.dom := 9, syn.cfg.addr := 4 }, by decide⟩,
   ⟨{ dom := 9, cn := 5, epoch := 0, maddr := 3 },
     { State.reset with syn.cfg.en := true, syn.stat.state := 4, syn.cfg2.dom := 9 }, by decide⟩,
   ⟨{ dom := 9, cn := 5, epoch := 0, maddr := 3 },
     { State.reset with syn.cfg.en := true, syn.stat.state := 1, syn.cfg2.dom := 9, syn.run := 5 }, by decide⟩,
   ⟨{ dom := 9, cn := 6, epoch := 0, maddr := 3 }, 20000000,
     { State.reset with syn.cfg.en := true, syn.stat.state := 1, syn.cfg2.dom := 9, syn.run := 7, syn.lastCn := 5 },
     by decide⟩,
   ⟨{ dom := 9, cn := 6, epoch := 0, maddr := 3 },
     { State.reset with syn.cfg.en := true, syn.stat.state := 2, syn.stat.miss := 3, syn.cfg2.dom := 9, cyc.cn := 6 },
     by decide⟩,
   ⟨State.reset, by decide⟩,
   ⟨{ State.reset with syn.stat.state := 2, syn.stat.miss := 6 }, by decide⟩,
   ⟨{ State.reset with syn.stat.state := 2, syn.stat.miss := 7 }, by decide⟩⟩

/-- States and operands that meet the hypotheses of each clause of `Obligations.HubCommands`. -/
theorem test_meets_HubCommands :
    (∃ (a : SynAddr) (tcn : Word) (tphase : BitVec 16) (op : Byte) (arg0 : Word) (arg1 : Word) (k : Fin 128) (s :
      State), a.dom = s.syn.cfg2.dom ∧ s.syn.stat.state = 2 ∧ synAddressed a.akind.toNat a.addr.toNat s = true ∧
      s.syn.acted.contains a.cmd = false ∧ submitCause
      { tcn := tcn, tphase := tphase, op := op, arg0 := arg0, arg1 := arg1, src := .slase, cmd := a.cmd } s = 0 ∧
      slotFor s = some k) ∧ (∃ (a : SynAddr) (tcn : Word) (tphase : BitVec 16) (op : Byte) (arg0 : Word) (arg1 : Word)
      (s : State), a.dom = s.syn.cfg2.dom ∧ s.syn.stat.state = 2 ∧ synAddressed a.akind.toNat a.addr.toNat s = true ∧
      s.syn.acted.contains a.cmd = false ∧ submitCause
      { tcn := tcn, tphase := tphase, op := op, arg0 := arg0, arg1 := arg1, src := .slase, cmd := a.cmd } s ≠ 0) ∧ (∃
      (a : SynAddr) (s : State), a.dom = s.syn.cfg2.dom ∧ s.syn.stat.state = 2 ∧ synAddressed a.akind.toNat
      a.addr.toNat s = true ∧ s.syn.acted.contains a.cmd = true) ∧ (∃ (a : SynAddr) (s : State), a.dom =
      s.syn.cfg2.dom ∧ (s.syn.stat.state ≠ 2 ∨ synAddressed a.akind.toNat a.addr.toNat s = false)) ∧ (∃ (a : SynAddr)
      (k : Fin 128) (s : State), a.dom = s.syn.cfg2.dom ∧ s.syn.stat.state = 2 ∧ synAddressed a.akind.toNat
      a.addr.toNat s = true ∧ s.syn.acted.contains a.cmd = false ∧ pendingCount s < 128 ∧ slotFor s = some k) ∧ (∃ (a
      : SynAddr) (s : State), a.dom ≠ s.syn.cfg2.dom) ∧ (∃ (dom : BitVec 16) (cmd : Word) (s : State), dom =
      s.syn.cfg2.dom ∧ s.syn.stat.state = 2 ∧ s.syn.acted.contains cmd = false) ∧ (∃ (dom : BitVec 16) (s : State),
      dom = s.syn.cfg2.dom ∧ s.syn.stat.state ≠ 2) ∧ (∃ (q : Requester) (s : State), synCause (synCmdOf (bankOf q s)
      s) (s.syn.banks.get (bankOf q s)).tx0.asap s ≠ 0) ∧ (∃ (q : Requester) (s : State), synCause (synCmdOf (bankOf q
      s) s) (s.syn.banks.get (bankOf q s)).tx0.asap s = 0) ∧ (∃ (s : State), s.syn.queue = []) ∧ (∃ (c : SynCmd) (rest
      : List SynCmd) (s : State), s.syn.queue = c :: rest ∧ (s.syn.stat.state ≠ 4 ∨ leadShort c s = true)) ∧ (∃ (c :
      SynCmd) (rest : List SynCmd) (s : State), s.syn.queue = c :: rest ∧ s.syn.stat.state = 4 ∧ leadShort c s =
      false) :=
  ⟨⟨{ dom := 0, cmd := 77, akind := 2, addr := 0 }, 9, 3, 4, 0, 0, 0, { State.reset with syn.stat.state := 2 }, by
     decide⟩,
   ⟨{ dom := 0, cmd := 77, akind := 2, addr := 0 }, 9, 3, 5, 8, 0, { State.reset with syn.stat.state := 2 }, by
     decide⟩,
   ⟨{ dom := 0, cmd := 77, akind := 2, addr := 0 }, { State.reset with syn.stat.state := 2, syn.acted := [5, 77] }, by
     decide⟩,
   ⟨{ dom := 0, cmd := 77, akind := 0, addr := 5 }, { State.reset with syn.stat.state := 2 }, by decide⟩,
   ⟨{ dom := 0, cmd := 77, akind := 0, addr := 5 }, 0, { State.reset with syn.stat.state := 2, syn.cfg.addr := 5 }, by
     decide⟩,
   ⟨{ dom := 4, cmd := 77, akind := 0, addr := 5 }, State.reset, by decide⟩,
   ⟨0, 8, { State.reset with syn.stat.state := 2 }, by decide⟩,
   ⟨0, State.reset, by decide⟩,
   ⟨.domA, State.reset, by decide⟩,
   ⟨.domA,
     { State.reset with syn.stat.state := 4, syn.banks := State.reset.syn.banks.upd .a (fun x => { x with tx0.asap := true, tx0.kind := 2, tx0.akind := 2 }) },
     by decide⟩,
   ⟨State.reset, by decide⟩,
   ⟨{ id := 4, kind := 2, akind := 2, addr := 0, target := 90, tphase := 0, op := 0, arg0 := 0, arg1 := 0, bank := .a },
     [],
     { State.reset with syn.stat.state := 5, syn.open_ := [(4, 90)], syn.queue := [{ id := 4, kind := 2, akind := 2, addr := 0, target := 90, tphase := 0, op := 0, arg0 := 0, arg1 := 0, bank := .a }] },
     by decide⟩,
   ⟨{ id := 4, kind := 2, akind := 2, addr := 0, target := 90, tphase := 0, op := 0, arg0 := 0, arg1 := 0, bank := .a },
     [],
     { State.reset with syn.stat.state := 4, syn.queue := [{ id := 4, kind := 2, akind := 2, addr := 0, target := 90, tphase := 0, op := 0, arg0 := 0, arg1 := 0, bank := .a }] },
     by decide⟩⟩

/-- States and operands that meet the hypotheses of each clause of `Obligations.ThatchEntry`. -/
theorem test_meets_ThatchEntry :
    (∃ (p : Port) (s : State), thDiscoverable (s.slice p) = true ∧ (s.slice p).pd.inflight.isSome = true ∧ carries
      (s.slice p) { ctx := .sop, kind := .vdm pdSid .discoverIdentity .req, prio := .ams } = true) ∧ (∃ (p : Port) (s
      : State), thDiscoverable (s.slice p) = false) ∧ (∃ (p : Port) (l : List (BitVec 16)) (s : State), (s.slice
      p).th.step = .svids ∧ l.contains thatchSvid = true ∧ (s.slice p).pd.inflight.isSome = true ∧ carries (s.slice p)
      { ctx := .sop, kind := .vdm thatchSvid .discoverModes .req, prio := .ams } = true) ∧ (∃ (p : Port) (l : List
      (BitVec 16)) (s : State), (s.slice p).th.step = .svids ∧ l.contains thatchSvid = false) ∧ (∃ (p : Port) (s :
      State), (s.slice p).th.step ≠ .svids) ∧ (∃ (p : Port) (v : Word) (s : State), (s.slice p).th.step = .modes ∧
      (getField v 4 4 : BitVec 4) = 1 ∧ (s.slice p).pd.inflight.isSome = true ∧ carries (s.slice p)
      { ctx := .sop, kind := .vdm thatchSvid .enterMode .req, prio := .ams, words := [thEnterVdo (s.slice p).th.thcfg v] }
      = true) ∧ (∃ (p : Port) (v : Word) (s : State), (s.slice p).th.step = .modes ∧ (getField v 4 4 : BitVec 4) ≠ 1)
      ∧ (∃ (p : Port) (l : List Word) (s : State), (s.slice p).th.step = .modes ∧ l.length ≠ 1) ∧ (∃ (p : Port) (s :
      State), (s.slice p).th.step = .enter) ∧ (∃ (p : Port) (s : State), (s.slice p).th.step = .enter) ∧ (∃ (p : Port)
      (s : State), (s.slice p).th.step = .enter ∧ (s.slice p).pd.busyCount < nBusyCount) ∧ (∃ (p : Port) (s : State),
      (s.slice p).th.step = .enter ∧ nBusyCount ≤ (s.slice p).pd.busyCount) ∧ (∃ (p : Port) (s : State), (s.slice
      p).th.step ≠ .enter) :=
  ⟨⟨2, st 2 (fun x =>
     { x with th.thcfg.en := true, att.attstat.state := 3, pd.conSince := true, pins.isog := true, pd.inflight := some { ctx := .sop, kind := .status, prio := .reply } }),
     by decide⟩,
   ⟨2, State.reset, by decide⟩,
   ⟨2, [0xFF01, 0x2F1D], st 2 (fun x =>
     { x with th.step := .svids, att.attstat.state := 3, pins.isog := true, pd.inflight := some { ctx := .sop, kind := .status, prio := .reply } }),
     by decide⟩,
   ⟨2, [0xFF01], st 2 (fun x => { x with th.step := .svids, th.thstat.state := 1 }), by decide⟩,
   ⟨2, State.reset, by decide⟩,
   ⟨2, 0xFF13, st 2 (fun x =>
     { x with th.step := .modes, att.attstat.state := 3, pins.isog := true, pd.inflight := some { ctx := .sop, kind := .status, prio := .reply } }),
     by decide⟩,
   ⟨2, 0xFF23, st 2 (fun x => { x with th.step := .modes, th.thstat.state := 1 }), by decide⟩,
   ⟨2, [1, 2], st 2 (fun x => { x with th.step := .modes, th.thstat.state := 1 }), by decide⟩,
   ⟨2, st 2 (fun x => { x with th.step := .enter, th.thstat.state := 2, th.thvdo := 0xFF13 }), by decide⟩,
   ⟨2, st 2 (fun x => { x with th.step := .enter, th.thstat.state := 2 }), by decide⟩,
   ⟨2, st 2 (fun x => { x with th.step := .enter, th.thstat.state := 2 }), by decide⟩,
   ⟨2, st 2 (fun x => { x with th.step := .enter, th.thstat.state := 2, pd.busyCount := 5 }), by decide⟩,
   ⟨2, State.reset, by decide⟩⟩

/-- States and operands that meet the hypotheses of each clause of `Obligations.ThatchTimers`. -/
theorem test_meets_ThatchTimers :
    (∃ (p : Port) (s : State), (s.slice p).th.step = .enter ∧ (s.slice p).th.enterTries < 3) ∧ (∃ (p : Port) (s :
      State), (s.slice p).th.step = .enter ∧ 3 ≤ (s.slice p).th.enterTries) ∧ (∃ (p : Port) (s : State), (s.slice
      p).th.thstat.state = 3) ∧ (∃ (p : Port) (s : State), (s.slice p).th.thstat.state ≠ 3) ∧ (∃ (p : Port) (s :
      State), (s.slice p).th.step = .identity) ∧ (∃ (p : Port) (s : State), (s.slice p).th.step = .svids) ∧ (∃ (p :
      Port) (s : State), (s.slice p).th.step = .modes) ∧ (∃ (p : Port) (s : State), (s.slice p).th.step = .exiting) ∧
      (∃ (p : Port) (s : State), (s.slice p).th.step = .idle) :=
  ⟨⟨2, st 2 (fun x => { x with th.step := .enter, th.thstat.state := 2, th.enterTries := 2 }), by decide⟩,
   ⟨2, st 2 (fun x => { x with th.step := .enter, th.thstat.state := 2, th.enterTries := 3 }), by decide⟩,
   ⟨2, st 2 (fun x => { x with th.thstat.state := 3 }), by decide⟩,
   ⟨2, State.reset, by decide⟩,
   ⟨2, st 2 (fun x => { x with th.step := .identity, th.thstat.state := 1 }), by decide⟩,
   ⟨2, st 2 (fun x => { x with th.step := .svids, th.thstat.state := 1 }), by decide⟩,
   ⟨2, st 2 (fun x => { x with th.step := .modes, th.thstat.state := 1 }), by decide⟩,
   ⟨2, st 2 (fun x => { x with th.step := .exiting }), by decide⟩,
   ⟨2, State.reset, by decide⟩⟩

/-- States and operands that meet the hypotheses of each clause of `Obligations.ThatchLink`. -/
theorem test_meets_ThatchLink :
    (∃ (p : Port) (s : State), (s.slice p).th.out = none) ∧ (∃ (p : Port) (s : State), (s.slice p).th.out = some 0 ∧
      ((s.slice p).th.thstat.state = 3 ∨ (s.slice p).th.thstat.state = 5)) ∧ (∃ (p : Port) (q : BitVec 4) (phase :
      BitVec 16) (s : State), (s.slice p).th.out = some q ∧ q ≠ 0 ∧ 0xE000 < phase.toNat ∧ (s.slice p).th.held = none
      ∧ (s.slice p).th.thstat.fegnt = false) ∧ (∃ (p : Port) (phase : BitVec 16) (s : State), (s.slice p).th.out =
      some 0 ∧ 0xE000 < phase.toNat) ∧ (∃ (p : Port) (q : BitVec 4) (c : ThCmd) (s : State), (s.slice p).th.out = some
      q ∧ q ≠ 0 ∧ (s.slice p).th.queue = [c] ∧ c.seq = some q ∧ 3 ≤ c.tries) ∧ (∃ (p : Port) (s : State), (s.slice
      p).th.out = none) ∧ (∃ (p : Port) (s : State), (s.slice p).th.out = none) ∧ (∃ (p : Port) (phase : BitVec 16) (s
      : State), (s.slice p).th.out = some 0 ∧ 0xE000 < phase.toNat) ∧ (∃ (p : Port) (s : State), 16 ≤ (s.slice
      p).th.missPolls ∧ ((s.slice p).th.thstat.state = 3 ∨ (s.slice p).th.thstat.state = 4)) ∧ (∃ (p : Port) (s :
      State), (s.slice p).th.missPolls < 16) ∧ (∃ (p : Port) (s : State), 64 ≤ (s.slice p).th.missPolls ∧ (s.slice
      p).th.thstat.state = 5 ∧ (s.slice p).th.thstat.reent.toNat < 3) ∧ (∃ (p : Port) (s : State), 64 ≤ (s.slice
      p).th.missPolls ∧ (s.slice p).th.thstat.state = 5 ∧ (s.slice p).th.thstat.reent = 3) ∧ (∃ (p : Port) (s :
      State), (s.slice p).th.missPolls < 64) ∧ (∃ (p : Port) (s : State), (s.slice p).th.reenter = true) ∧ (∃ (p :
      Port) (s : State), (s.slice p).th.reenter = false) ∧ (∃ (p : Port) (s : State), ((s.slice p).th.thstat.state = 3
      ∨ (s.slice p).th.thstat.state = 4 ∨ (s.slice p).th.thstat.state = 5) ∧ (s.slice p).pd.inflight.isSome = true ∧
      (s.slice p).pins.sbu = .thatch ∧ carries (s.slice p)
      { ctx := .sop, kind := .vdm thatchSvid .exitMode .req, prio := .ams } = true) ∧ (∃ (p : Port) (s : State),
      (s.slice p).th.thstat.state = 0) ∧ (∃ (p : Port) (s : State), (s.slice p).th.thstat.state = 6) ∧ (∃ (p : Port)
      (s : State), (s.slice p).th.thstat.state ≠ 6) :=
  ⟨⟨2, State.reset, by decide⟩,
   ⟨2, st 2 (fun x => { x with th.out := some 0, th.thstat.state := 3, th.thdim.cmdV := true }), by decide⟩,
   ⟨2, 5, 0xE001, st 2 (fun x =>
     { x with th.out := some 5, th.thstat.state := 4, th.queue := [{ msg := .ident 3, cls := .sched, seq := some 5 }, { msg := .dim 3 4, cls := .sched }] }),
     by decide⟩,
   ⟨2, 0xE001, st 2 (fun x => { x with th.out := some 0, th.thstat.state := 4 }), by decide⟩,
   ⟨2, 5, { msg := .ident 3, cls := .sched, seq := some 5, tries := 3 }, st 2 (fun x =>
     { x with th.out := some 5, th.thstat.state := 4, th.queue := [{ msg := .ident 3, cls := .sched, seq := some 5, tries := 3 }] }),
     by decide⟩,
   ⟨2, State.reset, by decide⟩,
   ⟨2, st 2 (fun x => { x with th.thcnt.badcrc := 7 }), by decide⟩,
   ⟨2, 0xE001, st 2 (fun x => { x with th.out := some 0, th.thstat.state := 4 }), by decide⟩,
   ⟨2, st 2 (fun x => { x with th.missPolls := 16, th.thstat.state := 4 }), by decide⟩,
   ⟨2, st 2 (fun x => { x with th.missPolls := 15, th.thstat.state := 4 }), by decide⟩,
   ⟨2, st 2 (fun x => { x with th.missPolls := 64, th.thstat.state := 5, th.thstat.reent := 2 }), by decide⟩,
   ⟨2, st 2 (fun x => { x with th.missPolls := 64, th.thstat.state := 5, th.thstat.reent := 3 }), by decide⟩,
   ⟨2, st 2 (fun x => { x with th.missPolls := 63, th.thstat.state := 5 }), by decide⟩,
   ⟨2, st 2 (fun x => { x with th.reenter := true }), by decide⟩,
   ⟨2, State.reset, by decide⟩,
   ⟨2, st 2 (fun x =>
     { x with th.thstat.state := 4, pins.sbu := .thatch, att.attstat.state := 3, pins.isog := true, pd.inflight := some { ctx := .sop, kind := .status, prio := .reply } }),
     by decide⟩,
   ⟨2, State.reset, by decide⟩,
   ⟨2, st 2 (fun x => { x with th.thstat.state := 6, th.noMore := true, th.thctl.cfgLk := true }), by decide⟩,
   ⟨2, State.reset, by decide⟩⟩

/-- States and operands that meet the hypotheses of each clause of `Obligations.TwoWireTarget`. -/
theorem test_meets_TwoWireTarget :
    (∃ (s : State), hostActive .a s = false) ∧ (∃ (s : State), hostActive .a s = true ∧ hostBusy .a s = true) ∧ (∃ (w
      : TwWrite) (s : State), hostActive .a s = true ∧ hostBusy .a s = false ∧ w.addr.msb = false ∧ s.hst.cfg.pecReq =
      true) ∧ (∃ (w : TwWrite) (s : State), hostActive .a s = true ∧ hostBusy .a s = false ∧ (w.addr.msb = true ∨
      s.hst.cfg.pecReq = false) ∧ w.data = [] ∧ w.pec = none) ∧ (∃ (w : TwWrite) (s : State), hostActive .a s = true ∧
      hostBusy .a s = false ∧ (w.addr.msb = true ∨ s.hst.cfg.pecReq = false) ∧ w.data ≠ [] ∧ twWriteCause w s ≠ 0 ∧
      twWriteCause w s ≠ 5) ∧ (∃ (w : TwWrite) (s : State), hostActive .a s = true ∧ hostBusy .a s = false ∧
      w.addr.msb = true ∧ w.data ≠ [] ∧ twWriteCause w s = 5) ∧ (∃ (w : TwWrite) (s : State), hostActive .a s = true ∧
      hostBusy .a s = false ∧ (w.addr.msb = true ∨ s.hst.cfg.pecReq = false) ∧ w.data ≠ [] ∧ twWriteCause w s = 0 ∧
      inRam (hostAddr w.addr) = true ∧ refusedBeat .domA (burstBeats (hostAddr w.addr) (bytesWords w.data)) s = none)
      ∧ (∃ (w : TwWrite) (a : Nat) (s : State), hostActive .a s = true ∧ hostBusy .a s = false ∧ (w.addr.msb = true ∨
      s.hst.cfg.pecReq = false) ∧ w.data ≠ [] ∧ twWriteCause w s = 0 ∧ refusedBeat .domA (burstBeats (hostAddr w.addr)
      (bytesWords w.data)) s = some a) ∧ (∃ (q : HostRead) (a : Word) (s : State), hostActive .a s = true ∧ hostBusy
      .a s = false ∧ q.addr = some a ∧ a.msb = false ∧ s.hst.cfg.pecReq = false ∧ hostAddr a % 4 = 0 ∧ q.lateAt = none
      ∧ ((∀ i, i < (q.bytes + 3) / 4 → inRam (hostAddr a + 4 * i) = true ∧ mapAllows .domA (hostAddr a + 4 * i) .read
      s = true))) ∧ (∃ (q : HostRead) (a : Word) (s : State), hostActive .a s = true ∧ hostBusy .a s = false ∧ q.addr
      = some a ∧ (a.msb = true ∨ s.hst.cfg.pecReq = false) ∧ hostAddr a % 4 ≠ 0) ∧ (∃ (q : HostRead) (a : Word) (s :
      State), hostActive .a s = true ∧ hostBusy .a s = false ∧ q.addr = some a ∧ a.msb = false ∧ s.hst.cfg.pecReq =
      false ∧ hostAddr a % 4 = 0 ∧ q.lateAt = some 0 ∧ q.bytes % 4 = 0 ∧ q.bytes ≠ 0) ∧ (∃ (s : State), hostActive .a
      s = false) ∧ (∃ (s : State), hostActive .a s = true) ∧ (∃ (s : State), hostActive .a s = false) :=
  ⟨⟨State.reset, by decide⟩,
   ⟨{ State.reset with cyc.running := true, hst.cfg.aEn := true, hst.a.mbstat.state := 1 }, by decide⟩,
   ⟨{ addr := 0x10000000, count := 0, data := [1, 2, 3, 4], pec := none },
     { State.reset with cyc.running := true, hst.cfg.aEn := true, hst.cfg.pecReq := true }, by decide⟩,
   ⟨{ addr := 0x90000008, count := 2, data := [], pec := none },
     { State.reset with cyc.running := true, hst.cfg.aEn := true, hst.cfg.pecReq := true }, by decide⟩,
   ⟨{ addr := 0x10000002, count := 0, data := [1, 2, 3, 4], pec := none },
     { State.reset with cyc.running := true, hst.cfg.aEn := true }, by decide⟩,
   ⟨{ addr := 0x90000008, count := 1, data := [1, 2, 3, 4], pec := some 0 },
     { State.reset with cyc.running := true, hst.cfg.aEn := true }, by decide⟩,
   ⟨{ addr := 0x10000010, count := 0, data := [1, 2, 3, 4, 5, 0, 7, 8], pec := none },
     { State.reset with cyc.running := true, hst.cfg.aEn := true, fab.active := State.reset.fab.active.set 0 (Vector.ofFn (fun i => if i.val = 0 then mkWindow 0x10000000 20 true true else {})) },
     by decide⟩,
   ⟨{ addr := 0x10000010, count := 0, data := [1, 2, 3, 4], pec := none }, 0x10000010,
     { State.reset with cyc.running := true, hst.cfg.aEn := true }, by decide⟩,
   ⟨{ addr := some 0x10000010, count := 0, bytes := 6, lateAt := none }, 0x10000010,
     { State.reset with cyc.running := true, hst.cfg.aEn := true, mem := [(0x10000011, 9)], fab.active := State.reset.fab.active.set 0 (Vector.ofFn (fun i => if i.val = 0 then mkWindow 0x10000000 20 true true else {})) },
     by decide⟩,
   ⟨{ addr := some 0x10000011, count := 0, bytes := 4, lateAt := none }, 0x10000011,
     { State.reset with cyc.running := true, hst.cfg.aEn := true }, by decide⟩,
   ⟨{ addr := some 0x10000010, count := 0, bytes := 8, lateAt := some 0 }, 0x10000010,
     { State.reset with cyc.running := true, hst.cfg.aEn := true }, by decide⟩,
   ⟨State.reset, by decide⟩,
   ⟨{ State.reset with cyc.running := true, hst.cfg.aEn := true }, by decide⟩,
   ⟨State.reset, by decide⟩⟩

/-- States and operands that meet the hypotheses of each clause of `Obligations.SpiTarget`. -/
theorem test_meets_SpiTarget :
    (∃ (w : SpiWrite) (s : State), hostActive .b s = true ∧ hostBusy .b s = false ∧ w.insideByte = true) ∧ (∃ (s :
      State), hostActive .b s = true ∧ hostBusy .b s = true) ∧ (∃ (w : SpiWrite) (s : State), hostActive .b s = true ∧
      hostBusy .b s = false ∧ w.insideByte = false ∧ (w.addr.toNat % 4 ≠ 0 ∨ w.data.length % 4 ≠ 0 ∨ 64 <
      w.data.length)) ∧ (∃ (w : SpiWrite) (s : State), hostActive .b s = true ∧ hostBusy .b s = false ∧ w.insideByte =
      false ∧ w.addr.toNat % 4 = 0 ∧ w.data = []) ∧ (∃ (w : SpiWrite) (s : State), hostActive .b s = true ∧ hostBusy
      .b s = false ∧ w.insideByte = false ∧ w.addr.toNat % 4 = 0 ∧ w.data ≠ [] ∧ w.data.length % 4 = 0 ∧ w.data.length
      ≤ 64 ∧ inRam (hostAddr w.addr) = true ∧ refusedBeat .domB (burstBeats (hostAddr w.addr) (bytesWords w.data)) s =
      none) ∧ (∃ (s : State), hostActive .b s = false) ∧ (∃ (a : Word) (n : Nat) (s : State), hostActive .b s = true ∧
      hostBusy .b s = false ∧ a.toNat % 4 = 0 ∧ ((∀ i, i < (n + 3) / 4 → inRam (hostAddr a + 4 * i) = true ∧ mapAllows
      .domB (hostAddr a + 4 * i) .read s = true))) ∧ (∃ (s : State), hostActive .b s = true ∧ hostBusy .b s = true) ∧
      (∃ (a : Word) (s : State), hostActive .b s = true ∧ hostBusy .b s = false ∧ a.toNat % 4 ≠ 0) ∧ (∃ (s : State),
      hostActive .b s = true ∧ hostBusy .b s = false) ∧ (∃ (s : State), hostActive .b s = false) ∧ (∃ (d : Domain) (s
      : State), (s.hst.bank d).applies = []) ∧ (∃ (d : Domain) (a : Nat) (cur : Word) (l : List (Nat × Word)) (s :
      State), (s.hst.bank d).applies = (a, cur) :: l ∧ mapAllows (domReq d) a .read s = true ∧ (evrBank (bankOf
      (domReq d) s) s).cur ≠ cur) ∧ (∃ (d : Domain) (a : Nat) (cur : Word) (l : List (Nat × Word)) (s : State),
      (s.hst.bank d).applies = (a, cur) :: l ∧ mapAllows (domReq d) a .read s = true ∧ (evrBank (bankOf (domReq d) s)
      s).cur = cur ∧ sideEffectBeat (domReq d) a s = true) ∧ (∃ (d : Domain) (a : Nat) (cur : Word) (l : List (Nat ×
      Word)) (s : State), (s.hst.bank d).applies = (a, cur) :: l ∧ mapAllows (domReq d) a .read s = false) :=
  ⟨⟨{ addr := 0x10000000, data := [1, 2, 3, 4], insideByte := true },
     { State.reset with cyc.running := true, hst.cfg.bEn := true }, by decide⟩,
   ⟨{ State.reset with cyc.running := true, hst.cfg.bEn := true, lcu.paused := true }, by decide⟩,
   ⟨{ addr := 0x10000000, data := [1, 2, 3], insideByte := false },
     { State.reset with cyc.running := true, hst.cfg.bEn := true }, by decide⟩,
   ⟨{ addr := 0x10000000, data := [], insideByte := false },
     { State.reset with cyc.running := true, hst.cfg.bEn := true }, by decide⟩,
   ⟨{ addr := 0x10000010, data := [1, 2, 3, 4, 5, 0, 7, 8], insideByte := false },
     { State.reset with cyc.running := true, hst.cfg.bEn := true, fab.active := State.reset.fab.active.set 1 (Vector.ofFn (fun i => if i.val = 0 then mkWindow 0x10000000 20 true true else {})) },
     by decide⟩,
   ⟨State.reset, by decide⟩,
   ⟨0x10000010, 5,
     { State.reset with cyc.running := true, hst.cfg.bEn := true, mem := [(0x10000011, 9)], fab.active := State.reset.fab.active.set 1 (Vector.ofFn (fun i => if i.val = 0 then mkWindow 0x10000000 20 true true else {})) },
     by decide⟩,
   ⟨{ State.reset with cyc.running := true, hst.cfg.bEn := true, lcu.paused := true }, by decide⟩,
   ⟨0x10000011, { State.reset with cyc.running := true, hst.cfg.bEn := true }, by decide⟩,
   ⟨{ State.reset with cyc.running := true, hst.cfg.bEn := true }, by decide⟩,
   ⟨State.reset, by decide⟩,
   ⟨.b, State.reset, by decide⟩,
   ⟨.b, 0x4002802C, 7, [],
     { State.reset with hst.b.applies := [(0x4002802C, 7)], fab.active := State.reset.fab.active.set 1 (Vector.ofFn (fun i => if i.val = 0 then mkWindow 0x40028000 12 true true else {})) },
     by decide⟩,
   ⟨.b, 0x4002802C, 0, [],
     { State.reset with hst.b.applies := [(0x4002802C, 0)], evr.bankB := { src := { auto := true, src := 1 }, ready := true }, evr.fwSeq := 1, evr.fwRing := [{ source := 3, seq := 0, data := 5 }], fab.active := State.reset.fab.active.set 1 (Vector.ofFn (fun i => if i.val = 0 then mkWindow 0x40028000 12 true true else {})) },
     by decide⟩,
   ⟨.b, 0x4002802C, 0, [], { State.reset with hst.b.applies := [(0x4002802C, 0)] }, by decide⟩⟩

/-- States and operands that meet the hypotheses of each clause of `Obligations.WardenMailboxAndAux`. -/
theorem test_meets_WardenMailboxAndAux :
    (∃ (d : Domain) (s : State), (s.hst.bank d).mbstat.state = 1 ∧ (s.hst.bank d).mbcmd = 1 ∧ (s.hst.bank d).mbarg = 0
      ∧ wardenRuns s = true) ∧ (∃ (d : Domain) (s : State), (s.hst.bank d).mbstat.state = 1 ∧ (s.hst.bank d).mbcmd = 1
      ∧ (s.hst.bank d).mbarg = 1 ∧ wardenRuns s = true) ∧ (∃ (d : Domain) (s : State), ((s.hst.bank d).mbstat.state ≠
      1 ∨ (s.hst.bank d).mbcmd ≠ 1)) ∧ (∃ (d : Domain) (s : State), (s.hst.bank d).mbstat.state = 1 ∧ (s.hst.bank
      d).mbcmd = 2 ∧ s.did.cond = .operation ∧ s.did.preReset = false) ∧ (∃ (d : Domain) (s : State), ((s.hst.bank
      d).mbstat.state ≠ 1 ∨ (s.hst.bank d).mbcmd ≠ 2)) ∧ (∃ (d : Domain) (s : State), (s.hst.bank d).mbstat.state = 1
      ∧ (s.hst.bank d).mbcmd = 3 ∧ wardenRuns s = true) ∧ (∃ (d : Domain) (s : State), ((s.hst.bank d).mbstat.state ≠
      1 ∨ (s.hst.bank d).mbcmd ≠ 3)) ∧ (∃ (d : Domain) (l : List (Fin 128)) (s : State), (s.hst.bank d).mbstat.state =
      1 ∧ (s.hst.bank d).mbcmd = 4 ∧ wardenRuns s = true ∧ l ≠ []) ∧ (∃ (d : Domain) (s : State), ((s.hst.bank
      d).mbstat.state ≠ 1 ∨ (s.hst.bank d).mbcmd ≠ 4)) ∧ (∃ (k : Fin 5) (s : State), (policyRuns s = false ∨
      s.aux.devs.get k = none)) ∧ (∃ (k : Fin 5) (dev : AuxDev) (s : State), policyRuns s = true ∧ s.aux.devs.get k =
      some dev ∧ k ≠ 0) ∧ (∃ (dev : AuxDev) (raw : BitVec 16) (s : State), policyRuns s = true ∧ s.aux.devs.get 0 =
      some dev ∧ auxScaled dev raw < dev.threshold ∧ s.aux.stat.glow = false) ∧ (∃ (k : Fin 5) (dev : AuxDev) (s :
      State), policyRuns s = true ∧ s.aux.devs.get k = some dev ∧ (s.aux.vals.get k).valid = true ∧
      s.aux.stat.nack.getLsbD k.val = false) ∧ (∃ (k : Fin 5) (dev : AuxDev) (s : State), policyRuns s = true ∧
      s.aux.devs.get k = some dev) :=
  ⟨⟨.a, { State.reset with did.warden.started := true, hst.a.mbstat.state := 1, hst.a.mbcmd := 1, evr.next := 9 }, by
     decide⟩,
   ⟨.b,
     { State.reset with did.warden.started := true, hst.b.mbstat.state := 1, hst.b.mbcmd := 1, hst.b.mbarg := 1, evr.fwSeq := 9 },
     by decide⟩,
   ⟨.b, State.reset, by decide⟩,
   ⟨.a,
     { st 3 (fun x => { x with pins.isog := true }) with did.cond := .operation, hst.a.mbstat.state := 1, hst.a.mbcmd := 2 },
     by decide⟩,
   ⟨.b, State.reset, by decide⟩,
   ⟨.a, { State.reset with did.warden.started := true, hst.a.mbstat.state := 1, hst.a.mbcmd := 3, hst.a.mbarg := 1 },
     by decide⟩,
   ⟨.b, State.reset, by decide⟩,
   ⟨.a, [3, 40], { State.reset with did.warden.started := true, hst.a.mbstat.state := 1, hst.a.mbcmd := 4 }, by
     decide⟩,
   ⟨.b, State.reset, by decide⟩,
   ⟨2, State.reset, by decide⟩,
   ⟨2, { addr := 9, reg := 1, interval := 100, num := 65536, offset := 0, threshold := 0, hysteresis := 0 },
     { State.reset with did.policy.started := true, aux.devs := #v[none, none, some { addr := 9, reg := 1, interval := 100, num := 65536, offset := 0, threshold := 0, hysteresis := 0 }, none, none], aux.stat.nack := 4 },
     by decide⟩,
   ⟨{ addr := 9, reg := 1, interval := 100, num := 65536, offset := 0, threshold := 10, hysteresis := 2 }, 7,
     { State.reset with did.policy.started := true, aux.devs := #v[some { addr := 9, reg := 1, interval := 100, num := 65536, offset := 0, threshold := 10, hysteresis := 2 }, none, none, none, none] },
     by decide⟩,
   ⟨2, { addr := 9, reg := 1, interval := 100, num := 65536, offset := 0, threshold := 0, hysteresis := 0 },
     { State.reset with did.policy.started := true, aux.devs := #v[none, none, some { addr := 9, reg := 1, interval := 100, num := 65536, offset := 0, threshold := 0, hysteresis := 0 }, none, none], aux.vals := updAt State.reset.aux.vals 2 (fun v => { v with valid := true }) },
     by decide⟩,
   ⟨2, { addr := 9, reg := 1, interval := 100, num := 65536, offset := 0, threshold := 0, hysteresis := 0 },
     { State.reset with did.policy.started := true, aux.devs := #v[none, none, some { addr := 9, reg := 1, interval := 100, num := 65536, offset := 0, threshold := 0, hysteresis := 0 }, none, none] },
     by decide⟩⟩

/-- States and operands that meet the hypotheses of each clause of `Obligations.FabricAndDma`. -/
theorem test_meets_FabricAndDma :
    (∃ (q : Requester) (a : Word) (s : State), s.memOk = true ∧ requesterRuns q s = true ∧ a.toNat % 4 = 0 ∧ inRam
      a.toNat = true ∧ mapAllows q a.toNat .write s = true) ∧ (∃ (q : Requester) (a : Word) (s : State), requesterRuns
      q s = true ∧ a.toNat % 4 = 0 ∧ mapAllows q a.toNat .write s = false) ∧ (∃ (s : State), wardenRuns s = true ∧
      s.sup.lock.cfgLk = true) ∧ (∃ (s : State), wardenRuns s = true ∧ s.sup.lock.cfgLk = false) ∧ (∃ (q : Requester)
      (a : Word) (s : State), (requesterRuns q s = false ∨ a.toNat % 4 ≠ 0)) ∧ (∃ (a : Word), inRam a.toNat = false) ∧
      (∃ (a : Word), inRam a.toNat = true) ∧ (∃ (a : Word), inRam a.toNat = true) ∧ (∃ (c : Fin 16) (a : Word) (s :
      State), inRam a.toNat = true ∧ (s.dma.get c).stat.state = 2) :=
  ⟨⟨.warden, 0x100FFFFC, { State.reset with did.warden.started := true, mem := [(0x100FFFFD, 3)] }, by decide⟩,
   ⟨.domA, 0x10000000, { State.reset with did.cond := .operation }, by decide⟩,
   ⟨{ State.reset with did.warden.started := true, sup.lock.cfgLk := true }, by decide⟩,
   ⟨{ State.reset with did.warden.started := true }, by decide⟩,
   ⟨.warden, 0x10000001, { State.reset with did.warden.started := true }, by decide⟩,
   ⟨0x40000000, by decide⟩,
   ⟨0x10000000, by decide⟩,
   ⟨0x10000000, by decide⟩,
   ⟨4, 0x50000000, { State.reset with dma := updAt State.reset.dma 4 (fun x => { x with stat.state := 2 }) }, by
     decide⟩⟩

/-- States and operands that meet the hypotheses of each clause of `Obligations.DmaChannels`. -/
theorem test_meets_DmaChannels :
    (∃ (q : Requester) (c : Fin 16) (s : State), hasBank q = true ∧ (s.dma.get c).stat.state ≠ 2) ∧ (∃ (q : Requester)
      (c : Fin 16) (s : State), hasBank q = true ∧ (s.dma.get c).ownedBy (bankOf q s) = true ∧ (s.dma.get
      c).stat.state ≠ 2) ∧ (∃ (q : Requester) (c : Fin 16) (s : State), (hasBank q = false ∨ (s.dma.get c).ownedBy
      (bankOf q s) = false)) ∧ (∃ (q : Requester) (c : Fin 16) (s : State), hasBank q = true ∧ (s.dma.get c).ownedBy
      (bankOf q s) = true ∧ (s.dma.get c).stat.state = 2) ∧ (∃ (q : Requester) (c : Fin 16) (s : State), hasBank q =
      true ∧ (s.dma.get c).ownedBy (bankOf q s) = true ∧ (s.dma.get c).stat.state = 3) ∧ (∃ (q : Requester) (c : Fin
      16) (s : State), (hasBank q = false ∨ (s.dma.get c).ownedBy (bankOf q s) = false)) ∧ (∃ (c : Fin 16) (s :
      State), (s.dma.get c).stat.state ≠ 2) ∧ (∃ (c : Fin 16) (d : DmaDesc) (s : State), s.memOk = true ∧ (s.dma.get
      c).stat.state = 2 ∧ (s.dma.get c).desc = some d ∧ d.sfix = false ∧ d.dfix = false ∧ d.src % 4 = 0 ∧ d.dst % 4 =
      0 ∧ (s.dma.get c).done % 4 = 0 ∧ d.next = 0 ∧ (s.dma.get c).done + 4 * dmaBeats (s.dma.get c) d s = d.len ∧ ((∀
      i, i < dmaBeats (s.dma.get c) d s → inRam (d.src + (s.dma.get c).done + 4 * i) = true ∧ mapAllows (.dma c)
      (d.src + (s.dma.get c).done + 4 * i) .read s = true)) ∧ ((∀ i, i < dmaBeats (s.dma.get c) d s → inRam (d.dst +
      (s.dma.get c).done + 4 * i) = true ∧ mapAllows (.dma c) (d.dst + (s.dma.get c).done + 4 * i) .write s = true)))
      ∧ (∃ (c : Fin 16) (s : State), (s.dma.get c).stat.state = 2 ∧ (s.dma.get c).desc = none ∧ mapAllows (.dma c)
      (s.dma.get c).cur.toNat .read s = false) :=
  ⟨⟨.domB, 4,
     { State.reset with dma := updAt State.reset.dma 4 (fun x => { x with stat.state := 5, stat.cause := 3 }) }, by
     decide⟩,
   ⟨.domB, 4,
     { State.reset with dma := updAt State.reset.dma 4 (fun x => { x with stat.state := 1, ctl.arm := true, ctl.owner := 1, first := 0x10000104 }) },
     by decide⟩,
   ⟨.domA, 4,
     { State.reset with dma := updAt State.reset.dma 4 (fun x => { x with stat.state := 1, ctl.arm := true, ctl.owner := 1, first := 0x10000104 }) },
     by decide⟩,
   ⟨.domB, 4,
     { State.reset with dma := updAt State.reset.dma 4 (fun x => { x with stat.state := 2, ctl.arm := true, ctl.owner := 1 }) },
     by decide⟩,
   ⟨.domB, 4,
     { State.reset with dma := updAt State.reset.dma 4 (fun x => { x with stat.state := 3, ctl.arm := true, ctl.owner := 1 }) },
     by decide⟩,
   ⟨.domA, 4, State.reset, by decide⟩,
   ⟨4, State.reset, by decide⟩,
   ⟨4, { src := 0x10000100, dst := 0x10000104, len := 8, sfix := false, dfix := false, evt := false, next := 0 },
     { State.reset with mem := [(0x10000100, 9), (0x10000105, 8)], fab.active := State.reset.fab.active.set 1 (Vector.ofFn (fun i => if i.val = 0 then mkWindow 0x10000000 20 true true else {})), dma := updAt State.reset.dma 4 (fun x => { x with stat.state := 2, ctl.arm := true, ctl.owner := 1, ctl.burst := 8, desc := some { src := 0x10000100, dst := 0x10000104, len := 8, sfix := false, dfix := false, evt := false, next := 0 } }) },
     by decide⟩,
   ⟨4,
     { State.reset with dma := updAt State.reset.dma 4 (fun x => { x with stat.state := 2, ctl.arm := true, ctl.owner := 1, cur := 0x10000100 }) },
     by decide⟩⟩

/-- States and operands that meet the hypotheses of each clause of `Obligations.RecorderAndAggregator`. -/
theorem test_meets_RecorderAndAggregator :
    (∃ (k : Bank) (rd : SectorRead) (s : State), (evrBank k s).ready = false ∧ evrStale (evrBank k s) s = false ∧
      evrEmpty (evrBank k s) s = false ∧ ((evrBank k s).src.src ≠ 2 ∨ rd ≠ .bad)) ∧ (∃ (k : Bank) (s : State),
      (evrBank k s).ready = false ∧ evrStale (evrBank k s) s = false ∧ evrEmpty (evrBank k s) s = false ∧ (evrBank k
      s).src.src = 2) ∧ (∃ (k : Bank) (s : State), (evrBank k s).ready = false ∧ (evrStale (evrBank k s) s = true ∨
      evrEmpty (evrBank k s) s = true)) ∧ (∃ (k : Bank) (s : State), (evrBank k s).ready = true) ∧ (∃ (q : Requester)
      (s : State), evrSideEffect (bankOf q s) s = true) ∧ (∃ (q : Requester) (cur : Word) (s : State), (evrSideEffect
      (bankOf q s) s = false ∨ (evrBank (bankOf q s) s).cur ≠ cur)) ∧ (∃ (s : State), s.evr.running = true ∧ 32 ≤
      (s.evr.next - drainBase s.evr).toNat ∧ s.nvc.staged.length < 8 ∧ s.evr.lostNow = 0) ∧ (∃ (s : State),
      s.evr.running = true ∧ 32 ≤ (s.evr.next - drainBase s.evr).toNat ∧ 8 ≤ s.nvc.staged.length) ∧ (∃ (s : State),
      s.evr.running = true ∧ 32 ≤ (s.evr.fwSeq - s.evr.fwDrained).toNat ∧ s.nvc.staged.length < 8) ∧ (∃ (s : State),
      s.evr.running = false) ∧ (∃ (s : State), (s.did.cond = .reset ∨ s.did.cond = .unpowered)) ∧ (∃ (s : State),
      s.did.cond = .operation ∧ s.evr.opmin.minF.toNat < 0xFFFFFE ∧ s.evr.sincePeriodic < 59) ∧ (∃ (s : State),
      s.did.cond = .operation ∧ s.evr.opmin.minF = 0xFFFFFE ∧ s.evr.opmin.sat = false) ∧ (∃ (o : FlashOp) (s : State),
      s.evr.running = true ∧ s.sup.pfw = false ∧ s.nand.flushErased < 2 ∧ s.nand.flushN = 8 ∧ o.fails = false ∧
      o.wear.toNat ≤ s.nvc.wear.maxw.toNat) ∧ (∃ (o : FlashOp) (s : State), s.evr.running = true ∧ s.sup.pfw = false ∧
      s.nand.flushErased < 2 ∧ o.fails = false ∧ s.nvc.wear.maxw.toNat ≤ 50000 ∧ 50000 < o.wear.toNat) ∧ (∃ (o :
      FlashOp) (s : State), s.evr.running = true ∧ s.sup.pfw = false ∧ s.nand.flushErased < 2 ∧ s.nand.free = 0 ∧
      s.nand.logN ≤ 64 ∧ s.nand.flushN = 2 ∧ o.fails = true) ∧ (∃ (s : State), (s.sup.pfw = true ∨ 2 ≤
      s.nand.flushErased)) ∧ (∃ (s : State), 8 ≤ s.nvc.staged.length) ∧ (∃ (s : State), s.nvc.staged.length < 8 ∧
      (s.nvc.logwin.filter (fun x => x.1 != 127)).length ≠ 127) ∧ (∃ (s : State), s.nvc.staged.length < 8 ∧
      (s.nvc.logwin.filter (fun x => x.1 != 127)).length = 127) ∧ (∃ (s : State), s.nvc.staged = []) ∧ (∃ (o :
      FlashOp) (s : State), s.nvc.staged ≠ [] ∧ o.fails = false ∧ o.wear.toNat ≤ s.nvc.wear.maxw.toNat ∧ (s.nand.log
      ++ padPage (s.nvc.staged.take 4).flatten).length ≤ s.nand.logN * 8192 ∧ s.nand.logN ≠ 0) ∧ (∃ (o : FlashOp) (s :
      State), s.nvc.staged ≠ [] ∧ o.fails = true ∧ 0 < s.nand.free ∧ (s.nand.log ++ padPage (s.nvc.staged.take
      4).flatten).length ≤ s.nand.logN * 8192 ∧ s.nand.logN ≠ 0) ∧ (∃ (o : FlashOp) (s : State), s.nvc.staged ≠ [] ∧
      o.fails = true ∧ s.nand.free = 0 ∧ 65 < s.nand.logN ∧ (s.nand.log.drop 8192 ++ padPage (s.nvc.staged.take
      4).flatten).length ≤ (s.nand.logN - 1) * 8192) :=
  ⟨⟨.b, .bad,
     { State.reset with evr.bankB.src.src := 1, evr.fwSeq := 1, evr.fwRing := [{ source := 3, seq := 0, data := 5 }] },
     by decide⟩,
   ⟨.b, { State.reset with evr.bankB.src.src := 2, nand.log := [{ w0 := 1 }] }, by decide⟩,
   ⟨.b, State.reset, by decide⟩,
   ⟨.b, { State.reset with evr.bankB.ready := true }, by decide⟩,
   ⟨.domB,
     { State.reset with evr.bankB := { src := { auto := true, src := 1 }, ready := true }, evr.fwSeq := 1, evr.fwRing := [{ source := 3, seq := 0, data := 5 }] },
     by decide⟩,
   ⟨.domB, 4, State.reset, by decide⟩,
   ⟨{ State.reset with evr.running := true, evr.next := 40 }, by decide⟩,
   ⟨{ State.reset with evr.running := true, evr.next := 40, nvc.staged := [[], [], [], [], [], [], [], []] }, by
     decide⟩,
   ⟨{ State.reset with evr.running := true, evr.fwSeq := 40 }, by decide⟩,
   ⟨State.reset, by decide⟩,
   ⟨State.reset, by decide⟩,
   ⟨{ State.reset with did.cond := .operation, evr.opmin.minF := 0xFFFFFD }, by decide⟩,
   ⟨{ State.reset with did.cond := .operation, evr.opmin.minF := 0xFFFFFE }, by decide⟩,
   ⟨{ fails := false, wear := 7 },
     { State.reset with evr.running := true, nand.flushErased := 1, nand.flushN := 8, nvc.wear.maxw := 7 }, by decide⟩,
   ⟨{ fails := false, wear := 50001 },
     { State.reset with evr.running := true, nand.flushErased := 1, nvc.wear.maxw := 50000 }, by decide⟩,
   ⟨{ fails := true, wear := 0 },
     { State.reset with evr.running := true, nand.flushErased := 1, nand.flushN := 2, nand.logN := 64, nvc.err.badnew := 0xFF },
     by decide⟩,
   ⟨{ State.reset with sup.pfw := true }, by decide⟩,
   ⟨{ State.reset with nvc.staged := [[], [], [], [], [], [], [], []] }, by decide⟩,
   ⟨State.reset, by decide⟩,
   ⟨{ State.reset with nvc.logwin := (List.range 127).map (fun i => (i, 7)) }, by decide⟩,
   ⟨State.reset, by decide⟩,
   ⟨{ fails := false, wear := 7 },
     { State.reset with nvc.wear.maxw := 8, nvc.staged := [[{ w0 := 1 }], [], [], [], []], nand.logN := 1 }, by
     decide⟩,
   ⟨{ fails := true, wear := 7 },
     { State.reset with nvc.staged := [[{ w0 := 1 }], [], [], [], []], nand.logN := 1, nand.free := 41, nand.free0 := 164 },
     by decide⟩,
   ⟨{ fails := true, wear := 7 }, { State.reset with nvc.staged := [[{ w0 := 1 }], [], [], [], []], nand.logN := 66 },
     by decide⟩⟩

/-- States and operands that meet the hypotheses of each clause of `Obligations.Fuses`. -/
theorem test_meets_Fuses :
    (∃ (s : State), s.otp.job = none) ∧ (∃ (w : Fin 128) (jtag : BitVec 40) (jdata : BitVec 40) (s : State), s.otp.job
      = some { word := w, row := none, tag := jtag, data := jdata }) ∧ (∃ (w : Fin 128) (k : Fin 4) (jtag : BitVec 40)
      (jdata : BitVec 40) (s : State), s.otp.job = some { word := w, row := some k, tag := jtag, data := jdata }) ∧ (∃
      (s : State), s.otp.job = none) ∧ (∃ (w : Fin 128) (jtag : BitVec 40) (jdata : BitVec 40) (s : State), s.otp.job
      = some { word := w, row := none, tag := jtag, data := jdata }) ∧ (∃ (w : Fin 128) (seq : Byte) (data : Word)
      (auth : Option AuthBlock) (s : State), svcFresh 0x30 seq (le32 (BitVec.ofNat 32 w.val) ++ le32 data ++ authBytes
      auth) s = true ∧ s.did.cond = .operation ∧ lifecycle s.otp < 2 ∧ wardenRuns s = true ∧ burnCause w false s = 0)
      ∧ (∃ (w : Fin 128) (seq : Byte) (data : Word) (auth : Option AuthBlock) (s : State), svcFresh 0x30 seq (le32
      (BitVec.ofNat 32 w.val) ++ le32 data ++ authBytes auth) s = true ∧ s.did.cond = .operation ∧ lifecycle s.otp < 2
      ∧ wardenRuns s = true ∧ burnCause w false s ≠ 0) ∧ (∃ (seq : Byte) (burn : Word) (data : Word) (auth : Option
      AuthBlock) (s : State), svcFresh 0x30 seq (le32 burn ++ le32 data ++ authBytes auth) s = true ∧ s.did.cond =
      .operation ∧ 2 ≤ lifecycle s.otp ∧ authOk 0x30 (le32 burn ++ le32 data) auth s = false) ∧ (∃ (seq : Byte) (w :
      Fin 128) (v : Word) (auth : Option AuthBlock) (s : State), svcFresh 0x31 seq (le32 (BitVec.ofNat 32 w.val) ++
      le32 v ++ authBytes auth) s = true ∧ s.did.cond = .operation ∧ lifecycle s.otp < 2 ∧ wardenRuns s = true ∧
      overrideOk s.otp w.val = true) ∧ (∃ (seq : Byte) (w : Fin 128) (v : Word) (auth : Option AuthBlock) (s : State),
      svcFresh 0x31 seq (le32 (BitVec.ofNat 32 w.val) ++ le32 v ++ authBytes auth) s = true ∧ s.did.cond = .operation
      ∧ lifecycle s.otp < 2 ∧ wardenRuns s = true ∧ overrideOk s.otp w.val = false) ∧ (∃ (seq : Byte) (w : Word) (v :
      Word) (auth : Option AuthBlock) (s : State), svcFresh 0x31 seq (le32 w ++ le32 v ++ authBytes auth) s = true ∧
      s.did.cond = .operation ∧ 2 ≤ lifecycle s.otp ∧ authOk 0x31 (le32 w ++ le32 v) auth s = false) ∧ (∃ (seq : Byte)
      (bits : Word) (auth : Option AuthBlock) (s : State), svcFresh 0x32 seq (le32 bits ++ authBytes auth) s = true ∧
      s.did.cond = .operation ∧ lifecycle s.otp < 2 ∧ wardenRuns s = true) ∧ (∃ (seq : Byte) (bits : Word) (auth :
      Option AuthBlock) (s : State), svcFresh 0x32 seq (le32 bits ++ authBytes auth) s = true ∧ s.did.cond =
      .operation ∧ 2 ≤ lifecycle s.otp ∧ wardenRuns s = true) ∧ (∃ (seq : Byte) (code : Byte) (auth : Option
      AuthBlock) (s : State), svcFresh 0x33 seq ([code, 0, 0, 0] ++ authBytes auth) s = true ∧ lifecycle s.otp < 2 ∧
      code.toNat = lifecycle s.otp + 1 ∧ (s.did.cond = .recovery ∨ wardenRuns s = true) ∧ lifecycleAllowed true s =
      true) ∧ (∃ (seq : Byte) (code : Byte) (auth : Option AuthBlock) (s : State), svcFresh 0x33 seq ([code, 0, 0, 0]
      ++ authBytes auth) s = true ∧ lifecycle s.otp < 2 ∧ code.toNat ≠ lifecycle s.otp + 1) ∧ (∃ (seq : Byte) (code :
      Byte) (auth : Option AuthBlock) (s : State), svcFresh 0x33 seq ([code, 0, 0, 0] ++ authBytes auth) s = true ∧ 2
      ≤ lifecycle s.otp ∧ authOk 0x33 [code, 0, 0, 0] auth s = false) ∧ (∃ (k : BitVec 3) (s : State), s.otp.change =
      some k ∧ s.otp.job = none ∧ s.did.preReset = false ∧ s.did.cond = .operation) ∧ (∃ (s : State), (s.otp.change =
      none ∨ s.otp.job ≠ none)) :=
  ⟨⟨State.reset, by decide⟩,
   ⟨40, 0, 5, { State.reset with otp.job := some { word := 40, row := none, tag := 0, data := 5 } }, by decide⟩,
   ⟨40, 2, 3, 5, { State.reset with otp.job := some { word := 40, row := some 2, tag := 3, data := 5 } }, by decide⟩,
   ⟨State.reset, by decide⟩,
   ⟨40, 0, 5, { State.reset with otp.job := some { word := 40, row := none, tag := 0, data := 5 } }, by decide⟩,
   ⟨40, 3, 0x12345678, none,
     { State.reset with did.cond := .operation, did.warden.started := true, sup.vaux.vhk := 500 }, by decide⟩,
   ⟨3, 3, 0x12345678, none,
     { State.reset with did.cond := .operation, did.warden.started := true, sup.vaux.vhk := 500 }, by decide⟩,
   ⟨3, 40, 1, none, { State.reset with did.cond := .operation, otp.wr := 4 }, by decide⟩,
   ⟨3, 40, 77, none, { State.reset with did.cond := .operation, did.warden.started := true }, by decide⟩,
   ⟨3, 16, 77, none, { State.reset with did.cond := .operation, did.warden.started := true }, by decide⟩,
   ⟨3, 40, 1, none, { State.reset with did.cond := .operation, otp.wr := 8 }, by decide⟩,
   ⟨3, 0xFFFFFFFF, none, { State.reset with did.cond := .operation, did.warden.started := true, otp.wr := 2 }, by
     decide⟩,
   ⟨3, 0x100, some { pub := [1], sig := [2] },
     { State.reset with did.cond := .operation, did.warden.started := true, otp.wr := 4 }, by decide⟩,
   ⟨3, 2, none, { State.reset with did.cond := .recovery, sup.vaux.vhk := 500, otp.wr := 0xFF00000842 }, by decide⟩,
   ⟨3, 3, none, { State.reset with did.cond := .recovery, otp.wr := 2 }, by decide⟩,
   ⟨3, 4, none, { State.reset with did.cond := .recovery, otp.wr := 8 }, by decide⟩,
   ⟨2, { State.reset with did.cond := .operation, otp.change := some 2 }, by decide⟩,
   ⟨State.reset, by decide⟩⟩

/-- States and operands that meet the hypotheses of each clause of `Obligations.PagesAndSettings`. -/
theorem test_meets_PagesAndSettings :
    (∃ (q : Requester) (s : State), bankOf q s ≠ .p ∧ bankOf q s ≠ .w) ∧ (∃ (bad : BitVec 4) (s : State), bad ≠ 0 ∧
      s.nvc.pgP.sel.part = 7) ∧ (∃ (bad : BitVec 4) (s : State), bad ≠ 0 ∧ s.nvc.pgW.sel.part = 2 ∧ 0 < s.nand.free) ∧
      (∃ (bad : BitVec 4) (s : State), bad ≠ 0 ∧ s.nvc.pgW.sel.part = 3 ∧ s.nand.free = 0 ∧ s.nand.logN ≤ 64) ∧ (∃ (o
      : FlashOp) (s : State), s.nvc.setstat.pend = true ∧ s.sup.pfw = false ∧ wardenRuns s = true ∧
      s.nand.settings.find? (fun e => e.good) = none ∧ 2 ≤ s.nand.setN ∧ o.fails = false ∧ o.wear.toNat ≤
      s.nvc.wear.maxw.toNat) ∧ (∃ (o : FlashOp) (ent : SettingsEntry) (s : State), s.nvc.setstat.pend = true ∧
      s.sup.pfw = false ∧ wardenRuns s = true ∧ s.nand.settings.find? (fun e => e.good) = some ent ∧ 2 ≤ s.nand.setN ∧
      o.fails = false ∧ o.wear.toNat ≤ s.nvc.wear.maxw.toNat) ∧ (∃ (o : FlashOp) (s : State), s.nvc.setstat.pend =
      true ∧ s.sup.pfw = false ∧ wardenRuns s = true ∧ s.nand.setN = 2 ∧ s.nand.free = 0 ∧ s.nand.logN ≤ 64 ∧ o.fails
      = true) ∧ (∃ (s : State), (s.nvc.setstat.pend = false ∨ s.sup.pfw = true ∨ wardenRuns s = false ∨ s.nand.setN <
      2)) ∧ (∃ (f : FlashInfo) (s : State), s.did.cond = .boot ∧ s.did.preReset = false ∧ s.did.boot.stage = 3 ∧
      f.size ≠ 0 ∧ f.ptBad = true) ∧ (∃ (f : FlashInfo) (s : State), s.did.cond = .boot ∧ s.did.preReset = false ∧
      s.did.boot.stage = 3 ∧ f.size ≠ 0 ∧ f.ptBad = false ∧ 0 < s.nand.free ∧ s.did.secondBank = false) :=
  ⟨⟨.domB, State.reset, by decide⟩,
   ⟨13, { State.reset with nvc.err.unc := 254, nvc.pgP.sel.part := 7 }, by decide⟩,
   ⟨13, { State.reset with nvc.pgW.sel.part := 2, nand.free := 5, nand.free0 := 164 }, by decide⟩,
   ⟨1, { State.reset with nvc.pgW.sel.part := 3, nand.logN := 64 }, by decide⟩,
   ⟨{ fails := false, wear := 0 },
     { State.reset with nvc.setstat.pend := true, did.warden.started := true, lcu.hostLock := true, nand.setN := 32 },
     by decide⟩,
   ⟨{ fails := false, wear := 0 }, { fmt := 1, seq := 0xFFFFFFFF, cfgId := 2, items := [] },
     { State.reset with nvc.setstat.pend := true, did.warden.started := true, nand.setN := 2, nand.settings := [{ fmt := 1, seq := 9, cfgId := 2, items := [], good := false }, { fmt := 1, seq := 0xFFFFFFFF, cfgId := 2, items := [] }] },
     by decide⟩,
   ⟨{ fails := true, wear := 0 },
     { State.reset with nvc.setstat.pend := true, did.warden.started := true, nand.setN := 2 }, by decide⟩,
   ⟨{ State.reset with sup.pfw := true, nand.setN := 4 }, by decide⟩,
   ⟨{ size := 1, ptCopy := true, ptBad := true, maxw := 5 },
     { State.reset with did.cond := .boot, did.boot.stage := 3 }, by decide⟩,
   ⟨{ size := 1, ptCopy := false, ptBad := false, maxw := 5 },
     { State.reset with did.cond := .boot, did.boot.stage := 3, nand.free := 9 }, by decide⟩⟩

/-- States and operands that meet the hypotheses of each clause of `Obligations.ServiceFrames`. -/
theorem test_meets_ServiceFrames :
    (∃ (s : State), svcActive s = true) ∧ (∃ (s : State), svcActive s = false) ∧ (∃ (seq : Byte) (code : Byte) (s :
      State), svcFresh 0x02 seq [code] s = true ∧ code.toNat ≤ 5 ∧ (s.did.cond = .recovery ∨ code.toNat ≤
      s.lcu.maxBaud.toNat)) ∧ (∃ (seq : Byte) (code : Byte) (s : State), svcFresh 0x02 seq [code] s = true ∧ (5 <
      code.toNat ∨ (s.did.cond = .operation ∧ s.lcu.maxBaud.toNat < code.toNat))) ∧ (∃ (seq : Byte) (code : Byte) (s :
      State), (s.lcu.last = some (seq, crc16 (svcFrame 0x02 seq [code])) ∨ svcActive s = false)) ∧ (∃ (seq : Byte) (s
      : State), svcFresh 0x01 seq [] s = true) ∧ (∃ (seq : Byte) (s : State), svcActive s = true ∧ s.lcu.last ≠ some
      (seq, crc16 (svcFrame 0x03 seq []))) ∧ (∃ (seq : Byte) (a : Word) (s : State), svcFresh 0x20 seq (le32 a ++ [1])
      s = true ∧ s.did.cond = .operation ∧ s.lcu.paused = false ∧ a.toNat < 2 ^ 31 ∧ a.toNat % 4 = 0 ∧ isReg a.toNat =
      true ∧ mapAllows .domS a.toNat .read s = true) ∧ (∃ (seq : Byte) (a : Word) (s : State), svcFresh 0x20 seq (le32
      a ++ [1]) s = true ∧ s.did.cond = .operation ∧ s.lcu.paused = false ∧ a.toNat < 2 ^ 31 ∧ a.toNat % 4 = 0 ∧
      mapAllows .domS a.toNat .read s = false) ∧ (∃ (seq : Byte) (a : Word) (s : State), svcFresh 0x20 seq (le32 a ++
      [1]) s = true ∧ s.did.cond = .operation ∧ a.toNat % 4 ≠ 0) ∧ (∃ (seq : Byte) (a : Word) (w : Word) (s : State),
      s.memOk = true ∧ svcFresh 0x21 seq (le32 a ++ wordBytes [w]) s = true ∧ s.did.cond = .operation ∧ s.lcu.paused =
      false ∧ a.toNat % 4 = 0 ∧ inRam a.toNat = true ∧ mapAllows .domS a.toNat .write s = true) ∧ (∃ (seq : Byte) (a :
      Word) (w : Word) (s : State), svcFresh 0x21 seq (le32 a ++ wordBytes [w]) s = true ∧ s.did.cond = .operation ∧
      s.lcu.paused = false ∧ a.toNat < 2 ^ 31 ∧ a.toNat % 4 = 0 ∧ mapAllows .domS a.toNat .write s = false) ∧ (∃ (seq
      : Byte) (a : Word) (ws : List Word) (s : State), svcFresh 0x21 seq (le32 a ++ wordBytes ws) s = true ∧
      s.did.cond = .recovery) ∧ (∃ (seq : Byte) (cmd : Byte) (arg : Word) (s : State), svcFresh 0x22 seq ([cmd, 0, 0,
      0] ++ le32 arg) s = true ∧ s.did.cond = .operation ∧ s.lcu.paused = false ∧ mapAllows .domS 0x40025020 .write s
      = true ∧ mapAllows .domS 0x40025024 .write s = true ∧ mbCause .s cmd arg s = 0) ∧ (∃ (seq : Byte) (cmd : Byte)
      (arg : Word) (s : State), svcFresh 0x22 seq ([cmd, 0, 0, 0] ++ le32 arg) s = true ∧ s.did.cond = .operation ∧
      s.lcu.paused = false ∧ mapAllows .domS 0x40025020 .write s = true ∧ mapAllows .domS 0x40025024 .write s = true ∧
      mbCause .s cmd arg s ≠ 0) ∧ (∃ (seq : Byte) (s : State), svcFresh 0x3F seq (le32 0x2448) s = true) ∧ (∃ (seq :
      Byte) (arg : Word) (s : State), svcFresh 0x3F seq (le32 arg) s = true ∧ arg ≠ 0x2448) :=
  ⟨⟨{ State.reset with did.cond := .recovery, lcu.badfr := 255 }, by decide⟩,
   ⟨State.reset, by decide⟩,
   ⟨4, 5, { State.reset with did.cond := .recovery, lcu.maxBaud := 2 }, by decide⟩,
   ⟨4, 3, { State.reset with did.cond := .operation, lcu.maxBaud := 2 }, by decide⟩,
   ⟨4, 3, { State.reset with did.cond := .operation, lcu.last := some (4, crc16 (svcFrame 0x02 4 [3])) }, by decide⟩,
   ⟨4, { State.reset with did.cond := .operation, lcu.state := 7 }, by decide⟩,
   ⟨4, { State.reset with did.cond := .operation, otp.change := some 3, hst.s.mbstat.state := 1 }, by decide⟩,
   ⟨4, 0x40020000,
     { State.reset with did.cond := .operation, did.part.partId := 0x2448, fab.active := State.reset.fab.active.set 2 (Vector.ofFn (fun i => if i.val = 0 then mkWindow 0x40020000 14 true false else {})) },
     by decide⟩,
   ⟨4, 0x10000000, { State.reset with did.cond := .operation }, by decide⟩,
   ⟨4, 0x10000001, { State.reset with did.cond := .operation }, by decide⟩,
   ⟨4, 0x10000010, 0x55667788,
     { State.reset with did.cond := .operation, fab.active := State.reset.fab.active.set 2 (Vector.ofFn (fun i => if i.val = 0 then mkWindow 0x10000000 20 true true else {})) },
     by decide⟩,
   ⟨4, 0x10000010, 0x55667788, { State.reset with did.cond := .operation }, by decide⟩,
   ⟨4, 0x10000010, [5], { State.reset with did.cond := .recovery }, by decide⟩,
   ⟨4, 3, 1,
     { State.reset with did.cond := .operation, did.warden.started := true, hst.cfg.rtS := 15, fab.active := State.reset.fab.active.set 2 (Vector.ofFn (fun i => if i.val = 0 then mkWindow 0x40025000 12 true true else {})) },
     by decide⟩,
   ⟨4, 2, 1,
     { State.reset with did.cond := .operation, did.warden.started := true, hst.cfg.rtS := 15, fab.active := State.reset.fab.active.set 2 (Vector.ofFn (fun i => if i.val = 0 then mkWindow 0x40025000 12 true true else {})) },
     by decide⟩,
   ⟨4, { State.reset with did.cond := .recovery }, by decide⟩,
   ⟨4, 0x2449, { State.reset with did.cond := .recovery }, by decide⟩⟩

/-- States and operands that meet the hypotheses of each clause of `Obligations.UpdateTransfer`. -/
theorem test_meets_UpdateTransfer :
    (∃ (seq : Byte) (target : Byte) (hdr : List Byte) (s : State), svcFresh 0x10 seq ([target, 0, 0, 0] ++ hdr) s =
      true ∧ (1 < target.toNat ∨ headerWhole target hdr = false)) ∧ (∃ (seq : Byte) (hdr : List Byte) (s : State),
      svcFresh 0x10 seq ([1, 0, 0, 0] ++ hdr) s = true ∧ hdr.length = 64 ∧ (lifecycle s.otp = 0 ∨ lifecycle s.otp =
      4)) ∧ (∃ (seq : Byte) (hdr : List Byte) (s : State), svcFresh 0x10 seq ([0, 0, 0, 0] ++ hdr) s = true ∧
      headerWhole 0 hdr = true ∧ (s.lcu.state = 2 ∨ s.lcu.state = 4) ∧ s.lcu.target = false ∧ s.lcu.header = hdr) ∧ (∃
      (seq : Byte) (hdr : List Byte) (s : State), svcFresh 0x10 seq ([0, 0, 0, 0] ++ hdr) s = true ∧ headerWhole 0 hdr
      = true ∧ updateOpen s.lcu = true ∧ (s.lcu.state = 5 ∨ s.lcu.target = true ∨ s.lcu.header ≠ hdr)) ∧ (∃ (seq :
      Byte) (hdr : List Byte) (s : State), svcFresh 0x10 seq ([0, 0, 0, 0] ++ hdr) s = true ∧ headerWhole 0 hdr = true
      ∧ updateOpen s.lcu = false ∧ headerCause false hdr s ≠ 0) ∧ (∃ (seq : Byte) (hdr : List Byte) (s : State),
      svcFresh 0x10 seq ([1, 0, 0, 0] ++ hdr) s = true ∧ hdr.length = 64 ∧ lifecycle s.otp ≠ 0 ∧ lifecycle s.otp ≠ 4 ∧
      updateOpen s.lcu = false ∧ headerCause true hdr s = 0 ∧ s.did.cond = .operation ∧ updateCause s ≠ 0) ∧ (∃ (seq :
      Byte) (hdr : List Byte) (o : FlashOp) (s : State), svcFresh 0x10 seq ([1, 0, 0, 0] ++ hdr) s = true ∧ hdr.length
      = 64 ∧ lifecycle s.otp ≠ 0 ∧ lifecycle s.otp ≠ 4 ∧ updateOpen s.lcu = false ∧ headerCause true hdr s = 0 ∧
      (s.did.cond = .operation ∨ partitionsGood s = true) ∧ (s.did.cond = .recovery ∨ updateCause s = 0) ∧
      s.lcu.cfgSlot = false ∧ s.nand.deadSlot = 0 ∧ o.fails = false ∧ o.wear.toNat ≤ s.nvc.wear.maxw.toNat) ∧ (∃ (seq
      : Byte) (hdr : List Byte) (o : FlashOp) (s : State), svcFresh 0x10 seq ([1, 0, 0, 0] ++ hdr) s = true ∧
      hdr.length = 64 ∧ lifecycle s.otp ≠ 0 ∧ lifecycle s.otp ≠ 4 ∧ updateOpen s.lcu = false ∧ headerCause true hdr s
      = 0 ∧ s.did.cond = .recovery ∧ partitionsGood s = true ∧ s.nand.deadSlot = 0 ∧ s.nand.free = 0 ∧ s.nand.logN ≤
      64 ∧ o.fails = true) ∧ (∃ (seq : Byte) (hdr : List Byte) (o : FlashOp) (s : State), svcFresh 0x10 seq ([0, 0, 0,
      0] ++ hdr) s = true ∧ headerWhole 0 hdr = true ∧ updateOpen s.lcu = false ∧ s.did.cond = .recovery ∧
      s.nand.deadBank = 0 ∧ o.fails = false) ∧ (∃ (seq : Byte) (hdr : List Byte) (s : State), svcFresh 0x10 seq ([1,
      0, 0, 0] ++ hdr) s = true ∧ hdr.length = 64 ∧ lifecycle s.otp ≠ 0 ∧ lifecycle s.otp ≠ 4 ∧ updateOpen s.lcu =
      false ∧ headerCause true hdr s = 0 ∧ s.did.cond = .recovery ∧ partitionsGood s = true ∧ s.lcu.cfgSlot = true ∧
      s.nand.deadSlot = 1) ∧ (∃ (seq : Byte) (off : Word) (data : List Byte) (s : State), svcFresh 0x11 seq (le32 off
      ++ data) s = true ∧ s.lcu.state ≠ 2) ∧ (∃ (seq : Byte) (off : Word) (data : List Byte) (s : State), svcFresh
      0x11 seq (le32 off ++ data) s = true ∧ s.lcu.state = 2 ∧ dataOk off.toNat data s = false) ∧ (∃ (seq : Byte) (off
      : Word) (data : List Byte) (o : FlashOp) (s : State), svcFresh 0x11 seq (le32 off ++ data) s = true ∧
      s.lcu.state = 2 ∧ dataOk off.toNat data s = true ∧ s.nand.free = 0 ∧ s.nand.logN ≤ 64 ∧ s.lcu.target = false ∧
      s.lcu.active = false ∧ o.fails = true) ∧ (∃ (seq : Byte) (off : Word) (data : List Byte) (o : FlashOp) (s :
      State), svcFresh 0x11 seq (le32 off ++ data) s = true ∧ s.lcu.state = 2 ∧ dataOk off.toNat data s = true ∧
      (o.fails = false ∨ 0 < s.nand.free)) ∧ (∃ (seq : Byte) (s : State), svcFresh 0x12 seq [] s = true ∧ s.lcu.state
      ≠ 2) ∧ (∃ (seq : Byte) (s : State), svcFresh 0x12 seq [] s = true ∧ s.lcu.state = 2 ∧ s.lcu.rcvd ≠ imgLen s) ∧
      (∃ (seq : Byte) (s : State), svcFresh 0x12 seq [] s = true ∧ s.lcu.state = 2 ∧ s.lcu.rcvd = imgLen s ∧
      s.lcu.target = true) ∧ (∃ (seq : Byte) (s : State), svcFresh 0x12 seq [] s = true ∧ s.lcu.state = 2 ∧ s.lcu.rcvd
      = imgLen s ∧ s.lcu.target = false) ∧ (∃ (seq : Byte) (s : State), svcFresh 0x14 seq [] s = true ∧ (s.lcu.state =
      2 ∨ s.lcu.state = 4)) ∧ (∃ (seq : Byte) (s : State), svcFresh 0x14 seq [] s = true ∧ (s.lcu.state = 5 ∨
      s.lcu.state = 6)) ∧ (∃ (seq : Byte) (s : State), svcFresh 0x14 seq [] s = true ∧ (s.lcu.state = 0 ∨ s.lcu.state
      = 7)) ∧ (∃ (s : State), (s.lcu.state = 2 ∨ s.lcu.state = 4)) ∧ (∃ (s : State), s.lcu.state ≠ 2 ∧ s.lcu.state ≠
      4) :=
  ⟨⟨4, 1, [5], { State.reset with did.cond := .recovery }, by decide⟩,
   ⟨4, List.replicate 64 0, { State.reset with did.cond := .recovery }, by decide⟩,
   ⟨4, List.replicate 384 0,
     { State.reset with did.cond := .recovery, lcu.state := 2, lcu.rcvd := 1020, lcu.header := List.replicate 384 0 },
     by decide⟩,
   ⟨4, List.replicate 384 0,
     { State.reset with did.cond := .recovery, lcu.state := 2, lcu.rcvd := 1020, lcu.header := List.replicate 384 1 },
     by decide⟩,
   ⟨4, List.replicate 384 0, { State.reset with did.cond := .recovery, lcu.state := 7 }, by decide⟩,
   ⟨4, [0x44, 0x58, 0x43, 0x46, 1, 0, 64, 0, 0x48, 0x24] ++ List.replicate 54 0,
     { State.reset with did.cond := .operation, otp.wr := 2, otp.shd := State.reset.otp.shd.set 0 0x2448 }, by decide⟩,
   ⟨4, [0x44, 0x58, 0x43, 0x46, 1, 0, 64, 0, 0x48, 0x24] ++ List.replicate 54 0, { fails := false, wear := 0 },
     { State.reset with did.cond := .recovery, otp.wr := 2, otp.shd := State.reset.otp.shd.set 0 0x2448, nand.formatted := true, nand.under := 1, nand.slot1 := [4] },
     by decide⟩,
   ⟨4, [0x44, 0x58, 0x43, 0x46, 1, 0, 64, 0, 0x48, 0x24] ++ List.replicate 54 0, { fails := true, wear := 0 },
     { State.reset with did.cond := .recovery, otp.wr := 2, otp.shd := State.reset.otp.shd.set 0 0x2448, nand.formatted := true, nand.under := 1 },
     by decide⟩,
   ⟨4, List.replicate 384 0, { fails := false, wear := 0 }, { State.reset with did.cond := .recovery }, by decide⟩,
   ⟨4, [0x44, 0x58, 0x43, 0x46, 1, 0, 64, 0, 0x48, 0x24] ++ List.replicate 54 0,
     { State.reset with did.cond := .recovery, otp.wr := 2, otp.shd := State.reset.otp.shd.set 0 0x2448, nand.formatted := true, nand.under := 1, lcu.cfgSlot := true, nand.deadSlot := 1 },
     by decide⟩,
   ⟨4, 0, [1], { State.reset with did.cond := .operation, lcu.state := 4 }, by decide⟩,
   ⟨4, 4, [1, 2, 3, 4], { State.reset with did.cond := .operation, lcu.state := 2, lcu.rcvd := 8 }, by decide⟩,
   ⟨4, 4, [1, 2, 3, 4], { fails := true, wear := 0 },
     { State.reset with did.cond := .operation, lcu.state := 2, lcu.rcvd := 4, lcu.header := [0, 0, 0, 0, 0, 0, 0, 0, 0, 0, 0, 0, 64, 0, 0, 0] },
     by decide⟩,
   ⟨4, 4, [1, 2, 3, 4], { fails := false, wear := 0 },
     { State.reset with did.cond := .operation, lcu.state := 2, lcu.rcvd := 4, lcu.header := [0, 0, 0, 0, 0, 0, 0, 0, 0, 0, 0, 0, 64, 0, 0, 0], nand.bank1.content := [9, 8, 7, 6] },
     by decide⟩,
   ⟨4, { State.reset with did.cond := .operation, lcu.state := 4 }, by decide⟩,
   ⟨4,
     { State.reset with did.cond := .operation, lcu.state := 2, lcu.rcvd := 4, lcu.header := [0, 0, 0, 0, 0, 0, 0, 0, 0, 0, 0, 0, 64, 0, 0, 0] },
     by decide⟩,
   ⟨4,
     { State.reset with did.cond := .operation, lcu.state := 2, lcu.target := true, lcu.rcvd := 64, lcu.header := [0, 0, 0, 0, 0, 0, 0, 0, 0, 0, 0, 0, 64, 0, 0, 0] },
     by decide⟩,
   ⟨4,
     { State.reset with did.cond := .operation, lcu.state := 2, lcu.rcvd := 64, lcu.header := [0, 0, 0, 0, 0, 0, 0, 0, 0, 0, 0, 0, 64, 0, 0, 0] },
     by decide⟩,
   ⟨4, { State.reset with did.cond := .operation, lcu.state := 2, lcu.rcvd := 64 }, by decide⟩,
   ⟨4, { State.reset with did.cond := .operation, lcu.state := 6 }, by decide⟩,
   ⟨4, { State.reset with did.cond := .operation, lcu.state := 7 }, by decide⟩,
   ⟨{ State.reset with lcu.state := 4, lcu.rcvd := 64, lcu.header := [4] }, by decide⟩,
   ⟨{ State.reset with lcu.state := 5 }, by decide⟩⟩

/-- States and operands that meet the hypotheses of each clause of `Obligations.Activation`. -/
theorem test_meets_Activation :
    (∃ (seq : Byte) (s : State), svcFresh 0x13 seq [] s = true ∧ s.lcu.state ≠ 4) ∧ (∃ (seq : Byte) (s : State),
      svcFresh 0x13 seq [] s = true ∧ s.lcu.state = 4 ∧ s.did.cond = .operation ∧ updateCause s ≠ 0) ∧ (∃ (seq : Byte)
      (s : State), svcFresh 0x13 seq [] s = true ∧ s.lcu.state = 4 ∧ s.lcu.target = true ∧ (s.did.cond = .recovery ∨
      updateCause s = 0)) ∧ (∃ (seq : Byte) (s : State), svcFresh 0x13 seq [] s = true ∧ s.lcu.state = 4 ∧
      s.lcu.target = false ∧ s.did.cond = .recovery) ∧ (∃ (seq : Byte) (s : State), svcFresh 0x13 seq [] s = true ∧
      s.lcu.state = 4 ∧ s.lcu.target = false ∧ s.did.cond = .operation ∧ updateCause s = 0) ∧ (∃ (s : State),
      s.lcu.paused = false) ∧ (∃ (s : State), s.lcu.paused = true ∧ s.did.preReset = false ∧ s.did.cond = .operation)
      ∧ (∃ (s : State), s.lcu.paused = true ∧ s.lcu.rolling = true ∧ s.did.preReset = false ∧ s.did.cond = .operation)
      ∧ (∃ (s : State), s.lcu.paused = true ∧ s.lcu.rolling = false) ∧ (∃ (s : State), s.lcu.paused = true) ∧ (∃ (s :
      State), s.lcu.state = 6 ∧ policyRuns s = true ∧ wardenRuns s = true ∧ 0 < s.bud.rnd) ∧ (∃ (s : State),
      (s.lcu.state ≠ 6 ∨ policyRuns s = false ∨ wardenRuns s = false ∨ s.bud.rnd = 0)) ∧ (∃ (s : State), (s.lcu.state
      = 5 ∨ s.lcu.state = 6)) ∧ (∃ (s : State), s.lcu.state ≠ 5 ∧ s.lcu.state ≠ 6) ∧ (∃ (p : Port) (s : State),
      (s.lcu.paused = true ∨ s.lcu.turn ≠ some p.val ∨ reloadReady p s = false)) ∧ (∃ (p : Port) (s : State),
      s.lcu.paused = false ∧ s.lcu.turn = some p.val ∧ reloadReady p s = true ∧ ((s.slice p).off.contract.kind = 0 ∨
      (s.slice p).pd.pdstat.pdSilent = true)) ∧ (∃ (p : Port) (s : State), s.did.released = true ∧ s.lcu.paused =
      false ∧ s.lcu.turn = some p.val ∧ reloadReady p s = true ∧ (s.slice p).off.contract.kind ≠ 0 ∧ (s.slice
      p).pd.pdstat.pdSilent = false ∧ sopActive (s.slice p) = true ∧ (s.slice p).pd.ready = []) :=
  ⟨⟨4, { State.reset with did.cond := .operation, lcu.state := 5 }, by decide⟩,
   ⟨4, { State.reset with did.cond := .operation, lcu.state := 4 }, by decide⟩,
   ⟨4, { State.reset with did.cond := .recovery, lcu.state := 4, lcu.target := true }, by decide⟩,
   ⟨4, { State.reset with did.cond := .recovery, lcu.state := 4 }, by decide⟩,
   ⟨4, { State.reset with did.cond := .operation, did.warden.started := true, lcu.state := 4, sup.active := .main },
     by decide⟩,
   ⟨{ State.reset with lcu.state := 5 }, by decide⟩,
   ⟨{ State.reset with did.cond := .operation, lcu.paused := true }, by decide⟩,
   ⟨{ State.reset with did.cond := .operation, lcu.paused := true, lcu.rolling := true }, by decide⟩,
   ⟨{ State.reset with did.cond := .operation, lcu.paused := true, lcu.state := 5 }, by decide⟩,
   ⟨{ State.reset with did.cond := .operation, did.policy.started := true, did.policy.restarting := true, lcu.paused := true, lcu.state := 5, nand.bank0.ver := 77 },
     by decide⟩,
   ⟨{ State.reset with did.policy.started := true, did.warden.started := true, bud.rnd := 1, lcu.state := 6, lcu.trial := true },
     by decide⟩,
   ⟨{ State.reset with lcu.state := 6 }, by decide⟩,
   ⟨{ State.reset with did.policy.started := true, did.warden.started := true, lcu.state := 6, lcu.active := true, lcu.trial := true },
     by decide⟩,
   ⟨{ State.reset with lcu.state := 4 }, by decide⟩,
   ⟨3, { State.reset with lcu.turn := some 2, lcu.turns := 24 }, by decide⟩,
   ⟨23, { State.reset with lcu.turn := some 23, lcu.turns := 24 }, by decide⟩,
   ⟨2,
     { st 2 (fun x => { x with off.contract.kind := 1, att.attstat.state := 3, pins.isog := true, pd.txId.sop := 5 }) with lcu.turn := some 2, lcu.turns := 24 },
     by decide⟩⟩

/-! ## The rules of the whole machine -/

/-- A device with a byte in memory and a command waiting. -/
def waiting : State := { State.reset with mem := [(0x10000004, 7)], pending := [.serviceFrameBad, .mapApply] }

theorem test_meets_MemoryStaysCanonical : ∃ s t : State, s.memOk = true ∧ step s = .next t :=
  ⟨waiting, { waiting with pending := [.mapApply] }, by decide, rfl⟩

theorem test_meets_StepRunsTheFrontCommand :
    (∃ (c : Instr) (q : List Instr) (s : State), s.pending = c :: q) ∧ ∃ s : State, s.pending = [] :=
  ⟨⟨_, _, waiting, rfl⟩, State.reset, rfl⟩

theorem test_meets_QueueIsKept : ∃ (c : Instr) (s t : State), exec c s = .next t :=
  ⟨.serviceBaudTimeout, waiting, _, rfl⟩

theorem test_meets_MemoryFrame :
    (∃ (c : Instr) (s t : State), storesMemory c = false ∧ exec c s = .next t) ∧
      ∃ (q : Requester) (c : Fin 16) (s t : State), exec (.dmaAbort q c false) s = .next t :=
  ⟨⟨.serviceBaudTimeout, waiting, _, rfl, rfl⟩, .domA, 15, waiting, _, rfl⟩

theorem test_meets_PortIsolation : ∃ (c : Instr) (p : Port) (s t : State), ownPort c = some p ∧ exec c s = .next t :=
  ⟨.pdCntClear 23, 23, waiting, _, rfl, rfl⟩

theorem test_meets_HeldBeforeRelease : ∃ (c : Instr) (s : State), needsRelease c = true ∧ s.did.released = false :=
  ⟨.selftest 0 1, State.reset, rfl, rfl⟩

/-- Requests of indices 2 (class 1, age 9) and 4 (class 3, age 2). -/
def asking : Vector ArbReq 8 :=
  #v[{}, {}, { held := true, cls := 1, age := 9 }, {}, { held := true, cls := 3, age := 2 }, {}, {}, {}]

theorem test_meets_ArbiterDecides :
    (∃ (n : Nat) (r : Vector ArbReq 8) (a : Arbiter) (i : Fin 8), (a.owed = true ∨ n - 1 ≤ a.since) ∧ (arbFree n r a).owner = some i) ∧
    (∃ (n : Nat) (r : Vector ArbReq 8) (a : Arbiter) (i : Fin 8), a.owed = false ∧ a.since < n - 1 ∧ (arbFree n r a).owner = some i) ∧
    (∃ (a : Arbiter) (o : Fin 8), a.owner = some o) ∧
    (∃ (n : Nat) (r : Vector ArbReq 8) (a : Arbiter) (o : Fin 8),
      a.owner = some o ∧ (r.get o).held = true ∧ arbClock n r false a ≠ a ∧ a.resv = true) ∧
    (∃ (r : Vector ArbReq 8) (a : Arbiter) (o : Fin 8), a.owner = some o ∧ (r.get o).held = false) :=
  ⟨⟨8, asking, { owner := none, resv := false, owed := false, since := 7 }, 2, by decide⟩,
    ⟨8, asking, { owner := none, resv := false, owed := false, since := 6 }, 4, by decide⟩,
    ⟨{ owner := some 7, resv := false, owed := false, since := 0 }, 7, by decide⟩,
    ⟨8, asking, { owner := some 2, resv := true, owed := false, since := 0 }, 2, by decide⟩,
    ⟨asking, { owner := some 0, resv := false, owed := false, since := 0 }, 0, by decide⟩⟩

theorem test_meets_ReservedGrantBound :
    ∃ (r : Nat → Vector ArbReq 8) (i : Fin 8), (∀ k, ((r k).get i).held = true) ∧
      ∀ (k : Nat) (j : Fin 8), j ≠ i → ((r (k + 1)).get j).held = true → arbOlder (r (k + 1)) j i = true →
        ((r k).get j).held = true ∧ arbOlder (r k) j i = true ∧ arbPick (arbOlder (r k)) (arbCands (r k) none) ≠ some j :=
  have none_older : ∀ j : Fin 8, j ≠ 4 → ((asking.set 2 {}).get j).held = true → arbOlder (asking.set 2 {}) j 4 = true → False := by
    decide
  ⟨fun k => match k with | 0 => asking | _ + 1 => asking.set 2 {}, 4, fun k => match k with | 0 => by decide | _ + 1 => (by decide : ((asking.set 2 {}).get 4).held = true),
    fun _ j hj hh ho => (none_older j hj hh ho).elim⟩

theorem test_meets_OtpCodeword :
    (∃ c : BitVec 40, syndrome c = 0 ∧ parity40 c = false) ∧
      (∃ c : BitVec 40, syndrome c ≠ 0 ∧ parity40 c = false) ∧ ∃ c : BitVec 40, 39 < (syndrome c).toNat :=
  ⟨⟨otpEncode 0x12345678, by decide⟩, ⟨otpEncode 5 ^^^ 0x8000000001, by decide⟩, ⟨otpEncode 5 ^^^ 0x5000000000, by decide⟩⟩

/-- A device in recovery in the MANUFACTURE state that meets Table 17.5 for the next one. -/
def advancing : State :=
  { State.reset with did.cond := .recovery, sup.vaux.vhk := 500, otp.sensed := true, otp.wr := 0xFF00000842 }

theorem test_meets_LifecycleState :
    (∃ (o : Otp) (k : Nat), 1 ≤ k ∧ k ≤ 4 ∧ lifecycle o = k) ∧ (∃ o o' : Otp, o.wr = o'.wr ∧ o.uc = o'.uc ∧ o.shd ≠ o'.shd) ∧
    (∃ o : Otp, o.sensed = true) ∧
    (∃ (seq code : Byte) (auth : Option AuthBlock) (s t : State),
      s.otp.change = none ∧ exec (.svcLifecycle seq code auth) s = .next t ∧ t.otp.change ≠ none) ∧
    (∃ (k : BitVec 3) (s t : State), s.otp.change = some k ∧ s.otp.job = none ∧ exec .lifecycleEraseDone s = .next t) :=
  ⟨⟨advancing.otp, 1, by decide⟩, ⟨{}, { shd := Vector.replicate 128 1 }, by decide⟩, ⟨advancing.otp, rfl⟩,
    ⟨1, 2, none, advancing, _, rfl, rfl, by decide⟩, ⟨2, { State.reset with otp.change := some 2 }, _, rfl, rfl, rfl⟩⟩

/-- Channel 4 of domain B at the last word of a chain that copies within system SRAM. -/
def copying : State :=
  { State.reset with
    mem := [(0x10000100, 9)]
    fab.active := State.reset.fab.active.set 1 (Vector.ofFn (fun i => if i.val = 0 then mkWindow 0x10000000 20 true true else {}))
    dma := updAt State.reset.dma 4 (fun x => { x with
      stat.state := 2, ctl.arm := true, ctl.owner := 1, ctl.burst := 8
      desc := some { src := 0x10000100, dst := 0x10000200, len := 4, sfix := false, dfix := false, evt := false, next := 0 } }) }

theorem test_meets_DmaAbort :
    (∃ (q : Requester) (c : Fin 16) (s : State), hasBank q = true ∧ (s.dma.get c).ownedBy (bankOf q s) = true ∧
      (s.dma.get c).stat.state = 2 ∧ ((dmaBurstCommit c 0 s).dma.get c).ownedBy (bankOf q s) = true ∧
      ((dmaBurstCommit c 0 s).dma.get c).stat.state = 3) ∧
    (∃ (q : Requester) (c : Fin 16) (s : State), hasBank q = true ∧ (s.dma.get c).ownedBy (bankOf q s) = true ∧
      (s.dma.get c).stat.state = 3) :=
  ⟨⟨.domB, 4, copying, by decide⟩, .domB, 4, { copying with dma := updAt copying.dma 4 (fun x => { x with stat.state := 3 }) }, by decide⟩

theorem test_meets_GrantWritesOfOthers :
    ∃ (q : Requester) (p : Port) (s : State), q ≠ .policy ∧ requesterRuns q s = true ∧
      mapAllows q (0x40000B00 + 0x1000 * p.val) .write s = true :=
  ⟨.warden, 23, { State.reset with did.warden.started := true }, by decide⟩

theorem test_meets_RetriesAndChecks_faultN : ∃ s o : State, o.did.cond = .operation ∧ s.did.cond = .reset :=
  ⟨State.reset, { State.reset with did.cond := .operation }, rfl, rfl⟩

/-! ## Commands of an ill-formed shape -/

/-- A frame with `n` words. -/
def frameOf (n : Nat) : Frame :=
  { ctx := .sop, kind := .getStatus, msgId := 0, rev2 := false, extended := false, unchunked := false, rolesOk := true, arg := 0,
    crcOk := true, len := 4 * n, words := List.replicate n 0 }

/-- A request at an object position. -/
def requestOf (n : Nat) : RequestMsg :=
  { rdo := 0, epr := false, pos := n, mv := 5000, ma := 100, mismatch := false, eprCap := false, unchunked := false, rev2 := false, copyOk := true }

theorem test_wellFormed_frame : (Instr.pdMessageReceived 0 (frameOf 66) 0).wellFormed = true := by decide
theorem test_refuses_frame : (Instr.pdMessageReceived 0 (frameOf 67) 0).wellFormed = false := by decide
theorem test_refuses_request : (Instr.request 0 (requestOf 16)).wellFormed = false := by decide
theorem test_refuses_ntcSample : (Instr.ntcSample [1, 2, 3, 4, 5, 6, 7] 3300).wellFormed = false := by decide
theorem test_refuses_cycleBoundary : (Instr.cycleBoundary []).wellFormed = false := by decide
theorem test_refuses_discoverSvidsAck : (Instr.discoverSvidsAck 0 (List.replicate 13 0)).wellFormed = false := by decide
theorem test_refuses_discoverModesAck : (Instr.discoverModesAck 0 (List.replicate 7 0)).wellFormed = false := by decide
theorem test_refuses_nvcPageReady : (Instr.nvcPageReady .w (List.replicate 513 0) 0 0).wellFormed = false := by decide
theorem test_refuses_svcBegin : (Instr.svcBegin 0 0 (List.replicate 1021 0) { fails := false, wear := 0 }).wellFormed = false := by decide
theorem test_refuses_svcData : (Instr.svcData 0 0 (List.replicate 1021 0) { fails := false, wear := 0 }).wellFormed = false := by decide
theorem test_refuses_svcRegWrite : (Instr.svcRegWrite 0 0 (List.replicate 256 0)).wellFormed = false := by decide

/-- A block with a key of 63 bytes. -/
def shortBlock : Option AuthBlock := some { pub := List.replicate 63 0, sig := List.replicate 64 0 }

theorem test_refuses_svcOtpBurn : (Instr.svcOtpBurn 0 0 0 shortBlock).wellFormed = false := by decide
theorem test_refuses_svcOtpOverride : (Instr.svcOtpOverride 0 0 0 shortBlock).wellFormed = false := by decide
theorem test_refuses_svcStickyLock : (Instr.svcStickyLock 0 0 shortBlock).wellFormed = false := by decide
theorem test_refuses_svcLifecycle : (Instr.svcLifecycle 0 0 shortBlock).wellFormed = false := by decide

/-! ## Worked examples of the spec -/

/-- The packet of chapter 14: a write of `BUD_PCFG8` with P = 1, and its PEC. -/
def pecWrite : TwWrite := { addr := 0xC0021060, count := 1, data := [0x00, 0x00, 0x3C, 0x00], pec := some 0xE8 }

/-- A device whose two-wire address strap read 0x40. -/
def addressed : State := { State.reset with did.strap.taAddr := 0x40 }

theorem test_pec_example :
    twWriteCover pecWrite addressed = [0x80, 0x60, 0x10, 0x02, 0xC0, 0x01, 0x00, 0x00, 0x3C, 0x00] ∧
      crc8 (twWriteCover pecWrite addressed) = 0xE8 := by decide

/-- The trip record of the chapter 16 trace. -/
theorem test_record_example :
    hwWords { type := 2, source := 43, flags := 0, minutes := 0x012345, pcc := 0x25, data := 0x00007D013881, no := 531 } =
      { w0 := 0x00002B02, w1 := 0x25012345, w2 := 0x01388100, w3 := 0x1300007D } := by decide

/-- The Fuse record of the chapter 17 trace: word 37 with condition 3. -/
theorem test_fuse_record_example : fuseData 37 3 0 = 0x000000000325 := by decide

/-- The port of the chapter 10 trace: Fixed 20 V, 3.00 A, with a 5.0 mΩ shunt. -/
def tripping : Slice :=
  let x := State.reset.slice 5
  { x with
    off := { x.off with conMv := 20000, conMa := 3000, contract := { x.off.contract with kind := 1 } }
    pd := { x.pd with pdstat := { x.pd.pdstat with pdConn := true } }
    gr := { x.gr with grant := { pwr := 2400 }, cap := 255 }
    ps := { x.ps with pscfg := { x.ps.pscfg with rsh := 50 }, vset := 20000 } }

theorem test_trip_codes_example :
    tripping.ir = 3300 ∧ (cmpthr0 tripping).peak = 238 ∧ (cmpthr0 tripping).short = 304 ∧
      (cmpthr1 tripping).cmp3 = 40 ∧ (cmpthr1 tripping).ov = 375 := by decide

theorem test_fuse_example :
    fuseStep tripping.ir 5000 0 = 14110000 ∧ fuseK tripping = 108900000000 ∧
      fuseK tripping ≤ 14110000 * 7718 ∧ 14110000 * 7717 < fuseK tripping := by decide

/-- The limits of the chapter 7 example: 120 W, 5 A, 48.0 V. -/
def eprLimits : OfferLimits := { vlim := 48000, ilim := 5000, pg := 1200, epr := true }

theorem test_offer_example :
    ((fixedOffer eprLimits 28000).map (·.ma), (fixedOffer eprLimits 36000).map (·.ma), (fixedOffer eprLimits 48000).map (·.ma)) =
        (some 4280, some 3330, some 2500) ∧
      (eprAvsOffer eprLimits).map (fun o => (o.vmin, o.vmax, o.pdp)) = some (15000, 48000, 120) := by decide

/-- The two luminaires of the chapter 13 example. -/
theorem test_thatch_caps_example :
    thAgreedVer { ({} : SlcThcfg) with maxver := 3, caps := 0xFF } 0x00005B12 = 2 ∧
      thAgreedCaps { ({} : SlcThcfg) with maxver := 3, caps := 0xFF } 0x00005B12 = 0x5B ∧
      thAgreedCaps { ({} : SlcThcfg) with maxver := 3, caps := 0xFF } 0x00003F10 = 0x0F := by decide

/-- Sheaf 2 of the chapter 11 example at its first update: six luminaires at 1.25 A and two modules at 4.50 A. -/
def plenum : State :=
  let s := { State.reset with kln.snaps := 50 }
  let s := onSheaf 2 (fun x => { x with a := { x.a with en := true, ntc := 2 }, ntcSum := 11520 * 50, ntcN := 50 }) s
  [16, 17, 18, 19, 20, 21, 22, 23].foldl (fun s (p : Port) =>
    let lum := p.val < 22
    let s := onPortKln p (fun k => { k with
      pcfg := { k.pcfg with sheaf := 2, len := if lum then 250 else 0, rpm := 6000 }
      sumSq := 50 * if lum then 1562500 else 20250000 }) s
    { s with
      slices := updAt s.slices p (fun x => { x with
        ps := { x.ps with feres := { x.ps.feres with rloop := if lum then 1500 else 0 } }
        att := { x.att with attstat := { x.att.attstat with state := 3 }, attcfg := { x.att.attcfg with role := 1 } }
        off := { x.off with conMv := 48000, contract := { x.off.contract with kind := 1 } }
        gr := { x.gr with cap := 255 } })
      bud.ports := updAt s.bud.ports p (fun b => { b with pcfg := { b.pcfg with pDef := 240 } }) }) s

/-- What an update leaves of a port: whether it is derated, its ceiling, and its prediction in 0.1 °C. -/
def heatOf (p : Port) (s : State) : Bool × Nat × Int :=
  let k := s.kln.ports.get p
  (k.b.der, k.b.ceil.toNat, k.a.tpred.toInt)

theorem test_kiln_example :
    heatOf 22 (kilnSheaf 1000 true 2 plenum) = (true, 1740, 642) ∧ (heatOf 16 (kilnSheaf 1000 true 2 plenum)).1 = false ∧
      (heatOf 16 (kilnSheaf 1000 true 2 plenum)).2.2 = 575 := by decide

/-- No row of the table has bits, so no word spells a command. -/
theorem test_decodes_nothing : decodeTableWord 16 0 = none ∧ State.reset.withFetchWord 16 0 = State.reset := by decide

end Sys2Proof.Tests
end

section
/-!
PROOFS. What a step does with the queue, and what the registers read after reset.
-/

namespace Sys2Proof.Machine

/-! ## One step, by the queue (log 1 and 2) -/

/-- The command at the front leaves the queue before it runs, so its meaning sees only the commands behind it. -/
theorem step_of_pending_cons {c : Instr} {q : List Instr} {s : State} (h : s.pending = c :: q) :
    step s = exec c { s with pending := q } := by
  simp only [step, h]

theorem step_of_pending_nil {s : State} (h : s.pending = []) : step s = .next s := by
  simp only [step, h]

/-- Settles O3: the two clauses are the two shapes of the queue. -/
theorem stepRunsTheFrontCommand : Obligations.StepRunsTheFrontCommand :=
  ⟨fun _ _ _ h => step_of_pending_cons h, fun _ h => step_of_pending_nil h⟩

/-! ## The registers after reset -/

/-- Settles O9. Each clause is the finite table of one block of registers, addresses and words all literal, read from the
one state after reset: a closed fact per block, evaluated block by block so that each evaluation stays small. -/
theorem resetRegisters : Obligations.ResetRegisters := by
  unfold Obligations.ResetRegisters
  and_intros <;> decide

end Sys2Proof.Machine
end

section
/-!
PROOFS. What every command leaves alone: the queue, the memory unless it stores, and for a command of one port
everything outside that port.
-/

namespace Sys2Proof.Machine

/-! ## What a command leaves of the memory and the queue -/

theorem supplyRetryAttempt_kept {x : InputId} {s t : State} (h : exec (.supplyRetryAttempt x) s = .next t) : t.kept = s.kept := by
  cases h
  cases x <;> simp

theorem supplyAttemptFail_kept {x : InputId} {rose : Bool} {s t : State} (h : exec (.supplyAttemptFail x rose) s = .next t) :
    t.kept = s.kept := by
  cases h
  cases x
  case cascade => dsimp only; split <;> simp
  all_goals simp

theorem report_kept {p : Port} {seq : BitVec 4} {r : ThReport} {phase : BitVec 16} {s t : State}
    (h : exec (.report p seq r phase) s = .next t) : t.kept = s.kept := by
  cases h
  dsimp only
  split <;> simp

theorem eccCorrection_kept {q : Requester} {a : Word} {double : Bool} {s t : State}
    (h : exec (.eccCorrection q a double) s = .next t) : t.kept = s.kept := by
  cases h
  cases q <;> simp

theorem settingsWrite_kept {o : FlashOp} {s t : State} (h : exec (.settingsWrite o) s = .next t) : t.kept = s.kept := by
  cases h
  simp [settingsWrite]

theorem otpBurnEnd_kept {tag data : BitVec 40} {s t : State}
    (h : exec (.otpBurnDone tag data) s = .next t ∨ exec (.otpBurnInterrupt tag data) s = .next t) : t.kept = s.kept := by
  obtain h | h := h <;> cases h <;> split <;> simp

theorem lifecycleEraseDone_kept {s t : State} (h : exec .lifecycleEraseDone s = .next t) : t.kept = s.kept := by
  cases h
  split <;> simp

theorem svcSetBaud_kept {seq code : Byte} {s t : State} (h : exec (.svcSetBaud seq code) s = .next t) : t.kept = s.kept := by
  cases h
  refine svcRun_kept _ _ _ _ _ _ (fun u => ?_)
  split <;> simp

theorem svcReset_kept {seq : Byte} {arg : Word} {s t : State} (h : exec (.svcReset seq arg) s = .next t) : t.kept = s.kept := by
  cases h
  refine svcRun_kept _ _ _ _ _ _ (fun u => ?_)
  split <;> simp

/-- A command that stores nothing leaves memory and queue alone: its meaning is made of operations that each do. -/
theorem exec_kept {c : Instr} {s t : State} (hc : storesMemory c = false) (h : exec c s = .next t) : t.kept = s.kept := by
  cases c with
  | activationRestartDone | configLoad | dmaAbort | dmaBurstCommit | registerWrite | rollback | spiWrite | svcActivate
  | svcMailbox | svcRegWrite | twoWireWrite | watchdogExpiry | wipeDone => cases hc
  | vconnInLow => rw [← Host.Outcome.next.inj h, vconnInLow_kept]
  | vconnInRestored => rw [← Host.Outcome.next.inj h, vconnInRestored_kept]
  | supplyRetryAttempt => exact supplyRetryAttempt_kept h
  | supplyAttemptFail => exact supplyAttemptFail_kept h
  | report => exact report_kept h
  | eccCorrection => exact eccCorrection_kept h
  | settingsWrite => exact settingsWrite_kept h
  | otpBurnDone => exact otpBurnEnd_kept (.inl h)
  | otpBurnInterrupt => exact otpBurnEnd_kept (.inr h)
  | lifecycleEraseDone => exact lifecycleEraseDone_kept h
  | svcSetBaud => exact svcSetBaud_kept h
  | svcReset => exact svcReset_kept h
  | _ => cases h; simp

/-- A command that stores writes the bytes of memory and no more of what `State.kept` holds: the queue stays. -/
theorem exec_queue_of_stores {c : Instr} {s t : State} (hc : storesMemory c = true) (h : exec c s = .next t) :
    t.pending = s.pending := by
  change t.kept.2 = s.kept.2
  cases c with
  | activationRestartDone r => cases h; exact activationRestartDone_queue r s
  | configLoad => cases h; exact configLoad_queue s
  | dmaAbort q c w => cases h; exact dmaAbort_queue q c w s
  | dmaBurstCommit c n => cases h; exact dmaBurstCommit_queue c n s
  | registerWrite q a w => cases h; split; exacts [burstWrite_queue q _ _ s, rfl]
  | rollback => cases h; split; exacts [rollback_queue s, rfl]
  | spiWrite w => cases h; exact spiWrite_queue w s
  | svcActivate => cases h; exact svcRun_queue _ _ _ _ _ _ svcActivate_queue
  | svcMailbox _ cmd arg => cases h; exact svcRun_queue _ _ _ _ _ _ (svcMailbox_queue cmd arg)
  | svcRegWrite _ a ws => cases h; exact svcRun_queue _ _ _ _ _ _ (svcRegWrite_queue a ws)
  | twoWireWrite w => cases h; exact twoWireWrite_queue w s
  | watchdogExpiry c n => cases h; exact watchdogExpiryAt_queue c n s
  | wipeDone => cases h; split; exacts [wipeDone_queue s, rfl]
  | _ => cases hc

/-- Settles O5: a command stores or does not, and leaves the queue in both cases. -/
theorem queueIsKept : Obligations.QueueIsKept := by
  intro c s t h
  cases hc : storesMemory c with
  | false => exact kept_pending (exec_kept hc h)
  | true => exact exec_queue_of_stores hc h

/-! ## What a port's command leaves of the rest -/

/-- A command that acts on one port alone is made of operations on that port, each of which leaves the rest alone. -/
theorem exec_beside {c : Instr} {p : Port} {s t : State} (hp : ownPort c = some p) (h : exec c s = .next t) :
    t.beside p = s.beside p := by
  cases c with
  | _ => cases hp <;> (cases h; simp)

/-- Settles O7. -/
theorem portIsolation : Obligations.PortIsolation := fun _ _ _ _ => exec_beside

end Sys2Proof.Machine
end

section
/-!
PROOFS. Rules of the operations on every port, of records, of the Policy Core's start, and of banks, pointer records and
rollback, which the proofs after them cite.
-/

namespace Sys2Proof.Machine

/-! ## Rules of shared operations -/

theorem mem_allPorts (p : Port) : p ∈ allPorts := by
  revert p
  decide

/-- A loop over distinct indices, of which each changes its own part alone, changes each part once. -/
theorem foldl_get {σ ι α : Type} [DecidableEq ι] (step : σ → ι → σ) (get : ι → σ → α) (f : ι → α → α)
    (hself : ∀ s i, get i (step s i) = f i (get i s)) (hne : ∀ s i j, j ≠ i → get j (step s i) = get j s) (j : ι) :
    ∀ (l : List ι) (s : σ), l.Nodup → get j (l.foldl step s) = if j ∈ l then f j (get j s) else get j s := by
  intro l
  induction l with
  | nil => intro s _; rfl
  | cons i l ih =>
    intro s hl
    obtain ⟨hi, hl⟩ := List.nodup_cons.1 hl
    rw [List.foldl_cons, ih _ hl]
    by_cases e : j = i
    · subst e; simp [hi, hself]
    · simp [e, hne _ _ _ e]

theorem allPorts_nodup : allPorts.Nodup := by decide

/-- What a change of each port's slice by itself makes of one slice. -/
theorem overPorts_onSlice (f : Port → Slice → Slice) (s : State) (p : Port) :
    (overPorts (fun q s => onSlice q (f q) s) s).slice p = f p (s.slice p) := by
  have key := foldl_get (fun s q => onSlice q (f q) s) (fun q s => s.slice q) f (fun s q => slice_onSlice q (f q) s)
    (fun s q j h => slice_onSlice_ne (f q) s h) p allPorts s allPorts_nodup
  rw [if_pos (mem_allPorts p)] at key
  exact key

theorem pinsOff_slice (s : State) (p : Port) : (pinsOff s).slice p = (s.slice p).pinsOff p :=
  overPorts_onSlice Slice.pinsOff s p

@[simp] theorem slicePinsOff_isog (p : Port) (x : Slice) : (x.pinsOff p).pins.isog = false := by
  simp [Slice.pinsOff, Slice.openSnkg]

@[simp] theorem slicePinsOff_pwm (p : Port) (x : Slice) : (x.pinsOff p).pins.pwm = .highZ := by
  simp [Slice.pinsOff, Slice.openSnkg]

/-! Records clear no event -/

theorem coreRecord_keeps {n : Nat} (c : CoreId) (k : Nat) {s : State} (h : s.eva.raised n = true) :
    (coreRecord c k s).eva.raised n = true := hwRecord_keeps _ _ _ _ h

theorem clockRecord_keeps {n : Nat} (so : Byte) (k : Nat) {s : State} (h : s.eva.raised n = true) :
    (clockRecord so k s).eva.raised n = true := hwRecord_keeps _ _ _ _ h

theorem bankRecord_keeps {n : Nat} (so : Byte) (b : Bool) (k : Nat) {s : State} (h : s.eva.raised n = true) :
    (bankRecord so b k s).eva.raised n = true := hwRecord_keeps _ _ _ _ h

theorem adjustRecord_keeps {n : Nat} (i a : Nat) (w : Word) {s : State} (h : s.eva.raised n = true) :
    (adjustRecord i a w s).eva.raised n = true := hwRecord_keeps _ _ _ _ h

/-! What `State.beside` shows as it is -/

section
variable {p : Port} {s t : State}

@[simp] theorem beside_did : (s.beside p).did = s.did := by rw [State.beside]
@[simp] theorem beside_kln : (s.beside p).kln = s.kln := by rw [State.beside]
@[simp] theorem beside_fab : (s.beside p).fab = s.fab := by rw [State.beside]
@[simp] theorem beside_nand : (s.beside p).nand = s.nand := by rw [State.beside]
@[simp] theorem beside_lcu : (s.beside p).lcu = s.lcu := by rw [State.beside]
@[simp] theorem beside_rnd : (s.beside p).bud.rnd = s.bud.rnd := by rw [State.beside]

theorem did_of_beside (h : t.beside p = s.beside p) : t.did = s.did := by rw [← beside_did (s := t), h, beside_did]
theorem kln_of_beside (h : t.beside p = s.beside p) : t.kln = s.kln := by rw [← beside_kln (s := t), h, beside_kln]
theorem fab_of_beside (h : t.beside p = s.beside p) : t.fab = s.fab := by rw [← beside_fab (s := t), h, beside_fab]
theorem nand_of_beside (h : t.beside p = s.beside p) : t.nand = s.nand := by rw [← beside_nand (s := t), h, beside_nand]
theorem lcu_of_beside (h : t.beside p = s.beside p) : t.lcu = s.lcu := by rw [← beside_lcu (s := t), h, beside_lcu]
theorem rnd_of_beside (h : t.beside p = s.beside p) : t.bud.rnd = s.bud.rnd := by rw [← beside_rnd (s := t), h, beside_rnd]

end

/-! The Policy Core's start -/

/-- What each port's part of the start keeps, the whole start keeps. -/
theorem policyStart_same {α : Type} (g : State → α) (s : State) (hb : ∀ p f s, g (onPortBud p f s) = g s)
    (hk : ∀ p f s, g (onPortKln p f s) = g s) (hf : ∀ p s, g (policyForget p s) = g s) :
    g (policyStart s) = g { s with
      bud := { s.bud with rnd := 0 }, kln := { s.kln with first := true, cycles := 0, snaps := 0, stat := {} } } := by
  rw [policyStart, overPorts_same g _ _ (fun p s => ?_)]
  simp only [apply_ite g, hf, hk, hb, ite_self]

@[simp] theorem policyStart_did (s : State) : (policyStart s).did = s.did :=
  policyStart_same State.did s (by simp) (fun _ _ _ => rfl) (fun p s => did_of_beside (policyForget_beside p s))

@[simp] theorem policyStart_rnd (s : State) : (policyStart s).bud.rnd = 0 :=
  policyStart_same (fun s => s.bud.rnd) s (fun _ _ _ => rfl) (fun _ _ _ => rfl)
    (fun p s => rnd_of_beside (policyForget_beside p s))

@[simp] theorem policyStart_first (s : State) : (policyStart s).kln.first = true :=
  policyStart_same (fun s => s.kln.first) s (by simp) (fun _ _ _ => rfl)
    (fun p s => congrArg Kln.first (kln_of_beside (policyForget_beside p s)))

@[simp] theorem policyStart_fab (s : State) : (policyStart s).fab = s.fab :=
  policyStart_same State.fab s (by simp) (fun _ _ _ => rfl) (fun p s => fab_of_beside (policyForget_beside p s))

@[simp] theorem policyStart_nand (s : State) : (policyStart s).nand = s.nand :=
  policyStart_same State.nand s (by simp) (fun _ _ _ => rfl) (fun p s => nand_of_beside (policyForget_beside p s))

@[simp] theorem policyStart_lcu (s : State) : (policyStart s).lcu = s.lcu :=
  policyStart_same State.lcu s (by simp) (fun _ _ _ => rfl) (fun p s => lcu_of_beside (policyForget_beside p s))

/-! ## Banks, pointer records and the stop of the cores -/

theorem writePointer_ptrs (a t p c : Bool) (s : State) : ∃ n,
    (writePointer a t p c s).nand.ptrs = { seq := n, active := a, trial := t, prev := p, cfgSlot := c } :: s.nand.ptrs :=
  ⟨_, rfl⟩

@[simp] theorem writePointer_lcu (a t p c : Bool) (s : State) :
    (writePointer a t p c s).lcu = { s.lcu with active := a, trial := t, cfgSlot := c } := rfl

@[simp] theorem writePointer_did (a t p c : Bool) (s : State) : (writePointer a t p c s).did = s.did := rfl

@[simp] theorem writePointer_eva (a t p c : Bool) (s : State) : (writePointer a t p c s).eva = s.eva := rfl

@[simp] theorem writePointer_bankAt (a t p c b : Bool) (s : State) : bankAt b (writePointer a t p c s) = bankAt b s := rfl

theorem bankAt_of_nand {s t : State} (b : Bool) (h : t.nand = s.nand) : bankAt b t = bankAt b s := by
  simp only [bankAt, h]

@[simp] theorem bankRecord_bankAt (b k : Bool) (so : Byte) (c : Nat) (s : State) : bankAt b (bankRecord so k c s) = bankAt b s :=
  bankAt_of_nand b (bankRecord_nand so k c s)

@[simp] theorem raise_bankAt (b : Bool) (n : Nat) (s : State) : bankAt b (raise n s) = bankAt b s := rfl

@[simp] theorem onLcu_bankAt (b : Bool) (f : Lcu → Lcu) (s : State) : bankAt b (onLcu f s) = bankAt b s := rfl

theorem bankAt_onBankAt (b : Bool) (f : FwBank → FwBank) (s : State) : bankAt b (onBankAt b f s) = f (bankAt b s) := by
  cases b <;> rfl

@[simp] theorem onBankAt_lcu (b : Bool) (f : FwBank → FwBank) (s : State) : (onBankAt b f s).lcu = s.lcu := rfl

@[simp] theorem onBankAt_did (b : Bool) (f : FwBank → FwBank) (s : State) : (onBankAt b f s).did = s.did := rfl

@[simp] theorem onBankAt_eva (b : Bool) (f : FwBank → FwBank) (s : State) : (onBankAt b f s).eva = s.eva := rfl

theorem onBankAt_ptrs (b : Bool) (f : FwBank → FwBank) (s : State) : (onBankAt b f s).nand.ptrs = s.nand.ptrs := by
  cases b <;> rfl

/-! The profile table and the settings leave a field alone that neither holds -/

theorem foldl_same {α β : Type} (g : State → α) (f : State → β → State) (h : ∀ s x, g (f s x) = g s) (l : List β) (s : State) :
    g (l.foldl f s) = g s := by
  induction l generalizing s with
  | nil => rfl
  | cons x l ih => rw [List.foldl_cons, ih, h]

theorem buildProfiles_same {α : Type} (g : State → α) (hr : ∀ i a w s, g (adjustRecord i a w s) = g s)
    (hm : ∀ m b s, g { s with mem := m, bud := b } = g s) (s : State) : g (buildProfiles s) = g s := by
  have hw : ∀ a n bs s, g (writeBlock a n bs s) = g s := fun _ _ _ s => hm _ s.bud s
  unfold buildProfiles
  exact (hm _ _ _).trans ((hw _ _ _ _).trans
    (foldl_same g (fun s (e : ProfEntry) => adjustRecord 0xFF 6 (e.pid ++ e.vid) s) (fun s _ => hr _ _ _ s) _ s))

theorem foldl_keeps {β : Type} {n : Nat} (f : State → β → State)
    (h : ∀ s x, s.eva.raised n = true → (f s x).eva.raised n = true) (l : List β) {s : State} (hs : s.eva.raised n = true) :
    (l.foldl f s).eva.raised n = true := by
  induction l generalizing s with
  | nil => exact hs
  | cons x l ih => exact ih (h s x hs)

theorem buildProfiles_keeps {n : Nat} {s : State} (h : s.eva.raised n = true) : (buildProfiles s).eva.raised n = true := by
  unfold buildProfiles
  exact foldl_keeps (fun s (e : ProfEntry) => adjustRecord 0xFF 6 (e.pid ++ e.vid) s)
    (fun _ _ => adjustRecord_keeps _ _ _) _ h

theorem settingsReturn_same {α : Type} (g : State → α)
    (h : ∀ s b e l, g { s with lcu := { s.lcu with hostLock := b }, sup := { s.sup with etest := e }
                               nand := { s.nand with settings := l } } = g s) (s : State) : g (settingsReturn s) = g s := by
  unfold settingsReturn
  split
  · rfl
  · split
    · rfl
    · unfold putSettings
      dsimp only
      split
      · exact h s false _ s.nand.settings
      · exact h s false _ _

/-- The cores stand still, and no slice has its turn (Table 19.6, step 3). -/
def coresStopped (s : State) : State :=
  s |> onDid (fun d => { d with
        policy := { d.policy with restarting := d.policy.started }, warden := { d.warden with restarting := d.warden.started } })
    |> onLcu (fun l => { l with paused := true, turn := none })

theorem activationRestart_same {α : Type} (g : State → α) (hr : ∀ i a w s, g (adjustRecord i a w s) = g s)
    (hm : ∀ m b s, g { s with mem := m, bud := b } = g s)
    (h : ∀ s b e l, g { s with lcu := { s.lcu with hostLock := b }, sup := { s.sup with etest := e }
                               nand := { s.nand with settings := l } } = g s) (s : State) :
    g (activationRestart s) = g (coresStopped s) :=
  (buildProfiles_same g hr hm _).trans (settingsReturn_same g h _)

@[simp] theorem activationRestart_did (s : State) : (activationRestart s).did = { s.did with
    policy := { s.did.policy with restarting := s.did.policy.started }
    warden := { s.did.warden with restarting := s.did.warden.started } } :=
  activationRestart_same State.did (by simp [adjustRecord]) (fun _ _ _ => rfl) (fun _ _ _ _ => rfl) s

@[simp] theorem activationRestart_ptrs (s : State) : (activationRestart s).nand.ptrs = s.nand.ptrs :=
  activationRestart_same (fun s => s.nand.ptrs) (by simp [adjustRecord]) (fun _ _ _ => rfl) (fun _ _ _ _ => rfl) s

@[simp] theorem activationRestart_bankAt (b : Bool) (s : State) : bankAt b (activationRestart s) = bankAt b s :=
  activationRestart_same (bankAt b) (by simp [bankAt, adjustRecord]) (fun _ _ _ => rfl) (fun _ _ _ _ => rfl) s

/-- Of the update engine's block only the host lock is left open, which a settings entry of another format clears (R423). -/
theorem activationRestart_lcu (s : State) : ∃ b,
    (activationRestart s).lcu = { s.lcu with paused := true, turn := none, hostLock := b } := by
  have h : { (activationRestart s).lcu with hostLock := false } = { (coresStopped s).lcu with hostLock := false } :=
    activationRestart_same (fun t => { t.lcu with hostLock := false }) (by simp [adjustRecord]) (fun _ _ _ => rfl)
      (fun _ _ _ _ => rfl) s
  generalize (activationRestart s).lcu = t at h ⊢
  exact ⟨t.hostLock, congrArg (fun l : Lcu => { l with hostLock := t.hostLock }) h⟩

theorem activationRestart_keeps {n : Nat} {s : State} (h : s.eva.raised n = true) :
    (activationRestart s).eva.raised n = true := by
  refine buildProfiles_keeps ?_
  rwa [settingsReturn_same State.eva (fun _ _ _ _ => rfl)]

/-! Rollback (R425) -/

theorem returnTo_ptrs (b : Bool) (c : Nat) (s : State) : ∃ n, (returnTo b c s).nand.ptrs =
    { seq := n, active := b, trial := false, prev := prevBank s, cfgSlot := s.lcu.cfgSlot } :: s.nand.ptrs := by
  simpa [returnTo, onBankAt_ptrs] using
    writePointer_ptrs b false (prevBank s) s.lcu.cfgSlot (onBankAt (!b) (fun k => { k with st := 3 }) s)

@[simp] theorem returnTo_lcu (b : Bool) (c : Nat) (s : State) :
    (returnTo b c s).lcu = { s.lcu with active := b, trial := false } := by
  simp [returnTo]

@[simp] theorem returnTo_did (b : Bool) (c : Nat) (s : State) : (returnTo b c s).did = s.did := by
  simp [returnTo]

theorem returnTo_failed (b : Bool) (c : Nat) (s : State) : (bankAt (!b) (returnTo b c s)).st = 3 := by
  simp [returnTo, bankAt_onBankAt]

theorem returnTo_raised (b : Bool) (c : Nat) (s : State) : (returnTo b c s).eva.raised 222 = true :=
  bankRecord_keeps _ _ _ (raise_raised _ _ (by decide))

theorem returnTo_keeps {n : Nat} (b : Bool) (c : Nat) {s : State} (h : s.eva.raised n = true) :
    (returnTo b c s).eva.raised n = true :=
  bankRecord_keeps _ _ _ (raise_keeps _ (by simpa using h))

@[simp] theorem rollback_did (s : State) : (rollback s).did = { s.did with
    policy := { s.did.policy with restarting := s.did.policy.started }
    warden := { s.did.warden with restarting := s.did.warden.started } } := by
  simp [rollback]

theorem rollback_ptrs (s : State) : ∃ n, (rollback s).nand.ptrs =
    { seq := n, active := prevBank s, trial := false, prev := prevBank s, cfgSlot := s.lcu.cfgSlot } :: s.nand.ptrs := by
  simpa [rollback] using returnTo_ptrs (prevBank s) 2 s

/-- Of the update engine's block only the host lock is left open. -/
theorem rollback_lcu (s : State) : ∃ b, (rollback s).lcu = { s.lcu with
    active := prevBank s, trial := false, state := 7, rolling := true, turns := slicesTaken s.lcu, paused := true, turn := none
    hostLock := b } := by
  obtain ⟨b, h⟩ := activationRestart_lcu
    (onLcu (fun l => { l with state := 7, rolling := true, turns := slicesTaken s.lcu }) (returnTo (prevBank s) 2 s))
  rw [onLcu_lcu, returnTo_lcu] at h
  exact ⟨b, by simpa only [rollback] using h⟩

theorem rollback_failed (s : State) : (bankAt (!prevBank s) (rollback s)).st = 3 := by
  simp [rollback, returnTo_failed]

theorem rollback_raised (s : State) : (rollback s).eva.raised 222 = true :=
  activationRestart_keeps (returnTo_raised _ _ s)

theorem rollback_keeps {n : Nat} {s : State} (h : s.eva.raised n = true) : (rollback s).eva.raised n = true :=
  activationRestart_keeps (returnTo_keeps _ _ h)

end Sys2Proof.Machine
end

section
/-!
PROOFS. Core restarts, die temperature and VIN_HK.
-/

namespace Sys2Proof.Machine

/-! ## Watchdog expiries and core restarts -/

theorem watchdogExpiry_lcu (c : CoreId) (n : Nat) (s : State) : (watchdogExpiry c n s).lcu = s.lcu := by
  simp [watchdogExpiry, onCore]

theorem watchdogExpiry_nand (c : CoreId) (n : Nat) (s : State) : (watchdogExpiry c n s).nand = s.nand := by
  simp [watchdogExpiry, onCore]

theorem watchdogExpiry_raised (c : CoreId) (n : Nat) (s : State) : (watchdogExpiry c n s).eva.raised 229 = true :=
  coreRecord_keeps _ _ (raise_raised _ _ (by decide))

/-- The core after an expiry: counted, and held at the eighth within 60 s (R12, R90). -/
def Core.expired (n : Nat) (k : Core) : Core :=
  { k with wdc := satInc k.wdc, recent := n + 1, held := decide (7 ≤ n), restarting := decide (n < 7) }

theorem watchdogExpiry_did (c : CoreId) (n : Nat) (s : State) :
    (watchdogExpiry c n s).did = (onCore c (Core.expired n) s).did := by
  have hold : decide (8 ≤ n + 1) = decide (7 ≤ n) := by simp
  have again : (!decide (7 ≤ n)) = decide (n < 7) := by simp [← decide_not]
  simp only [watchdogExpiry, coreRecord_did, raise_did, hold, again]
  rfl

theorem watchdogExpiryAt_stopped {c : CoreId} {s : State} (n : Nat) (h : coreRuns c s = false) : watchdogExpiryAt c n s = s := by
  simp [watchdogExpiryAt, h]

theorem watchdogExpiryAt_confirmed {c : CoreId} {s : State} (n : Nat) (h : coreRuns c s = true) (hl : s.lcu.state ≠ 6) :
    watchdogExpiryAt c n s = watchdogExpiry c n s := by
  have hl' : (watchdogExpiry c n s).lcu.state ≠ 6 := by rwa [watchdogExpiry_lcu]
  rw [watchdogExpiryAt, if_neg (by simp [h])]
  exact if_neg hl'

/-- Before the confirmation of new firmware an expiry rolls it back (R425). -/
theorem watchdogExpiryAt_trial {c : CoreId} {s : State} (n : Nat) (h : coreRuns c s = true) (hl : s.lcu.state = 6) :
    watchdogExpiryAt c n s = rollback (watchdogExpiry c n s) := by
  simp [watchdogExpiryAt, h, hl, watchdogExpiry_lcu]

theorem coreRestartDone_idle {c : CoreId} {s : State} (r : RestartCheck)
    (h : (coreOf c s).restarting = false ∨ (coreOf c s).held = true ∨ s.lcu.paused = true) : coreRestartDone c r s = s := by
  obtain h | h | h := h <;> simp [coreRestartDone, h]

theorem coreRestartDone_due {c : CoreId} {s : State} (r : RestartCheck) (hr : (coreOf c s).restarting = true)
    (hh : (coreOf c s).held = false) (hp : s.lcu.paused = false) :
    coreRestartDone c r s = match r with
      | .good => coreResume c s
      | .badFirmware => wardenReset 3 s
      | .badConfig => wardenReset 2 s := by
  cases r <;> simp [coreRestartDone, hr, hh, hp]

/-! ## Die temperature and VIN_HK -/

theorem dieReading_powered {v : BitVec 16} {s : State} (h : s.did.cond = .operation) :
    dieReading v s = onDid (fun d => { d with temp := v }) s := by
  simp [dieReading, h]

theorem dieReading_reset {v : BitVec 16} {s : State} (h : s.did.cond = .reset) : dieReading v s = s := by
  simp [dieReading, h]

@[simp] theorem queueMsg_eva (p : Port) (m : TxMsg) (s : State) : (queueMsg p m s).eva = s.eva := rfl

@[simp] theorem advertise_eva (p : Port) (s : State) : (advertise p s).eva = s.eva := by
  simp only [advertise, apply_ite State.eva, onOff_eva, pump, renewAdverts, queueMsg_eva, onSlice_eva, onPd_eva, ite_self]

@[simp] theorem tryAlert_eva (p : Port) (s : State) : (tryAlert p s).eva = s.eva := by
  simp only [tryAlert, apply_ite State.eva, queueMsg_eva, ite_self]

@[simp] theorem alertBit_eva (p : Port) (b : BitVec 3) (s : State) : (alertBit p b s).eva = s.eva := by
  simp only [alertBit, apply_ite State.eva, advertise_eva, onOff_eva, tryAlert_eva, ite_self]

theorem alertBit_did (p : Port) (b : BitVec 3) (s : State) : (alertBit p b s).did = s.did :=
  did_of_beside (alertBit_beside p b s)

/-- A warning: the flag and event 226, before each port has its Alert bit (R92, R157). -/
theorem dieTempWarning_raises {v : BitVec 16} {s : State} (hc : s.did.cond = .operation) (hw : s.did.twarn = false)
    (hv : 2000 ≤ v.toInt) : dieTempWarning v s = overPorts (fun p s => alertBit p alertOtp s)
      (clockRecord 226 2 (raise 226 (onDid (fun d => { d with temp := v, twarn := true }) s))) := by
  simp [dieTempWarning, dieReading_powered hc, hc, hw, not_lt.2 hv, onDid]

theorem dieTempWarning_silent {v : BitVec 16} {s : State} (hc : s.did.cond = .operation)
    (h : s.did.twarn = true ∨ v.toInt < 2000) : dieTempWarning v s = { s with did := { s.did with temp := v } } := by
  obtain h | h := h <;> simp [dieTempWarning, dieReading_powered hc, h, onDid]

/-- A shutdown outside a pre-reset phase starts one, with its record (R77, R92). -/
theorem thermalShutdown_starts {v : BitVec 16} {s : State} (hc : s.did.cond = .operation) (ht : s.did.thermal = false)
    (hp : s.did.preReset = false) (hv : 2320 ≤ v.toInt) :
    thermalShutdown v s = preReset (clockRecord 227 3) (raise 227 (onDid (fun d => { d with
      temp := v, thermal := true, srcs := { d.srcs with thermal := true } }) s)) := by
  simp [thermalShutdown, dieReading_powered hc, hc, ht, hp, not_lt.2 hv, onDid, raise_did]

theorem preReset_slice (p : Port) (so : Byte) (k : Nat) (s : State) :
    (preReset (clockRecord so k) s).slice p = (s.slice p).pinsOff p := by
  simp [preReset, pinsOff_slice]

theorem preReset_did (so : Byte) (k : Nat) (s : State) :
    (preReset (clockRecord so k) s).did = { s.did with preReset := true, released := false } := by
  simp [preReset, pinsOff_did]

theorem preReset_keeps {n : Nat} (so : Byte) (k : Nat) {s : State} (h : s.eva.raised n = true) :
    (preReset (clockRecord so k) s).eva.raised n = true :=
  clockRecord_keeps _ _ (by rwa [onDid_eva, pinsOff_eva])

/-- Settles O22. -/
theorem coresAndTemperature : Obligations.CoresAndTemperature := by
  refine ⟨?_, ?_, ?_, ?_, ?_, ?_, ?_, ?_, ?_, ?_, ?_, ?_, ?_, ?_, ?_, ?_, ?_, ?_, ?_, ?_⟩
  · intro n s hr hl
    refine ⟨_, rfl, ?_⟩
    rw [watchdogExpiryAt_confirmed n (c := .policy) hr hl]
    refine ⟨?_, ?_, watchdogExpiry_raised _ _ _⟩ <;> rw [watchdogExpiry_did] <;> rfl
  · intro n s hr hl
    refine ⟨_, rfl, ?_⟩
    rw [watchdogExpiryAt_confirmed n (c := .warden) hr hl]
    refine ⟨?_, ?_, watchdogExpiry_raised _ _ _⟩ <;> rw [watchdogExpiry_did] <;> rfl
  · intro n s hr hl
    refine ⟨_, rfl, ?_⟩
    rw [watchdogExpiryAt_trial n (c := .warden) hr hl]
    obtain ⟨b, hlcu⟩ := rollback_lcu (watchdogExpiry .warden n s)
    rw [hlcu, rollback_did, watchdogExpiry_did]
    refine ⟨rfl, rfl, rfl, ?_, rfl, rfl, rollback_keeps (watchdogExpiry_raised _ _ _), rollback_raised _⟩
    simp [prevBank, watchdogExpiry_nand]
  · intro n s hr
    exact congrArg Host.Outcome.next (watchdogExpiryAt_stopped n (c := .policy) hr)
  · intro s hr hh hp
    refine ⟨_, rfl, ?_⟩
    rw [coreRestartDone_due (c := .policy) .good hr hh hp]
    simp [coreResume, onCore]
  · intro s hr hh hp
    exact congrArg Host.Outcome.next (coreRestartDone_due (c := .warden) .good hr hh hp)
  · intro s hr hh hp hpre hc
    refine ⟨_, rfl, ?_⟩
    rw [coreRestartDone_due (c := .policy) .badFirmware hr hh hp]
    dsimp only
    rw [wardenReset_did 3 hpre (.inr hc)]
    exact ⟨rfl, rfl, rfl⟩
  · intro s hr hh hp hpre hc
    refine ⟨_, rfl, ?_⟩
    rw [coreRestartDone_due (c := .warden) .badConfig hr hh hp]
    dsimp only
    rw [wardenReset_did 2 hpre (.inr hc)]
    exact ⟨rfl, rfl, rfl⟩
  · intro c r s h
    exact congrArg Host.Outcome.next (coreRestartDone_idle r h)
  · intro v s hc hw hv
    refine ⟨_, rfl, ?_⟩
    rw [dieTempWarning_raises hc hw hv]
    rw [overPorts_same State.did _ _ (fun p s => alertBit_did p _ s),
      overPorts_same State.eva _ _ (fun p s => alertBit_eva p _ s)]
    exact ⟨by simp, clockRecord_keeps _ _ (raise_raised _ _ (by decide))⟩
  · intro v s hc h
    exact congrArg Host.Outcome.next (dieTempWarning_silent hc h)
  · intro v s hc hv
    refine congrArg Host.Outcome.next ?_
    simp [dieTempWarningClear, dieReading_powered hc, hv, onDid]
  · intro v s hc hv
    refine congrArg Host.Outcome.next ?_
    simp [dieTempWarningClear, dieReading_powered hc, not_le.2 hv, onDid]
  · intro v s hc ht hp hv
    refine ⟨_, rfl, ?_⟩
    rw [thermalShutdown_starts hc ht hp hv]
    refine ⟨by rw [preReset_did]; rfl, fun p => ?_, preReset_keeps _ _ (raise_raised _ _ (by decide))⟩
    rw [preReset_slice]
    exact ⟨slicePinsOff_isog _ _, slicePinsOff_pwm _ _⟩
  · intro v s hc hv
    refine congrArg Host.Outcome.next ?_
    simp [thermalShutdown, dieReading_powered hc, hv, onDid]
  · intro v s hc hv
    refine congrArg Host.Outcome.next ?_
    simp [thermalRestart, dieReading_reset hc, hv, onDid]
  · intro v s hc hv
    refine congrArg Host.Outcome.next ?_
    simp [thermalRestart, dieReading_reset hc, not_lt.2 hv]
  · intro s hl hr hu
    refine ⟨supplyEvent 228 (onDid (fun d => { d with hkLow := true }) s), ?_, by simp, by simp, by simp⟩
    refine congrArg Host.Outcome.next ?_
    simp [hl, hr, hu]
  · intro s hl
    refine congrArg Host.Outcome.next ?_
    simp [hl]
  · intro s
    rfl

end Sys2Proof.Machine
end

section
/-!
PROOFS. Activation, confirmation, rollback and the reload of slices.
-/

namespace Sys2Proof.Machine

/-! ## ACTIVATE -/

theorem exec_svcActivate {seq : Byte} {s : State} (h : svcFresh 0x13 seq [] s = true) :
    exec (.svcActivate seq) s = .next (svcAnswered 0x13 seq [] (svcActivate s).status (svcActivate s).cause
      (svcActivate s).data (svcActivate s).state) :=
  congrArg Host.Outcome.next (svcRun_fresh h (.inl rfl))

theorem svcActivate_early {s : State} (h : s.lcu.state ≠ 4) : svcActivate s = updateRefused 17 s := by
  unfold svcActivate
  rw [if_pos h]
  rfl

theorem svcActivate_refused {s : State} (h : s.lcu.state = 4) (hc : s.did.cond = .operation) (hu : updateCause s ≠ 0) :
    svcActivate s = updateRefused (updateCause s) s := by
  have hr : inRecovery s = false := by simp [inRecovery, hc]
  simp only [svcActivate, h, hr, ne_eq, not_true_eq_false, Bool.false_eq_true, if_false]
  exact if_pos hu

theorem svcActivate_slot {s : State} (h : s.lcu.state = 4) (ht : s.lcu.target = true)
    (hu : s.did.cond = .recovery ∨ updateCause s = 0) : svcActivate s =
      svcDone [] (endTransfer 0 0 (writePointer s.lcu.active s.lcu.trial (prevBank s) (!s.lcu.cfgSlot) s)) := by
  obtain hu | hu := hu <;> simp [svcActivate, h, inRecovery, hu, ht]

theorem svcActivate_recovery {s : State} (h : s.lcu.state = 4) (ht : s.lcu.target = false) (hc : s.did.cond = .recovery) :
    svcActivate s = svcDone [] (endTransfer 0 0 (writePointer (!s.lcu.active) false s.lcu.active s.lcu.cfgSlot s)) := by
  simp [svcActivate, h, inRecovery, hc, ht]

theorem svcActivate_operation {s : State} (h : s.lcu.state = 4) (ht : s.lcu.target = false) (hc : s.did.cond = .operation)
    (hu : updateCause s = 0) : svcActivate s = svcAccepted (activateFirmware s) := by
  simp [svcActivate, h, inRecovery, hc, ht, hu]

/-! The cores stop for the new firmware (R421, Table 19.6) -/

theorem activateFirmware_ptrs (s : State) : ∃ n, (activateFirmware s).nand.ptrs =
    { seq := n, active := !s.lcu.active, trial := true, prev := s.lcu.active, cfgSlot := s.lcu.cfgSlot } :: s.nand.ptrs := by
  simpa [activateFirmware] using writePointer_ptrs (!s.lcu.active) true s.lcu.active s.lcu.cfgSlot s

theorem activateFirmware_lcu (s : State) : ∃ b, (activateFirmware s).lcu = { s.lcu with
    active := !s.lcu.active, trial := true, state := 5, rolling := false, turns := 0, paused := true, turn := none
    hostLock := b } := by
  obtain ⟨b, h⟩ := activationRestart_lcu (onLcu (fun l => { l with state := 5, rolling := false, turns := 0 })
    (bankRecord 221 (!s.lcu.active) 3 (raise 221 (writePointer (!s.lcu.active) true s.lcu.active s.lcu.cfgSlot s))))
  rw [onLcu_lcu, bankRecord_lcu, raise_lcu, writePointer_lcu] at h
  exact ⟨b, by simpa only [activateFirmware] using h⟩

theorem activateFirmware_did (s : State) : (activateFirmware s).did = { s.did with
    policy := { s.did.policy with restarting := s.did.policy.started }
    warden := { s.did.warden with restarting := s.did.warden.started } } := by
  simp [activateFirmware]

theorem activateFirmware_raised (s : State) : (activateFirmware s).eva.raised 221 = true :=
  activationRestart_keeps (bankRecord_keeps _ _ _ (raise_raised _ _ (by decide)))

/-- A core that restarts from its own start does not run. -/
theorem cores_stopped {s t : State} (h : t.did = { s.did with
    policy := { s.did.policy with restarting := s.did.policy.started }
    warden := { s.did.warden with restarting := s.did.warden.started } }) : policyRuns t = false ∧ wardenRuns t = false := by
  simp only [policyRuns, wardenRuns, h]
  cases s.did.policy.started <;> cases s.did.warden.started <;> simp

/-! ## ACTIVATION_RESTART_DONE -/

theorem activationRestartDone_idle {s : State} (r : RestartCheck) (h : s.lcu.paused = false) : activationRestartDone r s = s := by
  simp [activationRestartDone, h]

theorem activationRestartDone_paused {s : State} (r : RestartCheck) (h : s.lcu.paused = true) :
    activationRestartDone r s = match r with
      | .badConfig => wardenReset 2 s
      | .badFirmware => if s.lcu.rolling then wardenReset 3 s else rollback s
      | .good => activationResume s := by
  cases r <;> simp [activationRestartDone, h]

@[simp] theorem setWindows_did (k : Fin 7) (ws : List Window) (s : State) : (setWindows k ws s).did = s.did := rfl
@[simp] theorem setWindows_lcu (k : Fin 7) (ws : List Window) (s : State) : (setWindows k ws s).lcu = s.lcu := rfl
@[simp] theorem setWindows_nand (k : Fin 7) (ws : List Window) (s : State) : (setWindows k ws s).nand = s.nand := rfl
@[simp] theorem mapApply_did (s : State) : (mapApply s).did = s.did := by simp [mapApply]
@[simp] theorem mapApply_lcu (s : State) : (mapApply s).lcu = s.lcu := by simp [mapApply]
@[simp] theorem mapApply_nand (s : State) : (mapApply s).nand = s.nand := by simp [mapApply]
@[simp] theorem mapApply_prot (s : State) : (mapApply s).fab.prot = s.fab.prot := by simp [mapApply]

@[simp] theorem firmwareMap_did (img : List Byte) (s : State) : (firmwareMap img s).did = s.did := by
  simp [firmwareMap]

@[simp] theorem firmwareMap_lcu (img : List Byte) (s : State) : (firmwareMap img s).lcu = s.lcu := by
  simp [firmwareMap]

@[simp] theorem firmwareMap_nand (img : List Byte) (s : State) : (firmwareMap img s).nand = s.nand := by
  simp [firmwareMap]

/-- The Warden Core's firmware locks `FAB_PROT` (R331). -/
theorem firmwareMap_locks (img : List Byte) (s : State) : (firmwareMap img s).fab.prot.lk = true := by
  simp [firmwareMap]

theorem activationResume_did (s : State) : (activationResume s).did = { s.did with
    fwrun := (bankAt s.lcu.active s).ver, policy := { s.did.policy with restarting := false }
    warden := { s.did.warden with restarting := false } } := by
  simp [activationResume]

theorem activationResume_nand (s : State) : (activationResume s).nand = s.nand := by
  simp [activationResume]

theorem activationResume_lcu (s : State) : (activationResume s).lcu.paused = false ∧
    (activationResume s).lcu.state = (if s.lcu.rolling then 7 else 6) ∧ (activationResume s).lcu.active = s.lcu.active := by
  cases h : s.lcu.rolling <;> simp [activationResume, h]

theorem activationResume_rnd (s : State) : (activationResume s).bud.rnd = 0 := by
  simp [activationResume]

theorem activationResume_locks (s : State) : (activationResume s).fab.prot.lk = true := by
  simp [activationResume, firmwareMap_locks]

/-! ## FIRMWARE_CONFIRM -/

/-- The pointer record with TRIAL 0, and event 221 (R424). -/
def confirmed (s : State) : State :=
  let s := s |> writePointer s.lcu.active false (prevBank s) s.lcu.cfgSlot |> onLcu (fun l => { l with state := 0 })
  globalEvent 221 (upstatWord s.lcu) 0 s

theorem confirmed_lcu (s : State) : (confirmed s).lcu = { s.lcu with trial := false, state := 0 } := by
  simp [confirmed]

theorem confirmed_nand (s : State) :
    (confirmed s).nand = (writePointer s.lcu.active false (prevBank s) s.lcu.cfgSlot s).nand := by
  simp [confirmed]

theorem confirmed_raised (s : State) : (confirmed s).eva.raised 221 = true := by
  simp [confirmed]

theorem confirmed_mem (s : State) : (confirmed s).mem = s.mem :=
  kept_mem (by simp [confirmed])

theorem exec_firmwareConfirm_due {s : State} (hs : s.lcu.state = 6) (hp : policyRuns s = true) (hw : wardenRuns s = true)
    (hb : 0 < s.bud.rnd) : exec .firmwareConfirm s = .next (confirmed s) :=
  congrArg Host.Outcome.next (if_pos (by simp [hs, hp, hw, hb]))

theorem exec_firmwareConfirm_idle {s : State} (h : s.lcu.state ≠ 6 ∨ policyRuns s = false ∨ wardenRuns s = false ∨ s.bud.rnd = 0) :
    exec .firmwareConfirm s = .next s := by
  refine congrArg Host.Outcome.next (if_neg (fun hc => ?_))
  simp only [Bool.and_eq_true, decide_eq_true_eq] at hc
  obtain ⟨⟨⟨hs, hp⟩, hw⟩, hb⟩ := hc
  obtain h | h | h | h := h
  · exact h hs
  · simp [hp] at h
  · simp [hw] at h
  · omega

/-! ## SLICE_RELOAD -/

theorem sopActive_resetCtx (c : Ctx) (k : BitVec 4) (x : Slice) : sopActive (x.resetCtx c k) = sopActive x := rfl

/-- With no frame on the line and none ready, the Soft_Reset of a reload goes out at once from fresh counters (R422). -/
theorem reloadSlice_sends {p : Port} {s : State} (hk : (s.slice p).off.contract.kind ≠ 0)
    (hq : (s.slice p).pd.pdstat.pdSilent = false) (ha : sopActive (s.slice p) = true) (hr : (s.slice p).pd.ready = [])
    (hi : (s.slice p).pd.inflight = none) :
    ((reloadSlice p s).slice p).pd.inflight =
        some { ctx := .sop, kind := .softReset, prio := .ams, cont := true, why := .reload } ∧
      ((reloadSlice p s).slice p).pd.txId.sop = 0 ∧ ((reloadSlice p s).slice p).pd.rxId.sop = none ∧
      ((reloadSlice p s).slice p).off.contract = (s.slice p).off.contract := by
  have hc : carries ((s.slice p).resetCtx .sop 12)
      { ctx := .sop, kind := .softReset, prio := .ams, cont := true, why := .reload } = true := by
    simp [carries, ctxActive, sopActive_resetCtx, ha, rev3Only, hq]
  have hk' : ¬((s.slice p).off.contract.kind = 0 ∨ (s.slice p).pd.pdstat.pdSilent = true) := not_or.2 ⟨hk, by simp [hq]⟩
  simp only [reloadSlice, Bool.or_eq_true, decide_eq_true_eq, if_neg hk', slice_onSlice, queueMsg_slice, hc, if_true]
  refine ⟨pump_sends _ _ ?_ ?_ rfl, ?_, ?_, ?_⟩
  all_goals simp [Slice.resetCtx, hi, hr, PerCtx.upd]

theorem reloadSlice_skips {p : Port} {s : State}
    (h : (s.slice p).off.contract.kind = 0 ∨ (s.slice p).pd.pdstat.pdSilent = true) : reloadSlice p s = s := by
  obtain h | h := h <;> simp [reloadSlice, h]

@[simp] theorem reloadSlice_lcu (p : Port) (s : State) : (reloadSlice p s).lcu = s.lcu :=
  lcu_of_beside (reloadSlice_beside p s)

theorem reloadSlice_slice_ne {p q : Port} (s : State) (h : q ≠ p) : (reloadSlice p s).slice q = s.slice q := by
  simp only [reloadSlice]
  split
  · rfl
  · rw [slice_onSlice_ne _ _ h, queueMsg_slice_ne _ _ h, slice_onSlice_ne _ _ h]

/-- A turn begins with the line idle. -/
theorem inflight_of_reloadReady {p : Port} {s : State} (h : reloadReady p s = true) : (s.slice p).pd.inflight = none := by
  simp only [reloadReady, Bool.and_eq_true, Option.isNone_iff_eq_none] at h
  tauto

/-- The turn goes to the next slice before the slice reloads (R422). -/
def turnTaken (p : Port) (s : State) : State :=
  onLcu (fun l => { l with turn := if p.val + 1 < l.turns then some (p.val + 1) else none }) s

theorem exec_sliceReload_due {p : Port} {s : State} (hp : s.lcu.paused = false) (ht : s.lcu.turn = some p.val)
    (hr : reloadReady p s = true) : exec (.sliceReload p) s = .next (reloadSlice p (turnTaken p s)) := by
  refine congrArg Host.Outcome.next (if_neg ?_)
  simp [hp, ht, hr]

/-- Settles O60. -/
theorem activation : Obligations.Activation := by
  refine ⟨?_, ?_, ?_, ?_, ?_, ?_, ?_, ?_, ?_, ?_, ?_, ?_, ?_, ?_, ?_, ?_, ?_⟩
  · intro seq s h hs
    rw [exec_svcActivate h, svcActivate_early hs]
    rfl
  · intro seq s h hs hc hu
    rw [exec_svcActivate h, svcActivate_refused hs hc hu]
    rfl
  · intro seq s h hs ht hu
    refine ⟨_, exec_svcActivate h, ?_⟩
    rw [svcActivate_slot hs ht hu]
    exact ⟨rfl, rfl, rfl, rfl, rfl, rfl, rfl, rfl, rfl⟩
  · intro seq s h hs ht hc
    refine ⟨_, exec_svcActivate h, ?_⟩
    rw [svcActivate_recovery hs ht hc]
    exact ⟨rfl, rfl, rfl, rfl, rfl, rfl, rfl, rfl⟩
  · intro seq s h hs ht hc hu
    refine ⟨_, exec_svcActivate h, ?_⟩
    rw [svcActivate_operation hs ht hc hu]
    obtain ⟨n, hptrs⟩ := activateFirmware_ptrs s
    obtain ⟨b, hlcu⟩ := activateFirmware_lcu s
    obtain ⟨hpol, hwar⟩ := cores_stopped (activateFirmware_did s)
    have hraised := activateFirmware_raised s
    generalize activateFirmware s = t at hptrs hlcu hpol hwar hraised
    exact ⟨rfl, congrArg Lcu.state hlcu, congrArg Lcu.active hlcu, congrArg Lcu.trial hlcu, congrArg Lcu.paused hlcu,
      hpol, hwar, congrArg (fun l => l.head?.map (fun r : Pointer => (r.active, r.trial, r.prev))) hptrs, hraised⟩
  · intro r s hp
    exact congrArg Host.Outcome.next (activationRestartDone_idle r hp)
  · intro s hp hpre hc
    refine ⟨_, rfl, ?_⟩
    rw [activationRestartDone_paused .badConfig hp]
    exact ⟨wardenReset_did 2 hpre (.inr hc), wardenReset_lcu 2 s, wardenReset_nand 2 s⟩
  · intro s hp hr hpre hc
    refine ⟨_, rfl, ?_⟩
    rw [activationRestartDone_paused .badFirmware hp]
    dsimp only
    rw [if_pos hr]
    exact ⟨wardenReset_did 3 hpre (.inr hc), wardenReset_lcu 3 s, wardenReset_nand 3 s⟩
  · intro s hp hr
    refine ⟨_, rfl, ?_⟩
    rw [activationRestartDone_paused .badFirmware hp]
    simp only [hr, Bool.false_eq_true, if_false]
    obtain ⟨b, hlcu⟩ := rollback_lcu s
    rw [hlcu]
    exact ⟨rfl, rfl, rfl, rfl, rfl, rollback_failed s, rollback_raised s⟩
  · intro s hp
    refine ⟨_, rfl, ?_⟩
    rw [activationRestartDone_paused .good hp]
    obtain ⟨hpaused, hstate, hactive⟩ := activationResume_lcu s
    dsimp only
    rw [activationResume_did]
    exact ⟨hpaused, hstate, hactive, rfl, rfl, rfl, activationResume_rnd s, activationResume_locks s, activationResume_nand s⟩
  · intro s hs hpol hwar hb
    refine ⟨_, exec_firmwareConfirm_due hs hpol hwar hb, ?_⟩
    obtain ⟨n, hptrs⟩ := writePointer_ptrs s.lcu.active false (prevBank s) s.lcu.cfgSlot s
    rw [confirmed_lcu, confirmed_nand, hptrs]
    exact ⟨rfl, rfl, rfl, rfl, rfl, confirmed_raised s, confirmed_mem s⟩
  · intro s h
    exact exec_firmwareConfirm_idle h
  · intro s hs
    refine ⟨rollback s, congrArg Host.Outcome.next (if_pos (by simpa using hs)), ?_⟩
    obtain ⟨b, hlcu⟩ := rollback_lcu s
    obtain ⟨n, hptrs⟩ := rollback_ptrs s
    rw [hlcu, hptrs]
    exact ⟨rfl, rfl, rfl, rfl, rfl, rollback_failed s, rfl, rollback_raised s, cores_stopped (rollback_did s)⟩
  · intro s h5 h6
    exact congrArg Host.Outcome.next (if_neg (by simpa using ⟨h5, h6⟩))
  · intro p s h
    refine congrArg Host.Outcome.next (if_pos ?_)
    simpa [or_assoc] using h
  · intro p s hp ht hr h
    rw [exec_sliceReload_due hp ht hr, reloadSlice_skips (s := turnTaken p s) h]
    rfl
  · intro p s _ hp ht hr hk hq ha hready
    refine ⟨_, exec_sliceReload_due hp ht hr, ?_⟩
    obtain ⟨hsent, htx, hrx, hcon⟩ :=
      reloadSlice_sends (s := turnTaken p s) hk hq ha hready (inflight_of_reloadReady hr)
    exact ⟨by rw [reloadSlice_lcu]; rfl, hsent, htx, hrx, hcon, fun q h => reloadSlice_slice_ne _ h⟩

end Sys2Proof.Machine
end

section
/-!
PROOFS. Fields of a word; the converter, its start and its phase.
-/

namespace Sys2Proof.Machine

/-! ## Fields and bits of a word -/

theorem getField_or (a b : Word) (lo len : Nat) : getField (a ||| b) lo len = getField a lo len ||| getField b lo len := by
  ext i hi; simp [getField]

theorem getBit_or (a b : Word) (i : Nat) : getBit (a ||| b) i = (getBit a i || getBit b i) := by simp [getBit]

theorem getField_putField_same {n : Nat} (x : BitVec n) (lo : Nat) (h : lo + n ≤ 32) : getField (putField x lo) lo n = x := by
  ext i hi
  simp [getField, putField, hi, show lo + i < 32 by omega]

theorem getField_putField_below {n : Nat} (x : BitVec n) (lo lo' len : Nat) (h : lo' + len ≤ lo) :
    getField (putField x lo) lo' len = 0 := by
  ext i hi
  simp [getField, putField, show lo' + i < lo by omega]

theorem getField_putField_above {n : Nat} (x : BitVec n) (lo lo' len : Nat) (h : lo + n ≤ lo') :
    getField (putField x lo) lo' len = 0 := by
  ext i hi
  simp [getField, putField, show n ≤ lo' + i - lo by omega]

theorem getBit_putField_below {n : Nat} (x : BitVec n) (lo i : Nat) (h : i < lo) : getBit (putField x lo) i = false := by
  simp [getBit, putField, h]

/-! ## One switching period: what each of its parts writes -/

@[simp] theorem moveRef_off (code : BitVec 12) (hold : Bool) (x : Slice) : (x.moveRef code hold).off = x.off := rfl
@[simp] theorem moveRef_pd (code : BitVec 12) (hold : Bool) (x : Slice) : (x.moveRef code hold).pd = x.pd := rfl
@[simp] theorem moveRef_att (code : BitVec 12) (hold : Bool) (x : Slice) : (x.moveRef code hold).att = x.att := rfl
@[simp] theorem moveRef_u1 (code : BitVec 12) (hold : Bool) (x : Slice) : (x.moveRef code hold).ps.u1 = x.ps.u1 := rfl
@[simp] theorem moveRef_uHi (code : BitVec 12) (hold : Bool) (x : Slice) : (x.moveRef code hold).ps.uHi = x.ps.uHi := rfl

/-- V_ref goes toward its goal, at the goal's rate over one period, unless the hold line holds it (R25, R166). -/
theorem moveRef_vref (code : BitVec 12) (hold : Bool) (x : Slice) : (x.moveRef code hold).ps.vref =
    if hold then x.ps.vref else approach x.ps.vref (refGoal x).1 ((refGoal x).2 * x.ps.period) := rfl

@[simp] theorem startStep_off (x : Slice) : x.startStep.off = x.off := rfl
@[simp] theorem startStep_pd (x : Slice) : x.startStep.pd = x.pd := rfl
@[simp] theorem startStep_att (x : Slice) : x.startStep.att = x.att := rfl
@[simp] theorem startStep_u1 (x : Slice) : x.startStep.ps.u1 = x.ps.u1 := rfl
@[simp] theorem startStep_uHi (x : Slice) : x.startStep.ps.uHi = x.ps.uHi := rfl
@[simp] theorem startStep_vref (x : Slice) : x.startStep.ps.vref = x.ps.vref := rfl

@[simp] theorem compensator_u2 (code : BitVec 12) (cut : Bool) (x : SlicePs) : (x.compensator code cut).u2 = x.u1 := rfl
@[simp] theorem compensator_fbFresh (code : BitVec 12) (cut : Bool) (x : SlicePs) :
    (x.compensator code cut).fbFresh = false := rfl
@[simp] theorem compensator_e1 (code : BitVec 12) (cut : Bool) (x : SlicePs) :
    (x.compensator code cut).e1 = x.vref16 - 16 * (code.toNat : Int) := rfl
@[simp] theorem compensator_vref (code : BitVec 12) (cut : Bool) (x : SlicePs) :
    (x.compensator code cut).vref = x.vref := rfl

theorem uHi_nonneg (x : SlicePs) : 0 ≤ x.uHi := Int.natCast_nonneg _

theorem compensate_nonneg (x : SlicePs) (e0 e1 e2 : Int) (cut : Bool) : 0 ≤ compensate x e0 e1 e2 cut :=
  le_max_left _ _

theorem compensate_le_uHi (x : SlicePs) (e0 e1 e2 : Int) (cut : Bool) : compensate x e0 e1 e2 cut ≤ x.uHi :=
  max_le (uHi_nonneg x) (min_le_right _ _)

theorem compensator_u1_nonneg (code : BitVec 12) (cut : Bool) (x : SlicePs) : 0 ≤ (x.compensator code cut).u1 :=
  compensate_nonneg ..

theorem compensator_u1_le (code : BitVec 12) (cut : Bool) (x : SlicePs) : (x.compensator code cut).u1 ≤ x.uHi :=
  compensate_le_uHi ..

/-- The period start moves and the offset register with it, and nothing else. -/
theorem movePhase_rest (x : SlicePs) : x.movePhase = { x with phase := x.movePhase.phase, pwmofs := x.movePhase.pwmofs } := by
  unfold SlicePs.movePhase; split <;> rfl

@[simp] theorem movePhase_u1 (x : SlicePs) : x.movePhase.u1 = x.u1 := by rw [movePhase_rest]
@[simp] theorem movePhase_u2 (x : SlicePs) : x.movePhase.u2 = x.u2 := by rw [movePhase_rest]
@[simp] theorem movePhase_e1 (x : SlicePs) : x.movePhase.e1 = x.e1 := by rw [movePhase_rest]
@[simp] theorem movePhase_fbFresh (x : SlicePs) : x.movePhase.fbFresh = x.fbFresh := by rw [movePhase_rest]
@[simp] theorem movePhase_vref (x : SlicePs) : x.movePhase.vref = x.vref := by rw [movePhase_rest]

/-- A switching period moves the reference, takes the start a step on, runs the compensator and moves the period start. -/
theorem pwmPeriod_ps (code : BitVec 12) (hold : Bool) (x : Slice) : (x.pwmPeriod code hold).ps =
    ((x.moveRef code hold).startStep.ps.compensator code x.pr.peakNow).movePhase := rfl
@[simp] theorem pwmPeriod_off (code : BitVec 12) (hold : Bool) (x : Slice) : (x.pwmPeriod code hold).off = x.off := rfl
@[simp] theorem pwmPeriod_pd (code : BitVec 12) (hold : Bool) (x : Slice) : (x.pwmPeriod code hold).pd = x.pd := rfl
@[simp] theorem pwmPeriod_att (code : BitVec 12) (hold : Bool) (x : Slice) : (x.pwmPeriod code hold).att = x.att := rfl

@[simp] theorem pwmPeriod_u2 (code : BitVec 12) (hold : Bool) (x : Slice) : (x.pwmPeriod code hold).ps.u2 = x.ps.u1 := by
  simp [pwmPeriod_ps]
@[simp] theorem pwmPeriod_fbFresh (code : BitVec 12) (hold : Bool) (x : Slice) :
    (x.pwmPeriod code hold).ps.fbFresh = false := by simp [pwmPeriod_ps]
theorem pwmPeriod_vref (code : BitVec 12) (hold : Bool) (x : Slice) : (x.pwmPeriod code hold).ps.vref =
    if hold then x.ps.vref else approach x.ps.vref (refGoal x).1 ((refGoal x).2 * x.ps.period) := by
  rw [pwmPeriod_ps, movePhase_vref, compensator_vref, startStep_vref, moveRef_vref]

/-- The error is the moved reference less the sample, in 1/16 code (R163). -/
theorem pwmPeriod_e1 (code : BitVec 12) (hold : Bool) (x : Slice) : (x.pwmPeriod code hold).ps.e1 =
    (((x.pwmPeriod code hold).ps.vref / 150000 : Nat) : Int) - 16 * (code.toNat : Int) := by
  rw [pwmPeriod_ps, movePhase_e1, movePhase_vref, compensator_e1, compensator_vref]; rfl

theorem pwmPeriod_u1_nonneg (code : BitVec 12) (hold : Bool) (x : Slice) : 0 ≤ (x.pwmPeriod code hold).ps.u1 := by
  rw [pwmPeriod_ps, movePhase_u1]; exact compensator_u1_nonneg ..

theorem pwmPeriod_u1_le (code : BitVec 12) (hold : Bool) (x : Slice) : (x.pwmPeriod code hold).ps.u1 ≤ x.ps.uHi := by
  rw [pwmPeriod_ps, movePhase_u1]
  exact (compensator_u1_le ..).trans_eq ((startStep_uHi _).trans (moveRef_uHi ..))

/-- One period of a port whose converter runs (R163). -/
theorem execPwmPeriod_runs (p : Port) (code : BitVec 12) (s : State) (hrel : s.did.released = true)
    (hrun : (s.slice p).ps.running = true) : ∃ t, exec (.pwmPeriod p code) s = .next t ∧
    (t.slice p).ps.u2 = (s.slice p).ps.u1 ∧ (t.slice p).ps.fbFresh = false ∧ 0 ≤ (t.slice p).ps.u1 ∧
    (t.slice p).ps.u1 ≤ (s.slice p).ps.uHi ∧ (t.slice p).ps.e1 = (t.slice p).ps.vref16 - 16 * (code.toNat : Int) ∧
    (t.slice p).ps.vref = (if s.sup.hold then (s.slice p).ps.vref else
      approach (s.slice p).ps.vref (refGoal (s.slice p)).1 ((refGoal (s.slice p)).2 * (s.slice p).ps.period)) ∧
    (t.slice p).off = (s.slice p).off ∧ (t.slice p).pd = (s.slice p).pd ∧ (t.slice p).att = (s.slice p).att := by
  refine ⟨_, rfl, ?_⟩
  simp [hrel, hrun, SlicePs.vref16, pwmPeriod_u1_nonneg, pwmPeriod_u1_le, pwmPeriod_e1, pwmPeriod_vref]

/-! ## The PPS current loop (R168) -/

theorem le_ppsSet (x : Slice) (mean : Int) : 3300 ≤ ppsSet x mean := by
  have : (3300 : Int) ≤ max 3300 (min (x.off.conMv : Int) ((x.ps.vset : Int) - ((mean - x.off.conMa) * 2).tdiv 10)) :=
    le_max_left _ _
  unfold ppsSet; dsimp only; omega

/-! ## Stagger phase registers (R173) -/

theorem getField_pwmph_next (next : BitVec 15) (cn : BitVec 8) :
    getField (putField next 0 ||| putField cn 16) 0 15 = next := by
  rw [getField_or, getField_putField_same _ _ (by decide), getField_putField_below _ _ _ _ (by decide)]; simp

theorem getField_pwmph_loadCn (next : BitVec 15) (cn : BitVec 8) :
    getField (putField next 0 ||| putField cn 16) 16 8 = cn := by
  rw [getField_or, getField_putField_same _ _ (by decide), getField_putField_above _ _ _ _ (by decide)]; simp

theorem writePwmph_slice (p : Port) (w : Word) (s : State) : ((writePwmph p w s).slice p).ps =
    { (s.slice p).ps with pwmph := { next := getField w 0 15, loadCn := getField w 16 8, pend := true } } := by
  simp [writePwmph]

/-- Settles O36. -/
theorem converter : Obligations.Converter := by
  unfold Obligations.Converter
  refine ⟨execPwmPeriod_runs, ?_, ?_, ?_, ?_, ?_, ?_, ?_, ?_, ?_⟩
  · intro p code s hrun
    exact congrArg Host.Outcome.next (whenReleased_same _ _ (by simp [hrun]))
  · intro p s hrel hc hh hsw
    refine ⟨_, rfl, ?_⟩
    simp [hrel, hc, hh, hsw]
  · intro p s hrel hc hh hsw
    refine ⟨_, rfl, ?_⟩
    simp [hrel, hc, hh, hsw]
  · intro p s hh
    exact congrArg Host.Outcome.next (whenReleased_same _ _ (by simp [hh]))
  · intro p s hrel hc hi hf
    refine ⟨_, rfl, ?_⟩
    simp [hrel, hc, hi, hf, SlicePs.running]
  · intro p s hf
    exact congrArg Host.Outcome.next (whenReleased_same _ _ (by simp [hf]))
  · intro p mean s hrel hk hr hx hc
    refine ⟨_, rfl, ?_⟩
    simp [hrel, hk, hr, hx, hc, SliceOff.changing, le_ppsSet]
  · intro p mean s hk
    exact congrArg Host.Outcome.next (whenReleased_same _ _ (if_pos (by rw [decide_eq_true hk]; rfl)))
  · intro p next cn s
    refine ⟨_, rfl, ?_, by simp⟩
    rw [writePwmph_slice, getField_pwmph_next, getField_pwmph_loadCn]

end Sys2Proof.Machine
end

section
/-!
PROOFS. EPR mode, Alerts and the grant.
-/

namespace Sys2Proof.Machine

/-! ## Frames of the engine: what a message, an AMS or an advertisement leaves alone -/

@[simp] theorem queueMsg_off (p : Port) (m : TxMsg) (s : State) : ((queueMsg p m s).slice p).off = (s.slice p).off := by
  rw [queueMsg_slice]; split
  · exact pump_off _
  · rfl
@[simp] theorem queueMsg_gr (p : Port) (m : TxMsg) (s : State) : ((queueMsg p m s).slice p).gr = (s.slice p).gr := by
  rw [queueMsg_slice]; split
  · exact pump_gr _
  · rfl

@[simp] theorem reply_off (p : Port) (c : Ctx) (k : MsgKind) (w : List Word) (s : State) :
    ((reply p c k w s).slice p).off = (s.slice p).off := queueMsg_off ..
@[simp] theorem reply_gr (p : Port) (c : Ctx) (k : MsgKind) (w : List Word) (s : State) :
    ((reply p c k w s).slice p).gr = (s.slice p).gr := queueMsg_gr ..

@[simp] theorem endAms_off (p : Port) (s : State) : ((endAms p s).slice p).off = (s.slice p).off := by simp [endAms]

@[simp] theorem renewAdverts_off (p : Port) (s : State) : ((renewAdverts p s).slice p).off = (s.slice p).off := by
  simp [renewAdverts]
@[simp] theorem renewAdverts_gr (p : Port) (s : State) : ((renewAdverts p s).slice p).gr = (s.slice p).gr := by
  simp [renewAdverts]

@[simp] theorem tryAlert_off (p : Port) (s : State) : ((tryAlert p s).slice p).off = (s.slice p).off := by
  unfold tryAlert; dsimp only; split
  · rfl
  · exact queueMsg_off ..
@[simp] theorem tryAlert_gr (p : Port) (s : State) : ((tryAlert p s).slice p).gr = (s.slice p).gr := by
  unfold tryAlert; dsimp only; split
  · rfl
  · exact queueMsg_gr ..

@[simp] theorem advertise_contract (p : Port) (s : State) :
    ((advertise p s).slice p).off.contract = (s.slice p).off.contract := by
  simp only [advertise, apply_ite (State.slice · p), apply_ite Slice.off, apply_ite SliceOff.contract, queueMsg_off,
    pump_slice, pump_off, renewAdverts_off, slice_onOff, slice_onPd, ite_self]
@[simp] theorem advertise_gr (p : Port) (s : State) : ((advertise p s).slice p).gr = (s.slice p).gr := by
  simp only [advertise, apply_ite (State.slice · p), apply_ite Slice.gr, queueMsg_gr, pump_slice, pump_gr, renewAdverts_gr,
    slice_onOff, slice_onPd, ite_self]

@[simp] theorem rampBack_contract (k : BitVec 3) (x : Slice) : (x.rampBack k).off.contract = x.off.contract := rfl
@[simp] theorem rampBack_gr (k : BitVec 3) (x : Slice) : (x.rampBack k).gr = x.gr := rfl

@[simp] theorem abortChange_contract (p : Port) (k : BitVec 3) (s : State) :
    ((abortChange p k s).slice p).off.contract = (s.slice p).off.contract := by
  unfold abortChange; dsimp only; split
  · rfl
  · rfl
  · split <;> simp
  · split <;> simp
@[simp] theorem abortChange_gr (p : Port) (k : BitVec 3) (s : State) :
    ((abortChange p k s).slice p).gr = (s.slice p).gr := by
  unfold abortChange; dsimp only; split
  · rfl
  · rfl
  · split <;> simp
  · split <;> simp

@[simp] theorem alertBit_gr (p : Port) (b : BitVec 3) (s : State) : ((alertBit p b s).slice p).gr = (s.slice p).gr := by
  simp only [alertBit, apply_ite (State.slice · p), apply_ite Slice.gr, advertise_gr, tryAlert_gr, slice_onOff, ite_self]

/-! ## Hard Reset (R130, R131) -/

@[simp] theorem hrContexts_contract (x : Slice) : x.hrContexts.off.contract = {} := rfl
@[simp] theorem hrContexts_pdcnt (x : Slice) : x.hrContexts.pd.pdcnt = x.pd.pdcnt := by simp [Slice.hrContexts]
@[simp] theorem hrContexts_gr (x : Slice) : x.hrContexts.gr = x.gr := by simp [Slice.hrContexts]

@[simp] theorem hrRoles_off (x : Slice) : (hrRoles x).off = x.off := by
  simp only [hrRoles, apply_ite Slice.off, vconnOpen_off, ite_self]
@[simp] theorem hrRoles_gr (x : Slice) : (hrRoles x).gr = x.gr := by
  simp only [hrRoles, apply_ite Slice.gr, vconnOpen_gr, ite_self]
@[simp] theorem hrRoles_pdcnt (x : Slice) : (hrRoles x).pd.pdcnt = x.pd.pdcnt := by
  simp only [hrRoles, apply_ite Slice.pd, vconnOpen_pd, ite_self]

@[simp] theorem hrPower_off (p : Port) (s : State) : ((hrPower p s).slice p).off = (s.slice p).off := by
  simp only [hrPower, apply_ite (State.slice · p), apply_ite Slice.off, portEvent_slice, slice_onSlice, pump_off, stopConv_off,
    endSwap_off, hrRoles_off, ite_self]
@[simp] theorem hrPower_gr (p : Port) (s : State) : ((hrPower p s).slice p).gr = (s.slice p).gr := by
  simp only [hrPower, apply_ite (State.slice · p), apply_ite Slice.gr, portEvent_slice, slice_onSlice, pump_gr, stopConv_gr,
    endSwap_gr, hrRoles_gr, ite_self]
@[simp] theorem hrPower_pdcnt (p : Port) (s : State) : ((hrPower p s).slice p).pd.pdcnt = (s.slice p).pd.pdcnt := by
  simp only [hrPower, apply_ite (State.slice · p), apply_ite Slice.pd, portEvent_slice, slice_onSlice,
    pump_pd_pdcnt, stopConv_pd, endSwap_pd, hrRoles_pdcnt, ite_self]

/-- A Hard Reset sent is counted, and the contract is gone. -/
theorem emitHardReset_effect (p : Port) (s : State) :
    ((emitHardReset p s).slice p).pd.pdcnt.hrTx = satInc (s.slice p).pd.pdcnt.hrTx ∧
    ((emitHardReset p s).slice p).off.contract = {} := by
  simp [emitHardReset]

theorem sendHardReset_emits (p : Port) (s : State) (hh : s.sup.hold = false) (hn : (s.slice p).pd.hrSent < nHardResetCount) :
    sendHardReset p s = emitHardReset p s := by
  simp [sendHardReset, hh, not_le.2 hn]

theorem sendHardReset_effect (p : Port) (s : State) (hh : s.sup.hold = false) (hn : (s.slice p).pd.hrSent < nHardResetCount) :
    ((sendHardReset p s).slice p).pd.pdcnt.hrTx = satInc (s.slice p).pd.pdcnt.hrTx ∧
    ((sendHardReset p s).slice p).off.contract = {} := by
  rw [sendHardReset_emits p s hh hn]; exact emitHardReset_effect p s

/-- What the Policy Core and the power block say of a port, without what the partner said of itself. -/
def SliceGr.noPtn (g : SliceGr) : SliceGr := { g with ptnid := {} }

theorem policyForget_gr (p : Port) (s : State) : ((policyForget p s).slice p).gr = (s.slice p).gr := by
  rw [policyForget_slice]; split <;> rfl
theorem clearAttach_noPtn (x : Slice) : x.clearAttach.gr.noPtn = x.gr.noPtn := by
  simp [Slice.clearAttach, SliceGr.noPtn]
theorem errorRecovery_noPtn (p : Port) (s : State) : ((errorRecovery p s).slice p).gr.noPtn = (s.slice p).gr.noPtn := by
  simp only [errorRecovery, slice_onSlice, sink_gr, powerOff_gr, clearAttach_noPtn, policyForget_gr, portEvent_slice]
theorem pdSilence_gr (p : Port) (s : State) : ((pdSilence p s).slice p).gr = (s.slice p).gr := by simp [pdSilence]
theorem emitHardReset_gr (p : Port) (s : State) : ((emitHardReset p s).slice p).gr = (s.slice p).gr := by
  simp [emitHardReset]

theorem sendHardReset_noPtn (p : Port) (s : State) : ((sendHardReset p s).slice p).gr.noPtn = (s.slice p).gr.noPtn := by
  simp only [sendHardReset, apply_ite (State.slice · p), apply_ite Slice.gr, apply_ite SliceGr.noPtn, errorRecovery_noPtn,
    pdSilence_gr, slice_onPd, emitHardReset_gr, ite_self]

/-! ## Changes of a limit -/

/-- Out of EPR mode a change of a limit is at most an abort and an advertisement, so the contract stays (R139, R150). -/
theorem limitsChanged_contract (p : Port) (s : State) (h : (s.slice p).off.contract.epr = false) :
    ((limitsChanged p s).slice p).off.contract = (s.slice p).off.contract := by
  unfold limitsChanged
  simp only [h, Bool.false_and, Bool.false_eq_true, if_false]
  split
  · rfl
  · split
    · split <;> simp
    · simp only [apply_ite (State.slice · p), apply_ite Slice.off, apply_ite SliceOff.contract, advertise_contract,
        renewAdverts_off, slice_onOff, ite_self]

theorem limitsChanged_noPtn (p : Port) (s : State) : ((limitsChanged p s).slice p).gr.noPtn = (s.slice p).gr.noPtn := by
  unfold limitsChanged
  dsimp only
  split
  · rfl
  · split
    · split <;> simp
    · simp only [apply_ite (State.slice · p), apply_ite Slice.gr, apply_ite SliceGr.noPtn, advertise_gr, sendHardReset_noPtn,
        renewAdverts_gr, slice_onOff, ite_self]

/-- EPR mode is left with the contract otherwise as it was (R156). -/
theorem eprLeft_contract (p : Port) (s : State) :
    ((eprLeft p s).slice p).off.contract = { (s.slice p).off.contract with epr := false } := by
  have hoff : ((endAms p (onOff p (fun o => { o with contract := { o.contract with epr := false }, eprLeaving := false }) s)).slice p
      ).off.contract = { (s.slice p).off.contract with epr := false } := by simp
  exact (limitsChanged_contract p _ (by rw [hoff])).trans hoff

/-! ## The grant (R16, R71, R108) -/

theorem grantGone_gr (p : Port) (b : Bool) (s : State) : ((grantGone p b s).slice p).gr = (s.slice p).gr := by
  simp [grantGone, frsSignal, Slice.shed, apply_ite (State.slice · p), apply_ite Slice.gr]
theorem grantBack_gr (p : Port) (s : State) : ((grantBack p s).slice p).gr = (s.slice p).gr := by
  rw [grantBack, slice_onSlice]; dsimp only; split <;> simp
theorem selfCheck_gr (p : Port) (s : State) : ((selfCheck p s).slice p).gr = (s.slice p).gr := by
  simp [selfCheck, apply_ite (State.slice · p), apply_ite Slice.gr]
theorem startSwapConv_gr (p : Port) (s : State) : ((startSwapConv p s).slice p).gr = (s.slice p).gr := by
  simp [startSwapConv, startConv, Slice.beginStart, apply_ite (State.slice · p), apply_ite Slice.gr, selfCheck_gr]
theorem frsCheck_gr (p : Port) (s : State) : ((frsCheck p s).slice p).gr = (s.slice p).gr := by
  simp only [frsCheck, apply_ite (State.slice · p), apply_ite Slice.gr, startSwapConv_gr, slice_onSw, slice_onSlice,
    stopConv_gr, ite_self]

theorem grantMoved_noPtn (p : Port) (old : SliceGr) (b : Bool) (s : State) :
    ((grantMoved p old b s).slice p).gr.noPtn = (s.slice p).gr.noPtn := by
  simp only [grantMoved, frsCheck_gr, slice_onTh, apply_ite (State.slice · p), apply_ite Slice.gr, apply_ite SliceGr.noPtn,
    grantGone_gr, grantBack_gr, advertise_gr, limitsChanged_noPtn, slice_onSlice, grantLimits, alertBit_gr, ite_self]

/-- The register takes the value, and the cap stays (R232). -/
theorem setGrant_noPtn (p : Port) (g : SlcGrant) (s : State) :
    ((setGrant p g s).slice p).gr.noPtn = { (s.slice p).gr.noPtn with grant := g } := by
  simp only [setGrant, grantMoved_noPtn, apply_ite (State.slice · p), apply_ite Slice.gr, alertBit_gr, slice_onGr, ite_self]
  rfl

/-- Isolated, the converter stopped, and without power (R108). -/
def Slice.isShed (x : Slice) : Prop :=
  x.att.attstat.nopwr = true ∧ x.pins.isog = false ∧ x.pins.pwm = .highZ ∧ x.ps.psstat.cstate = 0

theorem shed_isShed (x : Slice) : x.shed.isShed := by simp [Slice.isShed, Slice.shed]

theorem stopConv_isShed {x : Slice} (h : x.isShed) : x.stopConv.isShed := by
  obtain ⟨hn, hi, -, -⟩ := h
  simp [Slice.isShed, hn, hi]

theorem pump_isShed {x : Slice} (h : x.isShed) : x.pump.isShed := by
  obtain ⟨hn, hi, hp, hc⟩ := h
  simp [Slice.isShed, hn, hi, hp, hc]

theorem grantGone_isShed (p : Port) (s : State) : ((grantGone p false s).slice p).isShed := by
  simp only [grantGone, Bool.false_and, Bool.false_eq_true, if_false, slice_onSlice]
  exact pump_isShed (shed_isShed _)

theorem grantGone_state (p : Port) (s : State) :
    ((grantGone p false s).slice p).att.attstat.state = (s.slice p).att.attstat.state := by
  simp [grantGone, Slice.shed]

/-- A port that is no attached Sink is not armed for Fast Role Swap, so a port that is shed stays so (R200). -/
theorem frsCheck_isShed (p : Port) (s : State) (h : (s.slice p).isShed) (h6 : (s.slice p).att.attstat.state ≠ 6) :
    ((frsCheck p s).slice p).isShed := by
  have hr : frsReady p s = false := by simp only [frsReady, decide_eq_false h6, Bool.and_false, Bool.false_and]
  unfold frsCheck
  simp only [hr, Bool.false_eq_true, if_false]
  split
  · exact h
  · split
    · have hstop := stopConv_isShed h
      rw [slice_onSlice]; exact hstop
    · exact h

/-- A grant register that leaves nothing sheds an attached Source (R71, R108). -/
theorem grantMoved_isShed (p : Port) (old : SliceGr) (s : State) (h3 : (s.slice p).att.attstat.state = 3)
    (hd : (s.slice p).att.detaching = false) (hn : (s.slice p).att.attstat.nopwr = false) (hg : (s.slice p).gr.none = true) :
    ((grantMoved p old false s).slice p).isShed := by
  have hgone : grantMoved p old false s = frsCheck p (onTh p (thGrantChange (s.slice p).gr.eff (s.slice p).ps.tlmI.pout.toNat
      (conPower (s.slice p))) (grantGone p false s)) := by simp [grantMoved, h3, hd, hn, hg]
  rw [hgone]
  apply frsCheck_isShed
  · rw [slice_onTh]; exact grantGone_isShed p s
  · simp [grantGone_state, h3]

theorem setGrant_zero_isShed (p : Port) (s : State) (h3 : (s.slice p).att.attstat.state = 3)
    (hd : (s.slice p).att.detaching = false) (hn : (s.slice p).att.attstat.nopwr = false) :
    ((setGrant p (({} : SlcGrant).put 0) s).slice p).isShed := by
  have h0 : ({} : SlcGrant).put 0 = {} := by decide
  rw [h0, setGrant]
  apply grantMoved_isShed <;> simp [h3, hd, hn, SliceGr.none, SliceGr.eff, SliceGr.grantPwr]

/-! ## The commands of EPR mode and of the grant -/

theorem eprReply_carries (p : Port) (w : TxWhy) (l : List Word) (s : State) (ha : sopActive (s.slice p) = true)
    (h2 : rev2 (s.slice p) .sop = false) :
    carries (s.slice p) { ctx := .sop, kind := .eprMode, prio := .reply, why := w, words := l } = true := by
  have hs : (s.slice p).pd.pdstat.pdSilent = false := by
    unfold sopActive at ha; revert ha; cases (s.slice p).pd.pdstat.pdSilent <;> simp
  simp [carries, ctxActive, ha, h2, hs]

/-- Settles O34. -/
theorem eprGrantAndAlert : Obligations.EprGrantAndAlert := by
  unfold Obligations.EprGrantAndAlert
  refine ⟨?_, ?_, ?_, ?_, ?_, ?_, ?_, ?_, ?_, ?_, ?_, ?_, ?_⟩
  · intro p s hrel hrole hact hrev hr hready hin
    refine ⟨_, rfl, ?_⟩
    simp only [whenReleased_pd_of _ _ _ hrel, hrole, hact, hr, Bool.not_true, Bool.or_self, Bool.false_eq_true, if_false, if_true,
      queueMsg_slice, eprReply_carries p _ _ s hact hrev]
    exact pump_sends _ _ hin (by simp [hready]) rfl
  · intro p s hrel hrole hact hrev hr hready hin
    refine ⟨_, rfl, ?_⟩
    simp only [whenReleased_pd_of _ _ _ hrel, hrole, hact, if_neg hr, Bool.not_true, Bool.or_self, Bool.false_eq_true, if_false]
    exact reply_sends _ _ _ _ _ (eprReply_carries p _ _ s hact hrev) hin hready
  · intro p s hrel hrole hact hv
    refine ⟨_, rfl, ?_⟩
    simp [hrel, hrole, hact, hv, eprLeft_contract]
  · intro p s hrel hrole hact hv hh hn
    refine ⟨_, rfl, ?_⟩
    simp only [whenReleased_pd_of _ _ _ hrel, whenReleased_off_of _ _ _ hrel, hrole, hact, if_neg (not_le.2 hv), Bool.not_true,
      Bool.or_self, Bool.false_eq_true, if_false]
    exact sendHardReset_effect p s hh hn
  · intro p s hrel hepr hrole hh hn
    refine ⟨_, rfl, ?_⟩
    simp only [whenReleased_pd_of _ _ _ hrel, whenReleased_off_of _ _ _ hrel, hrole, hepr, Bool.not_false, Bool.and_self, if_true]
    exact sendHardReset_effect p s hh hn
  · intro p s hepr
    exact congrArg Host.Outcome.next (whenReleased_same _ _ (by simp [hepr]))
  · intro p s hrel hk hrole hx hh hn
    refine ⟨_, rfl, ?_⟩
    simp only [whenReleased_pd_of _ _ _ hrel, whenReleased_off_of _ _ _ hrel, hk, hrole, hx, decide_true, Bool.not_false,
      Bool.and_self, if_true]
    exact sendHardReset_effect p s hh hn
  · intro p s hk
    exact congrArg Host.Outcome.next (whenReleased_same _ _ (by simp only [decide_eq_false hk]; simp))
  · intro p s hrel
    refine ⟨_, rfl, ?_⟩
    simp [hrel]
  · intro p mean s hrel hrun hcon hm
    refine ⟨_, rfl, ?_⟩
    simp [hrel, hrun, hcon, not_le.2 hm]
  · intro p mean s hrel hrun hm
    refine ⟨_, rfl, ?_⟩
    simp [hrel, hrun, hm]
  · intro p w s
    have h := setGrant_noPtn p (({} : SlcGrant).put w) s
    have hgrant := congrArg SliceGr.grant h
    have hcap := congrArg SliceGr.cap h
    refine ⟨_, rfl, ?_, ?_⟩
    · rw [spreading_gr_of]; exact hgrant
    · rw [spreading_gr_of]; exact hcap
  · intro p s h3 hd hn
    refine ⟨_, rfl, ?_⟩
    rw [spreading_att_of, spreading_pins_of, spreading_ps_psstat]
    exact setGrant_zero_isShed p s h3 hd hn

end Sys2Proof.Machine
end

section
/-!
PROOFS. What a switch-over of the input leaves alone, and the scheduler: submitting, aborting and running entries.
-/

namespace Sys2Proof.Machine

/-! ## A switch-over of the input: the cycle clock and the scheduler stay as they are -/

@[simp] theorem beside_cyc {p : Port} {s : State} : (s.beside p).cyc = s.cyc := by rw [State.beside]

theorem cyc_of_beside {p : Port} {s t : State} (h : t.beside p = s.beside p) : t.cyc = s.cyc := by
  rw [← beside_cyc (s := t), h, beside_cyc]

theorem capUpdate_cyc (s : State) : (capUpdate s).cyc = s.cyc := by
  unfold capUpdate
  rw [foldl_same State.cyc _ (fun s p => cyc_of_beside (grantMoved_beside p _ true s)), apply_ite State.cyc, supplyEvent_cyc,
    ite_self]
  exact overPorts_same State.cyc _ _ (fun _ _ => rfl)

theorem publishVmax_cyc (v : BitVec 9) (s : State) : (publishVmax v s).cyc = s.cyc := by
  unfold publishVmax; split
  · rfl
  · exact overPorts_same State.cyc _ _ (fun p s => cyc_of_beside (limitsChanged_beside p s))

theorem portsPresent_cyc (s : State) : (portsPresent s).cyc = s.cyc := by
  unfold portsPresent; split
  · rfl
  · exact overPorts_same State.cyc _ _ (fun _ _ => rfl)

theorem activeMoved_cyc (old : InputId) (s : State) : (activeMoved old s).cyc = s.cyc := by
  simp only [activeMoved, apply_ite State.cyc, portsPresent_cyc, onDid_cyc, ite_self]
  rw [foldl_same State.cyc _ (fun s p => cyc_of_beside (frsCheck_beside p s)),
    foldl_same State.cyc _ (fun s p => cyc_of_beside (sinkRequest_beside p false s)),
    overPorts_same State.cyc _ _ (fun p s => cyc_of_beside (alertBit_beside p _ s)), apply_ite State.cyc, publishVmax_cyc,
    ite_self, capUpdate_cyc]

theorem setActive_cyc (x : InputId) (s : State) : (setActive x s).cyc = s.cyc := by
  unfold setActive
  dsimp only
  split
  · rfl
  · rw [activeMoved_cyc]; split <;> split <;> simp

theorem holdAssert_cyc (s : State) : (holdAssert s).cyc = s.cyc := by
  unfold holdAssert; split
  · rfl
  · exact overPorts_same State.cyc _ _ (fun _ _ => rfl)

/-! ## A switch-over of the input clears no event -/

section
variable {n : Nat} {s : State}

theorem ite_keeps {c : Prop} [Decidable c] {t u : State} (ht : t.eva.raised n = true) (hu : u.eva.raised n = true) :
    (if c then t else u).eva.raised n = true := by
  split
  · exact ht
  · exact hu

theorem supplyEvent_keeps (m : Nat) (h : s.eva.raised n = true) : (supplyEvent m s).eva.raised n = true :=
  hwRecord_keeps _ _ _ _ (raise_keeps _ h)

theorem tripEvent_keeps (p : Port) (l : Bool) (h : s.eva.raised n = true) : (tripEvent p l s).eva.raised n = true :=
  hwRecord_keeps _ _ _ _ (raise_keeps _ h)

theorem globalEvent_keeps (m : Nat) (w : Word) (i : Nat) (h : s.eva.raised n = true) :
    (globalEvent m w i s).eva.raised n = true := by
  rw [globalEvent_eva]; exact raise_keeps _ h

theorem errorRecovery_keeps (p : Port) (h : s.eva.raised n = true) : (errorRecovery p s).eva.raised n = true := by
  simp only [errorRecovery, onSlice_eva, policyForget_eva]; exact portEvent_keeps p 7 h

theorem pdSilence_keeps (p : Port) (h : s.eva.raised n = true) : (pdSilence p s).eva.raised n = true :=
  portEvent_keeps p 7 (by rwa [onPd_eva])

theorem emitHardReset_keeps (p : Port) (h : s.eva.raised n = true) : (emitHardReset p s).eva.raised n = true := by
  unfold emitHardReset hrPower
  dsimp only
  split
  · exact portEvent_keeps p 2 (by simpa using h)
  · simpa using h

theorem sendHardReset_keeps (p : Port) (h : s.eva.raised n = true) : (sendHardReset p s).eva.raised n = true := by
  unfold sendHardReset; dsimp only; split
  · split
    · exact errorRecovery_keeps p h
    · exact pdSilence_keeps p h
  · split
    · simpa using h
    · exact emitHardReset_keeps p h

theorem renewAdverts_eva (p : Port) (s : State) : (renewAdverts p s).eva = s.eva := rfl

theorem abortChange_eva (p : Port) (k : BitVec 3) (s : State) : (abortChange p k s).eva = s.eva := by
  unfold abortChange; dsimp only; split
  · rfl
  · rfl
  · split <;> rfl
  · split <;> rfl

/-- A change of a limit brings no event but those of a Hard Reset. -/
theorem limitsChanged_keeps (p : Port) (h : s.eva.raised n = true) : (limitsChanged p s).eva.raised n = true := by
  have hr : (renewAdverts p s).eva.raised n = true := by rwa [renewAdverts_eva]
  have ho : ∀ (c : Prop) [Decidable c] (f : SliceOff → SliceOff),
      (if c then onOff p f (renewAdverts p s) else renewAdverts p s).eva.raised n = true :=
    fun c _ f => ite_keeps (by rwa [onOff_eva]) hr
  have ha : ∀ t : State, t.eva.raised n = true → (advertise p t).eva.raised n = true := fun t h => by rwa [advertise_eva]
  unfold limitsChanged
  dsimp only
  refine ite_keeps h (ite_keeps ?_ (ite_keeps (sendHardReset_keeps p (ho _ _)) (ite_keeps (ha _ (ho _ _)) (ite_keeps (ho _ _)
    (ite_keeps ?_ (ha _ (ho _ _)))))))
  · split
    · rwa [abortChange_eva]
    · exact hr
  · rw [onOff_eva]; exact ho _ _

theorem grantGone_keeps (p : Port) (b : Bool) (h : s.eva.raised n = true) : (grantGone p b s).eva.raised n = true := by
  unfold grantGone; split
  · exact portEvent_keeps p 2 (by rwa [onSlice_eva])
  · rwa [onSlice_eva]

theorem startSwapConv_keeps (p : Port) (h : s.eva.raised n = true) : (startSwapConv p s).eva.raised n = true := by
  have hs : (selfCheck p s).eva.raised n = true := by
    unfold selfCheck; dsimp only; split
    · rwa [onPr_eva]
    · exact tripEvent_keeps p false (by rwa [onPr_eva])
  unfold startSwapConv startConv
  dsimp only
  rw [onPs_eva, apply_ite State.eva, onSlice_eva, ite_self]
  exact hs

theorem frsCheck_keeps (p : Port) (h : s.eva.raised n = true) : (frsCheck p s).eva.raised n = true := by
  unfold frsCheck; dsimp only; split
  · exact h
  · split
    · split
      · exact h
      · exact startSwapConv_keeps p (by rwa [onSw_eva])
    · split
      · rwa [onSlice_eva]
      · exact h

theorem grantMoved_keeps (p : Port) (old : SliceGr) (b : Bool) (h : s.eva.raised n = true) :
    (grantMoved p old b s).eva.raised n = true := by
  unfold grantMoved
  dsimp only
  apply frsCheck_keeps
  rw [onTh_eva]
  have ha : ∀ (c : Prop) [Decidable c], (if c then alertBit p alertInput s else s).eva.raised n = true :=
    fun c _ => ite_keeps (by rwa [alertBit_eva]) h
  split
  · exact grantGone_keeps p b (ha _)
  · split
    · rw [grantBack, onSlice_eva]; exact ha _
    · split
      · rw [apply_ite State.eva, advertise_eva, ite_self]
        exact limitsChanged_keeps p (by rw [onSlice_eva]; exact ha _)
      · exact ha _

theorem overPorts_keeps (f : Port → State → State) (hf : ∀ p s, s.eva.raised n = true → (f p s).eva.raised n = true)
    (h : s.eva.raised n = true) : (overPorts f s).eva.raised n = true :=
  foldl_keeps (fun s p => f p s) (fun s p => hf p s) allPorts h

theorem capUpdate_keeps (h : s.eva.raised n = true) : (capUpdate s).eva.raised n = true := by
  unfold capUpdate
  refine foldl_keeps _ (fun s p h => grantMoved_keeps p _ true h) _ ?_
  have hc : ∀ f : Port → SliceGr → SliceGr, (overPorts (fun p s => onGr p (f p) s) s).eva.raised n = true :=
    fun f => overPorts_keeps _ (fun p s h => by rwa [onGr_eva]) h
  split
  · exact hc _
  · exact supplyEvent_keeps 200 (hc _)

theorem publishVmax_keeps (v : BitVec 9) (h : s.eva.raised n = true) : (publishVmax v s).eva.raised n = true := by
  unfold publishVmax; split
  · exact h
  · exact overPorts_keeps _ (fun p s h => limitsChanged_keeps p h) h

theorem portsPresent_eva (s : State) : (portsPresent s).eva = s.eva := by
  unfold portsPresent; split
  · rfl
  · exact overPorts_same State.eva _ _ (fun _ _ => rfl)

theorem sinkRequest_eva (p : Port) (b : Bool) (s : State) : (sinkRequest p b s).eva = s.eva := by
  unfold sinkRequest; dsimp only; split
  · rfl
  · split <;> rfl

theorem activeMoved_keeps (old : InputId) (h : s.eva.raised n = true) : (activeMoved old s).eva.raised n = true := by
  simp only [activeMoved, apply_ite State.eva, portsPresent_eva, onDid_eva, ite_self]
  refine foldl_keeps _ (fun s p h => frsCheck_keeps p h) _ ?_
  rw [foldl_same State.eva _ (fun s p => sinkRequest_eva p false s),
    overPorts_same State.eva _ _ (fun p s => alertBit_eva p _ s)]
  split
  · exact publishVmax_keeps 0 (capUpdate_keeps h)
  · exact capUpdate_keeps h

theorem setActive_keeps (x : InputId) (h : s.eva.raised n = true) : (setActive x s).eva.raised n = true := by
  unfold setActive
  dsimp only
  refine ite_keeps h (activeMoved_keeps _ ?_)
  have ho : ∀ (c : Prop) [Decidable c] (f g : Sup → Sup),
      (if c then onSup g (onSlice 1 Slice.openSnkg (onSlice 0 Slice.openSnkg (onSup f s))) else onSup f s).eva.raised n = true :=
    fun c _ f g => ite_keeps (by simpa using h) (by rwa [onSup_eva])
  cases x with
  | main => exact supplyEvent_keeps 193 (ho _ _ _)
  | cascade => exact supplyEvent_keeps 196 (ho _ _ _)
  | none => exact ho _ _ _
  | backup => exact ho _ _ _

theorem holdAssert_eva (s : State) : (holdAssert s).eva = s.eva := by
  unfold holdAssert; split
  · rfl
  · exact overPorts_same State.eva _ _ (fun _ _ => rfl)

end

/-! ## Submitting (R263, R264) -/

theorem submit_refused {e : SchedEntry} {phase : BitVec 16} {s : State} (h : submitCause e s ≠ 0) :
    submit e phase s = (s, submitCause e s, none) := by
  unfold submit; exact if_pos h

/-- An accepted entry: its slot and the count of orders move in the scheduler, and nothing else. -/
theorem submit_accepted {e : SchedEntry} {phase : BitVec 16} {s : State} {k : Fin 128} (h : submitCause e s = 0)
    (hk : slotFor s = some k) : (submit e phase s).2 = (0, some k) ∧ (submit e phase s).1.cyc = { s.cyc with
      slots := updAt s.cyc.slots k (fun x =>
        { st := .pending, gen := x.gen + 1, entry := e, late := pastDue e s.cyc.cn phase, order := s.cyc.orders })
      orders := s.cyc.orders + 1 } := by
  unfold submit
  simp only [h, hk, ne_eq, not_true_eq_false, if_false, true_and]
  rw [apply_ite State.cyc, globalEvent_cyc, ite_self]
  rfl

/-- Changing a bank of the load registers changes that bank. -/
theorem onLdBank_get (bk : Bank) (f : LdBank → LdBank) (s : State) :
    (onLdBank bk f s).cyc.banks.get bk = f (s.cyc.banks.get bk) := by cases bk <;> rfl
@[simp] theorem onLdBank_slots (bk : Bank) (f : LdBank → LdBank) (s : State) :
    (onLdBank bk f s).cyc.slots = s.cyc.slots := rfl
@[simp] theorem onLdBank_orders (bk : Bank) (f : LdBank → LdBank) (s : State) :
    (onLdBank bk f s).cyc.orders = s.cyc.orders := rfl

/-- The entry that a bank's load registers hold. -/
def loadedEntry (bk : Bank) (s : State) : SchedEntry :=
  let ld := s.cyc.banks.get bk
  { tcn := ld.ld0, tphase := ld.ld1.tphase, op := ld.ld1.op, arg0 := ld.ld2, arg1 := ld.ld3, src := schedSrcOf bk }

theorem schedGo_eq (q : Requester) (phase : BitVec 16) (s : State) : schedGo q phase s =
    onLdBank (bankOf q s) (fun x => { x with stat := ldstatOf (submit (loadedEntry (bankOf q s) s) phase s) })
      (submit (loadedEntry (bankOf q s) s) phase s).1 := rfl

theorem ldctlHandle (b : Word) (h : BitVec 15) (hb : getField b 16 15 = 0) : getField (b ||| putField h 16) 16 15 = h := by
  rw [getField_or, hb, getField_putField_same _ _ (by decide)]; simp

/-- The word of GO starts a submission and no abort. -/
theorem writeLdctl_go (q : Requester) (phase : BitVec 16) (s : State) :
    writeLdctl q phase (1 ||| putField s.cyc.handle 16) s = schedGo q phase s := by
  have hgo : getBit (1 ||| putField s.cyc.handle 16) 0 = true := by
    rw [getBit_or, getBit_putField_below _ _ _ (by decide)]; rfl
  have hab : getBit (1 ||| putField s.cyc.handle 16) 1 = false := by
    rw [getBit_or, getBit_putField_below _ _ _ (by decide)]; rfl
  unfold writeLdctl
  simp only [hgo, hab, ldctlHandle 1 s.cyc.handle (by decide), if_true, Bool.false_eq_true, if_false]

/-- The word of ABORT takes the handle, and starts an abort and no submission. -/
theorem writeLdctl_abort (q : Requester) (h : BitVec 15) (s : State) :
    writeLdctl q 0 (2 ||| putField h 16) s = schedAbort q h { s with cyc := { s.cyc with handle := h } } := by
  have hgo : getBit (2 ||| putField h 16) 0 = false := by
    rw [getBit_or, getBit_putField_below _ _ _ (by decide)]; rfl
  have hab : getBit (2 ||| putField h 16) 1 = true := by
    rw [getBit_or, getBit_putField_below _ _ _ (by decide)]; rfl
  unfold writeLdctl
  simp only [hgo, hab, ldctlHandle 2 h (by decide), if_true, Bool.false_eq_true, if_false]

/-! ## The two commands of the load registers -/

theorem execSchedGo_refused (q : Requester) (phase : BitVec 16) (e : SchedEntry) (s : State)
    (he : e = loadedEntry (bankOf q s) s) (hc : submitCause e s ≠ 0) : ∃ t, exec (.schedGo q phase) s = .next t ∧
    (t.cyc.banks.get (bankOf q s)).stat = { result := 2, cause := submitCause e s } ∧ t.cyc.slots = s.cyc.slots ∧
    t.eva = s.eva := by
  refine ⟨_, rfl, ?_⟩
  rw [writeLdctl_go, schedGo_eq, ← he, submit_refused hc, onLdBank_get]
  exact ⟨rfl, rfl, rfl⟩

theorem execSchedGo_accepted (q : Requester) (phase : BitVec 16) (e : SchedEntry) (k : Fin 128) (s : State)
    (he : e = loadedEntry (bankOf q s) s) (hc : submitCause e s = 0) (hk : slotFor s = some k) :
    ∃ t, exec (.schedGo q phase) s = .next t ∧ t.cyc.slots.get k =
      { st := .pending, gen := (s.cyc.slots.get k).gen + 1, entry := e, late := pastDue e s.cyc.cn phase, order := s.cyc.orders } ∧
    (∀ j, j ≠ k → t.cyc.slots.get j = s.cyc.slots.get j) ∧ t.cyc.orders = s.cyc.orders + 1 ∧
    (t.cyc.banks.get (bankOf q s)).stat =
      { result := 1, late := pastDue e s.cyc.cn phase
        handle := BitVec.ofNat 15 (((s.cyc.slots.get k).gen + 1).toNat * 128 + k.val) } := by
  refine ⟨_, rfl, ?_⟩
  rw [writeLdctl_go, schedGo_eq, ← he, onLdBank_get, onLdBank_slots, onLdBank_orders]
  obtain ⟨h2, hcyc⟩ := submit_accepted (phase := phase) hc hk
  refine ⟨by simp [hcyc], fun j hj => by simp [hcyc, hj], by rw [hcyc], ?_⟩
  simp [ldstatOf, slotHandle, h2, hcyc]

/-- A handle written does not change which entry it names, nor the requester's bank. -/
theorem abortResult_handle (bk : Bank) (h h' : BitVec 15) (s : State) :
    abortResult bk h { s with cyc := { s.cyc with handle := h' } } = abortResult bk h s := rfl
theorem bankOf_handle (q : Requester) (h : BitVec 15) (s : State) :
    bankOf q { s with cyc := { s.cyc with handle := h } } = bankOf q s := by cases q <;> rfl

/-- What an abort with result `r` makes of the slot it reaches (R267). -/
def abortedBy (r : BitVec 3 × Option (Fin 128)) (s : State) : State :=
  match r.2 with
  | none => s
  | some k =>
    if r.1 = 3 then
      let s' := onSlot k (fun x => { x with st := .aborted, order := s.cyc.orders }) s
      { s' with cyc := { s'.cyc with orders := s'.cyc.orders + 1 } }
    else onSlot k (fun x => { x with abortLate := true }) s

/-- SCHED_ABORT takes the handle, and the result of the abort goes into the requester's bank. -/
theorem execSchedAbort_eq {q : Requester} {h : BitVec 15} {s : State} {r : BitVec 3 × Option (Fin 128)}
    (hr : abortResult (bankOf q s) h s = r) : exec (.schedAbort q h) s = .next
      (onLdBank (bankOf q s) (fun x => { x with stat := { x.stat with result := r.1 } })
        (abortedBy r { s with cyc := { s.cyc with handle := h } })) := by
  refine congrArg Host.Outcome.next ((writeLdctl_abort q h s).trans ?_)
  unfold schedAbort
  dsimp only
  rw [bankOf_handle, abortResult_handle, hr]
  rfl

/-! ## What an entry's operation does (R265) -/

theorem mem_maskPorts {m : Word} {p : Port} : p ∈ maskPorts m ↔ m.getLsbD p.val = true := by
  simp [maskPorts, mem_allPorts]

theorem maskPorts_nodup (m : Word) : (maskPorts m).Nodup := allPorts_nodup.filter _

/-- A Thatch command goes once to each port of a list. -/
def thatchStep (sub : Nat) (arg1 : Word) (slot : Fin 128 × Byte) (r : State × BitVec 2) (p : Port) : State × BitVec 2 :=
  (onTh p (fun _ => (thScheduled sub arg1 slot (r.1.slice p).th).1) r.1,
    if (thScheduled sub arg1 slot (r.1.slice p).th).2 then 2 else r.2)

theorem carryOut_thatch (k : Fin 128) (e : SchedEntry) (gen : Byte) (s : State) (h : e.op = 1) : carryOut k e gen s =
    (maskPorts e.arg0).foldl (thatchStep (getField e.arg0 24 8).toNat e.arg1 (k, gen)) (s, 1) := by
  unfold carryOut; exact if_pos h

theorem thatchSteps_slice (sub : Nat) (arg1 : Word) (slot : Fin 128 × Byte) (p : Port) (l : List Port) (r : State × BitVec 2)
    (hl : l.Nodup) : (l.foldl (thatchStep sub arg1 slot) r).1.slice p =
      if p ∈ l then { r.1.slice p with th := (thScheduled sub arg1 slot (r.1.slice p).th).1 } else r.1.slice p :=
  foldl_get (thatchStep sub arg1 slot) (fun p r => r.1.slice p)
    (fun _ x => { x with th := (thScheduled sub arg1 slot x.th).1 }) (fun r p => slice_onTh p _ r.1)
    (fun r _ _ h => slice_onTh_ne _ r.1 h) p l r hl

theorem thatchSteps_cyc (sub : Nat) (arg1 : Word) (slot : Fin 128 × Byte) (l : List Port) (r : State × BitVec 2) :
    (l.foldl (thatchStep sub arg1 slot) r).1.cyc = r.1.cyc := by
  induction l generalizing r with
  | nil => rfl
  | cons p l ih => rw [List.foldl_cons, ih]; rfl

/-- A host limit goes to one port. -/
def hlimStep (w : BitVec 9) (s : State) (p : Port) : State :=
  onPortBud p (fun b => { b with pcfg := { b.pcfg with hlim := w } }) s

theorem carryOut_hlim (k : Fin 128) (e : SchedEntry) (gen : Byte) (s : State) (h : e.op = 2) : carryOut k e gen s =
    ((maskPorts e.arg0).foldl (hlimStep (getField e.arg1 0 9)) s, 1) := by
  unfold carryOut; rw [if_neg (by rw [h]; decide), if_pos h]; rfl

theorem hlimSteps_port (w : BitVec 9) (p : Port) (l : List Port) (s : State) (hl : l.Nodup) :
    (l.foldl (hlimStep w) s).bud.ports.get p =
      if p ∈ l then { s.bud.ports.get p with pcfg := { (s.bud.ports.get p).pcfg with hlim := w } } else s.bud.ports.get p :=
  foldl_get (hlimStep w) (fun p s => s.bud.ports.get p) (fun _ b => { b with pcfg := { b.pcfg with hlim := w } })
    (fun s p => get_updAt_self s.bud.ports p _) (fun s _ _ h => get_updAt_ne s.bud.ports _ h) p l s hl

theorem hlimSteps_cyc (w : BitVec 9) (l : List Port) (s : State) : (l.foldl (hlimStep w) s).cyc = s.cyc :=
  foldl_same State.cyc (hlimStep w) (fun _ _ => rfl) l s

theorem carryOut_etest (k : Fin 128) (e : SchedEntry) (gen : Byte) (s : State) (h : e.op = 3) : carryOut k e gen s =
    ((etestStart (getField e.arg1 0 2) s).1, if (etestStart (getField e.arg1 0 2) s).2 then 1 else 3) := by
  unfold carryOut; rw [if_neg (by rw [h]; decide), if_neg (by rw [h]; decide), if_pos h]

theorem carryOut_snapshot (k : Fin 128) (e : SchedEntry) (gen : Byte) (s : State) (h : e.op = 4) :
    carryOut k e gen s = (takeSnapshot s, 1) := by
  unfold carryOut
  rw [if_neg (by rw [h]; decide), if_neg (by rw [h]; decide), if_neg (by rw [h]; decide), if_pos h]

theorem carryOut_dma (k : Fin 128) (e : SchedEntry) (gen : Byte) (s : State) (h : e.op = 5) : carryOut k e gen s =
    ((dmaTrigger (schedBank e.src) (getField e.arg0 0 16) s).1,
      if (dmaTrigger (schedBank e.src) (getField e.arg0 0 16) s).2 then 1 else 2) := by
  unfold carryOut
  rw [if_neg (by rw [h]; decide), if_neg (by rw [h]; decide), if_neg (by rw [h]; decide), if_neg (by rw [h]; decide)]

/-! ## Running an entry (R265, R268) -/

section
variable {k : Fin 128} {late : Bool} {s : State}

/-- An entry that has run is done, with its result, and keeps what its operation left of the slot. -/
theorem runEntry_slot : (runEntry k late s).cyc.slots.get k =
    let r := carryOut k (s.cyc.slots.get k).entry (s.cyc.slots.get k).gen s
    { r.1.cyc.slots.get k with
      st := .done, late := late || (s.cyc.slots.get k).late
      res := if r.2 = 1 && (r.1.cyc.slots.get k).res = 2 then 2 else r.2, order := r.1.cyc.orders, ranCn := r.1.cyc.cn } := by
  unfold runEntry
  dsimp only
  generalize carryOut k (s.cyc.slots.get k).entry (s.cyc.slots.get k).gen s = r
  rw [apply_ite State.cyc, globalEvent_cyc, ite_self]
  exact get_updAt_self ..

/-- What running an entry and finishing it leave as the operation left it. -/
theorem runEntry_same {α : Type} (g : State → α) (hc : ∀ c s, g { s with cyc := c } = g s)
    (he : ∀ n w i s, g (globalEvent n w i s) = g s) :
    g (runEntry k late s) = g (carryOut k (s.cyc.slots.get k).entry (s.cyc.slots.get k).gen s).1 := by
  unfold runEntry
  dsimp only
  generalize carryOut k (s.cyc.slots.get k).entry (s.cyc.slots.get k).gen s = r
  rw [apply_ite g, he, ite_self]
  exact (hc _ _).trans (hc _ r.1)

theorem runEntry_slices : (runEntry k late s).slices =
    (carryOut k (s.cyc.slots.get k).entry (s.cyc.slots.get k).gen s).1.slices :=
  runEntry_same State.slices (fun _ _ => rfl) globalEvent_slices
theorem runEntry_slice (p : Port) : (runEntry k late s).slice p =
    (carryOut k (s.cyc.slots.get k).entry (s.cyc.slots.get k).gen s).1.slice p :=
  runEntry_same (State.slice · p) (fun _ _ => rfl) (fun n w i s => globalEvent_slice n w i s p)
theorem runEntry_bud : (runEntry k late s).bud =
    (carryOut k (s.cyc.slots.get k).entry (s.cyc.slots.get k).gen s).1.bud :=
  runEntry_same State.bud (fun _ _ => rfl) globalEvent_bud
theorem runEntry_sup : (runEntry k late s).sup =
    (carryOut k (s.cyc.slots.get k).entry (s.cyc.slots.get k).gen s).1.sup :=
  runEntry_same State.sup (fun _ _ => rfl) globalEvent_sup
theorem runEntry_dma : (runEntry k late s).dma =
    (carryOut k (s.cyc.slots.get k).entry (s.cyc.slots.get k).gen s).1.dma :=
  runEntry_same State.dma (fun _ _ => rfl) globalEvent_dma

/-- Finishing an entry moves the slots and the orders of the scheduler alone. -/
theorem runEntry_clock {α : Type} (g : Cyc → α)
    (hg : ∀ (c : Cyc) (v : Vector SchedSlot 128) (o : Nat), g { c with slots := v, orders := o } = g c) :
    g (runEntry k late s).cyc = g (carryOut k (s.cyc.slots.get k).entry (s.cyc.slots.get k).gen s).1.cyc := by
  unfold runEntry
  dsimp only
  generalize carryOut k (s.cyc.slots.get k).entry (s.cyc.slots.get k).gen s = r
  rw [apply_ite State.cyc, globalEvent_cyc, ite_self]
  exact hg r.1.cyc _ _

theorem runEntry_keeps {n : Nat}
    (h : (carryOut k (s.cyc.slots.get k).entry (s.cyc.slots.get k).gen s).1.eva.raised n = true) :
    (runEntry k late s).eva.raised n = true := by
  unfold runEntry
  dsimp only
  exact ite_keeps (globalEvent_keeps _ _ _ h) h

end

/-! ## Due entries (R26, R265) -/

theorem dispatchEntry_undue {k : Fin 128} (op : Byte) {s : State}
    (h : (s.cyc.slots.get k).st ≠ .pending ∨ (s.cyc.slots.get k).committed = false) : dispatchEntry k op s = s := by
  unfold dispatchEntry
  refine if_pos ?_
  rcases h with h | h
  · simp [h]
  · simp [h]

theorem dispatchEntry_due {k : Fin 128} {op : Byte} {s : State} (hp : (s.cyc.slots.get k).st = .pending)
    (ho : (s.cyc.slots.get k).entry.op = op) (hc : (s.cyc.slots.get k).committed = true)
    (hh : op = 2 → s.sup.hold = false) : dispatchEntry k op s = runEntry k false s := by
  have hw : ¬ ((s.sup.hold && op = 2) = true) := by
    intro h
    obtain ⟨h1, h2⟩ := Bool.and_eq_true_iff.1 h
    rw [hh (of_decide_eq_true h2)] at h1
    exact absurd h1 (by decide)
  unfold dispatchEntry
  rw [if_neg (by simp [hp, ho, hc]), if_neg hw]

/-- Only a host limit looks at the hold line. -/
theorem dispatchEntry_runs {k : Fin 128} {op : Byte} {s : State} (hp : (s.cyc.slots.get k).st = .pending)
    (ho : (s.cyc.slots.get k).entry.op = op) (hc : (s.cyc.slots.get k).committed = true) (hne : op ≠ 2) :
    dispatchEntry k op s = runEntry k false s :=
  dispatchEntry_due hp ho hc (fun h => absurd h hne)

theorem dispatchEntry_waits {k : Fin 128} {s : State} (hp : (s.cyc.slots.get k).st = .pending)
    (ho : (s.cyc.slots.get k).entry.op = 2) (hc : (s.cyc.slots.get k).committed = true) (hh : s.sup.hold = true) :
    dispatchEntry k 2 s = onSlot k (fun y => { y with st := .waiting, ranCn := s.cyc.cn }) s := by
  unfold dispatchEntry
  rw [if_neg (by simp [hp, ho, hc]), if_pos (by simp [hh])]

/-! ## The emergency test (R73) -/

theorem etestStart_refused {k : BitVec 2} {s : State} (h : etestRefused k s = true) :
    etestStart k s = (onSup (fun u => { u with etres := { u.etres with state := 5, cause := 7 } }) s, false) := by
  unfold etestStart; exact if_pos h

/-- A test starts on main alone. -/
theorem active_of_not_etestRefused {k : BitVec 2} {s : State} (h : etestRefused k s = false) : s.sup.active = .main := by
  by_contra hm
  simp [etestRefused, hm] at h

/-- The armed backup takes over from main. -/
def toBackup (s : State) : State := takeBackup true (setActive .backup (holdAssert s))

theorem toBackup_cyc (s : State) : (toBackup s).cyc = s.cyc :=
  (setActive_cyc .backup (holdAssert s)).trans (holdAssert_cyc s)

theorem toBackup_sup {s : State} (h : s.sup.active = .main) : (toBackup s).sup.etst = s.sup.etst ∧
    (toBackup s).sup.active = .backup ∧ (toBackup s).sup.etres = s.sup.etres := by
  have ha : (holdAssert s).sup.active ≠ .backup := by simp [h]
  refine ⟨?_, ?_, ?_⟩
  · show (setActive .backup (holdAssert s)).sup.etst = s.sup.etst
    rw [setActive_sup ha, holdAssert_sup]
  · show (setActive .backup (holdAssert s)).sup.active = .backup
    rw [setActive_sup ha]
  · show (setActive .backup (holdAssert s)).sup.etres = s.sup.etres
    rw [setActive_sup ha, holdAssert_sup]

theorem toBackup_keeps {n : Nat} {s : State} (h : s.eva.raised n = true) : (toBackup s).eva.raised n = true := by
  have hs : (setActive .backup (holdAssert s)).eva.raised n = true := setActive_keeps _ (by rwa [holdAssert_eva])
  exact hs

/-- The supply block at the start of a test, before the switch-over. -/
def Sup.testing (k : BitVec 2) (u : Sup) : Sup :=
  { u with
    etst := true, etestDur := k = 2, etWindows := 0, main := u.main.off .qualifying
    etres := { state := 1, vmin := satField 10 (u.vin.vbkup.toNat / 10) } }

theorem etestStart_accepted {k : BitVec 2} {s : State} (h : etestRefused k s = false) :
    etestStart k s = (toBackup (supplyEvent 199 (onSup (Sup.testing k) s)), true) := by
  unfold etestStart; exact if_neg (by simp [h])

/-- A test that starts: the backup is the active input, event 199 is up, and the scheduler stays as it is. -/
theorem etestStart_starts {k : BitVec 2} {s : State} (h : etestRefused k s = false) :
    (etestStart k s).2 = true ∧ (etestStart k s).1.cyc = s.cyc ∧ (etestStart k s).1.sup.etst = true ∧
    (etestStart k s).1.sup.active = .backup ∧ (etestStart k s).1.sup.etres.state = 1 ∧
    (etestStart k s).1.eva.raised 199 = true := by
  have hsup : (supplyEvent 199 (onSup (Sup.testing k) s)).sup = s.sup.testing k := by simp
  have hcyc : (supplyEvent 199 (onSup (Sup.testing k) s)).cyc = s.cyc := by simp
  have hev := supplyEvent_raised 199 (onSup (Sup.testing k) s) (by decide)
  rw [etestStart_accepted h]
  generalize supplyEvent 199 (onSup (Sup.testing k) s) = t at hsup hcyc hev
  obtain ⟨he, ha, hr⟩ := toBackup_sup (s := t) (by rw [hsup]; exact active_of_not_etestRefused h)
  refine ⟨rfl, (toBackup_cyc t).trans hcyc, ?_, ha, ?_, toBackup_keeps hev⟩
  · rw [he, hsup]; rfl
  · rw [hr, hsup]; rfl

/-! ## The snapshot (R262) -/

theorem takeSnapshot_taken {s : State} (h : s.cyc.snapTaken = true) : takeSnapshot s = s := by
  unfold takeSnapshot; exact if_pos h

theorem takeSnapshot_eq {s : State} (h : s.cyc.snapTaken = false) : takeSnapshot s =
    let t := overPorts (fun p s => onSlice p (fun x => { x with hold := x.snap }) s) s
    raise 207 { t with cyc := { t.cyc with snapCn := t.cyc.cn, snapSeq := t.cyc.snapSeq + 1, snapTaken := true } } := by
  unfold takeSnapshot; rw [if_neg (by simp [h])]

/-- A snapshot copies the strobe's values of every port and numbers them. -/
theorem takeSnapshot_takes {s : State} (h : s.cyc.snapTaken = false) :
    (takeSnapshot s).cyc = { s.cyc with snapCn := s.cyc.cn, snapSeq := s.cyc.snapSeq + 1, snapTaken := true } ∧
    (∀ p, (takeSnapshot s).slice p = { s.slice p with hold := (s.slice p).snap }) ∧ (takeSnapshot s).eva.raised 207 = true := by
  have hcyc : (overPorts (fun p s => onSlice p (fun x => { x with hold := x.snap }) s) s).cyc = s.cyc :=
    overPorts_same State.cyc _ _ (fun _ _ => rfl)
  have hsl := overPorts_onSlice (fun _ x => { x with hold := x.snap }) s
  rw [takeSnapshot_eq h]
  generalize overPorts (fun p s => onSlice p (fun x => { x with hold := x.snap }) s) s = t at hcyc hsl
  refine ⟨?_, hsl, raise_raised _ _ (by decide)⟩
  dsimp only [raise_cyc]
  rw [hcyc]

/-! ## DMA starts (R335) -/

/-- A trigger's part for one channel. -/
def dmaStep (bk : Bank) (mask : BitVec 16) (r : State × Bool) (c : Fin 16) : State × Bool :=
  if mask.getLsbD c.val then
    if (r.1.dma.get c).ownedBy bk then (onDma c DmaCh.start r.1, r.2) else (r.1, false)
  else r

/-- What a trigger makes of one channel. -/
def DmaCh.triggered (bk : Bank) (hit : Bool) (x : DmaCh) : DmaCh := if hit && x.ownedBy bk then x.start else x

theorem dmaStep_self (bk : Bank) (mask : BitVec 16) (r : State × Bool) (c : Fin 16) :
    (dmaStep bk mask r c).1.dma.get c = (r.1.dma.get c).triggered bk (mask.getLsbD c.val) := by
  unfold dmaStep DmaCh.triggered
  cases mask.getLsbD c.val with
  | false => rfl
  | true =>
    cases (r.1.dma.get c).ownedBy bk with
    | false => rfl
    | true => exact get_updAt_self r.1.dma c DmaCh.start

theorem dmaStep_ne (bk : Bank) (mask : BitVec 16) (r : State × Bool) (c j : Fin 16) (h : j ≠ c) :
    (dmaStep bk mask r c).1.dma.get j = r.1.dma.get j := by
  unfold dmaStep
  split
  · split
    · exact get_updAt_ne r.1.dma DmaCh.start h
    · rfl
  · rfl

theorem dmaStep_cyc (bk : Bank) (mask : BitVec 16) (r : State × Bool) (c : Fin 16) : (dmaStep bk mask r c).1.cyc = r.1.cyc := by
  unfold dmaStep
  split
  · split <;> rfl
  · rfl

theorem dmaTrigger_get (bk : Bank) (mask : BitVec 16) (s : State) (c : Fin 16) :
    (dmaTrigger bk mask s).1.dma.get c = (s.dma.get c).triggered bk (mask.getLsbD c.val) := by
  have key := foldl_get (dmaStep bk mask) (fun c r => r.1.dma.get c) (fun c x => x.triggered bk (mask.getLsbD c.val))
    (dmaStep_self bk mask) (dmaStep_ne bk mask) c (List.ofFn (n := 16) id) (s, true) (by decide)
  rw [if_pos ((List.mem_ofFn' id c).2 ⟨c, rfl⟩)] at key
  exact key

theorem dmaTrigger_cyc (bk : Bank) (mask : BitVec 16) (s : State) : (dmaTrigger bk mask s).1.cyc = s.cyc := by
  have key : ∀ (l : List (Fin 16)) (r : State × Bool), (l.foldl (dmaStep bk mask) r).1.cyc = r.1.cyc := by
    intro l
    induction l with
    | nil => intro r; rfl
    | cons c l ih => intro r; rw [List.foldl_cons, ih, dmaStep_cyc]
  exact key _ (s, true)

theorem getLsbD_getField_low {w : Word} {n i : Nat} (h : i < n) : (getField w 0 n).getLsbD i = w.getLsbD i := by
  simp [getField, h]

/-! ## The commands of due entries -/

section
variable {k : Fin 128} {s : State}

theorem runEntry_thatch (p : Port) (ho : (s.cyc.slots.get k).entry.op = 1) :
    ((runEntry k false s).cyc.slots.get k).st = .done ∧ ((runEntry k false s).cyc.slots.get k).ranCn = s.cyc.cn ∧
    ((runEntry k false s).cyc.slots.get k).late = (s.cyc.slots.get k).late ∧
    (runEntry k false s).slice p = if (s.cyc.slots.get k).entry.arg0.getLsbD p.val then
      { s.slice p with th := (thScheduled (getField (s.cyc.slots.get k).entry.arg0 24 8).toNat (s.cyc.slots.get k).entry.arg1
        (k, (s.cyc.slots.get k).gen) (s.slice p).th).1 } else s.slice p := by
  rw [runEntry_slot, runEntry_slice, carryOut_thatch _ _ _ _ ho, thatchSteps_slice _ _ _ _ _ _ (maskPorts_nodup _)]
  dsimp only
  rw [thatchSteps_cyc]
  exact ⟨rfl, rfl, Bool.false_or _, by simp only [mem_maskPorts]⟩

theorem runEntry_hlim (ho : (s.cyc.slots.get k).entry.op = 2) (hr : (s.cyc.slots.get k).res = 0) :
    ((runEntry k false s).cyc.slots.get k).st = .done ∧ ((runEntry k false s).cyc.slots.get k).res = 1 ∧
    ∀ p, (runEntry k false s).bud.ports.get p = if (s.cyc.slots.get k).entry.arg0.getLsbD p.val then
      { s.bud.ports.get p with
        pcfg := { (s.bud.ports.get p).pcfg with hlim := getField (s.cyc.slots.get k).entry.arg1 0 9 } }
      else s.bud.ports.get p := by
  rw [runEntry_slot, runEntry_bud, carryOut_hlim _ _ _ _ ho]
  dsimp only
  rw [hlimSteps_cyc, hr]
  exact ⟨rfl, rfl, fun p => by rw [hlimSteps_port _ _ _ _ (maskPorts_nodup _)]; simp only [mem_maskPorts]⟩

theorem runEntry_etest (ho : (s.cyc.slots.get k).entry.op = 3) (hr : (s.cyc.slots.get k).res = 0)
    (he : etestRefused (getField (s.cyc.slots.get k).entry.arg1 0 2) s = false) :
    ((runEntry k false s).cyc.slots.get k).st = .done ∧ ((runEntry k false s).cyc.slots.get k).res = 1 ∧
    (runEntry k false s).sup.etst = true ∧ (runEntry k false s).sup.active = .backup ∧
    (runEntry k false s).sup.etres.state = 1 ∧ (runEntry k false s).eva.raised 199 = true := by
  obtain ⟨hok, hcyc, het, hact, hres, hev⟩ := etestStart_starts he
  have hc := carryOut_etest k (s.cyc.slots.get k).entry (s.cyc.slots.get k).gen s ho
  rw [hok, if_pos rfl] at hc
  rw [runEntry_slot, runEntry_sup, hc]
  dsimp only
  rw [hcyc, hr]
  exact ⟨rfl, rfl, het, hact, hres, runEntry_keeps (by rw [hc]; exact hev)⟩

theorem runEntry_etest_refused (ho : (s.cyc.slots.get k).entry.op = 3)
    (he : etestRefused (getField (s.cyc.slots.get k).entry.arg1 0 2) s = true) :
    ((runEntry k false s).cyc.slots.get k).st = .done ∧ ((runEntry k false s).cyc.slots.get k).res = 3 ∧
    (runEntry k false s).sup = { s.sup with etres := { s.sup.etres with state := 5, cause := 7 } } := by
  rw [runEntry_slot, runEntry_sup, carryOut_etest _ _ _ _ ho, etestStart_refused he]
  exact ⟨rfl, rfl, rfl⟩

theorem runEntry_snapshot (ho : (s.cyc.slots.get k).entry.op = 4) (ht : s.cyc.snapTaken = false) :
    ((runEntry k false s).cyc.slots.get k).st = .done ∧ (runEntry k false s).cyc.snapCn = s.cyc.cn ∧
    (runEntry k false s).cyc.snapSeq = s.cyc.snapSeq + 1 ∧ (runEntry k false s).cyc.snapTaken = true ∧
    (∀ p, ((runEntry k false s).slice p).hold = (s.slice p).snap ∧ ((runEntry k false s).slice p).snap = (s.slice p).snap) ∧
    (runEntry k false s).eva.raised 207 = true := by
  obtain ⟨hcyc, hsl, hev⟩ := takeSnapshot_takes ht
  have hc := carryOut_snapshot k (s.cyc.slots.get k).entry (s.cyc.slots.get k).gen s ho
  rw [runEntry_slot, runEntry_clock Cyc.snapCn (fun _ _ _ => rfl), runEntry_clock Cyc.snapSeq (fun _ _ _ => rfl),
    runEntry_clock Cyc.snapTaken (fun _ _ _ => rfl), hc]
  dsimp only
  rw [hcyc]
  refine ⟨rfl, rfl, rfl, rfl, fun p => ?_, runEntry_keeps (by rw [hc]; exact hev)⟩
  rw [runEntry_slice, hc, hsl]
  exact ⟨rfl, rfl⟩

theorem runEntry_snapshot_again (ho : (s.cyc.slots.get k).entry.op = 4) (ht : s.cyc.snapTaken = true) :
    ((runEntry k false s).cyc.slots.get k).st = .done ∧ (runEntry k false s).cyc.snapCn = s.cyc.snapCn ∧
    (runEntry k false s).cyc.snapSeq = s.cyc.snapSeq ∧ (runEntry k false s).slices = s.slices := by
  rw [runEntry_slot, runEntry_clock Cyc.snapCn (fun _ _ _ => rfl), runEntry_clock Cyc.snapSeq (fun _ _ _ => rfl),
    runEntry_slices, carryOut_snapshot _ _ _ _ ho, takeSnapshot_taken ht]
  exact ⟨rfl, rfl, rfl, rfl⟩

theorem runEntry_dmaTrigger (c : Fin 16) (ho : (s.cyc.slots.get k).entry.op = 5) :
    ((runEntry k false s).cyc.slots.get k).st = .done ∧ (runEntry k false s).dma.get c =
      (s.dma.get c).triggered (schedBank (s.cyc.slots.get k).entry.src) ((s.cyc.slots.get k).entry.arg0.getLsbD c.val) := by
  rw [runEntry_slot, runEntry_dma, carryOut_dma _ _ _ _ ho]
  dsimp only
  rw [dmaTrigger_get, getLsbD_getField_low c.isLt]
  exact ⟨rfl, rfl⟩

end

/-- Settles O44. -/
theorem scheduler : Obligations.Scheduler := by
  unfold Obligations.Scheduler
  refine ⟨execSchedGo_refused, execSchedGo_accepted, ?_, ?_, ?_, ?_, ?_, ?_, ?_, ?_, ?_, ?_, ?_, ?_, ?_, ?_, ?_, ?_, ?_, ?_⟩
  · intro q h k s hr
    refine ⟨_, execSchedAbort_eq hr, ?_⟩
    rw [onLdBank_get]
    exact ⟨get_updAt_self .., fun j hj => get_updAt_ne _ _ hj, rfl, rfl⟩
  · intro q h k s hr
    refine ⟨_, execSchedAbort_eq hr, ?_⟩
    rw [onLdBank_get]
    exact ⟨get_updAt_self .., fun j hj => get_updAt_ne _ _ hj, rfl⟩
  · intro q h s hr
    refine ⟨_, execSchedAbort_eq hr, ?_⟩
    rw [onLdBank_get]
    exact ⟨rfl, rfl⟩
  · intro k p s hp ho hc hm
    refine ⟨_, congrArg Host.Outcome.next (dispatchEntry_runs hp ho hc (by decide)), ?_⟩
    obtain ⟨hst, hcn, hlate, hsl⟩ := runEntry_thatch p ho
    rw [hsl, if_pos hm]
    exact ⟨hst, hcn, hlate, rfl⟩
  · intro k p s hp ho hc hm
    refine ⟨_, congrArg Host.Outcome.next (dispatchEntry_runs hp ho hc (by decide)), ?_⟩
    obtain ⟨-, -, -, hsl⟩ := runEntry_thatch p ho
    rw [hsl, if_neg (by simp [hm])]
  · intro k s hp ho hc hh hr
    refine ⟨_, congrArg Host.Outcome.next (dispatchEntry_due hp ho hc (fun _ => hh)), ?_⟩
    obtain ⟨hst, hres, hbud⟩ := runEntry_hlim ho hr
    exact ⟨hst, hres, fun p hm => by rw [hbud, if_pos hm], fun p hm => by rw [hbud, if_neg (by simp [hm])]⟩
  · intro k s hp ho hc hh
    refine ⟨_, congrArg Host.Outcome.next (dispatchEntry_waits hp ho hc hh), get_updAt_self .., rfl, rfl⟩
  · intro k s hp ho hc hr he
    exact ⟨_, congrArg Host.Outcome.next (dispatchEntry_runs hp ho hc (by decide)), runEntry_etest ho hr he⟩
  · intro k s hp ho hc he
    exact ⟨_, congrArg Host.Outcome.next (dispatchEntry_runs hp ho hc (by decide)), runEntry_etest_refused ho he⟩
  · intro k s hp ho hc ht
    exact ⟨_, congrArg Host.Outcome.next (dispatchEntry_runs hp ho hc (by decide)), runEntry_snapshot ho ht⟩
  · intro k s hp ho hc ht
    exact ⟨_, congrArg Host.Outcome.next (dispatchEntry_runs hp ho hc (by decide)), runEntry_snapshot_again ho ht⟩
  · intro k c s hp ho hc hm
    refine ⟨_, congrArg Host.Outcome.next (dispatchEntry_runs hp ho hc (by decide)), ?_⟩
    obtain ⟨hst, hdma⟩ := runEntry_dmaTrigger c ho
    rw [hm] at hdma
    exact ⟨hst, hdma⟩
  · intro k c s hp ho hc hm
    refine ⟨_, congrArg Host.Outcome.next (dispatchEntry_runs hp ho hc (by decide)), ?_⟩
    obtain ⟨hst, hdma⟩ := runEntry_dmaTrigger c ho
    rw [hm] at hdma
    exact ⟨hst, hdma⟩
  · exact fun k s h => congrArg Host.Outcome.next (dispatchEntry_undue 1 h)
  · exact fun k s h => congrArg Host.Outcome.next (dispatchEntry_undue 2 h)
  · exact fun k s h => congrArg Host.Outcome.next (dispatchEntry_undue 3 h)
  · exact fun k s h => congrArg Host.Outcome.next (dispatchEntry_undue 4 h)
  · exact fun k s h => congrArg Host.Outcome.next (dispatchEntry_undue 5 h)

end Sys2Proof.Machine
end

section
/-!
PROOFS. Slices held before their release, and the record of a lost reference in a ring at its mark of 75 %.
-/

namespace Sys2Proof.Machine

/-! ## Slices not released (R83) -/

/-- Settles O8: the meaning of every event of a slice stands under the guard `whenReleased`, which fails before the release
(log 53 and 78). -/
theorem heldBeforeRelease : Obligations.HeldBeforeRelease := by
  intro c s hc hr
  cases c with
  | _ => cases hc <;> exact congrArg Host.Outcome.next (whenReleased_off _ s hr)

/-! ## The ring's mark of 75 % (R345) -/

theorem undrained_add {e : Evr} {k : Nat} (h : e.next = e.drain + BitVec.ofNat 32 k) (hk : k < 2 ^ 32) :
    undrained e = k := by
  rw [undrained, h, BitVec.add_comm, BitVec.add_sub_cancel, BitVec.toNat_ofNat, Nat.mod_eq_of_lt hk]

/-- The record that takes the undrained count above 1,536 raises event 216, whatever record it is. -/
theorem ringPut_raises_mark (ty so : BitVec 8) (fl : BitVec 16) (da : BitVec 48) {s : State} (h75 : s.evr.f75 = false)
    (hn : s.evr.next = s.evr.drain + 1536) : (ringPut ty so fl da s).eva.raised 216 = true := by
  have hbefore : undrained s.evr = 1536 := undrained_add hn (by decide)
  have hafter : s.evr.next + 1 = s.evr.drain + BitVec.ofNat 32 1537 := by rw [hn, BitVec.add_assoc]; rfl
  unfold ringPut
  simp only [hbefore, Nat.reduceEqDiff, if_false, h75]
  rw [if_pos]
  · exact raise_raised _ _ (by decide)
  · rw [undrained_add hafter (by decide)]
    rfl

/-- A lost reference writes its record into a ring that runs; within a sector that is the only one. -/
theorem referenceLost_running {s : State} (hr : s.evr.running = true) (hs : s.evr.next.toNat % 32 ≠ 0) :
    referenceLost s = ringPut 6 0xFF 0 (s.did.temp.setWidth 48 ||| (BitVec.ofNat 48 1 <<< 16))
      (onDid (fun d => { d with refLost := true }) s) :=
  (if_pos hr).trans (congrArg (ringPut 6 0xFF 0 _) (if_neg hs))

/-- Refutes O21: its clause on REFERENCE_LOST says that the command raises nothing, but its hardware record (R24) goes into
the recorder's ring, and where the recorder runs with 1,536 records undrained that record raises event 216 (R345). -/
theorem not_bootStages : ¬ Obligations.BootStages := by
  unfold Obligations.BootStages
  rintro ⟨-, -, -, referenceLost_silent, -⟩
  let s : State := { State.reset with did.pllLocked := true, evr.running := true, evr.next := 1537, evr.drain := 1 }
  obtain ⟨t, ht, -, heva⟩ := referenceLost_silent s rfl rfl
  obtain rfl : referenceLost s = t := Host.Outcome.next.inj ht
  have hraised : (referenceLost s).eva.raised 216 = true := by
    rw [referenceLost_running (s := s) rfl (by decide)]
    exact ringPut_raises_mark _ _ _ _ rfl rfl
  have hquiet : s.eva.raised 216 = false := by decide
  rw [heva, hquiet] at hraised
  exact Bool.false_ne_true hraised

end Sys2Proof.Machine
end

section
/-!
PROOFS. Detach, discharge and ErrorRecovery of a port, and the VCONN switches.
-/

namespace Sys2Proof.Machine

/-! ## A loop over the ports, seen from one of them -/

/-- Turns of the other ports leave a slice alone, its stagger phase apart. -/
theorem foldl_ports_noPhase {f : Port → State → State} (hb : ∀ q s, (f q s).beside q = s.beside q) {p : Port} :
    ∀ (l : List Port) (s : State), p ∉ l → ((l.foldl (fun s q => f q s) s).slice p).noPhase = (s.slice p).noPhase := by
  intro l
  induction l with
  | nil => intro s _; rfl
  | cons q l ih =>
    intro s hp
    rw [List.mem_cons, not_or] at hp
    rw [List.foldl_cons, ih _ hp.2]
    exact beside_slice (hb q s) hp.1

/-- What a port's own turn makes true of its slice is true of it after the loop over all ports; neither `I` nor `Q` looks at
the stagger phase. -/
theorem overPorts_slice {f : Port → State → State} (hb : ∀ q s, (f q s).beside q = s.beside q) (p : Port) {I Q : Slice → Prop}
    (hI : ∀ x : Slice, I x.noPhase ↔ I x) (hQ : ∀ x : Slice, Q x.noPhase ↔ Q x)
    (hself : ∀ s, I (s.slice p) → Q ((f p s).slice p)) {s : State} (h : I (s.slice p)) : Q ((overPorts f s).slice p) := by
  obtain ⟨l, r, hl⟩ := List.append_of_mem (mem_allPorts p)
  have hn : (l ++ p :: r).Nodup := hl ▸ allPorts_nodup
  have hpl : p ∉ l := fun hp => (List.nodup_append.1 hn).2.2 p hp p (List.mem_cons_self ..) rfl
  have hpr : p ∉ r := (List.nodup_cons.1 (List.nodup_append.1 hn).2.1).1
  rw [overPorts, hl, List.foldl_append, List.foldl_cons, ← hQ, foldl_ports_noPhase hb r _ hpr, hQ]
  apply hself
  rwa [← hI, foldl_ports_noPhase hb l s hpl, hI]

/-! ## VCONN (R105) -/

theorem vconnOpen_pull {x : Slice} (h : x.att.attstat.vconnOn = true) : x.vconnOpen.pins.vconnPull = true := by
  rw [Slice.vconnOpen, if_pos h]

/-- In a class that allows it and without a fault the switch follows VCONN_IN. -/
theorem vconnClose_att_of_allowed {x : Slice} (b : Bool) (hc : x.att.attcfg.vcls = 1) (hf : x.att.attstat.vconnFlt = false) :
    (x.vconnClose b).att = { x.att with attstat := { x.att.attstat with vconnOn := b }, vconnLow := !b } := by
  rw [Slice.vconnClose, if_pos (by simp [hc, hf])]

/-- A limit matters from the first advertisement on. -/
theorem limitsChanged_unsent {p : Port} {s : State} (h : (s.slice p).pd.capsSent = false) : limitsChanged p s = s := by
  simp [limitsChanged, h]

theorem discoverStart_vconnOn (p : Port) (s : State) :
    ((discoverStart p s).slice p).att.attstat.vconnOn = (s.slice p).att.attstat.vconnOn := by
  simp only [discoverStart, discoverSend, startAms, apply_ite (State.slice · p), queueMsg_slice, slice_onPd,
    apply_ite Slice.att, apply_ite SliceAtt.attstat, apply_ite SlcAttstat.vconnOn, pump_att_attstat_vconnOn, ite_self]

theorem discoverStart_vconnLow (p : Port) (s : State) :
    ((discoverStart p s).slice p).att.vconnLow = (s.slice p).att.vconnLow := by
  simp only [discoverStart, discoverSend, startAms, apply_ite (State.slice · p), queueMsg_slice, slice_onPd,
    apply_ite Slice.att, apply_ite SliceAtt.vconnLow, pump_att_vconnLow, ite_self]

/-- VCONN_IN_LOW on one port that has sent no offer: the switch opens and remembers why. -/
def lowOnPort (p : Port) (s : State) : State :=
  if (s.slice p).att.attstat.vconnOn then
    s |> onSlice p (fun x => { x.vconnOpen with att := { x.vconnOpen.att with vconnLow := true } }) |> limitsChanged p
  else s

theorem vconnInLow_eq (s : State) : vconnInLow s = overPorts lowOnPort (onSup (fun u => { u with vconnOk := false }) s) := rfl

theorem lowOnPort_beside (p : Port) (s : State) : (lowOnPort p s).beside p = s.beside p := by simp [lowOnPort]

theorem lowOnPort_sup (p : Port) (s : State) : (lowOnPort p s).sup = s.sup := by simp [lowOnPort]

/-- A switch that is on opens where no limit matters yet. -/
theorem lowOnPort_slice {p : Port} {s : State} (hc : (s.slice p).pd.capsSent = false)
    (hv : (s.slice p).att.attstat.vconnOn = true) : (lowOnPort p s).slice p =
      { (s.slice p).vconnOpen with att := { (s.slice p).vconnOpen.att with vconnLow := true } } := by
  rw [lowOnPort, if_pos hv]
  dsimp only
  rw [limitsChanged_unsent (by simp [hc]), slice_onSlice]

/-- The slice of a port whose switch is on before VCONN_IN_LOW, and after it. -/
theorem vconnInLow_opens {p : Port} {s : State} (hc : (s.slice p).pd.capsSent = false)
    (hv : (s.slice p).att.attstat.vconnOn = true) :
    ((vconnInLow s).slice p).att.attstat.vconnOn = false ∧ ((vconnInLow s).slice p).att.vconnLow = true ∧
    ((vconnInLow s).slice p).pins.vconnPull = true := by
  rw [vconnInLow_eq]
  refine overPorts_slice lowOnPort_beside p (I := fun x => x.pd.capsSent = false ∧ x.att.attstat.vconnOn = true)
    (Q := fun x => x.att.attstat.vconnOn = false ∧ x.att.vconnLow = true ∧ x.pins.vconnPull = true)
    (fun _ => Iff.rfl) (fun _ => Iff.rfl) ?_ ⟨hc, hv⟩
  rintro t ⟨htc, htv⟩
  rw [lowOnPort_slice htc htv]
  exact ⟨vconnOpen_on _, rfl, vconnOpen_pull htv⟩

/-- A switch that a low VCONN_IN held open closes; discovery that starts with it leaves it closed (R127). -/
theorem vconnBack_closes {p : Port} {s : State} (hc : (s.slice p).pd.capsSent = false) (hl : (s.slice p).att.vconnLow = true)
    (hv : (s.slice p).att.attcfg.vcls = 1) (hf : (s.slice p).att.attstat.vconnFlt = false) :
    ((vconnBack p s).slice p).att.attstat.vconnOn = true ∧ ((vconnBack p s).slice p).att.vconnLow = false := by
  have hatt : ((onSlice p (Slice.vconnClose true) s).slice p).att =
      { (s.slice p).att with attstat := { (s.slice p).att.attstat with vconnOn := true }, vconnLow := false } := by
    rw [slice_onSlice]; exact vconnClose_att_of_allowed true hv hf
  unfold vconnBack
  dsimp only
  rw [if_neg (by simp [hl]), limitsChanged_unsent (by simp [hc])]
  split
  · rw [discoverStart_vconnOn, discoverStart_vconnLow, hatt]
    exact ⟨rfl, rfl⟩
  · rw [hatt]
    exact ⟨rfl, rfl⟩

theorem vconnInRestored_closes {p : Port} {s : State} (hc : (s.slice p).pd.capsSent = false)
    (hl : (s.slice p).att.vconnLow = true) (hv : (s.slice p).att.attcfg.vcls = 1) (hf : (s.slice p).att.attstat.vconnFlt = false) :
    ((vconnInRestored s).slice p).att.attstat.vconnOn = true ∧ ((vconnInRestored s).slice p).att.vconnLow = false := by
  rw [vconnInRestored]
  refine overPorts_slice vconnBack_beside p
    (I := fun x => x.pd.capsSent = false ∧ x.att.vconnLow = true ∧ x.att.attcfg.vcls = 1 ∧ x.att.attstat.vconnFlt = false)
    (Q := fun x => x.att.attstat.vconnOn = true ∧ x.att.vconnLow = false) (fun _ => Iff.rfl) (fun _ => Iff.rfl) ?_ ⟨hc, hl, hv, hf⟩
  rintro t ⟨hc, hl, hv, hf⟩
  exact vconnBack_closes hc hl hv hf

theorem vconnBack_sup (p : Port) (s : State) : (vconnBack p s).sup = s.sup := by simp [vconnBack]

/-! ## Detach and discharge (R106, R107) -/

/-- The discharge sink takes over where VBUS is still up after a detach (R107). -/
theorem powerOff_disch {x : Slice} (hd : x.att.detaching = true) (hv : x.att.attstat.vbusSafe0 = false) :
    x.powerOff.pins.disch = true := by
  simp [Slice.powerOff, Slice.openIsog, Slice.sink, Slice.stopConv, hd, hv]

/-- ERRREC counts in every state but the two before the port is enabled (R115); the write leaves the lock as it is. -/
theorem writeAttctl_errrec {p : Port} {s : State} (h0 : (s.slice p).att.attstat.state ≠ 0)
    (h15 : (s.slice p).att.attstat.state ≠ 15) : writeAttctl p 0x100 s =
      errorRecovery p (onAtt p (fun a => { a with attctl := { cfgLk := a.attctl.cfgLk || getBit 0x100 0 } }) s) := by
  have h8 : getBit 0x100 8 = true := by decide
  unfold writeAttctl
  dsimp only
  rw [if_pos (by rw [slice_onAtt, h8, decide_eq_true h0, decide_eq_true h15]; rfl)]

/-- Settles O25. -/
theorem detachAndVconn : Obligations.DetachAndVconn := by
  unfold Obligations.DetachAndVconn
  refine ⟨?_, ?_, ?_, ?_, ?_, ?_, ?_, ?_, ?_, ?_⟩
  · intro p s hrel h3 hd ht
    refine ⟨_, rfl, ?_⟩
    simp [hrel, h3, hd, ht, detach_eva]
  · intro p s hrel hd hs
    refine ⟨_, rfl, ?_⟩
    simp [hrel, hs, discharging, hd]
  · intro p s hrel hd h6 hi hv
    refine ⟨_, rfl, ?_⟩
    simp [hrel, hd, h6, hi, powerOff_disch hd hv]
  · intro p s hrel hd hv hi hc
    refine ⟨_, rfl, ?_⟩
    simp [hrel, hd, hv, hi, SlicePs.running, hc]
  · intro p s hrel hd
    refine ⟨_, rfl, ?_⟩
    simp [hrel, hd]
  · intro p s hrel hv hc
    refine ⟨_, rfl, ?_⟩
    simp [hrel, hv, limitsChanged_unsent, hc, vconnOpen_pull hv]
  · intro p s hrel h0 h15
    refine ⟨_, rfl, ?_⟩
    rw [whenReleased_att_of _ _ _ hrel, whenReleased_off_of _ _ _ hrel, whenReleased_pins_of _ _ _ hrel,
      whenReleased_eva _ _ hrel, writeAttctl_errrec h0 h15]
    simp
  · intro p s hrel h14
    refine ⟨_, rfl, ?_⟩
    simp [hrel, h14]
  · intro p s hc hv
    refine ⟨_, rfl, ?_, vconnInLow_opens (hc p) hv⟩
    rw [vconnInLow_eq, overPorts_sup _ _ lowOnPort_sup]
    rfl
  · intro p s hc hl hv hf
    refine ⟨_, rfl, ?_, vconnInRestored_closes (hc p) hl hv hf⟩
    rw [vconnInRestored, overPorts_sup _ _ vconnBack_sup]
    rfl

end Sys2Proof.Machine
end

section
/-!
PROOFS. Rules of the supply block's shared operations: what each leaves of a path, what it raises, and where it does nothing.
-/

namespace Sys2Proof.Machine

/-! ## Reading a path -/

@[simp] theorem path_onPath (x : PathId) (f : Path → Path) (s : State) : (onPath x f s).sup.path x = f (s.sup.path x) := by
  cases x <;> rfl

@[simp] theorem onPath_eva (x : PathId) (f : Path → Path) (s : State) : (onPath x f s).eva = s.eva := rfl

@[simp] theorem onPath_evr (x : PathId) (f : Path → Path) (s : State) : (onPath x f s).evr = s.evr := rfl

@[simp] theorem onPath_slices (x : PathId) (f : Path → Path) (s : State) : (onPath x f s).slices = s.slices := rfl

@[simp] theorem onPath_active (x : PathId) (f : Path → Path) (s : State) : (onPath x f s).sup.active = s.sup.active := by
  cases x <;> rfl

@[simp] theorem connectPath_eva (x : PathId) (a : Bool) (s : State) : (connectPath x a s).eva = s.eva := rfl

@[simp] theorem holdAssert_path (x : PathId) (s : State) : (holdAssert s).sup.path x = s.sup.path x := by
  rw [holdAssert_sup]; cases x <;> rfl

theorem setActive_path (x : PathId) (y : InputId) (s : State) : (setActive y s).sup.path x = s.sup.path x := by
  by_cases h : s.sup.active = y
  · rw [setActive_same h]
  · rw [setActive_sup h]; cases x <;> rfl

theorem onPath_path_ne {x y : PathId} (h : x ≠ y) (f : Path → Path) (s : State) :
    (onPath y f s).sup.path x = s.sup.path x := by
  cases x with
  | main =>
    cases y with
    | main => exact absurd rfl h
    | backup => rfl
  | backup =>
    cases y with
    | main => rfl
    | backup => exact absurd rfl h

theorem connectPath_other {x y : PathId} (h : x ≠ y) (a : Bool) (s : State) :
    (connectPath y a s).sup.path x = s.sup.path x := onPath_path_ne h _ s

/-- Without a pre-charge the gate turns on at once (R62). -/
theorem connectPath_direct {x : PathId} {s : State} (h : (s.sup.hsw x).mode = false) (a : Bool) : connectPath x a s =
    onPath x (fun h => { h with
      st := if a then .retrying else .connecting, attempt := a, gate := true, precharge := false, offDone := false
      needQual := false, returnDue := false }) s := by
  simp [connectPath, h]

/-! ## Connecting the sink path (R206) -/

@[simp] theorem connectSink_path (x : PathId) (p : Port) (s : State) : (connectSink p s).sup.path x = s.sup.path x := by
  unfold connectSink
  dsimp only
  split
  · rw [selfCheck_sup, holdAssert_path]
  · cases x <;> simp [Sup.path]

theorem selfCheck_keeps {n : Nat} (p : Port) {s : State} (h : s.eva.raised n = true) :
    (selfCheck p s).eva.raised n = true := by
  unfold selfCheck
  exact ite_keeps h (tripEvent_keeps p false h)

theorem connectSink_keeps {n : Nat} (p : Port) {s : State} (h : s.eva.raised n = true) :
    (connectSink p s).eva.raised n = true := by
  have hs : (selfCheck p (holdAssert s)).eva.raised n = true := selfCheck_keeps p (by rwa [holdAssert_eva])
  unfold connectSink
  exact ite_keeps hs hs

/-! ## Connecting what waits (R57) -/

/-- A path that is not qualified, or neither new nor armed, stays as it is, whatever else connects. -/
theorem connectNext_path {x : PathId} {s : State}
    (h : (s.sup.path x).qual = true → (s.sup.path x).st ≠ .qualifying ∧ (s.sup.path x).st ≠ .staggerOrArmed) :
    (connectNext s).sup.path x = s.sup.path x := by
  unfold connectNext
  split
  · rfl
  split
  · rename_i hm
    rw [connectPath_other, holdAssert_path]
    rintro rfl
    simp only [Bool.and_eq_true, decide_eq_true_eq] at hm
    exact (h hm.1).1 hm.2
  split
  · rename_i hb
    rw [connectPath_other, holdAssert_path]
    rintro rfl
    simp only [Bool.and_eq_true, Bool.or_eq_true, decide_eq_true_eq] at hb
    exact hb.2.elim (h hb.1).1 (h hb.1).2
  split
  · split
    · exact connectSink_path ..
    · rfl
  · rfl

theorem connectNext_keeps {n : Nat} {s : State} (h : s.eva.raised n = true) : (connectNext s).eva.raised n = true := by
  have hc : ∀ x, (connectPath x false (holdAssert s)).eva.raised n = true := fun x => by
    rw [connectPath_eva, holdAssert_eva]; exact h
  unfold connectNext
  refine ite_keeps h (ite_keeps (hc _) (ite_keeps (hc _) ?_))
  split
  · exact ite_keeps (connectSink_keeps _ h) h
  · exact h

/-- With no input qualified nothing connects. -/
theorem connectNext_unqualified {s : State} (hm : s.sup.main.qual = false) (hb : s.sup.bkup.qual = false)
    (hc : s.sup.cascQ = false) : connectNext s = s := by
  unfold connectNext
  simp only [hm, hb, hc, Bool.false_and, Bool.false_eq_true, if_false]
  split
  · rfl
  · split <;> rfl

/-! ## The power-fail warning (R67) -/

/-- The warning is released or not, and nothing else changes. -/
theorem pfwFollow_cases (s : State) : pfwFollow s = s ∨ pfwFollow s = pfwRelease s := (ite_eq_or_eq _ _ _).symm

theorem pfwFollow_same {α : Type} (g : State → α) (hg : ∀ s, g (pfwRelease s) = g s) (s : State) :
    g (pfwFollow s) = g s := by
  obtain h | h := pfwFollow_cases s
  · rw [h]
  · rw [h, hg]

@[simp] theorem pfwFollow_eva (s : State) : (pfwFollow s).eva = s.eva := pfwFollow_same State.eva (fun _ => rfl) s

@[simp] theorem pfwFollow_slices (s : State) : (pfwFollow s).slices = s.slices :=
  pfwFollow_same State.slices (fun _ => rfl) s

@[simp] theorem pfwFollow_path (x : PathId) (s : State) : (pfwFollow s).sup.path x = s.sup.path x :=
  pfwFollow_same (fun s => s.sup.path x) (fun _ => by cases x <;> rfl) s

theorem pfwFollow_sup (s : State) : ∃ w, (pfwFollow s).sup = { s.sup with pfw := w } := by
  obtain h | h := pfwFollow_cases s
  · exact ⟨s.sup.pfw, by rw [h]⟩
  · exact ⟨false, by rw [h]; rfl⟩

/-- Without an input the warning stays. -/
theorem pfwFollow_none {s : State} (h : s.sup.active = .none) : pfwFollow s = s := by
  unfold pfwFollow
  simp [h]

/-- With cascade active the warning is released. -/
theorem pfwFollow_cascade {s : State} (h : s.sup.active = .cascade) : (pfwFollow s).sup = { s.sup with pfw := false } := by
  unfold pfwFollow
  cases hp : s.sup.pfw with
  | true => simp [h]
  | false => simp [← hp]

@[simp] theorem powerFailFlush_eva (s : State) : (powerFailFlush s).eva = s.eva := by
  unfold powerFailFlush; dsimp only; split
  · rfl
  · split <;> rfl

@[simp] theorem powerFailFlush_slices (s : State) : (powerFailFlush s).slices = s.slices := by
  unfold powerFailFlush; dsimp only; split
  · rfl
  · split <;> rfl

theorem pfwAssert_keeps {n : Nat} {s : State} (h : s.eva.raised n = true) : (pfwAssert s).eva.raised n = true := by
  unfold pfwAssert
  refine ite_keeps h ?_
  rw [powerFailFlush_eva]
  exact supplyEvent_keeps 197 h

@[simp] theorem pfwAssert_slices (s : State) : (pfwAssert s).slices = s.slices := by
  unfold pfwAssert; split
  · rfl
  · rw [powerFailFlush_slices, supplyEvent_slices, onSup_slices]

theorem pfwAssert_raised {s : State} (h : s.sup.pfw = false) : (pfwAssert s).eva.raised 197 = true := by
  unfold pfwAssert
  rw [if_neg (by simp [h]), powerFailFlush_eva]
  exact supplyEvent_raised _ _ (by decide)

/-! ## The loss of the active input (R57, R59) -/

/-- No input is left: the supply block after it. -/
theorem noSupply_sup {s : State} (h : s.sup.active ≠ .none) : (noSupply s).sup =
    { s.sup with
      hold := true, active := .none, vmaxFresh := false, psEn := false, maxpdo := 0
      cascQ := s.sup.cascQ && s.sup.active ≠ .cascade, cascPort := if s.sup.active = .cascade then none else s.sup.cascPort
      pfw := s.sup.pfw || s.sup.everActive } := by
  have hs := setActive_sup (x := .none) (s := holdAssert s) (by rwa [holdAssert_sup])
  unfold noSupply
  dsimp only
  rw [sup_ite, pfwAssert_sup]
  simp only [onSup_sup, hs, holdAssert_sup]
  by_cases he : s.sup.everActive = true
  · simp [he]
  · simp [he]

theorem noSupply_keeps {n : Nat} {s : State} (h : s.eva.raised n = true) : (noSupply s).eva.raised n = true := by
  have hs : (setActive .none (holdAssert s)).eva.raised n = true := setActive_keeps _ (by rwa [holdAssert_eva])
  unfold noSupply
  exact ite_keeps (pfwAssert_keeps hs) hs

/-- The switch-over to main. -/
theorem activeLost_to_main {s : State} (hq : s.sup.main.qual = true) (ha : s.sup.active ≠ .main) :
    activeLost s = connectPath .main false (setActive .main (holdAssert s)) := by
  unfold activeLost
  rw [if_pos (by simp [hq, ha])]

/-- The switch-over to the backup. -/
theorem activeLost_to_backup {s : State} (hm : s.sup.main.qual = false) (hq : s.sup.bkup.qual = true)
    (ha : s.sup.active ≠ .backup) : activeLost s =
      takeBackup (s.sup.active = .main && s.sup.bkup.st = .staggerOrArmed) (setActive .backup (holdAssert s)) := by
  unfold activeLost
  rw [if_neg (by simp [hm]), if_pos (by simp [hq, ha])]

/-- No input takes the place of the lost one. -/
theorem activeLost_to_none {s : State} (hm : s.sup.main.qual = false) (hb : s.sup.bkup.qual = false) :
    activeLost s = connectNext (noSupply s) := by
  unfold activeLost
  rw [if_neg (by simp [hm]), if_neg (by simp [hb])]

theorem noSupply_path (x : PathId) (s : State) : (noSupply s).sup.path x = s.sup.path x := by
  have hs : (setActive .none (holdAssert s)).sup.path x = s.sup.path x := by rw [setActive_path, holdAssert_path]
  unfold noSupply
  dsimp only
  rw [sup_ite, pfwAssert_sup, ← hs]
  cases x
  · split <;> rfl
  · split <;> rfl

@[simp] theorem takeBackup_eva (armed : Bool) (s : State) : (takeBackup armed s).eva = s.eva := by
  cases armed <;> rfl

theorem takeBackup_main (armed : Bool) (s : State) : (takeBackup armed s).sup.path .main = s.sup.path .main := by
  cases armed <;> rfl

/-- A path that is not qualified stays as it is, whatever takes the load. -/
theorem activeLost_path {x : PathId} {s : State} (h : (s.sup.path x).qual = false) :
    (activeLost s).sup.path x = s.sup.path x := by
  have hset : ∀ y, (setActive y (holdAssert s)).sup.path x = s.sup.path x := fun y => by
    rw [setActive_path, holdAssert_path]
  unfold activeLost
  split
  · rename_i hm
    have hx : x ≠ .main := by rintro rfl; exact absurd (Bool.and_eq_true_iff.1 hm).1 (by simp [← h, Sup.path])
    exact (connectPath_other hx false _).trans (hset _)
  split
  · rename_i hb
    obtain rfl : x = .main := by
      cases x with
      | main => rfl
      | backup => exact absurd (Bool.and_eq_true_iff.1 hb).1 (by simp [← h, Sup.path])
    exact (takeBackup_main _ _).trans (hset _)
  · rw [connectNext_path, noSupply_path]
    rw [noSupply_path, h]
    exact fun hq => absurd hq Bool.false_ne_true

theorem activeLost_keeps {n : Nat} {s : State} (h : s.eva.raised n = true) : (activeLost s).eva.raised n = true := by
  have hset : ∀ y, (setActive y (holdAssert s)).eva.raised n = true := fun y => setActive_keeps y (by rwa [holdAssert_eva])
  unfold activeLost
  refine ite_keeps (hset _) (ite_keeps ?_ (connectNext_keeps (noSupply_keeps h)))
  dsimp only
  rw [takeBackup_eva]
  exact hset _

end Sys2Proof.Machine
end

section
/-!
PROOFS. Failed connections of the supply paths, their retries and their latch.
-/

namespace Sys2Proof.Machine

/-! ## A connection that fails (R63 to R66) -/

/-- What a failed connection leaves of its path. -/
def Path.failed (cause : BitVec 2) (counted qual latched : Bool) (h : Path) : Path :=
  { h.off (if latched then .latched else .retrying) with
    qual := h.qual && qual && !latched, needQual := !qual, offDone := false
    tries := if counted then satInc h.tries else h.tries, latch := latched, cause := cause }

/-- The failure is the one that latches the path off. -/
def failLatches (x : PathId) (counted : Bool) (s : State) : Bool :=
  counted && retriesDone (satInc (s.sup.path x).tries) s

/-- The path off, with the record of a latch, before the load moves. -/
def failedOff (x : PathId) (cause : BitVec 2) (counted qual : Bool) (s : State) : State :=
  let t := onPath x (Path.failed cause counted qual (failLatches x counted s)) s
  if failLatches x counted s then supplyRecord 0xFF t else t

theorem pathFails_eq (x : PathId) (cause : BitVec 2) (counted qual : Bool) (s : State) : pathFails x cause counted qual s =
    if (failedOff x cause counted qual s).sup.active = pathInput x && !((failedOff x cause counted qual s).sup.path x).qual then
      pfwFollow (activeLost (failedOff x cause counted qual s))
    else connectNext (failedOff x cause counted qual s) := by
  cases x <;> cases counted <;> rfl

theorem failedOff_path (x : PathId) (cause : BitVec 2) (counted qual : Bool) (s : State) :
    (failedOff x cause counted qual s).sup.path x = (s.sup.path x).failed cause counted qual (failLatches x counted s) := by
  unfold failedOff
  dsimp only
  rw [sup_ite, supplyRecord_sup, ite_self, path_onPath]

theorem failedOff_keeps {n : Nat} (x : PathId) (cause : BitVec 2) (counted qual : Bool) {s : State}
    (h : s.eva.raised n = true) : (failedOff x cause counted qual s).eva.raised n = true :=
  ite_keeps (hwRecord_keeps _ _ _ _ h) h

/-- Where the load goes after a failure leaves the failed path as it is. -/
theorem pathFails_path (x : PathId) (cause : BitVec 2) (counted qual : Bool) (s : State) :
    (pathFails x cause counted qual s).sup.path x =
      (s.sup.path x).failed cause counted qual (failLatches x counted s) := by
  have hf := failedOff_path x cause counted qual s
  rw [pathFails_eq]
  split
  · rename_i hl
    rw [pfwFollow_path, activeLost_path _, hf]
    simpa using (Bool.and_eq_true_iff.1 hl).2
  · rw [connectNext_path, hf]
    intro _
    rw [hf]
    simp only [Path.failed, Path.off]
    split <;> decide

theorem pathFails_main (cause : BitVec 2) (counted qual : Bool) (s : State) : (pathFails .main cause counted qual s).sup.main =
    s.sup.main.failed cause counted qual (failLatches .main counted s) := pathFails_path .main cause counted qual s

theorem pathFails_bkup (cause : BitVec 2) (counted qual : Bool) (s : State) : (pathFails .backup cause counted qual s).sup.bkup =
    s.sup.bkup.failed cause counted qual (failLatches .backup counted s) := pathFails_path .backup cause counted qual s

theorem pathFails_keeps {n : Nat} (x : PathId) (cause : BitVec 2) (counted qual : Bool) {s : State}
    (h : s.eva.raised n = true) : (pathFails x cause counted qual s).eva.raised n = true := by
  have hf := failedOff_keeps x cause counted qual h
  rw [pathFails_eq]
  refine ite_keeps ?_ (connectNext_keeps hf)
  rw [pfwFollow_eva]
  exact activeLost_keeps hf

/-! ## Whether a failure latches (R66) -/

theorem failLatches_uncounted (x : PathId) (s : State) : failLatches x false s = false := rfl

/-- A count of 0 is unlimited. -/
theorem failLatches_unlimited {x : PathId} {counted : Bool} {s : State} (h : s.sup.retry.count = 0) :
    failLatches x counted s = false := by
  simp [failLatches, retriesDone, h]

theorem failLatches_reached {x : PathId} {s : State} (h0 : s.sup.retry.count ≠ 0)
    (h : s.sup.retry.count.toNat ≤ (satInc (s.sup.path x).tries).toNat) : failLatches x true s = true := by
  rw [failLatches, retriesDone, decide_eq_true h0, decide_eq_true h]; rfl

/-! ## The commands -/

theorem exec_pathFault_due {x : PathId} {s : State} (hst : (s.sup.path x).st = .connecting)
    (hg : (s.sup.path x).gate = true) : exec (.pathFault x) s = .next (spreading (pathFails x 1 false true) s) :=
  congrArg Host.Outcome.next (if_pos (by simp [hst, hg]))

theorem exec_prechargeTimeout_due {x : PathId} {s : State} (hp : (s.sup.path x).precharge = true)
    (hg : (s.sup.path x).gate = false) :
    exec (.prechargeTimeout x) s = .next (spreading (pathFails x 2 (s.sup.path x).attempt true) s) :=
  congrArg Host.Outcome.next (if_pos (by simp [hp, hg]))

theorem exec_pathOvervoltage_due {x : PathId} {s : State} (hb : (s.sup.path x).busy = true) (hq : (s.sup.path x).qual = true) :
    exec (.pathOvervoltage x) s = .next (spreading (fun s => pathFails x 3 true false (supplyEvent (lossEvent x) s)) s) := by
  refine congrArg Host.Outcome.next ((if_pos hb).trans ?_)
  simp only [if_pos hq]

theorem exec_supplyAttemptFail_main {rose : Bool} {s : State} (h : s.sup.main.attempt = true) :
    exec (.supplyAttemptFail .main rose) s = .next (spreading (pathFails .main s.sup.main.cause (!rose) true) s) :=
  congrArg Host.Outcome.next (if_pos h)

theorem exec_supplyAttemptFail_backup {rose : Bool} {s : State} (h : s.sup.bkup.attempt = true) :
    exec (.supplyAttemptFail .backup rose) s = .next (spreading (pathFails .backup s.sup.bkup.cause (!rose) true) s) :=
  congrArg Host.Outcome.next (if_pos h)

/-! ## The end of an off time and of a latch (R66) -/

/-- What the end of its off time brings a path. -/
def retryPath (x : PathId) (s : State) : State :=
  if (s.sup.path x).st ≠ .retrying || (s.sup.path x).attempt then s
  else if !(s.sup.path x).qual then onPath x (fun h => { h with offDone := true }) s
  else if x = .backup && s.sup.active = .main then onPath x (fun h => h.off .staggerOrArmed) s
  else connectPath x true s

theorem exec_supplyRetryAttempt_path (x : PathId) (s : State) :
    exec (.supplyRetryAttempt (pathInput x)) s = .next (retryPath x s) := by
  cases x <;> rfl

section
variable {x : PathId} {s : State} (hst : (s.sup.path x).st = .retrying) (ha : (s.sup.path x).attempt = false)
include hst ha

theorem retryPath_waits (hq : (s.sup.path x).qual = false) :
    retryPath x s = onPath x (fun h => { h with offDone := true }) s := by
  rw [retryPath, if_neg (by simp [hst, ha]), if_pos (by simp [hq])]

theorem retryPath_attempts (hq : (s.sup.path x).qual = true) (hx : x ≠ .backup) : retryPath x s = connectPath x true s := by
  rw [retryPath, if_neg (by simp [hst, ha]), if_neg (by simp [hq]), if_neg (by simp [hx])]

end

/-- A backup that main has made unnecessary is armed instead. -/
theorem retryPath_arms {s : State} (hst : s.sup.bkup.st = .retrying) (ha : s.sup.bkup.attempt = false)
    (hq : s.sup.bkup.qual = true) (hact : s.sup.active = .main) :
    retryPath .backup s = onPath .backup (fun h => h.off .staggerOrArmed) s := by
  rw [retryPath, if_neg (by simp [Sup.path, hst, ha]), if_neg (by simp [Sup.path, hq]), if_pos (by simp [hact])]

/-- A latch written with 1 clears, its count returns to 0 and a new qualification starts. -/
def Path.unlatched (h : Path) : Path :=
  if h.latch then { h with latch := false, tries := 0, st := .qualifying, qual := false, needQual := false } else h

theorem writeSupRstat_eq (w : Word) (s : State) : writeSupRstat w s =
    let t := if getBit w 16 then onPath .main Path.unlatched s else s
    if getBit w 17 then onPath .backup Path.unlatched t else t := rfl

/-- Settles O18. -/
theorem pathFailuresAndRetries : Obligations.PathFailuresAndRetries := by
  unfold Obligations.PathFailuresAndRetries
  refine ⟨?_, ?_, ?_, ?_, ?_, ?_, ?_, ?_, ?_, ?_, ?_, ?_, ?_, ?_, ?_, ?_, ?_, ?_⟩
  · intro s hst hg hq
    refine ⟨_, exec_pathFault_due hst hg, ?_⟩
    rw [spreading_sup, pathFails_main, failLatches_uncounted]
    simp [Path.failed, Path.off, hq]
  · intro s hst hg hq
    refine ⟨_, exec_pathFault_due hst hg, ?_⟩
    rw [spreading_sup, pathFails_bkup, failLatches_uncounted]
    simp [Path.failed, Path.off, hq]
  · intro x s hst
    exact congrArg Host.Outcome.next (if_neg (by simp [hst]))
  · intro s hp hg ha hq
    refine ⟨_, exec_prechargeTimeout_due hp hg, ?_⟩
    rw [spreading_sup, pathFails_main]
    simp [Path.failed, Path.off, Sup.path, failLatches_uncounted, ha, hq]
  · intro s hp hg ha h0 hn
    refine ⟨_, exec_prechargeTimeout_due hp hg, ?_⟩
    rw [spreading_sup, pathFails_main, show (s.sup.path .main).attempt = true from ha, failLatches_reached (x := .main) h0 hn]
    simp [Path.failed, Path.off]
  · intro s hst hq h0
    refine ⟨_, exec_pathOvervoltage_due (x := .main) (by simp [Path.busy, Sup.path, hst]) hq, ?_, ?_⟩
    · rw [spreading_sup, pathFails_main, failLatches_unlimited (by rwa [supplyEvent_sup]), supplyEvent_sup]
      simp [Path.failed, Path.off]
    · rw [spreading_eva]
      exact pathFails_keeps _ _ _ _ (supplyEvent_raised 192 s (by decide))
  · intro x s hb
    exact congrArg Host.Outcome.next (if_neg (by simp [hb]))
  · intro s hst ha hq hm
    refine (exec_supplyRetryAttempt_path .main s).trans ?_
    rw [retryPath_attempts (x := .main) hst ha hq (by decide), connectPath_direct (x := .main) hm]
    rfl
  · intro s hst ha hq
    refine (exec_supplyRetryAttempt_path .main s).trans ?_
    rw [retryPath_waits (x := .main) hst ha hq]
    rfl
  · intro s hst ha hq hact
    refine (exec_supplyRetryAttempt_path .backup s).trans ?_
    rw [retryPath_arms hst ha hq hact]
    rfl
  · intro s hr hact
    refine congrArg Host.Outcome.next ((if_neg (by simp [hr])).trans ?_)
    exact connectNext_active hact
  · intro s
    rfl
  · intro rose s ha hq h0
    refine ⟨_, exec_supplyAttemptFail_main ha, ?_⟩
    rw [spreading_sup, pathFails_main, failLatches_unlimited h0]
    cases rose <;> simp [Path.failed, Path.off, hq]
  · intro s ha h0 hn
    refine ⟨_, exec_supplyAttemptFail_backup ha, ?_⟩
    rw [spreading_sup, pathFails_bkup, Bool.not_false, failLatches_reached (x := .backup) h0 hn]
    simp [Path.failed, Path.off]
  · intro _ rose s ha
    exact congrArg Host.Outcome.next (if_neg (by simp [Sup.path, ha]))
  · intro w s h16 h17 hl
    refine congrArg Host.Outcome.next ?_
    simp [writeSupRstat_eq, h16, h17, onPath, onSup, Path.unlatched, hl]
  · intro w s h16 h17 hl
    refine congrArg Host.Outcome.next ?_
    simp [writeSupRstat_eq, h16, h17, onPath, onSup, Path.unlatched, hl]
  · intro w s h16 h17
    refine congrArg Host.Outcome.next ?_
    simp [writeSupRstat_eq, h16, h17]

end Sys2Proof.Machine
end

section
/-!
PROOFS. What the fall of the hold line leaves of the supply block and raises; inputs that become active, and the supply
paths that become good.
-/

namespace Sys2Proof.Machine

/-! ## The release of the slices (R25): the supply block, the scheduler and pending events stay -/

@[simp] theorem resumeChange_sup (p : Port) (s : State) : (resumeChange p s).sup = s.sup := by
  unfold resumeChange
  dsimp only
  split
  · rfl
  · split
    · rfl
    · simp only [sup_ite, abortChange_sup, onOff_sup, ite_self]

@[simp] theorem releaseTransitions_sup (p : Port) (s : State) : (releaseTransitions p s).sup = s.sup := by
  simp [releaseTransitions]

@[simp] theorem releaseResets_sup (p : Port) (s : State) : (releaseResets p s).sup = s.sup := by
  unfold releaseResets
  dsimp only
  rw [sup_ite, startAttempt_sup, ite_self]
  split <;> simp

@[simp] theorem releaseAdverts_sup (p : Port) (s : State) : (releaseAdverts p s).sup = s.sup := by
  simp [releaseAdverts]

theorem prRamp_eva (p : Port) (s : State) : (prRamp p s).eva = s.eva := by
  unfold prRamp; split <;> rfl

theorem prGate_eva (p : Port) (s : State) : (prGate p s).eva = s.eva := by
  unfold prGate; dsimp only; split <;> rfl

theorem trySwaps_eva (p : Port) (s : State) : (trySwaps p s).eva = s.eva := by
  unfold trySwaps sendSwap
  simp only [apply_ite State.eva, queueMsg_eva, onSw_eva, ite_self]

section
variable {n : Nat} {s : State}

theorem resumeChange_keeps (p : Port) (h : s.eva.raised n = true) : (resumeChange p s).eva.raised n = true := by
  unfold resumeChange
  dsimp only
  split
  · exact h
  · split
    · exact h
    · simp only [apply_ite State.eva, abortChange_eva, onOff_eva, ite_self]
      exact h

theorem startConv_keeps (p : Port) (h : s.eva.raised n = true) : (startConv p s).eva.raised n = true :=
  ite_keeps (selfCheck_keeps p h) (selfCheck_keeps p h)

theorem startPower_keeps (p : Port) (h : s.eva.raised n = true) : (startPower p s).eva.raised n = true :=
  ite_keeps h (ite_keeps h (ite_keeps h (startConv_keeps p h)))

theorem hrPower_keeps (p : Port) (h : s.eva.raised n = true) : (hrPower p s).eva.raised n = true :=
  ite_keeps (portEvent_keeps p 2 h) h

theorem startAttempt_keeps (p : Port) (h : s.eva.raised n = true) : (startAttempt p s).eva.raised n = true :=
  have hc := selfCheck_keeps p (s := onPr p (fun r => { r with attemptDue := false, acc := 0, gateStarted := false }) s) h
  ite_keeps h (ite_keeps h (ite_keeps hc hc))

theorem releaseTransitions_keeps (p : Port) (h : s.eva.raised n = true) : (releaseTransitions p s).eva.raised n = true := by
  unfold releaseTransitions
  dsimp only
  rw [prGate_eva, apply_ite State.eva, prRamp_eva, ite_self]
  exact ite_keeps (startPower_keeps p (resumeChange_keeps p h)) (resumeChange_keeps p h)

theorem releaseResets_keeps (p : Port) (h : s.eva.raised n = true) : (releaseResets p s).eva.raised n = true := by
  unfold releaseResets
  dsimp only
  split
  · exact ite_keeps (startAttempt_keeps p h) h
  · exact ite_keeps (startAttempt_keeps p (hrPower_keeps p h)) (hrPower_keeps p h)
  · exact ite_keeps (startAttempt_keeps p (emitHardReset_keeps p h)) (emitHardReset_keeps p h)

theorem releaseAdverts_keeps (p : Port) (h : s.eva.raised n = true) : (releaseAdverts p s).eva.raised n = true := by
  unfold releaseAdverts
  rw [trySwaps_eva, apply_ite State.eva, advertise_eva, ite_self]
  exact h

end

/-! ## The fall of the hold line (R25, R55, R57) -/

/-- No entry of the scheduler waits for the hold line. -/
def noneWaits (c : Cyc) : Prop := ∀ k, (c.slots.get k).st ≠ .waiting

theorem runWaiting_none {s : State} (h : noneWaits s.cyc) : runWaiting s = s := by
  have hk : allSlots.filter (fun k => (s.cyc.slots.get k).st == .waiting) = [] :=
    List.filter_eq_nil_iff.2 (fun k _ => by simp [h k])
  unfold runWaiting
  dsimp only
  rw [hk]
  rfl

/-- V_max at the end of a window with `vin` mV at the active input. -/
def vmaxAfter (vin : Nat) (u : Sup) : BitVec 9 :=
  if u.active ≠ .none ∧ (vmaxOf vin).toNat < u.maxpdo.toNat then vmaxOf vin else u.maxpdo

theorem vmaxFall_sup (vin : Nat) (s : State) : (vmaxFall vin s).sup = { s.sup with maxpdo := vmaxAfter vin s.sup } := by
  unfold vmaxFall vmaxAfter
  rw [sup_ite, publishVmax_sup]
  simp only [Bool.and_eq_true, decide_eq_true_eq]
  split <;> rfl

theorem vmaxFall_cyc (vin : Nat) (s : State) : (vmaxFall vin s).cyc = s.cyc := by
  unfold vmaxFall
  rw [apply_ite State.cyc, publishVmax_cyc, ite_self]

theorem vmaxFall_keeps {n : Nat} (vin : Nat) {s : State} (h : s.eva.raised n = true) :
    (vmaxFall vin s).eva.raised n = true := ite_keeps (publishVmax_keeps _ h) h

/-- What falls with the hold line, before a return that waited for it begins. -/
def holdFall (vin : Nat) (s : State) : State :=
  onSup (fun u => { u with hold := false }) s |> vmaxFall vin |> overPorts releaseTransitions |> overPorts releaseResets
    |> overPorts releaseAdverts |> runWaiting |> supplyEvent 195

theorem holdRelease_low {vin : Nat} {s : State} (h : s.sup.hold = false) : holdRelease vin s = s := by
  unfold holdRelease; rw [if_pos (by simp [h])]

/-- The returns that waited for the hold line begin, main's first. -/
def dueReturns (s : State) : State :=
  let s := if s.sup.main.returnDue then startReturn .main s else s
  if s.sup.bkup.returnDue then startReturn .backup s else s

theorem holdRelease_high {vin : Nat} {s : State} (h : s.sup.hold = true) :
    holdRelease vin s = dueReturns (holdFall vin s) := by
  unfold holdRelease
  rw [if_neg (by simp [h]), dueReturns, holdFall]

theorem released_cyc (vin : Nat) (s : State) :
    (overPorts releaseAdverts (overPorts releaseResets (overPorts releaseTransitions
      (vmaxFall vin (onSup (fun u => { u with hold := false }) s))))).cyc = s.cyc := by
  rw [overPorts_same State.cyc _ _ (fun p s => cyc_of_beside (releaseAdverts_beside p s)),
    overPorts_same State.cyc _ _ (fun p s => cyc_of_beside (releaseResets_beside p s)),
    overPorts_same State.cyc _ _ (fun p s => cyc_of_beside (releaseTransitions_beside p s)), vmaxFall_cyc, onSup_cyc]

theorem holdFall_eq (vin : Nat) {s : State} (h : noneWaits s.cyc) : holdFall vin s =
    supplyEvent 195 (overPorts releaseAdverts (overPorts releaseResets (overPorts releaseTransitions
      (vmaxFall vin (onSup (fun u => { u with hold := false }) s))))) := by
  unfold holdFall
  rw [runWaiting_none]
  rwa [released_cyc]

theorem holdFall_sup (vin : Nat) {s : State} (h : noneWaits s.cyc) :
    (holdFall vin s).sup = { s.sup with hold := false, maxpdo := vmaxAfter vin s.sup } := by
  rw [holdFall_eq vin h, supplyEvent_sup, overPorts_sup _ _ releaseAdverts_sup, overPorts_sup _ _ releaseResets_sup,
    overPorts_sup _ _ releaseTransitions_sup, vmaxFall_sup]
  rfl

theorem holdFall_raised (vin : Nat) (s : State) : (holdFall vin s).eva.raised 195 = true :=
  supplyEvent_raised _ _ (by decide)

theorem holdFall_keeps {n : Nat} (vin : Nat) {s : State} (hw : noneWaits s.cyc) (h : s.eva.raised n = true) :
    (holdFall vin s).eva.raised n = true := by
  rw [holdFall_eq vin hw]
  exact supplyEvent_keeps 195 (overPorts_keeps _ (fun p _ => releaseAdverts_keeps p) (overPorts_keeps _
    (fun p _ => releaseResets_keeps p) (overPorts_keeps _ (fun p _ => releaseTransitions_keeps p) (vmaxFall_keeps vin h))))

/-- A path that is connected has nothing to return to. -/
theorem startReturn_connected {x : PathId} {s : State} (h : (s.sup.path x).st = .connected) :
    startReturn x s = onPath x (fun h => { h with returnDue := false }) s := by
  unfold startReturn
  dsimp only
  rw [if_pos (by simp [h])]

/-- Nothing returns where no return waited. -/
theorem dueReturns_none {s : State} (hm : s.sup.main.returnDue = false) (hb : s.sup.bkup.returnDue = false) :
    dueReturns s = s := by
  simp [dueReturns, hm, hb]

theorem onPath_returnDue_self (x : PathId) (s : State) :
    onPath x (fun h => { h with returnDue := (s.sup.path x).returnDue }) s = s := by
  cases x <;> rfl

/-- With one path connected and no return of the other due, no return begins. -/
theorem dueReturns_connected {x : PathId} {s : State} (hst : (s.sup.path x).st = .connected)
    (hy : ∀ y, y ≠ x → (s.sup.path y).returnDue = false) :
    ∃ d, dueReturns s = onPath x (fun h => { h with returnDue := d }) s := by
  cases x with
  | main =>
    have hb : s.sup.bkup.returnDue = false := hy .backup (by decide)
    cases hd : s.sup.main.returnDue with
    | false => exact ⟨_, (dueReturns_none hd hb).trans (onPath_returnDue_self .main s).symm⟩
    | true =>
      refine ⟨false, ?_⟩
      simp only [dueReturns, hd, if_true, startReturn_connected hst]
      exact if_neg (by simp [onPath, hb])
  | backup =>
    have hm : s.sup.main.returnDue = false := hy .main (by decide)
    cases hd : s.sup.bkup.returnDue with
    | false => exact ⟨_, (dueReturns_none hm hd).trans (onPath_returnDue_self .backup s).symm⟩
    | true =>
      refine ⟨false, ?_⟩
      simp only [dueReturns, hm, hd, Bool.false_eq_true, if_false, if_true]
      exact startReturn_connected hst

/-! ## The hold line after a path has become good -/

/-- The hold line is low afterwards, whether or not it was high, and no return of another path begins. -/
theorem holdRelease_connected {x : PathId} {vin : Nat} {s : State} (hw : noneWaits s.cyc)
    (hst : (s.sup.path x).st = .connected) (hy : ∀ y, y ≠ x → (s.sup.path y).returnDue = false) :
    ∃ v d, (holdRelease vin s).sup = (onPath x (fun h => { h with returnDue := d })
      (onSup (fun u => { u with hold := false, maxpdo := v }) s)).sup := by
  cases hh : s.sup.hold with
  | false =>
    refine ⟨s.sup.maxpdo, (s.sup.path x).returnDue, ?_⟩
    rw [holdRelease_low hh, ← hh]
    exact congrArg State.sup (onPath_returnDue_self x s).symm
  | true =>
    have hs := holdFall_sup vin hw
    have hp : ∀ y, (holdFall vin s).sup.path y = s.sup.path y := fun y => by rw [hs]; cases y <;> rfl
    obtain ⟨d, hd⟩ := dueReturns_connected (x := x) (s := holdFall vin s) (by rw [hp]; exact hst)
      (fun y h => by rw [hp]; exact hy y h)
    refine ⟨vmaxAfter vin s.sup, d, ?_⟩
    rw [holdRelease_high hh, hd, onPath, onSup_sup, hs]
    rfl

theorem holdRelease_quiet {vin : Nat} {s : State} (hw : noneWaits s.cyc) (hm : s.sup.main.returnDue = false)
    (hb : s.sup.bkup.returnDue = false) (hh : s.sup.hold = true) : holdRelease vin s = holdFall vin s := by
  have hs := holdFall_sup vin hw
  rw [holdRelease_high hh, dueReturns_none (by rw [hs]; exact hm) (by rw [hs]; exact hb)]

theorem startReturn_eva (x : PathId) (s : State) : (startReturn x s).eva = s.eva := by
  unfold startReturn
  simp only [apply_ite State.eva, onPath_eva, connectPath_eva, holdAssert_eva, ite_self]

theorem dueReturns_eva (s : State) : (dueReturns s).eva = s.eva := by
  simp only [dueReturns, apply_ite State.eva, startReturn_eva, ite_self]

theorem holdRelease_keeps {n : Nat} (vin : Nat) {s : State} (hw : noneWaits s.cyc) (h : s.eva.raised n = true) :
    (holdRelease vin s).eva.raised n = true := by
  cases hh : s.sup.hold with
  | false => rwa [holdRelease_low hh]
  | true => rw [holdRelease_high hh, dueReturns_eva]; exact holdFall_keeps vin hw h

theorem holdRelease_raised {vin : Nat} {s : State} (hh : s.sup.hold = true) : (holdRelease vin s).eva.raised 195 = true := by
  rw [holdRelease_high hh, dueReturns_eva]; exact holdFall_raised vin s

end Sys2Proof.Machine
end

section
/-!
PROOFS. Paths that become good, the switch-over window, and the return to a higher-priority input.
-/

namespace Sys2Proof.Machine

/-! ## A change of the active input releases no slice -/

theorem capUpdate_did (s : State) : (capUpdate s).did = s.did := by
  unfold capUpdate
  rw [foldl_same State.did _ (fun s p => did_of_beside (grantMoved_beside p _ true s)), apply_ite State.did, supplyEvent_did,
    ite_self]
  exact overPorts_same State.did _ _ (fun _ _ => rfl)

theorem publishVmax_did (v : BitVec 9) (s : State) : (publishVmax v s).did = s.did := by
  unfold publishVmax; split
  · rfl
  · exact overPorts_same State.did _ _ (fun p s => did_of_beside (limitsChanged_beside p s))

theorem portsPresent_did (s : State) : (portsPresent s).did = s.did := by
  unfold portsPresent; split
  · rfl
  · exact overPorts_same State.did _ _ (fun _ _ => rfl)

/-- The first input is noted; the release of the slices stays as it is. -/
theorem activeMoved_released (old : InputId) (s : State) : (activeMoved old s).did.released = s.did.released := by
  simp only [activeMoved, apply_ite State.did, apply_ite Did.released, portsPresent_did, onDid_did, ite_self]
  rw [foldl_same State.did _ (fun s p => did_of_beside (frsCheck_beside p s)),
    foldl_same State.did _ (fun s p => did_of_beside (sinkRequest_beside p false s)),
    overPorts_same State.did _ _ (fun p s => did_of_beside (alertBit_beside p _ s)), apply_ite State.did, publishVmax_did,
    ite_self, capUpdate_did]

theorem setActive_released (x : InputId) (s : State) : (setActive x s).did.released = s.did.released := by
  unfold setActive
  dsimp only
  split
  · rfl
  · rw [activeMoved_released]
    cases x <;> simp only [supplyEvent_did, apply_ite State.did, onSup_did, onSlice_did, ite_self]

/-- The event of an input that becomes active (R57). -/
theorem setActive_raised {x : InputId} {n : Nat} {s : State} (h : s.sup.active ≠ x)
    (hn : x = .main ∧ n = 193 ∨ x = .cascade ∧ n = 196) : (setActive x s).eva.raised n = true := by
  unfold setActive
  dsimp only
  rw [if_neg h]
  apply activeMoved_keeps
  obtain ⟨rfl, rfl⟩ | ⟨rfl, rfl⟩ := hn
  · exact supplyEvent_raised _ _ (by decide)
  · exact supplyEvent_raised _ _ (by decide)

/-! ## PATH_GOOD (R57, R61, R68) -/

/-- The path connected, its attempts cleared. -/
def Path.good (h : Path) : Path := { h with st := .connected, attempt := false, tries := 0, needQual := false }

/-- The other path, once `x` is good, waits or is armed. -/
def otherWaits (x : PathId) (s : State) : State :=
  match x with
  | .main => onPath .backup (fun h => if h.qual && h.st ≠ .retrying then h.off .staggerOrArmed else h) s
  | .backup => onPath .main (fun h => if h.qual && h.st = .qualifying then { h with st := .staggerOrArmed } else h) s

/-- A good path at work, before the hold line falls. -/
def goodActive (x : PathId) (s : State) : State :=
  let t := setActive (pathInput x) (onPath x Path.good s)
  otherWaits x (onSup (fun u => { u with psEn := t.did.released }) t)

theorem pathGood_eq {x : PathId} {vin : Nat} {s : State} (hg : (s.sup.path x).gate = true)
    (hst : (s.sup.path x).st = .connecting) : pathGood x vin s = pfwFollow (holdRelease vin (goodActive x s)) := by
  unfold pathGood
  dsimp only
  rw [if_neg (by simp [hg, hst])]
  cases x <;> rfl

/-- Whatever was active before, the active input and what follows it change, and nothing else of the supply block. -/
theorem setActive_sup_cases (x : InputId) (s : State) : ∃ e f a q c v, (setActive x s).sup =
    { s.sup with
      active := x, everActive := e, vmaxFresh := f, aidSecond := a, cascQ := q, cascPort := c, maxpdo := v } := by
  by_cases h : s.sup.active = x
  · exact ⟨_, _, _, _, _, _, by rw [setActive_same h, ← h]⟩
  · exact ⟨_, _, _, _, _, _, setActive_sup h⟩

/-- The other path's wait is a matter of that path alone. -/
theorem otherWaits_sup (x : PathId) (s : State) : (otherWaits x s).sup.path x = s.sup.path x ∧
    (otherWaits x s).sup.active = s.sup.active ∧ (otherWaits x s).sup.hold = s.sup.hold ∧
    (otherWaits x s).sup.psEn = s.sup.psEn := by
  cases x <;> exact ⟨rfl, rfl, rfl, rfl⟩

theorem otherWaits_due {x y : PathId} {s : State} (hy : y ≠ x) (h : (s.sup.path y).returnDue = false) :
    ((otherWaits x s).sup.path y).returnDue = false := by
  cases x with
  | main =>
    obtain rfl : y = .backup := by cases y <;> trivial
    simp only [otherWaits, path_onPath]
    split
    · rfl
    · exact h
  | backup =>
    obtain rfl : y = .main := by cases y <;> trivial
    simp only [otherWaits, path_onPath]
    split <;> exact h

/-- The supply block with a good path at work. -/
theorem goodActive_sup (x : PathId) (s : State) : (goodActive x s).sup.path x = (s.sup.path x).good ∧
    (goodActive x s).sup.active = pathInput x ∧ (goodActive x s).sup.hold = s.sup.hold ∧
    (goodActive x s).sup.psEn = s.did.released := by
  obtain ⟨hpath, hact, hhold, hps⟩ := otherWaits_sup x (onSup (fun u =>
    { u with psEn := (setActive (pathInput x) (onPath x Path.good s)).did.released })
      (setActive (pathInput x) (onPath x Path.good s)))
  have hrel := setActive_released (pathInput x) (onPath x Path.good s)
  obtain ⟨e, f, a, q, c, v, hsup⟩ := setActive_sup_cases (pathInput x) (onPath x Path.good s)
  unfold goodActive
  dsimp only
  rw [hpath, hact, hhold, hps, onSup_sup, hsup, hrel]
  cases x <;> exact ⟨rfl, rfl, rfl, rfl⟩

theorem goodActive_due {x y : PathId} {s : State} (hy : y ≠ x) (h : (s.sup.path y).returnDue = false) :
    ((goodActive x s).sup.path y).returnDue = false := by
  have hp : (setActive (pathInput x) (onPath x Path.good s)).sup.path y = s.sup.path y := by
    rw [setActive_path, onPath_path_ne hy]
  refine otherWaits_due hy ?_
  rw [← hp] at h
  cases y <;> exact h

theorem goodActive_cyc (x : PathId) (s : State) : (goodActive x s).cyc = s.cyc := by
  have h := setActive_cyc (pathInput x) (onPath x Path.good s)
  cases x <;> exact h

theorem goodActive_raised {s : State} (h : s.sup.active ≠ .main) : (goodActive .main s).eva.raised 193 = true := by
  have hs := setActive_raised (x := .main) (n := 193) (s := onPath .main Path.good s) h (.inl ⟨rfl, rfl⟩)
  exact hs

/-- What a good path leaves of the supply block, and that the hold line's fall is not undone. -/
theorem pathGood_sup {x : PathId} {vin : Nat} {s : State} (hg : (s.sup.path x).gate = true)
    (hst : (s.sup.path x).st = .connecting) (hw : noneWaits s.cyc) (hy : ∀ y, y ≠ x → (s.sup.path y).returnDue = false) :
    (∃ d, (pathGood x vin s).sup.path x = { (s.sup.path x).good with returnDue := d }) ∧
    (pathGood x vin s).sup.active = pathInput x ∧ (pathGood x vin s).sup.hold = false ∧
    (pathGood x vin s).sup.psEn = s.did.released := by
  obtain ⟨hpath, hact, -, hps⟩ := goodActive_sup x s
  obtain ⟨v, d, hr⟩ := holdRelease_connected (x := x) (vin := vin) (s := goodActive x s) (by rwa [goodActive_cyc])
    (by rw [hpath]; rfl) (fun y h => goodActive_due h (hy y h))
  obtain ⟨w, hp⟩ := pfwFollow_sup (holdRelease vin (goodActive x s))
  rw [pathGood_eq hg hst, hp, hr]
  cases x
  · exact ⟨⟨d, by rw [← hpath]; rfl⟩, hact, rfl, hps⟩
  · exact ⟨⟨d, by rw [← hpath]; rfl⟩, hact, rfl, hps⟩

theorem pathGood_main_raised {vin : Nat} {s : State} (hg : s.sup.main.gate = true) (hst : s.sup.main.st = .connecting)
    (hact : s.sup.active ≠ .main) (hw : noneWaits s.cyc) : (pathGood .main vin s).eva.raised 193 = true := by
  rw [pathGood_eq (x := .main) hg hst, pfwFollow_eva]
  exact holdRelease_keeps vin (by rwa [goodActive_cyc]) (goodActive_raised hact)

theorem pathGood_raised {x : PathId} {vin : Nat} {s : State} (hg : (s.sup.path x).gate = true)
    (hst : (s.sup.path x).st = .connecting) (hh : s.sup.hold = true) : (pathGood x vin s).eva.raised 195 = true := by
  obtain ⟨-, -, hhold, -⟩ := goodActive_sup x s
  rw [pathGood_eq hg hst, pfwFollow_eva]
  exact holdRelease_raised (by rwa [hhold])

/-! ## The return to a higher-priority input (R57, R60) -/

/-- Main may return: it has waited its stagger delay while another input carries the load. -/
structure MainReturns (u : Sup) : Prop where
  st : u.main.st = .staggerOrArmed
  qual : u.main.qual = true
  active : u.active = .backup ∨ u.active = .cascade
  etst : u.etst = false

theorem startReturn_main {s : State} (h : MainReturns s.sup) : startReturn .main s =
    if s.sup.hold then onPath .main (fun h => { h with returnDue := true }) s
    else connectPath .main false (holdAssert s) := by
  obtain ⟨hst, hq, ha, he⟩ := h
  unfold startReturn
  exact if_neg (by rcases ha with ha | ha <;> simp [Sup.path, hst, hq, ha, he])

theorem startReturn_unqualified {x : PathId} {s : State} (h : (s.sup.path x).qual = false) :
    startReturn x s = onPath x (fun h => { h with returnDue := false }) s := by
  unfold startReturn
  exact if_pos (by simp [h])

/-! ## The sink path (R66, R206) -/

theorem sinkPathFails_slice (p : Port) (counted : Bool) (s : State) : (sinkPathFails p counted s).slice p =
    { (s.slice p).openSnkg with
      sw := { (s.slice p).openSnkg.sw with swstat := { (s.slice p).openSnkg.sw.swstat with snkp := 3 } } } := by
  simp only [sinkPathFails, apply_ite (State.slice · p), supplyRecord_slice, onSup_slice, slice_onSlice, ite_self]

theorem sinkPathFails_sup (p : Port) (counted : Bool) (s : State) : (sinkPathFails p counted s).sup =
    let tries := if counted then satInc s.sup.cascTries else s.sup.cascTries
    { s.sup with
      cascTries := tries, cascLatch := counted && retriesDone tries s, cascRetry := !(counted && retriesDone tries s)
      cascAttempt := false } := by
  simp only [sinkPathFails, sup_ite, supplyRecord_sup, ite_self]
  rfl

/-- A first connection that fails writes no record. -/
theorem sinkPathFails_evr (p : Port) (s : State) : (sinkPathFails p false s).evr = s.evr := rfl

theorem exec_sinkPathTimeout_due {p : Port} {s : State} (hg : (s.slice p).pins.snkg = true) (ha : s.sup.active ≠ .cascade) :
    exec (.sinkPathTimeout p) s = .next (sinkPathFails p s.sup.cascAttempt s) :=
  congrArg Host.Outcome.next (if_pos (by simp [hg, ha]))

/-- The sink path closed, its attempts cleared, before cascade becomes active. -/
def sinkGood (p : Port) (s : State) : State :=
  s |> onSw p (fun w => { w with swstat := { w.swstat with snkp := 2 } })
    |> onSup (fun u => { u with cascTries := 0, cascAttempt := false, psEn := s.did.released })

theorem exec_sinkPathGood_due {p : Port} {vin : Nat} {s : State} (hg : (s.slice p).pins.snkg = true)
    (hp : s.sup.cascPort = some p) (ha : s.sup.active = .none) : exec (.sinkPathGood p vin) s =
      .next (spreading (fun s => pfwFollow (holdRelease vin (setActive .cascade s))) (sinkGood p s)) :=
  congrArg Host.Outcome.next (if_neg (by simp [hg, hp, ha]))

/-- Cascade takes the load: the hold line is low afterwards and the warning is released. -/
theorem cascadeActive_sup {vin : Nat} {s : State} (hm : s.sup.main.returnDue = false) (hb : s.sup.bkup.returnDue = false)
    (hw : noneWaits s.cyc) : ∃ e f a q c v, (pfwFollow (holdRelease vin (setActive .cascade s))).sup =
      { s.sup with
        active := .cascade, everActive := e, vmaxFresh := f, aidSecond := a, cascQ := q, cascPort := c, maxpdo := v
        hold := false, pfw := false } := by
  obtain ⟨e, f, a, q, c, v, hsup⟩ := setActive_sup_cases .cascade s
  have hr : ∃ v', (holdRelease vin (setActive .cascade s)).sup = { (setActive .cascade s).sup with hold := false, maxpdo := v' } := by
    cases hh : (setActive .cascade s).sup.hold with
    | false => exact ⟨_, by rw [holdRelease_low hh, ← hh]⟩
    | true =>
      have hw' : noneWaits (setActive .cascade s).cyc := by rwa [setActive_cyc]
      exact ⟨_, by rw [holdRelease_quiet hw' (by rwa [hsup]) (by rwa [hsup]) hh, holdFall_sup vin hw']⟩
  obtain ⟨v', hr⟩ := hr
  refine ⟨e, f, a, q, c, v', ?_⟩
  rw [pfwFollow_cascade (by rw [hr, hsup]), hr, hsup]

/-- Settles O17. -/
theorem pathsGoodAndFailed : Obligations.PathsGoodAndFailed := by
  unfold Obligations.PathsGoodAndFailed
  refine ⟨?_, ?_, ?_, ?_, ?_, ?_, ?_, ?_, ?_, ?_, ?_, ?_, ?_, ?_⟩
  · intro vin s hg hst ha hb hw
    refine ⟨_, rfl, ?_⟩
    rw [spreading_sup, spreading_eva]
    obtain ⟨⟨d, hpath⟩, hact, hhold, hps⟩ := pathGood_sup (x := .main) (vin := vin) hg hst hw
      (fun y h => by cases y <;> trivial)
    replace hpath : (pathGood .main vin s).sup.main = { s.sup.main.good with returnDue := d } := hpath
    rw [hpath]
    exact ⟨hact, rfl, rfl, rfl, hhold, hps, pathGood_main_raised hg hst (by simp [ha]) hw⟩
  · intro vin s hg hst ha hm hh hw
    refine ⟨_, rfl, ?_⟩
    rw [spreading_sup, spreading_eva]
    obtain ⟨⟨d, hpath⟩, hact, hhold, hps⟩ := pathGood_sup (x := .backup) (vin := vin) hg hst hw
      (fun y h => by cases y <;> trivial)
    replace hpath : (pathGood .backup vin s).sup.bkup = { s.sup.bkup.good with returnDue := d } := hpath
    rw [hpath]
    exact ⟨hact, rfl, rfl, rfl, hhold, hps, pathGood_raised (x := .backup) hg hst hh⟩
  · intro x vin s hg
    refine congrArg Host.Outcome.next (spreading_same _ _ ?_)
    exact if_pos (by simp [hg])
  · intro p vin s hg hp ha hm hb hw
    refine ⟨_, exec_sinkPathGood_due hg hp ha, ?_⟩
    rw [spreading_sup, spreading_eva, pfwFollow_eva]
    obtain ⟨e, f, a, q, c, v, hsup⟩ := cascadeActive_sup (vin := vin) (s := sinkGood p s) hm hb hw
    rw [hsup]
    refine ⟨rfl, rfl, rfl, rfl, rfl, rfl, ?_⟩
    refine holdRelease_keeps vin (by rwa [setActive_cyc]) (setActive_raised ?_ (.inr ⟨rfl, rfl⟩))
    show s.sup.active ≠ .cascade
    simp [ha]
  · intro p vin s hg
    exact congrArg Host.Outcome.next (if_pos (by simp [hg]))
  · intro p s hg ha hc
    refine ⟨_, exec_sinkPathTimeout_due hg ha, ?_⟩
    rw [hc, sinkPathFails_slice, sinkPathFails_sup]
    refine ⟨?_, rfl, rfl, sinkPathFails_evr p s⟩
    simp [← hc]
  · intro p s hg ha hc h0 hn
    refine ⟨_, exec_sinkPathTimeout_due hg ha, ?_⟩
    rw [hc, sinkPathFails_slice, sinkPathFails_sup]
    refine ⟨?_, rfl, rfl⟩
    have hd : retriesDone (satInc s.sup.cascTries) s = true := by
      rw [retriesDone, decide_eq_true h0, decide_eq_true hn]; rfl
    simp [hd]
  · intro vin s hh hm hb hw
    refine ⟨_, rfl, ?_⟩
    rw [spreading_sup, spreading_eva, holdRelease_quiet hw hm hb hh, holdFall_sup vin hw]
    exact ⟨rfl, holdFall_raised vin s⟩
  · intro vin s hh
    exact congrArg Host.Outcome.next (spreading_same _ _ (holdRelease_low hh))
  · intro s hst hq ha he hh hmode
    refine ⟨_, rfl, ?_⟩
    rw [startReturn_main ⟨hst, hq, ha, he⟩, if_neg (by simp [hh]), connectPath_sup, holdAssert_sup]
    simp [hmode]
  · intro s hst hq ha he hh
    refine congrArg Host.Outcome.next ?_
    rw [startReturn_main ⟨hst, hq, ha, he⟩, if_pos hh]
    rfl
  · intro s hq
    exact congrArg Host.Outcome.next (startReturn_unqualified (x := .main) hq)
  · intro s hp
    exact congrArg Host.Outcome.next (if_pos hp)
  · intro x s hp
    exact congrArg Host.Outcome.next (if_neg (by simp [hp]))

end Sys2Proof.Machine
end

section
/-!
PROOFS. Qualification and loss of inputs, the power-fail warning, and the cascade input.
-/

namespace Sys2Proof.Machine

/-! ## The caps after every input is lost (R59, R70) -/

theorem noPtn_cap (g : SliceGr) : g.noPtn.cap = g.cap := rfl

/-- Steps on one port each, none of which moves a grant or a cap, move none. -/
theorem foldl_noPtn {f : State → Port → State} (hb : ∀ q s, (f s q).beside q = s.beside q)
    (hg : ∀ q s, ((f s q).slice q).gr.noPtn = (s.slice q).gr.noPtn) (p : Port) (l : List Port) (s : State) :
    ((l.foldl f s).slice p).gr.noPtn = (s.slice p).gr.noPtn := by
  induction l generalizing s with
  | nil => rfl
  | cons q l ih =>
    rw [List.foldl_cons, ih]
    by_cases h : p = q
    · rw [h, hg]
    · have hs := congrArg (fun x : Slice => x.gr.noPtn) (beside_slice (hb q s) h)
      exact hs

theorem overPorts_noPtn {f : Port → State → State} (hb : ∀ q s, (f q s).beside q = s.beside q)
    (hg : ∀ q s, ((f q s).slice q).gr.noPtn = (s.slice q).gr.noPtn) (p : Port) (s : State) :
    ((overPorts f s).slice p).gr.noPtn = (s.slice p).gr.noPtn := foldl_noPtn (f := fun s q => f q s) hb hg p allPorts s

/-- The cap bus carries every port's cap (R70). -/
theorem capUpdate_cap (p : Port) (s : State) : ((capUpdate s).slice p).gr.cap = portCap s p := by
  rw [← noPtn_cap]
  unfold capUpdate
  dsimp only
  rw [foldl_noPtn (fun q s => grantMoved_beside q _ true s) (fun q s => grantMoved_noPtn q _ true s)]
  simp only [apply_ite (State.slice · p), supplyEvent_slice, ite_self]
  refine overPorts_slice (fun q t => onGr_beside q _ t) p (I := fun _ => True) (Q := fun x => x.gr.noPtn.cap = portCap s p)
    (fun _ => Iff.rfl) (fun _ => Iff.rfl) (fun t _ => ?_) trivial
  rw [slice_onGr]
  rfl

theorem publishVmax_noPtn (v : BitVec 9) (p : Port) (s : State) :
    ((publishVmax v s).slice p).gr.noPtn = (s.slice p).gr.noPtn := by
  unfold publishVmax; split
  · rfl
  · exact overPorts_noPtn limitsChanged_beside limitsChanged_noPtn p _

theorem sinkRequest_gr (p : Port) (b : Bool) (s : State) : ((sinkRequest p b s).slice p).gr = (s.slice p).gr := by
  unfold sinkRequest; dsimp only; split
  · rfl
  · split
    · rfl
    · rw [queueMsg_gr, slice_onSw]

/-- What follows a later change of the active input: the caps are those of the new input. -/
theorem activeMoved_cap {old : InputId} (ho : old ≠ .none) (p : Port) (s : State) :
    ((activeMoved old s).slice p).gr.cap = portCap s p := by
  unfold activeMoved
  dsimp only
  rw [if_neg (by simp [ho]), ← capUpdate_cap, ← noPtn_cap, ← noPtn_cap ((capUpdate s).slice p).gr]
  refine congrArg SliceGr.cap ?_
  generalize capUpdate s = t
  rw [foldl_noPtn (fun q s => frsCheck_beside q s) (fun q s => congrArg SliceGr.noPtn (frsCheck_gr q s)),
    foldl_noPtn (fun q s => sinkRequest_beside q false s) (fun q s => congrArg SliceGr.noPtn (sinkRequest_gr q false s)),
    overPorts_noPtn (fun q s => alertBit_beside q _ s) (fun q s => congrArg SliceGr.noPtn (alertBit_gr q _ s))]
  split
  · exact publishVmax_noPtn 0 p _
  · rfl

theorem portCap_none {s : State} (h : s.sup.active = .none) (p : Port) : portCap s p = 0 := by
  unfold portCap; dsimp only; rw [if_pos h]

theorem setActive_none_cap {s : State} (h : s.sup.active ≠ .none) (p : Port) :
    ((setActive .none s).slice p).gr.cap = 0 := by
  unfold setActive
  dsimp only
  rw [if_neg h, activeMoved_cap h, portCap_none]
  split <;> rfl

theorem pfwAssert_slice (p : Port) (s : State) : (pfwAssert s).slice p = s.slice p := by
  rw [State.slice, pfwAssert_slices]; rfl

theorem noSupply_cap {s : State} (h : s.sup.active ≠ .none) (p : Port) : ((noSupply s).slice p).gr.cap = 0 := by
  have hc := setActive_none_cap (s := holdAssert s) (by rwa [holdAssert_sup]) p
  unfold noSupply
  simp only [apply_ite (State.slice · p), pfwAssert_slice, onSup_slice, ite_self]
  exact hc

/-! ## The loss of an input (R59) -/

/-- The path of an input that is lost. -/
def Path.lost (h : Path) : Path :=
  { h.off (if h.st = .retrying then .retrying else .lost) with qual := false, needQual := h.st = .retrying, offDone := false }

/-- The loss of an input that carries the load or is to take it raises its event. -/
def lossNoted (x : PathId) (s : State) : State :=
  let h := s.sup.path x
  if h.st = .connecting || h.st = .connected || (x = .backup && h.st = .staggerOrArmed) || s.sup.active = pathInput x then
    supplyEvent (lossEvent x) (onPath x Path.lost s)
  else onPath x Path.lost s

/-- Outside a test, the loss of a qualified input is noted; the load moves where it was the active one. -/
theorem inputLost_eq {x : PathId} {s : State} (hq : (s.sup.path x).qual = true) (he : s.sup.etst = false) :
    inputLost x s = if s.sup.active = pathInput x then pfwFollow (activeLost (lossNoted x s))
      else connectNext (lossNoted x s) := by
  unfold inputLost
  dsimp only
  rw [if_neg (by simp [hq])]
  simp only [he, Bool.false_and, Bool.false_eq_true, if_false, Bool.or_false]
  rfl

theorem lossNoted_sup (x : PathId) (s : State) : (lossNoted x s).sup = (onPath x Path.lost s).sup := by
  simp only [lossNoted, sup_ite, supplyEvent_sup, ite_self]

theorem lossNoted_active (x : PathId) (s : State) : (lossNoted x s).sup.active = s.sup.active := by
  rw [lossNoted_sup, onPath_active]

theorem inputLost_active {x : PathId} {s : State} (hq : (s.sup.path x).qual = true) (he : s.sup.etst = false)
    (ha : s.sup.active = pathInput x) : inputLost x s = pfwFollow (activeLost (lossNoted x s)) :=
  (inputLost_eq hq he).trans (if_pos ha)

/-- While another input is active, the loss moves nothing. -/
theorem inputLost_other {x : PathId} {s : State} (hq : (s.sup.path x).qual = true) (he : s.sup.etst = false)
    (ha : s.sup.active ≠ pathInput x) (hn : s.sup.active ≠ .none) : inputLost x s = lossNoted x s := by
  rw [inputLost_eq hq he, if_neg ha, connectNext_active (by rwa [lossNoted_active])]

theorem lossNoted_raised {x : PathId} {s : State} (h : s.sup.active = pathInput x) :
    (lossNoted x s).eva.raised (lossEvent x) = true := by
  unfold lossNoted
  dsimp only
  rw [if_pos (by simp [h])]
  exact supplyEvent_raised _ _ (by cases x <;> decide)

theorem lossNoted_armed {s : State} (h : s.sup.bkup.st = .staggerOrArmed) :
    (lossNoted .backup s).eva.raised 194 = true := by
  unfold lossNoted
  dsimp only
  rw [if_pos (by simp [Sup.path, h])]
  exact supplyEvent_raised _ _ (by decide)

/-- The loss of main while it waits its stagger delay raises nothing. -/
theorem lossNoted_waiting {s : State} (h : s.sup.main.st = .staggerOrArmed) (ha : s.sup.active ≠ .main) :
    lossNoted .main s = onPath .main Path.lost s := by
  unfold lossNoted
  exact if_neg (by simp [Sup.path, pathInput, h, ha])

/-- The armed backup takes the load of a lost main path (R57). -/
theorem mainLost_backup_sup {s : State} (ha : s.sup.active = .main) (hq : s.sup.bkup.qual = true)
    (hst : s.sup.bkup.st = .staggerOrArmed) : ∃ w, (pfwFollow (activeLost (lossNoted .main s))).sup =
      { s.sup with
        main := s.sup.main.lost, bkup := { s.sup.bkup with st := .connecting }, active := .backup, everActive := true
        vmaxFresh := false, aidSecond := false, hold := true, pfw := w } := by
  have hl : (lossNoted .main s).sup = { s.sup with main := s.sup.main.lost } := lossNoted_sup .main s
  obtain ⟨w, hw⟩ := pfwFollow_sup (activeLost (lossNoted .main s))
  have hset := setActive_sup (x := .backup) (s := holdAssert (lossNoted .main s)) (by simp [hl, ha])
  refine ⟨w, ?_⟩
  rw [hw, activeLost_to_backup (by rw [hl]; rfl) (by rw [hl]; exact hq) (by simp [hl, ha]), hl,
    show (decide (s.sup.active = .main) && decide (s.sup.bkup.st = .staggerOrArmed)) = true by simp [ha, hst]]
  simp only [takeBackup, if_true, onPath, onSup_sup, hset, holdAssert_sup, hl]
  simp [ha]

/-- With no input left the supply ends (R59). -/
theorem mainLost_none {s : State} (ha : s.sup.active = .main) (hb : s.sup.bkup.qual = false) (hc : s.sup.cascQ = false) :
    pfwFollow (activeLost (lossNoted .main s)) = noSupply (lossNoted .main s) := by
  have hl : (lossNoted .main s).sup = { s.sup with main := s.sup.main.lost } := lossNoted_sup .main s
  have hn := noSupply_sup (s := lossNoted .main s) (by simp [hl, ha])
  rw [activeLost_to_none (by rw [hl]; rfl) (by rw [hl]; exact hb), connectNext_unqualified, pfwFollow_none]
  · rw [hn]
  · rw [hn, hl]; rfl
  · rw [hn, hl]; exact hb
  · rw [hn, hl, hc]; rfl

/-! ## Qualification of an input (R50, R57) -/

/-- A qualified input waits where another carries the load: main its stagger delay, the backup armed. -/
def qualWaits (x : PathId) (u : Sup) : Bool :=
  (x = .main && (u.active = .backup || u.active = .cascade)) || (x = .backup && u.active = .main)

/-- The path of an input that is qualified. -/
def Path.qualified (waits : Bool) (h : Path) : Path :=
  { h with qual := true, st := if h.st = .retrying then .retrying else if waits then .staggerOrArmed else .qualifying }

/-- The bus voltages with `mv` at an input. -/
def busAt (x : PathId) (mv : Nat) (v : SupVin) : SupVin :=
  match x with
  | .main => { v with vmain := BitVec.ofNat 16 (mv / 10) } | .backup => { v with vbkup := BitVec.ofNat 16 (mv / 10) }

/-- A qualified input is noted with the voltage on its bus. -/
def qualNoted (x : PathId) (mv : Nat) (s : State) : State :=
  onPath x (Path.qualified (qualWaits x s.sup)) (onSup (fun u => { u with vin := busAt x mv u.vin }) s)

/-- An input may qualify: it is configured, sensed, and not latched. -/
structure MayQualify (x : PathId) (s : State) : Prop where
  qual : (s.sup.path x).qual = false
  latch : (s.sup.path x).latch = false
  sensed : s.otp.sensed = true
  st : (s.sup.path x).st ≠ .notConfigured

theorem inputQualified_eq {x : PathId} {mv : Nat} {s : State} (h : MayQualify x s) : inputQualified x mv s =
    if (s.sup.path x).st = .retrying then
      if (s.sup.path x).offDone then connectPath x true (qualNoted x mv s)
      else onPath x (fun h => { h with needQual := false }) (qualNoted x mv s)
    else connectNext (qualNoted x mv s) := by
  obtain ⟨hq, hl, hs, hst⟩ := h
  unfold inputQualified
  dsimp only
  rw [if_neg (by simp [hq, hl, hs, hst])]
  cases x <;> rfl

/-- A new input that waits for nothing connects. -/
theorem inputQualified_new {x : PathId} {mv : Nat} {s : State} (h : MayQualify x s) (hr : (s.sup.path x).st ≠ .retrying) :
    inputQualified x mv s = connectNext (qualNoted x mv s) := (inputQualified_eq h).trans (if_neg hr)

/-- An attempt whose off time has ended starts (R66). -/
theorem inputQualified_due {x : PathId} {mv : Nat} {s : State} (h : MayQualify x s) (hr : (s.sup.path x).st = .retrying)
    (ho : (s.sup.path x).offDone = true) : inputQualified x mv s = connectPath x true (qualNoted x mv s) :=
  (inputQualified_eq h).trans ((if_pos hr).trans (if_pos ho))

theorem qualNoted_active (x : PathId) (mv : Nat) (s : State) : (qualNoted x mv s).sup.active = s.sup.active := by
  cases x <;> rfl

/-- A qualified input waits while another is active. -/
theorem inputQualified_waits {x : PathId} {mv : Nat} {s : State} (h : MayQualify x s) (hr : (s.sup.path x).st ≠ .retrying)
    (ha : s.sup.active ≠ .none) : inputQualified x mv s = qualNoted x mv s := by
  rw [inputQualified_new h hr, connectNext_active (by rwa [qualNoted_active])]

/-- Main, the only input, connects under the hold line. -/
theorem connectNext_main {s : State} (ha : s.sup.active = .none) (hc : s.sup.lock.cfgLk = true)
    (hm : s.sup.main.busy = false) (hb : s.sup.bkup.busy = false) (hq : s.sup.main.qual = true)
    (hst : s.sup.main.st = .qualifying) : connectNext s = connectPath .main false (holdAssert s) := by
  unfold connectNext
  rw [if_neg (by simp [ha, hc, hm, hb]), if_pos (by simp [hq, hst])]

/-- The cascade input, the only one, connects the sink path. -/
theorem connectNext_cascade {p : Port} {s : State} (ha : s.sup.active = .none) (hc : s.sup.lock.cfgLk = true)
    (hm : s.sup.main.busy = false) (hb : s.sup.bkup.busy = false) (hqm : s.sup.main.qual = false)
    (hqb : s.sup.bkup.qual = false) (hp : s.sup.cascPort = some p) (hq : s.sup.cascQ = true) (hr : s.sup.cascRetry = false)
    (hl : s.sup.cascLatch = false) (hg : (s.slice p).pins.snkg = false) : connectNext s = connectSink p s := by
  unfold connectNext
  rw [if_neg (by simp [ha, hc, hm, hb]), if_neg (by simp [hqm]), if_neg (by simp [hqb]), hp]
  exact if_pos (by simp [hq, hr, hl, hg])

/-! ## Connecting the sink path (R206, R229) -/

/-- What the connection of a sink path reads of a slice is alike in `x` and `y`. -/
def Slice.SinkAlike (y x : Slice) : Prop := x.pins = y.pins ∧ x.pr = y.pr ∧ x.sw = y.sw ∧ x.ps.tlmV = y.ps.tlmV

/-- The hold line reaches a slice's contract change alone. -/
theorem holdAssert_slice (p : Port) (s : State) : (s.slice p).SinkAlike ((holdAssert s).slice p) := by
  have hall := overPorts_slice (f := fun q t => onOff q SliceOff.pause t) (fun q t => onOff_beside q _ t) p
    (I := (s.slice p).SinkAlike) (Q := (s.slice p).SinkAlike) (fun _ => Iff.rfl) (fun _ => Iff.rfl)
    (fun t h => by rw [slice_onOff]; exact h) (s := onSup (fun u => { u with hold := true }) s) ⟨rfl, rfl, rfl, rfl⟩
  unfold holdAssert
  split
  · exact ⟨rfl, rfl, rfl, rfl⟩
  · exact hall

/-- A self-check that finds nothing is entered in the port's protection status, and changes nothing else of the port. -/
theorem selfCheck_slice_clean {p : Port} {s : State} (h : (s.slice p).pr.bad = 0) : (selfCheck p s).slice p =
    { s.slice p with pr := { (s.slice p).pr with prstat := { (s.slice p).pr.prstat with
        scfail := 0, pstate := if (s.slice p).pr.prstat.pstate = 4 then 0 else (s.slice p).pr.prstat.pstate } } } := by
  unfold selfCheck
  dsimp only
  rw [if_pos h, slice_onPr]

/-- The sink path of a sound port begins to close under the hold line. -/
theorem connectSink_sound {p : Port} {s : State} (hb : (s.slice p).pr.bad = 0) (hp : (s.slice p).pr.prstat.pstate = 0) :
    (connectSink p s).sup = { s.sup with hold := true, cascRetry := false } ∧
    ((connectSink p s).slice p).pins.snkg = true ∧ ((connectSink p s).slice p).sw.swstat.snkp =
      (if s.sup.vaux.vbulk.toNat + 100 < (s.slice p).ps.tlmV.vbus.toNat then 1 else 2) := by
  obtain ⟨-, hpr, -, htlm⟩ := holdAssert_slice p s
  have hsc := selfCheck_slice_clean (p := p) (s := holdAssert s) (by rw [hpr, hb])
  unfold connectSink
  dsimp only
  rw [if_neg (by rw [hsc]; simp [hpr, hp])]
  simp only [onSup_sup, onSlice_sup, onSup_slice, slice_onSlice, selfCheck_sup, holdAssert_sup, hsc, htlm]
  exact ⟨trivial, trivial, trivial⟩

/-! ## The cascade input -/

/-- The cascade input gone, its sink path open. -/
def cascGone (p : Port) (s : State) : State :=
  onSup (fun u => { u with cascQ := false, cascPort := none, cascLatch := false, cascAttempt := false })
    (onSlice p Slice.openSnkg s)

theorem cascadeLost_eq {p : Port} {s : State} (hq : s.sup.cascQ = true) (hp : s.sup.cascPort = some p) :
    cascadeLost p s = if s.sup.active = .cascade then pfwFollow (activeLost (cascGone p s)) else cascGone p s := by
  unfold cascadeLost
  rw [if_neg (by simp [hq, hp])]
  rfl

/-- Main takes the load of a lost cascade input (R57). -/
theorem cascGone_main {p : Port} {s : State} (ha : s.sup.active = .cascade) (hq : s.sup.main.qual = true)
    (hm : s.sup.hswMain.mode = false) : ∃ w, (pfwFollow (activeLost (cascGone p s))).sup =
      { (cascGone p s).sup with
        main := { s.sup.main with
          st := .connecting, attempt := false, gate := true, precharge := false, offDone := false, needQual := false
          returnDue := false }
        active := .main, everActive := true, vmaxFresh := false, aidSecond := false, hold := true, pfw := w } := by
  have ha' : (cascGone p s).sup.active = .cascade := ha
  obtain ⟨w, hw⟩ := pfwFollow_sup (activeLost (cascGone p s))
  have hset := setActive_sup (x := .main) (s := holdAssert (cascGone p s)) (by simp [ha'])
  refine ⟨w, ?_⟩
  rw [hw, activeLost_to_main (s := cascGone p s) hq (by simp [ha']), connectPath_sup, hset, holdAssert_sup]
  simp [cascGone, hm, ha]

/-- Settles O16. -/
theorem inputsAndWarning : Obligations.InputsAndWarning := by
  unfold Obligations.InputsAndWarning
  refine ⟨?_, ?_, ?_, ?_, ?_, ?_, ?_, ?_, ?_, ?_, ?_, ?_, ?_, ?_, ?_, ?_, ?_, ?_, ?_, ?_⟩
  · intro mv s hq hl hs hst hr ha
    refine ⟨_, rfl, ?_⟩
    have hw : qualWaits .main s.sup = true := by rcases ha with ha | ha <;> simp [qualWaits, ha]
    rw [spreading_sup, spreading_evr, inputQualified_waits (x := .main) ⟨hq, hl, hs, hst⟩ hr
      (by rcases ha with ha | ha <;> simp [ha])]
    simp [qualNoted, onPath, Path.qualified, busAt, hw, hr]
  · intro mv s hq hl hs hst hr ha
    refine ⟨_, rfl, ?_⟩
    have hw : qualWaits .backup s.sup = true := by simp [qualWaits, ha]
    rw [spreading_sup, spreading_evr, inputQualified_waits (x := .backup) ⟨hq, hl, hs, hst⟩ hr (by simp [ha])]
    simp [qualNoted, onPath, Path.qualified, busAt, hw, hr]
  · intro mv s hq hl hs hst ha hc hat hb hm
    refine ⟨_, rfl, ?_⟩
    have hp : (qualNoted .main mv s).sup.main = { s.sup.main with qual := true, st := .qualifying } := by
      simp [qualNoted, onPath, Path.qualified, hst, qualWaits, ha]
    have hbusy : (qualNoted .main mv s).sup.main.busy = false := by rw [hp, Path.busy, hat]; rfl
    rw [spreading_sup, inputQualified_new (x := .main) ⟨hq, hl, hs, by simp [Sup.path, hst]⟩ (by simp [Sup.path, hst]),
      connectNext_main (s := qualNoted .main mv s) ha hc hbusy hb (by rw [hp]) (by rw [hp]),
      connectPath_direct (x := .main) (by rw [holdAssert_sup]; exact hm)]
    simp [onPath, hp, qualNoted_active, ha]
  · intro mv s hq hl hs hst hoff hm
    refine ⟨_, rfl, ?_⟩
    have hp : (qualNoted .main mv s).sup.main = { s.sup.main with qual := true, st := .retrying } := by
      simp [qualNoted, onPath, Path.qualified, hst]
    rw [spreading_sup, inputQualified_due (x := .main) ⟨hq, hl, hs, by simp [Sup.path, hst]⟩ hst hoff,
      connectPath_direct (s := qualNoted .main mv s) (x := .main) hm]
    simp [onPath, hp, hst]
  · intro x mv s h
    refine congrArg Host.Outcome.next (spreading_same _ _ ?_)
    exact if_pos (by rcases h with h | h <;> simp [h])
  · intro x s h
    refine congrArg Host.Outcome.next (spreading_same _ _ ?_)
    exact if_pos (by simp [h])
  · intro s hq ha he hr hb hst
    refine ⟨_, rfl, ?_⟩
    obtain ⟨w, hw⟩ := mainLost_backup_sup ha hb hst
    rw [spreading_sup, spreading_eva, inputLost_active (x := .main) hq he ha, hw, pfwFollow_eva]
    refine ⟨rfl, ?_, rfl, rfl, rfl, rfl, activeLost_keeps (lossNoted_raised (x := .main) ha)⟩
    exact if_neg hr
  · intro s hq ha he hst hb hc
    refine ⟨_, rfl, ?_⟩
    have hl : (lossNoted .main s).sup = { s.sup with main := s.sup.main.lost } := lossNoted_sup .main s
    have hact : (lossNoted .main s).sup.active ≠ .none := by simp [hl, ha]
    simp only [spreading_sup, spreading_eva, spreading_gr_of, inputLost_active (x := .main) hq he ha,
      mainLost_none ha hb hc]
    rw [noSupply_sup hact, hl]
    refine ⟨rfl, ?_, rfl, rfl, rfl, rfl, rfl, noSupply_keeps (lossNoted_raised (x := .main) ha), noSupply_cap hact⟩
    exact if_neg (by simp [hst])
  · intro s hq ha he hst
    refine ⟨_, rfl, ?_⟩
    rw [spreading_sup, spreading_eva, inputLost_other (x := .main) hq he (by simp [pathInput, ha]) (by simp [ha]),
      lossNoted_waiting hst (by simp [ha])]
    simp [onPath, Path.lost, Path.off, hst]
  · intro s hq ha he hst
    refine ⟨_, rfl, ?_⟩
    have hl : (lossNoted .backup s).sup = { s.sup with bkup := s.sup.bkup.lost } := lossNoted_sup .backup s
    rw [spreading_sup, spreading_eva, inputLost_other (x := .backup) hq he (by simp [pathInput, ha])
      (by simp [ha]), hl]
    refine ⟨?_, rfl, rfl, ha, lossNoted_armed hst⟩
    exact if_neg (by simp [hst])
  · intro s ho hc hp
    refine ⟨pfwAssert s, ?_, by simp [pfwAssert_sup], pfwAssert_raised hp⟩
    refine congrArg Host.Outcome.next ?_
    rcases ho with ⟨ha, hq⟩ | ⟨ha, hq⟩ <;> simp [ha, hq, hc]
  · intro s ha hq
    exact congrArg Host.Outcome.next (by simp [ha, hq])
  · intro s ha
    exact congrArg Host.Outcome.next (if_neg ha)
  · intro s hq hst hp
    exact congrArg Host.Outcome.next (if_pos (by rcases hst with hst | hst <;> simp [hq, hst, hp]))
  · intro s hq
    exact congrArg Host.Outcome.next (if_neg (by simp [hq]))
  · intro p s hp hv hw hq ha
    refine congrArg Host.Outcome.next ?_
    dsimp only
    rw [if_neg (by simp [hp, hw, hq]; omega)]
    exact connectNext_active ha
  · intro p s hp hv hw hq ha hc hqm hqb hm hb hr hl hg hbad hps
    refine ⟨_, rfl, ?_⟩
    have hn := connectNext_cascade (p := p) (s := onSup (fun u => { u with cascQ := true, cascPort := some p }) s)
      ha hc hm hb hqm hqb rfl rfl hr hl hg
    obtain ⟨hsup, hsnkg, hsnkp⟩ := connectSink_sound (p := p)
      (s := onSup (fun u => { u with cascQ := true, cascPort := some p }) s) hbad hps
    dsimp only
    rw [if_neg (by simp [hp, hw, hq]; omega), hn, hsup]
    exact ⟨rfl, rfl, rfl, hsnkg, hsnkp⟩
  · intro p s hq hp ha
    refine ⟨_, rfl, ?_⟩
    rw [spreading_sup, spreading_pins_of, spreading_sw_of, cascadeLost_eq hq hp, if_neg ha]
    simp [cascGone, Slice.openSnkg]
  · intro p s hq hp ha hqm hm
    refine ⟨_, rfl, ?_⟩
    have hact : (cascGone p s).sup.active = .cascade := ha
    obtain ⟨w, hw⟩ := cascGone_main (p := p) ha hqm hm
    rw [spreading_sup, spreading_eva, cascadeLost_eq hq hp, if_pos ha, hw, pfwFollow_eva]
    refine ⟨rfl, rfl, rfl, rfl, rfl, rfl, ?_⟩
    rw [activeLost_to_main (s := cascGone p s) hqm (by rw [hact]; decide), connectPath_eva]
    exact setActive_raised (by rw [holdAssert_sup, hact]; decide) (.inl ⟨rfl, rfl⟩)
  · intro p s hq
    refine congrArg Host.Outcome.next (spreading_same _ _ ?_)
    exact if_pos (by simp [hq])

end Sys2Proof.Machine
end

section
/-!
PROOFS. The memory: every step keeps its canonical form, and what stores nothing leaves every byte as it was.
-/

namespace Sys2Proof.Machine

/-- A command that stores writes through operations that each keep the canonical form. -/
theorem exec_wf_of_stores {c : Instr} {s t : State} (hc : storesMemory c = true) (h : exec c s = .next t)
    (hs : Memory.wf s.kept.1 = true) : Memory.wf t.kept.1 = true := by
  cases c with
  | activationRestartDone r => cases h; exact activationRestartDone_wf r hs
  | configLoad => cases h; exact configLoad_wf hs
  | dmaAbort q c w => cases h; exact dmaAbort_wf q c w hs
  | dmaBurstCommit c n => cases h; exact dmaBurstCommit_wf c n hs
  | registerWrite q a w => cases h; split; exacts [burstWrite_wf q _ _ hs, hs]
  | rollback => cases h; split; exacts [rollback_wf hs, hs]
  | spiWrite w => cases h; exact spiWrite_wf w hs
  | svcActivate => cases h; exact svcRun_wf _ _ _ _ _ hs (fun _ => svcActivate_wf)
  | svcMailbox _ cmd arg => cases h; exact svcRun_wf _ _ _ _ _ hs (fun _ => svcMailbox_wf cmd arg)
  | svcRegWrite _ a ws => cases h; exact svcRun_wf _ _ _ _ _ hs (fun _ => svcRegWrite_wf a ws)
  | twoWireWrite w => cases h; exact twoWireWrite_wf w hs
  | watchdogExpiry c n => cases h; exact watchdogExpiryAt_wf c n hs
  | wipeDone => cases h; split; exacts [wipeDone_wf s, hs]
  | _ => cases hc

/-- A command stores, and keeps the canonical form, or leaves the memory alone. -/
theorem exec_memOk {c : Instr} {s t : State} (h : exec c s = .next t) (hs : s.memOk = true) : t.memOk = true := by
  cases hc : storesMemory c with
  | false => rwa [memOk_kept, exec_kept hc h]
  | true => exact exec_wf_of_stores hc h hs

/-- Settles O1: a step idles or runs the front command, which takes no memory with it out of the queue. -/
theorem memoryStaysCanonical : Obligations.MemoryStaysCanonical := by
  intro s t hs h
  cases hq : s.pending with
  | nil => rw [step_of_pending_nil hq] at h; cases h; exact hs
  | cons c q => rw [step_of_pending_cons hq] at h; exact exec_memOk h hs

/-- What a byte reads as is a matter of the memory alone. -/
theorem readByte_of_mem {s t : State} (h : t.mem = s.mem) (a : Nat) : readByte t a = readByte s a := by
  simp only [readByte, h]

/-- A DMA abort with no commit in its clock leaves memory and queue alone. -/
theorem dmaAbort_kept (q : Requester) (c : Fin 16) (s : State) : (dmaAbort q c false s).kept = s.kept := by
  unfold dmaAbort
  split <;> simp

/-- Settles O6. -/
theorem memoryFrame : Obligations.MemoryFrame := by
  refine ⟨fun c s t hc h => readByte_of_mem (kept_mem (exec_kept hc h)), fun q c s t h => ?_⟩
  cases h
  exact readByte_of_mem (kept_mem (dmaAbort_kept q c s))

end Sys2Proof.Machine
end

section
/-!
PROOFS. Reset, the pre-reset phase, reset release and OTP sensing.
-/

namespace Sys2Proof.Machine

/-! ## The state after reset -/

theorem slice_reset (p : Port) : State.reset.slice p = Slice.reset p := by
  revert p
  decide

/-- Settles O2: ports 0 and 1 and the others are the two cases of `Slice.reset`; the rest are closed facts of one state. -/
theorem resetState : Obligations.ResetState := by
  refine ⟨by decide, fun p => ?_, by decide⟩
  rw [slice_reset, Slice.reset]
  split <;> rfl

/-! ## The pre-reset phase (R77, Table 2.11) -/

/-- Wherever the device is powered and out of reset, the boot included, a Warden reset request begins a phase, its cause among
the sources. -/
theorem wardenReset_begins {s : State} (c : BitVec 4) (hp : s.did.preReset = false) (hr : s.did.cond ≠ .reset)
    (hu : s.did.cond ≠ .unpowered) :
    wardenReset c s = preReset (fun s => hwRecord 3 0xFF 8 (resetData s.did.srcs s.did.boot) s)
      (onDid (fun d => { d with srcs := { d.srcs with warden := true, wcause := c } }) s) := by
  simp [wardenReset, hp, hr, hu]

/-- Steps 1 to 3 of Table 2.11 close the hot-swap gates and take PS_EN low in the supply block, and no more. -/
theorem pinsOff_sup (s : State) : (pinsOff s).sup = { s.sup with
    psEn := false, main := { s.sup.main with gate := false, precharge := false }
    bkup := { s.sup.bkup with gate := false, precharge := false } } := by
  simp only [pinsOff, onDid_sup, onSup_sup]
  rw [overPorts_same State.sup (fun p s => onSlice p (Slice.pinsOff p) s) s (fun _ _ => rfl)]

@[simp] theorem slicePinsOff_snkg (p : Port) (x : Slice) : (x.pinsOff p).pins.snkg = false := by
  simp [Slice.pinsOff, Slice.openSnkg]

/-! ## Internal reset (R75, R77) -/

/-- An append changes the log's slots and their numbering alone, whether the log has room, is full or has no block. -/
theorem logAppend_eq (rs : List Rec4) (s : State) :
    ∃ l o, logAppend rs s = onNand (fun n => { n with log := l, logOldest := o }) s := by
  simp only [logAppend]
  split
  · exact ⟨s.nand.log, s.nand.logOldest, rfl⟩
  · split
    · exact ⟨(s.nand.log ++ rs).drop 8192, s.nand.logOldest + 8192, by simp only [onNand]⟩
    · exact ⟨s.nand.log ++ rs, s.nand.logOldest, rfl⟩

theorem preResetFlush_eq (n : Nat) (s : State) :
    ∃ l o, preResetFlush n s = onNand (fun n => { n with log := l, logOldest := o }) s := by
  simp only [preResetFlush]
  split
  · exact ⟨s.nand.log, s.nand.logOldest, rfl⟩
  · split
    · exact ⟨s.nand.log, s.nand.logOldest, rfl⟩
    · exact logAppend_eq _ s

/-! ## OTP sensing (R361) -/

/-- What events and records keep, the Fuse records keep. -/
theorem fuseRecords_same {α : Type} (g : State → α) (hr : ∀ n s, g (raise n s) = g s)
    (hw : ∀ ty so fl da s, g (hwRecord ty so fl da s) = g s) (s : State) : g (fuseRecords s) = g s := by
  simp only [fuseRecords]
  rw [foldl_same g, foldl_same g, foldl_same g] <;> intro s w <;> split <;> simp [hr, hw]

theorem otpSensingDone_otp (r : SensingRead) (s : State) : (otpSensingDone r s).otp = otpSense r s.otp := by
  rw [otpSensingDone, fuseRecords_same State.otp raise_otp hwRecord_otp]
  rfl

theorem otpSensingDone_did (r : SensingRead) (s : State) : (otpSensingDone r s).did = { s.did with
    part := { partId := (otpShadow (otpSense r s.otp) 0).setWidth 16, step := getField (otpShadow (otpSense r s.otp) 0) 16 4 }
    strap := { addr0Lvl := strapLevel r.addr0Mv, addr1Lvl := strapLevel r.addr1Mv
               addrIdx := BitVec.ofNat 4 (4 * (strapLevel r.addr1Mv).toNat + (strapLevel r.addr0Mv).toNat)
               svcEnLow := r.svcEnLow } } := by
  rw [otpSensingDone, fuseRecords_same State.did raise_did hwRecord_did]
  rfl

/-- Settles O20. -/
theorem resetAndBoot : Obligations.ResetAndBoot := by
  refine ⟨fun _ => rfl, fun _ => rfl, ?_, ?_, ?_, ?_, ?_, ?_, ?_, ?_⟩
  · intro c s hw hp hr hu
    refine ⟨wardenReset c s, congrArg Host.Outcome.next (if_pos (by simpa using hw)), ?_⟩
    rw [wardenReset_begins c hp hr hu]
    simp [preReset, pinsOff_did, pinsOff_sup, pinsOff_slice]
  · intro c s hw hc
    exact congrArg Host.Outcome.next (if_neg (by simp [hw, hc]))
  · intro n s hp
    refine ⟨_, congrArg Host.Outcome.next (if_pos hp), ?_⟩
    obtain ⟨l, o, hl⟩ := preResetFlush_eq n s
    rw [hl]
    exact ⟨rfl, rfl, rfl, rfl, rfl, rfl, rfl⟩
  · intro n s hp
    exact congrArg Host.Outcome.next (if_neg (by simp [hp]))
  · intro s hc ht
    exact congrArg Host.Outcome.next (if_neg (by simp [hc, ht]))
  · intro s h
    exact congrArg Host.Outcome.next (if_pos (by simpa using h))
  · intro r s hc hp hst ho
    refine ⟨otpSensingDone r s, congrArg Host.Outcome.next (if_pos (by simp [atStage, hc, hp, hst, ho])), ?_⟩
    rw [otpSensingDone_did]
    exact ⟨otpSensingDone_otp r s, rfl, rfl⟩
  · intro r s ho
    exact congrArg Host.Outcome.next (if_neg (by simp [ho]))

end Sys2Proof.Machine
end

section
/-!
PROOFS. The page window, the settings partition, and blocks of the flash that fail.
-/

namespace Sys2Proof.Machine

/-! ## The page window (R403) -/

@[simp] theorem onPage_warden (f : PageBank → PageBank) (s : State) :
    onPage .w f s = { s with nvc := { s.nvc with pgW := f s.nvc.pgW } } := rfl

@[simp] theorem onPage_policy (f : PageBank → PageBank) (s : State) :
    onPage .p f s = { s with nvc := { s.nvc with pgP := f s.nvc.pgP } } := rfl

/-- A requester of another bank has no page window. -/
theorem writePgsel_other {k : Bank} (w : Word) (s : State) (hp : k ≠ .p) (hw : k ≠ .w) : writePgsel k w s = s := by
  cases k with
  | p => cases hp rfl
  | w => cases hw rfl
  | _ => rfl

/-- The Policy Core reads the LOG partition only. -/
theorem writePgsel_policy (w : Word) (s : State) : writePgsel .p w s =
    if (({} : NvcPgsel).put w).part = 7 then { s with nvc := { s.nvc with pgP := { sel := ({} : NvcPgsel).put w } } }
    else s := by
  simp [writePgsel]

/-- The page of a core's bank is shown, with its uncorrectable sectors, and its sectors are counted (R380). -/
def pageShown (k : Bank) (ws : List Word) (bad corr : BitVec 4) (s : State) : State :=
  sectorsRead (sectorCount corr) (sectorCount bad)
    (onPage k (fun x => { sel := { x.sel with ready := true }, win := ws, bad := bad }) s)

/-- A page that is good, or whose partition retires no block (LOG among them), is shown and counted. -/
theorem pageReady_shown {k : Bank} {bad : BitVec 4} {s : State} (ws : List Word) (corr : BitVec 4)
    (h : bad = 0 ∨ 5 < (pageSel k s).part.toNat) : pageReady k ws bad corr s = pageShown k ws bad corr s := by
  refine if_neg ?_
  rcases h with h | h
  · simp [h]
  · simp [Nat.not_le.2 h]

/-- An uncorrectable sector of BOOT, a bank, CONFIG or SETTINGS retires its block too (R382). -/
theorem pageReady_retires {k : Bank} {bad : BitVec 4} {s : State} (ws : List Word) (corr : BitVec 4) (hb : bad ≠ 0)
    (h1 : 1 ≤ (pageSel k s).part.toNat) (h5 : (pageSel k s).part.toNat ≤ 5) : pageReady k ws bad corr s =
    retireBlock (pageSel k s).part.toNat (512 < (pageSel k s).page.toNat) (pageShown k ws bad corr s) :=
  if_pos (by simpa [h1, h5] using hb)

theorem pageShown_raised {k : Bank} {bad : BitVec 4} (ws : List Word) (corr : BitVec 4) (s : State) (hb : bad ≠ 0) :
    (pageShown k ws bad corr s).eva.raised 217 = true := sectorsRead_raised _ _ _ (sectorCount_ne bad hb)

/-! ## The settings ring (R400, R401, R383) -/

/-- The number that the next entry takes. -/
def nextSeq (s : State) : Word := match s.nand.settings.find? (·.good) with | some e => e.seq + 1 | none => 0

/-- The waiting entry is written where no block fails and no write count is a new maximum. -/
theorem exec_settingsWrite_clean {o : FlashOp} {s : State} (hp : s.nvc.setstat.pend = true) (hf : s.sup.pfw = false)
    (hw : wardenRuns s = true) (hn : 2 ≤ s.nand.setN) (ho : o.fails = false) (hm : o.wear.toNat ≤ s.nvc.wear.maxw.toNat) :
    exec (.settingsWrite o) s = .next { s with
      nvc := { s.nvc with setstat := { s.nvc.setstat with pend := false } }
      nand := { s.nand with settings :=
        { fmt := settingsFmt s, seq := nextSeq s, cfgId := s.nvc.cfgId, items := changedItems s } :: s.nand.settings } } := by
  refine congrArg Host.Outcome.next ((if_pos (by simp [hp, hf, hw, hn])).trans ?_)
  rw [settingsWrite, flashOp_clean 5 false o s ho hm]
  simp only [putSettings, if_neg (Nat.not_lt.2 hn)]
  rfl

/-- A ring of 2 blocks that loses one takes no entry, which goes on waiting. -/
theorem settingsWrite_full {o : FlashOp} {s : State} (hn : s.nand.setN = 2) (hr : s.nand.free = 0) (hl : s.nand.logN ≤ 64)
    (ho : o.fails = true) : settingsWrite o s = retireBlock 5 false (noteWear o.wear s) ∧
      (retireBlock 5 false (noteWear o.wear s)).nand = { s.nand with setN := 1 } := by
  have hnand : (retireBlock 5 false (noteWear o.wear s)).nand = { s.nand with setN := 1 } := by
    simp [retireBlock_nand, hr, Nat.not_lt.2 hl, Nand.leftOut, hn]
  refine ⟨?_, hnand⟩
  rw [settingsWrite, flashOp, if_pos ho]
  exact if_pos (by rw [hnand]; exact Nat.one_lt_two)

/-! ## The boot from a flash with failing blocks (R80, R382) -/

/-- The first bank that fails sends the ROM to the other one, which only the identity block tells of. -/
theorem bankFailed_same {α : Type} (g : State → α) (hg : ∀ f s, g (onDid f s) = g s) {s : State}
    (h : s.did.secondBank = false) : g (bankFailed s) = g s := by
  simp [bankFailed, setStage, h, hg]

theorem exec_wardenFirmwareVerified_due (f : FlashInfo) (readOk : Bool) {s : State} (hc : s.did.cond = .boot)
    (hp : s.did.preReset = false) (hst : s.did.boot.stage = 3) :
    exec (.wardenFirmwareVerified f readOk) s = .next (wardenFirmware f readOk s) :=
  congrArg Host.Outcome.next (if_pos (by simp [atStage, hc, hp, hst]))

/-- With neither copy of the partition table no bank can be read. -/
theorem wardenFirmware_ptBad {f : FlashInfo} (readOk : Bool) (s : State) (hsz : f.size ≠ 0) (hpt : f.ptBad = true) :
    wardenFirmware f readOk s = enterRecovery 3 (flashFound f s) := by
  rw [wardenFirmware, if_neg hsz]
  exact if_pos hpt

/-- A bank that the flash cannot read is given up, its block retired. -/
theorem wardenFirmware_unread {f : FlashInfo} (s : State) (hsz : f.size ≠ 0) (hpt : f.ptBad = false) :
    wardenFirmware f false s = bankFailed (bankUnread (romBank (flashFound f s)) (flashFound f s)) := by
  rw [wardenFirmware, if_neg hsz]
  exact if_neg (by simp [hpt])

/-- Settles O57. -/
theorem pagesAndSettings : Obligations.PagesAndSettings := by
  refine ⟨fun _ _ => rfl, ?_, ?_, ?_, ?_, ?_, ?_, ?_, ?_, ?_, ?_, ?_, ?_⟩
  · intro w s
    exact congrArg Host.Outcome.next (writePgsel_policy w s)
  · intro q w s hp hw
    exact congrArg Host.Outcome.next (writePgsel_other w s hp hw)
  · intro ws corr s
    refine congrArg Host.Outcome.next ((pageReady_shown ws corr (.inl rfl)).trans ?_)
    simp [pageShown, sectorsRead, sectorCount, onNvc]
  · intro ws bad corr s hb hpart
    refine ⟨_, congrArg Host.Outcome.next (pageReady_shown ws corr (.inr (by simp [pageSel, hpart]))), ?_⟩
    refine ⟨?_, ?_, ?_, pageShown_raised ws corr s hb, ?_⟩
    all_goals simp [pageShown, sectorsRead_nvc, sectorCount]
  · intro ws bad corr s hb hpart hfree
    have hk : (pageSel .w s).part = 2 := hpart
    refine ⟨_, congrArg Host.Outcome.next (pageReady_retires ws corr hb (by simp [hk]) (by simp [hk])), ?_⟩
    refine ⟨?_, ?_, ?_, retireBlock_keeps _ _ (pageShown_raised ws corr s hb)⟩
    · simp [retireBlock_nand, pageShown, hfree]
    all_goals simp [retireBlock_err, pageShown, sectorsRead_err, sectorCount]
  · intro ws bad corr s hb hpart hfree hlog
    have hk : (pageSel .w s).part = 3 := hpart
    refine ⟨_, congrArg Host.Outcome.next (pageReady_retires ws corr hb (by simp [hk]) (by simp [hk])), ?_⟩
    refine ⟨?_, ?_, retireBlock_left_raised _ _ _ ?_⟩
    · simp [retireBlock_nand, pageShown, hfree, Nat.not_lt.2 hlog, hk, Nand.leftOut]
    · simp [retireBlock_err, pageShown, sectorsRead_err]
    · simp [irreplaceable, pageShown, hfree, hlog]
  · intro o s hp hf hw hnone hn ho hm
    rw [exec_settingsWrite_clean hp hf hw hn ho hm, nextSeq, hnone]
  · intro o ent s hp hf hw hsome hn ho hm
    rw [exec_settingsWrite_clean hp hf hw hn ho hm, nextSeq, hsome]
  · intro o s hp hf hw hn hr hl ho
    refine ⟨settingsWrite o s, congrArg Host.Outcome.next (if_pos (by simp [hp, hf, hw, hn])), ?_⟩
    obtain ⟨heq, hnand⟩ := settingsWrite_full hn hr hl ho
    rw [heq]
    refine ⟨by rw [retireBlock_nvc, noteWear_nvc], hnand, retireBlock_left_raised _ _ _ ?_⟩
    simp [irreplaceable, hr, hl]
  · intro o s h
    refine congrArg Host.Outcome.next (if_neg ?_)
    rcases h with h | h | h | h <;> simp [h]
  · intro f readOk s hc hp hst hsz hpt
    refine ⟨_, exec_wardenFirmwareVerified_due f readOk hc hp hst, ?_⟩
    rw [wardenFirmware_ptBad readOk s hsz hpt]
    exact ⟨rfl, rfl, rfl, rfl⟩
  · intro f s hc hp hst hsz hpt hfree hsec
    refine ⟨_, exec_wardenFirmwareVerified_due f false hc hp hst, ?_⟩
    rw [wardenFirmware_unread s hsz hpt]
    have hs : (bankUnread (romBank (flashFound f s)) (flashFound f s)).did.secondBank = false := by
      simp [bankUnread, flashFound, hsec]
    rw [bankFailed_same State.nvc (by simp) hs, bankFailed_same State.nand (by simp) hs,
      bankFailed_same State.eva (by simp) hs]
    refine ⟨?_, ?_, retireBlock_keeps _ _ (sectorsRead_raised _ _ _ (by decide)), ?_⟩
    · simp [bankUnread, retireBlock_err, sectorsRead_err, flashFound, satAdd_one]
    · simp [bankUnread, retireBlock_nand, flashFound, hfree]
    · simp [bankUnread, retireBlock_nvc, sectorsRead_nvc, flashFound]

end Sys2Proof.Machine
end

section
/-!
PROOFS. Attaching as a Source and as a Sink, and the states a port moves through before it.
-/

namespace Sys2Proof.Machine

/-! ## Starting the converter leaves the attach block and the roles alone -/

theorem selfCheck_att (p : Port) (s : State) : ((selfCheck p s).slice p).att = (s.slice p).att := by
  simp [selfCheck, apply_ite (State.slice · p), apply_ite Slice.att]
theorem selfCheck_sw (p : Port) (s : State) : ((selfCheck p s).slice p).sw = (s.slice p).sw := by
  simp [selfCheck, apply_ite (State.slice · p), apply_ite Slice.sw]

theorem startConv_att (p : Port) (s : State) : ((startConv p s).slice p).att = (s.slice p).att := by
  simp [startConv, apply_ite (State.slice · p), apply_ite Slice.att, selfCheck_att]
theorem startConv_sw (p : Port) (s : State) : ((startConv p s).slice p).sw = (s.slice p).sw := by
  simp [startConv, apply_ite (State.slice · p), apply_ite Slice.sw, selfCheck_sw]

/-- The start of power changes nothing of the attach block but `NOPWR`. -/
theorem startPower_att (p : Port) (s : State) : ∃ b, ((startPower p s).slice p).att =
    { (s.slice p).att with attstat := { (s.slice p).att.attstat with nopwr := b } } := by
  unfold startPower
  dsimp only
  split
  · exact ⟨true, by simp⟩
  · refine ⟨(s.slice p).att.attstat.nopwr, ?_⟩
    simp only [apply_ite (State.slice · p), apply_ite Slice.att, slice_onPs, startConv_att, ite_self]

theorem startPower_sw (p : Port) (s : State) : ((startPower p s).slice p).sw = (s.slice p).sw := by
  simp [startPower, apply_ite (State.slice · p), apply_ite Slice.sw, startConv_sw]

theorem frsCheck_att (p : Port) (s : State) : ((frsCheck p s).slice p).att = (s.slice p).att := by
  simp [frsCheck, startSwapConv, apply_ite (State.slice · p), apply_ite Slice.att, startConv_att]

/-- Arming for a Fast Role Swap leaves the roles as they are. -/
theorem frsCheck_swstat (p : Port) (s : State) : ∃ b, ((frsCheck p s).slice p).sw.swstat =
    { (s.slice p).sw.swstat with frsArmed := b } := by
  unfold frsCheck
  dsimp only
  split
  · exact ⟨_, rfl⟩
  split
  · split
    · exact ⟨_, rfl⟩
    · exact ⟨true, by simp [startSwapConv, startConv_sw]⟩
  · split
    · exact ⟨false, by simp⟩
    · exact ⟨_, rfl⟩

/-! ## Classification of a sample (R95 to R97) -/

/-- A sample as a Source, on a port that carries no VCONN (Table 5.2). -/
theorem sample_source {a : SliceAtt} (m1 m2 : Nat) (hs : presentsRp a.attstat.state = true) (hv : a.attstat.vconnOn = false) :
    a.sample (some m1) (some m2) = { a with
      ccmeas := { cc1 := satField 12 (m1 / 2), cc2 := satField 12 (m2 / 2) }
      c1 := ccClass a.attstat.rpNow m1, c2 := ccClass a.attstat.rpNow m2 } := by
  simp [SliceAtt.sample, hs, hv]

/-- An invalid sample keeps the measurement and the classes. -/
theorem sample_invalid (a : SliceAtt) : a.sample none none = a := rfl

/-- The attach block with the VCONN current and voltage of a sample. -/
def SliceAtt.vconnSample (iv vv : Nat) (a : SliceAtt) : SliceAtt :=
  { a with vconn := { ivc := satField 10 iv, vvcIn := satField 8 (vv / 25) } }

/-- Rp on both balls of an attached Source is an error (R115). -/
theorem ccSample_rpBoth (p : Port) (cc1 cc2 : Option Nat) (iv vv : Nat) {s : State}
    (h : (s.slice p).att.attstat.state = 3 ∨ (s.slice p).att.attstat.state = 12) :
    ccSample p cc1 cc2 true iv vv s = errorRecovery p (onAtt p (SliceAtt.vconnSample iv vv) s) :=
  if_pos (by simpa using h)

/-- In the other states a sample is classified, and moves the port. -/
theorem ccSample_moves (p : Port) (cc1 cc2 : Option Nat) (both : Bool) (iv vv : Nat) {s : State}
    (h3 : (s.slice p).att.attstat.state ≠ 3#4) (h12 : (s.slice p).att.attstat.state ≠ 12#4) :
    ∃ c t, ccSample p cc1 cc2 both iv vv s = ccMoves p c t ∧
      (t.slice p).att = ((s.slice p).att.vconnSample iv vv).sample cc1 cc2 := by
  unfold ccSample
  dsimp only
  rw [if_neg (by simp [h3, h12])]
  exact ⟨_, _, rfl, by simp [SliceAtt.vconnSample]⟩

/-- Rd moves Unattached.SRC to AttachWait.SRC (Table 5.4); what the sample has measured stays. -/
theorem ccMoves_unattachedSrc (p : Port) (c : Bool) {s : State} (h : (s.slice p).att.attstat.state = 1) :
    ((ccMoves p c s).slice p).att.c1 = (s.slice p).att.c1 ∧ ((ccMoves p c s).slice p).att.c2 = (s.slice p).att.c2 ∧
    ((ccMoves p c s).slice p).att.ccmeas = (s.slice p).att.ccmeas ∧
    ((ccMoves p c s).slice p).att.vconn = (s.slice p).att.vconn ∧
    ((ccMoves p c s).slice p).att.attstat.state =
      if (s.slice p).att.c1 = .rd ∨ (s.slice p).att.c2 = .rd then 2 else 1 := by
  unfold ccMoves
  dsimp only
  rw [if_pos h]
  by_cases hr : (s.slice p).att.c1 = .rd ∨ (s.slice p).att.c2 = .rd
  · rw [if_pos (by simpa [SliceAtt.rdSeen] using hr), if_pos hr, slice_onSlice]
    exact ⟨rfl, rfl, rfl, rfl, rfl⟩
  · rw [if_neg (by simpa [SliceAtt.rdSeen] using hr), if_neg hr]
    split
    · rw [slice_onAtt]
      exact ⟨rfl, rfl, rfl, rfl, h⟩
    · exact ⟨rfl, rfl, rfl, rfl, h⟩

/-- Without Rd AttachWait.SRC goes back to the unattached state. -/
theorem ccMoves_attachWaitSrc (p : Port) (c : Bool) {s : State} (h : (s.slice p).att.attstat.state = 2)
    (h1 : (s.slice p).att.c1 ≠ .rd) (h2 : (s.slice p).att.c2 ≠ .rd) : ccMoves p c s = onSlice p Slice.unattached s := by
  simp [ccMoves, SliceAtt.rdSeen, h, h1, h2]

/-! ## Attached.SRC (Table 5.7, R100, R101) -/

/-- The port is attached as a Source, with its orientation and partner, its roles and event 8n. -/
structure AttachedSrc (p : Port) (orient : Bool) (partner : BitVec 3) (s : State) : Prop where
  state : (s.slice p).att.attstat.state = 3
  orient : (s.slice p).att.attstat.orient = orient
  partner : (s.slice p).att.attstat.partner = partner
  foreign : (s.slice p).att.attstat.foreign = false
  prole : (s.slice p).sw.swstat.prole = false
  drole : (s.slice p).sw.swstat.drole = false
  raised : s.eva.raised (8 * p.val) = true

theorem startPower_attachedSrc {p : Port} {o : Bool} {k : BitVec 3} {s : State} (h : AttachedSrc p o k s) :
    AttachedSrc p o k (startPower p s) := by
  obtain ⟨hst, ho, hk, hf, hp, hd, he⟩ := h
  obtain ⟨b, hatt⟩ := startPower_att p s
  have hsw := startPower_sw p s
  constructor <;> simp only [hatt, hsw, hst, ho, hk, hf, hp, hd, startPower_keeps p he]

/-- The ball that shows Rd gives the orientation; Ra on the other one tells of a cable. -/
theorem attachSource_attachedSrc (p : Port) {s : State} (h : (s.slice p).att.c1 ≠ .rd ∨ (s.slice p).att.c2 ≠ .rd) :
    AttachedSrc p (decide ((s.slice p).att.c1 ≠ .rd))
      (if (s.slice p).att.c1 = .ra ∨ (s.slice p).att.c2 = .ra then 2 else 1) (attachSource p s) := by
  unfold attachSource
  dsimp only
  have hb : ¬(decide ((s.slice p).att.c1 = .rd) && decide ((s.slice p).att.c2 = .rd)) = true := by
    simpa [or_iff_not_imp_left] using h
  rw [if_neg hb]
  apply startPower_attachedSrc
  by_cases hc : (s.slice p).att.c1 = .ra ∨ (s.slice p).att.c2 = .ra
  · constructor <;> simp [hc]
  · constructor <;> simp [hc]

/-- Above vSafe0V the end of the debounce waits (R101). -/
theorem attachWaitDone_waits (p : Port) {s : State} (h : (s.slice p).att.attstat.vbusSafe0 = false) :
    attachWaitDone p s = onAtt p (fun a => { a with rpHeld := true }) s := if_pos (by simp [h])

/-- At vSafe0V a port that is no dual-role port attaches. -/
theorem attachWaitDone_attaches (p : Port) {s : State} (hv : (s.slice p).att.attstat.vbusSafe0 = true)
    (hr : (s.slice p).att.attcfg.role ≠ 2#2) : attachWaitDone p s = attachSource p s :=
  (if_neg (by simp [hv])).trans (if_neg (by simp [hr]))

/-! ## The ends of the debounces -/

/-- Rd that has held ends step 2 of Table 5.7 (R100). -/
theorem ccDebounced_attachWaitSrc (p : Port) {s : State} (h : (s.slice p).att.attstat.state = 2)
    (hr : (s.slice p).att.rdSeen = true) : ccDebounced p s = attachWaitDone p s := by
  simp [ccDebounced, h, hr]

/-- Ra on both balls is an audio accessory (R113). -/
theorem ccDebounced_audio (p : Port) {s : State} (h : (s.slice p).att.attstat.state = 1)
    (h1 : (s.slice p).att.c1 = .ra) (h2 : (s.slice p).att.c2 = .ra) :
    ((ccDebounced p s).slice p).att.attstat.state = 11 ∧ ((ccDebounced p s).slice p).att.attstat.partner = 4 := by
  simp [ccDebounced, h, h1, h2]

/-- Without Try.SRC the debounce of AttachWait.SNK leads on to Attached.SNK (R110). -/
theorem ccDebounced_attachWaitSnk (p : Port) {s : State} (h : (s.slice p).att.attstat.state = 5)
    (hrp : rpSeenOf (s.slice p).att ≠ 0#2) (ht : (s.slice p).att.attcfg.trySel ≠ 1#2) : ccDebounced p s = sinkHeld p s := by
  simp [ccDebounced, h, hrp, ht]

/-! ## Attached.SNK (R110) -/

/-- With no Rp on CC2 the level seen is that of CC1. -/
theorem rpSeenOf_of_rp2 {a : SliceAtt} (h : a.rp2 = 0) : rpSeenOf a = a.rp1 := by simp [rpSeenOf, h]

/-- With VBUS present the end of a debounce attaches, but for Try.SNK within tDRPTry. -/
theorem sinkHeld_attaches (p : Port) {s : State} (hv : (s.slice p).att.attstat.vbusPres = true)
    (h9 : (s.slice p).att.attstat.state ≠ 9#4) : sinkHeld p s = attachSink p s := if_pos (by simp [hv, h9])

/-- The port is attached as a Sink, with its orientation, its partner's Rp and its roles. -/
structure AttachedSnk (p : Port) (orient : Bool) (rp : BitVec 2) (s : State) : Prop where
  state : (s.slice p).att.attstat.state = 6
  orient : (s.slice p).att.attstat.orient = orient
  partner : (s.slice p).att.attstat.partner = 6
  rpSeen : (s.slice p).att.attstat.rpSeen = rp
  prole : (s.slice p).sw.swstat.prole = true
  drole : (s.slice p).sw.swstat.drole = true

theorem frsCheck_attachedSnk {p : Port} {o : Bool} {rp : BitVec 2} {s : State} (h : AttachedSnk p o rp s) :
    AttachedSnk p o rp (frsCheck p s) := by
  obtain ⟨hst, ho, hk, hr, hp, hd⟩ := h
  obtain ⟨b, hsw⟩ := frsCheck_swstat p s
  constructor <;> simp only [frsCheck_att, hsw, hst, ho, hk, hr, hp, hd]

/-- The ball that shows Rp gives the orientation. -/
theorem attachSink_attachedSnk (p : Port) {s : State} (h : (s.slice p).att.rp1 = 0 ∨ (s.slice p).att.rp2 = 0) :
    AttachedSnk p (decide ((s.slice p).att.rp1 = 0)) (rpSeenOf (s.slice p).att) (attachSink p s) := by
  unfold attachSink
  dsimp only
  rw [if_neg (by simpa [or_iff_not_imp_left] using h)]
  apply frsCheck_attachedSnk
  constructor <;> simp

/-! ## VBUS (R97) -/

/-- VBUS at `mv` in the attach block, with the levels it is classified by. -/
def SliceAtt.vbusAt (mv : Nat) (a : SliceAtt) : SliceAtt :=
  { a with vbusMv := mv, attstat := { a.attstat with vbusPres := 4000 ≤ mv, vbusSafe0 := mv ≤ 800 } }

/-- Where nothing waits for a level and VBUS is not at vSafe5V (log 28), VBUS is classified and the sink follows it. -/
theorem vbusLevel_classifies (p : Port) (mv : Nat) {s : State} (hh : (s.slice p).att.rpHeld = false)
    (hstep : (s.slice p).sw.step = .idle) (hidle : (s.slice p).pd.hrPhase = .idle) (h5 : ¬(4750 ≤ mv ∧ mv ≤ 5500)) :
    vbusLevel p mv s = onSlice p (fun x => { x with att := x.att.vbusAt mv }.sink) s := by
  simp [vbusLevel, SliceAtt.vbusAt, hh, hstep, hidle, prGate, frsOldGate, Slice.frsSource, h5]

/-! ## The commands -/

/-- Settles O23: each clause is one command, whose lemma above says what it does to the attach block; the phases that the
Policy Core spreads afterwards touch none of it (R172). -/
theorem sourceAttach : Obligations.SourceAttach := by
  unfold Obligations.SourceAttach
  refine ⟨?_, ?_, ?_, ?_, ?_, ?_, ?_, ?_⟩
  · intro p m1 m2 iv vv both s hrel h1 hv
    obtain ⟨c, t, heq, hatt⟩ := ccSample_moves p (some m1) (some m2) both iv vv (s := s) (by simp [h1]) (by simp [h1])
    have hs : presentsRp (s.slice p).att.attstat.state = true := by rw [h1]; rfl
    rw [sample_source (a := (s.slice p).att.vconnSample iv vv) m1 m2 hs hv] at hatt
    obtain ⟨hc1, hc2, hm, hvc, hst⟩ := ccMoves_unattachedSrc p c (s := t) (by rw [hatt]; exact h1)
    refine ⟨_, rfl, ?_⟩
    rw [whenReleased_att_of _ _ _ hrel, heq, hc1, hc2, hm, hvc, hst, hatt]
    exact ⟨rfl, rfl, rfl, rfl, rfl⟩
  · intro p both iv vv s hrel h2 h1n h2n
    obtain ⟨c, t, heq, hatt⟩ := ccSample_moves p none none both iv vv (s := s) (by simp [h2]) (by simp [h2])
    rw [sample_invalid] at hatt
    refine ⟨_, rfl, ?_⟩
    rw [whenReleased_att_of _ _ _ hrel, heq, ccMoves_attachWaitSrc p c (by rw [hatt]; exact h2) (by rw [hatt]; exact h1n)
      (by rw [hatt]; exact h2n)]
    simp [hatt, SliceAtt.vconnSample]
  · intro p cc1 cc2 iv vv s hrel h
    refine ⟨_, rfl, ?_⟩
    simp [hrel, ccSample_rpBoth p cc1 cc2 iv vv h]
  · intro p s hrel h2 h1 _ _ hv
    refine ⟨_, rfl, ?_⟩
    rw [whenReleased_att_of _ _ _ hrel, ccDebounced_attachWaitSrc p h2 (by simp [SliceAtt.rdSeen, h1]),
      attachWaitDone_waits p hv, slice_onAtt]
  · intro p s hrel h2 h1 hc2 hrole hv
    have ha := attachSource_attachedSrc p (s := s) (.inr (by simp [hc2]))
    have heq : ccDebounced p s = attachSource p s :=
      (ccDebounced_attachWaitSrc p h2 (by simp [SliceAtt.rdSeen, h1])).trans (attachWaitDone_attaches p hv (by simp [hrole]))
    refine ⟨_, rfl, ?_⟩
    rw [whenReleased_att_of _ _ _ hrel, whenReleased_sw_of _ _ _ hrel, whenReleased_eva _ _ hrel, heq]
    refine ⟨ha.state, ?_, ?_, ha.prole, ha.drole, ha.raised⟩
    · simp [ha.orient, h1]
    · simp [ha.partner, h1, hc2]
  · intro p s hrel h1 ha1 ha2
    refine ⟨_, rfl, ?_⟩
    rw [whenReleased_att_of _ _ _ hrel]
    exact ccDebounced_audio p h1 ha1 ha2
  · intro p s hrel h2 h1 hc2 hrole hh hv
    have ha := attachSource_attachedSrc p (s := s) (.inl (by simp [h1]))
    refine ⟨_, rfl, ?_⟩
    rw [whenReleased_att_of _ _ _ hrel, whenReleased_eva _ _ hrel, if_pos (by simp [h2, hv, hh]),
      attachWaitDone_attaches p hv (by simp [hrole])]
    refine ⟨ha.state, ?_, ha.foreign, ha.raised⟩
    simp [ha.orient, h1]
  · intro p s hrel h2 hv
    refine ⟨_, rfl, ?_⟩
    simp [hrel, h2, hv]

/-- Settles O24: a move of Table 5.4 is one `Slice.enter`; an attach, and VBUS that is only classified, go by the lemmas
above. Where its condition does not hold a command changes nothing (log 3). -/
theorem sinkAttach : Obligations.SinkAttach := by
  unfold Obligations.SinkAttach
  refine ⟨?_, ?_, ?_, ?_, ?_, ?_, ?_, ?_, ?_, ?_, ?_, ?_⟩
  · intro p s hrel hrole h1
    refine ⟨_, rfl, ?_⟩
    simp [hrel, hrole, h1]
  · intro p s hrel hrole h4 ha
    refine ⟨_, rfl, ?_⟩
    simp [hrel, hrole, h4, ha, presentsRp]
  · intro p s hrole h4 ha
    refine congrArg Host.Outcome.next (whenReleased_same _ s ?_)
    simp [hrole, h4, ha]
  · intro p s hrole
    exact congrArg Host.Outcome.next (whenReleased_same _ s (if_pos hrole))
  · intro p s hrel h7
    refine ⟨_, rfl, ?_⟩
    simp [hrel, h7, presentsRp, presentsRd]
  · intro p s hrel h9 hh
    refine ⟨_, rfl, ?_⟩
    simp [hrel, h9, hh]
  · intro p s hrel h9
    refine ⟨_, rfl, ?_⟩
    simp [hrel, h9, presentsRp]
  · intro p s h9
    exact congrArg Host.Outcome.next (whenReleased_same _ s (if_neg h9))
  · intro p s hrel h5 h1 h2 ht hv
    have ha := attachSink_attachedSnk p (s := s) (.inr h2)
    have hrp := rpSeenOf_of_rp2 h2
    have heq : ccDebounced p s = attachSink p s :=
      (ccDebounced_attachWaitSnk p h5 (hrp ▸ h1) ht).trans (sinkHeld_attaches p hv (by simp [h5]))
    refine ⟨_, rfl, ?_⟩
    rw [whenReleased_att_of _ _ _ hrel, whenReleased_sw_of _ _ _ hrel, heq]
    exact ⟨ha.state, ha.partner, ha.orient.trans (decide_eq_false h1), ha.rpSeen.trans hrp, ha.prole, ha.drole⟩
  · intro p s hrel h6 hi hs
    refine ⟨_, rfl, ?_⟩
    simp [hrel, h6, vbusExempt, hi, hs]
  · intro p s h6 hs
    refine congrArg Host.Outcome.next (whenReleased_same _ s ?_)
    simp [h6, vbusExempt, hs]
  · intro p mv s hrel hh hs hi hmv
    refine ⟨_, rfl, ?_⟩
    rw [whenReleased_att_of _ _ _ hrel, vbusLevel_classifies p mv hh hs hi (by omega), slice_onSlice, sink_att]
    rfl

end Sys2Proof.Machine
end

section
/-!
PROOFS. Rules of the message engine's shared operations: what a queued message, an advertisement and the line leave alone,
and what they bring about.
-/

namespace Sys2Proof.Machine

/-! ## Contexts that carry a message (R118, R124) -/

theorem not_silent_of_sopActive {x : Slice} (h : sopActive x = true) : x.pd.pdstat.pdSilent = false := by
  cases hs : x.pd.pdstat.pdSilent with
  | false => rfl
  | true => simp [sopActive, hs] at h

/-- An active SOP carries every message, unless its revision bars it. -/
theorem carries_sop {x : Slice} {m : TxMsg} (hc : m.ctx = .sop) (ha : sopActive x = true)
    (hr : rev2 x .sop = false ∨ rev3Only m.kind = false) : carries x m = true := by
  have hk : (rev2 x .sop && rev3Only m.kind) = false := by obtain h | h := hr <;> simp [h]
  simp [carries, hc, ctxActive, ha, hk, not_silent_of_sopActive ha]

theorem not_carries_of_rev2 {x : Slice} {m : TxMsg} (hr : rev2 x m.ctx = true) (hk : rev3Only m.kind = true) :
    carries x m = false := by
  simp [carries, hr, hk]

/-- Ports 2 to 23 ask for no swap (R191). -/
theorem trySwaps_of_two_le {p : Port} (h : 2 ≤ p.val) (s : State) : trySwaps p s = s := by
  simp [trySwaps, h]

/-! ## The line (R117) -/

theorem transmit_of_ready_nil {x : Slice} (h : x.pd.ready = []) : x.transmit = x := by
  simp [Slice.transmit, pickTx, h]

/-- With nothing ready, letting the port send changes no more than the Rp level and `AMS`. -/
theorem pump_of_ready_nil {x : Slice} (h : x.pd.ready = []) : x.pump = x.refresh.refresh := by
  rw [Slice.pump, transmit_of_ready_nil (x := x.refresh) h]

theorem pump_inflight_of_ready_nil {x : Slice} (h : x.pd.ready = []) : x.pump.pd.inflight = x.pd.inflight := by
  rw [pump_of_ready_nil h]; rfl

theorem pump_inflight_busy {x : Slice} (h : x.pd.inflight.isSome = true) : x.pump.pd.inflight = x.pd.inflight := by
  rw [pump_busy x h]; rfl

theorem pump_mb_of_ready_nil {x : Slice} (h : x.pd.ready = []) : x.pump.mb = x.mb := by
  rw [pump_of_ready_nil h]; rfl

theorem pump_ready_of_ready_nil {x : Slice} (h : x.pd.ready = []) : x.pump.pd.ready = [] := by
  rw [pump_of_ready_nil h]; exact h

theorem endPartner_partnerAms (x : Slice) : x.endPartner.pd.partnerAms = false := pump_pd_partnerAms _

/-- With nothing ready and nothing to start again, the end of the partner's AMS sends nothing. -/
theorem endPartner_of_nothing_ready {x : Slice} (hr : x.pd.ready = []) (hs : x.pd.restart = []) :
    x.endPartner.pd.inflight = x.pd.inflight ∧ x.endPartner.pd.ready = [] := by
  have hq : x.pd.ready ++ x.pd.restart = [] := by simp [hr, hs]
  exact ⟨pump_inflight_of_ready_nil hq, pump_ready_of_ready_nil hq⟩

/-- What neither the queue nor the line shows, a queued message leaves alone. -/
theorem queueMsg_same {α : Type} (g : Slice → α) (hready : ∀ x l, g { x with pd := { x.pd with ready := l } } = g x)
    (hpump : ∀ x : Slice, g x.pump = g x) (p : Port) (m : TxMsg) (s : State) :
    g ((queueMsg p m s).slice p) = g (s.slice p) := by
  rw [queueMsg_slice]; split
  · rw [hpump, hready]
  · rfl

section
variable (p : Port) (m : TxMsg) (s : State)

@[simp] theorem queueMsg_th : ((queueMsg p m s).slice p).th = (s.slice p).th :=
  queueMsg_same Slice.th (fun _ _ => rfl) pump_th p m s
@[simp] theorem queueMsg_sw : ((queueMsg p m s).slice p).sw = (s.slice p).sw :=
  queueMsg_same Slice.sw (fun _ _ => rfl) pump_sw p m s
@[simp] theorem queueMsg_txId : ((queueMsg p m s).slice p).pd.txId = (s.slice p).pd.txId :=
  queueMsg_same (·.pd.txId) (fun _ _ => rfl) pump_pd_txId p m s
@[simp] theorem queueMsg_rxId : ((queueMsg p m s).slice p).pd.rxId = (s.slice p).pd.rxId :=
  queueMsg_same (·.pd.rxId) (fun _ _ => rfl) pump_pd_rxId p m s
@[simp] theorem queueMsg_rxBuf : ((queueMsg p m s).slice p).pd.rxBuf = (s.slice p).pd.rxBuf :=
  queueMsg_same (·.pd.rxBuf) (fun _ _ => rfl) pump_pd_rxBuf p m s
@[simp] theorem queueMsg_pdcnt : ((queueMsg p m s).slice p).pd.pdcnt = (s.slice p).pd.pdcnt :=
  queueMsg_same (·.pd.pdcnt) (fun _ _ => rfl) pump_pd_pdcnt p m s
@[simp] theorem queueMsg_waitReply : ((queueMsg p m s).slice p).pd.waitReply = (s.slice p).pd.waitReply :=
  queueMsg_same (·.pd.waitReply) (fun _ _ => rfl) pump_pd_waitReply p m s
@[simp] theorem queueMsg_busyCount : ((queueMsg p m s).slice p).pd.busyCount = (s.slice p).pd.busyCount :=
  queueMsg_same (·.pd.busyCount) (fun _ _ => rfl) pump_pd_busyCount p m s
@[simp] theorem queueMsg_cblStat : ((queueMsg p m s).slice p).pd.cblStat = (s.slice p).pd.cblStat :=
  queueMsg_same (·.pd.cblStat) (fun _ _ => rfl) pump_pd_cblStat p m s
@[simp] theorem queueMsg_discovering : ((queueMsg p m s).slice p).pd.discovering = (s.slice p).pd.discovering :=
  queueMsg_same (·.pd.discovering) (fun _ _ => rfl) pump_pd_discovering p m s
@[simp] theorem queueMsg_late : ((queueMsg p m s).slice p).mb.late = (s.slice p).mb.late :=
  queueMsg_same (·.mb.late) (fun _ _ => rfl) pump_mb_late p m s
@[simp] theorem queueMsg_hostOwes : ((queueMsg p m s).slice p).mb.hostOwes = (s.slice p).mb.hostOwes :=
  queueMsg_same (·.mb.hostOwes) (fun _ _ => rfl) pump_mb_hostOwes p m s

end

/-- A message that the port does not carry is not sent. -/
theorem queueMsg_of_not_carries {p : Port} {m : TxMsg} {s : State} (h : carries (s.slice p) m = false) :
    (queueMsg p m s).slice p = s.slice p := by
  rw [queueMsg_slice, h, if_neg Bool.false_ne_true]

/-- On an idle line a frame that starts no AMS goes out as soon as it is ready. -/
theorem queueMsg_sends {p : Port} {m : TxMsg} {s : State} (hc : carries (s.slice p) m = true) (hm : m.starts = false)
    (hr : (s.slice p).pd.ready = []) (hi : (s.slice p).pd.inflight = none) :
    ((queueMsg p m s).slice p).pd.inflight = some m := by
  rw [queueMsg_slice, hc, if_pos rfl]
  exact pump_sends _ m hi (by simp [hr]) hm

/-- While a frame is on the line, it stays there. -/
theorem queueMsg_inflight_busy {p : Port} {m : TxMsg} {s : State} (hi : (s.slice p).pd.inflight.isSome = true) :
    ((queueMsg p m s).slice p).pd.inflight = (s.slice p).pd.inflight := by
  rw [queueMsg_slice]; split
  · exact pump_inflight_busy hi
  · rfl

end Sys2Proof.Machine
end

section
/-!
PROOFS. Frames received and acknowledged.
-/

namespace Sys2Proof.Machine

/-! ## Receiving (R116, R118, R120, R121) -/

theorem receiveFrame_badCrc (p : Port) {f : Frame} (phase : BitVec 16) (s : State) (h : f.crcOk = false) :
    receiveFrame p f phase s = onPd p (fun d => { d with pdcnt := { d.pdcnt with crcerr := satInc d.pdcnt.crcerr } }) s := by
  simp [receiveFrame, h]

theorem receiveFrame_inactive {p : Port} {f : Frame} (phase : BitVec 16) {s : State} (h : f.crcOk = true)
    (ha : ctxActive (s.slice p) f.ctx = false) : receiveFrame p f phase s = s := by
  simp [receiveFrame, h, ha]

/-- A valid frame on an active context is acknowledged before anything else. -/
def acknowledged (p : Port) (f : Frame) (s : State) : State := onPd p (fun d => { d with goodCrc := some (f.ctx, f.msgId) }) s

theorem receiveFrame_duplicate {p : Port} {f : Frame} (phase : BitVec 16) {s : State} (h : f.crcOk = true)
    (ha : ctxActive (s.slice p) f.ctx = true) (hd : (s.slice p).pd.rxId.get f.ctx = some f.msgId) (hk : f.kind ≠ .softReset) :
    receiveFrame p f phase s = acknowledged p f s := by
  simp [receiveFrame, h, ha, hd, hk, acknowledged]

theorem receiveFrame_new {p : Port} {f : Frame} (phase : BitVec 16) {s : State} (h : f.crcOk = true)
    (ha : ctxActive (s.slice p) f.ctx = true) (hd : (s.slice p).pd.rxId.get f.ctx ≠ some f.msgId) :
    receiveFrame p f phase s = takeFrame p f phase (acknowledged p f s) := by
  simp [receiveFrame, h, ha, hd, acknowledged]

/-- A frame that is taken lies in its context's buffer with its MessageID, and the count of Hard Resets starts again. -/
def stored (p : Port) (f : Frame) (s : State) : State :=
  onPd p (fun d =>
    let d := lowerRev f.ctx f.rev2 d
    { d with rxId := d.rxId.upd f.ctx (fun _ => some f.msgId), rxBuf := d.rxBuf.upd f.ctx (fun _ => some f), hrSent := 0 }) s

/-- The partner has opened an AMS: frames of the slice's own that would start one stand back (R117). -/
def partnerAsks (p : Port) (s : State) : State :=
  s |> onPd p (fun d => { d with chunkRx := false })
    |> onSlice p (fun x => { x.preempt with pd := { x.preempt.pd with partnerAms := true } })

theorem rev2_stored (p : Port) {f : Frame} (s : State) (h : f.rev2 = false) (c : Ctx) :
    rev2 ((stored p f s).slice p) c = rev2 (s.slice p) c := by
  simp [stored, rev2, lowerRev, h]

/-- A message that answers no host and is not copied goes to the Policy Engine. -/
theorem handOn_engine {p : Port} {f : Frame} {awaited : Option TxMsg} {phase : BitVec 16} {s : State}
    (hm : (s.slice p).mb.hostAms = none) (hc : (s.slice p).mb.copyOn = false) :
    handOn p f awaited phase s = engineAnswer p awaited f s := by
  simp [handOn, hm, hc]

/-- A message of the partner's that is answered by a command of its own, with no reply awaited and no host concerned: the
partner's AMS is open (R117, R121). -/
theorem takeFrame_getStatus {p : Port} {f : Frame} (phase : BitVec 16) {s : State} (hp : 2 ≤ p.val) (hc : f.ctx = .sop)
    (hk : f.kind = .getStatus) (hro : f.rolesOk = true) (he : f.extended = false) (h2 : f.rev2 = false)
    (hr : rev2 (s.slice p) .sop = false) (hw : (s.slice p).pd.waitReply = none) (hm : (s.slice p).mb.hostAms = none)
    (hcopy : (s.slice p).mb.copyOn = false) :
    (takeFrame p f phase s).slice p = ((partnerAsks p (stored p f s)).slice p).pump := by
  have hr' : rev2 ((stored p f s).slice p) .sop = false := (rev2_stored p s h2 .sop).trans hr
  have hw' : ((stored p f s).slice p).pd.waitReply = none := by simp [stored, lowerRev, h2, hw]
  have hm' : ((stored p f s).slice p).mb.hostAms = none := by simp [stored, hm]
  have hcopy' : ((stored p f s).slice p).mb.copyOn = false := by simp [stored, hcopy]
  unfold takeFrame
  rw [← stored]
  generalize stored p f s = t at hr' hw' hm' hcopy' ⊢
  have hpm : ((partnerAsks p t).slice p).mb.hostAms = none := by
    simp [partnerAsks, Slice.preempt, SliceMb.discard, apply_ite SliceMb.hostAms, hm']
  have hpc : ((partnerAsks p t).slice p).mb.copyOn = false := by
    simp [partnerAsks, Slice.preempt, SliceMb.discard, apply_ite SliceMb.copyOn, hcopy']
  have hpa : ((partnerAsks p t).slice p).pd.partnerAms = true := by simp [partnerAsks]
  simp only [hc, hk, hro, he, hr', hw', hm', unexpected, expectsReply, reduceCtorEq, Bool.not_true, Bool.and_false,
    Bool.false_and, Bool.false_eq_true, Bool.or_true, if_false]
  change (trySwaps p (onSlice p _ (handOn p f none phase (partnerAsks p t)))).slice p = _
  rw [trySwaps_of_two_le hp, slice_onSlice, handOn_engine hpm hpc, engineAnswer, hk, if_pos hpa]

/-! ## GoodCRC (R120) -/

/-- The frame on the line is acknowledged: its context's MessageID advances and the line is free. -/
def lineFreed (p : Port) (m : TxMsg) (s : State) : State :=
  onPd p (fun d => { d with txId := d.txId.upd m.ctx (· + 1), inflight := none, retries := 0 }) s

theorem goodCrcReceived_idle {p : Port} (more : Bool) {s : State} (h : (s.slice p).pd.inflight = none) :
    goodCrcReceived p more s = s := by
  simp [goodCrcReceived, h]

theorem goodCrcReceived_more {p : Port} {m : TxMsg} {s : State} (h : (s.slice p).pd.inflight = some m) :
    goodCrcReceived p true s = onPd p (fun d => { d with chunkTx := some m }) (lineFreed p m s) := by
  simp [goodCrcReceived, h, lineFreed]

/-- A reply that brings nothing about ends the partner's AMS. -/
theorem goodCrcReceived_plainReply {p : Port} {m : TxMsg} {s : State} (hp : 2 ≤ p.val)
    (h : (s.slice p).pd.inflight = some m) (hr : m.prio = .reply) (hw : m.why = .plain) (hk : expectsReply m.kind = false) :
    (goodCrcReceived p false s).slice p = ((lineFreed p m s).slice p).endPartner.pump := by
  simp [goodCrcReceived, h, hr, hw, hk, ownAcked, trySwaps_of_two_le hp, lineFreed]

/-- Settles O26. -/
theorem reception : Obligations.Reception := by
  unfold Obligations.Reception
  refine ⟨?_, ?_, ?_, ?_, ?_, ?_, ?_⟩
  · intro p f phase s hrel hcrc
    refine ⟨_, rfl, ?_⟩
    rw [whenReleased_pd_of _ _ _ hrel, receiveFrame_badCrc p phase s hcrc, slice_onPd]
  · intro p f phase s hcrc ha
    exact congrArg Host.Outcome.next (whenReleased_same _ _ (receiveFrame_inactive phase hcrc ha))
  · intro p f phase s hrel hcrc ha hd hk
    refine ⟨_, rfl, ?_⟩
    rw [whenReleased_pd_of _ _ _ hrel, receiveFrame_duplicate phase hcrc ha hd hk, acknowledged, slice_onPd]
  · intro p f phase s hrel hp hcrc hc hk hro he h2 ha hr hd hw hm hcopy
    refine ⟨_, rfl, ?_⟩
    have ht := takeFrame_getStatus (s := acknowledged p f s) phase hp hc hk hro he h2 (by simpa [acknowledged, rev2] using hr)
      (by simpa [acknowledged] using hw) (by simpa [acknowledged] using hm) (by simpa [acknowledged] using hcopy)
    rw [whenReleased_pd_of _ _ _ hrel, receiveFrame_new phase hcrc (by rwa [hc]) (by rwa [hc]), ht]
    simp [partnerAsks, stored, acknowledged, Slice.preempt, lowerRev, PerCtx.upd, hc, h2]
  · intro p more s h
    exact congrArg Host.Outcome.next (whenReleased_same _ _ (goodCrcReceived_idle more h))
  · intro p m s hrel h
    refine ⟨_, rfl, ?_⟩
    rw [whenReleased_pd_of _ _ _ hrel, goodCrcReceived_more h, slice_onPd, lineFreed, slice_onPd]
  · intro p m s hrel hp h hr hw hk hq hres
    refine ⟨_, rfl, ?_⟩
    obtain ⟨hin, hready⟩ := endPartner_of_nothing_ready (x := (lineFreed p m s).slice p) (by simpa [lineFreed] using hq)
      (by simpa [lineFreed] using hres)
    rw [whenReleased_pd_of _ _ _ hrel, goodCrcReceived_plainReply hp h hr hw hk]
    refine ⟨?_, ?_, ?_⟩
    · rw [pump_pd_txId, endPartner_pd_txId, lineFreed, slice_onPd]
    · rw [pump_inflight_of_ready_nil hready, hin, lineFreed, slice_onPd]
    · rw [pump_pd_partnerAms, endPartner_partnerAms]

end Sys2Proof.Machine
end

section
/-!
PROOFS. Failed transmissions, the engine's timers, and its resets.
-/

namespace Sys2Proof.Machine

/-! ## What a Hard Reset leaves behind (R119, R131, R198) -/

@[simp] theorem hrContexts_hrSent (x : Slice) : x.hrContexts.pd.hrSent = x.pd.hrSent := by simp [Slice.hrContexts]
@[simp] theorem hrContexts_rxId (x : Slice) : x.hrContexts.pd.rxId.sop = none := by simp [Slice.hrContexts, Slice.resetCtx, PerCtx.upd]
@[simp] theorem hrContexts_hrPhase (x : Slice) : x.hrContexts.pd.hrPhase = x.pd.hrPhase := by simp [Slice.hrContexts]
@[simp] theorem hrContexts_pr (x : Slice) : x.hrContexts.pr = x.pr := by simp [Slice.hrContexts]
@[simp] theorem hrContexts_isog (x : Slice) : x.hrContexts.pins.isog = x.pins.isog := by simp [Slice.hrContexts]
@[simp] theorem hrContexts_snkWaitRdy (x : Slice) : x.hrContexts.sw.snkWaitRdy = false := rfl
theorem endChange_xstep (k : BitVec 3) (x : Slice) : (x.endChange k).off.xstep = .idle := by
  unfold Slice.endChange; split
  · assumption
  · rfl
@[simp] theorem endChange_cstate (k : BitVec 3) (x : Slice) : (x.endChange k).ps.psstat.cstate = x.ps.psstat.cstate := by
  unfold Slice.endChange; split <;> rfl
@[simp] theorem hrContexts_xstep (x : Slice) : x.hrContexts.off.xstep = .idle := by simp [Slice.hrContexts, endChange_xstep]
@[simp] theorem hrContexts_cstate (x : Slice) : x.hrContexts.ps.psstat.cstate = x.ps.psstat.cstate := by
  simp [Slice.hrContexts, SlicePs.feClear, SlicePs.feForget]

theorem hrRoles_pr (x : Slice) : (hrRoles x).pr = x.pr := by
  simp only [hrRoles, apply_ite Slice.pr, vconnOpen_pr, ite_self]
theorem hrRoles_rxId (x : Slice) : (hrRoles x).pd.rxId = x.pd.rxId := by
  simp only [hrRoles, apply_ite Slice.pd, vconnOpen_pd, ite_self]
theorem hrRoles_hrSent (x : Slice) : (hrRoles x).pd.hrSent = x.pd.hrSent := by
  simp only [hrRoles, apply_ite Slice.pd, vconnOpen_pd, ite_self]
theorem hrRoles_snkWaitRdy (x : Slice) : (hrRoles x).sw.snkWaitRdy = x.sw.snkWaitRdy := by
  simp only [hrRoles, apply_ite Slice.sw, vconnOpen_sw, ite_self]

section
variable (p : Port) (s : State)

theorem hrPower_hrSent : ((hrPower p s).slice p).pd.hrSent = (s.slice p).pd.hrSent := by
  simp only [hrPower, apply_ite (State.slice · p), apply_ite Slice.pd, portEvent_slice, slice_onSlice, pump_pd_hrSent,
    stopConv_pd, endSwap_pd, hrRoles_hrSent, ite_self]
theorem hrPower_rxId : ((hrPower p s).slice p).pd.rxId = (s.slice p).pd.rxId := by
  simp only [hrPower, apply_ite (State.slice · p), apply_ite Slice.pd, portEvent_slice, slice_onSlice, pump_pd_rxId,
    stopConv_pd, endSwap_pd, hrRoles_rxId, ite_self]
theorem hrPower_snkWaitRdy : ((hrPower p s).slice p).sw.snkWaitRdy = (s.slice p).sw.snkWaitRdy := by
  simp only [hrPower, apply_ite (State.slice · p), apply_ite Slice.sw, portEvent_slice, slice_onSlice, pump_sw,
    stopConv_sw, ite_self]
  simp [Slice.endSwap, hrRoles_snkWaitRdy]
theorem hrPower_snkg : ((hrPower p s).slice p).pins.snkg = false := by
  simp only [hrPower, apply_ite (State.slice · p), portEvent_slice, slice_onSlice, pump_pins, ite_self]
/-- With VBUS off after a trip only tSrcRecover remains (R448). -/
theorem hrPower_hrPhase : ((hrPower p s).slice p).pd.hrPhase =
    if (s.slice p).pr.prstat.pstate = 1 ∨ (s.slice p).pr.prstat.pstate = 2 then .recover else .waitPs := by
  simp only [hrPower, apply_ite (State.slice · p), portEvent_slice, slice_onSlice, pump_pd_hrPhase, ite_self]
  simp [apply_ite Slice.pr, apply_ite SlicePr.prstat, hrRoles_pr]

end

theorem emitHardReset_hrSent (p : Port) (s : State) : ((emitHardReset p s).slice p).pd.hrSent = (s.slice p).pd.hrSent + 1 := by
  simp [emitHardReset, hrPower_hrSent]
theorem emitHardReset_xstep (p : Port) (s : State) : ((emitHardReset p s).slice p).off.xstep = .idle := by
  simp [emitHardReset]
theorem emitHardReset_snkWaitRdy (p : Port) (s : State) : ((emitHardReset p s).slice p).sw.snkWaitRdy = false := by
  simp [emitHardReset, hrPower_snkWaitRdy]

/-- Beyond nHardResetCount a port that has had a contract enters ErrorRecovery, and another falls silent (R130). -/
theorem sendHardReset_spent {p : Port} {s : State} (h : nHardResetCount ≤ (s.slice p).pd.hrSent) :
    sendHardReset p s = if (s.slice p).pd.hadContract then errorRecovery p s else pdSilence p s := by
  simp [sendHardReset, h]

/-- Under the hold line the ordered set waits (R131). -/
theorem sendHardReset_held {p : Port} {s : State} (hn : (s.slice p).pd.hrSent < nHardResetCount) (hh : s.sup.hold = true) :
    ((sendHardReset p s).slice p).pd.pdstat.hrPend = true := by
  simp [sendHardReset, hh, not_le.2 hn]

theorem hrSent_ne_zero_of_spent {x : Slice} (h : nHardResetCount ≤ x.pd.hrSent) : ¬x.pd.hrSent = 0 := by
  rw [nHardResetCount] at h; omega

/-! ## Soft Reset (R119, R129) -/

theorem resetCtx_sop_txId (k : BitVec 4) (x : Slice) : (x.resetCtx .sop k).pd.txId.sop = 0 := rfl
theorem resetCtx_sop_rxId (k : BitVec 4) (x : Slice) : (x.resetCtx .sop k).pd.rxId.sop = none := rfl

theorem sendSoftReset_sop (p : Port) (s : State) :
    ((sendSoftReset p .sop s).slice p).pd.txId.sop = 0 ∧ ((sendSoftReset p .sop s).slice p).pd.rxId.sop = none ∧
    ((sendSoftReset p .sop s).slice p).pd.pdcnt = (s.slice p).pd.pdcnt := by
  simp [sendSoftReset, resetCtx_sop_txId, resetCtx_sop_rxId]

theorem sendSoftReset_waitReply {p : Port} {s : State} (h : (s.slice p).pd.waitReply = none) :
    ((sendSoftReset p .sop s).slice p).pd.waitReply = none := by
  simp [sendSoftReset, Slice.resetCtx, h]

/-- The end of a swap ends its power transition too (R122). -/
theorem powerTransition_endSwap {x : Slice} (k : BitVec 3) (h : powerTransition x = false) :
    powerTransition (x.endSwap k) = false := by
  simp only [powerTransition, Bool.or_eq_false_iff] at h ⊢
  exact ⟨h.1, rfl⟩

/-! ## Failed transmissions (R122, R126) -/

/-- A failed transmission is counted, and leaves the line free. -/
def txCounted (p : Port) (s : State) : State :=
  onPd p (fun d => { d with
    inflight := none, retries := 0, chunkTx := none, pdcnt := { d.pdcnt with txfail := satInc d.pdcnt.txfail } }) s

/-- A mailbox message that fails ends in state 4 (R138). -/
theorem txFailed_mailbox {p : Port} {m : TxMsg} {s : State} (hm : m.prio = .mailbox) : txFailed p m s =
    pump p (onMb p (fun b => { b with mbtxStat := { b.mbtxStat with state := 4 } }) (txCounted p s)) := by
  simp [txFailed, hm, txCounted]

theorem txFailed_mailbox_effect {p : Port} {m : TxMsg} {s : State} (hm : m.prio = .mailbox) (hr : (s.slice p).pd.ready = []) :
    ((txFailed p m s).slice p).pd.pdcnt.txfail = satInc (s.slice p).pd.pdcnt.txfail ∧
    ((txFailed p m s).slice p).mb.mbtxStat.state = 4 := by
  rw [txFailed_mailbox hm, pump_slice, pump_mb_of_ready_nil (by simp [txCounted, hr])]
  simp [txCounted]

/-- A reply of no further meaning that fails ends a swap and resets SOP by Soft_Reset (R122). -/
theorem txFailed_plainReply {p : Port} {m : TxMsg} {s : State} (hp : m.prio = .reply) (hw : m.why = .plain)
    (hc : m.ctx = .sop) (hk : m.kind ≠ .softReset) (ht : powerTransition (s.slice p) = false) :
    txFailed p m s = sendSoftReset p .sop (onSlice p (Slice.endSwap 7) (txCounted p s)) := by
  have ht' : powerTransition ((txCounted p s).slice p) = false := by simpa [txCounted, powerTransition] using ht
  unfold txFailed
  rw [← txCounted]
  generalize txCounted p s = t at ht' ⊢
  simp [hp, hw, hc, hk, ht', TxMsg.isAdvert]

theorem crcReceiveTimeout_retries {p : Port} {m : TxMsg} {s : State} (hi : (s.slice p).pd.inflight = some m)
    (hr : (s.slice p).pd.retries < nRetryCount (s.slice p) m.ctx) :
    crcReceiveTimeout p s = onPd p (fun d => { d with retries := d.retries + 1 }) s := by
  simp [crcReceiveTimeout, hi, hr]

theorem crcReceiveTimeout_fails {p : Port} {m : TxMsg} {s : State} (hi : (s.slice p).pd.inflight = some m)
    (hr : nRetryCount (s.slice p) m.ctx ≤ (s.slice p).pd.retries) : crcReceiveTimeout p s = txFailed p m s := by
  simp [crcReceiveTimeout, hi, not_lt.2 hr]

/-! ## Timers (R125, R126, R129, R145) -/

/-- A reply that does not come outside a power transition resets SOP by Soft_Reset (R129). -/
theorem senderResponseTimeout_getStatus {p : Port} {m : TxMsg} {s : State} (hw : (s.slice p).pd.waitReply = some m)
    (hk : m.kind = .getStatus) (hc : m.ctx = .sop) (ht : powerTransition (s.slice p) = false)
    (he : (s.slice p).off.eprLeaving = false) : senderResponseTimeout p s =
      sendSoftReset p .sop (onSlice p (Slice.endSwap 7) (onPd p (fun d => { d with waitReply := none }) s)) := by
  have hs : powerTransition (((onPd p (fun d => { d with waitReply := none }) s).slice p).endSwap 7) = false :=
    powerTransition_endSwap 7 (by simpa [powerTransition] using ht)
  simp only [senderResponseTimeout, hw, hk, he, ht, Bool.false_and, Bool.false_eq_true, if_false, protocolError, hc,
    slice_onSlice, hs]

/-- A Soft_Reset on SOP without its Accept ends in Hard Reset (R129). -/
theorem senderResponseTimeout_softReset {p : Port} {m : TxMsg} {s : State} (hw : (s.slice p).pd.waitReply = some m)
    (hk : m.kind = .softReset) (hc : m.ctx = .sop) :
    senderResponseTimeout p s = sendHardReset p (onPd p (fun d => { d with waitReply := none }) s) := by
  simp only [senderResponseTimeout, hw, hk, hc, if_true]

/-- A chunked message being received is given up (R126). -/
theorem chunkTimeout_receiving {p : Port} {t : ChunkTimer} {s : State} (ht : t = .senderResponse ∨ t = .receiverResponse)
    (h : (s.slice p).pd.chunkRx = true) : chunkTimeout p t s =
      onPd p (fun d => { d with chunkRx := false, rxBuf := { d.rxBuf with sop := none } }) s := by
  obtain rfl | rfl := ht <;> simp [chunkTimeout, h]

/-- The transmission of a chunked message fails (R126). -/
theorem chunkTimeout_sending {p : Port} {t : ChunkTimer} {m : TxMsg} {s : State}
    (ht : t = .senderRequest ∨ t = .receiverRequest) (h : (s.slice p).pd.chunkTx = some m) :
    chunkTimeout p t s = txFailed p m s := by
  obtain rfl | rfl := ht <;> simp [chunkTimeout, h]

/-- While an AMS of the slice's own is open on a Source that R125 binds, Rp stays at SinkTxNG. -/
theorem refresh_sinkTxNG {x : Slice} (hc : caInUse x = true) (hs : x.sw.swstat.prole = false) (ho : x.pd.ownOpen = true) :
    x.refresh.pd.ngHeld = x.pd.ngHeld ∧ x.refresh.att.attstat.rpNow = (if x.pins.term = .rp then 2 else 0) := by
  have ha : ownAms x = true := by simp [ownAms, ho]
  simp [Slice.refresh, hc, hs, ha]

theorem pump_sinkTxNG {x : Slice} (hc : caInUse x = true) (hs : x.sw.swstat.prole = false) (ho : x.pd.ownOpen = true) :
    x.pump.pd.ngHeld = x.pd.ngHeld ∧ x.pump.att.attstat.rpNow = (if x.pins.term = .rp then 2 else 0) := by
  have hy := refresh_sinkTxNG (x := x.refresh.transmit) (by simpa [caInUse, rev2] using hc) (by simpa using hs)
    (by simpa using ho)
  rw [Slice.pump, hy.1, hy.2, transmit_pd_ngHeld, (refresh_sinkTxNG hc hs ho).1, transmit_pins, refresh_pins]
  exact ⟨rfl, rfl⟩

theorem caInUse_of_not_connected {x : Slice} (h : x.pd.pdstat.pdConn = false) : caInUse x = false := by
  simp [caInUse, h]

/-- No AMS is open, none of the host's, no swap and no contract change, and R125 is not in use. -/
structure Slice.Quiet (x : Slice) : Prop where
  unconnected : x.pd.pdstat.pdConn = false
  ownOpen : x.pd.ownOpen = false
  waitReply : x.pd.waitReply = none
  partnerAms : x.pd.partnerAms = false
  hostAms : x.mb.hostAms = none
  xstep : x.off.xstep = .idle
  swap : x.sw.swstat.swap = 0

/-- Then a frame that starts an AMS may go out. -/
theorem sendable_of_quiet {x : Slice} (h : x.Quiet) (m : TxMsg) : sendable x m = true := by
  simp [sendable, mayStart, caInUse_of_not_connected h.unconnected, h.ownOpen, h.waitReply, h.partnerAms, h.hostAms,
    SliceOff.changing, h.xstep, h.swap]

theorem refresh_quiet {x : Slice} (h : x.Quiet) : x.refresh.Quiet :=
  ⟨h.unconnected, h.ownOpen, h.waitReply, h.partnerAms, h.hostAms, h.xstep, h.swap⟩

theorem queueMsg_sends_of_quiet {p : Port} {m : TxMsg} {s : State} (hc : carries (s.slice p) m = true)
    (hq : (s.slice p).Quiet) (hr : (s.slice p).pd.ready = []) (hi : (s.slice p).pd.inflight = none) :
    ((queueMsg p m s).slice p).pd.inflight = some m := by
  rw [queueMsg_slice, hc, if_pos rfl, Slice.pump, refresh_inflight]
  refine transmit_sends _ m hi (by simp [hr]) (sendable_of_quiet (refresh_quiet ?_) m)
  exact ⟨hq.unconnected, hq.ownOpen, hq.waitReply, hq.partnerAms, hq.hostAms, hq.xstep, hq.swap⟩

/-- What an advertisement marks before it is made ready. -/
def advertMarked (p : Port) (s : State) : State :=
  s |> onOff p (fun o => { o with advertDue := false, advertLater := false }) |> onPd p (fun d => { d with capsSent := true })

theorem advertise_queues {p : Port} {s : State} (hh : s.sup.hold = false) (hs : (s.slice p).sw.swstat.prole = false)
    (ha : sopActive (s.slice p) = true) (hw : advertWaiting (s.slice p) = false) : advertise p s =
      queueMsg p (advertMsg ((advertMarked p s).slice p) (advertMarked p s)) (advertMarked p s) := by
  simp [advertise, hh, hs, ha, hw, advertMarked]

theorem buildOffer_advertMarked (p : Port) (s : State) (n : BitVec 9) :
    buildOffer ((advertMarked p s).slice p) n = buildOffer (s.slice p) n := by
  simp only [advertMarked, slice_onPd, slice_onOff]; rfl

/-- Before the first contract an idle port sends the offer as it stands (R144, R145). -/
theorem advertise_sends {p : Port} {s : State} (hh : s.sup.hold = false) (hs : (s.slice p).sw.swstat.prole = false)
    (ha : sopActive (s.slice p) = true) (h2 : rev2 (s.slice p) .sop = false) (hq : (s.slice p).Quiet)
    (hr : (s.slice p).pd.ready = []) (hres : (s.slice p).pd.restart = []) (hi : (s.slice p).pd.inflight = none) :
    ((advertise p s).slice p).pd.inflight.map (fun m => (m.why, m.offer)) =
      some (.advert, buildOffer (s.slice p) s.sup.maxpdo) := by
  have hx : (advertMarked p s).slice p = { s.slice p with
      off := { (s.slice p).off with advertDue := false, advertLater := false }, pd := { (s.slice p).pd with capsSent := true } } := by
    simp [advertMarked]
  have hq' : ((advertMarked p s).slice p).Quiet := by
    rw [hx]; exact ⟨hq.unconnected, hq.ownOpen, hq.waitReply, hq.partnerAms, hq.hostAms, hq.xstep, hq.swap⟩
  have ha' : sopActive ((advertMarked p s).slice p) = true := by rw [hx]; exact ha
  have h2' : rev2 ((advertMarked p s).slice p) .sop = false := by rw [hx]; exact h2
  rw [advertise_queues hh hs ha (by simp [advertWaiting, hr, hres]),
    queueMsg_sends_of_quiet (carries_sop rfl ha' (.inl h2')) hq' (by simp [hx, hr]) (by simp [hx, hi]), Option.map_some]
  exact congrArg (fun o => some (TxWhy.advert, o)) (buildOffer_advertMarked p s s.sup.maxpdo)

/-- Settles O27. -/
theorem failuresAndTimers : Obligations.FailuresAndTimers := by
  unfold Obligations.FailuresAndTimers
  refine ⟨?_, ?_, ?_, ?_, ?_, ?_, ?_, ?_, ?_, ?_, ?_, ?_, ?_, ?_⟩
  · intro p m s hrel hi hr
    refine ⟨_, rfl, ?_⟩
    rw [whenReleased_pd_of _ _ _ hrel, crcReceiveTimeout_retries hi hr, slice_onPd]
  · intro p m s hrel hi hr hm hq
    refine ⟨_, rfl, ?_⟩
    rw [whenReleased_pd_of _ _ _ hrel, whenReleased_mb_of _ _ _ hrel, crcReceiveTimeout_fails hi hr]
    exact txFailed_mailbox_effect hm hq
  · intro p m s hrel hi hr hp hw hc hk ht
    refine ⟨_, rfl, ?_⟩
    rw [whenReleased_pd_of _ _ _ hrel, crcReceiveTimeout_fails hi hr, txFailed_plainReply hp hw hc hk ht]
    obtain ⟨htx, hrx, hcnt⟩ := sendSoftReset_sop p (onSlice p (Slice.endSwap 7) (txCounted p s))
    exact ⟨by rw [hcnt]; simp [txCounted], htx, hrx⟩
  · intro p m s hrel hw hk hc ht he
    refine ⟨_, rfl, ?_⟩
    rw [whenReleased_pd_of _ _ _ hrel, senderResponseTimeout_getStatus hw hk hc ht he]
    obtain ⟨htx, hrx, -⟩ := sendSoftReset_sop p (onSlice p (Slice.endSwap 7) (onPd p (fun d => { d with waitReply := none }) s))
    exact ⟨htx, hrx, sendSoftReset_waitReply (by simp)⟩
  · intro p m s hrel hw hk hc hh hn hsw
    refine ⟨_, rfl, ?_⟩
    rw [whenReleased_pd_of _ _ _ hrel, whenReleased_off_of _ _ _ hrel, senderResponseTimeout_softReset hw hk hc,
      sendHardReset_emits p _ (by simpa using hh) (by simpa using hn)]
    obtain ⟨htx, hcon⟩ := emitHardReset_effect p (onPd p (fun d => { d with waitReply := none }) s)
    exact ⟨by simpa using htx, by simp [emitHardReset_hrSent], hcon⟩
  · intro p s h
    exact congrArg Host.Outcome.next (whenReleased_same _ _ (if_pos h))
  · intro p s hrel hn hc
    refine ⟨_, rfl, ?_⟩
    rw [whenReleased_att_of _ _ _ hrel, whenReleased_off_of _ _ _ hrel, whenReleased_eva _ _ hrel,
      if_neg (hrSent_ne_zero_of_spent hn), sendHardReset_spent hn, if_pos hc]
    simp
  · intro p s hrel hn hc
    refine ⟨_, rfl, ?_⟩
    rw [whenReleased_pd_of _ _ _ hrel, whenReleased_eva _ _ hrel, if_neg (hrSent_ne_zero_of_spent hn),
      sendHardReset_spent hn, if_neg (by simp [hc])]
    simp [pdSilence]
  · intro p s hrel h0 hn hh
    refine ⟨_, rfl, ?_⟩
    rw [whenReleased_pd_of _ _ _ hrel, if_neg h0.ne']
    exact sendHardReset_held hn hh
  · intro p t0 s hrel ht h
    refine ⟨_, rfl, ?_⟩
    rw [whenReleased_pd_of _ _ _ hrel, chunkTimeout_receiving ht h, slice_onPd]
  · intro p t0 m s hrel ht h hm hq
    refine ⟨_, rfl, ?_⟩
    rw [whenReleased_pd_of _ _ _ hrel, whenReleased_mb_of _ _ _ hrel, chunkTimeout_sending ht h]
    obtain ⟨hcnt, hst⟩ := txFailed_mailbox_effect hm hq
    exact ⟨hcnt, hst, by simp [txFailed_mailbox hm, txCounted]⟩
  · intro p s hrel hp h2 hc hs ho
    refine ⟨_, rfl, ?_⟩
    have hpump := pump_sinkTxNG (x := { s.slice p with pd := { (s.slice p).pd with ngHeld := true } }) hc hs ho
    simpa [hrel, h2, trySwaps_of_two_le hp] using hpump
  · intro p s h
    exact congrArg Host.Outcome.next (whenReleased_same _ _ (if_neg h))
  · intro p s hrel hcaps hcon hw hi hr hres hx hh hs hsw ha hpd h2 ho hp hm
    refine ⟨_, rfl, ?_⟩
    rw [whenReleased_pd_of _ _ _ hrel]
    simp only [hcaps, hcon, hw, hi, hx, advertWaiting, hr, hres, Bool.not_false, Bool.and_self, Option.isNone_none,
      decide_true, List.any_nil, Bool.or_self, if_true]
    exact advertise_sends hh hs ha h2 ⟨hpd, ho, hw, hp, hm, hx, hsw⟩ hr hres hi

end Sys2Proof.Machine
end

section
/-!
PROOFS. Soft Reset, Hard Reset and BIST.
-/

namespace Sys2Proof.Machine

/-! ## A received Hard Reset (R131, R448) -/

/-- A Hard Reset that the port acts on is counted, and resets contexts and contract at once. -/
def hardResetTaken (p : Port) (s : State) : State :=
  s |> onPd p (fun d => { d with pdcnt := { d.pdcnt with hrRx := satInc d.pdcnt.hrRx } }) |> onSlice p Slice.hrContexts

theorem hardReset_ignored {p : Port} {s : State} (h : takesHardReset (s.slice p) = false) : hardReset p s = s := by
  simp [hardReset, h]

theorem hardReset_starts {p : Port} {s : State} (h : takesHardReset (s.slice p) = true) (hh : s.sup.hold = false) :
    hardReset p s = hrPower p (hardResetTaken p s) := by
  simp [hardReset, h, hh, hardResetTaken]

theorem hardReset_waits {p : Port} {s : State} (h : takesHardReset (s.slice p) = true) (hh : s.sup.hold = true) :
    hardReset p s =
      onPd p (fun d => { d with hrWait := .received, pdstat := { d.pdstat with hrPend := true } }) (hardResetTaken p s) := by
  simp [hardReset, h, hh, hardResetTaken]

section
variable (p : Port) (s : State)

theorem hardResetTaken_hrRx : ((hardResetTaken p s).slice p).pd.pdcnt.hrRx = satInc (s.slice p).pd.pdcnt.hrRx := by
  simp [hardResetTaken]
theorem hardResetTaken_contract : ((hardResetTaken p s).slice p).off.contract = {} := by simp [hardResetTaken]
theorem hardResetTaken_rxId : ((hardResetTaken p s).slice p).pd.rxId.sop = none := by simp [hardResetTaken]
theorem hardResetTaken_pr : ((hardResetTaken p s).slice p).pr = (s.slice p).pr := by simp [hardResetTaken]
theorem hardResetTaken_isog : ((hardResetTaken p s).slice p).pins.isog = (s.slice p).pins.isog := by simp [hardResetTaken]
theorem hardResetTaken_cstate : ((hardResetTaken p s).slice p).ps.psstat.cstate = (s.slice p).ps.psstat.cstate := by
  simp [hardResetTaken]

end

/-! ## The start of the converter after a Hard Reset (R198, R229) -/

theorem selfCheck_ps (p : Port) (s : State) : ((selfCheck p s).slice p).ps = (s.slice p).ps := by
  simp [selfCheck, apply_ite (State.slice · p), apply_ite Slice.ps]
theorem selfCheck_pins (p : Port) (s : State) : ((selfCheck p s).slice p).pins = (s.slice p).pins := by
  simp [selfCheck, apply_ite (State.slice · p), apply_ite Slice.pins]

/-- A clean self-check writes the state of the protection block alone. -/
theorem selfCheck_clean {p : Port} {s : State} (h : (s.slice p).pr.bad = 0) : selfCheck p s =
    onPr p (fun x => { x with prstat := { x.prstat with
      scfail := 0, pstate := if x.prstat.pstate = 4 then 0 else x.prstat.pstate } }) s := by
  simp [selfCheck, h]

theorem startConv_clean {p : Port} {s : State} (hb : (s.slice p).pr.bad = 0) (h4 : (s.slice p).pr.prstat.pstate ≠ 4) :
    startConv p s = onSlice p Slice.beginStart (selfCheck p s) := by
  have h : ((selfCheck p s).slice p).pr.prstat.pstate ≠ 4 := by
    simp only [selfCheck_clean hb, slice_onPr, if_neg h4]; exact h4
  rw [startConv]; exact if_neg h

theorem startPower_starts {p : Port} {s : State} (hg : (s.slice p).gr.none = false) (h0 : (s.slice p).pr.prstat.pstate = 0)
    (hh : s.sup.hold = false) (hb : (s.slice p).pr.bad = 0) :
    startPower p s = onSlice p Slice.beginStart (selfCheck p s) := by
  simp only [startPower, hg, h0, hh, Bool.false_eq_true, if_false, ne_eq, not_true_eq_false]
  exact startConv_clean hb (by rw [h0]; decide)

theorem beginStart_cstate (x : Slice) : x.beginStart.ps.psstat.cstate = if 5000 < 10 * x.ps.tlmV.vcnv.toNat then 2 else 1 := rfl

/-- Settles O28. -/
theorem resetsOfTheEngine : Obligations.ResetsOfTheEngine := by
  unfold Obligations.ResetsOfTheEngine
  refine ⟨?_, ?_, ?_, ?_, ?_, ?_, ?_, ?_, ?_, ?_, ?_, ?_, ?_⟩
  · intro p s hrel ha hr hi
    refine ⟨_, rfl, ?_⟩
    have ha' : ctxActive (s.slice p) .sop = true := ha
    have hc : carries ((onSlice p (Slice.resetCtx .sop 12) s).slice p) { ctx := .sop, kind := .accept, prio := .reply } = true :=
      carries_sop rfl (by rwa [slice_onSlice, sopActive_resetCtx]) (.inr rfl)
    simp only [whenReleased_pd_of _ _ _ hrel, ha', Bool.not_true, Bool.false_eq_true, if_false]
    refine ⟨?_, ?_, queueMsg_sends hc rfl ?_ ?_⟩
    · simp [reply, resetCtx_sop_txId]
    · simp [reply, resetCtx_sop_rxId]
    · simp [Slice.resetCtx, hr]
    · simp [Slice.resetCtx, hi]
  · intro p c s h
    exact congrArg Host.Outcome.next (whenReleased_same _ _ (by simp [h]))
  · intro p s hrel ht hh
    refine ⟨_, rfl, ?_⟩
    rw [whenReleased_pd_of _ _ _ hrel, whenReleased_off_of _ _ _ hrel, whenReleased_pins_of _ _ _ hrel, hardReset_starts ht hh,
      hrPower_pdcnt, hrPower_off, hrPower_snkg, hrPower_rxId, hrPower_hrPhase, hardResetTaken_pr]
    exact ⟨hardResetTaken_hrRx p s, hardResetTaken_contract p s, rfl, hardResetTaken_rxId p s, rfl⟩
  · intro p s hrel ht hh
    refine ⟨_, rfl, ?_⟩
    rw [whenReleased_pd_of _ _ _ hrel, whenReleased_off_of _ _ _ hrel, whenReleased_pins_of _ _ _ hrel,
      whenReleased_ps_psstat _ _ _ hrel, hardReset_waits ht hh, slice_onPd]
    exact ⟨hardResetTaken_hrRx p s, hardResetTaken_contract p s, rfl, rfl, hardResetTaken_isog p s, hardResetTaken_cstate p s⟩
  · intro p s h
    exact congrArg Host.Outcome.next (whenReleased_same _ _ (hardReset_ignored h))
  · intro p s hrel hp hs
    refine ⟨_, rfl, ?_⟩
    simp [hrel, hp, hs]
  · intro p s hrel hp hs hc hi
    refine ⟨_, rfl, ?_⟩
    simp [hrel, hp, hs, SlicePs.running, hc, hi, Slice.rampDown]
  · intro p s hrel hp hs h0 ha
    refine ⟨_, rfl, ?_⟩
    simp [hrel, hp, hs, h0, ha]
  · intro p s hrel hp hs h0 ha hg hh hb
    refine ⟨_, rfl, ?_⟩
    have hst := startPower_starts (p := p) (s := onSlice p Slice.powerOff s) (by simp [hg]) (by simp [h0]) (by simp [hh])
      (by simp [hb])
    simp [hrel, hp, hs, h0, ha, hg, hst, beginStart_cstate, selfCheck_ps, selfCheck_pins]
  · intro p s hrel ha
    refine ⟨_, rfl, ?_⟩
    simp [hrel, ha]
  · intro p mode s h
    exact congrArg Host.Outcome.next (whenReleased_same _ _
      (if_neg (by rw [decide_eq_false h, Bool.false_and]; exact Bool.false_ne_true)))
  · intro p s hrel
    refine ⟨_, rfl, ?_⟩
    simp [hrel]
  · intro p s
    refine ⟨_, rfl, ?_, writePdctl_beside p _ s⟩
    have h0 : getBit 0x100 0 = false := by decide
    have h8 : getBit 0x100 8 = true := by decide
    simp only [writePdctl, slice_onPd, h0, h8, if_true, Bool.or_false]

end Sys2Proof.Machine
end

section
/-!
PROOFS. Discovery of the cable marker, and the messages that a slice answers by itself.
-/

namespace Sys2Proof.Machine

/-! ## The line does not decide which contexts are active (R118) -/

theorem sop1Active_refresh (x : Slice) : sop1Active x.refresh = sop1Active x := rfl
theorem sop1Active_transmit (x : Slice) : sop1Active x.transmit = sop1Active x := by simp [sop1Active, sopActive]

/-! ## What an advertisement and the end of discovery leave alone (R127, R128) -/

/-- Of the engine an advertisement moves the queue, the line and the mark of the first Source_Capabilities. -/
theorem advertise_pd_same {α : Type} (g : SlicePd → α)
    (hqueue : ∀ d q r c, g { d with ready := q, restart := r, capsSent := c } = g d) (hpump : ∀ x : Slice, g x.pump.pd = g x.pd)
    (p : Port) (s : State) : g ((advertise p s).slice p).pd = g (s.slice p).pd := by
  have hq : ∀ m t, g ((queueMsg p m t).slice p).pd = g (t.slice p).pd :=
    fun m t => queueMsg_same (fun x => g x.pd) (fun x l => hqueue x.pd l x.pd.restart x.pd.capsSent) hpump p m t
  have hc : ∀ d, g { d with capsSent := true } = g d := fun d => hqueue d d.ready d.restart true
  have hr : ∀ t, g ((renewAdverts p t).slice p).pd = g (t.slice p).pd := by
    intro t
    rw [renewAdverts, slice_onSlice]
    exact hqueue (t.slice p).pd _ _ (t.slice p).pd.capsSent
  unfold advertise
  dsimp only
  split
  · rw [slice_onOff]
  · split
    · rfl
    · split
      · rw [pump_slice, hpump, hr, slice_onPd, hc, slice_onOff]
      · rw [hq, slice_onPd, hc, slice_onOff]

/-- Discovery is over on a port that has not advertised: the record of the cable stays, and the port advertises (R128). -/
theorem discoveryEnded_same {α : Type} (g : SlicePd → α)
    (hqueue : ∀ d q r c, g { d with ready := q, restart := r, capsSent := c } = g d) (hpump : ∀ x : Slice, g x.pump.pd = g x.pd)
    (hown : ∀ d, g { d with ownOpen := false, waitReply := none } = g d) {p : Port} {s : State}
    (hc : (s.slice p).pd.capsSent = false) :
    g ((discoveryEnded p s).slice p).pd = g { (s.slice p).pd with discovering := false, discEnded := true } := by
  unfold discoveryEnded
  dsimp only
  rw [if_neg (by simp [hc]), advertise_pd_same g hqueue hpump, slice_onSlice, Slice.endOwn, hpump, hown]

/-- What CABLE_IDENTITY_ANSWER and DISCOVER_IDENTITY_TIMER record of a cable. -/
def SlicePd.cable (d : SlicePd) : SlcCblStat × Word × SlcCblId × Bool × Bool :=
  (d.cblStat, d.cblVdo, d.cblId, d.discovering, d.discEnded)

theorem pump_cable (x : Slice) : x.pump.pd.cable = x.pd.cable := by simp [SlicePd.cable]

theorem discoveryEnded_cable {p : Port} {s : State} (hc : (s.slice p).pd.capsSent = false) :
    ((discoveryEnded p s).slice p).pd.cable = { (s.slice p).pd with discovering := false, discEnded := true }.cable :=
  discoveryEnded_same SlicePd.cable (fun _ _ _ _ => rfl) pump_cable (fun _ => rfl) hc

theorem cable_ext {d e : SlicePd} (h : d.cable = e.cable) : d.cblStat = e.cblStat ∧ d.cblVdo = e.cblVdo ∧ d.cblId = e.cblId ∧
    d.discovering = e.discovering ∧ d.discEnded = e.discEnded := by
  simpa [SlicePd.cable] using h

/-! ## Answers of the cable (R123, R127) -/

/-- The cable is recorded as unmarked. -/
def cableUnmarked (p : Port) (s : State) : State := onPd p (fun d => { d with cblStat := { d.cblStat with kind := 3 } }) s

theorem cableAnswer_nak {p : Port} {a : CableAnswer} {s : State} (hc : a.ctx = .sop1) (hd : (s.slice p).pd.discovering = true)
    (hn : a.nak = true) : cableAnswer p a s = discoveryEnded p (cableUnmarked p s) := by
  simp [cableAnswer, hc, hd, hn, cableUnmarked]

/-- What a passive cable says of itself is recorded, with the revision of its contexts. -/
def cableRecorded (p : Port) (a : CableAnswer) (s : State) : State :=
  let rev : BitVec 2 :=
    if a.rev2 || (s.slice p).pd.pdcfg.maxrev = 1 || (s.slice p).pd.pdstat.revSop = 1 then 1 else 2
  onPd p (fun d => { d with
    cblVdo := a.vdo1, cblId := { vid := a.vid, pid := a.pid }
    cblStat := { d.cblStat with kind := 1, ilim := a.ilim, vmax := a.vmax, epr := a.epr, sop2 := a.sop2 }
    pdstat := { d.pdstat with revSop1 := rev, revSop2 := rev }, discSop2 := false }) s

/-- A passive cable is recorded, and discovery ends without SOP″. -/
theorem cableAnswer_passive {p : Port} {a : CableAnswer} {s : State} (hc : a.ctx = .sop1)
    (hd : (s.slice p).pd.discovering = true) (hn : a.nak = false) (ha : a.active = false) :
    cableAnswer p a s = discoveryEnded p (cableRecorded p a s) := by
  simp only [cableAnswer, hc, hd, hn, ha, Bool.not_true, Bool.false_eq_true, if_false, Bool.false_and, cableRecorded]

/-! ## The next attempt (R127) -/

theorem sop1Active_endOwn (x : Slice) : sop1Active x.endOwn = sop1Active x := by
  rw [Slice.endOwn, Slice.pump, sop1Active_refresh, sop1Active_transmit, sop1Active_refresh]; rfl

/-- An attempt that discovery still has is counted. -/
theorem discoverSend_counts {p : Port} {s : State} (hd : (s.slice p).pd.discovering = true) (ha : sop1Active (s.slice p) = true)
    (ht : (s.slice p).pd.cblStat.tries.toNat < nDiscoverIdentityCount) :
    ((discoverSend p s).slice p).pd.cblStat = { (s.slice p).pd.cblStat with tries := (s.slice p).pd.cblStat.tries + 1 } ∧
    ((discoverSend p s).slice p).pd.discovering = true := by
  simp [discoverSend, hd, ha, ht, startAms]

/-- Settles O29. -/
theorem cableDiscovery : Obligations.CableDiscovery := by
  unfold Obligations.CableDiscovery
  refine ⟨?_, ?_, ?_, ?_, ?_, ?_⟩
  · intro p a s hrel hc hd hn hcaps
    refine ⟨_, rfl, ?_⟩
    rw [whenReleased_pd_of _ _ _ hrel, cableAnswer_nak hc hd hn]
    obtain ⟨hst, -, -, hdis, hend⟩ := cable_ext (discoveryEnded_cable (p := p) (s := cableUnmarked p s) (by simpa [cableUnmarked]))
    exact ⟨by rw [hst]; simp [cableUnmarked], hdis, hend⟩
  · intro p a s hrel hc hd hn ha hcaps
    refine ⟨_, rfl, ?_⟩
    rw [whenReleased_pd_of _ _ _ hrel, cableAnswer_passive hc hd hn ha]
    obtain ⟨hst, hvdo, hid, hdis, hend⟩ :=
      cable_ext (discoveryEnded_cable (p := p) (s := cableRecorded p a s) (by simpa [cableRecorded]))
    exact ⟨by rw [hvdo]; simp [cableRecorded], by rw [hid]; simp [cableRecorded], by rw [hst]; simp [cableRecorded], hdis, hend⟩
  · intro p s hrel hd ht hcaps
    refine ⟨_, rfl, ?_⟩
    simp only [whenReleased_pd_of _ _ _ hrel, hd, Bool.not_true, Bool.false_eq_true, if_false, if_pos ht]
    obtain ⟨hst, -, -, hdis, hend⟩ := cable_ext (discoveryEnded_cable (p := p)
      (s := cableUnmarked p (onSlice p Slice.endOwn s)) (by simpa [cableUnmarked]))
    exact ⟨hst.trans (by simp [cableUnmarked]), hdis, hend⟩
  · intro p s hrel hd ht h3 ha
    refine ⟨_, rfl, ?_⟩
    have hs := discoverSend_counts (p := p) (s := onSlice p Slice.endOwn s) (by simpa) (by simpa [sop1Active_endOwn]) (by simpa)
    simp only [whenReleased_pd_of _ _ _ hrel, hd, Bool.not_true, Bool.false_eq_true, if_false, if_neg (not_le.2 ht), h3,
      decide_false, Bool.false_and]
    simpa using hs
  · intro p s h
    exact congrArg Host.Outcome.next (whenReleased_same _ _ (by simp [h]))
  · intro p s hrel ha _ hr hi
    refine ⟨_, rfl, ?_⟩
    rw [whenReleased_pd_of _ _ _ hrel]
    exact reply_sends p _ _ _ s (carries_sop rfl ha (.inr rfl)) hi hr

/-! ## Answers on an idle line (R124, R133, R152, R155, R158) -/

/-- Settles O30. -/
theorem answers : Obligations.Answers := by
  unfold Obligations.Answers
  refine ⟨?_, ?_, ?_, ?_, ?_, ?_, ?_, ?_, ?_⟩
  · intro p s hrel ha _ h2 hr hi
    refine ⟨_, rfl, ?_⟩
    rw [whenReleased_pd_of _ _ _ hrel]
    exact reply_sends p _ _ _ s (carries_sop rfl ha (.inl h2)) hi hr
  · intro p s hrel ha _ h2 hr hi
    refine ⟨_, rfl, ?_⟩
    rw [whenReleased_pd_of _ _ _ hrel]
    exact reply_sends p _ _ _ s (carries_sop rfl ha (.inl h2)) hi hr
  · intro p s hrel ha _ h2 hr hi
    refine ⟨_, rfl, ?_⟩
    rw [whenReleased_pd_of _ _ _ hrel]
    exact reply_sends p _ _ _ s (carries_sop rfl ha (.inl h2)) hi hr
  · intro p s hrel _ h2
    refine ⟨_, rfl, ?_⟩
    rw [whenReleased_pd_of _ _ _ hrel, reply, queueMsg_of_not_carries (not_carries_of_rev2 h2 rfl)]
  · intro p s hrel ha _ h2 hr hi he
    refine ⟨_, rfl, ?_⟩
    rw [whenReleased_pd_of _ _ _ hrel, if_pos he]
    exact reply_sends p _ _ _ s (carries_sop rfl ha (.inl h2)) hi hr
  · intro p s h
    exact congrArg Host.Outcome.next (whenReleased_same _ _ (by simp [h]))
  · intro p s hrel ha _ h2 hi
    refine ⟨_, rfl, ?_⟩
    simp only [whenReleased_pd_of _ _ _ hrel, h2, Bool.false_eq_true, if_false]
    exact ⟨queueMsg_busy p _ s (carries_sop rfl ha (.inl h2)) hi, queueMsg_inflight_busy hi⟩
  · intro p s hrel ha h2 hh
    refine ⟨_, rfl, ?_⟩
    rw [whenReleased_pd_of _ _ _ hrel, whenReleased_off_of _ _ _ hrel]
    simp [ha, hh]
  · intro p s hrel ha _ h2 hh hr hi
    refine ⟨_, rfl, ?_⟩
    simp only [whenReleased_pd_of _ _ _ hrel, ha, h2, hh, Bool.not_true, Bool.and_false, Bool.or_self, Bool.false_eq_true,
      if_false, Bool.true_or, if_true]
    exact queueMsg_sends (carries_sop rfl ha (.inl h2)) rfl hr hi

end Sys2Proof.Machine
end

section
/-!
PROOFS. The mailboxes of an open port.
-/

namespace Sys2Proof.Machine

/-! ## Words of `SLC_MBTX_CTL` and `SLC_MBRX_CTL` (R134, R136) -/

theorem getBit_putField_above {n : Nat} (x : BitVec n) (lo i : Nat) (h : lo + n ≤ i) : getBit (putField x lo) i = false := by
  simp [getBit, putField, show n ≤ i - lo by omega]

theorem getBit_putBit {lo i : Nat} (b : Bool) (h : i < 32) : getBit (putBit b lo) i = (b && decide (i = lo)) := by
  rcases lt_trichotomy i lo with hlt | rfl | hgt
  · simp [getBit, putBit, hlt, hlt.ne]
  · simp [getBit, putBit, h]
  · simp [getBit, putBit, hgt.ne', show ¬i - lo = 0 by omega]

theorem getField_putBit_above (b : Bool) {lo lo' : Nat} (len : Nat) (h : lo + 1 ≤ lo') : getField (putBit b lo) lo' len = 0 :=
  getField_putField_above (BitVec.ofBool b) lo lo' len h
theorem getField_putBit_below (b : Bool) {lo lo' len : Nat} (h : lo' + len ≤ lo) : getField (putBit b lo) lo' len = 0 :=
  getField_putField_below (BitVec.ofBool b) lo lo' len h

/-- A write of `SLC_MBTX_CTL` with one command bit. -/
def mbtxWord (i : Nat) (ctx : BitVec 2) (len : BitVec 9) : Word := putField ctx 0 ||| putBit true i ||| putField len 16

section
variable {i : Nat} (ctx : BitVec 2) (len : BitVec 9)

theorem mbtxWord_ctx (h : 2 ≤ i) : getField (mbtxWord i ctx len) 0 2 = ctx := by
  rw [mbtxWord, getField_or, getField_or, getField_putField_same ctx 0 (by decide), getField_putBit_below true h,
    getField_putField_below len 16 0 2 (by decide)]
  simp

theorem mbtxWord_len (h : i < 16) : getField (mbtxWord i ctx len) 16 9 = len := by
  rw [mbtxWord, getField_or, getField_or, getField_putField_above ctx 0 16 9 (by decide), getField_putBit_above true 9 h,
    getField_putField_same len 16 (by decide)]
  simp

theorem mbtxWord_bit {j : Nat} (h2 : 2 ≤ j) (h : j < 16) : getBit (mbtxWord i ctx len) j = decide (j = i) := by
  rw [mbtxWord, getBit_or, getBit_or, getBit_putField_above ctx 0 j h2, getBit_putBit true (by omega),
    getBit_putField_below len 16 j h]
  simp

end

/-! ## Sending (R136) -/

/-- The context and the length of a message are written. -/
def mbAddressed (p : Port) (ctx : BitVec 2) (len : BitVec 9) : State → State := onMb p (fun m => { m with ctx := ctx, len := len })

theorem writeMbtxCtl_send_closed {p : Port} {ctx : BitVec 2} {len : BitVec 9} {s : State}
    (h : portOpen p (s.slice p) = false) : writeMbtxCtl p (mbtxWord 4 ctx len) s = mbSend p s := by
  simp [writeMbtxCtl, h, mbtxWord_bit]

theorem writeMbtxCtl_send_open {p : Port} {ctx : BitVec 2} {len : BitVec 9} {s : State}
    (h : portOpen p (s.slice p) = true) : writeMbtxCtl p (mbtxWord 4 ctx len) s = mbSend p (mbAddressed p ctx len s) := by
  simp [writeMbtxCtl, h, mbtxWord_bit, mbtxWord_ctx, mbtxWord_len, mbAddressed]

theorem mbCheck_closed {p : Port} {x : Slice} (n : BitVec 9) (h : portOpen p x = false) : mbCheck p x n = .inl 1 := by
  simp [mbCheck, h]

theorem mbSend_busy {p : Port} {s : State} (h : (s.slice p).mb.mbtxStat.state = 2) : mbSend p s = s := by
  simp [mbSend, h]

theorem mbSend_refused {p : Port} {s : State} {c : BitVec 4} (h0 : (s.slice p).mb.mbtxStat.state = 0)
    (hc : mbCheck p (s.slice p) s.sup.maxpdo = .inl c) :
    mbSend p s = onMb p (fun m => { m with mbtxStat := { state := 5, cause := c } }) s := by
  simp [mbSend, h0, hc]

/-- A message that the check let pass is ready. -/
def mbQueued (m : TxMsg) (x : Slice) : Slice :=
  { x with mb := { x.mb with mbtxStat := { state := 1 } }, pd := { x.pd with ready := x.pd.ready ++ [m] } }

theorem mbSend_passes {p : Port} {s : State} {m : TxMsg} (h0 : (s.slice p).mb.mbtxStat.state = 0)
    (hc : mbCheck p (s.slice p) s.sup.maxpdo = .inr m) : mbSend p s = onSlice p (fun x => (mbQueued m x).pump) s := by
  simp [mbSend, h0, hc, mbQueued]

/-- Behind a frame on the line a message that the check lets pass waits. -/
theorem mbSend_queues {p : Port} {s : State} {m : TxMsg} (h0 : (s.slice p).mb.mbtxStat.state = 0)
    (hc : mbCheck p (s.slice p) s.sup.maxpdo = .inr m) (hi : (s.slice p).pd.inflight.isSome = true) :
    ((mbSend p s).slice p).mb.mbtxStat = { state := 1 } ∧
    ((mbSend p s).slice p).pd.ready = (s.slice p).pd.ready ++ [m] := by
  rw [mbSend_passes h0 hc, slice_onSlice, pump_busy (mbQueued m (s.slice p)) hi]
  exact ⟨rfl, rfl⟩

/-- What the check lets pass is a mailbox message. -/
theorem mbCheck_prio {p : Port} {x : Slice} {n : BitVec 9} {m : TxMsg} (h : mbCheck p x n = .inr m) : m.prio = .mailbox := by
  unfold mbCheck at h
  dsimp only at h
  repeat' split at h
  all_goals cases h
  all_goals rfl

/-! ## Aborting (R138) -/

theorem writeMbtxCtl_abort {p : Port} {s : State} (h : portOpen p (s.slice p) = true) :
    writeMbtxCtl p (mbtxWord 5 (s.slice p).mb.ctx (s.slice p).mb.len) s =
      mbAbort p (mbAddressed p (s.slice p).mb.ctx (s.slice p).mb.len s) := by
  simp [writeMbtxCtl, h, mbtxWord_bit, mbtxWord_ctx, mbtxWord_len, mbAddressed]

theorem pickTx_mem {x : Slice} {m : TxMsg} (h : pickTx x = some m) : m ∈ x.pd.ready := by
  refine List.foldlRecOn (motive := fun best => ∀ m, best = some m → m ∈ x.pd.ready) x.pd.ready _ ?_
    (fun best hbest a ha m hm => ?_) m h
  · intro m he
    cases he
  · split at hm
    · exact hbest m hm
    · split at hm
      · exact Option.some.inj hm ▸ ha
      · split at hm
        · exact Option.some.inj hm ▸ ha
        · exact hbest m hm

theorem transmit_mb_of_no_mailbox {x : Slice} (h : ∀ m ∈ x.pd.ready, m.prio ≠ .mailbox) : x.transmit.mb = x.mb := by
  unfold Slice.transmit
  split
  · rfl
  · split
    · rfl
    · rename_i m hm
      rw [if_neg (h m (pickTx_mem hm))]

/-- Without a mailbox message ready, letting the port send leaves the mailboxes alone. -/
theorem pump_mb_of_no_mailbox {x : Slice} (h : ∀ m ∈ x.pd.ready, m.prio ≠ .mailbox) : x.pump.mb = x.mb :=
  transmit_mb_of_no_mailbox (x := x.refresh) h

theorem mbAbort_queued {p : Port} {s : State} (h : (s.slice p).mb.mbtxStat.state = 1) :
    ((mbAbort p s).slice p).mb.mbtxStat = { (s.slice p).mb.mbtxStat with state := 6, cause := 11 } := by
  simp only [mbAbort, h, if_true, slice_onSlice]
  rw [pump_mb_of_no_mailbox (by simp)]
  simp [SliceMb.discard, h]

theorem mbAbort_late {p : Port} {s : State} (h : (s.slice p).mb.mbtxStat.state = 2) :
    mbAbort p s = onMb p (fun m => { m with mbtxStat := { m.mbtxStat with abortLate := true } }) s := by
  simp [mbAbort, h]

/-! ## The receive queue and the host's answer (R134, R135) -/

theorem writeMbrxCtl_pop {p : Port} {s : State} (h : portOpen p (s.slice p) = true) :
    writeMbrxCtl p (putBit true 0 ||| putBit (s.slice p).mb.copyOn 1) s = onMb p (fun m =>
      { m with rxq := m.rxq.tail, copyOn := (s.slice p).mb.copyOn }) s := by
  simp [writeMbrxCtl, h, getBit_or, getBit_putBit]

/-- The message in the receive buffer of SOP goes to the host. -/
theorem unsupportedMessage_routed {p : Port} {f : Frame} {phase : BitVec 16} {s : State}
    (hb : (s.slice p).pd.rxBuf.sop = some f) (hrow : unsupportedRow p (s.slice p) f.kind = some true)
    (ho : portOpen p (s.slice p) = true) (hh : (s.slice p).pd.pdcfg.hostrx = true) (hl : (s.slice p).mb.rxq.length < 4) :
    unsupportedMessage p .sop phase s = onMb p (fun m => { m with hostOwes := some f })
      (portEvent p 5 (onMb p (fun m => { m with rxq := m.rxq ++
        [{ ctx := f.ctx, isCopy := false, len := f.len, words := f.words, phase := phase, cnLo := s.cyc.cn.setWidth 16 }] })
        (onPd p (fun d => { d with rxBuf := { d.rxBuf with sop := none } }) s))) := by
  simp [unsupportedMessage, PerCtx.get, PerCtx.upd, hb, hrow, ho, hh, mbPush, not_le.2 hl]

/-- An answer for the host leaves its mailboxes' record of what it owes alone. -/
theorem answerUnsupported_owes (p : Port) (c : Ctx) (k : MsgKind) (s : State) :
    ((answerUnsupported p c k s).slice p).mb.late = (s.slice p).mb.late ∧
    ((answerUnsupported p c k s).slice p).mb.hostOwes = (s.slice p).mb.hostOwes := by
  unfold answerUnsupported
  split
  · simp [reply]
  · split
    · simp
    · simp [unsupported, reply]
  · simp [unsupported, reply]

/-- The host is late, and the slice answers in its place (R135). -/
theorem hostReplyTimeout_effect {p : Port} {f : Frame} {s : State} (ho : (s.slice p).mb.hostOwes = some f)
    (h1 : (s.slice p).mb.mbtxStat.state = 1) : ((hostReplyTimeout p s).slice p).mb.late = true ∧
    ((hostReplyTimeout p s).slice p).mb.hostOwes = none ∧ (hostReplyTimeout p s).eva.raised (8 * p.val + 5) = true := by
  simp only [hostReplyTimeout, ho, h1, show ¬(1 : BitVec 3) = 2 by decide, if_false, portEvent_slice, answerUnsupported_owes,
    slice_onSlice, true_and]
  exact portEvent_raised p 5 _ (by decide)

/-- Settles O31. -/
theorem mailboxes : Obligations.Mailboxes := by
  unfold Obligations.Mailboxes
  refine ⟨?_, ?_, ?_, ?_, ?_, ?_, ?_, ?_, ?_, ?_, ?_⟩
  · intro p ctx len s hrel ho h0
    refine ⟨_, rfl, ?_⟩
    rw [whenReleased_pd_of _ _ _ hrel, whenReleased_mb_of _ _ _ hrel, ← mbtxWord, writeMbtxCtl_send_closed ho,
      mbSend_refused h0 (mbCheck_closed _ ho), slice_onMb]
    exact ⟨rfl, rfl⟩
  · intro p len s hrel ho h2
    refine ⟨_, rfl, ?_⟩
    rw [whenReleased_pd_of _ _ _ hrel, whenReleased_mb_of _ _ _ hrel, ← mbtxWord, writeMbtxCtl_send_open ho,
      mbSend_busy (by simpa [mbAddressed]), mbAddressed, slice_onMb]
    exact ⟨rfl, rfl⟩
  · intro p len c s hrel ho h0 hc
    refine ⟨_, rfl, ?_⟩
    rw [whenReleased_pd_of _ _ _ hrel, whenReleased_mb_of _ _ _ hrel, ← mbtxWord, writeMbtxCtl_send_open ho,
      mbSend_refused (c := c) (by simpa [mbAddressed]) (by simpa [mbAddressed]), mbAddressed, slice_onMb, slice_onMb]
    exact ⟨rfl, rfl⟩
  · intro p len m s hrel ho h0 hc hi
    refine ⟨_, rfl, ?_⟩
    rw [whenReleased_pd_of _ _ _ hrel, whenReleased_mb_of _ _ _ hrel, ← mbtxWord, writeMbtxCtl_send_open ho]
    obtain ⟨hst, hready⟩ := mbSend_queues (p := p) (m := m) (s := mbAddressed p 0 len s) (by simpa [mbAddressed])
      (by simpa [mbAddressed]) (by simpa [mbAddressed])
    exact ⟨hst, by rw [hready]; simp [mbAddressed], mbCheck_prio hc⟩
  · intro p s hrel ho h1
    refine ⟨_, rfl, ?_⟩
    rw [whenReleased_mb_of _ _ _ hrel]
    dsimp only
    rw [← mbtxWord, writeMbtxCtl_abort ho, mbAbort_queued (by simpa [mbAddressed])]
    simp [mbAddressed]
  · intro p s hrel ho h2
    refine ⟨_, rfl, ?_⟩
    rw [whenReleased_mb_of _ _ _ hrel, whenReleased_pd_of _ _ _ hrel]
    dsimp only
    rw [← mbtxWord, writeMbtxCtl_abort ho, mbAbort_late (by simpa [mbAddressed])]
    simp [mbAddressed]
  · intro p s hrel ho
    refine ⟨_, rfl, ?_⟩
    simp only [whenReleased_mb_of _ _ _ hrel, writeMbrxCtl_pop ho, slice_onMb]
  · intro p s h
    exact congrArg Host.Outcome.next (whenReleased_same _ _ (by simp [writeMbrxCtl, h]))
  · intro p f phase s hrel hb hrow ho hh hl
    refine ⟨_, rfl, ?_⟩
    rw [whenReleased_pd_of _ _ _ hrel, whenReleased_mb_of _ _ _ hrel, whenReleased_eva _ _ hrel,
      unsupportedMessage_routed hb hrow ho hh hl]
    simp
  · intro p f s hrel ho h1
    refine ⟨_, rfl, ?_⟩
    rw [whenReleased_mb_of _ _ _ hrel, whenReleased_eva _ _ hrel]
    exact hostReplyTimeout_effect ho h1
  · intro p s h
    exact congrArg Host.Outcome.next (whenReleased_same _ _ (by simp [hostReplyTimeout, h]))

end Sys2Proof.Machine
end

section
/-!
PROOFS. A Request is answered.
-/

namespace Sys2Proof.Machine

/-! ## The verdicts of Table 7.3 (R145) -/

theorem judge_held (x : Slice) (new : List Offer) (r : RequestMsg) : judge x new true r = { result := 5 } := by
  simp [judge]

theorem judge_outside {x : Slice} (new : List Offer) {r : RequestMsg} (hx : x.off.xstep = .idle)
    (h : x.off.lastOffer.find? (fun o => o.pos = r.pos) = none) : judge x new false r = { result := 4 } := by
  simp only [judge, hx, h, Bool.false_or, show decide (XStep.idle = .rampingBack) = false from rfl, Bool.false_eq_true, if_false]

/-! ## From the Request to its answer -/

theorem inTransition_of_idle {x : Slice} (h : x.off.xstep = .idle) : inTransition x = false := by
  simp [inTransition, SliceOff.changing, h]

/-- The object is kept, and the first Request sets the revision (R123). -/
def requestTaken (p : Port) (r : RequestMsg) (s : State) : State :=
  onSlice p (fun x => Slice.requestRev r x) (onOff p (fun o => { o with rdo := r.rdo }) s)

section
variable (p : Port) (r : RequestMsg) (s : State)

theorem requestTaken_slice : (requestTaken p r s).slice p =
    Slice.requestRev r { s.slice p with off := { (s.slice p).off with rdo := r.rdo } } := by simp [requestTaken]
theorem requestTaken_off : ((requestTaken p r s).slice p).off = { (s.slice p).off with rdo := r.rdo } := by
  rw [requestTaken_slice]; rfl
theorem requestTaken_ready : ((requestTaken p r s).slice p).pd.ready = (s.slice p).pd.ready := by
  rw [requestTaken_slice]; rfl
theorem requestTaken_inflight : ((requestTaken p r s).slice p).pd.inflight = (s.slice p).pd.inflight := by
  rw [requestTaken_slice]; rfl
theorem requestTaken_sopActive : sopActive ((requestTaken p r s).slice p) = sopActive (s.slice p) := by
  rw [requestTaken_slice]; rfl

/-- The verdict on a Request. -/
def verdict : Verdict :=
  judge ((requestTaken p r s).slice p) (buildOffer ((requestTaken p r s).slice p) s.sup.maxpdo) s.sup.hold r

end

section
variable {p : Port} {r : RequestMsg} {s : State}

theorem verdict_held (hh : s.sup.hold = true) : verdict p r s = { result := 5 } := by
  rw [verdict, hh, judge_held]

theorem verdict_outside (hh : s.sup.hold = false) (hx : (s.slice p).off.xstep = .idle)
    (h : (s.slice p).off.lastOffer.find? (fun o => o.pos = r.pos) = none) : verdict p r s = { result := 4 } := by
  rw [verdict, hh]
  exact judge_outside _ (by rw [requestTaken_off]; exact hx) (by rw [requestTaken_off]; exact h)

variable (hs : (s.slice p).sw.swstat.prole = false) (ha : sopActive (s.slice p) = true) (hx : (s.slice p).off.xstep = .idle)
include hs ha hx

/-- An accepted Request begins the evaluation. -/
theorem request_accepts {o : Offer} (hv : (verdict p r s).offer = some o) : request p r s =
    replyWhy p .accept .acceptRequest (onSlice p (Slice.acceptRequest (100 * s.sup.maxpdo.toNat) o r) (requestTaken p r s)) := by
  rw [verdict, requestTaken] at hv
  simp only [request, hs, ha, hx, inTransition_of_idle hx, Bool.not_true, Bool.or_self, Bool.false_eq_true, if_false,
    reduceCtorEq, decide_false, onSlice_sup, onOff_sup, requestTaken, hv]

/-- A refused Request is answered, and records its result. -/
theorem request_refuses {k : BitVec 3} (hv : verdict p r s = { result := k }) : request p r s =
    reply p .sop (if k = 5 then .wait else .reject) []
      (onOff p (fun o => { o with xstat := { o.xstat with result := k } }) (requestTaken p r s)) := by
  rw [verdict, requestTaken] at hv
  simp only [request, hs, ha, hx, inTransition_of_idle hx, Bool.not_true, Bool.or_self, Bool.false_eq_true, if_false,
    reduceCtorEq, decide_false, onSlice_sup, onOff_sup, requestTaken, hv]

theorem request_refused_off {k : BitVec 3} (hv : verdict p r s = { result := k }) : ((request p r s).slice p).off =
    { (s.slice p).off with rdo := r.rdo, xstat := { (s.slice p).off.xstat with result := k } } := by
  rw [request_refuses hs ha hx hv, reply_off, slice_onOff, requestTaken_off]

/-- On an idle line the answer goes out at once. -/
theorem request_refused_sends {k : BitVec 3} (hv : verdict p r s = { result := k }) (hr : (s.slice p).pd.ready = [])
    (hi : (s.slice p).pd.inflight = none) : ((request p r s).slice p).pd.inflight =
      some { ctx := .sop, kind := if k = 5 then .wait else .reject, prio := .reply } := by
  rw [request_refuses hs ha hx hv]
  refine reply_sends p .sop _ [] _ (carries_sop rfl ?_ (.inr ?_)) ?_ ?_
  · rw [slice_onOff]; exact (requestTaken_sopActive p r s).trans ha
  · split <;> rfl
  · rw [slice_onOff]; exact (requestTaken_inflight p r s).trans hi
  · rw [slice_onOff]; exact (requestTaken_ready p r s).trans hr

end

/-- A Request while the output moves is a protocol error of a power transition (R129, R145). -/
theorem request_ramping {p : Port} {r : RequestMsg} {s : State} (hs : (s.slice p).sw.swstat.prole = false)
    (ha : sopActive (s.slice p) = true) (hx : (s.slice p).off.xstep = .ramping) : request p r s = sendHardReset p s := by
  simp [request, hs, ha, hx, inTransition, SliceOff.changing, protocolError, powerTransition]

/-- Settles O32. -/
theorem requests : Obligations.Requests := by
  unfold Obligations.Requests
  refine ⟨?_, ?_, ?_, ?_, ?_⟩
  · intro p r s hrel hs ha _ hx hh hr hi
    refine ⟨_, rfl, ?_⟩
    rw [whenReleased_pd_of _ _ _ hrel, whenReleased_off_of _ _ _ hrel, request_refused_off hs ha hx (verdict_held hh)]
    exact ⟨rfl, rfl, hx, rfl, request_refused_sends hs ha hx (verdict_held hh) hr hi⟩
  · intro p r o s hrel hs ha hx hh hv
    refine ⟨_, rfl, ?_⟩
    have hv' : (verdict p r s).offer = some o := by rw [verdict, requestTaken_slice, hh]; exact hv
    rw [whenReleased_off_of _ _ _ hrel, request_accepts hs ha hx hv', replyWhy, queueMsg_off, slice_onSlice]
    refine ⟨?_, rfl, rfl, rfl, rfl, ?_⟩
    · exact (congrArg SliceOff.rdo (requestTaken_off p r s) :)
    · exact (congrArg SliceOff.contract (requestTaken_off p r s) :)
  · intro p r s hrel hs ha _ hx hh ho hr hi
    refine ⟨_, rfl, ?_⟩
    have hv := verdict_outside hh hx ho
    rw [whenReleased_pd_of _ _ _ hrel, whenReleased_off_of _ _ _ hrel, request_refused_off hs ha hx hv]
    exact ⟨rfl, rfl, hx, rfl, request_refused_sends hs ha hx hv hr hi⟩
  · intro p r s hrel hs ha hx hh hn
    refine ⟨_, rfl, ?_⟩
    rw [whenReleased_pd_of _ _ _ hrel, whenReleased_off_of _ _ _ hrel, request_ramping hs ha hx, sendHardReset_emits p _ hh hn]
    obtain ⟨htx, hcon⟩ := emitHardReset_effect p s
    exact ⟨htx, hcon, emitHardReset_xstep p s⟩
  · intro p r s h
    exact congrArg Host.Outcome.next (whenReleased_same _ _ (by simp [request, h]))

end Sys2Proof.Machine
end

section
/-!
PROOFS. A tie port as Sink.
-/

namespace Sys2Proof.Machine

/-! ## The Request of a Sink (R204) -/

/-- The flags that a Request of the slice carries. -/
def sinkFlags (p : Port) (c : SourceCaps) (s : State) : Word :=
  putBit (wantsAid p s && c.eprCap && !rev2 (s.slice p) .sop) 0 ||| putBit (sinkChoice p c s).2 1
    ||| putBit (s.slice p).pd.pdcfg.unchk 2

/-- The Request of R204 for an offer. -/
def sinkRequestMsg (p : Port) (answer : Bool) (c : SourceCaps) (s : State) : TxMsg :=
  let o := (sinkChoice p c s).1
  { ctx := .sop, kind := if (s.slice p).sw.snkEpr then .eprRequest else .request, prio := if answer then .reply else .ams
    words := [BitVec.ofNat 32 o.pos, BitVec.ofNat 32 o.mv, BitVec.ofNat 32 o.ma, sinkFlags p c s] }

/-- What the Request asks for is kept. -/
def sinkAsked (p : Port) (c : SourceCaps) (s : State) : State := onSw p (fun w => { w with snkReq := some (sinkChoice p c s).1 }) s

section
variable {p : Port} {answer : Bool} {c : SourceCaps} {s : State} (hc : (s.slice p).sw.offered = some c)
  (h6 : (s.slice p).att.attstat.state = 6) (hw : (s.slice p).sw.swstat.swap = 0)
include hc h6 hw

/-- An attached Sink outside a swap requests from the offer that it has. -/
theorem sinkRequest_asks : sinkRequest p answer s = queueMsg p (sinkRequestMsg p answer c s) (sinkAsked p c s) := by
  simp [sinkRequest, hc, h6, hw, sinkRequestMsg, sinkFlags, sinkAsked]

theorem sinkRequest_snkReq : ((sinkRequest p answer s).slice p).sw.snkReq = some (sinkChoice p c s).1 := by
  rw [sinkRequest_asks hc h6 hw, queueMsg_sw, sinkAsked, slice_onSw]

/-- On an idle line the Request that answers an offer goes out at once. -/
theorem sinkRequest_answers (hs : (s.slice p).pd.pdstat.pdSilent = false) (he : (s.slice p).sw.snkEpr = false)
    (hr : (s.slice p).pd.ready = []) (hi : (s.slice p).pd.inflight = none) :
    ((sinkRequest p true s).slice p).pd.inflight = some (sinkRequestMsg p true c s) := by
  have hk : (sinkRequestMsg p true c s).kind = .request := by simp [sinkRequestMsg, he]
  have ha : sopActive ((sinkAsked p c s).slice p) = true := by simp [sinkAsked, sopActive, hs, h6]
  rw [sinkRequest_asks hc h6 hw]
  exact queueMsg_sends (carries_sop rfl ha (.inr (by rw [hk]; rfl))) rfl (by simp [sinkAsked, hr]) (by simp [sinkAsked, hi])

end

/-- What a Request does not record of the role block stays. -/
theorem sinkRequest_sw_same {α : Type} (g : SliceSw → α) (hg : ∀ w o, g { w with snkReq := o } = g w) (p : Port) (answer : Bool)
    (s : State) : g ((sinkRequest p answer s).slice p).sw = g (s.slice p).sw := by
  unfold sinkRequest
  dsimp only
  split
  · rfl
  · split
    · rfl
    · rw [queueMsg_sw, slice_onSw, hg]

theorem sinkRequest_offered (p : Port) (answer : Bool) (s : State) :
    ((sinkRequest p answer s).slice p).sw.offered = (s.slice p).sw.offered :=
  sinkRequest_sw_same SliceSw.offered (fun _ _ => rfl) p answer s
theorem sinkRequest_snkEntering (p : Port) (answer : Bool) (s : State) :
    ((sinkRequest p answer s).slice p).sw.snkEntering = (s.slice p).sw.snkEntering :=
  sinkRequest_sw_same SliceSw.snkEntering (fun _ _ => rfl) p answer s
theorem sinkRequest_eprFailed (p : Port) (answer : Bool) (s : State) :
    ((sinkRequest p answer s).slice p).sw.eprFailed = (s.slice p).sw.eprFailed :=
  sinkRequest_sw_same SliceSw.eprFailed (fun _ _ => rfl) p answer s
theorem sinkRequest_eprPossible (p : Port) (answer : Bool) (s : State) :
    ((sinkRequest p answer s).slice p).sw.eprPossible = (s.slice p).sw.eprPossible :=
  sinkRequest_sw_same SliceSw.eprPossible (fun _ _ => rfl) p answer s

/-! ## An offer received (R123, R126, R204) -/

/-- The offer is kept, and sets the revision where none is known. -/
def Slice.offerTaken (low : Bool) (c : SourceCaps) (x : Slice) : Slice :=
  let sop : BitVec 2 := if x.pd.pdstat.revSop = 0 then (if low then 1 else 2) else x.pd.pdstat.revSop
  { x with
    pd := { x.pd with pdstat := { x.pd.pdstat with revSop := sop, unchkOn := x.pd.pdcfg.unchk && c.unchunked && sop ≠ 1 } }
    sw := { x.sw with offered := some c } }

def offerTaken (p : Port) (c : SourceCaps) (s : State) : State :=
  onSlice p (Slice.offerTaken (c.rev2 || (s.slice p).pd.pdcfg.maxrev = 1) c) s

theorem offerTaken_sw (p : Port) (c : SourceCaps) (s : State) :
    ((offerTaken p c s).slice p).sw = { (s.slice p).sw with offered := some c } := by
  rw [offerTaken, slice_onSlice]; rfl

theorem sopActive_of_sink {x : Slice} (h6 : x.att.attstat.state = 6) (hs : x.pd.pdstat.pdSilent = false) : sopActive x = true := by
  simp [sopActive, h6, hs]

theorem sourceCapabilities_requests {p : Port} {c : SourceCaps} {s : State} (h6 : (s.slice p).att.attstat.state = 6)
    (hs : (s.slice p).pd.pdstat.pdSilent = false) : sourceCapabilities p c s = sinkRequest p true (offerTaken p c s) :=
  if_neg (by simp [h6, sopActive_of_sink h6 hs])

theorem sourceCapabilities_not_sink {p : Port} {c : SourceCaps} {s : State} (h6 : (s.slice p).att.attstat.state ≠ 6) :
    sourceCapabilities p c s = s :=
  if_pos (by rw [decide_eq_true h6, Bool.true_or])

/-- An attached Sink with an idle line keeps the offer and sends its Request. -/
theorem sourceCapabilities_effect {p : Port} {c : SourceCaps} {s : State} (h6 : (s.slice p).att.attstat.state = 6)
    (hw : (s.slice p).sw.swstat.swap = 0) (hs : (s.slice p).pd.pdstat.pdSilent = false) (he : (s.slice p).sw.snkEpr = false)
    (hr : (s.slice p).pd.ready = []) (hi : (s.slice p).pd.inflight = none) :
    ((sourceCapabilities p c s).slice p).sw.offered = some c ∧
    ((sourceCapabilities p c s).slice p).pd.inflight = some (sinkRequestMsg p true c (offerTaken p c s)) := by
  have hx : (offerTaken p c s).slice p = Slice.offerTaken (c.rev2 || (s.slice p).pd.pdcfg.maxrev = 1) c (s.slice p) :=
    slice_onSlice p _ s
  rw [sourceCapabilities_requests h6 hs, sinkRequest_offered]
  generalize offerTaken p c s = t at hx ⊢
  have ho : (t.slice p).sw.offered = some c := by rw [hx]; rfl
  exact ⟨ho, sinkRequest_answers ho (by rw [hx]; exact h6) (by rw [hx]; exact hw) (by rw [hx]; exact hs) (by rw [hx]; exact he)
    (by rw [hx]; exact hr) (by rw [hx]; exact hi)⟩

/-! ## The sink objects (R208) -/

/-- A port without `TIE` offers the pilot object alone. -/
theorem sinkObjects_of_not_tie {p : Port} {x : Slice} (epr : Bool) (h : x.sw.swcfg.tie = false) :
    sinkObjects p epr x = [(5000, pilotMa x)] := by
  simp [sinkObjects, isTie, h]

/-! ## Timers (R132, R204, R205) -/

theorem sendHardReset_now {p : Port} {s : State} (hh : s.sup.hold = false) (hn : (s.slice p).pd.hrSent < nHardResetCount) :
    ((sendHardReset p s).slice p).pd.pdcnt.hrTx = satInc (s.slice p).pd.pdcnt.hrTx ∧
    ((sendHardReset p s).slice p).pd.hrSent = (s.slice p).pd.hrSent + 1 ∧
    ((sendHardReset p s).slice p).sw.snkWaitRdy = false := by
  rw [sendHardReset_emits p s hh hn]
  exact ⟨(emitHardReset_effect p s).1, emitHardReset_hrSent p s, emitHardReset_snkWaitRdy p s⟩

/-- Settles O35. -/
theorem tieSink : Obligations.TieSink := by
  unfold Obligations.TieSink
  refine ⟨?_, ?_, ?_, ?_, ?_, ?_, ?_, ?_, ?_, ?_, ?_, ?_, ?_⟩
  · intro p c s hrel h6 hw hs he hr hi
    refine ⟨_, rfl, ?_⟩
    rw [whenReleased_pd_of _ _ _ hrel, whenReleased_sw_of _ _ _ hrel]
    obtain ⟨hoff, hsends⟩ := sourceCapabilities_effect (c := c) h6 hw hs he hr hi
    exact ⟨hoff, by simp [hsends, sinkRequestMsg, offerTaken_sw, he]⟩
  · intro p c s h
    exact congrArg Host.Outcome.next (whenReleased_same _ _ (sourceCapabilities_not_sink h))
  · intro p s hrel hp ha _ h2 hr hi
    refine ⟨_, rfl, ?_⟩
    simp only [whenReleased_pd_of _ _ _ hrel, ha, Bool.not_true, Bool.false_and, Bool.or_self, Bool.false_eq_true, if_false,
      hp, decide_true, Bool.true_or, if_true, unsupported, h2]
    exact reply_sends p _ _ _ s (carries_sop rfl ha (.inl h2)) hi hr
  · intro p s hrel hp hrole ht ha _ h2 hr hi
    refine ⟨_, rfl, ?_⟩
    simp only [whenReleased_pd_of _ _ _ hrel, ha, Bool.not_true, Bool.false_and, Bool.or_self, Bool.false_eq_true, if_false,
      not_le.2 hp, hrole, ne_eq, not_true_eq_false, decide_false, sinkObjects_of_not_tie false ht]
    simp only [isTie, ht, Bool.and_false, Bool.false_eq_true, if_false]
    exact reply_sends p _ _ _ _ (carries_sop rfl (by rw [slice_onSw]; exact ha) (.inr rfl)) (by simpa) (by simpa)
  · intro p s hrel h6 ho ha hh hn
    refine ⟨_, rfl, ?_⟩
    simp only [whenReleased_pd_of _ _ _ hrel, h6, ho, ha, decide_true, Option.isNone_none, Bool.and_self, if_true]
    obtain ⟨htx, hsent, -⟩ := sendHardReset_now hh hn
    exact ⟨htx, hsent⟩
  · intro p s hrel hw hh hn
    refine ⟨_, rfl, ?_⟩
    rw [whenReleased_pd_of _ _ _ hrel, whenReleased_sw_of _ _ _ hrel, if_pos hw]
    exact sendHardReset_now hh hn
  · intro p s h
    exact congrArg Host.Outcome.next (whenReleased_same _ _ (by simp [h]))
  · intro p c s hrel hw ho h6 hsw
    refine ⟨_, rfl, ?_⟩
    rw [whenReleased_sw_of _ _ _ hrel, if_neg (by simp [hw])]
    exact sinkRequest_snkReq ho h6 hsw
  · intro p s hrel he ha _ h2 hi
    refine ⟨_, rfl, ?_⟩
    rw [whenReleased_pd_of _ _ _ hrel, if_pos he]
    exact queueMsg_busy p _ s (carries_sop rfl ha (.inl h2)) hi
  · intro p s hrel he hn
    refine ⟨_, rfl, ?_⟩
    rw [whenReleased_sw_of _ _ _ hrel, if_neg (by simp [he, hn]), sinkRequest_snkEntering, sinkRequest_eprFailed, slice_onSw]
    exact ⟨rfl, rfl⟩
  · intro p c s hrel ho hp
    refine ⟨_, rfl, ?_⟩
    rw [whenReleased_sw_of _ _ _ hrel, if_neg (by simp [ho, hp]), sinkRequest_eprPossible, slice_onSw]
  · intro s h0 ha
    refine ⟨_, rfl, ?_⟩
    simp [h0, ha]
  · intro s h
    exact congrArg Host.Outcome.next (if_pos (by simp [h]))

end Sys2Proof.Machine
end

section
/-!
PROOFS. Thatch discovery and entry.
-/

namespace Sys2Proof.Machine

/-! ## A step of discovery or entry (R282 to R284) -/

theorem carries_onTh (p : Port) (f : SliceTh → SliceTh) (m : TxMsg) (s : State) :
    carries ((onTh p f s).slice p) m = carries (s.slice p) m := by
  rw [slice_onTh]; rfl

theorem thAdvance_th (p : Port) (step : ThStep) (state : BitVec 3) (kind : MsgKind) (words : List Word) (s : State) :
    ((thAdvance p step state kind words s).slice p).th =
      { (s.slice p).th with step := step, thstat := { (s.slice p).th.thstat with state := state } } := by
  rw [thAdvance, startAms, queueMsg_th, slice_onTh]

/-- Behind a frame on the line the step's message waits. -/
theorem thAdvance_ready {p : Port} {kind : MsgKind} {words : List Word} {s : State} (step : ThStep) (state : BitVec 3)
    (hi : (s.slice p).pd.inflight.isSome = true)
    (hc : carries (s.slice p) { ctx := .sop, kind := kind, prio := .ams, words := words } = true) :
    ((thAdvance p step state kind words s).slice p).pd.ready =
      (s.slice p).pd.ready ++ [{ ctx := .sop, kind := kind, prio := .ams, words := words }] := by
  rw [thAdvance, startAms, queueMsg_busy p _ _ (by rw [carries_onTh]; exact hc) (by rw [slice_onTh]; exact hi), slice_onTh]

theorem thStop_slice (p : Port) (state : BitVec 3) (s : State) : (thStop p state s).slice p = { s.slice p with
    th := { (s.slice p).th with step := .idle, thstat := { (s.slice p).th.thstat with state := state } } } :=
  slice_onTh p _ s

/-! ## Answers (R282, R283) -/

section
variable {p : Port} {s : State}

theorem thSvidsAnswer_thatch {l : List (BitVec 16)} (hs : (s.slice p).th.step = .svids) (hl : l.contains thatchSvid = true) :
    thSvidsAnswer p l s = thAdvance p .modes 1 (.vdm thatchSvid .discoverModes .req) [] s := by
  rw [thSvidsAnswer, if_neg (not_not.2 hs), if_pos hl]

theorem thSvidsAnswer_other {l : List (BitVec 16)} (hs : (s.slice p).th.step = .svids) (hl : l.contains thatchSvid = false) :
    thSvidsAnswer p l s = onTh p (fun t => { t with noMore := true }) (thStop p 0 s) := by
  rw [thSvidsAnswer, if_neg (not_not.2 hs), if_neg (by rw [hl]; exact Bool.false_ne_true)]

/-- The mode's VDO is kept, with no attempt to enter counted yet. -/
def thModeKept (p : Port) (v : Word) : State → State := onTh p (fun t => { t with thvdo := v, enterTries := 0 })

theorem thModesAnswer_enters {v : Word} (hs : (s.slice p).th.step = .modes) (hv : (getField v 4 4 : BitVec 4) = 1) :
    thModesAnswer p [v] s = thSendEnter p (thModeKept p v s) := by
  rw [thModesAnswer, if_neg (not_not.2 hs)]
  exact if_pos hv

theorem thModesAnswer_otherMajor {v : Word} (hs : (s.slice p).th.step = .modes) (hv : (getField v 4 4 : BitVec 4) ≠ 1) :
    thModesAnswer p [v] s = thStop p 6 (thModeKept p v s) := by
  rw [thModesAnswer, if_neg (not_not.2 hs)]
  exact if_neg hv

theorem thModesAnswer_not_one {l : List Word} (hs : (s.slice p).th.step = .modes) (hl : l.length ≠ 1) :
    thModesAnswer p l s = thStop p 6 s := by
  match l, hl with
  | [], _ => exact if_neg (not_not.2 hs)
  | _ :: _ :: _, _ => exact if_neg (not_not.2 hs)

/-- One more attempt to enter is counted. -/
def thTryCounted (p : Port) : State → State := onTh p (fun t => { t with enterTries := t.enterTries + 1 })

theorem thSendEnter_eq (p : Port) (s : State) : thSendEnter p s =
    thAdvance p .enter 2 (.vdm thatchSvid .enterMode .req) [thEnterVdo (s.slice p).th.thcfg (s.slice p).th.thvdo]
      (thTryCounted p s) := rfl

/-! ## The answer to Enter Mode (R284) -/

theorem enterModeAnswer_nak (hs : (s.slice p).th.step = .enter) : enterModeAnswer p .nak s = thStop p 6 s := by
  simp [enterModeAnswer, hs]

theorem enterModeAnswer_busy_again (hs : (s.slice p).th.step = .enter) (hb : (s.slice p).pd.busyCount < nBusyCount) :
    enterModeAnswer p .busy s = startAms p .sop (.vdm thatchSvid .enterMode .req)
      [thEnterVdo (s.slice p).th.thcfg (s.slice p).th.thvdo] (onPd p (fun d => { d with busyCount := d.busyCount + 1 }) s) := by
  simp [enterModeAnswer, hs, hb]

theorem enterModeAnswer_busy_spent (hs : (s.slice p).th.step = .enter) (hb : nBusyCount ≤ (s.slice p).pd.busyCount) :
    enterModeAnswer p .busy s = thStop p 6 s := by
  simp [enterModeAnswer, hs, not_lt.2 hb]

end

/-- Settles O47. -/
theorem thatchEntry : Obligations.ThatchEntry := by
  unfold Obligations.ThatchEntry
  refine ⟨?_, ?_, ?_, ?_, ?_, ?_, ?_, ?_, ?_, ?_, ?_, ?_, ?_⟩
  · intro p s hd hi hc
    refine ⟨_, rfl, ?_⟩
    rw [if_pos hd, thAdvance_th]
    exact ⟨rfl, rfl, thAdvance_ready _ _ hi hc⟩
  · intro p s h
    exact congrArg Host.Outcome.next (if_neg (by rw [h]; exact Bool.false_ne_true))
  · intro p l s hs hl hi hc
    refine ⟨_, rfl, ?_⟩
    rw [thSvidsAnswer_thatch hs hl, thAdvance_th]
    exact ⟨rfl, rfl, thAdvance_ready _ _ hi hc⟩
  · intro p l s hs hl
    refine ⟨_, rfl, ?_⟩
    rw [thSvidsAnswer_other hs hl, slice_onTh, thStop_slice]
    exact ⟨rfl, rfl⟩
  · intro p l s h
    exact congrArg Host.Outcome.next (if_pos h)
  · intro p v s hs hv hi hc
    refine ⟨_, rfl, ?_⟩
    have hx : (thTryCounted p (thModeKept p v s)).slice p =
        { s.slice p with th := { (s.slice p).th with thvdo := v, enterTries := 1 } } := by
      simp [thTryCounted, thModeKept]
    have hvdo : thEnterVdo ((thModeKept p v s).slice p).th.thcfg ((thModeKept p v s).slice p).th.thvdo =
        thEnterVdo (s.slice p).th.thcfg v := by simp [thModeKept]
    rw [thModesAnswer_enters hs hv, thSendEnter_eq, hvdo, thAdvance_th,
      thAdvance_ready .enter 2 (by rw [hx]; exact hi) (by rw [hx]; exact hc), hx]
    exact ⟨rfl, rfl, rfl, rfl, rfl⟩
  · intro p v s hs hv
    refine ⟨_, rfl, ?_⟩
    rw [thModesAnswer_otherMajor hs hv, thStop_slice, thModeKept, slice_onTh]
    exact ⟨rfl, rfl⟩
  · intro p l s hs hl
    refine ⟨_, rfl, ?_⟩
    rw [thModesAnswer_not_one hs hl, thStop_slice]
    exact ⟨rfl, rfl⟩
  · intro p s hs
    refine ⟨_, rfl, ?_⟩
    simp [enterModeAnswer, hs]
  · intro p s hs
    refine ⟨_, rfl, ?_⟩
    rw [enterModeAnswer_nak hs, thStop_slice]
    exact ⟨rfl, rfl⟩
  · intro p s hs hb
    refine ⟨_, rfl, ?_⟩
    rw [enterModeAnswer_busy_again hs hb, startAms, queueMsg_th, queueMsg_busyCount, slice_onPd]
    exact ⟨rfl, rfl⟩
  · intro p s hs hb
    refine ⟨_, rfl, ?_⟩
    rw [enterModeAnswer_busy_spent hs hb, thStop_slice]
  · intro p a s h
    exact congrArg Host.Outcome.next (if_pos h)

end Sys2Proof.Machine
end

section
/-!
PROOFS. The steps of a contract change.
-/

namespace Sys2Proof.Machine

/-! ## The steps of a change (R146, R148) -/

theorem srcTransitionExpiry_starts {p : Port} {c : NewContract} {s : State} (hw : (s.slice p).sw.step = .idle)
    (ha : atStep (s.slice p) .waitTransition = true) (hc : (s.slice p).off.change = some c) :
    (srcTransitionExpiry p s).slice p = { s.slice p with
        ps := { (s.slice p).ps with vset := c.mv + 10 * (s.slice p).ps.feCx }
        off := { (s.slice p).off with
          xstep := if (s.slice p).ps.vref = mvUnits (c.mv + 10 * (s.slice p).ps.feCx) then .settling else .ramping
          xstat := { (s.slice p).off.xstat with
            state := if (s.slice p).ps.vref = mvUnits (c.mv + 10 * (s.slice p).ps.feCx) then 4 else 3 } } } := by
  simp [srcTransitionExpiry, hw, ha, hc]

theorem srcTransitionExpiry_waits {p : Port} {s : State} (hw : (s.slice p).sw.step = .idle)
    (ha : atStep (s.slice p) .waitTransition = false) : srcTransitionExpiry p s = s := by
  simp [srcTransitionExpiry, hw, ha]

theorem atStep_of_held {x : Slice} (k : XStep) (h : x.off.xheld = true) : atStep x k = false := by simp [atStep, h]

/-! ## A change that takes too long (R147) -/

/-- The change has ended with result 3, and event 8n + 7 is raised. -/
def transitionEnded (p : Port) (s : State) : State :=
  s |> onSlice p (fun x => { x.endChange 0 with
        off := { (x.endChange 0).off with xstat := { (x.endChange 0).off.xstat with result := 3 } } })
    |> portEvent p 7

theorem transitionEnded_pd (p : Port) (s : State) : ((transitionEnded p s).slice p).pd = (s.slice p).pd := by
  simp [transitionEnded]
theorem transitionEnded_xstep (p : Port) (s : State) : ((transitionEnded p s).slice p).off.xstep = .idle := by
  simp [transitionEnded, endChange_xstep]
theorem transitionEnded_result (p : Port) (s : State) : ((transitionEnded p s).slice p).off.xstat.result = 3 := by
  simp [transitionEnded]

/-- A Hard Reset finds no change to end where none is under way, and leaves its result. -/
theorem hrContexts_xstat_of_idle {x : Slice} (h : x.off.xstep = .idle) : x.hrContexts.off.xstat = x.off.xstat := by
  simp [Slice.hrContexts, Slice.clearContract, Slice.endChange, Slice.resetCtx, h]

theorem emitHardReset_xstat_of_idle {p : Port} {s : State} (h : (s.slice p).off.xstep = .idle) :
    ((emitHardReset p s).slice p).off.xstat = (s.slice p).off.xstat := by
  rw [emitHardReset, hrPower_off, slice_onSlice, slice_onPd]
  exact hrContexts_xstat_of_idle h

/-- The Hard Reset that follows keeps the result. -/
theorem transitionEnded_resets {p : Port} {s : State} (hh : s.sup.hold = false) (hn : (s.slice p).pd.hrSent < nHardResetCount) :
    ((sendHardReset p (transitionEnded p s)).slice p).off.xstat.result = 3 ∧
    ((sendHardReset p (transitionEnded p s)).slice p).off.xstep = .idle ∧
    ((sendHardReset p (transitionEnded p s)).slice p).pd.pdcnt.hrTx = satInc (s.slice p).pd.pdcnt.hrTx ∧
    (sendHardReset p (transitionEnded p s)).eva.raised (8 * p.val + 7) = true := by
  have hraised : (transitionEnded p s).eva.raised (8 * p.val + 7) = true := portEvent_raised p 7 _ (by decide)
  rw [sendHardReset_emits p _ (by simpa [transitionEnded] using hh) (by rwa [transitionEnded_pd]),
    emitHardReset_xstat_of_idle (transitionEnded_xstep p s), (emitHardReset_effect p _).1, transitionEnded_pd]
  exact ⟨transitionEnded_result p s, emitHardReset_xstep p _, rfl, emitHardReset_keeps p hraised⟩

/-! ## A change turned back (R150, R151) -/

theorem writeXctl_abort (p : Port) (s : State) : writeXctl p 1 s = abortChange p 1 s := rfl
theorem writeXctl_readv (p : Port) (s : State) : writeXctl p 2 s = advertise p s := rfl

theorem abortChange_idle {p : Port} {s : State} (k : BitVec 3) (h : (s.slice p).off.xstep = .idle) : abortChange p k s = s := by
  simp [abortChange, h]

theorem abortChange_ramping {p : Port} {s : State} (k : BitVec 3) (h : (s.slice p).off.xstep = .ramping)
    (hl : readyOnLine (s.slice p) = false) : abortChange p k s = onSlice p (Slice.rampBack k) s := by
  simp [abortChange, h, hl]

/-! ## Advertisements (R144) -/

theorem advertise_held {p : Port} {s : State} (hh : s.sup.hold = true) :
    advertise p s = onOff p (fun o => { o with advertDue := true }) s := by
  simp [advertise, hh]

theorem advertMarked_slice (p : Port) (s : State) : (advertMarked p s).slice p = { s.slice p with
    off := { (s.slice p).off with advertDue := false, advertLater := false }, pd := { (s.slice p).pd with capsSent := true } } := by
  simp [advertMarked]

/-- Behind a frame on the line the offer waits, the only frame that does. -/
theorem advertise_waits {p : Port} {s : State} (hh : s.sup.hold = false) (hs : (s.slice p).sw.swstat.prole = false)
    (ha : sopActive (s.slice p) = true) (h2 : rev2 (s.slice p) .sop = false) (hr : (s.slice p).pd.ready = [])
    (hres : (s.slice p).pd.restart = []) (hi : (s.slice p).pd.inflight.isSome = true) :
    ((advertise p s).slice p).pd.ready = [advertMsg ((advertMarked p s).slice p) (advertMarked p s)] := by
  have hsop : sopActive ((advertMarked p s).slice p) = true := by rw [advertMarked_slice]; exact ha
  have hrev : rev2 ((advertMarked p s).slice p) .sop = false := by rw [advertMarked_slice]; exact h2
  rw [advertise_queues hh hs ha (by simp [advertWaiting, hr, hres]),
    queueMsg_busy p _ _ (carries_sop rfl hsop (.inl hrev)) (by rw [advertMarked_slice]; exact hi), advertMarked_slice, hr,
    List.nil_append]

theorem queueMsg_ps (p : Port) (m : TxMsg) (s : State) : ((queueMsg p m s).slice p).ps = (s.slice p).ps :=
  queueMsg_same Slice.ps (fun _ _ => rfl) pump_ps p m s

theorem advertise_ps (p : Port) (s : State) : ((advertise p s).slice p).ps = (s.slice p).ps := by
  simp [advertise, renewAdverts, queueMsg_ps, apply_ite (State.slice · p), apply_ite Slice.ps]

/-- Of the offer block an advertisement touches only what says that one is due. -/
theorem advertise_off_same {α : Type} (g : SliceOff → α) (hg : ∀ o a b, g { o with advertDue := a, advertLater := b } = g o)
    (p : Port) (s : State) : g ((advertise p s).slice p).off = g (s.slice p).off := by
  have hd (o : SliceOff) : g { o with advertDue := true } = g o := hg o true o.advertLater
  simp only [advertise, apply_ite (State.slice · p), apply_ite Slice.off, apply_ite g, slice_onOff, slice_onPd, hd,
    pump_slice, pump_off, renewAdverts_off, queueMsg_off, hg, ite_self]

/-- Settles O33, clause by clause: what each step writes, or that its guard fails and the state stays. -/
theorem contractChange : Obligations.ContractChange := by
  unfold Obligations.ContractChange
  refine ⟨?_, ?_, ?_, ?_, ?_, ?_, ?_, ?_, ?_, ?_, ?_, ?_, ?_, ?_⟩
  · intro p c s hrel hw ha hc
    refine ⟨_, rfl, ?_⟩
    rw [whenReleased_ps_vset _ _ _ hrel, whenReleased_off_of _ _ _ hrel, srcTransitionExpiry_starts hw ha hc]
    exact ⟨rfl, rfl, rfl⟩
  · intro p s hw hx
    exact congrArg Host.Outcome.next (whenReleased_same _ _ (srcTransitionExpiry_waits hw (atStep_of_held _ hx)))
  · intro p s hrel ha
    refine ⟨_, rfl, ?_⟩
    simp [hrel, ha, SlicePs.arrive]
  · intro p s h
    exact congrArg Host.Outcome.next (whenReleased_same _ _ (if_neg (by simp [h])))
  · intro p s hrel ha hsop hr hi
    refine ⟨_, rfl, ?_⟩
    rw [whenReleased_off_of _ _ _ hrel, whenReleased_pd_of _ _ _ hrel, if_pos ha, replyWhy, queueMsg_off, slice_onOff]
    refine ⟨rfl, rfl, queueMsg_sends (carries_sop rfl ?_ (.inr rfl)) rfl ?_ ?_⟩
    all_goals rwa [slice_onOff]
  · intro p s hrel ht hx hl hh hn
    refine ⟨_, rfl, ?_⟩
    rw [whenReleased_off_of _ _ _ hrel, whenReleased_pd_of _ _ _ hrel, whenReleased_eva _ _ hrel,
      if_neg (by simp [ht, hx, hl])]
    exact transitionEnded_resets hh hn
  · intro p s h
    exact congrArg Host.Outcome.next (whenReleased_same _ _ (if_pos (by simp [h])))
  · intro p s hrel hx
    refine ⟨_, rfl, ?_⟩
    rw [whenReleased_off_of _ _ _ hrel, whenReleased_ps_vref _ _ _ hrel, if_neg (not_not.2 hx), advertise_ps,
      advertise_off_same (·.xstep) (fun _ _ _ => rfl), advertise_off_same (·.change) (fun _ _ _ => rfl),
      advertise_off_same (·.xstat) (fun _ _ _ => rfl), endAms_off, slice_onSlice]
    simp [endAms, SlicePs.arrive]
  · intro p s h
    exact congrArg Host.Outcome.next (whenReleased_same _ _ (if_pos h))
  · intro p s hrel hx hl
    refine ⟨_, rfl, ?_⟩
    rw [whenReleased_off_of _ _ _ hrel, whenReleased_ps_vset _ _ _ hrel, writeXctl_abort, abortChange_ramping 1 hx hl,
      slice_onSlice]
    exact ⟨rfl, rfl, rfl⟩
  · intro p s h
    exact congrArg Host.Outcome.next (whenReleased_same _ _ (abortChange_idle 1 h))
  · intro p s hrel hh
    refine ⟨_, rfl, ?_⟩
    rw [whenReleased_off_of _ _ _ hrel, whenReleased_pd_of _ _ _ hrel, writeXctl_readv, advertise_held hh, slice_onOff]
    exact ⟨rfl, rfl⟩
  · intro p s hrel hh hs ha h2 hr hres hi
    refine ⟨_, rfl, ?_⟩
    rw [whenReleased_pd_of _ _ _ hrel, writeXctl_readv, advertise_waits hh hs ha h2 hr hres hi]
    exact congrArg (fun o => [(TxWhy.advert, TxPrio.ams, o)]) (buildOffer_advertMarked p s s.sup.maxpdo)
  · intro p s hrel hl
    refine ⟨_, rfl, ?_⟩
    simp [hrel, hl]

end Sys2Proof.Machine
end

section
/-!
PROOFS. A SNKDROP trip that the loss of the cascade input takes back: the refutation of the clause on SNKDROP_TRIP.
-/

namespace Sys2Proof.Machine

/-! ## Turns of the ports after a change of the active input -/

/-- A loop of turns keeps a property of a slice that the port's own turn keeps and that does not look at the stagger phase. -/
theorem foldl_slice {f : Port → State → State} (hb : ∀ q s, (f q s).beside q = s.beside q) (p : Port) {I : Slice → Prop}
    (hI : ∀ x : Slice, I x.noPhase ↔ I x) (hself : ∀ s, I (s.slice p) → I ((f p s).slice p)) (l : List Port) (s : State)
    (h : I (s.slice p)) : I ((l.foldl (fun s q => f q s) s).slice p) := by
  induction l generalizing s with
  | nil => exact h
  | cons q l ih =>
    refine ih _ ?_
    by_cases hq : p = q
    · exact hq ▸ hself s h
    · have hx : ((f q s).slice p).noPhase = (s.slice p).noPhase := beside_slice (hb q s) hq
      rwa [← hI, hx, hI]

theorem frsCheck_of_not_tie {p : Port} {s : State} (ht : (s.slice p).sw.swcfg.tie = false)
    (ha : (s.slice p).sw.swstat.frsArmed = false) : frsCheck p s = s := by
  simp [frsCheck, frsReady, isTie, ht, ha]

theorem alertBit_unconnected {p : Port} (b : BitVec 3) {s : State} (h : (s.slice p).pd.conSince = false) :
    alertBit p b s = s := by
  simp [alertBit, h]

theorem sinkRequest_not_sink {p : Port} (b : Bool) {s : State} (h : (s.slice p).att.attstat.state ≠ 6) :
    sinkRequest p b s = s := by
  unfold sinkRequest; dsimp only; split
  · rfl
  · exact if_pos (by rw [decide_eq_true h, Bool.true_or])

/-! ## A port that a fall of V_max sends into ErrorRecovery (R130, R156) -/

/-- A port in Attached.SNK with the power role of a Source, in EPR mode under a shed with no EPR object left to offer, whose
Hard Resets are spent. The clause on SNKDROP_TRIP asks for no power role, so it speaks of such a port too. -/
def Slice.EprSpent (x : Slice) : Prop :=
  (x.att.attstat.state = 6 ∧ x.sw.swstat.prole = false ∧ x.sw.swstat.frsArmed = false ∧ x.sw.swcfg.tie = false) ∧
  (x.pd.capsSent = true ∧ x.pd.conSince = false ∧ x.pd.hadContract = true ∧ x.pd.hrSent = nHardResetCount) ∧
  (x.off.xstep = .idle ∧ x.off.contract.epr = true ∧ x.off.offcfg.epr = false ∧ x.off.eprLeaving = false ∧
    x.off.limit = .shed ∧ x.off.proflim.vceil = 0 ∧ 0 < x.off.conMv) ∧
  x.pr.prstat.pstate ≠ 4

/-- A port in ErrorRecovery, its trip cleared. -/
def Slice.Recovered (x : Slice) : Prop :=
  x.att.attstat.state = 14 ∧ x.pd.conSince = false ∧ x.sw.swstat.frsArmed = false ∧ x.sw.swcfg.tie = false ∧
    x.pr.prstat.pstate = 0

theorem errorRecovery_recovered {p : Port} {s : State} (ht : (s.slice p).sw.swcfg.tie = false)
    (h4 : (s.slice p).pr.prstat.pstate ≠ 4) : ((errorRecovery p s).slice p).Recovered := by
  refine ⟨errorRecovery_state p s, ?_, ?_, ?_, ?_⟩
  · simp [errorRecovery, Slice.clearAttach, Slice.clearContract]
  · simp [errorRecovery, Slice.clearAttach, Slice.clearContract]
  · simp [errorRecovery, Slice.clearAttach, Slice.clearContract, ht]
  · simpa [errorRecovery, Slice.clearAttach, Slice.clearContract] using h4

/-- EPR mode under a shed ends in a Hard Reset (R156), and one beyond nHardResetCount in ErrorRecovery (R130). -/
theorem limitsChanged_recovered {p : Port} {s : State} (h : (s.slice p).EprSpent) :
    ((limitsChanged p s).slice p).Recovered := by
  obtain ⟨⟨-, hs, -, ht⟩, ⟨hcaps, -, hcon, hn⟩, ⟨hx, he, ho, hl, hshed, hv, hmv⟩, h4⟩ := h
  have hempty (m : BitVec 9) : eprOffer (s.slice p) m = [] := by simp [eprOffer, ho]
  have hlim (m : BitVec 9) : (offerLimits (s.slice p) m).vlim < (s.slice p).off.conMv := by
    simpa [offerLimits, hv] using hmv
  have hreset : limitsChanged p s = sendHardReset p (onOff p (fun o => { o with eprLeaving := true }) (renewAdverts p s)) := by
    simp [limitsChanged, hs, hcaps, hx, he, hl, hshed, hempty, hlim]
  rw [hreset, sendHardReset_spent (by simp [renewAdverts, hn]), if_pos (by simp [renewAdverts, hcon])]
  exact errorRecovery_recovered (by simpa [renewAdverts]) (by simpa [renewAdverts])

theorem publishVmax_recovered {p : Port} {v : BitVec 9} {s : State} (hv : v ≠ s.sup.maxpdo) (h : (s.slice p).EprSpent) :
    ((publishVmax v s).slice p).Recovered := by
  rw [publishVmax, if_neg hv]
  exact overPorts_slice limitsChanged_beside p (fun _ => Iff.rfl) (fun _ => Iff.rfl) (fun _ => limitsChanged_recovered) h

/-! ## What the port keeps until V_max falls -/

theorem grantMoved_eprSpent (p : Port) (old : SliceGr) (b : Bool) {s : State} (h : (s.slice p).EprSpent) :
    ((grantMoved p old b s).slice p).EprSpent := by
  obtain ⟨⟨h6, -, ha, ht⟩, ⟨-, hc, -⟩, -⟩ := id h
  have he : grantMoved p old b s =
      frsCheck p (onTh p (thGrantChange (s.slice p).gr.eff (s.slice p).ps.tlmI.pout.toNat (conPower (s.slice p))) s) := by
    simp [grantMoved, h6, alertBit_unconnected _ hc]
  rw [he, frsCheck_of_not_tie (by rwa [slice_onTh]) (by rwa [slice_onTh]), slice_onTh]
  exact h

theorem capUpdate_eprSpent {p : Port} {s : State} (h : (s.slice p).EprSpent) : ((capUpdate s).slice p).EprSpent := by
  unfold capUpdate
  dsimp only
  refine foldl_slice (f := fun q t => grantMoved q (s.slice q).gr true t) (fun q t => grantMoved_beside q _ true t) p
    (fun _ => Iff.rfl) (fun t => grantMoved_eprSpent p _ true) _ _ ?_
  simp only [apply_ite (State.slice · p), supplyEvent_slice, ite_self]
  exact foldl_slice (fun q t => onGr_beside q _ t) p (fun _ => Iff.rfl) (fun t ht => by rw [slice_onGr]; exact ht) _ s h

theorem openSnkg_eprSpent {p : Port} (q : Port) {s : State} (h : (s.slice p).EprSpent) :
    ((onSlice q Slice.openSnkg s).slice p).EprSpent := by
  by_cases hq : p = q
  · subst hq; rw [slice_onSlice]; exact h
  · rwa [slice_onSlice_ne _ _ hq]

theorem sinkTrip_eprSpent {p : Port} (k : BitVec 4) (i v : BitVec 16) {s : State} (h : (s.slice p).EprSpent) :
    ((sinkTrip p k i v s).slice p).EprSpent := by
  obtain ⟨⟨h6, hs, -, ht⟩, hpd, hoff, -⟩ := h
  simpa [Slice.EprSpent, sinkTrip, Slice.openSnkg] using And.intro (And.intro h6 (And.intro hs ht)) (And.intro hpd hoff)

/-! ## The loss of the last supply (R57, R59) -/

/-- V_max falls to 0 with the active input; after ErrorRecovery nothing else that follows touches the port. -/
theorem activeMoved_recovered {p : Port} {old : InputId} {s : State} (ho : old ≠ .none) (ha : s.sup.active = .none)
    (hm : s.sup.maxpdo ≠ 0) (h : (s.slice p).EprSpent) : ((activeMoved old s).slice p).Recovered := by
  unfold activeMoved
  dsimp only
  rw [if_neg (by simp [ho]), if_pos (by rwa [capUpdate_sup])]
  refine foldl_slice frsCheck_beside p (fun _ => Iff.rfl)
    (fun t ⟨_, _, harm, htie, _⟩ => by rwa [frsCheck_of_not_tie htie harm]) _ _ ?_
  refine foldl_slice (fun q t => sinkRequest_beside q false t) p (fun _ => Iff.rfl)
    (fun t ⟨h14, _⟩ => by rwa [sinkRequest_not_sink false (by rw [h14]; decide)]) _ _ ?_
  refine foldl_slice (fun q t => alertBit_beside q _ t) p (fun _ => Iff.rfl)
    (fun t ⟨_, hc, _⟩ => by rwa [alertBit_unconnected _ hc]) _ _ ?_
  exact publishVmax_recovered (by rw [capUpdate_sup]; exact hm.symm) (capUpdate_eprSpent h)

/-- Cascade on port `p` is the active input, the only one, and the hold line is asserted. -/
structure OnlyCascade (p : Port) (u : Sup) : Prop where
  hold : u.hold = true
  active : u.active = .cascade
  qualified : u.cascQ = true
  port : u.cascPort = some p
  main : u.main.qual = false
  bkup : u.bkup.qual = false
  maxpdo : u.maxpdo ≠ 0

theorem noSupply_recovered {p : Port} {s : State} (hh : s.sup.hold = true) (ha : s.sup.active = .cascade)
    (hm : s.sup.maxpdo ≠ 0) (h : (s.slice p).EprSpent) : ((noSupply s).slice p).Recovered := by
  have hset : ((setActive .none s).slice p).Recovered := by
    unfold setActive
    dsimp only
    rw [if_neg (by rw [ha]; decide), if_pos ha]
    exact activeMoved_recovered (by rw [ha]; decide) rfl hm (openSnkg_eprSpent 1 (openSnkg_eprSpent 0 h))
  unfold noSupply
  rw [holdAssert, if_pos hh]
  dsimp only
  split
  · rw [pfwAssert_slice]; exact hset
  · exact hset

theorem cascadeLost_recovered {p : Port} {s : State} (hu : OnlyCascade p s.sup) (h : (s.slice p).EprSpent) :
    ((cascadeLost p s).slice p).Recovered := by
  have hsup := noSupply_sup (s := cascGone p s) (by rw [show (cascGone p s).sup.active = .cascade from hu.active]; decide)
  rw [cascadeLost_eq hu.qualified hu.port, if_pos hu.active, activeLost_to_none (s := cascGone p s) hu.main hu.bkup,
    connectNext_unqualified (by rw [hsup]; exact hu.main) (by rw [hsup]; exact hu.bkup) (by rw [hsup]; rfl),
    pfwFollow_none (by rw [hsup])]
  exact noSupply_recovered hu.hold hu.active hu.maxpdo (openSnkg_eprSpent p h)

/-- The loss of the cascade input that a SNKDROP trip brings about (R226) takes its `PSTATE` back. -/
theorem snkdropTrip_recovers {p : Port} {i v : BitVec 16} {s t : State} (hrel : s.did.released = true)
    (hk : (s.slice p).sw.swstat.snkp = 2) (hu : OnlyCascade p s.sup) (h : (s.slice p).EprSpent)
    (ht : exec (.snkdropTrip p i v) s = .next t) : (t.slice p).pr.prstat.pstate = 0 := by
  have hx : ((raiseLevel p 0x8 s).slice p).EprSpent := by rw [raiseLevel, slice_onPr]; exact h
  have hsup : (sinkTrip p 8 i v (raiseLevel p 0x8 s)).sup = s.sup := by simp [sinkTrip, raiseLevel]
  obtain ⟨-, -, -, -, hzero⟩ := cascadeLost_recovered (by rwa [hsup]) (sinkTrip_eprSpent 8 i v hx)
  obtain rfl := Host.Outcome.next.inj ht
  rw [whenReleased_pr_of _ _ _ hrel, if_neg (not_not.2 hk), onSup_slice, slice_onSw]
  exact hzero

/-- Refutes O41: its clause on SNKDROP_TRIP says that the port is left with `PSTATE` 1. With cascade the only input the trip
ends the supply, V_max falls to 0, and a port in EPR mode with the role of a Source answers that with a Hard Reset, which
beyond nHardResetCount is ErrorRecovery: `PSTATE` is 0. -/
theorem not_retriesAndChecks : ¬ Obligations.RetriesAndChecks := by
  unfold Obligations.RetriesAndChecks
  rintro ⟨-, -, -, -, -, -, -, -, -, -, -, -, -, snkdrop_trips, -⟩
  let x : Slice := { Slice.reset 0 with
    att.attstat.state := 6, sw.swstat.snkp := 2, pd.capsSent := true, pd.hadContract := true, pd.hrSent := nHardResetCount
    off.contract.epr := true, off.offcfg.epr := false, off.limit := .shed, off.proflim.vceil := 0, off.conMv := 28000 }
  let s : State := onSlice 0 (fun _ => x) { State.reset with
    did.released := true, sup.hold := true, sup.active := .cascade, sup.cascQ := true, sup.cascPort := some 0
    sup.maxpdo := 280 }
  have hx : s.slice 0 = x := slice_onSlice 0 _ _
  have hu : OnlyCascade 0 s.sup := ⟨rfl, rfl, rfl, rfl, rfl, rfl, by decide⟩
  have hspent : x.EprSpent := by unfold Slice.EprSpent; decide
  obtain ⟨t, ht, -, -, -, hpstate, -⟩ := snkdrop_trips 0 0 0 s rfl (by rw [hx]) (by rw [hx]) (by rw [hx]; rfl)
  have hzero := snkdropTrip_recovers rfl (by rw [hx]) hu (by rwa [hx]) ht
  rw [hpstate] at hzero
  exact absurd hzero (by decide)

end Sys2Proof.Machine
end

section
/-!
PROOFS. Trips of a Source (R216 to R223): what a trip leaves behind, and the limits and comparators that bring one about.
-/

namespace Sys2Proof.Machine

/-! ## What a trip leaves behind (R219 to R223) -/

/-- `TRIES` after a trip: a trip of a retry attempt is a failed attempt. -/
def SlcPrstat.triesAfter (st : SlcPrstat) : BitVec 8 := if st.pstate = 2 then satInc st.tries else st.tries

/-- A trip latches the port off: a failed attempt takes `TRIES` to the configured count. -/
def tripLatches (p : Port) (s : State) : Bool :=
  (s.slice p).pr.prstat.pstate = 2 && retryCount p s ≠ 0 && retryCount p s ≤ (s.slice p).pr.prstat.triesAfter.toNat

/-- A slice after a trip with cause `k` that leaves it in `pstate` with `tries`; `i` in mA and `v` in 10 mV. -/
def Slice.tripped (k : BitVec 4) (pstate : BitVec 3) (tries : BitVec 8) (i v : BitVec 16) (x : Slice) : Slice :=
  { x with
    pr := { x.pr with
      tripv := { itrip := i, vtrip := v }, tenSec := false, attemptDue := false
      prstat := { x.pr.prstat with cause := k, pstate := pstate, trips := satInc x.pr.prstat.trips, tries := tries } }
    sw := { x.sw with swstat := { x.sw.swstat with frsArmed := false } } }.powerOff.pump

section
variable (k : BitVec 4) (pstate : BitVec 3) (tries : BitVec 8) (i v : BitVec 16) (x : Slice)

@[simp] theorem tripped_prstat : (x.tripped k pstate tries i v).pr.prstat =
    { x.pr.prstat with cause := k, pstate := pstate, trips := satInc x.pr.prstat.trips, tries := tries } := by
  simp [Slice.tripped]
@[simp] theorem tripped_tripv : (x.tripped k pstate tries i v).pr.tripv = { itrip := i, vtrip := v } := by
  simp [Slice.tripped]
@[simp] theorem tripped_acc : (x.tripped k pstate tries i v).pr.acc = 0 := by
  rw [Slice.tripped, pump_pr]; rfl
@[simp] theorem tripped_isog : (x.tripped k pstate tries i v).pins.isog = false := by simp [Slice.tripped]
@[simp] theorem tripped_pwm : (x.tripped k pstate tries i v).pins.pwm = .highZ := by simp [Slice.tripped]
@[simp] theorem tripped_pbfail : (x.tripped k pstate tries i v).ps.psstat.pbfail = x.ps.psstat.pbfail := by
  simp [Slice.tripped]

end

/-- A cause trips the port: it is powered, in normal operation or in a retry attempt (R219), and neither a power transition
runs nor a swap, which would end in a Hard Reset besides (R221). -/
structure Slice.Trips (x : Slice) : Prop where
  powered : x.ps.running = true ∨ x.pins.isog = true
  watched : x.pr.prstat.pstate = 0 ∨ x.pr.prstat.pstate = 2
  quiet : inExchange x = false

theorem trip_eq {p : Port} (k : BitVec 4) (i v : BitVec 16) {s : State} (h : (s.slice p).Trips) :
    trip p k i v s = tripEvent p (tripLatches p s) (onSlice p
      (Slice.tripped k (if tripLatches p s then 3 else 1) (s.slice p).pr.prstat.triesAfter i v) s) := by
  have hacts : ¬(((s.slice p).pr.prstat.pstate ≠ 0 && (s.slice p).pr.prstat.pstate ≠ 2)
      || !((s.slice p).ps.running || (s.slice p).pins.isog)) = true := by
    rcases h.watched with hst | hst <;> rcases h.powered with hon | hon <;> simp [hst, hon]
  unfold trip
  dsimp only
  rw [if_neg hacts, if_neg (Bool.eq_false_iff.1 h.quiet)]
  rfl

/-- A trip out of normal operation starts an off time: no attempt has failed. -/
theorem trip_normal {p : Port} (k : BitVec 4) (i v : BitVec 16) {s : State} (h : (s.slice p).Trips)
    (h0 : (s.slice p).pr.prstat.pstate = 0) : trip p k i v s =
      tripEvent p false (onSlice p (Slice.tripped k 1 (s.slice p).pr.prstat.tries i v) s) := by
  have hl : tripLatches p s = false := by simp [tripLatches, h0]
  have ht : (s.slice p).pr.prstat.triesAfter = (s.slice p).pr.prstat.tries := by simp [SlcPrstat.triesAfter, h0]
  rw [trip_eq k i v h, hl, ht, if_neg Bool.false_ne_true]

/-- A trip of a retry attempt counts it as failed, and latches off or starts an off time. -/
theorem trip_attempt {p : Port} (k : BitVec 4) (i v : BitVec 16) {s : State} (h : (s.slice p).Trips)
    (h2 : (s.slice p).pr.prstat.pstate = 2) : trip p k i v s = tripEvent p (tripLatches p s) (onSlice p
      (Slice.tripped k (if tripLatches p s then 3 else 1) (satInc (s.slice p).pr.prstat.tries) i v) s) := by
  rw [trip_eq k i v h, SlcPrstat.triesAfter, if_pos h2]

theorem tripLatches_of_tries_spent {p : Port} {s : State} (h2 : (s.slice p).pr.prstat.pstate = 2) (h0 : retryCount p s ≠ 0)
    (hn : retryCount p s ≤ (satInc (s.slice p).pr.prstat.tries).toNat) : tripLatches p s = true := by
  simp [tripLatches, SlcPrstat.triesAfter, h2, h0, hn]

/-- A count of 0 is unlimited (R223). -/
theorem tripLatches_of_unlimited {p : Port} {s : State} (h0 : retryCount p s = 0) : tripLatches p s = false := by
  simp [tripLatches, h0]

section
variable {p : Port} {s : State} (k : BitVec 4) (i v : BitVec 16)

theorem trip_acc (h : (s.slice p).Trips) : ((trip p k i v s).slice p).pr.acc = 0 := by simp [trip_eq k i v h]

theorem trip_pbfail (h : (s.slice p).Trips) :
    ((trip p k i v s).slice p).ps.psstat.pbfail = (s.slice p).ps.psstat.pbfail := by simp [trip_eq k i v h]

/-- What a trip out of normal operation shows, with `st` in `SLC_PRSTAT` before it. -/
theorem trip_normal_effect {st : SlcPrstat} (h : (s.slice p).Trips) (hst : (s.slice p).pr.prstat = st) (h0 : st.pstate = 0) :
    ((trip p k i v s).slice p).pr.prstat = { st with cause := k, pstate := 1, trips := satInc st.trips } ∧
    ((trip p k i v s).slice p).pr.tripv = { itrip := i, vtrip := v } ∧
    ((trip p k i v s).slice p).pins.isog = false ∧ ((trip p k i v s).slice p).pins.pwm = .highZ ∧
    (trip p k i v s).eva.raised (8 * p.val + 3) = true := by
  subst hst
  rw [trip_normal k i v h h0]
  simp

/-- What a failed retry attempt shows. -/
theorem trip_attempt_effect (h : (s.slice p).Trips) (h2 : (s.slice p).pr.prstat.pstate = 2) :
    ((trip p k i v s).slice p).pr.prstat =
      { (s.slice p).pr.prstat with
        cause := k, pstate := if tripLatches p s then 3 else 1
        trips := satInc (s.slice p).pr.prstat.trips, tries := satInc (s.slice p).pr.prstat.tries } ∧
    ((trip p k i v s).slice p).pins.isog = false ∧ (trip p k i v s).eva.raised (8 * p.val + 3) = true := by
  rw [trip_attempt k i v h h2]
  simp

end

/-! ## Limited periods (R216, R217) -/

theorem peak_of_new {x : SlicePr} (h : x.peakNow = false) :
    x.peak = { x with peakNow := true, peakRun := x.peakRun + 1, lvl := x.lvl ||| 1 } :=
  if_neg (Bool.eq_false_iff.1 h)

theorem rev_of_new {x : SlicePr} (h : x.revNow = false) :
    x.rev = { x with revNow := true, revRun := x.revRun + 1, lvl := x.lvl ||| 8 } :=
  if_neg (Bool.eq_false_iff.1 h)

@[simp] theorem rev_falling (x : SlicePr) : x.rev.falling = x.falling := by
  unfold SlicePr.rev; split <;> rfl

/-! ## What is reported or counted before the trip: it changes neither `SLC_PRSTAT` nor what feeds the port -/

theorem onPr_prstat {p : Port} {g : SlicePr → SlicePr} {s : State} (hg : ∀ r, (g r).prstat = r.prstat) :
    ((onPr p g s).slice p).pr.prstat = (s.slice p).pr.prstat := by
  rw [slice_onPr]; exact hg _

theorem onPr_trips {p : Port} {g : SlicePr → SlicePr} {s : State} (hg : ∀ r, (g r).prstat = r.prstat)
    (h : (s.slice p).Trips) : ((onPr p g s).slice p).Trips := by
  obtain ⟨hon, hst, hx⟩ := h
  rw [slice_onPr]
  exact ⟨hon, by rwa [hg], hx⟩

theorem peak_prstat (x : SlicePr) : x.peak.prstat = x.prstat := by
  unfold SlicePr.peak; split <;> rfl

theorem rev_prstat (x : SlicePr) : x.rev.prstat = x.prstat := by
  unfold SlicePr.rev; split <;> rfl

/-- An interval of the fuse is counted (R218). -/
def fuseCounted (p : Port) (mean : Int) : State → State :=
  onSlice p (fun x => { x with pr := { x.pr with acc := fuseStep x.ir mean x.pr.acc } })

theorem fuseCounted_slice (p : Port) (mean : Int) (s : State) : (fuseCounted p mean s).slice p =
    { s.slice p with pr := { (s.slice p).pr with acc := fuseStep (s.slice p).ir mean (s.slice p).pr.acc } } :=
  slice_onSlice p _ s

theorem fuseCounted_trips {p : Port} {s : State} (mean : Int) (h : (s.slice p).Trips) :
    ((fuseCounted p mean s).slice p).Trips := by
  obtain ⟨hon, hst, hx⟩ := h
  rw [fuseCounted_slice]
  exact ⟨hon, hst, hx⟩

/-- The failed check of the pre-bias is reported (R176). -/
def prebiasNoted (p : Port) (cause : BitVec 2) : State → State :=
  onPs p (fun x => { x with psstat := { x.psstat with pbfail := cause } })

theorem prebiasNoted_slice (p : Port) (cause : BitVec 2) (s : State) : (prebiasNoted p cause s).slice p =
    { s.slice p with ps := { (s.slice p).ps with psstat := { (s.slice p).ps.psstat with pbfail := cause } } } :=
  slice_onPs p _ s

theorem prebiasNoted_trips {p : Port} {s : State} (cause : BitVec 2) (h : (s.slice p).Trips) :
    ((prebiasNoted p cause s).slice p).Trips := by
  obtain ⟨hon, hst, hx⟩ := h
  rw [prebiasNoted_slice]
  exact ⟨hon, hst, hx⟩

theorem running_of_prebias {x : Slice} (h : x.ps.psstat.cstate = 3) : x.ps.running = true := by
  simp [SlicePs.running, h]

theorem powered_of_sourceWatched {x : Slice} (h : sourceWatched x = true) : x.ps.running = true ∨ x.pins.isog = true := by
  simp only [sourceWatched, Bool.and_eq_true, Bool.or_eq_true] at h
  exact h.2

/-! ## The obligation -/

/-- Settles O40: each command is a trip with its cause, or counts and stays below its limit, or finds its guard false. -/
theorem trips : Obligations.Trips := by
  unfold Obligations.Trips
  refine ⟨?_, ?_, ?_, ?_, ?_, ?_, ?_, ?_, ?_, ?_, ?_, ?_, ?_, ?_⟩
  · intro p i v s hrel hrun hnew hmax h0 hx
    refine ⟨_, rfl, ?_⟩
    rw [whenReleased_pr_of _ _ _ hrel, whenReleased_pins_of _ _ _ hrel, whenReleased_eva _ _ hrel, if_neg (by simp [hrun])]
    dsimp only
    rw [if_pos (by rw [slice_onPr, peak_of_new hnew]; exact hmax)]
    exact trip_normal_effect 2 i v (onPr_trips peak_prstat ⟨.inl hrun, .inl h0, hx⟩) (onPr_prstat peak_prstat) h0
  · intro p i v s hrel hrun hnew hmax
    refine ⟨_, rfl, ?_⟩
    rw [whenReleased_pr_of _ _ _ hrel, whenReleased_pins_of _ _ _ hrel, if_neg (by simp [hrun])]
    dsimp only
    rw [if_neg (by rw [slice_onPr, peak_of_new hnew]; exact not_le.2 hmax), slice_onPr, peak_of_new hnew]
    exact ⟨rfl, rfl⟩
  · intro p i v s hrel hrun hsrc hpwm hnew hmax hfall h0 hx
    have hcount : (pkMax (s.slice p).pr.rev ≤ (s.slice p).pr.rev.revRun && !(s.slice p).pr.rev.falling) = true := by
      rw [rev_falling, hfall, rev_of_new hnew]
      exact Bool.and_eq_true_iff.2 ⟨decide_eq_true hmax, rfl⟩
    refine ⟨_, rfl, ?_⟩
    rw [whenReleased_pr_of _ _ _ hrel, whenReleased_pins_of _ _ _ hrel, whenReleased_eva _ _ hrel]
    dsimp only
    rw [if_neg (by simp [hrun, hsrc, hpwm]), if_pos (by rw [slice_onPr]; exact hcount)]
    exact trip_normal_effect 5 i v (onPr_trips rev_prstat ⟨.inl hrun, .inl h0, hx⟩) (onPr_prstat rev_prstat) h0
  · intro p i v s hrel hrun hsrc hpwm hfall
    refine ⟨_, rfl, ?_⟩
    rw [whenReleased_pr_of _ _ _ hrel, whenReleased_pins_of _ _ _ hrel]
    dsimp only
    rw [if_neg (by simp [hrun, hsrc, hpwm]), if_neg (by simp [hfall]), slice_onPr]
    exact ⟨rfl, rfl⟩
  · intro p i v s hrel hon h0 hx
    refine ⟨_, rfl, ?_⟩
    rw [whenReleased_pr_of _ _ _ hrel, whenReleased_pins_of _ _ _ hrel, whenReleased_eva _ _ hrel,
      if_pos (Bool.or_eq_true_iff.2 hon)]
    exact trip_normal_effect 3 i v (onPr_trips (fun _ => rfl) ⟨hon, .inl h0, hx⟩) (onPr_prstat fun _ => rfl) h0
  · intro p i v s hrun hisog
    exact congrArg Host.Outcome.next (whenReleased_same _ _ (if_neg (by simp [hrun, hisog])))
  · intro p i v s hrel hw h0 hx
    refine ⟨_, rfl, ?_⟩
    rw [whenReleased_pr_of _ _ _ hrel, whenReleased_pins_of _ _ _ hrel, whenReleased_eva _ _ hrel, if_pos hw]
    exact trip_normal_effect 4 i v (onPr_trips (fun _ => rfl) ⟨powered_of_sourceWatched hw, .inl h0, hx⟩)
      (onPr_prstat fun _ => rfl) h0
  · intro p i v s hw
    exact congrArg Host.Outcome.next (whenReleased_same _ _ (if_neg (Bool.eq_false_iff.1 hw)))
  · intro p cause i v s hrel hc hh h0 hx
    have ht := prebiasNoted_trips cause ⟨.inl (running_of_prebias hc), .inl h0, hx⟩
    have hslice := prebiasNoted_slice p cause s
    refine ⟨_, rfl, ?_⟩
    rw [whenReleased_pr_of _ _ _ hrel, whenReleased_ps_psstat _ _ _ hrel, whenReleased_pins_of _ _ _ hrel,
      whenReleased_eva _ _ hrel]
    dsimp only
    rw [if_neg (by simp [hc, hh])]
    obtain ⟨hst, -, hisog, hpwm, hev⟩ := trip_normal_effect 6 i v ht (congrArg (·.pr.prstat) hslice) h0
    exact ⟨hst, (trip_pbfail 6 i v ht).trans (congrArg (·.ps.psstat.pbfail) hslice), hisog, hpwm, hev⟩
  · intro p mean i v s hrel hrun hlow
    refine ⟨_, rfl, ?_⟩
    rw [whenReleased_pr_of _ _ _ hrel, whenReleased_pins_of _ _ _ hrel, if_neg (by simp [hrun])]
    dsimp only
    rw [if_neg (by rw [slice_onSlice]; exact not_le.2 hlow), slice_onSlice]
    exact ⟨rfl, rfl⟩
  · intro p mean i v s hrel hrun hfull h0 hx
    have ht := fuseCounted_trips mean ⟨.inl hrun, .inl h0, hx⟩
    have hslice := fuseCounted_slice p mean s
    refine ⟨_, rfl, ?_⟩
    rw [whenReleased_pr_of _ _ _ hrel, whenReleased_pins_of _ _ _ hrel, whenReleased_eva _ _ hrel, if_neg (by simp [hrun])]
    dsimp only
    rw [if_pos (by rw [slice_onSlice]; exact hfull)]
    obtain ⟨hst, htv, hisog, hpwm, hev⟩ := trip_normal_effect 1 i v ht (congrArg (·.pr.prstat) hslice) h0
    exact ⟨hst, htv, hisog, hpwm, trip_acc 1 i v ht, hev⟩
  · intro p i v s hrel h2 hg hrun hx h0 hn
    refine ⟨_, rfl, ?_⟩
    rw [whenReleased_pr_of _ _ _ hrel, whenReleased_pins_of _ _ _ hrel, whenReleased_eva _ _ hrel]
    dsimp only
    rw [if_pos (by simp [h2, hg])]
    have h := trip_attempt_effect 10 i v ⟨.inl hrun, .inr h2, hx⟩ h2
    rwa [tripLatches_of_tries_spent h2 h0 hn] at h
  · intro p i v s hrel h2 hg hrun hx h0
    refine ⟨_, rfl, ?_⟩
    rw [whenReleased_pr_of _ _ _ hrel, whenReleased_pins_of _ _ _ hrel, whenReleased_eva _ _ hrel]
    dsimp only
    rw [if_pos (by simp [h2, hg])]
    have h := trip_attempt_effect 10 i v ⟨.inl hrun, .inr h2, hx⟩ h2
    rwa [tripLatches_of_unlimited h0] at h
  · intro p i v s hg
    exact congrArg Host.Outcome.next (whenReleased_same _ _ (if_neg (by simp [hg])))

end Sys2Proof.Machine
end

section
/-!
PROOFS. Swap requests, the partner's and the slice's own (R187 to R191, R197, R203).
-/

namespace Sys2Proof.Machine

/-! ## Answers to the partner's requests (Table 9.1) -/

/-- A released slice does what its operation does in the state at hand. -/
theorem whenReleased_congr {f g : State → State} {s : State} (h : f s = g s) : whenReleased f s = whenReleased g s := by
  simp only [whenReleased, spreading, h]

/-- The FR_Swap that answers the slice's own signal is accepted (Table 9.7). -/
def acceptFrs (p : Port) (s : State) : State :=
  replyWhy p .accept (.swapAccept .fr) (onSw p (fun w => { w with step := .frsAccept }) s)

theorem swapCode_ne_zero (k : SwapKind) : swapCode k ≠ 0 := by cases k <;> decide

/-- While a swap is in progress, SOP is active (Table 6.2). -/
theorem sopActive_of_swapping {x : Slice} (hw : x.sw.swstat.swap ≠ 0) (hs : x.pd.pdstat.pdSilent = false) :
    sopActive x = true := by
  rw [sopActive, decide_eq_true hw, hs, Bool.or_true]; rfl

theorem swapOutstanding_of_none {x : Slice} (h : x.sw.outstanding = none) : swapOutstanding x = false := by
  simp [swapOutstanding, h]

section
variable {p : Port} {s : State}

section
variable {k : SwapKind} {ok : Slice → State → Bool} (ho : (s.slice p).sw.outstanding = none)
include ho

theorem answerSwap_held (hh : s.sup.hold = true) : answerSwap p k ok true s = reply p .sop .wait [] s := by
  simp [answerSwap, swapOutstanding_of_none ho, hh]

theorem answerSwap_accepts {waits : Bool} (hh : waits = false ∨ s.sup.hold = false) (hok : ok (s.slice p) s = true) :
    answerSwap p k ok waits s = acceptSwap p k s := by
  obtain hh | hh := hh <;> simp [answerSwap, swapOutstanding_of_none ho, hh, hok]

end

theorem prAcceptable_source (hs : (s.slice p).sw.swstat.prole = false) (ha : (s.slice p).sw.swcfg.prAccSrc = true) :
    prAcceptable (s.slice p) s = true := by
  simp [prAcceptable, hs, ha]

theorem vconnAcceptable_takes (hv : (s.slice p).pd.pdstat.vcsrc = false) (hc : (s.slice p).att.attcfg.vcls = 2)
    (hk : s.sup.vconnOk = true) : vconnAcceptable (s.slice p) s = true := by
  simp [vconnAcceptable, hv, hc, hk]

theorem unsupported_rev3 {c : Ctx} (h : rev2 (s.slice p) c = false) : unsupported p c s = reply p c .notSupported [] s := by
  simp [unsupported, h]

section
variable (ha : sopActive (s.slice p) = true) (hr : (s.slice p).pd.ready = []) (hi : (s.slice p).pd.inflight = none)
include ha hr hi

/-- On an idle line an answer goes out at once, and starts no swap. -/
theorem reply_answers {kind : MsgKind} (hk : rev2 (s.slice p) .sop = false ∨ rev3Only kind = false) :
    ((reply p .sop kind [] s).slice p).pd.inflight = some { ctx := .sop, kind := kind, prio := .reply } ∧
    ((reply p .sop kind [] s).slice p).sw = (s.slice p).sw :=
  ⟨reply_sends p .sop kind [] s (carries_sop rfl ha hk) hi hr, queueMsg_sw p _ s⟩

/-- The Accept of a swap goes out, and the swap is in progress (R188). -/
theorem acceptSwap_effect (k : SwapKind) :
    ((acceptSwap p k s).slice p).sw.step = .asked ∧ ((acceptSwap p k s).slice p).sw.swstat.swap = swapCode k ∧
    ((acceptSwap p k s).slice p).pd.inflight =
      some { ctx := .sop, kind := .accept, prio := .reply, why := .swapAccept k } := by
  have hs := not_silent_of_sopActive ha
  rw [acceptSwap, replyWhy, queueMsg_sw, slice_onSw]
  refine ⟨rfl, rfl, queueMsg_sends (carries_sop rfl ?_ (.inr rfl)) rfl ?_ ?_⟩
  · rw [slice_onSw]; exact sopActive_of_swapping (swapCode_ne_zero k) hs
  · rwa [slice_onSw]
  · rwa [slice_onSw]

theorem acceptFrs_effect :
    ((acceptFrs p s).slice p).sw.step = .frsAccept ∧
    ((acceptFrs p s).slice p).pd.inflight =
      some { ctx := .sop, kind := .accept, prio := .reply, why := .swapAccept .fr } := by
  rw [acceptFrs, replyWhy, queueMsg_sw, slice_onSw]
  refine ⟨rfl, queueMsg_sends (carries_sop rfl ?_ (.inr rfl)) rfl ?_ ?_⟩
  all_goals rwa [slice_onSw]

end

/-! ## Which rule answers (R187, R189, R190, R203) -/

section
variable (ha : sopActive (s.slice p) = true)
include ha

theorem execPrSwap_unsupported (hp : 2 ≤ p.val) : execPrSwap p s = .next (whenReleased (unsupported p .sop) s) :=
  congrArg Host.Outcome.next (whenReleased_congr (by simp [ha, hp]))

theorem execDrSwap_unsupported (hp : 2 ≤ p.val) : execDrSwap p s = .next (whenReleased (reply p .sop .reject []) s) :=
  congrArg Host.Outcome.next (whenReleased_congr (by simp [ha, hp]))

theorem execVconnSwap_unsupported (hp : 2 ≤ p.val) :
    execVconnSwap p s = .next (whenReleased (reply p .sop .reject []) s) :=
  congrArg Host.Outcome.next (whenReleased_congr (by simp [ha, hp]))

variable (hp : p.val < 2)
include hp

/-- Without a signal of the slice's own an FR_Swap is a protocol error. -/
theorem execFrSwap_unasked (hf : (s.slice p).sw.frsRecent = false) :
    execFrSwap p s = .next (whenReleased (sendHardReset p) s) :=
  congrArg Host.Outcome.next (whenReleased_congr (by simp [ha, not_le.2 hp, hf]))

variable (hrole : (s.slice p).att.attcfg.role = 2)
include hrole

theorem execPrSwap_dualRole (hx : (s.slice p).off.changing = false) (hw : (s.slice p).sw.snkWaitRdy = false) :
    execPrSwap p s = .next (whenReleased (answerSwap p .pr prAcceptable true) s) :=
  congrArg Host.Outcome.next (whenReleased_congr (by simp [ha, not_le.2 hp, hrole, hx, hw]))

theorem execDrSwap_dualRole : execDrSwap p s =
    .next (whenReleased (answerSwap p .dr (fun x _ => x.sw.swcfg.drAcc && !modeEntered x) false) s) :=
  congrArg Host.Outcome.next (whenReleased_congr (by simp [ha, not_le.2 hp, hrole]))

theorem execVconnSwap_dualRole : execVconnSwap p s = .next (whenReleased (answerSwap p .vconn vconnAcceptable true) s) :=
  congrArg Host.Outcome.next (whenReleased_congr (by simp [ha, not_le.2 hp, hrole]))

theorem execFrSwap_signalled (hf : (s.slice p).sw.frsRecent = true) (hst : (s.slice p).sw.step = .frsWaitFr) :
    execFrSwap p s = .next (whenReleased (acceptFrs p) s) :=
  congrArg Host.Outcome.next (whenReleased_congr (by simp [ha, not_le.2 hp, hrole, hf, hst, acceptFrs]))

end

end

/-! ## Requests of the slice's own (R191) -/

/-- Requests that are wanted besides those that wait already. -/
def SliceSw.wanting (pr dr vc : Bool) (w : SliceSw) : SliceSw :=
  { w with wantPr := w.wantPr || pr, wantDr := w.wantDr || dr, wantVc := w.wantVc || vc }

section
variable {p : Port} {s : State}

theorem trySwaps_barred (h : maySwap s (s.slice p) = false) : trySwaps p s = s := by
  simp [trySwaps, h]

theorem maySwap_partnerAms {x : Slice} (h : x.pd.partnerAms = true) : maySwap s x = false := by
  simp [maySwap, h]

theorem sendSwap_sw (p : Port) (k : SwapKind) (s : State) :
    ((sendSwap p k s).slice p).sw = { (s.slice p).sw with outstanding := some k, mine := true } := by
  rw [sendSwap, queueMsg_sw, slice_onSw]

section
variable (hp : p.val < 2) (hm : maySwap s (s.slice p) = true)
include hp hm

/-- PR_Swap goes first, then DR_Swap, then VCONN_Swap. -/
theorem trySwaps_pr (h : (s.slice p).sw.wantPr = true) : ((trySwaps p s).slice p).sw =
    { (s.slice p).sw with wantPr := false, outstanding := some .pr, mine := true } := by
  simp [trySwaps, not_le.2 hp, hm, h, sendSwap_sw]

theorem trySwaps_dr (hpr : (s.slice p).sw.wantPr = false) (h : (s.slice p).sw.wantDr = true) : ((trySwaps p s).slice p).sw =
    { (s.slice p).sw with wantDr := false, outstanding := some .dr, mine := true } := by
  simp [trySwaps, not_le.2 hp, hm, hpr, h, sendSwap_sw]

theorem trySwaps_vconn (hpr : (s.slice p).sw.wantPr = false) (hdr : (s.slice p).sw.wantDr = false)
    (h : (s.slice p).sw.wantVc = true) : ((trySwaps p s).slice p).sw =
      { (s.slice p).sw with wantVc := false, autoVc := false, outstanding := some .vconn, mine := true } := by
  simp [trySwaps, not_le.2 hp, hm, hpr, hdr, h, sendSwap_sw]

end

/-- Whether a request may go out does not depend on which ones are wanted. -/
theorem maySwap_wanting (pr dr vc : Bool) :
    maySwap (onSw p (SliceSw.wanting pr dr vc) s) ((onSw p (SliceSw.wanting pr dr vc) s).slice p) =
      maySwap s (s.slice p) := by
  rw [slice_onSw]; rfl

theorem onSw_onSw (p : Port) (f g : SliceSw → SliceSw) (s : State) :
    onSw p g (onSw p f s) = onSw p (fun w => g (f w)) s := by
  simp only [onSw, onSlice, updAt_updAt]

/-- A write of `SLC_SWCTL` without the lock asks for the swaps that its bits name. -/
theorem writeSwctl_dualRole {w : Word} (hp : p.val < 2) (hrole : (s.slice p).att.attcfg.role = 2)
    (hlk : getBit w 0 = false) :
    writeSwctl p w s = trySwaps p (onSw p (SliceSw.wanting (getBit w 8) (getBit w 9) (getBit w 10)) s) := by
  simp only [writeSwctl, slice_onSw, hrole, not_le.2 hp, hlk, Bool.or_false, decide_false, ne_eq, not_true_eq_false,
    Bool.false_eq_true, if_false, onSw_onSw]
  rfl

theorem writeSwctl_of_two_le {w : Word} (hp : 2 ≤ p.val) (hlk : getBit w 0 = false) :
    ((writeSwctl p w s).slice p).sw = (s.slice p).sw := by
  simp [writeSwctl, hp, hlk]

end

theorem reqPr_eq {p : Port} {s : State} (hp : p.val < 2) (hrole : (s.slice p).att.attcfg.role = 2) :
    writeSwctl p 0x100 s = trySwaps p (onSw p (SliceSw.wanting true false false) s) :=
  writeSwctl_dualRole hp hrole (by decide)

theorem reqDr_eq {p : Port} {s : State} (hp : p.val < 2) (hrole : (s.slice p).att.attcfg.role = 2) :
    writeSwctl p 0x200 s = trySwaps p (onSw p (SliceSw.wanting false true false) s) :=
  writeSwctl_dualRole hp hrole (by decide)

theorem reqVc_eq {p : Port} {s : State} (hp : p.val < 2) (hrole : (s.slice p).att.attcfg.role = 2) :
    writeSwctl p 0x400 s = trySwaps p (onSw p (SliceSw.wanting false false true) s) :=
  writeSwctl_dualRole hp hrole (by decide)

/-! ## The partner's answer (R188, R197) -/

theorem dropSwap_sw (p : Port) (result : BitVec 3) (k : SwapKind) (s : State) : ((dropSwap p result k s).slice p).sw =
    { (s.slice p).sw with
      outstanding := none, waits := 0, retry := none, step := .idle, mine := false
      swstat := { (s.slice p).sw.swstat with swap := 0, last := result, lastKind := swapCode k } } := by
  rw [dropSwap, slice_onSlice, endOwn_sw]

/-- The request has met a Wait and is to be sent again. -/
def waitMet (p : Port) (k : SwapKind) (s : State) : State :=
  onSlice p (fun x => { x with sw := { x.sw with
    outstanding := none, waits := x.sw.waits + 1, retry := some k, step := .idle
    swstat := { x.sw.swstat with swap := 0 } } }.endOwn) s

theorem waitMet_sw (p : Port) (k : SwapKind) (s : State) : ((waitMet p k s).slice p).sw =
    { (s.slice p).sw with
      outstanding := none, waits := (s.slice p).sw.waits + 1, retry := some k, step := .idle
      swstat := { (s.slice p).sw.swstat with swap := 0 } } := by
  rw [waitMet, slice_onSlice, endOwn_sw]

/-- What the partner's answer to a request other than FR_Swap brings about (R197). -/
def swapAnswered (p : Port) (k : SwapKind) (s : State) : SwapReply → State
  | .accept => swapAccepted p k (onSw p (fun w => { w with outstanding := none, waits := 0, step := .asked }) s)
  | .reject => dropSwap p 2 k s
  | .notSupported => dropSwap p 4 k s
  | .wait => if 2 ≤ (s.slice p).sw.waits then dropSwap p 3 k s else waitMet p k s

theorem swapAnswer_eq {p : Port} {k : SwapKind} {s : State} (a : SwapReply) (h : (s.slice p).sw.outstanding = some k)
    (hk : k ≠ .fr) : swapAnswer p a s = swapAnswered p k s a := by
  cases k with
  | fr => exact absurd rfl hk
  | _ => simp only [swapAnswer, h]; cases a <;> rfl

/-- A swap in progress ends with its result. -/
theorem endSwap_swstat {x : Slice} (k : BitVec 3) (h : x.sw.swstat.swap ≠ 0) : (x.endSwap k).sw.swstat =
    { x.sw.swstat with last := k, lastKind := x.sw.swstat.swap, swap := 0, frsDet := false } :=
  if_neg h

theorem swapDone_sw (p : Port) (f : Slice → Slice) (s : State) :
    ((swapDone p f s).slice p).sw = ((f (s.slice p)).endSwap 1).sw := by
  simp [swapDone, Slice.endPartner]

theorem swapDone_raised (p : Port) (f : Slice → Slice) (s : State) : (swapDone p f s).eva.raised (8 * p.val + 2) = true :=
  portEvent_raised p 2 _ (by decide)

/-- An accepted DR_Swap is complete at once (Table 9.2). -/
theorem swapAccepted_dr_effect {p : Port} {s : State} (h : (s.slice p).sw.swstat.swap ≠ 0) :
    ((swapAccepted p .dr s).slice p).sw.outstanding = none ∧
    ((swapAccepted p .dr s).slice p).sw.swstat =
      { (s.slice p).sw.swstat with
        drole := !(s.slice p).sw.swstat.drole, last := 1, lastKind := (s.slice p).sw.swstat.swap
        swap := 0, frsDet := false } ∧
    (swapAccepted p .dr s).eva.raised (8 * p.val + 2) = true := by
  refine ⟨?_, ?_, swapDone_raised p _ s⟩
  · rw [swapAccepted, swapDone_sw]; rfl
  · rw [swapAccepted, swapDone_sw]; exact endSwap_swstat 1 h

/-! ## The next attempt (R197) -/

theorem swapRetryTimer_none {p : Port} {s : State} (h : (s.slice p).sw.retry = none) : swapRetryTimer p s = s := by
  simp [swapRetryTimer, h]

theorem swapRetryTimer_wants {p : Port} {k : SwapKind} {s : State} (h : (s.slice p).sw.retry = some k) :
    swapRetryTimer p s = trySwaps p (onSw p
      (fun w => { w with retry := none }.wanting (k = SwapKind.pr) (k = SwapKind.dr) (k = SwapKind.vconn)) s) := by
  simp only [swapRetryTimer, h]
  rfl

/-- Settles O38, clause by clause: the rule that answers, and what it leaves on the line and in the swap block. -/
theorem swapRequests : Obligations.SwapRequests := by
  unfold Obligations.SwapRequests
  refine ⟨?_, ?_, ?_, ?_, ?_, ?_, ?_, ?_, ?_, ?_, ?_, ?_, ?_, ?_, ?_, ?_, ?_, ?_, ?_, ?_, ?_⟩
  · intro p s hrel hp ha _ h2 hr hi
    refine ⟨_, execPrSwap_unsupported ha hp, ?_⟩
    rw [whenReleased_pd_of _ _ _ hrel, whenReleased_sw_of _ _ _ hrel, unsupported_rev3 h2]
    exact reply_answers ha hr hi (.inl h2)
  · intro p s hrel hp ha _ hrole hx hw ho hh hr hi
    refine ⟨_, execPrSwap_dualRole ha hp hrole hx hw, ?_⟩
    rw [whenReleased_pd_of _ _ _ hrel, whenReleased_sw_of _ _ _ hrel, answerSwap_held ho hh]
    exact reply_answers ha hr hi (.inr rfl)
  · intro p s hrel hp ha _ hrole hx hw ho hh hs hacc hr hi
    refine ⟨_, execPrSwap_dualRole ha hp hrole hx hw, ?_⟩
    rw [whenReleased_pd_of _ _ _ hrel, whenReleased_sw_of _ _ _ hrel,
      answerSwap_accepts ho (.inr hh) (prAcceptable_source hs hacc)]
    exact acceptSwap_effect ha hr hi .pr
  · intro p s hrel hp ha _ hr hi
    refine ⟨_, execDrSwap_unsupported ha hp, ?_⟩
    rw [whenReleased_pd_of _ _ _ hrel, whenReleased_sw_of _ _ _ hrel]
    exact reply_answers ha hr hi (.inr rfl)
  · intro p s hrel hp ha _ hrole ho hacc hmode hr hi
    refine ⟨_, execDrSwap_dualRole ha hp hrole, ?_⟩
    rw [whenReleased_pd_of _ _ _ hrel, whenReleased_sw_of _ _ _ hrel,
      answerSwap_accepts ho (.inl rfl) (by simp [hacc, hmode])]
    exact acceptSwap_effect ha hr hi .dr
  · intro p s hrel hp ha _ hrole ho hh hv hc hk hr hi
    refine ⟨_, execVconnSwap_dualRole ha hp hrole, ?_⟩
    rw [whenReleased_pd_of _ _ _ hrel, whenReleased_sw_of _ _ _ hrel,
      answerSwap_accepts ho (.inr hh) (vconnAcceptable_takes hv hc hk)]
    exact acceptSwap_effect ha hr hi .vconn
  · intro p s hrel hp ha _ hr hi
    refine ⟨_, execVconnSwap_unsupported ha hp, ?_⟩
    rw [whenReleased_pd_of _ _ _ hrel, whenReleased_sw_of _ _ _ hrel]
    exact reply_answers ha hr hi (.inr rfl)
  · intro p s hrel hp ha _ hrole hf hst hr hi
    refine ⟨_, execFrSwap_signalled ha hp hrole hf hst, ?_⟩
    rw [whenReleased_pd_of _ _ _ hrel, whenReleased_sw_of _ _ _ hrel]
    exact acceptFrs_effect ha hr hi
  · intro p s hrel hp ha hf hh hn
    refine ⟨_, execFrSwap_unasked ha hp hf, ?_⟩
    rw [whenReleased_pd_of _ _ _ hrel, whenReleased_off_of _ _ _ hrel]
    exact sendHardReset_effect p s hh hn
  · intro p s hrel hp hrole hm
    refine ⟨_, rfl, ?_⟩
    rw [whenReleased_sw_of _ _ _ hrel, reqPr_eq hp hrole,
      trySwaps_pr hp (by rwa [maySwap_wanting]) (by simp [SliceSw.wanting])]
    exact ⟨rfl, rfl, rfl⟩
  · intro p s hrel hp hrole hams
    refine ⟨_, rfl, ?_⟩
    rw [whenReleased_sw_of _ _ _ hrel, reqPr_eq hp hrole, trySwaps_barred (by rw [maySwap_wanting, maySwap_partnerAms hams]),
      slice_onSw]
    simp [SliceSw.wanting]
  · intro p s hrel hp hrole hm hpr
    refine ⟨_, rfl, ?_⟩
    rw [whenReleased_sw_of _ _ _ hrel, reqDr_eq hp hrole,
      trySwaps_dr hp (by rwa [maySwap_wanting]) (by simp [SliceSw.wanting, hpr]) (by simp [SliceSw.wanting])]
    exact ⟨rfl, rfl, rfl⟩
  · intro p s hrel hp hrole hm hpr hdr
    refine ⟨_, rfl, ?_⟩
    rw [whenReleased_sw_of _ _ _ hrel, reqVc_eq hp hrole, trySwaps_vconn hp (by rwa [maySwap_wanting])
      (by simp [SliceSw.wanting, hpr]) (by simp [SliceSw.wanting, hdr]) (by simp [SliceSw.wanting])]
    exact ⟨rfl, rfl, rfl⟩
  · intro p s hrel hp
    refine ⟨_, rfl, ?_⟩
    rw [whenReleased_sw_of _ _ _ hrel, writeSwctl_of_two_le hp (by decide)]
  · intro p s hrel ho
    refine ⟨_, rfl, ?_⟩
    rw [whenReleased_sw_of _ _ _ hrel, swapAnswer_eq .reject ho (by decide), swapAnswered, dropSwap_sw]
    exact ⟨rfl, rfl, rfl, rfl⟩
  · intro p s hrel ho
    refine ⟨_, rfl, ?_⟩
    rw [whenReleased_sw_of _ _ _ hrel, swapAnswer_eq .notSupported ho (by decide), swapAnswered, dropSwap_sw]
    exact ⟨rfl, rfl, rfl, rfl⟩
  · intro p s hrel ho hw
    refine ⟨_, rfl, ?_⟩
    rw [whenReleased_sw_of _ _ _ hrel, swapAnswer_eq .wait ho (by decide), swapAnswered, if_neg (not_le.2 hw), waitMet_sw]
    exact ⟨rfl, rfl, rfl, rfl, rfl⟩
  · intro p s hrel ho hw
    refine ⟨_, rfl, ?_⟩
    rw [whenReleased_sw_of _ _ _ hrel, swapAnswer_eq .wait ho (by decide), swapAnswered, if_pos hw, dropSwap_sw]
    exact ⟨rfl, rfl, rfl, rfl⟩
  · intro p s hrel ho hw
    refine ⟨_, rfl, ?_⟩
    obtain ⟨hout, hstat, hraised⟩ := swapAccepted_dr_effect (p := p)
      (s := onSw p (fun w => { w with outstanding := none, waits := 0, step := .asked }) s) (by rw [slice_onSw, hw]; decide)
    rw [whenReleased_sw_of _ _ _ hrel, whenReleased_eva _ _ hrel, swapAnswer_eq .accept ho (by decide), swapAnswered,
      hstat, slice_onSw]
    exact ⟨hout, rfl, rfl, rfl, rfl, hraised⟩
  · intro p s hrel hret hams
    refine ⟨_, rfl, ?_⟩
    rw [whenReleased_sw_of _ _ _ hrel, swapRetryTimer_wants hret,
      trySwaps_barred (by rw [slice_onSw]; exact maySwap_partnerAms hams), slice_onSw]
    simp [SliceSw.wanting]
  · intro p s hret
    exact congrArg Host.Outcome.next (whenReleased_same _ _ (swapRetryTimer_none hret))

end Sys2Proof.Machine
end

section
/-!
PROOFS. Writes of the grant registers by requesters other than the Policy Core (R232).
-/

namespace Sys2Proof.Machine

/-- An address of a slice page leads to its port (Table 20.1). -/
theorem sliceAt_page (p : Port) {off : Nat} (h : off < 0x1000) : sliceAt (regBase + 0x1000 * p.val + off) = some p := by
  have hpage : (regBase + 0x1000 * p.val + off - regBase) / 0x1000 = p.val := by omega
  have hin : regBase ≤ regBase + 0x1000 * p.val + off ∧ (regBase + 0x1000 * p.val + off - regBase) / 0x1000 < 24 :=
    ⟨by omega, by omega⟩
  rw [sliceAt, dif_pos hin]
  exact congrArg some (Fin.ext hpage)

theorem writeReg_page (q : Requester) (p : Port) {off : Nat} (h : off < 0x1000) (w : Word) (s : State) :
    writeReg q (regBase + 0x1000 * p.val + off) w s = writeSlc q p off w s := by
  have hoff : (regBase + 0x1000 * p.val + off) % 0x1000 = off := by rw [regBase]; omega
  simp only [writeReg, sliceAt_page p h, hoff]

theorem writeWord_page (q : Requester) (p : Port) {off : Nat} (h : off < 0x1000) (w : Word) (s : State) :
    writeWord q (regBase + 0x1000 * p.val + off) w s = writeSlc q p off w s := by
  have hreg : isReg (regBase + 0x1000 * p.val + off) = true := by
    rw [isReg, regBase]
    exact Bool.and_eq_true_iff.2 ⟨decide_eq_true (by omega), decide_eq_true (by omega)⟩
  rw [writeWord, if_pos hreg, writeReg_page q p h]

/-- `SLC_GRANT` takes no value from another requester (R232). -/
theorem writeSlc_grant_other {q : Requester} (hq : q ≠ .policy) (p : Port) (w : Word) (s : State) :
    writeSlc q p 0xB00 w s = s := if_neg hq

/-- A burst of one word, whichever of its two groups of beats it falls into (R320). -/
theorem applyBeats_one (q : Requester) (a : Nat) (w : Word) (s : State) :
    applyBeats q (burstBeats a [w]) s = writeWord q a w s := by
  have hbeats : burstBeats a [w] = [(a, w)] := rfl
  rw [hbeats, applyBeats]
  cases h : actsLast a <;> simp [h]

/-- A word that the map lets through is written between the taking and the end of the grant of the fabric. -/
theorem burstWrite_one {q : Requester} {a : Nat} {s : State} (h : mapAllows q a .write s = true) (w : Word) :
    (burstWrite q a [w] s).1 = grantEnd (spreading (writeWord q a w) (grantTo q s)) := by
  have hmap : mapAllows q a .write (grantTo q s) = true := h
  have hnone : refusedBeat q (burstBeats a [w]) (grantTo q s) = none := by
    rw [refusedBeat, show burstBeats a [w] = [(a, w)] from rfl, List.find?_cons_of_neg (by simp [hmap])]; rfl
  have hbeats : applyBeats q (burstBeats a [w]) = writeWord q a w := funext (applyBeats_one q a w)
  simp only [burstWrite, hnone, hbeats]

/-- Settles O15: the burst is let through, but the register keeps its value, and only the arbiter has moved. -/
theorem grantWritesOfOthers : Obligations.GrantWritesOfOthers := by
  intro q p w s hq hrun hmap
  have haddr : (BitVec.ofNat 32 (0x40000B00 + 0x1000 * p.val)).toNat = 0x40000B00 + 0x1000 * p.val := by
    rw [BitVec.toNat_ofNat, Nat.mod_eq_of_lt (by omega)]
  have hpage : 0x40000B00 + 0x1000 * p.val = regBase + 0x1000 * p.val + 0xB00 := by rw [regBase]; omega
  have hsame : spreading (writeWord q (0x40000B00 + 0x1000 * p.val) w) (grantTo q s) = grantTo q s := by
    apply spreading_same
    rw [hpage, writeWord_page q p (by decide), writeSlc_grant_other hq]
  have hword : (0x40000B00 + 0x1000 * p.val) % 4 = 0 := by omega
  refine ⟨grantEnd (grantTo q s), congrArg Host.Outcome.next ?_, rfl, rfl, rfl, rfl, rfl⟩
  rw [haddr, hrun, hword, if_pos (by decide), burstWrite_one hmap, hsame]

end Sys2Proof.Machine
end

section
/-!
PROOFS. Budget rounds: the lookups, the allocation, and the grants that a round writes (R234 to R241, R244).
-/

namespace Sys2Proof.Machine

/-! ## The allocation serves each port once (R237) -/

theorem insertBy_perm {α : Type} (le : α → α → Bool) (x : α) (l : List α) : (insertBy le x l).Perm (x :: l) := by
  induction l with
  | nil => exact .refl _
  | cons y l ih =>
    unfold insertBy
    split
    · exact .refl _
    · exact (ih.cons y).trans (.swap x y l)

theorem sortBy_perm {α : Type} (le : α → α → Bool) (l : List α) : (sortBy le l).Perm l := by
  induction l with
  | nil => exact .refl _
  | cons x l ih => exact (insertBy_perm le x _).trans (ih.cons x)

theorem stageA_ports (rs : List RoundPort) (a : Int) : (stageA rs a).1.map RoundPort.port = rs.map RoundPort.port := by
  induction rs generalizing a with
  | nil => rfl
  | cons r rs ih =>
    simp only [stageA, List.map_cons, ih, apply_ite RoundPort.port, ite_self]

theorem stageB_ports (rs : List RoundPort) (a : Int) : (stageB rs a).1.map RoundPort.port = rs.map RoundPort.port := by
  induction rs generalizing a with
  | nil => rfl
  | cons r rs ih => simp only [stageB, List.map_cons, ih]

theorem growthOrder_nodup (first : Option RoundPort) {order : List RoundPort} (h : (order.map RoundPort.port).Nodup) :
    ((growthOrder first order).map RoundPort.port).Nodup := by
  cases first with
  | none =>
    exact ((List.filter_append_perm RoundPort.attached order).map RoundPort.port).nodup_iff.2 h
  | some f =>
    have hrest := (List.filter_append_perm RoundPort.attached (order.filter (fun r => r.port != f.port))).cons f
    refine ((hrest.map RoundPort.port).nodup_iff).2 (List.nodup_cons.2 ⟨?_, h.sublist (List.filter_sublist.map _)⟩)
    simp

theorem allocate_nodup (s : State) (dt : Nat) : ((allocate s dt).1.map RoundPort.port).Nodup := by
  have horder := (sortBy_perm roundBefore (allPorts.map (roundPort s dt))).map RoundPort.port
  have hports : (allPorts.map (roundPort s dt)).map RoundPort.port = allPorts := by
    rw [List.map_map]; exact List.map_id _
  rw [hports] at horder
  simp only [allocate, stageB_ports]
  exact growthOrder_nodup _ (by rw [stageA_ports]; exact horder.nodup_iff.2 allPorts_nodup)

/-! ## The grants of a round (R234, R240) -/

theorem writeRoundGrant_beside (r : RoundPort) (s : State) : (writeRoundGrant r s).beside r.port = s.beside r.port := by
  simp [writeRoundGrant]

theorem writeRoundGrant_pwr (r : RoundPort) (s : State) :
    ((writeRoundGrant r s).slice r.port).gr.grant.pwr = satField 12 r.g := by
  unfold writeRoundGrant
  dsimp only
  split
  case isTrue h => exact of_decide_eq_true (Bool.and_eq_true_iff.1 h).1
  case isFalse h => exact congrArg (fun g : SliceGr => g.grant.pwr) (setGrant_noPtn r.port _ s)

/-- A grant is written to its own port alone. -/
theorem writeRoundGrant_gr_ne {r : RoundPort} {p : Port} (h : p ≠ r.port) (s : State) :
    ((writeRoundGrant r s).slice p).gr = (s.slice p).gr :=
  have hs := congrArg Slice.gr (beside_slice (writeRoundGrant_beside r s) h)
  hs

theorem writeGrants_gr_ne {l : List RoundPort} {p : Port} (h : p ∉ l.map RoundPort.port) (s : State) :
    ((l.foldl (fun s r => writeRoundGrant r s) s).slice p).gr = (s.slice p).gr := by
  induction l generalizing s with
  | nil => rfl
  | cons r l ih =>
    obtain ⟨hr, hl⟩ := not_or.1 (List.mem_cons.not.1 h)
    rw [List.foldl_cons, ih hl, writeRoundGrant_gr_ne hr]

theorem writeGrants_pwr {l : List RoundPort} (h : (l.map RoundPort.port).Nodup) {r : RoundPort} (hr : r ∈ l) (s : State) :
    ((l.foldl (fun s r => writeRoundGrant r s) s).slice r.port).gr.grant.pwr = satField 12 r.g := by
  induction l generalizing s with
  | nil => cases hr
  | cons x l ih =>
    obtain ⟨hx, hl⟩ := List.nodup_cons.1 h
    rw [List.foldl_cons]
    cases hr with
    | head => rw [writeGrants_gr_ne hx, writeRoundGrant_pwr]
    | tail _ hr => exact ih hl hr _

/-- The grants of a round, the decreases first. -/
def roundGrants (rs : List RoundPort) (s : State) : State :=
  (rs.filter (isDecrease s) ++ rs.filter (fun r => !isDecrease s r)).foldl (fun s r => writeRoundGrant r s) s

theorem roundGrants_pwr {rs : List RoundPort} (h : (rs.map RoundPort.port).Nodup) {r : RoundPort} (hr : r ∈ rs) (s : State) :
    ((roundGrants rs s).slice r.port).gr.grant.pwr = satField 12 r.g := by
  have hperm := List.filter_append_perm (isDecrease s) rs
  exact writeGrants_pwr ((hperm.map _).nodup_iff.2 h) (hperm.mem_iff.2 hr) s

theorem roundGrants_did (rs : List RoundPort) (s : State) : (roundGrants rs s).did = s.did :=
  foldl_same State.did _ (fun s r => did_of_beside (writeRoundGrant_beside r s)) _ s

theorem roundGrants_rnd (rs : List RoundPort) (s : State) : (roundGrants rs s).bud.rnd = s.bud.rnd :=
  foldl_same (fun s => s.bud.rnd) _ (fun s r => rnd_of_beside (writeRoundGrant_beside r s)) _ s

/-! ## The round -/

/-- A round's record of every port (R238). -/
def roundRecords (rs : List RoundPort) (s : State) : State := rs.foldl (fun s r => onPortBud r.port (finishPort r) s) s

theorem roundRecords_same {α : Type} (g : State → α) (h : ∀ p f s, g (onPortBud p f s) = g s) (rs : List RoundPort)
    (s : State) : g (roundRecords rs s) = g s :=
  foldl_same g (fun s (r : RoundPort) => onPortBud r.port (finishPort r) s) (fun s r => h r.port (finishPort r) s) rs s

/-- What the round gives each port, after the lookups. -/
def roundPorts (s : State) (dt : Nat) : List RoundPort := (allocate (overPorts lookupPort s) dt).1

theorem roundPorts_nodup (s : State) (dt : Nat) : ((roundPorts s dt).map RoundPort.port).Nodup :=
  allocate_nodup (overPorts lookupPort s) dt

/-- The lookups, the grants and the ports' records of a round. -/
def roundServed (dt : Nat) (s : State) : State :=
  roundRecords (roundPorts s dt) (roundGrants (roundPorts s dt) (overPorts lookupPort s))

theorem roundServed_did (dt : Nat) (s : State) : (roundServed dt s).did = s.did := by
  rw [roundServed, roundRecords_same State.did (fun _ _ _ => rfl), roundGrants_did,
    overPorts_same State.did _ _ (fun p s => did_of_beside (lookupPort_beside p s))]

theorem roundServed_rnd (dt : Nat) (s : State) : (roundServed dt s).bud.rnd = s.bud.rnd := by
  rw [roundServed, roundRecords_same (fun s => s.bud.rnd) (fun _ _ _ => rfl), roundGrants_rnd,
    overPorts_same (fun s => s.bud.rnd) _ _ (fun p s => rnd_of_beside (lookupPort_beside p s))]

theorem roundServed_pwr {dt : Nat} {s : State} {r : RoundPort} (hr : r ∈ roundPorts s dt) :
    ((roundServed dt s).slice r.port).gr.grant.pwr = satField 12 r.g := by
  have hrec : (roundServed dt s).slice r.port = (roundGrants (roundPorts s dt) (overPorts lookupPort s)).slice r.port :=
    roundRecords_same (State.slice · r.port) (fun _ _ _ => rfl) _ _
  rw [hrec]
  exact roundGrants_pwr (roundPorts_nodup s dt) hr _

/-- The round is counted and its status published. -/
def roundClosed (st : BudStat) (sm : BudSum) (s : State) : State :=
  { s with bud := { s.bud with rnd := s.bud.rnd + 1, stat := st, sum := sm } }

@[simp] theorem roundClosed_did (st : BudStat) (sm : BudSum) (s : State) : (roundClosed st sm s).did = s.did := rfl
@[simp] theorem roundClosed_rnd (st : BudStat) (sm : BudSum) (s : State) :
    (roundClosed st sm s).bud.rnd = s.bud.rnd + 1 := rfl
@[simp] theorem roundClosed_slice (st : BudStat) (sm : BudSum) (s : State) (p : Port) :
    (roundClosed st sm s).slice p = s.slice p := rfl

/-- A round that runs serves the ports and closes, with event 201 or without it. -/
theorem budgetRound_eq {s : State} (hrun : policyRuns s = true) (hhold : s.sup.hold = false) (dt : Nat) : ∃ st sm,
    budgetRound dt s = roundClosed st sm (roundServed dt s) ∨
    budgetRound dt s = globalEvent 201 st.toWord 0 (roundClosed st sm (roundServed dt s)) := by
  rcases hrs : allocate (overPorts lookupPort s) dt with ⟨rs, a, first⟩
  rw [budgetRound, if_neg (by simp [hrun, hhold]), roundServed, roundPorts]
  generalize overPorts lookupPort s = t at hrs ⊢
  simp only [hrs, roundRecords, roundGrants]
  generalize List.foldl _ (List.foldl _ t _) rs = u
  exact ⟨_, _, (ite_eq_or_eq _ _ _).symm⟩

theorem budgetRound_off {s : State} (h : policyRuns s = false ∨ s.sup.hold = true) (dt : Nat) : budgetRound dt s = s :=
  if_pos (by rcases h with h | h <;> simp [h])

/-- What a round that runs brings about. -/
theorem budgetRound_effect {s : State} (hrun : policyRuns s = true) (hhold : s.sup.hold = false) (dt : Nat) :
    (budgetRound dt s).bud.rnd = s.bud.rnd + 1 ∧ (budgetRound dt s).did = s.did ∧
    ∀ r ∈ roundPorts s dt, ((budgetRound dt s).slice r.port).gr.grant.pwr = satField 12 r.g := by
  obtain ⟨st, sm, h | h⟩ := budgetRound_eq hrun hhold dt
  · simp only [h, roundClosed_did, roundClosed_rnd, roundClosed_slice, roundServed_did, roundServed_rnd, true_and]
    exact fun r hr => roundServed_pwr hr
  · simp only [h, globalEvent_bud, globalEvent_did, globalEvent_slice, roundClosed_did, roundClosed_rnd, roundClosed_slice,
      roundServed_did, roundServed_rnd, true_and]
    exact fun r hr => roundServed_pwr hr

/-! ## BUDGET_ROUND (R237, R241) -/

/-- Once the boot is over, the command is the round, followed by the new stagger phases. -/
theorem execBudgetRound_of_not_boot {s : State} (h : s.did.cond = .operation) {dt : Nat}
    (hdid : (budgetRound dt s).did = s.did) : execBudgetRound dt s = .next (spreading (budgetRound dt) s) := by
  simp [execBudgetRound, h, hdid]

/-- A round counted in stage 5 of a boot whose clock runs completes step 8 of Table 4.2. -/
theorem execBudgetRound_of_boot {s : State} (h : s.did.cond = .boot) (h5 : s.did.boot.stage = 5)
    (hc : s.cyc.running = true) {dt : Nat} (hdid : (budgetRound dt s).did = s.did) (hrnd : 0 < (budgetRound dt s).bud.rnd) :
    execBudgetRound dt s =
      .next (onDid (fun d => { d with boot := { d.boot with stage := 6 } }) (spreading (budgetRound dt) s)) := by
  simp [execBudgetRound, h, h5, hc, hdid, hrnd]

end Sys2Proof.Machine
end

section
/-!
PROOFS. NTC samples and the kiln update (R245 to R251).
-/

namespace Sys2Proof.Machine

@[simp] theorem get_mapVec {α β : Type} {n : Nat} (f : α → β) (v : Vector α n) (i : Fin n) :
    (mapVec f v).get i = f (v.get i) := by
  simp [mapVec, Vector.get_eq_getElem]

/-! ## NTC samples (R246) -/

/-- The sheaf takes part in NTC samples: it is enabled and names an input. -/
def Sheaf.sampled (x : Sheaf) : Prop := x.a.en = true ∧ x.a.ntc.toNat < 8

theorem ntcSheaf_valid {x : Sheaf} (h : x.sampled) {mv : List Nat} {vdda : Nat}
    (hlo : 3 * vdda ≤ 100 * mv.getD x.a.ntc.toNat 0) (hhi : 100 * mv.getD x.a.ntc.toNat 0 ≤ 97 * vdda) :
    ntcSheaf mv vdda x =
      { x with ntcSum := x.ntcSum + ntcConvert x.d (mv.getD x.a.ntc.toNat 0) vdda, ntcN := x.ntcN + 1 } := by
  have hin : (!x.a.en || decide (8 ≤ x.a.ntc.toNat)) = false := by simp [h.1, h.2]
  have hok : (decide (100 * mv.getD x.a.ntc.toNat 0 < 3 * vdda) || decide (97 * vdda < 100 * mv.getD x.a.ntc.toNat 0)) = false :=
    Bool.or_eq_false_iff.2 ⟨decide_eq_false (not_lt.2 hlo), decide_eq_false (not_lt.2 hhi)⟩
  unfold ntcSheaf
  dsimp only
  rw [hin, hok]
  rfl

theorem ntcSheaf_high {x : Sheaf} (h : x.sampled) {mv : List Nat} {vdda : Nat}
    (hhi : 97 * vdda < 100 * mv.getD x.a.ntc.toNat 0) : ntcSheaf mv vdda x = { x with ntcFault := true } := by
  have hin : (!x.a.en || decide (8 ≤ x.a.ntc.toNat)) = false := by simp [h.1, h.2]
  unfold ntcSheaf
  dsimp only
  rw [hin, decide_eq_true hhi, Bool.or_true]
  rfl

theorem ntcSheaf_disabled {x : Sheaf} (h : x.a.en = false) (mv : List Nat) (vdda : Nat) : ntcSheaf mv vdda x = x := by
  simp [ntcSheaf, h]

/-- A sample with the Policy Core running passes over every sheaf (R246). -/
theorem execNtcSample_runs {s : State} (h : policyRuns s = true) (mv : List Nat) (vdda : Nat) : execNtcSample mv vdda s =
    .next { s with kln := { s.kln with sheaves := mapVec (ntcSheaf mv vdda) s.kln.sheaves } } := by
  simp [execNtcSample, h]

/-! ## What a kiln update reads and leaves alone (R247 to R249) -/

/-- What the turns of the sheaves read and none of them changes: the slices, the cable data, the clock, and of the kiln the
update count, the snapshot count, and each port's set-up and sum of squares. -/
def kilnInputs (s : State) : Vector Slice 24 × Bud × Cyc × KlnStat × Nat × (Port → KlnPcfg × Nat) :=
  (s.slices, s.bud, s.cyc, s.kln.stat, s.kln.snaps, fun p => ((s.kln.ports.get p).pcfg, (s.kln.ports.get p).sumSq))

/-- The steady-state rise of a sheaf over its ambient temperature, in 1/256 °C (R248, R249). -/
def steadyRise (s : State) (k : Fin 8) : Nat :=
  ((sheafMembers s k).map (fun p => (if s.kln.snaps = 0 then 0 else (s.kln.ports.get p).sumSq / s.kln.snaps) *
    (loopPerMetre s p).2 / 1000000)).sum * (s.kln.sheaves.get k).b.ths.toNat / 1000000

theorem steadyRise_congr {s t : State} {k : Fin 8} (h : kilnInputs t = kilnInputs s)
    (hk : t.kln.sheaves.get k = s.kln.sheaves.get k) : steadyRise t k = steadyRise s k := by
  simp only [kilnInputs, Prod.mk.injEq] at h
  obtain ⟨hslices, hbud, -, -, hsnaps, hports⟩ := h
  have hpcfg : ∀ p, (t.kln.ports.get p).pcfg = (s.kln.ports.get p).pcfg := fun p => congrArg Prod.fst (congrFun hports p)
  have hsum : ∀ p, (t.kln.ports.get p).sumSq = (s.kln.ports.get p).sumSq := fun p => congrArg Prod.snd (congrFun hports p)
  have hmembers : sheafMembers t k = sheafMembers s k := by simp only [sheafMembers, hpcfg]
  have hloop : ∀ p, loopPerMetre t p = loopPerMetre s p := fun p => by
    unfold loopPerMetre State.slice
    rw [hslices, hpcfg, hbud]
  simp only [steadyRise, hmembers, hloop, hsnaps, hsum, hk]

theorem globalEvent_kilnInputs (n : Nat) (w : Word) (i : Nat) (s : State) :
    kilnInputs (globalEvent n w i s) = kilnInputs s := by simp [kilnInputs]

theorem portEvent_kilnInputs (p : Port) (k : Nat) (s : State) : kilnInputs (portEvent p k s) = kilnInputs s := by
  simp [kilnInputs]

theorem onSheaf_kilnInputs (k : Fin 8) (f : Sheaf → Sheaf) (s : State) : kilnInputs (onSheaf k f s) = kilnInputs s := rfl

theorem onPortKln_kilnInputs (p : Port) {f : PortKln → PortKln} (hc : ∀ x, (f x).pcfg = x.pcfg)
    (hs : ∀ x, (f x).sumSq = x.sumSq) (s : State) : kilnInputs (onPortKln p f s) = kilnInputs s := by
  have hport : ∀ q, ((updAt s.kln.ports p f).get q).pcfg = (s.kln.ports.get q).pcfg ∧
      ((updAt s.kln.ports p f).get q).sumSq = (s.kln.ports.get q).sumSq := by
    intro q
    rw [get_updAt]
    split
    case isTrue h => rw [h]; exact ⟨hc _, hs _⟩
    case isFalse => exact ⟨rfl, rfl⟩
  simp only [kilnInputs, onPortKln_slices, onPortKln_bud, onPortKln_cyc, onPortKln_kln, hport]

section
variable (dtMs : Nat) (first : Bool)

theorem kilnPort_kilnInputs (sh : Sheaf) (qs : Nat) (tamb dtsSs dts : Int) (m : KilnMember) (s : State) :
    kilnInputs (kilnPort dtMs first sh qs tamb dtsSs dts m s) = kilnInputs s := by
  unfold kilnPort
  dsimp only
  simp only [apply_ite kilnInputs, portEvent_kilnInputs, ite_self]
  refine onPortKln_kilnInputs m.port ?_ ?_ s <;> exact fun _ => rfl

theorem kilnPort_sheaves (sh : Sheaf) (qs : Nat) (tamb dtsSs dts : Int) (m : KilnMember) (s : State) :
    (kilnPort dtMs first sh qs tamb dtsSs dts m s).kln.sheaves = s.kln.sheaves := by
  unfold kilnPort
  dsimp only
  rw [apply_ite State.kln, portEvent_kln, ite_self]
  rfl

/-! ## One sheaf's turn (R249) -/

theorem kilnSheaf_disabled {k : Fin 8} {s : State} (h : (s.kln.sheaves.get k).a.en = false) :
    kilnSheaf dtMs first k s = s := by
  unfold kilnSheaf
  exact if_pos (by rw [h]; rfl)

/-- A turn runs its members, and then writes its own sheaf. -/
theorem kilnSheaf_eq {k : Fin 8} {s : State} (h : (s.kln.sheaves.get k).a.en = true) : ∃ (t : State) (f : Sheaf → Sheaf),
    kilnInputs t = kilnInputs s ∧ t.kln.sheaves = s.kln.sheaves ∧
    (∀ x, (f x).ntcN = 0 ∧ (f x).ntcFault = false ∧ (first = true → (f x).dts = steadyRise s k)) ∧
    (kilnSheaf dtMs first k s = onSheaf k f t ∨ ∃ w, kilnSheaf dtMs first k s = globalEvent 202 w k.val (onSheaf k f t)) := by
  unfold kilnSheaf
  dsimp only
  rw [if_neg (by rw [h]; decide)]
  refine ⟨_, _, ?inputs, ?sheaves, ?node, (ite_eq_or_eq _ _ _).symm.imp_right fun h => ⟨_, h⟩⟩
  case inputs => exact foldl_same kilnInputs _ (fun s m => kilnPort_kilnInputs dtMs first _ _ _ _ _ m s) _ s
  case sheaves => exact foldl_same (fun s => s.kln.sheaves) _ (fun s m => kilnPort_sheaves dtMs first _ _ _ _ _ m s) _ s
  case node =>
    refine fun x => ⟨rfl, rfl, fun hf => ?_⟩
    refine (if_pos hf).trans ?_
    rw [List.map_map]
    rfl

/-- A turn changes nothing of what the other turns read. -/
theorem kilnSheaf_kilnInputs (k : Fin 8) (s : State) : kilnInputs (kilnSheaf dtMs first k s) = kilnInputs s := by
  cases hen : (s.kln.sheaves.get k).a.en with
  | false => rw [kilnSheaf_disabled dtMs first hen]
  | true =>
    obtain ⟨t, f, hin, -, -, h | ⟨w, h⟩⟩ := kilnSheaf_eq dtMs first hen
    · rw [h, onSheaf_kilnInputs, hin]
    · rw [h, globalEvent_kilnInputs, onSheaf_kilnInputs, hin]

theorem kilnSheaf_sheaves {k : Fin 8} {s : State} (h : (s.kln.sheaves.get k).a.en = true) : ∃ f : Sheaf → Sheaf,
    (∀ x, (f x).ntcN = 0 ∧ (f x).ntcFault = false ∧ (first = true → (f x).dts = steadyRise s k)) ∧
    (kilnSheaf dtMs first k s).kln.sheaves = updAt s.kln.sheaves k f := by
  obtain ⟨t, f, -, hsh, hf, h | ⟨w, h⟩⟩ := kilnSheaf_eq dtMs first h
  · exact ⟨f, hf, by rw [h, onSheaf_kln, hsh]⟩
  · exact ⟨f, hf, by rw [h, globalEvent_kln, onSheaf_kln, hsh]⟩

theorem kilnSheaf_ne {j k : Fin 8} (hne : k ≠ j) (s : State) :
    (kilnSheaf dtMs first j s).kln.sheaves.get k = s.kln.sheaves.get k := by
  cases hen : (s.kln.sheaves.get j).a.en with
  | false => rw [kilnSheaf_disabled dtMs first hen]
  | true =>
    obtain ⟨f, -, h⟩ := kilnSheaf_sheaves dtMs first hen
    rw [h, get_updAt_ne _ _ hne]

/-! ## All the turns -/

theorem mem_allSheaves (k : Fin 8) : k ∈ allSheaves := by
  revert k
  decide

/-- The turns of some sheaves, in order. -/
def kilnTurns (l : List (Fin 8)) (s : State) : State := l.foldl (fun s k => kilnSheaf dtMs first k s) s

theorem kilnTurns_kilnInputs (l : List (Fin 8)) (s : State) : kilnInputs (kilnTurns dtMs first l s) = kilnInputs s :=
  foldl_same kilnInputs _ (fun s k => kilnSheaf_kilnInputs dtMs first k s) l s

theorem kilnTurns_ne {k : Fin 8} {l : List (Fin 8)} (h : k ∉ l) (s : State) :
    (kilnTurns dtMs first l s).kln.sheaves.get k = s.kln.sheaves.get k := by
  induction l generalizing s with
  | nil => rfl
  | cons j l ih =>
    obtain ⟨hj, hl⟩ := not_or.1 (List.mem_cons.not.1 h)
    exact (ih hl _).trans (kilnSheaf_ne dtMs first hj s)

/-- After all the turns a sheaf is as its own turn left it, and that turn read what stood before the first one. -/
theorem kilnTurns_sheaf (k : Fin 8) (s : State) : ∃ t, kilnInputs t = kilnInputs s ∧
    t.kln.sheaves.get k = s.kln.sheaves.get k ∧
    (kilnTurns dtMs first allSheaves s).kln.sheaves.get k = (kilnSheaf dtMs first k t).kln.sheaves.get k := by
  obtain ⟨l, r, hl⟩ := List.append_of_mem (mem_allSheaves k)
  have hnodup : (l ++ k :: r).Nodup := hl ▸ (by decide : allSheaves.Nodup)
  have hkl : k ∉ l := fun h => (List.nodup_append.1 hnodup).2.2 k h k (List.mem_cons_self ..) rfl
  have hkr : k ∉ r := (List.nodup_cons.1 (List.nodup_append.1 hnodup).2.1).1
  refine ⟨kilnTurns dtMs first l s, kilnTurns_kilnInputs dtMs first l s, kilnTurns_ne dtMs first hkl s, ?_⟩
  have hsplit : kilnTurns dtMs first allSheaves s =
      kilnTurns dtMs first r (kilnSheaf dtMs first k (kilnTurns dtMs first l s)) := by
    rw [kilnTurns, hl, List.foldl_append]; rfl
  rw [hsplit, kilnTurns_ne dtMs first hkr]

theorem kilnTurns_disabled {k : Fin 8} {s : State} (h : (s.kln.sheaves.get k).a.en = false) :
    (kilnTurns dtMs first allSheaves s).kln.sheaves.get k = s.kln.sheaves.get k := by
  obtain ⟨t, -, hk, ht⟩ := kilnTurns_sheaf dtMs first k s
  rw [ht, kilnSheaf_disabled dtMs first (by rw [hk, h]), hk]

/-- An enabled sheaf has begun a new interval of samples, and a first update has set its node to the steady-state rise. -/
theorem kilnTurns_enabled {k : Fin 8} {s : State} (h : (s.kln.sheaves.get k).a.en = true) :
    ((kilnTurns dtMs first allSheaves s).kln.sheaves.get k).ntcN = 0 ∧
    ((kilnTurns dtMs first allSheaves s).kln.sheaves.get k).ntcFault = false ∧
    (first = true → ((kilnTurns dtMs first allSheaves s).kln.sheaves.get k).dts = steadyRise s k) := by
  obtain ⟨t, hin, hk, ht⟩ := kilnTurns_sheaf dtMs first k s
  obtain ⟨f, hf, hsh⟩ := kilnSheaf_sheaves dtMs first (s := t) (by rw [hk, h])
  rw [ht, hsh, get_updAt_self, ← steadyRise_congr hin hk]
  exact hf _

end

/-! ## KILN_UPDATE (R249) -/

/-- The interval of an update, in ms. -/
def kilnInterval (s : State) : Nat := s.kln.cycles * s.cyc.len.toNat * 5 / 256000000

/-- The update is counted, and the next interval begins. -/
def kilnClosed (s : State) : State :=
  { s with kln := { s.kln with
    first := false, cycles := 0, snaps := 0
    stat := { upd := s.kln.stat.upd + 1, cnLo := s.cyc.cn.setWidth 16 }
    ports := mapVec (fun k => { k with sumSq := 0 }) s.kln.ports } }

theorem kilnClosed_sheaves (s : State) : (kilnClosed s).kln.sheaves = s.kln.sheaves := rfl

/-- An update that runs is the sheaves' turns, closed. -/
theorem kilnUpdate_eq {s : State} (hrun : policyRuns s = true) (hcn : s.cyc.cn.toNat % kilnEvery s = 0) :
    kilnUpdate s = kilnClosed (kilnTurns (kilnInterval s) s.kln.first allSheaves s) := by
  unfold kilnUpdate
  rw [if_neg (by simp [hrun, hcn])]
  dsimp only
  rw [kilnTurns, kilnInterval]
  generalize List.foldl _ s allSheaves = t
  rfl

theorem kilnUpdate_off {s : State} (h : policyRuns s = false ∨ s.cyc.cn.toNat % kilnEvery s ≠ 0) : kilnUpdate s = s :=
  if_pos (by rcases h with h | h <;> simp [h])

/-! ## The obligation -/

/-- Settles O42: the round's effect, a sheaf's sample, and the turns of the sheaves, command by command. -/
theorem budgetAndKiln : Obligations.BudgetAndKiln := by
  unfold Obligations.BudgetAndKiln
  refine ⟨?_, ?_, ?_, ?_, ?_, ?_, ?_, ?_, ?_, ?_⟩
  · intro dt s hrun hhold hcond
    obtain ⟨hrnd, hdid, hpwr⟩ := budgetRound_effect hrun hhold dt
    refine ⟨_, execBudgetRound_of_not_boot hcond hdid, ?_, ?_, fun r hr => ?_⟩
    · rw [spreading_bud, hrnd]
    · rw [spreading_did, hdid]
    · rw [spreading_gr_of]; exact hpwr r hr
  · intro dt s hrun hhold hcond hstage hclock
    obtain ⟨hrnd, hdid, -⟩ := budgetRound_effect hrun hhold dt
    refine ⟨_, execBudgetRound_of_boot hcond hstage hclock hdid (by rw [hrnd]; exact Nat.succ_pos _), ?_, ?_⟩
    · rw [onDid_bud, spreading_bud, hrnd]
    · rw [onDid_did, spreading_did, hdid]
  · intro dt s hoff hcond
    have hsame := budgetRound_off hoff dt
    exact (execBudgetRound_of_not_boot hcond (by rw [hsame])).trans (congrArg Host.Outcome.next (spreading_same _ _ hsame))
  · intro mv vdda k s hrun hen hntc hlo hhi
    exact ⟨_, execNtcSample_runs hrun mv vdda, (get_mapVec _ _ _).trans (ntcSheaf_valid ⟨hen, hntc⟩ hlo hhi)⟩
  · intro mv vdda k s hrun hen hntc hhi
    exact ⟨_, execNtcSample_runs hrun mv vdda, (get_mapVec _ _ _).trans (ntcSheaf_high ⟨hen, hntc⟩ hhi)⟩
  · intro mv vdda k s hrun hen
    exact ⟨_, execNtcSample_runs hrun mv vdda, (get_mapVec _ _ _).trans (ntcSheaf_disabled hen mv vdda), rfl⟩
  · intro mv vdda s hoff
    exact congrArg Host.Outcome.next (if_neg (by simp [hoff]))
  · intro s hrun hcn
    have hin := kilnTurns_kilnInputs (kilnInterval s) s.kln.first allSheaves s
    have hoff := fun k (hk : (s.kln.sheaves.get k).a.en = false) => kilnTurns_disabled (kilnInterval s) s.kln.first hk
    have hon := fun k (hk : (s.kln.sheaves.get k).a.en = true) => kilnTurns_enabled (kilnInterval s) s.kln.first hk
    refine ⟨_, congrArg Host.Outcome.next (kilnUpdate_eq hrun hcn), ?_⟩
    generalize kilnTurns (kilnInterval s) s.kln.first allSheaves s = t at hin hoff hon ⊢
    simp only [kilnInputs, Prod.mk.injEq] at hin
    obtain ⟨-, -, hcyc, hstat, -⟩ := hin
    refine ⟨rfl, rfl, rfl, ?_, hoff, fun k hk => ⟨(hon k hk).1, (hon k hk).2.1⟩, fun p => ?_⟩
    · rw [← hcyc, ← hstat]; rfl
    · rw [kilnClosed, get_mapVec]
  · intro k s hrun hcn hfirst hk
    obtain ⟨-, -, hnode⟩ := kilnTurns_enabled (kilnInterval s) s.kln.first hk
    refine ⟨_, congrArg Host.Outcome.next (kilnUpdate_eq hrun hcn), ?_⟩
    rw [kilnClosed_sheaves]
    exact hnode hfirst
  · intro s hoff
    exact congrArg Host.Outcome.next (kilnUpdate_off hoff)

end Sys2Proof.Machine
end

section
/-!
PROOFS. Zero-cross capture, the cycle boundary and the timers (R253 to R258, R261, R268, R270).
-/

namespace Sys2Proof.Machine

/-! ## Zero-cross capture (R253, R254) -/

section
variable {us : Nat} {rising : Bool} {since : Int} {s : State}

theorem zcCapture_off (h : s.cyc.running = false ∨ zcCounts s.cyc.cfg rising = false) : zcCapture us rising since s = s :=
  if_pos (by rcases h with h | h <;> simp [h])

theorem zcCapture_counted (hr : s.cyc.running = true) (hz : zcCounts s.cyc.cfg rising = true) :
    zcCapture us rising since s =
      if s.cyc.zcEdges + 1 < (zcEvery s.cyc.cfg).1 then { s with cyc := { s.cyc with zcEdges := s.cyc.zcEdges + 1 } }
      else zcCaptureAt us since { s with cyc := { s.cyc with zcEdges := 0 } } :=
  if_neg (by simp [hr, hz])

theorem zcCapture_captures (hr : s.cyc.running = true) (hz : zcCounts s.cyc.cfg rising = true)
    (he : (zcEvery s.cyc.cfg).1 ≤ s.cyc.zcEdges + 1) :
    zcCapture us rising since s = zcCaptureAt us since { s with cyc := { s.cyc with zcEdges := 0 } } :=
  (zcCapture_counted hr hz).trans (if_neg (not_lt.2 he))

end

/-- P of R253 in ns: the time between two captures over the cycles of a capture. -/
def zcPeriod (c : CycCfg) (t0 t : Nat) : Nat := (t - t0) * 1000 / (zcEvery c).2

/-- The period lies in the range of R254. -/
def zcInRange (p : Nat) : Bool := 15000000 ≤ p && p ≤ 22500000

/-- The period is within 1 % of the one before it (R254). -/
def zcNear (p0 p : Nat) : Bool := p0 ≠ 0 && 100 * (max p p0 - min p p0) ≤ p0

/-- What a captured period `p` at `t` µs leaves of the clock's own figures. -/
def Cyc.captured (t p : Nat) (c : Cyc) : Cyc :=
  let passed := zcInRange p && zcNear c.zcP p
  let good := if passed then c.zcGood + 1 else 0
  { c with
    zcEdges := 0, zcLast := some t, zcP := p, zcper := BitVec.ofNat 32 p, zcGood := good
    zcValid := c.cfg.zcEn && (if passed then c.zcValid || 8 ≤ good else false) }

/-- A reference instant moves the source, the target length and the error of the clock alone (R256, R257). -/
theorem zcReference_cyc (p m : Nat) (since : Int) (s : State) : ∃ src lt slew e,
    (zcReference p m since s).cyc = { s.cyc with src := src, lt := lt, slewE := slew, perr := e } := by
  unfold zcReference
  split
  · exact ⟨_, _, _, _, rfl⟩
  · exact ⟨_, _, _, _, rfl⟩

section
variable {us : Nat} {rising : Bool} {since : Int} {s : State} (hr : s.cyc.running = true)
  (hz : zcCounts s.cyc.cfg rising = true) (he : (zcEvery s.cyc.cfg).1 ≤ s.cyc.zcEdges + 1)
include hr hz he

theorem zcCapture_first (h : s.cyc.zcLast = none) :
    zcCapture us rising since s = { s with cyc := { s.cyc with zcEdges := 0, zcLast := some us } } := by
  rw [zcCapture_captures hr hz he]
  simp only [zcCaptureAt, h]

theorem zcCapture_next {t0 : Nat} (h : s.cyc.zcLast = some t0) :
    zcCapture us rising since s = zcReference (zcPeriod s.cyc.cfg t0 us) (zcEvery s.cyc.cfg).2 since
      { s with cyc := s.cyc.captured us (zcPeriod s.cyc.cfg t0 us) } := by
  rw [zcCapture_captures hr hz he]
  simp only [zcCaptureAt, h]
  rfl

theorem zcCapture_next_cyc {t0 : Nat} (h : s.cyc.zcLast = some t0) : ∃ src lt slew e,
    (zcCapture us rising since s).cyc = { s.cyc.captured us (zcPeriod s.cyc.cfg t0 us) with
      src := src, lt := lt, slewE := slew, perr := e } := by
  rw [zcCapture_next hr hz he h]
  exact zcReference_cyc _ _ _ _

end

theorem captured_of_out {p : Nat} (h : p < 15000000 ∨ 22500000 < p) (t : Nat) (c : Cyc) :
    (c.captured t p).zcValid = false ∧ (c.captured t p).zcGood = 0 := by
  have hout : zcInRange p = false := by
    rcases h with h | h <;> simp [zcInRange, h]
  simp [Cyc.captured, hout]

/-- The eighth capture in a row that passes makes the period valid (R254). -/
theorem captured_valid {c : Cyc} {p : Nat} (hen : c.cfg.zcEn = true) (h7 : c.zcGood = 7) (hlo : 15000000 ≤ p)
    (hhi : p ≤ 22500000) (hp : c.zcP = p) (t : Nat) : (c.captured t p).zcValid = true := by
  have hin : zcInRange p = true := by simp [zcInRange, hlo, hhi]
  have hnear : zcNear p p = true := by
    have hpos : p ≠ 0 := by omega
    simp [zcNear, hpos]
  simp [Cyc.captured, hen, h7, hp, hin, hnear]

theorem zcReference_used {s : State} (h : wantedSource s = .zc) (p m : Nat) (since : Int) :
    (zcReference p m since s).cyc.zcValid = s.cyc.zcValid ∧ (zcReference p m since s).cyc.src = .zc ∧
    (zcReference p m since s).cyc.perr = referenceError (since + s.cyc.cfg.ofs.toInt * 1000) s := by
  rw [zcReference, if_pos h]
  exact ⟨rfl, rfl, rfl⟩

theorem wantedSource_zc {s : State} (hs : s.syn.stat.state ≠ 2) (hv : s.cyc.zcValid = true) : wantedSource s = .zc := by
  rw [wantedSource, decide_eq_false hs, hv]
  rfl

/-! ## The number of the cycle (R255, R258) -/

theorem advanceCn_eq {s : State} (h : s.cyc.cn + 1 ≠ 0) :
    advanceCn s = { s with cyc := { s.cyc with cn := s.cyc.cn + 1 } } := by
  simp only [advanceCn, if_neg h]

theorem advanceCn_wrap {s : State} (h : s.cyc.cn + 1 = 0) :
    (advanceCn s).cyc = { s.cyc with cn := 0, epoch := s.cyc.epoch + 1 } ∧ (advanceCn s).syn = s.syn ∧
    (advanceCn s).eva.raised 225 = true := by
  simp only [advanceCn, h, if_true, globalEvent_cyc, globalEvent_syn, globalEvent_eva, true_and]
  exact raise_raised 225 _ (by decide)

theorem applyRenumberings_none {s : State} (hl : s.syn.lockAt = none) (ht : s.cyc.timeSets = []) : applyRenumberings s = s := by
  simp only [applyRenumberings, hl, ht, List.find?_nil]

theorem renumberBy_effect (d : Word) (s : State) :
    (renumberBy d s).cyc.cn = s.cyc.cn ∧ (renumberBy d s).cyc.epoch = s.cyc.epoch ∧ (renumberBy d s).cyc.renum = true ∧
    (renumberBy d s).cyc.timeSets = s.cyc.timeSets ∧ (renumberBy d s).syn = s.syn := by
  have hcyc := fun t => overPorts_same State.cyc (fun p s => phaseLoad p true s) t (fun _ _ => rfl)
  have hsyn := fun t => overPorts_same State.syn (fun p s => phaseLoad p true s) t (fun _ _ => rfl)
  simp only [renumberBy, hcyc, hsyn, and_self]

/-- A lock renumbers the cycle that begins (R258). -/
theorem applyRenumberings_lock {cn : Word} {ep : BitVec 16} {s : State} (hl : s.syn.lockAt = some (cn, ep))
    (ht : s.cyc.timeSets = []) (hne : cn ≠ s.cyc.cn) :
    (applyRenumberings s).cyc.cn = cn ∧ (applyRenumberings s).cyc.epoch = ep ∧ (applyRenumberings s).cyc.renum = true ∧
    (applyRenumberings s).syn.lockAt = none := by
  have hd : cn - s.cyc.cn ≠ 0 := sub_ne_zero.2 hne
  have hby := renumberBy_effect (cn - s.cyc.cn)
    { s with cyc := { s.cyc with cn := cn, epoch := ep }, syn := { s.syn with lockAt := none } }
  simp only [applyRenumberings, hl, renumber, if_neg hd]
  generalize renumberBy _ _ = t at hby ⊢
  obtain ⟨hcn, hep, hrenum, hsets, hsyn⟩ := hby
  simp only [hsets, ht, List.find?_nil, hcn, hep, hrenum, hsyn, and_self]

/-- After the renumberings only the source, the lengths, the timers and the strobe's mark move. -/
theorem boundaryClock_effect (s : State) :
    (boundaryClock s).cyc.cn = (applyRenumberings (advanceCn s)).cyc.cn ∧
    (boundaryClock s).cyc.epoch = (applyRenumberings (advanceCn s)).cyc.epoch ∧
    (boundaryClock s).cyc.renum = (applyRenumberings (advanceCn s)).cyc.renum ∧
    (boundaryClock s).cyc.slots = (applyRenumberings (advanceCn s)).cyc.slots ∧
    (boundaryClock s).cyc.snapTaken = false ∧
    (boundaryClock s).eva = (applyRenumberings (advanceCn s)).eva ∧
    (boundaryClock s).syn = (applyRenumberings (advanceCn s)).syn ∧
    (boundaryClock s).kln = (applyRenumberings (advanceCn s)).kln := by
  unfold boundaryClock
  generalize applyRenumberings (advanceCn s) = t
  unfold internalReference
  split
  · exact ⟨rfl, rfl, rfl, rfl, rfl, rfl, rfl, rfl⟩
  · exact ⟨rfl, rfl, rfl, rfl, rfl, rfl, rfl, rfl⟩

/-- With the internal source the length of a cycle follows L_int, with no error (R256). -/
theorem boundaryClock_internal {s : State} (h : wantedSource (applyRenumberings (advanceCn s)) = .internal) :
    (boundaryClock s).cyc.src = .internal ∧
    (boundaryClock s).cyc.lt = internalLen (applyRenumberings (advanceCn s)).cyc.cfg ∧ (boundaryClock s).cyc.perr = 0 ∧
    (boundaryClock s).cyc.len = BitVec.ofInt 32 (nextLen
      { (applyRenumberings (advanceCn s)).cyc with lt := internalLen (applyRenumberings (advanceCn s)).cyc.cfg }).1 := by
  unfold boundaryClock
  generalize applyRenumberings (advanceCn s) = t at h ⊢
  rw [internalReference, if_pos h]
  exact ⟨rfl, rfl, rfl, rfl⟩

/-! ## The strobe (R261, R262, R268) -/

/-- What a port's own turn makes true of its slice and of what no turn changes is true of it after the loop over all ports. -/
theorem overPorts_own {α : Type} (g : State → α) {f : Port → State → State} (hg : ∀ p s, g (f p s) = g s)
    (hne : ∀ p q s, p ≠ q → (f q s).slice p = s.slice p) {P : α → Port → Slice → Prop}
    (hself : ∀ p s, P (g s) p ((f p s).slice p)) (p : Port) (s : State) : P (g s) p ((overPorts f s).slice p) := by
  obtain ⟨l, r, hl⟩ := List.append_of_mem (mem_allPorts p)
  have hpr : p ∉ r :=
    (List.nodup_cons.1 (List.nodup_append.1 (hl ▸ allPorts_nodup : (l ++ p :: r).Nodup)).2.1).1
  have hafter : ∀ (r : List Port) (t : State), p ∉ r → (r.foldl (fun s q => f q s) t).slice p = t.slice p := by
    intro r
    induction r with
    | nil => exact fun _ _ => rfl
    | cons q r ih =>
      intro t hp
      obtain ⟨hq, hr⟩ := not_or.1 (List.mem_cons.not.1 hp)
      rw [List.foldl_cons, ih _ hr, hne p q t hq]
  have hbefore : g (l.foldl (fun s q => f q s) s) = g s := foldl_same g _ (fun s q => hg q s) l s
  rw [overPorts, hl, List.foldl_append, List.foldl_cons, hafter r _ hpr, ← hbefore]
  exact hself p _

theorem onSlice_snap {q : Port} {f : Slice → Slice} (h : ∀ x, (f x).snap = x.snap) (p : Port) (s : State) :
    ((onSlice q f s).slice p).snap = (s.slice p).snap := by
  by_cases e : p = q
  · rw [e, slice_onSlice, h]
  · rw [slice_onSlice_ne f s e]

theorem onTh_snap {q : Port} (f : SliceTh → SliceTh) (p : Port) (s : State) :
    ((onTh q f s).slice p).snap = (s.slice p).snap := onSlice_snap (f := fun x => { x with th := f x.th }) (fun _ => rfl) p s
theorem onPs_snap {q : Port} (f : SlicePs → SlicePs) (p : Port) (s : State) :
    ((onPs q f s).slice p).snap = (s.slice p).snap := onSlice_snap (f := fun x => { x with ps := f x.ps }) (fun _ => rfl) p s

/-- The latch is a turn of every port, which changes its slice alone and takes the number of the cycle (R15, R261). -/
theorem latchSnapshots_turns (ms : List SnapMeas) : ∃ f : State → Port → Slice → Slice,
    (∀ s, latchSnapshots ms s = overPorts (fun p s => onSlice p (f s p) s) s) ∧
    ∀ s p x, (f s p x).snap.cn = s.cyc.cn ∧
      (f s p x).snap.i = { iout := (ms.getD p.val {}).iout, pout := (ms.getD p.val {}).pout } :=
  ⟨_, fun _ => rfl, fun _ _ _ => ⟨rfl, rfl⟩⟩

theorem latchSnapshots_same {α : Type} (g : State → α) (hs : ∀ p f s, g (onSlice p f s) = g s) (ms : List SnapMeas)
    (s : State) : g (latchSnapshots ms s) = g s := by
  obtain ⟨f, hf, -⟩ := latchSnapshots_turns ms
  rw [hf, overPorts_same g _ s (fun p s => hs p (f s p) s)]

theorem latchSnapshots_snap (ms : List SnapMeas) (p : Port) (s : State) :
    ((latchSnapshots ms s).slice p).snap.cn = s.cyc.cn ∧
    ((latchSnapshots ms s).slice p).snap.i = { iout := (ms.getD p.val {}).iout, pout := (ms.getD p.val {}).pout } := by
  obtain ⟨f, hf, hsnap⟩ := latchSnapshots_turns ms
  rw [hf]
  refine overPorts_own (fun s => s.cyc.cn) (f := fun p s => onSlice p (f s p) s) (fun _ _ => rfl)
    (fun _ q s h => slice_onSlice_ne (f s q) s h)
    (P := fun cn p x => x.snap.cn = cn ∧ x.snap.i = { iout := (ms.getD p.val {}).iout, pout := (ms.getD p.val {}).pout })
    (fun p s => ?_) p s
  rw [slice_onSlice]
  exact hsnap s p _

/-- The strobe's loads, its snapshots, and the kiln's sums. -/
def strobed (ms : List SnapMeas) (s : State) : State :=
  s |> overPorts (fun p s => phaseLoad p false s) |> latchSnapshots ms |> collectCurrents

/-- What the slices and the kiln's figures do not show, the strobe keeps. -/
theorem strobed_same {α : Type} (g : State → α) (hs : ∀ p f s, g (onSlice p f s) = g s)
    (hk : ∀ p f s, g (onPortKln p f s) = g s) (hc : ∀ s, g (countSnap s) = g s) (ms : List SnapMeas) (s : State) :
    g (strobed ms s) = g s := by
  rw [strobed, collectCurrents, hc, overPorts_same g addSquare _ (fun p s => hk p _ s), latchSnapshots_same g hs,
    overPorts_same g (fun p s => phaseLoad p false s) s (fun p s => hs p _ s)]

theorem strobed_counts (ms : List SnapMeas) (s : State) :
    (strobed ms s).kln.cycles = s.kln.cycles + 1 ∧ (strobed ms s).kln.snaps = s.kln.snaps + 1 := by
  have hcycles := fun t => overPorts_same (fun s => s.kln.cycles) addSquare t (fun _ _ => rfl)
  have hsnaps := fun t => overPorts_same (fun s => s.kln.snaps) addSquare t (fun _ _ => rfl)
  have hload := overPorts_same State.kln (fun p s => phaseLoad p false s) s (fun _ _ => rfl)
  simp only [strobed, collectCurrents, countSnap, hcycles, hsnaps, latchSnapshots_same State.kln (fun _ _ _ => rfl), hload,
    and_self]

theorem countSnap_slice (p : Port) (s : State) : (countSnap s).slice p = s.slice p := rfl

theorem strobed_snap (ms : List SnapMeas) (p : Port) (s : State) :
    ((strobed ms s).slice p).snap.cn = s.cyc.cn ∧
    ((strobed ms s).slice p).snap.i = { iout := (ms.getD p.val {}).iout, pout := (ms.getD p.val {}).pout } := by
  have hslice := fun t => overPorts_same (State.slice · p) addSquare t (fun _ _ => rfl)
  have hload : (overPorts (fun p s => phaseLoad p false s) s).cyc = s.cyc := overPorts_same State.cyc _ s (fun _ _ => rfl)
  rw [strobed, collectCurrents, countSnap_slice, hslice, ← hload]
  exact latchSnapshots_snap ms p _

/-- The polls of Thatch and the far-end counts, which follow the commitment of entries. -/
def polled (s : State) : State := s |> overPorts (fun p s => onTh p (thStrobe s.cyc.cn) s) |> overPorts feCycle

theorem polled_same {α : Type} (g : State → α) (hth : ∀ p f s, g (onTh p f s) = g s) (hps : ∀ p f s, g (onPs p f s) = g s)
    (s : State) : g (polled s) = g s := by
  rw [polled, overPorts_same g feCycle _ (fun p s => hps p _ s),
    overPorts_same g (fun p s => onTh p (thStrobe s.cyc.cn) s) _ (fun p s => hth p _ s)]

theorem commitEntries_cyc_congr {s t : State} (h : t.cyc = s.cyc) : (commitEntries t).cyc = (commitEntries s).cyc := by
  simp only [commitEntries, h]

theorem commitEntries_eva (s : State) : (commitEntries s).eva = s.eva := by rw [commitEntries]
theorem commitEntries_syn (s : State) : (commitEntries s).syn = s.syn := by rw [commitEntries]
theorem commitEntries_kln (s : State) : (commitEntries s).kln = s.kln := by rw [commitEntries]
theorem commitEntries_slice (s : State) (p : Port) : (commitEntries s).slice p = s.slice p := by
  rw [commitEntries, State.slice, State.slice]

/-- What the strobe makes of a state: beside the slices and the kiln's sums it commits entries alone. -/
theorem strobe_effect (ms : List SnapMeas) (s : State) :
    (polled (commitEntries (strobed ms s))).cyc = (commitEntries s).cyc ∧
    (polled (commitEntries (strobed ms s))).eva = s.eva ∧ (polled (commitEntries (strobed ms s))).syn = s.syn ∧
    (polled (commitEntries (strobed ms s))).kln.cycles = s.kln.cycles + 1 ∧
    (polled (commitEntries (strobed ms s))).kln.snaps = s.kln.snaps + 1 ∧
    ∀ p, ((polled (commitEntries (strobed ms s))).slice p).snap.cn = s.cyc.cn ∧
      ((polled (commitEntries (strobed ms s))).slice p).snap.i =
        { iout := (ms.getD p.val {}).iout, pout := (ms.getD p.val {}).pout } := by
  have hcyc := strobed_same State.cyc (fun _ _ _ => rfl) (fun _ _ _ => rfl) (fun _ => rfl) ms s
  have heva := strobed_same State.eva (fun _ _ _ => rfl) (fun _ _ _ => rfl) (fun _ => rfl) ms s
  have hsyn := strobed_same State.syn (fun _ _ _ => rfl) (fun _ _ _ => rfl) (fun _ => rfl) ms s
  obtain ⟨hcycles, hsnaps⟩ := strobed_counts ms s
  have hsnap := fun p => strobed_snap ms p s
  generalize strobed ms s = u at hcyc heva hsyn hcycles hsnaps hsnap ⊢
  have hpcyc := polled_same State.cyc (fun _ _ _ => rfl) (fun _ _ _ => rfl) (commitEntries u)
  have hpeva := polled_same State.eva (fun _ _ _ => rfl) (fun _ _ _ => rfl) (commitEntries u)
  have hpsyn := polled_same State.syn (fun _ _ _ => rfl) (fun _ _ _ => rfl) (commitEntries u)
  have hpkln := polled_same State.kln (fun _ _ _ => rfl) (fun _ _ _ => rfl) (commitEntries u)
  have hpsnap := fun p => polled_same (fun s => (s.slice p).snap) (fun _ f s => onTh_snap f p s)
    (fun _ f s => onPs_snap f p s) (commitEntries u)
  generalize polled (commitEntries u) = v at hpcyc hpeva hpsyn hpkln hpsnap ⊢
  rw [hpcyc, hpeva, hpsyn, hpkln, commitEntries_cyc_congr hcyc, commitEntries_eva, commitEntries_syn, commitEntries_kln]
  refine ⟨rfl, heva, hsyn, hcycles, hsnaps, fun p => ?_⟩
  rw [hpsnap, commitEntries_slice]
  exact hsnap p

/-- The line after a boundary: closed commands leave, and a master sends its TICK (R269, R274). -/
def lineAfterBoundary (s : State) : State :=
  let s := { s with syn := { s.syn with open_ := s.syn.open_.filter (fun o => !(o.2 - s.cyc.cn).msb) } }
  if s.syn.stat.state = 4 then synSend [tickFrame s] s else s

theorem lineAfterBoundary_keeps (s : State) :
    (lineAfterBoundary s).cyc = s.cyc ∧ (lineAfterBoundary s).eva = s.eva ∧ (lineAfterBoundary s).kln = s.kln ∧
    (∀ p, (lineAfterBoundary s).slice p = s.slice p) ∧ (lineAfterBoundary s).syn.lockAt = s.syn.lockAt := by
  unfold lineAfterBoundary
  dsimp only
  split
  · exact ⟨rfl, rfl, rfl, fun _ => rfl, rfl⟩
  · exact ⟨rfl, rfl, rfl, fun _ => rfl, rfl⟩

theorem cycleBoundary_off {s : State} (h : s.cyc.running = false) (ms : List SnapMeas) : cycleBoundary ms s = s :=
  if_pos (by simp [h])

theorem cycleBoundary_eq {s : State} (h : s.cyc.running = true) (ms : List SnapMeas) :
    cycleBoundary ms s = lineAfterBoundary (polled (commitEntries (strobed ms (boundaryClock s)))) := by
  rw [cycleBoundary, if_neg (by simp [h]), polled, strobed]
  rfl

/-- What the strobe makes of the state in which the clock has begun the cycle: beside the slices and the kiln's sums it
commits entries (R268) and keeps the clock, the events and the lock. -/
theorem cycleBoundary_effect {s : State} (h : s.cyc.running = true) (ms : List SnapMeas) :
    (cycleBoundary ms s).cyc = (commitEntries (boundaryClock s)).cyc ∧
    (cycleBoundary ms s).eva = (boundaryClock s).eva ∧
    (cycleBoundary ms s).syn.lockAt = (boundaryClock s).syn.lockAt ∧
    (cycleBoundary ms s).kln.cycles = (boundaryClock s).kln.cycles + 1 ∧
    (cycleBoundary ms s).kln.snaps = (boundaryClock s).kln.snaps + 1 ∧
    ∀ p, ((cycleBoundary ms s).slice p).snap.cn = (boundaryClock s).cyc.cn ∧
      ((cycleBoundary ms s).slice p).snap.i = { iout := (ms.getD p.val {}).iout, pout := (ms.getD p.val {}).pout } := by
  rw [cycleBoundary_eq h]
  generalize boundaryClock s = b
  obtain ⟨hcyc, heva, hsyn, hcycles, hsnaps, hsnap⟩ := strobe_effect ms b
  obtain ⟨hlcyc, hleva, hlkln, hlslice, hlock⟩ := lineAfterBoundary_keeps (polled (commitEntries (strobed ms b)))
  refine ⟨hlcyc.trans hcyc, hleva.trans heva, hlock.trans (congrArg Syn.lockAt hsyn),
    (congrArg Kln.cycles hlkln).trans hcycles, (congrArg Kln.snaps hlkln).trans hsnaps, fun p => ?_⟩
  rw [hlslice]
  exact hsnap p

/-- An entry whose cycle begins is committed (R268). -/
theorem commitEntries_cyc (s : State) : ∃ v, (commitEntries s).cyc = { s.cyc with slots := v } ∧
    ∀ k, (s.cyc.slots.get k).st = .pending → (s.cyc.slots.get k).entry.tcn = s.cyc.cn → (v.get k).committed = true := by
  refine ⟨_, rfl, fun k hst hcn => ?_⟩
  rw [get_mapVec, if_pos (by simp [hst, hcn])]

/-! ## The boundary as a whole (R255, R258) -/

/-- Without a renumbering the boundary's number is the next one. -/
theorem numbered_next {s : State} (hcn : s.cyc.cn + 1 ≠ 0) (hl : s.syn.lockAt = none) (ht : s.cyc.timeSets = []) :
    applyRenumberings (advanceCn s) = { s with cyc := { s.cyc with cn := s.cyc.cn + 1 } } := by
  rw [advanceCn_eq hcn]
  exact applyRenumberings_none hl ht

theorem numbered_wrap {s : State} (hcn : s.cyc.cn + 1 = 0) (hl : s.syn.lockAt = none) (ht : s.cyc.timeSets = []) :
    (applyRenumberings (advanceCn s)).cyc.cn = 0 ∧ (applyRenumberings (advanceCn s)).cyc.epoch = s.cyc.epoch + 1 ∧
    (applyRenumberings (advanceCn s)).eva.raised 225 = true := by
  obtain ⟨hcyc, hsyn, hraised⟩ := advanceCn_wrap hcn
  rw [applyRenumberings_none (by rw [hsyn, hl]) (by rw [hcyc]; exact ht), hcyc]
  exact ⟨rfl, rfl, hraised⟩

theorem numbered_lock {cn : Word} {ep : BitVec 16} {s : State} (hcn : s.cyc.cn + 1 ≠ 0) (hl : s.syn.lockAt = some (cn, ep))
    (ht : s.cyc.timeSets = []) (hne : cn ≠ s.cyc.cn + 1) :
    (applyRenumberings (advanceCn s)).cyc.cn = cn ∧ (applyRenumberings (advanceCn s)).cyc.epoch = ep ∧
    (applyRenumberings (advanceCn s)).cyc.renum = true ∧ (applyRenumberings (advanceCn s)).syn.lockAt = none := by
  rw [advanceCn_eq hcn]
  exact applyRenumberings_lock hl ht hne

/-! ## Timers (R270) -/

section
variable {k : Fin 8} {s : State}

theorem onTimer_get (f : Timer → Timer) : (onTimer k f s).cyc.timers.get k = f (s.cyc.timers.get k) :=
  get_updAt_self s.cyc.timers k f

theorem onTimer_get_ne (f : Timer → Timer) {j : Fin 8} (h : j ≠ k) :
    (onTimer k f s).cyc.timers.get j = s.cyc.timers.get j :=
  get_updAt_ne s.cyc.timers f h

end

theorem timerMatch_off {t : Timer} (h : t.ctl.en = false) (atTop : Bool) : timerMatch atTop t = t := by
  simp [timerMatch, h]

theorem timerMatch_mid {t : Timer} (h : t.ctl.en = true) :
    timerMatch false t = { t with cnt := t.matchV, stat := { t.stat with matchF := true } } := by
  simp [timerMatch, h]

theorem timerMatch_oneshot {t : Timer} (h : t.ctl.en = true) (ho : t.ctl.oneshot = true) : timerMatch true t =
    { t with cnt := t.top, ctl := { t.ctl with en := false }, stat := { t.stat with ovf := true } } := by
  simp [timerMatch, timerTick, h, ho]

theorem timerMatch_periodic {t : Timer} (h : t.ctl.en = true) (ho : t.ctl.oneshot = false) : timerMatch true t =
    { t with cnt := 0, stat := { matchF := t.stat.matchF || t.matchV = 0, ovf := true } } := by
  simp [timerMatch, timerTick, h, ho]

theorem onTimer_timerMatch_off {k : Fin 8} {s : State} (h : (s.cyc.timers.get k).ctl.en = false) (atTop : Bool) :
    onTimer k (timerMatch atTop) s = s := by
  have hsame : updAt s.cyc.timers k (timerMatch atTop) = s.cyc.timers := by
    rw [updAt, timerMatch_off h]
    exact Vector.set_getElem_self k.isLt
  rw [onTimer, hsame]

/-! ## The obligation -/

/-- Settles O43: the captures, the boundary's number and strobe, and the timers. -/
theorem cycleClock : Obligations.CycleClock := by
  unfold Obligations.CycleClock
  refine ⟨?_, ?_, ?_, ?_, ?_, ?_, ?_, ?_, ?_, ?_, ?_, ?_, ?_, ?_, ?_, ?_⟩
  · intro us rising since s h
    exact congrArg Host.Outcome.next (zcCapture_off h)
  · intro us rising since s hr hz he
    exact congrArg Host.Outcome.next ((zcCapture_counted hr hz).trans (if_pos he))
  · intro us rising since s hr hz he hlast
    exact congrArg Host.Outcome.next (zcCapture_first hr hz he hlast)
  · intro us t0 rising since s hr hz he hlast
    obtain ⟨src, lt, slew, e, h⟩ := zcCapture_next_cyc (since := since) hr hz he hlast
    refine ⟨_, rfl, ?_⟩
    rw [h]
    exact ⟨rfl, rfl, rfl, rfl, rfl⟩
  · intro us t0 rising since s hr hz he hlast hout
    obtain ⟨src, lt, slew, e, h⟩ := zcCapture_next_cyc (since := since) hr hz he hlast
    refine ⟨_, rfl, ?_⟩
    rw [h]
    exact captured_of_out hout us _
  · intro us t0 rising since s hr hedge hpsc hup hlast hen h7 hlo hhi hp hstate
    have hevery : zcEvery s.cyc.cfg = (1, 1) := by simp [zcEvery, hedge, hpsc]
    have hz : zcCounts s.cyc.cfg rising = true := by simp [zcCounts, hedge, hup]
    have hperiod : zcPeriod s.cyc.cfg t0 us = (us - t0) * 1000 := by rw [zcPeriod, hevery, Nat.div_one]
    have hvalid : (s.cyc.captured us (zcPeriod s.cyc.cfg t0 us)).zcValid = true :=
      captured_valid hen h7 (by rw [hperiod]; exact hlo) (by rw [hperiod]; exact hhi) (by rw [hperiod]; exact hp) us
    refine ⟨_, congrArg Host.Outcome.next (zcCapture_next hr hz (by simp [hevery]) hlast), ?_⟩
    obtain ⟨hv, hsrc, hperr⟩ := zcReference_used
      (s := { s with cyc := s.cyc.captured us (zcPeriod s.cyc.cfg t0 us) })
      (wantedSource_zc hstate hvalid) (zcPeriod s.cyc.cfg t0 us) (zcEvery s.cyc.cfg).2 since
    exact ⟨hv.trans hvalid, hsrc, hperr⟩
  · intro s
    rfl
  · intro ms s hr
    exact congrArg Host.Outcome.next (cycleBoundary_off hr ms)
  · intro ms s hr hcn hl ht
    obtain ⟨hcyc, -, -, hcycles, hsnaps, hsnap⟩ := cycleBoundary_effect hr ms
    obtain ⟨v, hv, hcommitted⟩ := commitEntries_cyc (boundaryClock s)
    obtain ⟨hbcn, hbep, -, hbslots, hbtaken, -, -, hbkln⟩ := boundaryClock_effect s
    rw [numbered_next hcn hl ht] at hbcn hbep hbslots hbkln
    refine ⟨_, rfl, ?_⟩
    generalize cycleBoundary ms s = t at hcyc hcycles hsnaps hsnap ⊢
    generalize boundaryClock s = b at *
    rw [hcyc, hv, hcycles, hsnaps, hbkln]
    refine ⟨hbcn, hbep, hbtaken, rfl, rfl, fun p => ⟨(hsnap p).1.trans hbcn, (hsnap p).2⟩, fun k hst htcn => ?_⟩
    exact hcommitted k (by rw [hbslots]; exact hst) (by rw [hbslots, hbcn]; exact htcn)
  · intro ms s hr hcn hl ht hsrc
    obtain ⟨hcyc, -⟩ := cycleBoundary_effect hr ms
    obtain ⟨v, hv, -⟩ := commitEntries_cyc (boundaryClock s)
    have hint := boundaryClock_internal (s := s) (by rw [numbered_next hcn hl ht]; exact hsrc)
    rw [numbered_next hcn hl ht] at hint
    refine ⟨_, rfl, ?_⟩
    generalize cycleBoundary ms s = t at hcyc ⊢
    generalize boundaryClock s = b at *
    rw [hcyc, hv]
    exact hint
  · intro ms s hr hcn hl ht
    obtain ⟨hcyc, heva, -⟩ := cycleBoundary_effect hr ms
    obtain ⟨v, hv, -⟩ := commitEntries_cyc (boundaryClock s)
    obtain ⟨hbcn, hbep, -, -, -, hbeva, -⟩ := boundaryClock_effect s
    obtain ⟨hzero, hep, hraised⟩ := numbered_wrap (by rw [hcn]; decide) hl ht
    refine ⟨_, rfl, ?_⟩
    generalize cycleBoundary ms s = t at hcyc heva ⊢
    generalize boundaryClock s = b at *
    rw [hcyc, hv, heva, hbeva]
    exact ⟨hbcn.trans hzero, hbep.trans hep, hraised⟩
  · intro ms cn ep s hr hcn hl ht hne
    obtain ⟨hcyc, -, hlock, -⟩ := cycleBoundary_effect hr ms
    obtain ⟨v, hv, -⟩ := commitEntries_cyc (boundaryClock s)
    obtain ⟨hbcn, hbep, hbrenum, -, -, -, hbsyn, -⟩ := boundaryClock_effect s
    obtain ⟨hnum, hep, hrenum, hnone⟩ := numbered_lock hcn hl ht hne
    refine ⟨_, rfl, ?_⟩
    generalize cycleBoundary ms s = t at hcyc hlock ⊢
    generalize boundaryClock s = b at *
    rw [hcyc, hv, hlock, hbsyn]
    exact ⟨hbcn.trans hnum, hbep.trans hep, hbrenum.trans hrenum, hnone⟩
  · intro k atTop s h
    exact congrArg Host.Outcome.next (onTimer_timerMatch_off h atTop)
  · intro k s h
    exact ⟨_, rfl, (onTimer_get _).trans (timerMatch_mid h), fun j hj => onTimer_get_ne _ hj⟩
  · intro k s h ho
    exact ⟨_, rfl, (onTimer_get _).trans (timerMatch_oneshot h ho), fun j hj => onTimer_get_ne _ hj⟩
  · intro k s h ho
    exact ⟨_, rfl, (onTimer_get _).trans (timerMatch_periodic h ho), fun j hj => onTimer_get_ne _ hj⟩

end Sys2Proof.Machine
end

section
/-!
PROOFS. The ticks of SlaseLine (R273, R276, R280).
-/

namespace Sys2Proof.Machine

/-! ## Events -/

theorem globalEvent_raised (n : Nat) (w : Word) (i : Nat) (s : State) (h : n < 256) :
    (globalEvent n w i s).eva.raised n = true := by
  rw [globalEvent_eva]; exact raise_raised n s h

/-! ## Ticks -/

/-- The instant of a TICK with the line's delay taken off it (R276). -/
def tickInstant (ns : Int) (s : State) : Int := ns - (s.syn.cfg2.dly.toNat * 1000 : Nat)

/-- The TICK is the next one of the run that a hub is counting (R276). -/
def tickFollows (k : SynTick) (r : Int) (y : Syn) : Bool :=
  0 < y.run && k.cn = y.lastCn + 1 && 15000000 ≤ r - y.lastT && r - y.lastT ≤ 22500000

theorem slaselineTick_idle {k : SynTick} {ns since : Int} {tx : Bool} {s : State}
    (h : s.syn.cfg.en = false ∨ s.syn.stat.state = 0) : slaselineTick k ns since tx s = s := by
  rcases h with h | h <;> simp [slaselineTick, h]

theorem slaselineTick_foreign {k : SynTick} {ns since : Int} {tx : Bool} {s : State} (hen : s.syn.cfg.en = true)
    (hst : s.syn.stat.state ≠ 0) (hd : k.dom ≠ s.syn.cfg2.dom) : slaselineTick k ns since tx s = synForeign s := by
  unfold slaselineTick
  simp only [hen, hst, hd, Bool.not_true, Bool.false_or, decide_false, Bool.false_eq_true, if_false, if_true, ne_eq,
    not_false_eq_true]

section
variable {k : SynTick} {s : State} (hen : s.syn.cfg.en = true) (hd : k.dom = s.syn.cfg2.dom)
include hen hd

theorem slaselineTick_master (hst : s.syn.stat.state = 4) (ns since : Int) (tx : Bool) :
    slaselineTick k ns since tx s = if tx then s else tickConflict k s := by
  simp [slaselineTick, hen, hd, hst]

theorem slaselineTick_locked (hst : s.syn.stat.state = 2) (ns since : Int) (tx : Bool) :
    slaselineTick k ns since tx s = tickLocked k (tickInstant ns s) (tickInstant since s) s := by
  simp [slaselineTick, hen, hd, hst, tickInstant]

theorem slaselineTick_acquires (hst : s.syn.stat.state = 1) (ns since : Int) (tx : Bool) :
    slaselineTick k ns since tx s = tickAcquire k (tickInstant ns s) (tickInstant since s) s := by
  simp [slaselineTick, hen, hd, hst, tickInstant]
end

/-- A second master is reported, and the master with the higher address gives way (R280). -/
theorem tickConflict_effect {k : SynTick} {s : State} (hst : s.syn.stat.state = 4) :
    (tickConflict k s).syn = { s.syn with stat := { s.syn.stat with
      conflict := true
      state := if (k.maddr.setWidth 14 : BitVec 14).toNat < s.syn.cfg.addr.toNat then 5 else 4 } } ∧
    (tickConflict k s).eva.raised 203 = true := by
  unfold tickConflict
  exact ⟨by rw [globalEvent_syn, hst], globalEvent_raised _ _ _ _ (by decide)⟩

/-- A TICK out of the run begins a new run at itself. -/
theorem tickAcquire_restarts {k : SynTick} {r since : Int} {s : State} (h : tickFollows k r s.syn = false) :
    tickAcquire k r since s = { s with syn := { s.syn with
      run := 1, intervals := [], lastCn := k.cn, lastT := r, stat := { s.syn.stat with state := 1 } } } := by
  unfold tickFollows at h
  unfold tickAcquire
  simp only [h]
  rfl

/-- The eighth TICK of a run locks the hub. -/
theorem tickAcquire_locks {k : SynTick} {r since : Int} {s : State} (h : tickFollows k r s.syn = true)
    (h7 : s.syn.run = 7) :
    (tickAcquire k r since s).syn.stat.state = 2 ∧ (tickAcquire k r since s).syn.stat.miss = 0 ∧
    (tickAcquire k r since s).syn.run = 8 ∧ (tickAcquire k r since s).syn.lastCn = k.cn ∧
    (tickAcquire k r since s).syn.lockAt.isSome = true ∧ (tickAcquire k r since s).eva.raised 204 = true := by
  unfold tickFollows at h
  unfold tickAcquire
  simp only [h, if_true]
  simp only [h7, Nat.reduceAdd, Nat.lt_irrefl, if_false, globalEvent_syn, Option.isSome_some, true_and]
  exact globalEvent_raised _ _ _ _ (by decide)

/-- With the boundary at the TICK the error is 0. -/
theorem referenceError_zero {s : State} (h : s.cyc.len = 0x3D090000) : referenceError 0 s = 0 := by
  simp [referenceError, h]

/-- A TICK without error that numbers the present cycle clears the misses of a locked hub. -/
theorem tickLocked_matches {k : SynTick} {r since : Int} {s : State} (he : referenceError since s = 0)
    (hcn : k.cn = s.cyc.cn) :
    (tickLocked k r since s).syn.stat = { s.syn.stat with miss := 0 } ∧ (tickLocked k r since s).syn.lastCn = k.cn ∧
    (tickLocked k r since s).syn.lastT = r := by
  unfold tickLocked
  simp only [he, hcn, Int.natAbs_zero, Nat.mul_zero, Nat.zero_le, Int.lt_irrefl, if_false, decide_true, Bool.and_self,
    if_true, apply_ite State.syn, reference, ite_self, and_self]

theorem tickMissed_idle {s : State} (h : s.syn.stat.state ≠ 2) : tickMissed s = s := if_pos h

theorem tickMissed_counts {s : State} (hst : s.syn.stat.state = 2) (hm : s.syn.stat.miss.toNat < 7) :
    tickMissed s = { s with syn := { s.syn with stat := { s.syn.stat with miss := s.syn.stat.miss + 1 } } } := by
  have hne : s.syn.stat.miss ≠ BitVec.allOnes _ := by
    intro h; rw [h] at hm; simp at hm
  have hlt : (s.syn.stat.miss + 1).toNat < 8 := by rw [BitVec.toNat_add]; simp; omega
  simp only [tickMissed, hst, ne_eq, not_true_eq_false, if_false, satInc, hne, hlt, if_true]

/-- The eighth missed TICK in a row loses the lock. -/
theorem tickMissed_loses {s : State} (hst : s.syn.stat.state = 2) (hm : s.syn.stat.miss = 7) :
    (tickMissed s).syn.stat.state = 3 ∧ (tickMissed s).syn.stat.miss = 8 ∧ (tickMissed s).syn.run = 0 ∧
    (tickMissed s).syn.intervals = [] ∧ (tickMissed s).eva.raised 203 = true := by
  simp only [tickMissed, hst, hm, ne_eq, not_true_eq_false, if_false]
  exact ⟨by rw [if_neg (by decide)]; simp, by rw [if_neg (by decide)]; simp; rfl, by rw [if_neg (by decide)]; simp,
    by rw [if_neg (by decide)]; simp, by rw [if_neg (by decide)]; exact globalEvent_raised _ _ _ _ (by decide)⟩

/-- Settles O45. -/
theorem slaseLine : Obligations.SlaseLine := by
  unfold Obligations.SlaseLine
  refine ⟨?_, ?_, ?_, ?_, ?_, ?_, ?_, ?_, ?_, ?_⟩
  · intro k ns since tx s h
    exact congrArg Host.Outcome.next (slaselineTick_idle h)
  · intro k ns since tx s hen hst hd
    exact congrArg Host.Outcome.next (slaselineTick_foreign hen hst hd)
  · intro k ns since s hen hst hd
    exact ⟨_, congrArg Host.Outcome.next (slaselineTick_master hen hd hst ns since false), tickConflict_effect hst⟩
  · intro k ns since s hen hst hd
    exact congrArg Host.Outcome.next (slaselineTick_master hen hd hst ns since true)
  · intro k ns since tx s hen hst hd hcn
    have hrestart : tickFollows k (tickInstant ns s) s.syn = false := by
      simp only [tickFollows, hcn, decide_false, Bool.and_false, Bool.false_and]
    refine ⟨_, congrArg Host.Outcome.next (slaselineTick_acquires hen hd hst ns since tx), ?_⟩
    rw [tickAcquire_restarts hrestart]
    rfl
  · intro k ns since tx s hen hst hd hcn h7 hdly hlo hhi
    have hr : tickInstant ns s = ns := by simp [tickInstant, hdly]
    have hfollows : tickFollows k (tickInstant ns s) s.syn = true := by simp [tickFollows, hr, hcn, h7, hlo, hhi]
    exact ⟨_, congrArg Host.Outcome.next (slaselineTick_acquires hen hd hst ns since tx), tickAcquire_locks hfollows h7⟩
  · intro k ns tx s hen hst hd hcn hdly hlen
    have hr (x : Int) : tickInstant x s = x := by simp [tickInstant, hdly]
    refine ⟨_, congrArg Host.Outcome.next (slaselineTick_locked hen hd hst ns 0 tx), ?_⟩
    rw [hr, hr]
    exact tickLocked_matches (referenceError_zero hlen) hcn
  · intro s h
    exact congrArg Host.Outcome.next (tickMissed_idle h)
  · intro s hst hm
    exact congrArg Host.Outcome.next (tickMissed_counts hst hm)
  · intro s hst hm
    exact ⟨_, rfl, tickMissed_loses hst hm⟩

end Sys2Proof.Machine
end

section
/-!
PROOFS. The commands of the SlaseLine hub: from its domain (R278) and to it (R279).
-/

namespace Sys2Proof.Machine

/-! ## Commands of the domain (R278) -/

theorem submit_syn (e : SchedEntry) (phase : BitVec 16) (s : State) : (submit e phase s).1.syn = s.syn := by
  unfold submit
  dsimp only
  split
  · rfl
  · split
    · rfl
    · split
      · exact globalEvent_syn _ _ _ _
      · rfl

theorem synSubmit_refused {e : SchedEntry} {phase : BitVec 16} {s : State} (h : submitCause e s ≠ 0) :
    synSubmit e phase s =
      { s with syn := { s.syn with cnt := { s.syn.cnt with drop := satInc s.syn.cnt.drop } } } := by
  simp only [synSubmit, submit_refused h, h, if_false]

/-- An accepted entry stands in its slot, and no frame is counted. -/
theorem synSubmit_accepted {e : SchedEntry} {phase : BitVec 16} {s : State} {k : Fin 128} (h : submitCause e s = 0)
    (hk : slotFor s = some k) :
    ((synSubmit e phase s).cyc.slots.get k).st = .pending ∧ ((synSubmit e phase s).cyc.slots.get k).entry = e ∧
    (synSubmit e phase s).syn = s.syn := by
  obtain ⟨hr, hcyc⟩ := submit_accepted (phase := phase) h hk
  have hs : synSubmit e phase s = (submit e phase s).1 := if_pos (by rw [hr])
  rw [hs, hcyc]
  simp only [get_updAt_self, submit_syn, and_self]

/-- Whatever becomes of the entry, SlaseLine at most counts it. -/
theorem synSubmit_syn (e : SchedEntry) (phase : BitVec 16) (s : State) :
    ∃ n, (synSubmit e phase s).syn = { s.syn with cnt := n } := by
  unfold synSubmit
  dsimp only
  split
  · exact ⟨s.syn.cnt, submit_syn e phase s⟩
  · exact ⟨_, by simp only [submit_syn]; rfl⟩

/-- A free place and the arguments of a snapshot are all that a SNAPSHOT frame needs (R264). -/
theorem submitCause_snapshot {tcn cmd : Word} {s : State} (h : pendingCount s < 128) : submitCause
    { tcn := tcn, tphase := 0, op := 4, arg0 := 0, arg1 := 0, src := .slase, cmd := cmd } s = 0 := by
  have hne : pendingCount s ≠ 128 := by omega
  simp only [submitCause, hne, decide_false, ne_eq, not_true_eq_false, Bool.false_and, Bool.or_self, Bool.false_eq_true, if_false]
  rfl

section
variable {dom : BitVec 16} {cmd : Word} {addressed : Bool} {act : State → State} {s : State}

theorem synCommand_foreign (h : dom ≠ s.syn.cfg2.dom) : synCommand dom cmd addressed act s = synForeign s := if_pos h

theorem synCommand_ignored (hd : dom = s.syn.cfg2.dom) (h : s.syn.stat.state ≠ 2 ∨ addressed = false) :
    synCommand dom cmd addressed act s = s := by
  unfold synCommand
  rw [if_neg (not_not.mpr hd), if_pos]
  rcases h with h | h <;> simp only [h, decide_true, Bool.true_or, Bool.not_false, Bool.or_true, ne_eq, not_false_eq_true]

variable (hd : dom = s.syn.cfg2.dom) (hst : s.syn.stat.state = 2) (ha : addressed = true)
include hd hst ha

theorem synCommand_heard : synCommand dom cmd addressed act s =
    if s.syn.acted.contains cmd then synDup s else act (actedOn cmd s) := by
  simp only [synCommand, hd, hst, ha, ne_eq, not_true_eq_false, decide_false, Bool.not_true, Bool.or_self,
    Bool.false_eq_true, if_false]

theorem synCommand_repeat (h : s.syn.acted.contains cmd = true) : synCommand dom cmd addressed act s = synDup s := by
  rw [synCommand_heard hd hst ha, if_pos h]

theorem synCommand_acts (h : s.syn.acted.contains cmd = false) :
    synCommand dom cmd addressed act s = act (actedOn cmd s) := by
  rw [synCommand_heard hd hst ha, h]
  rfl
end

/-! ## Commands of the master (R279) -/

/-- Changing a transmit bank changes that bank. -/
theorem onSynBank_get (bk : Bank) (f : SynBank → SynBank) (s : State) :
    (onSynBank bk f s).syn.banks.get bk = f (s.syn.banks.get bk) := by cases bk <;> rfl

theorem synGo_refused {q : Requester} {s : State}
    (h : synCause (synCmdOf (bankOf q s) s) (s.syn.banks.get (bankOf q s)).tx0.asap s ≠ 0) : synGo q s =
    onSynBank (bankOf q s) (fun x => { x with stat := { x.stat with
      result := 3, cause := synCause (synCmdOf (bankOf q s) s) (s.syn.banks.get (bankOf q s)).tx0.asap s } }) s :=
  if_pos h

/-- An accepted command stands last in the queue, and its bank shows its number. -/
theorem synGo_accepted {q : Requester} {s : State}
    (h : synCause (synCmdOf (bankOf q s) s) (s.syn.banks.get (bankOf q s)).tx0.asap s = 0) :
    (synGo q s).syn.banks = s.syn.banks.upd (bankOf q s)
      (fun x => { x with cmd := s.syn.nextId, stat := { x.stat with result := 1, cause := 0 } }) ∧
    (synGo q s).syn.queue = s.syn.queue ++ [synCmdOf (bankOf q s) s] ∧ (synGo q s).syn.nextId = s.syn.nextId + 1 := by
  unfold synGo
  simp only [h, ne_eq, not_true_eq_false, if_false]
  exact ⟨rfl, rfl, rfl⟩

theorem upd_get {α : Type} (x : Banked α) (k : Bank) (f : α → α) : (x.upd k f).get k = f (x.get k) := by cases k <;> rfl

/-- What the master does for itself with its command leaves SlaseLine as it is but for the counters. -/
theorem ownCommand_syn (c : SynCmd) (s : State) : ∃ n, (ownCommand c s).syn = { s.syn with cnt := n } := by
  unfold ownCommand
  split
  · exact ⟨s.syn.cnt, rfl⟩
  · split
    · exact ⟨s.syn.cnt, rfl⟩
    · split
      · exact synSubmit_syn _ _ _
      · exact synSubmit_syn _ _ _

theorem synCommandSend_none {s : State} (h : s.syn.queue = []) : synCommandSend s = s := by
  simp only [synCommandSend, h]

section
variable {c : SynCmd} {rest : List SynCmd} {s : State} (hq : s.syn.queue = c :: rest)
include hq

/-- A command whose lead has run out, or whose hub is no longer the master, is discarded. -/
theorem synCommandSend_discards (h : s.syn.stat.state ≠ 4 ∨ leadShort c s = true) : synCommandSend s =
    onSynBank c.bank (fun x => { x with stat := { x.stat with result := 4 } })
      { s with syn := { s.syn with queue := rest, open_ := s.syn.open_.filter (fun o => o.1 != c.id) } } := by
  have hlead : leadShort c { s with syn := { s.syn with queue := rest } } = leadShort c s := rfl
  simp only [synCommandSend, hq, hlead]
  rw [if_pos]
  rcases h with h | h <;> simp only [h, decide_true, Bool.true_or, Bool.or_true, ne_eq, not_false_eq_true]

/-- A command is sent three times (R279). -/
theorem synCommandSend_sends (hst : s.syn.stat.state = 4) (hl : leadShort c s = false) : ∃ n, (synCommandSend s).syn =
    { s.syn with
      queue := rest, cnt := n, line := [commandFrame c 2 s, commandFrame c 1 s, commandFrame c 0 s]
      banks := s.syn.banks.upd c.bank (fun x => { x with stat := { x.stat with result := 2 } }) } := by
  have hlead : leadShort c { s with syn := { s.syn with queue := rest } } = leadShort c s := rfl
  have hframe (n : Byte) : commandFrame c n { s with syn := { s.syn with queue := rest } } = commandFrame c n s := rfl
  obtain ⟨n, hn⟩ := ownCommand_syn c { s with syn := { s.syn with queue := rest } }
  simp only [synCommandSend, hq, hlead, hframe, hst, hl, ne_eq, not_true_eq_false, decide_false, Bool.or_self,
    Bool.false_eq_true, if_false, onSynBank, synSend, hn]
  exact ⟨n, rfl⟩
end

theorem writeSynCtl_clear (s : State) : writeSynCtl 0x100 s = { s with syn := { s.syn with cnt := {} } } := by
  have hlock : s.syn.ctl.put 0x100 = s.syn.ctl := by
    simp only [SynCtl.put, show getBit 0x100 0 = false by decide, Bool.or_false]
  have hclear : getBit 0x100 8 = true := by decide
  simp only [writeSynCtl, hlock, hclear, if_true]

/-- Settles O46. -/
theorem hubCommands : Obligations.HubCommands := by
  unfold Obligations.HubCommands
  refine ⟨?_, ?_, ?_, ?_, ?_, ?_, ?_, ?_, ?_, ?_, ?_, ?_, ?_, ?_, ?_, ?_⟩
  · intro a tcn tphase op arg0 arg1 phase k s hd hst ha hnew hc hk
    exact ⟨_, congrArg Host.Outcome.next (synCommand_acts hd hst ha hnew),
      synSubmit_accepted (s := actedOn a.cmd s) hc hk⟩
  · intro a tcn tphase op arg0 arg1 phase s hd hst ha hnew hc
    exact congrArg Host.Outcome.next ((synCommand_acts hd hst ha hnew).trans
      (synSubmit_refused (s := actedOn a.cmd s) hc))
  · intro a tcn tphase op arg0 arg1 phase s hd hst ha hold
    exact congrArg Host.Outcome.next (synCommand_repeat hd hst ha hold)
  · intro a tcn tphase op arg0 arg1 phase s hd h
    exact congrArg Host.Outcome.next (synCommand_ignored hd h)
  · intro a tcn phase k s hd hst ha hnew hp hk
    exact ⟨_, congrArg Host.Outcome.next (synCommand_acts hd hst ha hnew),
      synSubmit_accepted (s := actedOn a.cmd s) (submitCause_snapshot (s := actedOn a.cmd s) hp) hk⟩
  · intro a tcn phase s hd
    exact congrArg Host.Outcome.next (synCommand_foreign hd)
  · intro dom cmd ts s hd hst hnew
    exact congrArg Host.Outcome.next (synCommand_acts hd hst rfl hnew)
  · intro dom cmd ts s hd hst
    exact congrArg Host.Outcome.next (synCommand_ignored hd (.inl hst))
  · intro s
    rfl
  · intro s
    rfl
  · intro q s h
    refine ⟨_, congrArg Host.Outcome.next (synGo_refused h), ?_⟩
    rw [onSynBank_get]
    exact ⟨rfl, rfl, rfl, rfl⟩
  · intro q s h
    obtain ⟨hbanks, hqueue, hid⟩ := synGo_accepted h
    refine ⟨_, rfl, ?_⟩
    rw [hbanks, upd_get]
    exact ⟨rfl, rfl, rfl, hqueue, hid⟩
  · intro s h
    exact congrArg Host.Outcome.next (synCommandSend_none h)
  · intro c rest s hq h
    refine ⟨_, congrArg Host.Outcome.next (synCommandSend_discards hq h), ?_⟩
    rw [onSynBank_get]
    exact ⟨rfl, rfl, rfl, rfl, rfl⟩
  · intro c rest s hq hst hl
    obtain ⟨n, hsyn⟩ := synCommandSend_sends hq hst hl
    refine ⟨_, rfl, ?_⟩
    rw [hsyn, upd_get]
    exact ⟨rfl, rfl, rfl, rfl⟩
  · intro s
    exact congrArg Host.Outcome.next (writeSynCtl_clear s)

end Sys2Proof.Machine
end

section
/-!
PROOFS. The Thatch link: its timers, reports and failed exchanges, its loss and the exit from the mode.
-/

namespace Sys2Proof.Machine

/-! ## Timers of entry (R283 to R285) -/

/-- A change of a slice that leaves it as it is leaves the state. -/
theorem onSlice_of_fixed {p : Port} {f : Slice → Slice} {s : State} (h : f (s.slice p) = s.slice p) :
    onSlice p f s = s := by
  have hv : updAt s.slices p f = s.slices := by
    apply Vector.ext
    intro i hi
    have hget := get_updAt s.slices p ⟨i, hi⟩ f
    simp only [Vector.get_eq_getElem] at hget
    rw [hget]
    split
    · next he => exact h.trans (by rw [State.slice, Vector.get_eq_getElem, ← he])
    · rfl
  rw [onSlice, hv]

section
variable {p : Port} {s : State}

theorem vdmResponseTimeout_identity (h : (s.slice p).th.step = .identity) :
    vdmResponseTimeout p s = thIdentityAnswer p none (onSlice p Slice.endOwn s) := by
  simp [vdmResponseTimeout, h]

theorem vdmResponseTimeout_svids (h : (s.slice p).th.step = .svids) :
    vdmResponseTimeout p s = thSvidsAnswer p [] (onSlice p Slice.endOwn s) := by
  simp [vdmResponseTimeout, h]

theorem vdmResponseTimeout_modes (h : (s.slice p).th.step = .modes) :
    vdmResponseTimeout p s = thModesAnswer p [] (onSlice p Slice.endOwn s) := by
  simp [vdmResponseTimeout, h]

theorem vdmResponseTimeout_exiting (h : (s.slice p).th.step = .exiting) :
    vdmResponseTimeout p s = onTh p (fun t => { t with step := .idle }) (onSlice p Slice.endOwn s) := by
  simp [vdmResponseTimeout, h]

theorem vdmResponseTimeout_idle (h : (s.slice p).th.step = .idle) : vdmResponseTimeout p s = s := by
  simp [vdmResponseTimeout, h]
end

theorem endedOwn_th (p : Port) (s : State) : ((onSlice p Slice.endOwn s).slice p).th = (s.slice p).th := by
  rw [slice_onSlice, endOwn_th]

theorem thIdentityAnswer_silent {p : Port} {s : State} (h : (s.slice p).th.step = .identity) :
    thIdentityAnswer p none s = thAdvance p .svids 1 (.vdm pdSid .discoverSvids .req) [] s := by
  rw [thIdentityAnswer, if_neg (not_not.2 h)]

theorem thAdvance_gr (p : Port) (step : ThStep) (state : BitVec 3) (kind : MsgKind) (words : List Word) (s : State) :
    ((thAdvance p step state kind words s).slice p).gr = (s.slice p).gr := by
  rw [thAdvance, startAms, queueMsg_gr, slice_onTh]

/-- Settles O48. -/
theorem thatchTimers : Obligations.ThatchTimers := by
  unfold Obligations.ThatchTimers
  refine ⟨?_, ?_, ?_, ?_, ?_, ?_, ?_, ?_, ?_⟩
  · intro p s hs ht
    refine ⟨_, rfl, ?_⟩
    rw [if_neg (not_not.2 hs), if_pos ht, thSendEnter_eq, thAdvance_th, thTryCounted, slice_onTh, ← hs]
  · intro p s hs ht
    refine ⟨_, rfl, ?_⟩
    rw [if_neg (not_not.2 hs), if_neg (not_lt.2 ht), thStop_slice]
    exact ⟨rfl, rfl⟩
  · intro p s h
    refine ⟨_, rfl, ?_⟩
    rw [if_pos h, slice_onTh]
    exact ⟨rfl, rfl⟩
  · intro p s h
    exact congrArg Host.Outcome.next (if_neg h)
  · intro p s hs
    have hth := endedOwn_th p s
    refine ⟨_, rfl, ?_⟩
    rw [vdmResponseTimeout_identity hs, thIdentityAnswer_silent (by rw [hth]; exact hs), thAdvance_th, thAdvance_gr, hth, slice_onSlice, endOwn_gr]
    exact ⟨rfl, rfl, rfl⟩
  · intro p s hs
    have hth := endedOwn_th p s
    refine ⟨_, rfl, ?_⟩
    rw [vdmResponseTimeout_svids hs, thSvidsAnswer_other (by rw [hth]; exact hs) rfl, slice_onTh, thStop_slice, hth]
  · intro p s hs
    have hth := endedOwn_th p s
    refine ⟨_, rfl, ?_⟩
    rw [vdmResponseTimeout_modes hs, thModesAnswer_not_one (by rw [hth]; exact hs) (by decide), thStop_slice, hth]
  · intro p s hs
    have hth := endedOwn_th p s
    refine ⟨_, rfl, ?_⟩
    rw [vdmResponseTimeout_exiting hs, slice_onTh, hth]
  · intro p s hs
    exact congrArg Host.Outcome.next (vdmResponseTimeout_idle hs)

/-! ## What a REPORT shows (R288, R292) -/

/-- What the registers show of the last REPORT: the link's state, the POLLs without one, its values and its flags. -/
def reportShown (t : SliceTh) : BitVec 3 × Nat × SlcThrep0 × SlcThrep1 × SlcThrep2 × Byte × Bool :=
  (t.thstat.state, t.missPolls, t.rep0, t.rep1, t.rep2, t.lastFlags, t.thstat.emgscn)

/-- Queueing a command shows nothing new. -/
theorem thPush_shown (c : ThCmd) (t : SliceTh) : reportShown (thPush c t).1 = reportShown t := by
  unfold thPush
  split
  · rfl
  · split <;> rfl

theorem thLinkUp_shown (x : Slice) (lost : Bool) (t : SliceTh) : reportShown (thLinkUp x lost t) = reportShown t := by
  simp only [thLinkUp, apply_ite reportShown, thPush_shown, ite_self]

theorem thUnhold_shown (t : SliceTh) : reportShown (thUnhold t) = reportShown t := by
  unfold thUnhold
  split
  · exact thPush_shown _ _
  · rfl

theorem thSendCmd_shown (c : ThCmd) (t : SliceTh) : reportShown (thSendCmd c t) = reportShown t := by
  unfold thSendCmd
  dsimp only
  split
  · rfl
  · split <;> rfl
  · rfl

theorem thGoOn_shown (phase : BitVec 16) (t : SliceTh) : reportShown (thGoOn phase t) = reportShown t := by
  unfold thGoOn
  dsimp only
  split
  · rfl
  · split
    · exact thSendCmd_shown _ _
    · rfl

theorem feApply_shown (c cap : Nat) (x : Slice) : reportShown (feApply c cap x).th = reportShown x.th := by
  unfold feApply
  dsimp only
  split
  · exact thPush_shown _ _
  · rfl

theorem feAccept_shown (r vmax : Nat) (i : Int) (x : Slice) : reportShown (feAccept r vmax i x).th = reportShown x.th := by
  unfold feAccept
  dsimp only
  split
  · rfl
  · exact feApply_shown _ _ _

theorem feSample_shown (vfar : BitVec 16) (fault : Byte) (hold : Bool) (vmax : Nat) (x : Slice) :
    reportShown (feSample vfar fault hold vmax x).th = reportShown x.th := by
  unfold feSample
  dsimp only
  split
  · rfl
  · split
    · rfl
    · exact feAccept_shown _ _ _ _

theorem feReport_shown (p : Port) (cnl : Byte) (vin : BitVec 16) (fault : Byte) (s : State) :
    reportShown ((feReport p cnl vin fault s).slice p).th = reportShown (s.slice p).th := by
  simp only [feReport, apply_ite (State.slice · p), apply_ite Slice.th, apply_ite reportShown, slice_onPs, slice_onSlice,
    feSample_shown, ite_self]

theorem feReport_eva (p : Port) (cnl : Byte) (vin : BitVec 16) (fault : Byte) (s : State) :
    (feReport p cnl vin fault s).eva = s.eva := by
  simp only [feReport, apply_ite State.eva, onPs_eva, onSlice_eva, ite_self]

theorem slice_ite {c : Prop} [Decidable c] (p : Port) (s t : State) :
    (if c then s else t).slice p = if c then s.slice p else t.slice p := apply_ite (State.slice · p) _ _ _

/-- A REPORT that answers a POLL is shown, and its link is up. -/
theorem thPollReport_shown (p : Port) (r : ThReport) (s : State) : reportShown ((thPollReport p r s).slice p).th =
    (4, 0, { vin := r.vin, iin := r.iin }, { tled := r.tled, dim := r.dim, emg := r.emg },
      { fault := r.fault, flags := r.flags, batt := r.batt, cnl := r.cnl }, (s.slice p).th.lastFlags,
      (s.slice p).th.thstat.emgscn) := by
  simp only [thPollReport, feReport_shown, slice_ite, portEvent_slice, apply_ite Slice.th, apply_ite reportShown, slice_onTh,
    thLinkUp_shown, ite_self]
  rfl

/-- The link's coming up raises its event. -/
theorem thPollReport_raised {p : Port} {s : State} (r : ThReport)
    (h : (s.slice p).th.thstat.state = 3 ∨ (s.slice p).th.thstat.state = 5) :
    (thPollReport p r s).eva.raised (8 * p.val + 4) = true := by
  simp only [thPollReport, feReport_eva, Bool.or_eq_true, decide_eq_true_eq, h, if_true]
  exact portEvent_raised p 4 _ (by decide)

theorem feEnd_th (p : Port) (s : State) : ((feEnd p s).slice p).th = (s.slice p).th := by
  rw [feEnd, slice_onSlice, Slice.feEnd]
  split <;> rfl

theorem feEnd_eva (p : Port) (s : State) : (feEnd p s).eva = s.eva := onSlice_eva p _ s

/-- Every REPORT shows its flags, and changes nothing else of what is shown. -/
theorem thFlags_shown (p : Port) (r : ThReport) (s : State) : reportShown ((thFlags p r s).slice p).th =
    reportShown { (s.slice p).th with
      lastFlags := r.flags, thstat := { (s.slice p).th.thstat with emgscn := r.flags.getLsbD 3 } } := by
  simp only [thFlags, slice_ite, apply_ite Slice.th, feEnd_th, portEvent_slice, slice_onTh, ite_self, apply_ite reportShown,
    thUnhold_shown]
  rfl

theorem thFlags_keeps {n : Nat} (p : Port) (r : ThReport) {s : State} (h : s.eva.raised n = true) :
    (thFlags p r s).eva.raised n = true := by
  simp only [thFlags, apply_ite State.eva, feEnd_eva, onTh_eva, portEvent_eva, ite_self]
  split
  · exact raise_keeps _ (by simpa only [apply_ite State.eva, onTh_eva, ite_self] using h)
  · exact h

theorem execReport_poll {p : Port} {s : State} (h : (s.slice p).th.out = some 0) (r : ThReport) (phase : BitVec 16) :
    execReport p 0 r phase s = .next (onTh p (thGoOn phase) (thFlags p r (thPollReport p r s))) := by
  simp [execReport, h]

/-! ## Commands on the link (R288, R289) -/

theorem slotSkipped_slices (k : Option (Fin 128 × Byte)) (s : State) : (slotSkipped k s).slices = s.slices := by
  unfold slotSkipped
  split
  · split <;> rfl
  · rfl

theorem slotsSkipped_slice (l : List ThCmd) (s : State) (p : Port) :
    (l.foldl (fun s c => slotSkipped c.slot s) s).slice p = s.slice p := by
  induction l generalizing s with
  | nil => rfl
  | cons c l ih => rw [List.foldl_cons, ih, State.slice, slotSkipped_slices, State.slice]

/-- With no command held and no grant in force the flags move neither the queue nor the exchange. -/
theorem thFlags_queue {p : Port} {s : State} (r : ThReport) (hh : (s.slice p).th.held = none)
    (hg : (s.slice p).th.thstat.fegnt = false) :
    ((thFlags p r s).slice p).th.queue = (s.slice p).th.queue := by
  simp only [thFlags, hg, Bool.false_or, Bool.false_and, Bool.false_eq_true, if_false, slice_ite, portEvent_slice, ite_self,
    slice_onTh, thUnhold, hh]

/-- A REPORT for a command: the command leaves the queue, and its slot learns whether it was refused. -/
theorem execReport_command {p : Port} {q : BitVec 4} {s : State} (h : (s.slice p).th.out = some q) (hq : q ≠ 0)
    (r : ThReport) (phase : BitVec 16) : ∃ u : State,
    u.slice p = { (thFlags p r s).slice p with th := { ((thFlags p r s).slice p).th with
      queue := ((thFlags p r s).slice p).th.queue.filter (fun c => !(c.seq == some q)) } } ∧
    execReport p q r phase s = .next (onTh p (thGoOn phase) u) := by
  have htake : (thTake q ((thFlags p r s).slice p).th.queue).2 =
      ((thFlags p r s).slice p).th.queue.filter (fun c => !(c.seq == some q)) := by
    rw [thTake, List.partition_eq_filter_filter]
    rfl
  simp only [execReport, h, hq, decide_false, Bool.false_eq_true, if_false, ne_eq, not_false_eq_true,
    decide_true, Bool.and_self, if_true]
  refine ⟨_, ?_, rfl⟩
  split
  · rw [slotsSkipped_slice, slice_onTh, htake]
  · rw [slice_onTh, htake]

/-- Late in the cycle no further exchange begins. -/
theorem thGoOn_late {phase : BitVec 16} (h : 0xE000 < phase.toNat) (t : SliceTh) : thGoOn phase t = { t with out := none } := by
  simp [thGoOn, h]

theorem thGoOn_none {t : SliceTh} (phase : BitVec 16) (h : t.queue = []) : thGoOn phase t = { t with out := none } := by
  simp [thGoOn, h, thNext]

theorem thFailedCmd_slice (p : Port) (s : State) :
    (thFailedCmd p s).slice p = { s.slice p with th := (thFailed (s.slice p).th).1 } := by
  rw [thFailedCmd, slotsSkipped_slice, slice_onTh]

theorem thFailed_poll {t : SliceTh} (h : t.out = some 0) : (thFailed t).1 = t := by
  simp [thFailed, h]

/-- A command sent three times is dropped, and the queue with it where it stood alone. -/
theorem thFailed_last {t : SliceTh} {q : BitVec 4} {c : ThCmd} (h : t.out = some q) (hq : q ≠ 0) (hl : t.queue = [c])
    (hs : c.seq = some q) (ht : 3 ≤ c.tries) :
    (thFailed t).1 = { t with queue := [], thcnt := { t.thcnt with drop := satInc t.thcnt.drop } } := by
  simp only [thFailed, h, hq, if_false]
  simp [hl, hs, ht]

/-! ## Exit (R297, R298) -/

/-- Leaving the link frees the SBU pins and ends far-end regulation, in the power stage. -/
theorem thOff_slice (p : Port) (s : State) : ∃ ps, (thOff p s).slice p = { s.slice p with
    ps := ps
    pins := { (s.slice p).pins with
      sbu := if (s.slice p).pins.sbu = .thatch then .highZ else (s.slice p).pins.sbu } } := by
  simp only [thOff, feDiscard, slice_onPs, feEnd, slice_onSlice, Slice.feEnd, slice_onPins]
  split <;> exact ⟨_, rfl⟩

/-- What a slice keeps of its mode when it exits. -/
def thExited (t : SliceTh) : SliceTh := { thLeave t with step := .exiting }

theorem thExited_state {t : SliceTh} (h : t.thstat.state ≠ 6) : (thExited t).thstat.state = 0 := if_neg h

section
variable {p : Port} {s : State}
  (h : (s.slice p).th.thstat.state = 3 ∨ (s.slice p).th.thstat.state = 4 ∨ (s.slice p).th.thstat.state = 5)
include h

theorem thExit_eq : thExit p s = portEvent p 4 (startAms p .sop (.vdm thatchSvid .exitMode .req) []
    (thOff p (onTh p thExited s))) := by
  have hc : ((s.slice p).th.thstat.state = 3 || (s.slice p).th.thstat.state = 4 || (s.slice p).th.thstat.state = 5) = true := by
    rcases h with h | h | h <;> rw [h] <;> rfl
  rw [thExit, if_pos hc]
  rfl

theorem thExit_th : ((thExit p s).slice p).th = thExited (s.slice p).th := by
  obtain ⟨ps, hoff⟩ := thOff_slice p (onTh p thExited s)
  rw [thExit_eq h, portEvent_slice, startAms, queueMsg_th, hoff, slice_onTh]

theorem thExit_raised : (thExit p s).eva.raised (8 * p.val + 4) = true := by
  rw [thExit_eq h]
  exact portEvent_raised p 4 _ (by decide)

theorem thExit_sbu (hs : (s.slice p).pins.sbu = .thatch) : ((thExit p s).slice p).pins.sbu = .highZ := by
  obtain ⟨ps, hoff⟩ := thOff_slice p (onTh p thExited s)
  rw [thExit_eq h, portEvent_slice, startAms, queueMsg_same Slice.pins (fun _ _ => rfl) pump_pins, hoff, slice_onTh]
  exact if_pos hs

/-- Behind a frame on the line Exit Mode waits. -/
theorem thExit_ready (hi : (s.slice p).pd.inflight.isSome = true)
    (hc : carries (s.slice p) { ctx := .sop, kind := .vdm thatchSvid .exitMode .req, prio := .ams } = true) :
    ((thExit p s).slice p).pd.ready = (s.slice p).pd.ready ++
      [{ ctx := .sop, kind := .vdm thatchSvid .exitMode .req, prio := .ams }] := by
  obtain ⟨ps, hoff⟩ := thOff_slice p (onTh p thExited s)
  rw [slice_onTh] at hoff
  rw [thExit_eq h, portEvent_slice, startAms, queueMsg_busy p _ _ (by rw [hoff]; exact hc) (by rw [hoff]; exact hi), hoff]
end

theorem thExit_idle {p : Port} {s : State} (h : (s.slice p).th.thstat.state = 0) : thExit p s = s := by
  rw [thExit, if_neg (by rw [h]; decide)]

/-- A write without the lock bit leaves `SLC_THCTL` as it is. -/
theorem onTh_thctl {p : Port} {w : Word} (hw : getBit w 0 = false) (s : State) :
    onTh p (fun t => { t with thctl := t.thctl.put w }) s = s := by
  apply onSlice_of_fixed
  simp only [SlcThctl.put, hw, Bool.or_false]

theorem writeThctl_exit (p : Port) (s : State) : writeThctl p 0x100 s = thExit p s := by
  have h9 : getBit 0x100 9 = false := by decide
  simp only [writeThctl, onTh_thctl (show getBit 0x100 0 = false by decide), h9, Bool.false_and, Bool.false_eq_true, if_false]
  exact if_pos (by decide)

theorem writeThctl_reenter (p : Port) (s : State) : writeThctl p 0x200 s =
    if (s.slice p).th.thstat.state = 6 then
      onTh p (fun t => { t with noMore := false, reenter := false, thstat := { t.thstat with state := 0, reent := 0 } }) s
    else s := by
  have h8 : getBit 0x200 8 = false := by decide
  have h9 : getBit 0x200 9 = true := by decide
  simp only [writeThctl, onTh_thctl (show getBit 0x200 0 = false by decide), h8, h9, Bool.true_and, Bool.false_eq_true,
    if_false, decide_eq_true_eq]

/-- THATCH_GIVE_UP exits, and marks whether the slice tries again (R297). -/
theorem thatchGiveUp_exits {p : Port} {s : State} (hm : 64 ≤ (s.slice p).th.missPolls)
    (hst : (s.slice p).th.thstat.state = 5) : ∃ t, exec (.thatchGiveUp p) s = .next t ∧
    (t.slice p).th = { thExited (s.slice p).th with
      reenter := decide ((s.slice p).th.thstat.reent < 3)
      thstat := { (thExited (s.slice p).th).thstat with state := if (s.slice p).th.thstat.reent < 3 then 0 else 6 } } ∧
    t.eva.raised (8 * p.val + 4) = true := by
  refine ⟨_, congrArg Host.Outcome.next (if_pos (by simp only [hm, hst, decide_true, Bool.and_self])), ?_, ?_⟩
  · rw [slice_onTh, thExit_th (.inr (.inr hst))]
  · exact thExit_raised (.inr (.inr hst))

/-- Settles O49. -/
theorem thatchLink : Obligations.ThatchLink := by
  unfold Obligations.ThatchLink
  refine ⟨?_, ?_, ?_, ?_, ?_, ?_, ?_, ?_, ?_, ?_, ?_, ?_, ?_, ?_, ?_, ?_, ?_, ?_, ?_⟩
  · intro p q r phase s h
    show execReport p q r phase s = _
    simp only [execReport, h]
  · intro p r phase s h hst
    have hshown : reportShown ((onTh p (thGoOn phase) (thFlags p r (thPollReport p r s))).slice p).th =
        (4, 0, { vin := r.vin, iin := r.iin }, { tled := r.tled, dim := r.dim, emg := r.emg },
          { fault := r.fault, flags := r.flags, batt := r.batt, cnl := r.cnl }, r.flags, r.flags.getLsbD 3) := by
      have hpoll := thPollReport_shown p r s
      simp only [reportShown, Prod.mk.injEq] at hpoll
      obtain ⟨h1, h2, h3, h4, h5, -, -⟩ := hpoll
      rw [slice_onTh, thGoOn_shown, thFlags_shown]
      simp only [reportShown, h1, h2, h3, h4, h5]
    simp only [reportShown, Prod.mk.injEq] at hshown
    obtain ⟨h1, h2, h3, h4, h5, h6, h7⟩ := hshown
    exact ⟨_, execReport_poll h r phase, h1, h2, h3, h4, h5, h6, h7, thFlags_keeps p r (thPollReport_raised r hst)⟩
  · intro p q r phase s h hq hphase hheld hgnt
    obtain ⟨u, hu, hexec⟩ := execReport_command h hq r phase
    have hshown := thFlags_shown p r s
    simp only [reportShown, Prod.mk.injEq] at hshown
    obtain ⟨-, hmiss, hrep0, -⟩ := hshown
    refine ⟨_, hexec, ?_⟩
    rw [slice_onTh, thGoOn_late hphase, hu, thFlags_queue r hheld hgnt]
    exact ⟨rfl, rfl, hrep0, hmiss⟩
  · intro p phase s h hphase
    refine ⟨_, congrArg Host.Outcome.next (if_neg (by simp [h])), ?_⟩
    rw [slice_onTh, thGoOn_late hphase, thFailedCmd_slice, thFailed_poll (by rw [slice_onTh]; exact h), slice_onTh]
  · intro p q c phase s h hq hl hs ht
    have hlost := thFailed_last (t := { (s.slice p).th with thcnt :=
      { (s.slice p).th.thcnt with noresp := satInc (s.slice p).th.thcnt.noresp } }) h hq hl hs ht
    refine ⟨_, congrArg Host.Outcome.next (if_neg (by simp [h])), ?_⟩
    rw [slice_onTh, thFailedCmd_slice, slice_onTh, hlost, thGoOn_none phase rfl]
    exact ⟨rfl, rfl, rfl⟩
  · intro p phase s h
    exact congrArg Host.Outcome.next (if_pos (by simp [h]))
  · intro p phase s h
    refine ⟨_, congrArg Host.Outcome.next (if_pos (by simp [h])), ?_⟩
    rw [slice_onTh]
    exact ⟨rfl, rfl, rfl⟩
  · intro p phase s h hphase
    refine ⟨_, congrArg Host.Outcome.next (if_neg (by simp [h])), ?_⟩
    rw [slice_onTh, thGoOn_late hphase, thFailedCmd_slice, thFailed_poll (by rw [slice_onTh]; exact h), slice_onTh]
  · intro p s hm hst
    have hc : (16 ≤ (s.slice p).th.missPolls && ((s.slice p).th.thstat.state = 3 || (s.slice p).th.thstat.state = 4)) = true := by
      simp only [hm, decide_true, Bool.true_and, Bool.or_eq_true, decide_eq_true_eq, hst]
    refine ⟨_, congrArg Host.Outcome.next (if_pos hc), ?_, portEvent_raised p 4 _ (by decide)⟩
    rw [portEvent_slice, feEnd_th, slice_onTh]
  · intro p s hm
    exact congrArg Host.Outcome.next (if_neg (by simp only [not_le.2 hm, decide_false, Bool.false_and, Bool.false_eq_true, not_false_eq_true]))
  · intro p s hm hst hre
    have hlt : (s.slice p).th.thstat.reent < 3 := BitVec.lt_def.2 hre
    obtain ⟨t, hexec, hth, hraised⟩ := thatchGiveUp_exits hm hst
    refine ⟨t, hexec, ?_⟩
    rw [hth, decide_eq_true hlt, if_pos hlt]
    exact ⟨rfl, rfl, rfl, rfl, hraised⟩
  · intro p s hm hst hre
    have hlt : ¬ (s.slice p).th.thstat.reent < 3 := by rw [hre]; decide
    obtain ⟨t, hexec, hth, hraised⟩ := thatchGiveUp_exits hm hst
    refine ⟨t, hexec, ?_⟩
    rw [hth, decide_eq_false hlt, if_neg hlt]
    exact ⟨rfl, rfl, rfl, hraised⟩
  · intro p s hm
    exact congrArg Host.Outcome.next (if_neg (by simp only [not_le.2 hm, decide_false, Bool.false_and, Bool.false_eq_true, not_false_eq_true]))
  · intro p s h
    refine ⟨_, congrArg Host.Outcome.next (if_pos h), ?_⟩
    rw [thAdvance_th, slice_onTh]
  · intro p s h
    exact congrArg Host.Outcome.next (if_neg (by rw [h]; exact Bool.false_ne_true))
  · intro p s hst hi hs hc
    have hne : (s.slice p).th.thstat.state ≠ 6 := by
      rcases hst with h | h | h <;> rw [h] <;> decide
    refine ⟨_, congrArg Host.Outcome.next (writeThctl_exit p s), ?_⟩
    rw [thExit_th hst]
    exact ⟨thExited_state hne, rfl, rfl, rfl, rfl, thExit_sbu hst hs, thExit_ready hst hi hc, thExit_raised hst⟩
  · intro p s h
    exact congrArg Host.Outcome.next ((writeThctl_exit p s).trans (thExit_idle h))
  · intro p s h
    refine ⟨_, congrArg Host.Outcome.next ((writeThctl_reenter p s).trans (if_pos h)), ?_⟩
    rw [slice_onTh]
    exact ⟨rfl, rfl⟩
  · intro p s h
    exact congrArg Host.Outcome.next ((writeThctl_reenter p s).trans (if_neg h))

end Sys2Proof.Machine
end

section
/-!
PROOFS. What the arbiter decides (R323), and when a reserved grant comes to a requester (R325).
-/

namespace Sys2Proof.Machine

/-! ## The candidate that goes before the others -/

theorem arbPick_eq_none {before : Fin 8 → Fin 8 → Bool} {l : List (Fin 8)} : arbPick before l = none ↔ l = [] := by
  cases l with
  | nil => simp [arbPick]
  | cons i rest =>
    simp only [arbPick, reduceCtorEq, iff_false]
    split
    · exact Option.some_ne_none i
    · split <;> exact Option.some_ne_none _

/-- In a strict order of all requesters the choice stands before every other candidate. -/
theorem arbPick_before {before : Fin 8 → Fin 8 → Bool}
    (htrans : ∀ i j k, before i j = true → before j k = true → before i k = true)
    (htotal : ∀ i j, i ≠ j → before i j = true ∨ before j i = true) {l : List (Fin 8)} {i : Fin 8}
    (h : arbPick before l = some i) : i ∈ l ∧ ∀ j ∈ l, j ≠ i → before i j = true := by
  induction l generalizing i with
  | nil => simp [arbPick] at h
  | cons a rest ih =>
    rw [arbPick] at h
    cases hp : arbPick before rest with
    | none =>
      rw [hp, Option.some_inj] at h
      rw [arbPick_eq_none] at hp
      simp [hp, h]
    | some b =>
      obtain ⟨hb, hall⟩ := ih hp
      rw [hp] at h
      dsimp only at h
      split at h
      · next hba =>
        obtain rfl := Option.some_inj.1 h
        refine ⟨List.mem_cons_of_mem a hb, fun j hj hne => ?_⟩
        rcases List.mem_cons.1 hj with rfl | hj
        · exact hba
        · exact hall j hj hne
      · next hba =>
        obtain rfl := Option.some_inj.1 h
        refine ⟨List.mem_cons_self, fun j hj hne => ?_⟩
        rcases List.mem_cons.1 hj with rfl | hj
        · exact absurd rfl hne
        rcases eq_or_ne a b with rfl | hab
        · exact hall j hj hne
        have hfirst : before a b = true := (htotal a b hab).resolve_right hba
        rcases eq_or_ne j b with rfl | hjb
        · exact hfirst
        · exact htrans a b j hfirst (hall j hj hjb)

theorem arbOlder_iff {r : Vector ArbReq 8} {i j : Fin 8} : arbOlder r i j = true ↔
    (r.get j).age < (r.get i).age ∨ ((r.get j).age = (r.get i).age ∧ i.val < j.val) := by
  simp only [arbOlder, Bool.or_eq_true, Bool.and_eq_true, decide_eq_true_eq, beq_iff_eq, @eq_comm _ (r.get i).age]

theorem arbBefore_iff {r : Vector ArbReq 8} {i j : Fin 8} : arbBefore r i j = true ↔
    (r.get j).cls < (r.get i).cls ∨ ((r.get j).cls = (r.get i).cls ∧
      ((r.get j).age < (r.get i).age ∨ ((r.get j).age = (r.get i).age ∧ i.val < j.val))) := by
  simp only [arbBefore, Bool.or_eq_true, Bool.and_eq_true, decide_eq_true_eq, beq_iff_eq, @eq_comm _ (r.get i).age,
    @eq_comm _ (r.get i).cls]

theorem mem_arbCands {r : Vector ArbReq 8} {o : Option (Fin 8)} {i : Fin 8} :
    i ∈ arbCands r o ↔ (r.get i).held = true ∧ o ≠ some i := by
  have hi : i ∈ arbIndices := by fin_cases i <;> decide
  simp [arbCands, hi]

theorem arbCands_eq_nil {r : Vector ArbReq 8} : arbCands r none = [] ↔ ∀ i, (r.get i).held = false := by
  simp [List.eq_nil_iff_forall_not_mem, mem_arbCands]

/-- The oldest candidate, by lowest index among the oldest. -/
theorem arbPick_oldest {r : Vector ArbReq 8} {l : List (Fin 8)} {i : Fin 8} (h : arbPick (arbOlder r) l = some i) :
    i ∈ l ∧ ∀ j ∈ l, j ≠ i → arbOlder r i j = true := by
  apply arbPick_before _ _ h
  · intro i j k
    rw [arbOlder_iff, arbOlder_iff, arbOlder_iff]
    omega
  · intro i j hij
    have := Fin.val_ne_of_ne hij
    rw [arbOlder_iff, arbOlder_iff]
    omega

/-- The best candidate, by class, then age, then index. -/
theorem arbPick_best {r : Vector ArbReq 8} {l : List (Fin 8)} {i : Fin 8} (h : arbPick (arbBefore r) l = some i) :
    i ∈ l ∧ ∀ j ∈ l, j ≠ i → arbBefore r i j = true := by
  apply arbPick_before _ _ h
  · intro i j k
    rw [arbBefore_iff, arbBefore_iff, arbBefore_iff]
    omega
  · intro i j hij
    have := Fin.val_ne_of_ne hij
    rw [arbBefore_iff, arbBefore_iff]
    omega

/-! ## One clock (R323) -/

section
variable {n : Nat} {r : Vector ArbReq 8} {a : Arbiter}

/-- A free clock in which a reserved grant is owed or due. -/
theorem arbFree_reserved (h : a.owed = true ∨ n - 1 ≤ a.since) : arbFree n r a =
    match arbPick (arbOlder r) (arbCands r none) with
    | none => { a with owner := none }
    | some i => { owner := some i, resv := true, owed := false, since := 0 } := by
  unfold arbFree
  exact if_pos (by simpa using h)

/-- A free clock in which none is. -/
theorem arbFree_best (ho : a.owed = false) (hs : a.since < n - 1) : arbFree n r a =
    match arbPick (arbBefore r) (arbCands r none) with
    | none => { a with owner := none }
    | some i => { owner := some i, resv := false, owed := a.owed, since := a.since + 1 } := by
  unfold arbFree
  exact if_neg (by simp only [ho, not_le.2 hs, decide_false, Bool.or_self, Bool.false_eq_true, not_false_eq_true])

theorem arbFree_owner_none : (arbFree n r a).owner = none ↔ ∀ i : Fin 8, (r.get i).held = false := by
  rw [← arbCands_eq_nil]
  by_cases h : a.owed = true ∨ n - 1 ≤ a.since
  · rw [arbFree_reserved h, ← arbPick_eq_none (before := arbOlder r)]
    split <;> simp [*]
  · rw [not_or, Bool.not_eq_true, not_le] at h
    rw [arbFree_best h.1 h.2, ← arbPick_eq_none (before := arbBefore r)]
    split <;> simp [*]

theorem arbClock_fixed {o : Fin 8} (ho : a.owner = some o) : arbClock n r true a = a := by
  simp only [arbClock, ho, if_true]

theorem arbClock_released {o : Fin 8} (ho : a.owner = some o) (hr : (r.get o).held = false) :
    arbClock n r false a = arbFree n r a := by
  simp only [arbClock, ho, hr, Bool.false_eq_true, if_false]

/-- An owner that still asks keeps the bus, or loses it to a requester of a higher class (R323, R325). -/
theorem arbClock_held {o : Fin 8} (ho : a.owner = some o) (hr : (r.get o).held = true) : arbClock n r false a = a ∨
    ∃ w : Fin 8, (r.get w).held = true ∧ (r.get o).cls < (r.get w).cls ∧ (a.resv = true → (r.get w).cls = 3) ∧
      arbClock n r false a = { owner := some w, resv := false, owed := a.owed || a.resv, since := a.since + 1 } := by
  simp only [arbClock, ho, hr, Bool.false_eq_true, if_false, if_true]
  split
  · exact .inl rfl
  · next w hw =>
    split
    · next h =>
      simp only [Bool.and_eq_true, decide_eq_true_eq, Bool.or_eq_true, Bool.not_eq_true', beq_iff_eq] at h
      obtain ⟨hcls, h3⟩ := h
      obtain ⟨hheld, -⟩ := mem_arbCands.1 (arbPick_best hw).1
      exact .inr ⟨w, hheld, hcls, fun hresv => h3.resolve_left (by simp [hresv]), rfl⟩
    · exact .inl rfl

end

/-- Settles O10. -/
theorem arbiterDecides : Obligations.ArbiterDecides := by
  unfold Obligations.ArbiterDecides
  refine ⟨?_, ?_, ?_, ?_, ?_, ?_⟩
  · intro n r a i h hi
    rw [arbFree_reserved h] at hi ⊢
    split at hi
    · simp at hi
    · next k hk =>
      obtain rfl := Option.some_inj.1 hi
      obtain ⟨hmem, hall⟩ := arbPick_oldest hk
      exact ⟨(mem_arbCands.1 hmem).1, rfl, rfl, rfl,
        fun j hj hne => arbOlder_iff.1 (hall j (mem_arbCands.2 ⟨hj, by simp⟩) hne)⟩
  · intro n r a i ho hs hi
    rw [arbFree_best ho hs] at hi ⊢
    split at hi
    · simp at hi
    · next k hk =>
      obtain rfl := Option.some_inj.1 hi
      obtain ⟨hmem, hall⟩ := arbPick_best hk
      exact ⟨(mem_arbCands.1 hmem).1, rfl, rfl,
        fun j hj hne => arbBefore_iff.1 (hall j (mem_arbCands.2 ⟨hj, by simp⟩) hne)⟩
  · intro n r a
    exact arbFree_owner_none
  · intro n r a o ho
    exact arbClock_fixed ho
  · intro n r a o ho hr hne
    obtain ⟨w, hheld, hcls, h3, hclock⟩ := (arbClock_held ho hr).resolve_left hne
    rw [hclock]
    exact ⟨w, rfl, hheld, hcls, fun hresv => ⟨h3 hresv, by simp [hresv]⟩⟩
  · intro n r a o ho hr
    exact arbClock_released ho hr

/-! ## Waiting for a reserved grant (R325) -/

/-- The requests that would be served before `i`'s. -/
def olderRequests (r : Vector ArbReq 8) (i : Fin 8) : Finset (Fin 8) :=
  Finset.univ.filter (fun j => j ≠ i ∧ (r.get j).held = true ∧ arbOlder r j i = true)

theorem mem_olderRequests {r : Vector ArbReq 8} {i j : Fin 8} :
    j ∈ olderRequests r i ↔ j ≠ i ∧ (r.get j).held = true ∧ arbOlder r j i = true := by
  simp [olderRequests]

theorem olderRequests_card (r : Vector ArbReq 8) (i : Fin 8) : (olderRequests r i).card ≤ 7 := by
  have hsub : olderRequests r i ⊆ Finset.univ.erase i := fun j hj =>
    Finset.mem_erase.2 ⟨(mem_olderRequests.1 hj).1, Finset.mem_univ j⟩
  simpa using Finset.card_le_card hsub

/-- A reserved grant that does not go to a request that is held goes to an older one. -/
theorem reservedGrant_older {r : Vector ArbReq 8} {i : Fin 8} (hi : (r.get i).held = true)
    (hne : arbPick (arbOlder r) (arbCands r none) ≠ some i) :
    ∃ j ∈ olderRequests r i, arbPick (arbOlder r) (arbCands r none) = some j := by
  cases hp : arbPick (arbOlder r) (arbCands r none) with
  | none => rw [arbPick_eq_none, arbCands_eq_nil] at hp; simp [hp i] at hi
  | some j =>
    have hji : j ≠ i := fun h => hne (h ▸ hp)
    obtain ⟨hmem, hall⟩ := arbPick_oldest hp
    exact ⟨j, mem_olderRequests.2 ⟨hji, (mem_arbCands.1 hmem).1, hall i (mem_arbCands.2 ⟨hi, by simp⟩) hji.symm⟩, rfl⟩

/-- Settles O11: each reserved grant that goes to another leaves one request fewer before this one. -/
theorem reservedGrantBound : Obligations.ReservedGrantBound := by
  unfold Obligations.ReservedGrantBound
  intro r i hheld hold
  by_contra hnever
  push Not at hnever
  have hshrinks (k : Nat) (hk : k < 8) : (olderRequests (r (k + 1)) i).card < (olderRequests (r k) i).card := by
    obtain ⟨j, hj, hpick⟩ := reservedGrant_older (hheld k) (hnever k hk)
    refine Finset.card_lt_card (Finset.ssubset_iff_of_subset ?_ |>.2 ⟨j, hj, ?_⟩)
    · intro m hm
      obtain ⟨hmi, hmheld, hmold⟩ := mem_olderRequests.1 hm
      obtain ⟨h1, h2, -⟩ := hold k m hmi hmheld hmold
      exact mem_olderRequests.2 ⟨hmi, h1, h2⟩
    · intro hm
      obtain ⟨hji, hjheld, hjold⟩ := mem_olderRequests.1 hm
      exact (hold k j hji hjheld hjold).2.2 hpick
  have hbound (k : Nat) (hk : k ≤ 8) : (olderRequests (r k) i).card + k ≤ 7 := by
    induction k with
    | zero => exact olderRequests_card _ _
    | succ k ih =>
      have h1 := ih (by omega)
      have h2 := hshrinks k (by omega)
      omega
  have := hbound 8 le_rfl
  omega

end Sys2Proof.Machine
end

section
/-!
PROOFS. The OTP codeword (R359): its check is linear in its bits, so an error shows as its own syndrome and parity.
-/

namespace Sys2Proof.Machine

/-! ## The syndrome and the parity of a sum -/

/-- The sum of `f i` over the bits of `c` that are 1, among the bits of a list. -/
def bitSum (f : Nat → BitVec 6) (c : BitVec 40) (l : List Nat) (a : BitVec 6) : BitVec 6 :=
  l.foldl (fun acc i => if c.getLsbD i then acc ^^^ f i else acc) a

/-- The parity of the bits of a list, counted from `b` on. -/
def bitParity (c : BitVec 40) (l : List Nat) (b : Bool) : Bool := l.foldl (fun acc i => acc != c.getLsbD i) b

theorem bitSum_xor (f : Nat → BitVec 6) (c e : BitVec 40) (l : List Nat) (a b : BitVec 6) :
    bitSum f (c ^^^ e) l (a ^^^ b) = bitSum f c l a ^^^ bitSum f e l b := by
  induction l generalizing a b with
  | nil => rfl
  | cons i l ih =>
    have hstep : (if (c ^^^ e).getLsbD i then (a ^^^ b) ^^^ f i else a ^^^ b) =
        (if c.getLsbD i then a ^^^ f i else a) ^^^ (if e.getLsbD i then b ^^^ f i else b) := by
      rw [BitVec.getLsbD_xor]
      cases c.getLsbD i <;> cases e.getLsbD i
      · rfl
      · exact BitVec.xor_assoc a b (f i)
      · show a ^^^ b ^^^ f i = a ^^^ f i ^^^ b
        rw [BitVec.xor_assoc, BitVec.xor_comm b, BitVec.xor_assoc]
      · show a ^^^ b = a ^^^ f i ^^^ (b ^^^ f i)
        rw [BitVec.xor_comm b (f i), BitVec.xor_assoc, ← BitVec.xor_assoc (f i), BitVec.xor_self, BitVec.zero_xor]
    simp only [bitSum, List.foldl_cons] at ih ⊢
    rw [hstep]
    exact ih _ _

theorem bitParity_xor (c e : BitVec 40) (l : List Nat) (a b : Bool) :
    bitParity (c ^^^ e) l (a ^^ b) = (bitParity c l a ^^ bitParity e l b) := by
  induction l generalizing a b with
  | nil => rfl
  | cons i l ih =>
    have hstep : ((a ^^ b) != (c ^^^ e).getLsbD i) = ((a != c.getLsbD i) ^^ (b != e.getLsbD i)) := by
      rw [BitVec.getLsbD_xor]
      cases a <;> cases b <;> cases c.getLsbD i <;> cases e.getLsbD i <;> rfl
    simp only [bitParity, List.foldl_cons] at ih ⊢
    rw [hstep]
    exact ih _ _

theorem syndrome_xor (c e : BitVec 40) : syndrome (c ^^^ e) = syndrome c ^^^ syndrome e :=
  bitSum_xor (fun i => BitVec.ofNat 6 (rawPos i)) c e (List.range 40) 0 0

theorem parity40_xor (c e : BitVec 40) : parity40 (c ^^^ e) = (parity40 c ^^ parity40 e) :=
  bitParity_xor c e (List.range 40) false false

/-! ## One bit, and the check bits alone -/

theorem syndrome_bit : ∀ i : Fin 40, syndrome (1 <<< i.val) = BitVec.ofNat 6 (rawPos i.val) := by decide
/-- A raw bit is 1 in its own place. -/
theorem rawBit_getLsbD (n j : Nat) : ((1 <<< n : Nat) : BitVec 40).getLsbD j = (decide (j < 40) && decide (n = j)) := by
  show (BitVec.ofNat 40 (1 <<< n)).getLsbD j = _
  rw [BitVec.getLsbD_ofNat, Nat.one_shiftLeft, Nat.testBit_two_pow]

/-- One bit is counted once it has been passed. -/
theorem bitParity_rawBit (i n : Nat) (hn : n ≤ 40) : bitParity (1 <<< i : Nat) (List.range n) false = decide (i < n) := by
  induction n with
  | zero => rfl
  | succ n ih =>
    have hlast : bitParity (1 <<< i : Nat) (List.range (n + 1)) false =
        (bitParity (1 <<< i : Nat) (List.range n) false != ((1 <<< i : Nat) : BitVec 40).getLsbD n) := by
      rw [List.range_succ, bitParity, List.foldl_append]
      rfl
    rw [hlast, ih (by omega), rawBit_getLsbD, decide_eq_true (show n < 40 by omega), Bool.true_and]
    by_cases h : i = n
    · simp [h]
    · simp [h, show i < n + 1 ↔ i < n by omega]

theorem parity40_bit (i : Fin 40) : parity40 (1 <<< i.val) = true :=
  (bitParity_rawBit i.val 40 le_rfl).trans (decide_eq_true i.isLt)

/-- Each raw bit but the last has a position, and the position finds it. -/
theorem bitAtPos_rawPos : ∀ i : Fin 39,
    BitVec.ofNat 6 (rawPos i.val) ≠ 0 ∧ bitAtPos (BitVec.ofNat 6 (rawPos i.val)).toNat = some i.val := by decide

/-- No two raw bits share a position. -/
theorem rawPos_injective {i j : Fin 40} (h : BitVec.ofNat 6 (rawPos i.val) = BitVec.ofNat 6 (rawPos j.val)) : i = j := by
  have hlast : BitVec.ofNat 6 (rawPos 39) = 0 := by decide
  rcases Nat.lt_succ_iff_lt_or_eq.1 i.isLt with hi | hi <;> rcases Nat.lt_succ_iff_lt_or_eq.1 j.isLt with hj | hj
  · have hfound := (bitAtPos_rawPos ⟨i.val, hi⟩).2
    rw [h, (bitAtPos_rawPos ⟨j.val, hj⟩).2] at hfound
    exact Fin.ext (Option.some_inj.1 hfound).symm
  · exact absurd (h.trans (by rw [hj, hlast])) (bitAtPos_rawPos ⟨i.val, hi⟩).1
  · exact absurd (h.symm.trans (by rw [hi, hlast])) (bitAtPos_rawPos ⟨j.val, hj⟩).1
  · exact Fin.ext (hi.trans hj.symm)

/-- Past position 39 there is no raw bit. -/
theorem bitAtPos_none : ∀ y : Fin 64, 39 < y.val → bitAtPos y.val = none := by decide

/-- The check bits alone have themselves as syndrome. -/
theorem syndrome_checkBits : ∀ y : BitVec 6, syndrome (y.setWidth 40 <<< 33) = y := by decide

/-! ## Reading (R359, R360) -/

/-- What a word reads as once it is corrected. -/
def otpShown (c : BitVec 40) : OtpWord :=
  { written := c.getLsbD 32, faulted := false, data := if c.getLsbD 32 then c.setWidth 32 else 0 }

theorem otpRead_of_corrected {c x : BitVec 40} (h : otpCorrect c = some x) : otpRead c = otpShown x := by
  simp only [otpRead, h, otpShown]
  cases x.getLsbD 32 <;> rfl

theorem otpRead_of_uncorrectable {c : BitVec 40} (h : otpCorrect c = none) :
    otpRead c = { written := false, faulted := true, data := 0 } := by
  simp only [otpRead, h]

theorem otpRead_good {c : BitVec 40} (h : syndrome c = 0) : otpRead c = otpShown c :=
  otpRead_of_corrected (if_pos h)

/-- A wrong syndrome with even parity is two errors or more. -/
theorem otpRead_even {c : BitVec 40} (h : syndrome c ≠ 0) (hp : parity40 c = false) :
    otpRead c = { written := false, faulted := true, data := 0 } :=
  otpRead_of_uncorrectable (by rw [otpCorrect, if_neg h, if_pos (by rw [hp]; rfl)])

/-- A syndrome beyond the last position points at no bit. -/
theorem otpRead_outside {c : BitVec 40} (h : 39 < (syndrome c).toNat) :
    otpRead c = { written := false, faulted := true, data := 0 } := by
  have hne : syndrome c ≠ 0 := fun h0 => by rw [h0] at h; exact absurd h (by decide)
  refine otpRead_of_uncorrectable ?_
  rw [otpCorrect, if_neg hne, bitAtPos_none ⟨_, (syndrome c).isLt⟩ h, ite_self]

/-- The parity bit is no part of what is read. -/
theorem otpShown_flip39 (c : BitVec 40) : otpShown (c ^^^ (1 <<< 39)) = otpShown c := by
  have h32 : (c ^^^ (1 <<< 39)).getLsbD 32 = c.getLsbD 32 := by
    rw [BitVec.getLsbD_xor]; simp
  have hd : (c ^^^ (1 <<< 39)).setWidth 32 = c.setWidth 32 := by
    rw [BitVec.setWidth_xor]; simp
  rw [otpShown, otpShown, h32, hd]

/-- One wrong bit of a codeword is corrected, or is the parity bit. -/
theorem otpRead_oneError {c : BitVec 40} (i : Fin 40) (h : syndrome c = 0) (hp : parity40 c = false) :
    otpRead (c ^^^ (1 <<< i.val)) = otpRead c := by
  have hs : syndrome (c ^^^ (1 <<< i.val)) = BitVec.ofNat 6 (rawPos i.val) := by
    rw [syndrome_xor, h, syndrome_bit]
    exact BitVec.zero_xor
  rw [otpRead_good h]
  rcases Nat.lt_succ_iff_lt_or_eq.1 i.isLt with hi | hi
  · obtain ⟨hne, hat⟩ := bitAtPos_rawPos ⟨i.val, hi⟩
    have hcorrect : otpCorrect (c ^^^ (1 <<< i.val)) = some c := by
      rw [otpCorrect, hs, if_neg hne, if_neg (by rw [parity40_xor, hp, parity40_bit]; decide), hat]
      show some (c ^^^ _ ^^^ _) = _
      rw [BitVec.xor_assoc, BitVec.xor_self, BitVec.xor_zero]
    exact otpRead_of_corrected hcorrect
  · rw [otpRead_good (by rw [hs, hi]; decide), hi]
    exact otpShown_flip39 c

/-- Two wrong bits of a codeword are not correctable. -/
theorem otpRead_twoErrors {c : BitVec 40} {i j : Fin 40} (h : syndrome c = 0) (hp : parity40 c = false) (hij : i ≠ j) :
    otpRead (c ^^^ (1 <<< i.val) ^^^ (1 <<< j.val)) = { written := false, faulted := true, data := 0 } := by
  apply otpRead_even
  · rw [syndrome_xor, syndrome_xor, h, syndrome_bit, syndrome_bit, show (0 : BitVec 6) ^^^ _ = _ from BitVec.zero_xor]
    exact fun h0 => hij (rawPos_injective (BitVec.xor_eq_zero_iff.1 h0))
  · rw [parity40_xor, parity40_xor, hp, parity40_bit, parity40_bit]
    rfl

/-! ## Encoding (R359) -/

/-- The data and the marker of a codeword. -/
def otpBody (d : Word) : BitVec 40 := d.setWidth 40 ||| (1 <<< 32)

theorem otpBody_bit (d : Word) (j : Nat) : (otpBody d).getLsbD j = (d.getLsbD j || decide (j = 32)) := by
  rw [otpBody, BitVec.getLsbD_or, BitVec.getLsbD_setWidth, rawBit_getLsbD]
  by_cases hj : j < 40
  · simp [hj, eq_comm]
  · simp [hj, BitVec.getLsbD_of_ge d j (by omega), show j ≠ 32 by omega]

/-- The data with its check bits, before the parity bit. -/
def otpChecked (d : Word) : BitVec 40 := otpBody d ||| ((syndrome (otpBody d)).setWidth 40 <<< 33)

theorem otpChecked_bit (d : Word) (j : Nat) : (otpChecked d).getLsbD j =
    (d.getLsbD j || decide (j = 32) || decide (33 ≤ j) && (syndrome (otpBody d)).getLsbD (j - 33)) := by
  rw [otpChecked, BitVec.getLsbD_or, otpBody_bit, BitVec.getLsbD_shiftLeft, BitVec.getLsbD_setWidth]
  by_cases hj : j < 39
  · simp only [show j < 40 by omega, show j - 33 < 40 by omega, decide_true, Bool.true_and, ← Nat.not_lt, decide_not]
  · simp [BitVec.getLsbD_of_ge (syndrome (otpBody d)) (j - 33) (by omega)]

/-- The check bits share no place with the data and the marker. -/
theorem otpChecked_eq (d : Word) : otpChecked d = otpBody d ^^^ ((syndrome (otpBody d)).setWidth 40 <<< 33) := by
  apply BitVec.eq_of_getLsbD_eq
  intro j hj
  rw [otpChecked, BitVec.getLsbD_or, BitVec.getLsbD_xor, otpBody_bit, BitVec.getLsbD_shiftLeft]
  by_cases h : j < 33
  · simp [h]
  · simp [BitVec.getLsbD_of_ge d j (by omega), show j ≠ 32 by omega]

theorem syndrome_otpChecked (d : Word) : syndrome (otpChecked d) = 0 := by
  rw [otpChecked_eq, syndrome_xor, syndrome_checkBits]
  exact BitVec.xor_self

theorem otpEncode_eq (d : Word) : otpEncode d =
    if parity40 (otpChecked d) then otpChecked d ^^^ (1 <<< 39) else otpChecked d := by
  have h39 : otpChecked d ||| (1 <<< 39) = otpChecked d ^^^ (1 <<< 39) := by
    apply BitVec.eq_of_getLsbD_eq
    intro j hj
    rw [BitVec.getLsbD_or, BitVec.getLsbD_xor, otpChecked_bit, rawBit_getLsbD]
    by_cases h : 39 = j
    · subst h
      simp
    · simp [h]
  rw [← h39]
  rfl

theorem syndrome_otpEncode (d : Word) : syndrome (otpEncode d) = 0 := by
  rw [otpEncode_eq]
  split
  · rw [syndrome_xor, syndrome_otpChecked, show syndrome (1 <<< 39) = _ from syndrome_bit 39]
    decide
  · exact syndrome_otpChecked d

theorem parity40_otpEncode (d : Word) : parity40 (otpEncode d) = false := by
  rw [otpEncode_eq]
  split
  · next h =>
    rw [parity40_xor, h, show parity40 (1 <<< 39) = true from parity40_bit 39]
    rfl
  · next h => exact Bool.eq_false_of_not_eq_true h

/-- Below its parity bit the codeword is the data, the marker and the check bits. -/
theorem otpEncode_bit (d : Word) {j : Nat} (hj : j < 39) : (otpEncode d).getLsbD j = (otpChecked d).getLsbD j := by
  rw [otpEncode_eq]
  split
  · rw [BitVec.getLsbD_xor, rawBit_getLsbD]
    simp [show ¬ 39 = j by omega]
  · rfl

theorem otpEncode_data (d : Word) : (otpEncode d).setWidth 32 = d := by
  apply BitVec.eq_of_getLsbD_eq
  intro j hj
  rw [BitVec.getLsbD_setWidth, otpEncode_bit d (by omega), otpChecked_bit]
  simp [hj, show j ≠ 32 by omega, show ¬ 33 ≤ j by omega]

theorem otpEncode_marker (d : Word) : (otpEncode d).getLsbD 32 = true := by
  rw [otpEncode_bit d (by decide), otpChecked_bit]
  simp

theorem otpEncode_checkBit (d : Word) (i : Fin 6) : (otpEncode d).getLsbD (33 + i.val) = (syndrome (otpBody d)).getLsbD i.val := by
  rw [otpEncode_bit d (by omega), otpChecked_bit, BitVec.getLsbD_of_ge d _ (by omega)]
  simp [show 33 + i.val ≠ 32 by omega]

/-- A bit of a sum is the parity of that bit of its terms. -/
theorem bitSum_getLsbD (f : Nat → Nat) (c : BitVec 40) (l : List Nat) (a : BitVec 6) {k : Nat} (hk : k < 6) :
    (bitSum (fun j => BitVec.ofNat 6 (f j)) c l a).getLsbD k =
      l.foldl (fun x j => x ^^ (c.getLsbD j && (f j).testBit k)) (a.getLsbD k) := by
  induction l generalizing a with
  | nil => rfl
  | cons i l ih =>
    simp only [bitSum, List.foldl_cons] at ih ⊢
    rw [ih]
    congr 1
    split
    · next h => rw [BitVec.getLsbD_xor, BitVec.getLsbD_ofNat, h]; simp [hk]
    · next h => simp [h]

/-- A check bit is the parity of the data and marker bits whose positions have that bit (R359). -/
theorem otpEncode_check (d : Word) (i : Fin 6) : (otpEncode d).getLsbD (33 + i.val) =
    (List.range 33).foldl (fun x j => x ^^ ((otpEncode d).getLsbD j && (hammingPos j).testBit i.val)) false := by
  have hsplit : List.range 40 = List.range 33 ++ [33, 34, 35, 36, 37, 38, 39] := by decide
  have hbody (j : Nat) (hj : j < 33) : (otpBody d).getLsbD j = (otpEncode d).getLsbD j := by
    rw [otpEncode_bit d (by omega), otpChecked_bit, otpBody_bit]
    simp [show ¬ 33 ≤ j by omega]
  have hhigh (x : Bool) (j : Nat) (hj : j ∈ [33, 34, 35, 36, 37, 38, 39]) :
      (x ^^ ((otpBody d).getLsbD j && (rawPos j).testBit i.val)) = x := by
    have h33 : 33 ≤ j := by simp only [List.mem_cons, List.not_mem_nil, or_false] at hj; omega
    rw [otpBody_bit, BitVec.getLsbD_of_ge d j (by omega)]
    simp [show j ≠ 32 by omega]
  rw [otpEncode_checkBit]
  show (bitSum (fun j => BitVec.ofNat 6 (rawPos j)) (otpBody d) (List.range 40) 0).getLsbD i.val = _
  rw [bitSum_getLsbD rawPos _ _ _ i.isLt, hsplit, List.foldl_append,
    List.foldl_ext _ (fun x _ => x) _ (fun x j hj => hhigh x j hj), List.foldl_fixed,
    show (0 : BitVec 6).getLsbD i.val = false from BitVec.getLsbD_zero]
  refine List.foldl_ext _ _ _ (fun x j hj => ?_)
  have hj33 : j < 33 := List.mem_range.1 hj
  rw [hbody j hj33, rawPos, if_pos (by omega)]

/-- The last bit is the parity of the others (R359). -/
theorem otpEncode_parity (d : Word) : (otpEncode d).getLsbD 39 =
    (List.range 39).foldl (fun x j => x ^^ (otpEncode d).getLsbD j) false := by
  have hsplit : List.range 40 = List.range 39 ++ [39] := by decide
  have heven := parity40_otpEncode d
  simp only [parity40, hsplit, List.foldl_append, List.foldl_cons, List.foldl_nil, bne_eq_false_iff_eq] at heven
  exact heven.symm

/-- Settles O12. -/
theorem otpCodeword : Obligations.OtpCodeword := by
  unfold Obligations.OtpCodeword
  refine ⟨by decide, ?_, ?_, ?_, ?_, ?_, ?_, by decide⟩
  · intro d
    exact ⟨otpEncode_data d, otpEncode_marker d, otpEncode_check d, otpEncode_parity d⟩
  · intro d
    refine ⟨syndrome_otpEncode d, parity40_otpEncode d, ?_⟩
    rw [otpRead_good (syndrome_otpEncode d), otpShown, otpEncode_marker, otpEncode_data]
    rfl
  · intro c h _
    exact otpRead_good h
  · intro c i h hp
    exact otpRead_oneError i h hp
  · intro c i j h hp hij
    exact otpRead_twoErrors h hp hij
  · intro c h
    rcases h with ⟨h, hp⟩ | h
    · exact otpRead_even h hp
    · exact otpRead_outside h

end Sys2Proof.Machine
end

section
/-!
PROOFS. The lifecycle state and its change, the burning of fuses, overrides and sticky locks (R366 to R376).
-/

namespace Sys2Proof.Machine

/-! ## The lifecycle state (R373) -/

/-- Word LCj is written or faulted. -/
def lcSet (o : Otp) (j : Nat) : Bool := otpWritten o j || otpFaulted o j

theorem lcSet_eq_false {o : Otp} {j : Nat} : lcSet o j = false ↔ otpWritten o j = false ∧ otpFaulted o j = false :=
  Bool.or_eq_false_iff

/-- The state is the highest of the four words that are written or faulted, and 0 without one. -/
theorem lifecycle_spec (o : Otp) : lifecycle o ≤ 4 ∧ (0 < lifecycle o → lcSet o (lifecycle o) = true) ∧
    ∀ j, lifecycle o < j → j ≤ 4 → lcSet o j = false := by
  have heq : lifecycle o = if lcSet o 4 then 4 else if lcSet o 3 then 3 else if lcSet o 2 then 2 else
    if lcSet o 1 then 1 else 0 := rfl
  rw [heq]
  split_ifs with h4 h3 h2 h1
  · exact ⟨by decide, fun _ => h4, fun j h h' => by omega⟩
  · refine ⟨by decide, fun _ => h3, fun j h h' => ?_⟩
    obtain rfl : j = 4 := by omega
    simpa using h4
  · refine ⟨by decide, fun _ => h2, fun j h h' => ?_⟩
    obtain rfl | rfl : j = 3 ∨ j = 4 := by omega
    · simpa using h3
    · simpa using h4
  · refine ⟨by decide, fun _ => h1, fun j h h' => ?_⟩
    obtain rfl | rfl | rfl : j = 2 ∨ j = 3 ∨ j = 4 := by omega
    · simpa using h2
    · simpa using h3
    · simpa using h4
  · refine ⟨by decide, fun h => absurd h (lt_irrefl 0), fun j h h' => ?_⟩
    obtain rfl | rfl | rfl | rfl : j = 1 ∨ j = 2 ∨ j = 3 ∨ j = 4 := by omega
    · simpa using h1
    · simpa using h2
    · simpa using h3
    · simpa using h4

theorem lifecycle_eq_iff {o : Otp} {k : Nat} (h1 : 1 ≤ k) (h4 : k ≤ 4) :
    lifecycle o = k ↔ lcSet o k = true ∧ ∀ j, k < j → j ≤ 4 → lcSet o j = false := by
  obtain ⟨hle, hset, hhigher⟩ := lifecycle_spec o
  constructor
  · rintro rfl
    exact ⟨hset h1, hhigher⟩
  · rintro ⟨hk, hnone⟩
    rcases lt_trichotomy (lifecycle o) k with h | h | h
    · rw [hhigher k h h4] at hk
      exact absurd hk Bool.false_ne_true
    · exact h
    · have hl := hnone _ h hle
      rw [hset (by omega)] at hl
      exact absurd hl.symm Bool.false_ne_true

theorem lifecycle_eq_zero_iff {o : Otp} : lifecycle o = 0 ↔ ∀ j, 1 ≤ j → j ≤ 4 → lcSet o j = false := by
  obtain ⟨hle, hset, hhigher⟩ := lifecycle_spec o
  constructor
  · intro h0 j h1 h4
    exact hhigher j (by omega) h4
  · intro hnone
    by_contra h
    have hl := hnone _ (Nat.one_le_iff_ne_zero.2 h) hle
    rw [hset (Nat.pos_of_ne_zero h)] at hl
    exact Bool.false_ne_true hl.symm

theorem lcstat_state {o : Otp} (h : o.sensed = true) : (lcstat o).state = BitVec.ofNat 3 (lifecycle o) := by
  simp only [lcstat, h, Bool.not_true, Bool.false_eq_true, if_false]

/-! ## The lifecycle change (R375, R376) -/

/-- An accepted change is to a state that exists. -/
theorem lifecycle_lt_of_allowed {a : Bool} {s : State} (h : lifecycleAllowed a s = true) : lifecycle s.otp < 4 := by
  simp only [lifecycleAllowed, nextOk, Bool.and_eq_true, decide_eq_true_eq] at h
  obtain ⟨⟨⟨⟨⟨⟨⟨hlt, -⟩, -⟩, -⟩, -⟩, -⟩, -⟩, -⟩ := h
  exact hlt

/-- A change that begins burns the next LC word. -/
theorem lifecycleStart_otp {s : State} (h : lifecycle s.otp < 4) : ∃ w : Fin 128, w.val = lifecycle s.otp + 1 ∧
    (lifecycleStart s).otp = { s.otp with
      change := some (BitVec.ofNat 3 (lifecycle s.otp + 1))
      job := some { word := w, row := none, tag := 0, data := otpEncode (BitVec.ofNat 32 (lifecycle s.otp + 1)) }
      bstat := { s.otp.bstat with state := 1, cause := 0, abortLate := false, word := BitVec.ofNat 7 w.val } } :=
  ⟨⟨min (lifecycle s.otp + 1) 4, by omega⟩, by simp only; omega, rfl⟩

/-- What a LIFECYCLE command can do with the fuses: nothing, or begin the change to its code. -/
theorem svcLifecycle_otp (code : Byte) (s : State) : (svcLifecycle code s).state.otp = s.otp ∨
    code.toNat = lifecycle s.otp + 1 ∧ lifecycle s.otp < 4 ∧
      (svcLifecycle code s).state.otp = (lifecycleStart s).otp := by
  unfold svcLifecycle
  split
  · exact .inl rfl
  · next hcode =>
    split
    · exact .inl rfl
    · split
      · next hallowed => exact .inr ⟨not_not.1 hcode, lifecycle_lt_of_allowed hallowed, rfl⟩
      · exact .inl rfl

/-- A command that wants authorisation does nothing without it, and else runs on a state with the same fuses. -/
theorem svcAuth_otp (cmd : Byte) (pl : List Byte) (a : Option AuthBlock) (f : State → SvcOut) (s : State) :
    (svcAuth cmd pl a f s).state.otp = s.otp ∨ ∃ u : State, u.otp = s.otp ∧ svcAuth cmd pl a f s = f u := by
  unfold svcAuth
  split
  · exact .inr ⟨s, rfl, rfl⟩
  · split
    · exact .inr ⟨_, onLcu_otp _ s, rfl⟩
    · exact .inl rfl

/-- A service frame leaves the fuses as they were, or as its command leaves them. -/
theorem svcRun_otp (cmd seq : Byte) (pl : List Byte) (b : Bool) (f : State → SvcOut) (s : State) :
    (svcRun cmd seq pl b f s).otp = s.otp ∨ (svcRun cmd seq pl b f s).otp = (f s).state.otp := by
  simp only [svcRun, svcGate]
  split
  · exact .inl rfl
  · split
    · exact .inl rfl
    · split
      · exact .inl rfl
      · split
        · exact .inl rfl
        · exact .inr rfl

/-- A LIFECYCLE command that leaves a change under way has begun it. -/
theorem execSvcLifecycle_begins {seq code : Byte} {auth : Option AuthBlock} {s t : State} (h0 : s.otp.change = none)
    (h : exec (.svcLifecycle seq code auth) s = .next t) (ht : t.otp.change ≠ none) :
    code.toNat = lifecycle s.otp + 1 ∧ lifecycle s.otp < 4 ∧ t.otp = (lifecycleStart s).otp := by
  obtain rfl := Host.Outcome.next.inj h
  have hmoves {o : Otp} (ho : (svcRun 0x33 seq ([code, 0, 0, 0] ++ authBytes auth) true
      (svcAuth 0x33 [code, 0, 0, 0] auth (svcLifecycle code)) s).otp = o) : o ≠ s.otp :=
    fun h => ht (by rw [ho, h, h0])
  rcases svcRun_otp 0x33 seq ([code, 0, 0, 0] ++ authBytes auth) true
    (svcAuth 0x33 [code, 0, 0, 0] auth (svcLifecycle code)) s with hrun | hrun
  · exact absurd rfl (hmoves hrun)
  rcases svcAuth_otp 0x33 [code, 0, 0, 0] auth (svcLifecycle code) s with hauth | ⟨u, hu, hauth⟩
  · exact absurd hauth (hmoves hrun)
  rw [hauth] at hrun
  rcases svcLifecycle_otp code u with hcase | ⟨hcode, hlt, hcase⟩
  · exact absurd (hcase.trans hu) (hmoves hrun)
  rw [hu] at hcode hlt
  refine ⟨hcode, hlt, hrun.trans (hcase.trans ?_)⟩
  simp only [lifecycleStart, onOtp_otp, hu]

theorem execLifecycleEraseDone_due {k : BitVec 3} {s : State} (hc : s.otp.change = some k) (hj : s.otp.job = none) :
    exec .lifecycleEraseDone s = .next (lifecycleErased k s) := by
  show execLifecycleEraseDone s = _
  simp only [execLifecycleEraseDone, hc, hj, Option.isNone_none, if_true]

theorem padPage_head (r : Rec4) : (padPage [r]).head? = some r := rfl

/-- What the erasure leaves in the flash. -/
theorem lifecycleErased_nand (k : BitVec 3) (s : State) : (lifecycleErased k s).nand = { s.nand with
    under := k, bank0 := {}, bank1 := {}, slot0 := [], slot1 := [], settings := []
    log := padPage [lifecycleSlot (lifecycle s.otp) k.toNat s], logOldest := 0, flush := [] } := by
  simp only [lifecycleErased, wardenReset_nand, apply_ite State.nand, raise, ite_self]
  rfl

/-- Settles O13. -/
theorem lifecycleState : Obligations.LifecycleState := by
  unfold Obligations.LifecycleState
  refine ⟨?_, ?_, ?_, ?_, ?_, ?_⟩
  · intro o k h1 h4
    simp only [lifecycle_eq_iff h1 h4, lcSet, Bool.or_eq_true, Bool.or_eq_false_iff]
  · intro o
    simp only [lifecycle_eq_zero_iff, lcSet, Bool.or_eq_false_iff, true_and]
    exact (lifecycle_spec o).1
  · intro o o' hwr huc
    unfold lifecycle otpWritten otpFaulted
    rw [hwr, huc]
  · intro o h
    exact lcstat_state h
  · intro seq code auth s t h0 h ht
    obtain ⟨hcode, hlt, hotp⟩ := execSvcLifecycle_begins h0 h ht
    obtain ⟨w, hw, hstart⟩ := lifecycleStart_otp hlt
    refine ⟨hcode, w, hw.trans hcode.symm, ?_⟩
    rw [hotp, hstart, ← hcode, BitVec.ofNat_toNat]
  · intro k s t hc hj h
    rw [execLifecycleEraseDone_due hc hj] at h
    obtain rfl := Host.Outcome.next.inj h
    rw [lifecycleErased_nand]
    exact padPage_head _

end Sys2Proof.Machine
end

section
/-!
PROOFS. Burning, overrides, sticky locks and the end of a lifecycle change (R366 to R377).
-/

namespace Sys2Proof.Machine

/-! ## Vectors -/

theorem get_set_self {α : Type} {n : Nat} (v : Vector α n) (k : Fin n) (x : α) : (v.set k.val x k.isLt).get k = x :=
  get_updAt_self v k (fun _ => x)

theorem get_set_ne {α : Type} {n : Nat} (v : Vector α n) {k j : Fin n} (x : α) (h : j ≠ k) :
    (v.set k.val x k.isLt).get j = v.get j := get_updAt_ne v (fun _ => x) h

/-! ## Burning (R368 to R371) -/

/-- The word of a burn request names the word and asks for its start, with no spare row and no override. -/
theorem burnRequest (w : Fin 128) : getField ((BitVec.ofNat 32 w.val &&& 0x1FF) ||| 0x10000) 0 7 = BitVec.ofNat 7 w.val ∧
    getBit ((BitVec.ofNat 32 w.val &&& 0x1FF) ||| 0x10000) 7 = false ∧
    getBit ((BitVec.ofNat 32 w.val &&& 0x1FF) ||| 0x10000) 8 = false ∧
    getBit ((BitVec.ofNat 32 w.val &&& 0x1FF) ||| 0x10000) 16 = true ∧
    getBit ((BitVec.ofNat 32 w.val &&& 0x1FF) ||| 0x10000) 17 = false := by
  revert w
  decide

/-- The fuse controller with a burn of `data` into word `w` asked for. -/
def burnAsked (w : Fin 128) (data : Word) (o : Otp) : Otp :=
  { o with bdata := data, burn := { word := BitVec.ofNat 7 w.val, spare := false, src := false } }

theorem burnAsked_word (w : Fin 128) (data : Word) (o : Otp) :
    (⟨(burnAsked w data o).burn.word.toNat, (burnAsked w data o).burn.word.isLt⟩ : Fin 128) = w := by
  apply Fin.ext
  show (BitVec.ofNat 7 w.val).toNat = w.val
  rw [BitVec.toNat_ofNat]
  exact Nat.mod_eq_of_lt w.isLt

theorem writeBurn_request (w : Fin 128) (data : Word) (s : State) :
    writeBurn ((BitVec.ofNat 32 w.val &&& 0x1FF) ||| 0x10000) (onOtp (fun o => { o with bdata := data }) s) =
      burnGo (onOtp (burnAsked w data) s) := by
  obtain ⟨hword, hspare, hsrc, hgo, habort⟩ := burnRequest w
  simp only [writeBurn, hgo, habort, Bool.false_eq_true, if_true, if_false, OtpBurn.put, hword, hspare, hsrc]
  rfl

theorem burnGo_refused {w : Fin 128} {data : Word} {s : State} (h : burnCause w false s ≠ 0) :
    burnGo (onOtp (burnAsked w data) s) = onOtp (fun o => { burnAsked w data o with
      bstat := { o.bstat with state := 3, cause := burnCause w false s, word := BitVec.ofNat 7 w.val, abortLate := false } }) s := by
  have hc : burnCause w (burnAsked w data s.otp).burn.spare (onOtp (burnAsked w data) s) = burnCause w false s := rfl
  simp only [burnGo, onOtp_otp, burnAsked_word, hc]
  exact if_pos h

theorem burnGo_starts {w : Fin 128} {data : Word} {s : State} (h : burnCause w false s = 0) :
    burnGo (onOtp (burnAsked w data) s) = onOtp (fun o => { burnAsked w data o with
      job := some (burnJob w false data o)
      bstat := { o.bstat with state := 1, cause := 0, abortLate := false, word := BitVec.ofNat 7 w.val } }) s := by
  have hc : burnCause w (burnAsked w data s.otp).burn.spare (onOtp (burnAsked w data) s) = burnCause w false s := rfl
  simp only [burnGo, onOtp_otp, burnAsked_word, hc, h, ne_eq, not_true_eq_false, if_false]
  rfl

theorem svcBurn_starts {w : Fin 128} {data : Word} {s : State} (hr : wardenRuns s = true) (h : burnCause w false s = 0) :
    svcBurn (BitVec.ofNat 32 w.val) data s = svcAccepted (onOtp (fun o => { burnAsked w data o with
      job := some (burnJob w false data o)
      bstat := { o.bstat with state := 1, cause := 0, abortLate := false, word := BitVec.ofNat 7 w.val } }) s) := by
  unfold svcBurn
  rw [if_neg (by simp [hr]), writeBurn_request, burnGo_starts h]
  exact if_neg (show ¬ (1 : BitVec 3) = 3 by decide)

theorem svcBurn_refused {w : Fin 128} {data : Word} {s : State} (hr : wardenRuns s = true) (h : burnCause w false s ≠ 0) :
    svcBurn (BitVec.ofNat 32 w.val) data s = svcRefused ((burnCause w false s).setWidth 8)
      (onOtp (fun o => { burnAsked w data o with bstat := { o.bstat with
        state := 3, cause := burnCause w false s, word := BitVec.ofNat 7 w.val, abortLate := false } }) s) := by
  unfold svcBurn
  rw [if_neg (by simp [hr]), writeBurn_request, burnGo_refused h]
  exact if_pos rfl

/-! ## Authorised commands (R409, R410) -/

section
variable {cmd seq : Byte} {pl pl' : List Byte} {a : Option AuthBlock} {b : Bool} {f : State → SvcOut} {s : State}

theorem svcAuth_free (h : lifecycle s.otp < 2) : svcAuth cmd pl a f s = f s := if_pos h

theorem svcAuth_owned (h : 2 ≤ lifecycle s.otp) : svcAuth cmd pl a f s =
    if authOk cmd pl a s then f (onLcu (fun l => { l with nonce := none }) s) else svcAuthFailed s :=
  if_neg (not_lt.2 h)

/-- Before the device is provisioned a command needs no authorisation. -/
theorem svcRun_auth_free (h : svcFresh cmd seq pl' s = true) (hm : b = true ∨ s.did.cond = .operation)
    (hl : lifecycle s.otp < 2) : svcRun cmd seq pl' b (svcAuth cmd pl a f) s =
      svcAnswered cmd seq pl' (f s).status (f s).cause (f s).data (f s).state := by
  rw [svcRun_fresh h hm, svcAuth_free hl]

/-- From then on one that is not authorised is answered 5 and changes nothing else. -/
theorem svcRun_auth_fails (h : svcFresh cmd seq pl' s = true) (hm : b = true ∨ s.did.cond = .operation)
    (hl : 2 ≤ lifecycle s.otp) (ha : authOk cmd pl a s = false) :
    svcRun cmd seq pl' b (svcAuth cmd pl a f) s = svcAnswered cmd seq pl' 5 0 [] s := by
  rw [svcRun_fresh h hm, svcAuth_owned hl, ha]
  rfl
end

/-! ## Overrides and sticky locks (R366, R367) -/

theorem toNat_wordNumber (w : Fin 128) : (BitVec.ofNat 32 w.val).toNat = w.val := by
  rw [BitVec.toNat_ofNat]
  exact Nat.mod_eq_of_lt (by omega)

theorem svcOverride_eq {w : Fin 128} {v : Word} {s : State} (hr : wardenRuns s = true) :
    svcOverride (BitVec.ofNat 32 w.val) v s =
      if overrideOk s.otp w.val then svcDone [] (writeOverride w v s) else svcRefused 0 s := by
  have hw : (⟨(BitVec.ofNat 32 w.val).toNat, by rw [toNat_wordNumber]; exact w.isLt⟩ : Fin 128) = w :=
    Fin.ext (toNat_wordNumber w)
  unfold svcOverride
  rw [if_neg (by simp [hr]), dif_pos (by rw [toNat_wordNumber]; exact w.isLt), hw, toNat_wordNumber]

theorem writeOverride_ok {w : Fin 128} {v : Word} {s : State} (h : overrideOk s.otp w.val = true) :
    writeOverride w v s = onOtp (fun o => { o with
      ov := o.ov ||| (1 <<< w.val), ovr := o.ovr.set w.val v w.isLt, shd := o.shd.set w.val v w.isLt }) s := if_pos h

theorem svcSticky_runs {bits : Word} {s : State} (hr : wardenRuns s = true) :
    svcSticky bits s = svcDone [] (setSticky (bits &&& 0x7F00) s) := by
  unfold svcSticky
  rw [if_neg (by simp [hr])]

/-! ## The lifecycle change (R375 to R377) -/

theorem svcLifecycle_starts {code : Byte} {s : State} (hcode : code.toNat = lifecycle s.otp + 1)
    (hr : s.did.cond = .recovery ∨ wardenRuns s = true) (h : lifecycleAllowed true s = true) :
    svcLifecycle code s = svcAccepted (lifecycleStart s) := by
  unfold svcLifecycle
  rw [if_neg (not_not.2 hcode), if_neg (by rcases hr with hr | hr <;> simp [inRecovery, hr]), if_pos h]

theorem svcLifecycle_badCode {code : Byte} {s : State} (h : code.toNat ≠ lifecycle s.otp + 1) :
    svcLifecycle code s = svcBadArg s := if_pos h

theorem wardenReset_keeps {n : Nat} (c : BitVec 4) {s : State} (h : s.eva.raised n = true) :
    (wardenReset c s).eva.raised n = true := by
  unfold wardenReset
  split
  · exact h
  · exact hwRecord_keeps _ _ _ _ (by rw [onDid_eva, pinsOff_eva]; exact h)

/-- In Operation the erasure is reported, and the device resets with `WCAUSE` 1. -/
theorem lifecycleErased_resets {k : BitVec 3} {s : State} (hp : s.did.preReset = false) (hc : s.did.cond = .operation) :
    (lifecycleErased k s).eva.raised 220 = true ∧ (lifecycleErased k s).did.preReset = true ∧
    (lifecycleErased k s).did.srcs.wcause = 1 ∧ (lifecycleErased k s).did.released = false ∧
    (lifecycleErased k s).otp = s.otp := by
  have hraised (u : State) (hu : u.did = s.did) (ho : u.otp = s.otp) : (wardenReset 1 (raise 220 u)).eva.raised 220 = true ∧
      (wardenReset 1 (raise 220 u)).did.preReset = true ∧ (wardenReset 1 (raise 220 u)).did.srcs.wcause = 1 ∧
      (wardenReset 1 (raise 220 u)).did.released = false ∧ (wardenReset 1 (raise 220 u)).otp = s.otp := by
    have hdid : (raise 220 u).did = s.did := hu
    rw [wardenReset_did 1 (by rw [hdid]; exact hp) (.inr (by rw [hdid]; exact hc)), wardenReset_otp]
    exact ⟨wardenReset_keeps 1 (raise_raised 220 u (by decide)), rfl, rfl, rfl, ho⟩
  simp only [lifecycleErased, onNand_did, hc, if_true]
  exact hraised _ rfl rfl

theorem execLifecycleEraseDone_idle {s : State} (h : s.otp.change = none ∨ s.otp.job ≠ none) :
    exec .lifecycleEraseDone s = .next s := by
  show execLifecycleEraseDone s = _
  unfold execLifecycleEraseDone
  split
  · next k hk =>
    have hj : s.otp.job ≠ none := h.resolve_left (by rw [hk]; exact Option.some_ne_none k)
    rw [if_neg (by rwa [Option.isNone_iff_eq_none])]
  · rfl

/-- Settles O56. -/
theorem fuses : Obligations.Fuses := by
  unfold Obligations.Fuses
  refine ⟨?_, ?_, ?_, ?_, ?_, ?_, ?_, ?_, ?_, ?_, ?_, ?_, ?_, ?_, ?_, ?_, ?_, ?_⟩
  · intro tag data s h
    show execOtpBurnDone tag data s = _
    simp only [execOtpBurnDone, h]
  · intro w tag jtag data jdata s h
    refine ⟨_, rfl, ?_⟩
    simp only [h, burnStore, Option.isNone_none, Bool.true_or, Bool.and_true, decide_eq_true_eq, onOtp_otp, onOtp_sup]
    exact ⟨get_set_self _ _ _, fun v hv => get_set_ne _ _ hv, trivial, trivial, trivial, trivial, trivial⟩
  · intro w k tag jtag data jdata s h
    refine ⟨_, rfl, ?_⟩
    simp only [h, burnStore, Option.isNone_some, Bool.false_or, Bool.and_eq_true, decide_eq_true_eq, onOtp_otp]
    exact ⟨get_set_self _ _ _, get_set_self _ _ _, trivial, trivial, trivial⟩
  · intro tag data s h
    show execOtpBurnInterrupt tag data s = _
    simp only [execOtpBurnInterrupt, h]
  · intro w tag jtag data jdata s h
    refine ⟨_, rfl, ?_⟩
    simp only [h, burnStore, onOtp_otp]
    exact ⟨get_set_self _ _ _, fun v hv => get_set_ne _ _ hv, trivial, trivial⟩
  · intro w seq data auth s hf hop hl hr hc
    refine ⟨_, congrArg Host.Outcome.next (svcRun_auth_free hf (.inr hop) hl), ?_⟩
    rw [svcBurn_starts hr hc]
    exact ⟨rfl, rfl, rfl, rfl, rfl⟩
  · intro w seq data auth s hf hop hl hr hc
    refine ⟨_, congrArg Host.Outcome.next (svcRun_auth_free hf (.inr hop) hl), ?_⟩
    rw [svcBurn_refused hr hc]
    exact ⟨rfl, rfl, rfl, rfl, rfl⟩
  · intro seq burn data auth s hf hop hl ha
    exact congrArg Host.Outcome.next (svcRun_auth_fails hf (.inr hop) hl ha)
  · intro seq w v auth s hf hop hl hr hok
    refine ⟨_, congrArg Host.Outcome.next (svcRun_auth_free hf (.inr hop) hl), ?_⟩
    rw [svcOverride_eq hr, if_pos hok, writeOverride_ok hok]
    exact ⟨rfl, rfl, get_set_self _ _ _, get_set_self _ _ _, fun j hj => get_set_ne _ _ hj, rfl, rfl⟩
  · intro seq w v auth s hf hop hl hr hok
    refine congrArg Host.Outcome.next ((svcRun_auth_free hf (.inr hop) hl).trans ?_)
    rw [svcOverride_eq hr, hok]
    rfl
  · intro seq w v auth s hf hop hl ha
    exact congrArg Host.Outcome.next (svcRun_auth_fails hf (.inr hop) hl ha)
  · intro seq bits auth s hf hop hl hr
    refine congrArg Host.Outcome.next ((svcRun_auth_free hf (.inr hop) hl).trans ?_)
    rw [svcSticky_runs hr]
    rfl
  · intro seq bits auth s hf hop hl hr
    refine ⟨_, congrArg Host.Outcome.next (svcRun_fresh hf (.inr hop)), ?_⟩
    rw [svcAuth_owned hl]
    split
    · rw [svcSticky_runs (s := onLcu (fun l => { l with nonce := none }) s) hr]
      exact ⟨rfl, rfl, rfl⟩
    · exact ⟨rfl, rfl, rfl⟩
  · intro seq code auth s hf hl hcode hr hallowed
    obtain ⟨w, hw, hstart⟩ := lifecycleStart_otp (lifecycle_lt_of_allowed hallowed)
    refine ⟨_, congrArg Host.Outcome.next (svcRun_auth_free hf (.inl rfl) hl), ?_⟩
    rw [svcLifecycle_starts hcode hr hallowed]
    have hotp : (svcAnswered 0x33 seq ([code, 0, 0, 0] ++ authBytes auth) (svcAccepted (lifecycleStart s)).status
        (svcAccepted (lifecycleStart s)).cause (svcAccepted (lifecycleStart s)).data
        (svcAccepted (lifecycleStart s)).state).otp = (lifecycleStart s).otp := rfl
    rw [hotp, hstart, ← hcode, BitVec.ofNat_toNat, BitVec.ofNat_toNat]
    exact ⟨rfl, rfl, by rw [Option.map_some, hw, hcode], rfl, rfl, rfl⟩
  · intro seq code auth s hf hl hcode
    refine congrArg Host.Outcome.next ((svcRun_auth_free hf (.inl rfl) hl).trans ?_)
    rw [svcLifecycle_badCode hcode]
    rfl
  · intro seq code auth s hf hl ha
    exact congrArg Host.Outcome.next (svcRun_auth_fails hf (.inl rfl) hl ha)
  · intro k s hc hj hp hop
    refine ⟨_, execLifecycleEraseDone_due hc hj, ?_⟩
    rw [lifecycleErased_nand]
    exact ⟨rfl, rfl, rfl, rfl, rfl, rfl, rfl, rfl, rfl, lifecycleErased_resets hp hop⟩
  · intro s h
    exact execLifecycleEraseDone_idle h

end Sys2Proof.Machine
end

section
/-!
PROOFS. Update transfers: BEGIN, DATA, END, ABORT and the blocks that fail (R383, R414 to R419).
-/

namespace Sys2Proof.Machine

/-! ## Frames of a transfer -/

theorem exec_svcBegin {seq target : Byte} {hdr : List Byte} (o : FlashOp) {s : State}
    (h : svcFresh 0x10 seq ([target, 0, 0, 0] ++ hdr) s = true) : exec (.svcBegin seq target hdr o) s =
      .next (svcAnswered 0x10 seq ([target, 0, 0, 0] ++ hdr) (svcBegin target hdr o s).status (svcBegin target hdr o s).cause
        (svcBegin target hdr o s).data (svcBegin target hdr o s).state) :=
  congrArg Host.Outcome.next (svcRun_fresh h (.inl rfl))

theorem exec_svcData {seq : Byte} {off : Word} {data : List Byte} (o : FlashOp) {s : State}
    (h : svcFresh 0x11 seq (le32 off ++ data) s = true) : exec (.svcData seq off data o) s =
      .next (svcAnswered 0x11 seq (le32 off ++ data) (svcData off data o s).status (svcData off data o s).cause
        (svcData off data o s).data (svcData off data o s).state) :=
  congrArg Host.Outcome.next (svcRun_fresh h (.inl rfl))

theorem exec_svcEnd {seq : Byte} {s : State} (h : svcFresh 0x12 seq [] s = true) : exec (.svcEnd seq) s =
    .next (svcAnswered 0x12 seq [] (svcEnd s).status (svcEnd s).cause (svcEnd s).data (svcEnd s).state) :=
  congrArg Host.Outcome.next (svcRun_fresh h (.inl rfl))

theorem exec_svcAbort {seq : Byte} {s : State} (h : svcFresh 0x14 seq [] s = true) : exec (.svcAbort seq) s =
    .next (svcAnswered 0x14 seq [] (svcAbort s).status (svcAbort s).cause (svcAbort s).data (svcAbort s).state) :=
  congrArg Host.Outcome.next (svcRun_fresh h (.inl rfl))

/-! ## Blocks that fail (R383) -/

section
variable {part : Nat} {high : Bool} {o : FlashOp} {s : State}

theorem flashOp_good (h : o.fails = false) : flashOp part high o s = noteWear o.wear s := by
  simp [flashOp, h]

/-- A failing block that nothing replaces takes its partition out of use. -/
theorem flashOp_leftOut (h : o.fails = true) (hf : s.nand.free = 0) (hl : s.nand.logN ≤ 64) :
    (flashOp part high o s).nand = s.nand.leftOut part high := by
  simp [flashOp, h, retireBlock_nand, hf, not_lt.2 hl]

/-- Otherwise, and while reserve blocks last, the operation changes no more of the flash than the count of those. -/
theorem flashOp_spared (h : o.fails = false ∨ 0 < s.nand.free) :
    ∃ k, (flashOp part high o s).nand = { s.nand with free := k } := by
  cases hf : o.fails with
  | false => exact ⟨s.nand.free, by rw [flashOp_good hf, noteWear_nand]⟩
  | true =>
    have hfree : 0 < s.nand.free := h.resolve_left (by simp [hf])
    exact ⟨s.nand.free - 1, by simp [flashOp, hf, retireBlock_nand, hfree]⟩

variable {ok : State → SvcOut}

theorem transferOp_goesOn (h : o.fails = false ∨ 0 < s.nand.free) :
    transferOp o ok s = ok (flashOp (targetPart s).1 (targetPart s).2 o s) := by
  have hend : (o.fails && irreplaceable s.nand) = false := by
    rcases h with h | h
    · rw [h]; rfl
    · simp [irreplaceable, Nat.ne_of_gt h]
  simp [transferOp, hend]

theorem transferOp_clean (h : o.fails = false) (hw : o.wear.toNat ≤ s.nvc.wear.maxw.toNat) : transferOp o ok s = ok s := by
  rw [transferOp_goesOn (.inl h), flashOp_clean _ _ _ _ h hw]

theorem transferOp_ends (h : o.fails = true) (hf : s.nand.free = 0) (hl : s.nand.logN ≤ 64) :
    transferOp o ok s = updateRefused 16 (endTransfer 0 16 (flashOp (targetPart s).1 (targetPart s).2 o s)) := by
  simp [transferOp, irreplaceable, h, hf, hl]

end

/-! ## BEGIN (R414 to R417) -/

section
variable {hdr : List Byte} {o : FlashOp} {s : State}

theorem svcBegin_badArg {target : Byte} (h : 1 < target.toNat ∨ headerWhole target hdr = false) :
    svcBegin target hdr o s = svcBadArg s := by
  have hb : (1 < target.toNat || !headerWhole target hdr) = true := by simpa using h
  exact if_pos hb

theorem headerWhole_config (h : hdr.length = 64) : headerWhole (1#8) hdr = true := by
  simp [headerWhole, h]

theorem svcBegin_barred (hw : hdr.length = 64) (hl : lifecycle s.otp = 0 ∨ lifecycle s.otp = 4) :
    svcBegin 1 hdr o s = svcNotAllowed s := by
  simp [svcBegin, headerWhole_config hw, hl]

theorem svcBegin_resumes (hw : headerWhole (0#8) hdr = true) (hst : s.lcu.state = 2 ∨ s.lcu.state = 4)
    (ht : s.lcu.target = false) (hh : s.lcu.header = hdr) :
    svcBegin 0 hdr o s = svcDone (le32 (BitVec.ofNat 32 s.lcu.rcvd)) s := by
  rcases hst with hst | hst <;> simp [svcBegin, hw, updateOpen, hst, ht, hh]

theorem svcBegin_busy (hw : headerWhole (0#8) hdr = true) (hopen : updateOpen s.lcu = true)
    (h : s.lcu.state = 5 ∨ s.lcu.target = true ∨ s.lcu.header ≠ hdr) : svcBegin 0 hdr o s = svcBusy s := by
  rcases h with h | h | h <;> simp [svcBegin, hw, hopen, h]

theorem svcBegin_badHeader (hw : headerWhole (0#8) hdr = true) (hopen : updateOpen s.lcu = false)
    (hc : headerCause false hdr s ≠ 0#5) : svcBegin 0 hdr o s = updateRefused (headerCause false hdr s) s := by
  simp [svcBegin, hw, hopen, hc]

/-- A firmware transfer begins in Recovery, whatever the flash holds. -/
theorem svcBegin_firmware (hw : headerWhole (0#8) hdr = true) (hopen : updateOpen s.lcu = false)
    (hc : headerCause false hdr s = 0) (hr : s.did.cond = .recovery) (hd : s.nand.deadBank = 0) :
    svcBegin 0 hdr o s = transferOp o svcAccepted (beginTransfer false hdr s) := by
  simp [svcBegin, hw, hopen, hc, inRecovery, hr, targetDead, hd]

/-- What a configuration transfer asks for before the update causes of Table 19.5 are looked at. -/
structure ConfigOffer (hdr : List Byte) (s : State) : Prop where
  whole : hdr.length = 64
  notBlank : lifecycle s.otp ≠ 0
  notReturned : lifecycle s.otp ≠ 4
  idle : updateOpen s.lcu = false
  header : headerCause true hdr s = 0

theorem svcBegin_configRefused (h : ConfigOffer hdr s) (hop : s.did.cond = .operation) (hu : updateCause s ≠ 0#5) :
    svcBegin 1 hdr o s = updateRefused (updateCause s) s := by
  simp [svcBegin, headerWhole_config h.whole, h.notBlank, h.notReturned, h.idle, h.header, inRecovery, hop, hu]

theorem svcBegin_configDead (h : ConfigOffer hdr s) (hr : s.did.cond = .recovery) (hg : partitionsGood s = true)
    (hd : targetDead true s = true) : svcBegin 1 hdr o s = updateRefused 16 s := by
  simp [svcBegin, headerWhole_config h.whole, h.notBlank, h.notReturned, h.idle, h.header, inRecovery, hr, hg, hd]

theorem svcBegin_config (h : ConfigOffer hdr s) (hu : s.did.cond = .recovery ∨ updateCause s = 0)
    (hd : s.nand.deadSlot = 0) : svcBegin 1 hdr o s = transferOp o svcAccepted (beginTransfer true hdr s) := by
  rcases hu with hu | hu <;>
    simp [svcBegin, headerWhole_config h.whole, h.notBlank, h.notReturned, h.idle, h.header, inRecovery, hu, targetDead, hd]

theorem eraseTarget_slot1 (h : s.lcu.cfgSlot = false) : eraseTarget true s = onNand (fun n => { n with slot1 := [] }) s := by
  simp [eraseTarget, h]

/-- An erasure leaves the count of the blocks and the marks of what is out of use. -/
theorem eraseTarget_blocks (cfg : Bool) (s : State) : (eraseTarget cfg s).nand.free = s.nand.free ∧
    (eraseTarget cfg s).nand.logN = s.nand.logN ∧ (eraseTarget cfg s).nand.deadSlot = s.nand.deadSlot := by
  cases cfg <;> cases hc : s.lcu.cfgSlot <;> cases ha : s.lcu.active <;> simp [eraseTarget, onBankAt, onNand, hc, ha]

theorem eraseTarget_lcu (cfg : Bool) (s : State) : (eraseTarget cfg s).lcu = s.lcu := by
  cases cfg <;> rfl

theorem eraseTarget_otp (cfg : Bool) (s : State) : (eraseTarget cfg s).otp = s.otp := by
  cases cfg <;> rfl

/-- `LCU_UPSTAT` and the counts as a transfer's acceptance leaves them. -/
def transferOpened (cfg : Bool) (hdr : List Byte) : State → State :=
  onLcu (fun l => { l with state := 2, target := cfg, abortLate := false, cause := 0, rcvd := 0, header := hdr })

/-- Where the flash needs no format the target alone is erased. -/
theorem beginTransfer_erases (cfg : Bool) (h : s.did.cond = .operation ∨ partitionsGood s = true) :
    beginTransfer cfg hdr s = transferOpened cfg hdr (eraseTarget cfg s) := by
  rcases h with h | h <;> simp [beginTransfer, transferOpened, inRecovery, h]

end

/-! ## DATA (R418) -/

section
variable {off : Word} {data : List Byte} {o : FlashOp} {s : State}

theorem svcData_notAllowed (h : s.lcu.state ≠ 2) : svcData off data o s = svcNotAllowed s := if_pos h

theorem svcData_badArg (h : s.lcu.state = 2) (hd : dataOk off.toNat data s = false) : svcData off data o s = svcBadArg s := by
  simp [svcData, h, hd]

theorem svcData_runs (h : s.lcu.state = 2) (hd : dataOk off.toNat data s = true) : svcData off data o s =
    transferOp o (fun s => svcDone [] (onLcu (fun l => { l with rcvd := l.rcvd + data.length }) (targetAppend data s))) s := by
  simp [svcData, h, hd]

theorem targetAppend_lcu (bs : List Byte) (s : State) : (targetAppend bs s).lcu = s.lcu := by
  unfold targetAppend
  split <;> rfl

theorem targetBytes_append (bs : List Byte) (s : State) : targetBytes (targetAppend bs s) = targetBytes s ++ bs := by
  cases ht : s.lcu.target <;> cases hc : s.lcu.cfgSlot <;> cases ha : s.lcu.active <;>
    simp [targetBytes, targetAppend, onBankAt, bankAt, onNand, ht, hc, ha]

/-- Appending leaves the log, the pointers, the settings and the bank that runs. -/
theorem targetAppend_rest (bs : List Byte) (s : State) :
    (targetAppend bs s).nand.settings = s.nand.settings ∧ (targetAppend bs s).nand.ptrs = s.nand.ptrs ∧
    (targetAppend bs s).nand.log = s.nand.log ∧ bankAt s.lcu.active (targetAppend bs s) = bankAt s.lcu.active s := by
  cases ht : s.lcu.target <;> cases hc : s.lcu.cfgSlot <;> cases ha : s.lcu.active <;>
    simp [targetAppend, onBankAt, bankAt, onNand, ht, hc, ha]

end

/-! ## END and ABORT (R416, R419) -/

section
variable {s : State}

/-- The cause that END finds for the transfer's target. -/
def endCause (s : State) : BitVec 5 :=
  if s.lcu.target then cfgEndCause s.otp s.lcu.header (targetBytes s) else fwEndCause s.otp s.lcu.header (targetBytes s)

theorem svcEnd_notAllowed (h : s.lcu.state ≠ 2) : svcEnd s = svcNotAllowed s := if_pos h

theorem svcEnd_badArg (h : s.lcu.state = 2) (hr : s.lcu.rcvd ≠ imgLen s) : svcEnd s = svcBadArg s := by
  simp [svcEnd, h, hr]

theorem svcEnd_whole (h : s.lcu.state = 2) (hr : s.lcu.rcvd = imgLen s) : svcEnd s =
    svcAccepted (if endCause s = 0 then transferReady s else endTransfer 0 (endCause s) s) := by
  have hs : svcEnd s = if endCause s = 0 then svcAccepted (transferReady s) else svcAccepted (endTransfer 0 (endCause s) s) := by
    unfold svcEnd
    rw [if_neg (not_not.2 h), if_neg (not_not.2 hr)]
    rfl
  rw [hs, apply_ite svcAccepted]

theorem bankAt_onBankAt_other (b : Bool) (f : FwBank → FwBank) (s : State) : bankAt b (onBankAt (!b) f s) = bankAt b s := by
  cases b <;> rfl

theorem transferReady_config (h : s.lcu.target = true) : (transferReady s).nand = s.nand := by
  simp [transferReady, h]

theorem transferReady_firmware (h : s.lcu.target = false) : transferReady s = onLcu (fun l => { l with state := 4, cause := 0 })
    (onBankAt (!s.lcu.active) (fun b => { b with st := 2, ver := imgWord s.lcu.header 16 }) s) := by
  simp [transferReady, h]

theorem svcAbort_ends (h : s.lcu.state = 2 ∨ s.lcu.state = 4) : svcAbort s = svcDone [] (endTransfer 0 0 s) := by
  rcases h with h | h <;> simp [svcAbort, h]

theorem svcAbort_late (h : s.lcu.state = 5 ∨ s.lcu.state = 6) :
    svcAbort s = svcNotAllowed (onLcu (fun l => { l with abortLate := true }) s) := by
  rcases h with h | h <;> simp [svcAbort, h]

theorem svcAbort_notAllowed (h : s.lcu.state = 0 ∨ s.lcu.state = 7) : svcAbort s = svcNotAllowed s := by
  rcases h with h | h <;> simp [svcAbort, h]

end

/-- Settles O59. -/
theorem updateTransfer : Obligations.UpdateTransfer := by
  unfold Obligations.UpdateTransfer
  refine ⟨?_, ?_, ?_, ?_, ?_, ?_, ?_, ?_, ?_, ?_, ?_, ?_, ?_, ?_, ?_, ?_, ?_, ?_, ?_, ?_, ?_, ?_, ?_⟩
  · intro seq target hdr o s hf h
    rw [exec_svcBegin o hf, svcBegin_badArg h]
    rfl
  · intro seq hdr o s hf hw hl
    rw [exec_svcBegin o hf, svcBegin_barred hw hl]
    rfl
  · intro seq hdr o s hf hw hst ht hh
    rw [exec_svcBegin o hf, svcBegin_resumes hw hst ht hh]
    rfl
  · intro seq hdr o s hf hw hopen h
    rw [exec_svcBegin o hf, svcBegin_busy hw hopen h]
    rfl
  · intro seq hdr o s hf hw hopen hc
    rw [exec_svcBegin o hf, svcBegin_badHeader hw hopen hc]
    rfl
  · intro seq hdr o s hf hw h0 h4 hopen hc hop hu
    rw [exec_svcBegin o hf, svcBegin_configRefused ⟨hw, h0, h4, hopen, hc⟩ hop hu]
    rfl
  · intro seq hdr o s hf hw h0 h4 hopen hc hgood hu hslot hd hfails hwear
    rw [exec_svcBegin o hf, svcBegin_config ⟨hw, h0, h4, hopen, hc⟩ hu hd, beginTransfer_erases true hgood,
      eraseTarget_slot1 hslot,
      transferOp_clean (s := transferOpened true hdr (onNand _ s)) hfails hwear]
    rfl
  · intro seq hdr o s hf hw h0 h4 hopen hc hr hg hd hfree hlog hfails
    refine ⟨_, exec_svcBegin o hf, ?_⟩
    obtain ⟨hfree', hlog', hdead'⟩ := eraseTarget_blocks true s
    rw [svcBegin_config ⟨hw, h0, h4, hopen, hc⟩ (.inl hr) hd, beginTransfer_erases true (.inr hg),
      transferOp_ends (s := transferOpened true hdr (eraseTarget true s)) hfails (hfree'.trans hfree) (hlog'.trans_le hlog)]
    refine ⟨rfl, rfl, rfl, rfl, ?_, ?_⟩
    · exact (flashOp_otp _ _ _ _).trans (eraseTarget_otp true s)
    · refine (congrArg Nand.deadSlot (flashOp_leftOut (s := transferOpened true hdr (eraseTarget true s)) hfails
        (hfree'.trans hfree) (hlog'.trans_le hlog))).trans ?_
      show (eraseTarget true s).nand.deadSlot ||| (if !(eraseTarget true s).lcu.cfgSlot then 2 else 1) = _
      rw [hdead', hd, eraseTarget_lcu]
      cases s.lcu.cfgSlot <;> rfl
  · intro seq hdr o s hf hw hopen hr hd hfails
    have hcause : headerCause false hdr s = fwHeaderCause s.otp none hdr := by simp [headerCause, inRecovery, hr]
    refine ⟨_, exec_svcBegin o hf, ?_⟩
    by_cases hc : fwHeaderCause s.otp none hdr = 0
    · rw [svcBegin_firmware hw hopen (hcause.trans hc) hr hd, transferOp_goesOn (.inl hfails), if_pos hc, if_pos hc, hc]
      have hlcu := flashOp_lcu (targetPart (beginTransfer false hdr s)).1 (targetPart (beginTransfer false hdr s)).2 o
        (beginTransfer false hdr s)
      exact ⟨rfl, congrArg Lcu.state hlcu, congrArg Lcu.cause hlcu⟩
    · rw [svcBegin_badHeader hw hopen (by rwa [hcause]), hcause, if_neg hc, if_neg hc]
      exact ⟨rfl, rfl, rfl⟩
  · intro seq hdr o s hf hw h0 h4 hopen hc hr hg hslot hd
    have hdead : targetDead true s = true := by simp [targetDead, hslot, hd]
    rw [exec_svcBegin o hf, svcBegin_configDead ⟨hw, h0, h4, hopen, hc⟩ hr hg hdead]
    rfl
  · intro seq off data o s hf h
    rw [exec_svcData o hf, svcData_notAllowed h]
    rfl
  · intro seq off data o s hf h hd
    rw [exec_svcData o hf, svcData_badArg h hd]
    rfl
  · intro seq off data o s hf h hd hfree hlog ht ha hfails
    refine ⟨_, exec_svcData o hf, ?_⟩
    have hpart : targetPart s = (3, false) := by simp [targetPart, ht, ha]
    have hnand := flashOp_leftOut (part := 3) (high := false) hfails hfree hlog
    rw [svcData_runs h hd, transferOp_ends hfails hfree hlog, hpart]
    exact ⟨rfl, rfl, rfl, rfl, rfl, congrArg (fun n => n.bank1.st) hnand, congrArg Nand.deadBank hnand,
      congrArg (fun n => n.bank1.content) hnand⟩
  · intro seq off data o s hf h hd hgood
    refine ⟨_, exec_svcData o hf, ?_⟩
    rw [svcData_runs h hd, transferOp_goesOn hgood]
    obtain ⟨k, hnand⟩ := flashOp_spared (part := (targetPart s).1) (high := (targetPart s).2) hgood
    have hlcu := flashOp_lcu (targetPart s).1 (targetPart s).2 o s
    generalize flashOp (targetPart s).1 (targetPart s).2 o s = u at hnand hlcu
    obtain ⟨hset, hptrs, hlog, hbank⟩ := targetAppend_rest data u
    have hbytes : targetBytes u = targetBytes s := by simp [targetBytes, bankAt, hlcu, hnand]
    have hsame : bankAt s.lcu.active u = bankAt s.lcu.active s := by simp [bankAt, hnand]
    have hkeep : (targetAppend data u).lcu = s.lcu := (targetAppend_lcu data u).trans hlcu
    refine ⟨rfl, ?_, ?_, ?_, ?_, ?_, ?_, ?_, ?_⟩
    · exact (targetBytes_append data u).trans (by rw [hbytes])
    · show (targetAppend data u).lcu.rcvd + data.length = _
      rw [hkeep]
    · exact (congrArg Lcu.state hkeep).trans h
    · show (targetAppend data u).lcu.header = _
      rw [hkeep]
    · exact hset.trans (by rw [hnand])
    · exact hptrs.trans (by rw [hnand])
    · exact hlog.trans (by rw [hnand])
    · rw [hlcu, hsame] at hbank
      exact hbank
  · intro seq s hf h
    rw [exec_svcEnd hf, svcEnd_notAllowed h]
    rfl
  · intro seq s hf h hr
    rw [exec_svcEnd hf, svcEnd_badArg h hr]
    rfl
  · intro seq s hf h hr ht
    refine ⟨_, exec_svcEnd hf, ?_⟩
    have hc : endCause s = cfgEndCause s.otp s.lcu.header (targetBytes s) := if_pos ht
    rw [svcEnd_whole h hr, ← hc]
    refine ⟨rfl, ?_⟩
    split
    · next h0 => exact ⟨h0.symm, rfl, transferReady_config ht⟩
    · exact ⟨rfl, rfl, rfl⟩
  · intro seq s hf h hr ht
    refine ⟨_, exec_svcEnd hf, ?_⟩
    have hc : endCause s = fwEndCause s.otp s.lcu.header (targetBytes s) := if_neg (by simp [ht])
    rw [svcEnd_whole h hr, ← hc]
    refine ⟨rfl, ?_⟩
    split
    · next h0 =>
      rw [transferReady_firmware ht]
      refine ⟨h0.symm, rfl, ?_, ?_⟩
      · exact congrArg FwBank.st (bankAt_onBankAt (!s.lcu.active) (fun b => { b with st := 2, ver := imgWord s.lcu.header 16 }) s)
      · exact bankAt_onBankAt_other s.lcu.active (fun b => { b with st := 2, ver := imgWord s.lcu.header 16 }) s
    · exact ⟨rfl, rfl, rfl, rfl⟩
  · intro seq s hf h
    rw [exec_svcAbort hf, svcAbort_ends h]
    rfl
  · intro seq s hf h
    rw [exec_svcAbort hf, svcAbort_late h]
    rfl
  · intro seq s hf h
    rw [exec_svcAbort hf, svcAbort_notAllowed h]
    rfl
  · intro s h
    show Host.Outcome.next (if s.lcu.state = 2 || s.lcu.state = 4 then endTransfer 0 s.lcu.cause s else s) = _
    rw [if_pos (by simpa using h)]
    rfl
  · intro s h2 h4
    show Host.Outcome.next (if s.lcu.state = 2 || s.lcu.state = 4 then endTransfer 0 s.lcu.cause s else s) = _
    rw [if_neg (by rw [decide_eq_false h2, decide_eq_false h4]; exact Bool.false_ne_true)]

end Sys2Proof.Machine
end

section
/-!
PROOFS. Bursts that reach memory, registers or a refusal, the apply of a map, and error correction (R320 to R334).
-/

namespace Sys2Proof.Machine

/-! ## Memory after a word is written -/

/-- A byte of a block reads as written. -/
theorem memGet_memPut_at (bs : List Byte) {a i : Nat} {m : List Host.Cell} (hm : Memory.wf m = true) (hi : i < bs.length) :
    memGet (memPut a bs m) (a + i) = bs.getD i 0 := by
  induction bs generalizing a i m with
  | nil => exact absurd hi (Nat.not_lt_zero i)
  | cons b bs ih =>
    cases i with
    | zero =>
      rw [memPut, memGet_memPut bs (.inl (by omega))]
      exact memGet_memSet_self a b m hm
    | succ i =>
      rw [memPut, show a + (i + 1) = a + 1 + i by omega, ih (wf_memSet a b hm) (by simpa using hi)]
      rfl

theorem readByte_writeMemWord {a i : Nat} (w : Word) {s : State} (hs : s.memOk = true) (ha : inRam a = true)
    (hi : i < 4) (hai : inRam (a + i) = true) :
    readByte (writeMemWord a w s) (a + i) = [byteOf w 0, byteOf w 1, byteOf w 2, byteOf w 3].getD i 0 := by
  rw [writeMemWord, if_pos ha, readByte, if_pos hai]
  exact memGet_memPut_at _ hs hi

/-- System SRAM and the profile table. -/
theorem inRam_iff (a : Nat) :
    inRam a = true ↔ (0x10000000 ≤ a ∧ a < 0x10100000) ∨ (0x50000000 ≤ a ∧ a < 0x50020000) := by
  simp only [inRam, Bool.or_eq_true, Bool.and_eq_true, decide_eq_true_eq]
  rfl

theorem isReg_iff (a : Nat) : isReg a = true ↔ 0x40000000 ≤ a ∧ a < 0x40030000 := by
  simp only [isReg, Bool.and_eq_true, decide_eq_true_eq]
  rfl

/-- Memory ends at a word's end. -/
theorem inRam_word {a : Nat} (h4 : a % 4 = 0) (h : inRam a = true) {i : Nat} (hi : i < 4) : inRam (a + i) = true := by
  rw [inRam_iff] at h ⊢
  omega

theorem word_of_bytes (w : Word) : byteOf w 3 ++ byteOf w 2 ++ byteOf w 1 ++ byteOf w 0 = w := by
  apply BitVec.eq_of_getLsbD_eq
  intro i hi
  simp only [byteOf, getField, BitVec.getLsbD_append, BitVec.getLsbD_extractLsb']
  split
  · next h => simp [h]
  · split
    · next h => simp [h, show 8 + (i - 8) = i by omega]
    · split
      · next h => simp [h, show 16 + (i - 8 - 8) = i by omega]
      · simp [show i - 8 - 8 - 8 < 8 by omega, show 24 + (i - 8 - 8 - 8) = i by omega]

theorem readMemWord_writeMemWord {a : Nat} (w : Word) {s : State} (hs : s.memOk = true) (h4 : a % 4 = 0)
    (ha : inRam a = true) : readMemWord (writeMemWord a w s) a = w := by
  have h0 := readByte_writeMemWord w hs ha (i := 0) (by decide) ha
  rw [Nat.add_zero] at h0
  rw [readMemWord, h0, readByte_writeMemWord w hs ha (by decide) (inRam_word h4 ha (by decide)),
    readByte_writeMemWord w hs ha (by decide) (inRam_word h4 ha (by decide)),
    readByte_writeMemWord w hs ha (by decide) (inRam_word h4 ha (by decide))]
  exact word_of_bytes w

/-! ## Bursts of one word (R320, R333) -/

theorem isReg_of_inRam {a : Nat} (h : inRam a = true) : isReg a = false := by
  rw [← Bool.not_eq_true, isReg_iff]
  rw [inRam_iff] at h
  omega

/-- Where no slice changes, none starts or stops, and no stagger phase moves. -/
theorem spreading_of_slices {f : State → State} {s : State} (h : (f s).slices = s.slices) : spreading f s = f s := by
  have hgroups (g : Nat) : groupRunning s g = groupRunning (f s) g := by simp only [groupRunning, State.slice, h]
  unfold spreading
  dsimp only
  split
  · rfl
  · simp [hgroups]

theorem writeMemWord_eq (a : Nat) (w : Word) (s : State) : ∃ m, writeMemWord a w s = { s with mem := m } := by
  unfold writeMemWord
  split
  · exact ⟨_, rfl⟩
  · exact ⟨s.mem, rfl⟩

/-- A word of memory, written by a burst that the map lets through. -/
theorem burstWrite_ram {q : Requester} {a : Nat} {s : State} (ha : inRam a = true) (hm : mapAllows q a .write s = true)
    (w : Word) : (burstWrite q a [w] s).1 = grantEnd (writeMemWord a w (grantTo q s)) := by
  have hword : writeWord q a w = writeMemWord a w := by
    funext u
    rw [writeWord, isReg_of_inRam ha]
    rfl
  obtain ⟨m, hmem⟩ := writeMemWord_eq a w (grantTo q s)
  rw [burstWrite_one hm, hword, spreading_of_slices (by rw [hmem])]

theorem burstWrite_refused {q : Requester} {a : Nat} {s : State} (hm : mapAllows q a .write s = false) (w : Word) :
    burstWrite q a [w] s = (grantEnd (fabricFault q a 1 true (grantTo q s)), false) := by
  have hmap : mapAllows q a .write (grantTo q s) = false := hm
  have hsome : refusedBeat q (burstBeats a [w]) (grantTo q s) = some a := by
    rw [refusedBeat, show burstBeats a [w] = [(a, w)] from rfl, List.find?_cons_of_pos (by simp [hmap])]; rfl
  simp only [burstWrite, hsome]

/-! ## REGISTER_WRITE, MAP_APPLY and ECC_CORRECTION -/

theorem exec_registerWrite {q : Requester} {a : Word} {s : State} (hr : requesterRuns q s = true) (h4 : a.toNat % 4 = 0)
    (w : Word) : exec (.registerWrite q a w) s = .next (burstWrite q a.toNat [w] s).1 :=
  congrArg Host.Outcome.next (if_pos (by rw [hr, h4]; rfl))

theorem exec_registerWrite_idle {q : Requester} {a : Word} {s : State} (h : requesterRuns q s = false ∨ a.toNat % 4 ≠ 0)
    (w : Word) : exec (.registerWrite q a w) s = .next s :=
  congrArg Host.Outcome.next (if_neg (by rcases h with h | h <;> simp [h]))

/-- A write of `SUP_THR_MAIN`: the register takes the fields that the lock of its block leaves open (R5). -/
theorem burstWrite_thrMain (w : Word) (s : State) : (burstWrite .warden 0x40020010 [w] s).1 =
    grantEnd (onSup (fun u => { u with thrMain := u.thrMain.put s.sup.lock.cfgLk w }) (grantTo .warden s)) := by
  have hmap : mapAllows .warden 0x40020010 .write s = true := rfl
  have hword : writeWord .warden 0x40020010 w (grantTo .warden s) =
      onSup (fun u => { u with thrMain := u.thrMain.put s.sup.lock.cfgLk w }) (grantTo .warden s) := rfl
  rw [burstWrite_one hmap, spreading_of_slices (by rw [hword]; rfl), hword]

theorem supThr_put_locked (r : SupThr) (w : Word) : r.put true w = r := rfl

/-- A beat at fault, in the registers of the fabric and as event 212 (R333). -/
theorem fabricFault_fab (q : Requester) (a : Nat) (c : BitVec 2) (wr : Bool) (s : State) : (fabricFault q a c wr s).fab =
    { s.fab with flt0 := BitVec.ofNat 32 a, flt1 := { req := reqIndex q, cause := c, write := wr, count := satInc s.fab.flt1.count } } :=
  globalEvent_fab _ _ _ _

theorem fabricFault_raised (q : Requester) (a : Nat) (c : BitVec 2) (wr : Bool) (s : State) :
    (fabricFault q a c wr s).eva.raised 212 = true := globalEvent_raised _ _ _ _ (by decide)

/-- A fault of a DMA channel, with the address of its beat (R338). -/
theorem dmaFault_dma (c : Fin 16) (k : BitVec 3) (wr : Bool) (a : Nat) (s : State) : (dmaFault c k wr (some a) s).dma =
    updAt s.dma c (fun x => { x with stat := { x.stat with state := 5, cause := k, write := wr }, faddr := BitVec.ofNat 32 a }) :=
  globalEvent_dma _ _ _ _

theorem dmaFault_raised (c : Fin 16) (k : BitVec 3) (wr : Bool) (a : Option Nat) (s : State) :
    (dmaFault c k wr a s).eva.raised 214 = true := globalEvent_raised _ _ _ _ (by decide)

/-- Two wrong bits in a word that is read, counted. -/
def eccUncorrected (s : State) : State :=
  { s with fab := { s.fab with ecc := { s.fab.ecc with uncorr := satInc s.fab.ecc.uncorr } } }

theorem exec_eccCorrection_policy {a : Word} {s : State} (ha : inRam a.toNat = true) :
    exec (.eccCorrection .policy a true) s = .next (fabricFault .policy a.toNat 2 false (eccUncorrected s)) :=
  congrArg Host.Outcome.next (if_neg (by simp [ha]))

theorem exec_eccCorrection_dma {c : Fin 16} {a : Word} {s : State} (ha : inRam a.toNat = true)
    (hr : (s.dma.get c).stat.state = 2) :
    exec (.eccCorrection (.dma c) a true) s = .next (dmaFault c 2 false (some a.toNat) (eccUncorrected s)) :=
  congrArg Host.Outcome.next ((if_neg (by simp [ha])).trans (if_pos hr))

/-- Settles O53. -/
theorem fabricAndDma : Obligations.FabricAndDma := by
  unfold Obligations.FabricAndDma
  refine ⟨?_, ?_, ?_, ?_, ?_, ?_, ?_, ?_, ?_, ?_⟩
  · intro q a w s hs hr h4 ha hm
    refine ⟨_, exec_registerWrite hr h4 w, ?_⟩
    rw [burstWrite_ram ha hm]
    obtain ⟨m, hmem⟩ := writeMemWord_eq a.toNat w (grantTo q s)
    refine ⟨readMemWord_writeMemWord w (s := grantTo q s) hs h4 ha, fun a' h' => readByte_writeMemWord_ne w _ h', ?_⟩
    rw [hmem]
    exact ⟨rfl, rfl, rfl⟩
  · intro q a w s hr h4 hm
    refine ⟨_, exec_registerWrite hr h4 w, ?_⟩
    rw [burstWrite_refused hm]
    have hfab := fabricFault_fab q a.toNat 1 true (grantTo q s)
    rw [BitVec.ofNat_toNat, BitVec.setWidth_eq] at hfab
    exact ⟨globalEvent_mem _ _ _ _, globalEvent_slices _ _ _ _, globalEvent_sup _ _ _ _, congrArg Fab.flt0 hfab,
      congrArg Fab.flt1 hfab, fabricFault_raised _ _ _ _ _⟩
  · intro w s hr hlk
    refine ⟨_, exec_registerWrite (q := .warden) hr (by decide) w, ?_⟩
    have hword : (0x40020010 : Word).toNat = 0x40020010 := rfl
    rw [hword, burstWrite_thrMain, hlk]
    exact ⟨rfl, rfl⟩
  · intro w s hr hlk
    refine ⟨_, exec_registerWrite (q := .warden) hr (by decide) w, ?_⟩
    have hword : (0x40020010 : Word).toNat = 0x40020010 := rfl
    rw [hword, burstWrite_thrMain, hlk]
    exact ⟨rfl, rfl⟩
  · intro q a w s h
    exact exec_registerWrite_idle h w
  · intro s
    have hfab : (mapApply s).fab = { s.fab with active := s.fab.pend, dirty := false, seq := s.fab.seq + 1 } :=
      globalEvent_fab _ _ _ _
    exact ⟨mapApply s, rfl, congrArg Fab.active hfab, congrArg Fab.dirty hfab, congrArg Fab.seq hfab,
      (congrArg Fab.pend hfab).trans rfl,
      globalEvent_raised _ _ _ _ (by decide), globalEvent_mem _ _ _ _⟩
  · intro q a double s ha
    exact congrArg Host.Outcome.next (if_pos (by rw [ha]; rfl))
  · intro q a s ha
    exact congrArg Host.Outcome.next ((if_neg (by simp [ha])).trans (if_pos rfl))
  · intro a s ha
    have hfab := fabricFault_fab .policy a.toNat 2 false (eccUncorrected s)
    rw [BitVec.ofNat_toNat, BitVec.setWidth_eq] at hfab
    exact ⟨_, exec_eccCorrection_policy ha, congrArg (fun f => f.ecc.uncorr) hfab, congrArg Fab.flt0 hfab,
      congrArg Fab.flt1 hfab, fabricFault_raised _ _ _ _ _, globalEvent_mem _ _ _ _⟩
  · intro c a s ha hr
    refine ⟨_, exec_eccCorrection_dma ha hr, ?_⟩
    rw [dmaFault_dma, BitVec.ofNat_toNat, BitVec.setWidth_eq]
    refine ⟨?_, ?_, ?_, fun j hj => get_updAt_ne _ _ hj, dmaFault_raised _ _ _ _ _⟩
    all_goals rw [get_updAt_self]

end Sys2Proof.Machine
end

section
/-!
PROOFS. Bursts of the host bridges, and writes over a memory that is not in its canonical form (R302, R312).
-/

namespace Sys2Proof.Machine

/-! ## One staged word (R302, R320) -/

theorem burstWrite_accepted {q : Requester} {a : Nat} {s : State} (h : mapAllows q a .write s = true) (w : Word) :
    burstWrite q a [w] s = (grantEnd (spreading (writeWord q a w) (grantTo q s)), true) := by
  refine Prod.ext (burstWrite_one h w) ?_
  have hmap : mapAllows q a .write (grantTo q s) = true := h
  have hnone : refusedBeat q (burstBeats a [w]) (grantTo q s) = none := by
    rw [refusedBeat, show burstBeats a [w] = [(a, w)] from rfl, List.find?_cons_of_neg (by simp [hmap])]; rfl
  simp only [burstWrite, hnone]

/-- What a bank shows after one word of a burst is committed. -/
def HstBank.committed (a : Nat) (data : List Byte) (w : Word) (b : HstBank) : HstBank :=
  { b with result := 1, cause := 0, ptr := a + 4, lastwr := BitVec.ofNat 32 a, lastwd := w, lastwn := { count := 1, dcrc := crc8 data } }

theorem hostCommit_word {d : Domain} {a : Nat} {data : List Byte} {w : Word} {s : State} (hw : bytesWords data = [w])
    (hm : mapAllows (domReq d) a .write s = true) : hostCommit d a data s =
      onHst d (HstBank.committed a data w) (grantEnd (spreading (writeWord (domReq d) a w) (grantTo (domReq d) s))) := by
  simp only [hostCommit, hw, burstWrite_accepted hm]
  rfl

theorem writeWord_ram {q : Requester} {a : Nat} (ha : inRam a = true) (w : Word) : writeWord q a w = writeMemWord a w := by
  funext u
  rw [writeWord, isReg_of_inRam ha]
  rfl

/-- To memory, the burst leaves the word there and the outcome in the bank. -/
theorem hostCommit_ram {d : Domain} {a : Nat} {data : List Byte} {w : Word} {s : State} (hw : bytesWords data = [w])
    (ha : inRam a = true) (hm : mapAllows (domReq d) a .write s = true) : hostCommit d a data s =
      onHst d (HstBank.committed a data w) (grantEnd (writeMemWord a w (grantTo (domReq d) s))) := by
  obtain ⟨m, hmem⟩ := writeMemWord_eq a w (grantTo (domReq d) s)
  rw [hostCommit_word hw hm, writeWord_ram ha, spreading_of_slices (by rw [hmem])]

theorem hostCommit_refused {d : Domain} {a : Nat} {data : List Byte} {w : Word} {s : State} (hw : bytesWords data = [w])
    (hm : mapAllows (domReq d) a .write s = false) : hostCommit d a data s =
      hostDiscard d 7 false (grantEnd (fabricFault (domReq d) a 1 true (grantTo (domReq d) s))) := by
  simp only [hostCommit, hw, burstWrite_refused hm]

/-! ## A memory that lists an address twice

The clauses of O50 and O51 on a committed burst do not ask for the canonical form of the memory, so they speak of lists that
hold an address twice too. A zero written there takes one entry away, and the other is still read. -/

/-- Address 0x10000000 stands twice, each time with the byte 1. -/
def doubledMemory : List Host.Cell := [(0x10000000, 1), (0x10000000, 1)]

/-- Both hosts are enabled, each may write system SRAM, and the memory is `doubledMemory`. -/
def doubledState : State :=
  { State.reset with
    cyc.running := true, hst.cfg.aEn := true, hst.cfg.bEn := true, mem := doubledMemory
    fab.active := Vector.ofFn (fun _ => Vector.ofFn (fun i => if i.val = 0 then mkWindow 0x10000000 20 true true else {})) }

theorem doubledState_allows (d : Domain) : mapAllows (domReq d) 0x10000000 .write doubledState = true := by
  cases d <;> decide

/-- Four zero bytes are written over it, and its first byte still reads 1. -/
theorem hostCommit_doubled (d : Domain) : readByte (hostCommit d 0x10000000 [0, 0, 0, 0] doubledState) 0x10000000 = 1 := by
  have hmem : (hostCommit d 0x10000000 [0, 0, 0, 0] doubledState).mem = memPut 0x10000000 [0, 0, 0, 0] doubledMemory := by
    rw [hostCommit_ram (w := 0) (by decide) (by decide) (doubledState_allows d)]
    cases d <;> rfl
  rw [readByte, hmem]
  decide

/-- Refutes O50: domain A writes four zero bytes at 0x10000000, which the memory lists twice; the first byte reads 1. -/
theorem not_twoWireTarget : ¬ Obligations.TwoWireTarget := by
  intro h
  obtain ⟨-, -, -, -, -, -, hcommit, -⟩ := h
  obtain ⟨t, ht, -, -, -, hbytes, -⟩ := hcommit { addr := 0x10000000, count := 0, data := [0, 0, 0, 0], pec := none } doubledState
    (by decide) (by decide) (by decide) (by decide) (by decide) (by decide) (by decide)
  have hrun : t = hostCommit .a 0x10000000 [0, 0, 0, 0] doubledState := by
    injection ht with ht
    exact ht.symm
  have hread := hbytes 0 (by decide) (by decide)
  rw [hrun] at hread
  exact absurd ((hostCommit_doubled .a).symm.trans hread) (by decide)

/-- Refutes O51: domain B writes four zero bytes at 0x10000000, which the memory lists twice; the first byte reads 1. -/
theorem not_spiTarget : ¬ Obligations.SpiTarget := by
  intro h
  obtain ⟨-, -, -, -, hcommit, -⟩ := h
  obtain ⟨t, ht, -, -, -, hbytes, -⟩ := hcommit { addr := 0x10000000, data := [0, 0, 0, 0], insideByte := false } doubledState
    (by decide) (by decide) (by decide) (by decide) (by decide) (by decide) (by decide) (by decide) (by decide)
  have hrun : t = hostCommit .b 0x10000000 [0, 0, 0, 0] doubledState := by
    injection ht with ht
    exact ht.symm
  have hread := hbytes 0 (by decide) (by decide)
  rw [hrun] at hread
  exact absurd ((hostCommit_doubled .b).symm.trans hread) (by decide)

end Sys2Proof.Machine
end

section
/-!
PROOFS. Frames of the service port: the line, HELLO and STATUS, register access, MAILBOX and RESET (R405 to R410).
-/

namespace Sys2Proof.Machine

/-! ## Words as bytes (R3) -/

theorem byteOf_eq (w : Word) (i : Nat) : byteOf w i = (w >>> (8 * i)).setWidth 8 := by
  ext j hj
  simp [byteOf, getField]

/-- Words sent as bytes are the same words received. -/
theorem bytesWords_wordBytes (ws : List Word) : bytesWords (wordBytes ws) = ws := by
  induction ws with
  | nil => rfl
  | cons w ws ih =>
    have hw : (w >>> 24).setWidth 8 ++ (w >>> 16).setWidth 8 ++ (w >>> 8).setWidth 8 ++ w.setWidth 8 = w := by
      simpa [byteOf_eq] using word_of_bytes w
    show ((w >>> 24).setWidth 8 ++ (w >>> 16).setWidth 8 ++ (w >>> 8).setWidth 8 ++ w.setWidth 8) :: bytesWords (wordBytes ws) = _
    rw [ih, hw]

theorem hostAddr_of_lt {a : Word} (h : a.toNat < 2 ^ 31) : hostAddr a = a.toNat := Nat.mod_eq_of_lt h

/-! ## Reads of one word (R304, R333) -/

section
variable {q : Requester} {d : Domain} {a : Nat} {s : State}

theorem beatRead_refused (h : mapAllows q a .read s = false) : beatRead q a s = (fabricFault q a 1 false s, none) := by
  simp [beatRead, peekBeat, h]

theorem beatRead_ok (h : mapAllows q a .read s = true) (hn : nandBad q a s = false) :
    beatRead q a s = (afterBeat a s, some (fabricWord q a s)) := by
  simp [beatRead, peekBeat, h, hn]

/-- The flash's windows are not open to a bridge, so no beat of one meets an uncorrectable sector (R403). -/
theorem nandBad_of_bridge (h : mapAllows (domReq d) a .read s = true) : nandBad (domReq d) a s = false := by
  by_contra hb
  have hwin : isNandWindow a = true := by
    simp only [nandBad, Bool.not_eq_false, Bool.and_eq_true, decide_eq_true_eq] at hb
    simp [isNandWindow, hb.1.1]
  have hcore : isCoreSide (domReq d) s = false := by cases d <;> rfl
  simp [mapAllows, hwin, hcore] at h

/-- A word delivered whole leaves an apply beat due where its read has a side effect (R328). -/
def delivered (d : Domain) (a : Nat) (s : State) : State :=
  if sideEffectBeat (domReq d) a s then
    onHst d (fun b => { b with applies := b.applies ++ [(a, (evrBank (bankOf (domReq d) s) s).cur)] }) s
  else s

variable {r : HostRead}

theorem hostReadRun_word (hb : r.bytes = 4) (hl : r.lateAt = none) (h : mapAllows (domReq d) a .read s = true) :
    hostReadRun d a 4 r s =
      { state := grantEnd (delivered d a (afterBeat a (grantTo (domReq d) s)))
        bytes := le32 (fabricWord (domReq d) a (grantTo (domReq d) s)) } := by
  have hmap : mapAllows (domReq d) a .read (grantTo (domReq d) s) = true := h
  have hbeat := beatRead_ok hmap (nandBad_of_bridge hmap)
  simp [hostReadRun, hb, hl, readBeats, readPart, hbeat, delivered]

theorem hostReadRun_refused (hb : r.bytes = 4) (hl : r.lateAt = none) (h : mapAllows (domReq d) a .read s = false) :
    hostReadRun d a 4 r s =
      { state := grantEnd (fabricFault (domReq d) a 1 false (grantTo (domReq d) s))
        bytes := [0xFF, 0xFF, 0xFF, 0xFF], refused := true } := by
  have hbeat := beatRead_refused (q := domReq d) (a := a) (s := grantTo (domReq d) s) h
  simp [hostReadRun, hb, hl, readBeats, readPart, hbeat]

end

/-! ## REG_READ and REG_WRITE (R302, R304) -/

section
variable {seq : Byte} {a : Word} {s : State}

/-- A frame that is executed leaves no request of domain S pending, and outside an activation the bridge is free. -/
theorem hostBusy_of_fresh {cmd : Byte} {pl : List Byte} (h : svcFresh cmd seq pl s = true) (hp : s.lcu.paused = false) :
    hostBusy .s s = false := by
  simp [svcFresh] at h
  obtain ⟨-, hpend⟩ := h
  simp [hostBusy, hp, hpend]

theorem mbPending_of_fresh {cmd : Byte} {pl : List Byte} (h : svcFresh cmd seq pl s = true) : mbPending .s s = false := by
  simp [svcFresh] at h
  exact h.2

theorem exec_svcRegRead (h : svcFresh 0x20 seq (le32 a ++ [1]) s = true) (hop : s.did.cond = .operation) :
    exec (.svcRegRead seq a 1) s = .next (svcAnswered 0x20 seq (le32 a ++ [1]) (svcRegRead a 1 s).status
      (svcRegRead a 1 s).cause (svcRegRead a 1 s).data (svcRegRead a 1 s).state) :=
  congrArg Host.Outcome.next (svcRun_fresh h (.inr hop))

theorem svcRegRead_unaligned (h4 : a.toNat % 4 ≠ 0) : svcRegRead a 1 s = svcBadArg s := by
  simp [svcRegRead, h4]

/-- What the bridge of domain S is asked for by a REG_READ of one word. -/
def oneWord (a : Word) : HostRead := { addr := some a, count := 1, bytes := 4, lateAt := none }

/-- The bank of domain S after a read of one word that the map lets through, or refuses. -/
theorem finishRead_bank (u : State) (n : Nat) (bs : List Byte) (hb : bs.length = 4) (refused : Bool) :
    let t := finishRead .s n [] (oneWord a) { state := u, bytes := bs, refused := refused }
    t.hst.s.sent = bs ∧ t.hst.s.result = 2 ∧ t.hst.s.cause = (if refused then 7 else 0) ∧ t.eva = u.eva ∧ t.mem = u.mem := by
  cases refused <;> simp [finishRead, oneWord, onHst, hostEvent, hb]

theorem svcRegRead_word (h4 : a.toNat % 4 = 0) (hb : hostBusy .s s = false) (hlt : a.toNat < 2 ^ 31) :
    ∃ t, t = finishRead .s a.toNat [] (oneWord a) (hostReadRun .s a.toNat 4 (oneWord a) s) ∧ svcRegRead a 1 s =
      if t.hst.s.cause = 0 then svcDone t.hst.s.sent t
      else { state := t, status := 6, cause := t.hst.s.cause.setWidth 8, data := t.hst.s.sent } := by
  refine ⟨_, rfl, ?_⟩
  unfold svcRegRead
  rw [if_neg (by simp [h4]), if_neg (by simp [hb]), hostAddr_of_lt hlt]
  rfl

/-- A word that the map lets through is sent. -/
theorem svcRegRead_sends (h4 : a.toNat % 4 = 0) (hb : hostBusy .s s = false) (hlt : a.toNat < 2 ^ 31)
    (hm : mapAllows .domS a.toNat .read s = true) : ∃ t, svcRegRead a 1 s =
      svcDone (le32 (fabricWord .domS a.toNat (grantTo .domS s))) t ∧ t.hst.s.result = 2 ∧ t.hst.s.cause = 0 := by
  obtain ⟨t, ht, hrun⟩ := svcRegRead_word h4 hb hlt
  rw [hostReadRun_word (d := .s) rfl rfl hm, domReq] at ht
  obtain ⟨hsent, hres, hcause, -, -⟩ := finishRead_bank (a := a)
    (grantEnd (delivered .s a.toNat (afterBeat a.toNat (grantTo .domS s)))) a.toNat
    (le32 (fabricWord .domS a.toNat (grantTo .domS s))) rfl false
  rw [← ht] at hsent hres hcause
  have hclear : t.hst.s.cause = 0 := hcause
  exact ⟨t, by rw [hrun, if_pos hclear, hsent], hres, hclear⟩

/-- One that it refuses reads as 0xFF bytes, with the fault recorded. -/
theorem svcRegRead_refused (h4 : a.toNat % 4 = 0) (hb : hostBusy .s s = false) (hlt : a.toNat < 2 ^ 31)
    (hm : mapAllows .domS a.toNat .read s = false) : ∃ t, svcRegRead a 1 s =
      { state := t, status := 6, cause := 7, data := [0xFF, 0xFF, 0xFF, 0xFF] } ∧ t.eva.raised 212 = true := by
  obtain ⟨t, ht, hrun⟩ := svcRegRead_word h4 hb hlt
  rw [hostReadRun_refused (d := .s) rfl rfl hm, domReq] at ht
  obtain ⟨hsent, -, hcause, heva, -⟩ := finishRead_bank (a := a)
    (grantEnd (fabricFault .domS a.toNat 1 false (grantTo .domS s))) a.toNat [0xFF, 0xFF, 0xFF, 0xFF] rfl true
  rw [← ht] at hsent hcause heva
  refine ⟨t, ?_, ?_⟩
  · rw [hrun, if_neg (by rw [hcause]; decide), hcause, hsent]
    rfl
  · rw [heva]
    exact fabricFault_raised _ _ _ _ _

variable {w : Word}

theorem exec_svcRegWrite {ws : List Word} (h : svcFresh 0x21 seq (le32 a ++ wordBytes ws) s = true)
    (hop : s.did.cond = .operation) : exec (.svcRegWrite seq a ws) s =
      .next (svcAnswered 0x21 seq (le32 a ++ wordBytes ws) (svcRegWrite a ws s).status (svcRegWrite a ws s).cause
        (svcRegWrite a ws s).data (svcRegWrite a ws s).state) :=
  congrArg Host.Outcome.next (svcRun_fresh h (.inr hop))

theorem svcCommit_word {n : Nat} (hm : mapAllows .domS n .write s = true) : svcCommit n [w] s =
    (onHst .s (HstBank.committed n (wordBytes [w]) w) (grantEnd (spreading (writeWord .domS n w) (grantTo .domS s))), 0) := by
  unfold svcCommit
  rw [hostCommit_word (d := .s) (bytesWords_wordBytes [w]) hm]
  rfl

theorem svcCommit_refused {n : Nat} (hm : mapAllows .domS n .write s = false) : svcCommit n [w] s =
    (hostDiscard .s 7 false (grantEnd (fabricFault .domS n 1 true (grantTo .domS s))), 7) := by
  unfold svcCommit
  rw [hostCommit_refused (d := .s) (bytesWords_wordBytes [w]) hm]
  rfl

theorem svcRegWrite_word (h4 : a.toNat % 4 = 0) (hb : hostBusy .s s = false) (hlt : a.toNat < 2 ^ 31) :
    svcRegWrite a [w] s = if (svcCommit a.toNat [w] s).2 = 0 then svcDone [] (svcCommit a.toNat [w] s).1
      else svcRefused ((svcCommit a.toNat [w] s).2.setWidth 8) (svcCommit a.toNat [w] s).1 := by
  simp [svcRegWrite, h4, hb, hostAddr_of_lt hlt]

theorem svcRegWrite_refused (h4 : a.toNat % 4 = 0) (hb : hostBusy .s s = false) (hlt : a.toNat < 2 ^ 31)
    (hm : mapAllows .domS a.toNat .write s = false) :
    ∃ t, svcRegWrite a [w] s = svcRefused 7 t ∧ t.mem = s.mem ∧ t.eva.raised 212 = true := by
  refine ⟨hostDiscard .s 7 false (grantEnd (fabricFault .domS a.toNat 1 true (grantTo .domS s))), ?_, ?_, ?_⟩
  · rw [svcRegWrite_word h4 hb hlt, svcCommit_refused hm, if_neg (show ¬ (7 : BitVec 4) = 0 by decide)]
    rfl
  · exact kept_mem (by simp only [hostDiscard_kept, grantEnd_kept, fabricFault_kept, grantTo_kept])
  · exact fabricFault_raised _ _ _ _ _

/-- A word of memory written by REG_WRITE: nothing but that word, the bank of domain S and the arbiter changes. -/
theorem svcRegWrite_ram (hs : s.memOk = true) (h4 : a.toNat % 4 = 0) (hb : hostBusy .s s = false)
    (ha : inRam a.toNat = true) (hm : mapAllows .domS a.toNat .write s = true) :
    ∃ t, svcRegWrite a [w] s = svcDone [] t ∧ readMemWord t a.toNat = w ∧
      (∀ a', a' < a.toNat ∨ a.toNat + 4 ≤ a' → readByte t a' = readByte s a') ∧ t.sup = s.sup ∧ t.otp = s.otp := by
  have hlt : a.toNat < 2 ^ 31 := by rw [inRam_iff] at ha; omega
  obtain ⟨m, hmem⟩ := writeMemWord_eq a.toNat w (grantTo .domS s)
  refine ⟨(svcCommit a.toNat [w] s).1, ?_⟩
  rw [svcRegWrite_word h4 hb hlt, svcCommit_word hm, writeWord_ram ha, spreading_of_slices (by rw [hmem])]
  refine ⟨if_pos rfl, readMemWord_writeMemWord w (s := grantTo .domS s) hs h4 ha,
    fun a' h' => readByte_writeMemWord_ne w _ h', ?_⟩
  rw [hmem]
  exact ⟨rfl, rfl⟩

end

/-! ## MAILBOX (R314) -/

section
variable {seq cmd : Byte} {arg : Word} {s : State}

theorem exec_svcMailbox (h : svcFresh 0x22 seq ([cmd, 0, 0, 0] ++ le32 arg) s = true) (hop : s.did.cond = .operation) :
    exec (.svcMailbox seq cmd arg) s = .next (svcAnswered 0x22 seq ([cmd, 0, 0, 0] ++ le32 arg) (svcMailbox cmd arg s).status
      (svcMailbox cmd arg s).cause (svcMailbox cmd arg s).data (svcMailbox cmd arg s).state) :=
  congrArg Host.Outcome.next (svcRun_fresh h (.inr hop))

/-- `HST_MBARG` and `HST_MBCMD` with GO, written by domain S. -/
theorem writeWord_mbarg (u : State) : writeWord .domS 0x40025024 arg u = onHst .s (fun b => { b with mbarg := arg }) u := rfl

theorem writeWord_mbcmd (u : State) : writeWord .domS 0x40025020 (cmd.setWidth 32 ||| 0x100) u =
    mailboxGo .s (onHst .s (fun b => { b with mbcmd := cmd }) u) := by
  have hcmd : getField (cmd.setWidth 32 ||| 0x100) 0 8 = cmd := by
    have hlow : getField (cmd.setWidth 32) 0 8 = cmd := by
      ext j hj
      have h32 : j < 32 := by omega
      simp [getField, h32, hj]
    rw [getField_or, hlow, show getField 0x100 0 8 = 0 by decide]
    exact BitVec.or_zero
  have hgo : getBit (cmd.setWidth 32 ||| 0x100) 8 = true := by simp [getBit]
  show (if getBit (cmd.setWidth 32 ||| 0x100) 8 then
    mailboxGo .s (onHst .s (fun b => { b with mbcmd := getField (cmd.setWidth 32 ||| 0x100) 0 8 }) u) else _) = _
  rw [hgo, hcmd]
  rfl

/-- GO with no request pending: the request is taken or refused at once. -/
theorem mailboxGo_submits {d : Domain} {u : State} (h : mbPending d u = false) : mailboxGo d u =
    onHst d (fun b => { b with mbstat :=
      { state := if mbCause d (u.hst.bank d).mbcmd (u.hst.bank d).mbarg u = 0 then 1 else 3
        cause := mbCause d (u.hst.bank d).mbcmd (u.hst.bank d).mbarg u } }) u := by
  simp [mbPending] at h
  simp [mailboxGo, h]

theorem svcCommit_mbarg (hm : mapAllows .domS 0x40025024 .write s = true) : svcCommit 0x40025024 [arg] s =
    (onHst .s (fun b => HstBank.committed 0x40025024 (wordBytes [arg]) arg { b with mbarg := arg })
      (grantEnd (grantTo .domS s)), 0) := by
  rw [svcCommit_word hm, spreading_of_slices (by rw [writeWord_mbarg]; rfl), writeWord_mbarg]
  rfl

/-- `HST_MBSTAT` once a request of domain S has been submitted. -/
def submitted (cmd : Byte) (arg : Word) (s : State) : HstMbstat :=
  { state := if mbCause .s cmd arg s = 0 then 1 else 3, cause := mbCause .s cmd arg s }

theorem svcCommit_mbcmd (hp : mbPending .s s = false) (hm : mapAllows .domS 0x40025020 .write s = true) :
    svcCommit 0x40025020 [cmd.setWidth 32 ||| 0x100] s =
      (onHst .s (fun b => HstBank.committed 0x40025020 (wordBytes [cmd.setWidth 32 ||| 0x100]) (cmd.setWidth 32 ||| 0x100)
        { b with mbcmd := cmd, mbstat := submitted cmd s.hst.s.mbarg s }) (grantEnd (grantTo .domS s)), 0) := by
  have hgo := mailboxGo_submits (d := .s) (u := onHst .s (fun b => { b with mbcmd := cmd }) (grantTo .domS s)) hp
  rw [svcCommit_word hm, spreading_of_slices (by rw [writeWord_mbcmd, hgo]; rfl), writeWord_mbcmd, hgo]
  rfl

/-- Two bursts are committed, and the answer follows `HST_MBSTAT`. -/
theorem svcMailbox_eq {u t : State} (hb : hostBusy .s s = false) (harg : svcCommit 0x40025024 [arg] s = (u, 0))
    (hcmd : svcCommit 0x40025020 [cmd.setWidth 32 ||| 0x100] u = (t, 0)) : svcMailbox cmd arg s =
      if t.hst.s.mbstat.state = 3 then svcRefused (t.hst.s.mbstat.cause.setWidth 8) t else svcAccepted t := by
  simp only [svcMailbox, hb, harg, hcmd, ne_eq, not_true_eq_false, Bool.false_eq_true, if_false]

/-- Domain S's bank once `HST_MBARG` and `HST_MBCMD` stand in it and the request is submitted. -/
theorem svcMailbox_submits (hb : hostBusy .s s = false) (hp : mbPending .s s = false)
    (ha : mapAllows .domS 0x40025024 .write s = true) (hc : mapAllows .domS 0x40025020 .write s = true) :
    ∃ t, (svcMailbox cmd arg s =
      if (submitted cmd arg s).state = 3 then svcRefused ((submitted cmd arg s).cause.setWidth 8) t else svcAccepted t) ∧
    t.hst.s.mbcmd = cmd ∧ t.hst.s.mbarg = arg ∧ t.hst.s.mbstat = submitted cmd arg s ∧
    t.hst.a = s.hst.a ∧ t.hst.b = s.hst.b ∧ t.mem = s.mem := by
  have hcmd := svcCommit_mbcmd (cmd := cmd) (s := onHst .s (fun b =>
    HstBank.committed 0x40025024 (wordBytes [arg]) arg { b with mbarg := arg }) (grantEnd (grantTo .domS s))) hp hc
  refine ⟨_, svcMailbox_eq hb (svcCommit_mbarg ha) hcmd, rfl, rfl, rfl, rfl, rfl, ?_⟩
  exact kept_mem (by simp only [onHst_kept, grantEnd_kept, grantTo_kept])

end

/-! ## The line, HELLO, STATUS and RESET (R405 to R409) -/

theorem exec_svcSetBaud {seq code : Byte} {s : State} (h : svcFresh 0x02 seq [code] s = true) :
    exec (.svcSetBaud seq code) s = if 5 < code.toNat ∨ (inRecovery s = false ∧ s.lcu.maxBaud.toNat < code.toNat)
      then .next (svcAnswered 0x02 seq [code] 3 0 [] s)
      else .next (svcAnswered 0x02 seq [code] 0 0 [] (onLcu (fun l => { l with baud := code.setWidth 3 }) s)) := by
  refine (congrArg Host.Outcome.next (svcRun_fresh h (.inl rfl))).trans ?_
  by_cases hbad : 5 < code.toNat ∨ (inRecovery s = false ∧ s.lcu.maxBaud.toNat < code.toNat)
  · have hb : (5 < code.toNat || (!inRecovery s && s.lcu.maxBaud.toNat < code.toNat)) = true := by simpa using hbad
    rw [if_pos hbad, if_pos hb]
    rfl
  · have hb : ¬ (5 < code.toNat || (!inRecovery s && s.lcu.maxBaud.toNat < code.toNat)) = true := by simpa using hbad
    rw [if_neg hbad, if_neg hb]
    rfl

/-- A frame that repeats the last one, or comes where the port does not serve, changes nothing (R407). -/
theorem svcRun_ignored {cmd seq : Byte} {pl : List Byte} {b : Bool} {f : State → SvcOut} {s : State}
    (h : s.lcu.last = some (seq, crc16 (svcFrame cmd seq pl)) ∨ svcActive s = false) : svcRun cmd seq pl b f s = s :=
  if_pos (by rcases h with h | h <;> simp [h])

/-- STATUS is answered whatever is pending or changing. -/
theorem svcRun_status {seq : Byte} {s : State} (ha : svcActive s = true)
    (hl : s.lcu.last ≠ some (seq, crc16 (svcFrame 0x03 seq []))) : svcRun 0x03 seq [] true svcStatus s =
      svcAnswered 0x03 seq [] (if svcBusyNow s then 1 else 0) (s.lcu.cause.setWidth 8) (svcStatus s).data s := by
  have hgate : svcGate 0x03 true svcStatus s = svcStatus s := by simp [svcGate]
  have hrun : ¬ (!svcActive s || s.lcu.last = some (seq, crc16 (svcFrame 0x03 seq []))) = true := by
    rw [ha, decide_eq_false hl]
    exact Bool.false_ne_true
  unfold svcRun
  dsimp only
  rw [if_neg hrun, hgate]
  rfl

theorem exec_svcReset {seq : Byte} {arg : Word} {s : State} (h : svcFresh 0x3F seq (le32 arg) s = true) :
    exec (.svcReset seq arg) s = if arg = 0x2448 then .next (svcAnswered 0x3F seq (le32 arg) 0 0 [] (wardenReset 5 s))
      else .next (svcAnswered 0x3F seq (le32 arg) 3 0 [] s) := by
  refine (congrArg Host.Outcome.next (svcRun_fresh h (.inl rfl))).trans ?_
  split <;> rfl

/-- HELLO takes a fresh nonce, raises event 211 and answers with what the device shows of itself. -/
theorem svcHello_effect (s : State) : (svcHello s).state.lcu = { s.lcu with nonce := some (Config.nonce s.free) } ∧
    (svcHello s).state.free = s.free + 1 ∧ (svcHello s).state.eva.raised 211 = true ∧ (svcHello s).state.otp = s.otp ∧
    (svcHello s).state.nand = s.nand ∧ (svcHello s).state.mem = s.mem ∧
    (svcHello s).data = le32 (otpShadow s.otp 0) ++ [BitVec.ofNat 8 (lifecycle s.otp), if s.did.cond = .recovery then 0 else 1]
      ++ le32 (lcuBankWord s) ++ le32 s.nand.bank0.ver ++ le32 s.nand.bank1.ver ++ le32 (upstatWord s.lcu) ++ Config.nonce s.free := by
  refine ⟨globalEvent_lcu _ _ _ _, globalEvent_free _ _ _ _, globalEvent_raised _ _ _ _ (by decide), globalEvent_otp _ _ _ _,
    globalEvent_nand _ _ _ _, globalEvent_mem _ _ _ _, ?_⟩
  simp only [svcHello, svcDone, inRecovery, globalEvent_otp, globalEvent_did, globalEvent_nand, globalEvent_lcu, lcuBankWord,
    decide_eq_true_eq]
  rfl

/-- Settles O58. -/
theorem serviceFrames : Obligations.ServiceFrames := by
  unfold Obligations.ServiceFrames
  refine ⟨?_, ?_, ?_, ?_, ?_, ?_, ?_, ?_, ?_, ?_, ?_, ?_, ?_, ?_, ?_, ?_, ?_, ?_⟩
  · intro s ha
    exact congrArg Host.Outcome.next (if_pos ha)
  · intro s ha
    exact congrArg Host.Outcome.next (if_neg (by simp [ha]))
  · intro s
    rfl
  · intro seq code s hf hle hm
    rw [exec_svcSetBaud hf, if_neg]
    · rfl
    · rintro (h | ⟨hr, hlt⟩)
      · omega
      · rcases hm with hm | hm
        · simp [inRecovery, hm] at hr
        · omega
  · intro seq code s hf h
    rw [exec_svcSetBaud hf, if_pos]
    exact h.imp_right (fun ⟨hop, hlt⟩ => ⟨by simp [inRecovery, hop], hlt⟩)
  · intro seq code s h
    exact congrArg Host.Outcome.next (svcRun_ignored h)
  · intro seq s hf
    obtain ⟨hlcu, hfree, hraised, hotp, hnand, hmem, hdata⟩ := svcHello_effect s
    refine ⟨_, congrArg Host.Outcome.next (svcRun_fresh hf (.inl rfl)), ?_, hfree, hraised, hotp, hnand, hmem⟩
    rw [svcAnswered, hlcu, hdata]
    rfl
  · intro seq s ha hl
    exact congrArg Host.Outcome.next (svcRun_status ha hl)
  · intro seq a s hf hop hp hlt h4 hreg hm
    obtain ⟨t, ht, hres, hcause⟩ := svcRegRead_sends h4 (hostBusy_of_fresh hf hp) hlt hm
    have hmem := kept_mem (svcRegRead_kept a 1 s)
    refine ⟨_, exec_svcRegRead hf hop, ?_⟩
    rw [ht] at hmem ⊢
    have hword : fabricWord .domS a.toNat (grantTo .domS s) = readReg .domS a.toNat (grantTo .domS s) := if_pos hreg
    rw [hword]
    exact ⟨rfl, rfl, hres, hcause, hmem⟩
  · intro seq a s hf hop hp hlt h4 hm
    obtain ⟨t, ht, hraised⟩ := svcRegRead_refused h4 (hostBusy_of_fresh hf hp) hlt hm
    have hmem := kept_mem (svcRegRead_kept a 1 s)
    refine ⟨_, exec_svcRegRead hf hop, ?_⟩
    rw [ht] at hmem ⊢
    exact ⟨rfl, rfl, hraised, hmem⟩
  · intro seq a s hf hop h4
    rw [exec_svcRegRead hf hop, svcRegRead_unaligned h4]
    rfl
  · intro seq a w s hs hf hop hp h4 ha hm
    obtain ⟨t, ht, hword, hrest, hsup, hotp⟩ := svcRegWrite_ram (w := w) hs h4 (hostBusy_of_fresh hf hp) ha hm
    refine ⟨_, exec_svcRegWrite hf hop, ?_⟩
    rw [ht]
    exact ⟨rfl, hword, hrest, hsup, hotp⟩
  · intro seq a w s hf hop hp hlt h4 hm
    obtain ⟨t, ht, hmem, hraised⟩ := svcRegWrite_refused (w := w) h4 (hostBusy_of_fresh hf hp) hlt hm
    refine ⟨_, exec_svcRegWrite hf hop, ?_⟩
    rw [ht]
    exact ⟨rfl, hmem, hraised⟩
  · intro seq a ws s hf hr
    exact congrArg Host.Outcome.next (svcRun_barred hf hr)
  · intro seq cmd arg s hf hop hp hc ha h0
    obtain ⟨t, ht, hcmd, harg, hstat, hA, hB, hmem⟩ :=
      svcMailbox_submits (cmd := cmd) (arg := arg) (hostBusy_of_fresh hf hp) (mbPending_of_fresh hf) ha hc
    have hsub : submitted cmd arg s = { state := 1, cause := 0 } := by
      rw [submitted, if_pos h0, h0]
    rw [hsub] at ht hstat
    refine ⟨_, exec_svcMailbox hf hop, ?_⟩
    rw [ht]
    exact ⟨rfl, hcmd, harg, hstat, hA, hB, hmem⟩
  · intro seq cmd arg s hf hop hp hc ha h0
    obtain ⟨t, ht, hcmd, harg, hstat, hA, hB, hmem⟩ :=
      svcMailbox_submits (cmd := cmd) (arg := arg) (hostBusy_of_fresh hf hp) (mbPending_of_fresh hf) ha hc
    have hsub : submitted cmd arg s = { state := 3, cause := mbCause .s cmd arg s } := by
      rw [submitted, if_neg h0]
    rw [hsub] at ht hstat
    refine ⟨_, exec_svcMailbox hf hop, ?_⟩
    rw [ht]
    exact ⟨rfl, hstat, hmem⟩
  · intro seq s hf
    refine ⟨_, (exec_svcReset hf).trans (if_pos rfl), ?_⟩
    exact ⟨rfl, wardenReset_did 5 (svcFresh_preReset hf) (svcFresh_cond hf), wardenReset_otp 5 s, wardenReset_nand 5 s⟩
  · intro seq arg s hf h
    exact (exec_svcReset hf).trans (if_neg h)

end Sys2Proof.Machine
end

section
/-!
PROOFS. The Warden mailbox's commands and the auxiliary bus (R314 to R318, R352, R372).
-/

namespace Sys2Proof.Machine

/-! ## The Warden Core completes a request (R314) -/

section
variable {d : Domain} {s : State} {cmd : Byte} {act : Word → State → State × Word}

theorem bank_onHst (d : Domain) (f : HstBank → HstBank) (s : State) : (onHst d f s).hst.bank d = f (s.hst.bank d) := by
  cases d <;> rfl

theorem bank_onHst_ne {d e : Domain} (f : HstBank → HstBank) (s : State) (h : e ≠ d) :
    (onHst d f s).hst.bank e = s.hst.bank e := by
  cases d <;> cases e <;> first | rfl | exact absurd rfl h

/-- The bank of a domain once its request is done. -/
def HstBank.completed (res : Word) (b : HstBank) : HstBank := { b with mbstat := { state := 2, cause := 0 }, mbres := res }

theorem mailboxDo_completes (hs : (s.hst.bank d).mbstat.state = 1) (hc : (s.hst.bank d).mbcmd = cmd) (hr : wardenRuns s = true) :
    mailboxDo d cmd act s =
      onHst d (HstBank.completed (act (s.hst.bank d).mbarg s).2) (act (s.hst.bank d).mbarg s).1 := by
  have hrun : ¬ ((s.hst.bank d).mbstat.state ≠ 1 || (s.hst.bank d).mbcmd ≠ cmd || !wardenRuns s) = true := by
    rw [decide_eq_false (not_not.2 hs), decide_eq_false (not_not.2 hc), hr]
    exact Bool.false_ne_true
  exact if_neg hrun

theorem mailboxDo_idle (h : (s.hst.bank d).mbstat.state ≠ 1 ∨ (s.hst.bank d).mbcmd ≠ cmd) : mailboxDo d cmd act s = s := by
  refine if_pos ?_
  rcases h with h | h
  · rw [decide_eq_true h]; rfl
  · rw [decide_eq_true h, Bool.or_true]; rfl

end

/-! ## What the commands act on -/

/-- A record leaves the recorder's windows where they are. -/
theorem hwRecord_bank (k : Bank) (ty so : BitVec 8) (fl : BitVec 16) (da : BitVec 48) (s : State) :
    evrBank k (hwRecord ty so fl da s) = evrBank k s := by
  unfold hwRecord
  split
  · unfold ringWrite
    dsimp only
    split <;> simp only [ringPut_bank]
  · split
    · split <;> cases k <;> rfl
    · rfl

/-- The mark that CLEAR_EVENT_RING moves, in every bank (R352). -/
theorem clearRing_bank (k : Bank) (fw : Bool) (dom : Nat) (s : State) : evrBank k (clearRing fw dom s) =
    if fw then { evrBank k s with fwOldest := s.evr.fwSeq } else { evrBank k s with hwOldest := s.evr.next } := by
  refine (hwRecord_bank k _ _ _ _ _).trans ?_
  cases k <;> rfl

theorem oneHot_getLsbD {v i : Nat} (h : i < 128) : ((1 <<< v : Nat) : BitVec 128).getLsbD i = (v == i) := by
  rw [BitVec.natCast_eq_ofNat, BitVec.getLsbD_ofNat, decide_eq_true h, Bool.true_and, Nat.shiftLeft_eq, Nat.one_mul,
    Nat.testBit_two_pow]
  rfl

/-- A map of words from a test of each. -/
theorem wordMap_getLsbD (f : Nat → Bool) (w : Fin 128) : (wordMap f).getLsbD w.val = f w.val := by
  have hfold (l : List Nat) (m : BitVec 128) :
      (l.foldl (fun (m : BitVec 128) v => if f v then m ||| ((1 <<< v : Nat) : BitVec 128) else m) m).getLsbD w.val =
        (m.getLsbD w.val || l.any (fun v => f v && v == w.val)) := by
    induction l generalizing m with
    | nil => rw [List.foldl_nil, List.any_nil, Bool.or_false]
    | cons v l ih =>
      rw [List.foldl_cons, ih, List.any_cons]
      cases f v with
      | false => simp
      | true => rw [if_pos rfl, BitVec.getLsbD_or, oneHot_getLsbD w.isLt, Bool.true_and, Bool.or_assoc]
  refine (hfold (List.range 128) 0).trans ?_
  have hany : (List.range 128).any (fun v => f v && v == w.val) = f w.val := by
    rw [Bool.eq_iff_iff, List.any_eq_true]
    constructor
    · rintro ⟨v, -, hv⟩
      obtain ⟨hf, hw⟩ := Bool.and_eq_true_iff.1 hv
      rwa [← beq_iff_eq.1 hw]
    · intro hf
      exact ⟨w.val, List.mem_range.2 w.isLt, by simp [hf]⟩
  rw [hany]
  simp

/-- The audit's map, its records and its event (R372). -/
theorem otpAudit_otp (l : List (Fin 128)) (s : State) :
    (otpAudit l s).otp = { s.otp with ad := wordMap (fun w => l.any (fun d => d.val == w)) } := by
  have hfold (t : State) : (allWords.foldl (fun s w => if l.contains w then
      hwRecord 5 219 8 (fuseData w.val 1 (s.otp.shd.get w)) s else s) t).otp = t.otp :=
    foldl_same State.otp _ (fun u w => by split <;> simp) _ _
  unfold otpAudit
  dsimp only
  split
  · exact hfold _
  · exact (raise_otp 219 _).trans (hfold _)

theorem otpAudit_raised {l : List (Fin 128)} (h : l ≠ []) (s : State) : (otpAudit l s).eva.raised 219 = true := by
  have hl : ¬ l.isEmpty = true := by simpa using h
  unfold otpAudit
  dsimp only
  rw [if_neg hl]
  exact raise_raised 219 _ (by decide)

/-- A Warden reset request takes every slice's pins to their reset state (Table 2.11). -/
theorem wardenReset_slice {s : State} (c : BitVec 4) (hp : s.did.preReset = false)
    (hc : s.did.cond = .recovery ∨ s.did.cond = .operation) (p : Port) :
    (wardenReset c s).slice p = (s.slice p).pinsOff p := by
  rw [wardenReset_eq c hp hc]
  simp [preReset, pinsOff_slice]

/-- The lock bit of `HST_CTL` is not written by CNT_CLR alone. -/
theorem writeHstCtl_clear (d : Domain) (s : State) :
    writeHstCtl d 0x100 s = onHst d (fun b => { b with cnt := {} }) s := by
  have hput : s.hst.ctl.put 0x100 = s.hst.ctl := by
    have hlk : getBit 0x100 0 = false := by decide
    simp only [HstCtl.put, hlk, Bool.or_false]
  have hclr : getBit 0x100 8 = true := by decide
  simp only [writeHstCtl, hput, hclr, if_true]

/-! ## The auxiliary bus (R316 to R318) -/

section
variable {k : Fin 5} {dev : AuxDev} {s : State}

theorem auxBit_self (k : Fin 5) : (auxBit k).getLsbD k.val = true := by
  revert k
  decide

theorem auxPoll_idle (h : policyRuns s = false ∨ s.aux.devs.get k = none) (rec : Bool) (r : AuxResult) :
    auxPoll k rec r s = s := by
  rcases h with h | h <;> simp [auxPoll, h]

theorem auxPoll_good (hr : policyRuns s = true) (hd : s.aux.devs.get k = some dev) (raw : BitVec 16) :
    auxPoll k false (.good raw) s = auxGood k dev raw s := by
  simp [auxPoll, hr, hd]

theorem auxPoll_nack (hr : policyRuns s = true) (hd : s.aux.devs.get k = some dev) : auxPoll k false .nack s = auxNack k s := by
  simp [auxPoll, hr, hd]

/-- A hung bus, freed, with event 230. -/
def auxRecovered (s : State) : State :=
  globalEvent 230 (onAuxStat (fun a => { a with fault := false, recov := satInc a.recov }) s).aux.stat.toWord 0
    (onAuxStat (fun a => { a with fault := false, recov := satInc a.recov }) s)

theorem auxPoll_hungAgain (hr : policyRuns s = true) (hd : s.aux.devs.get k = some dev) : auxPoll k true .hung s =
    auxMissed k (onAuxStat (fun a => { a with fault := true }) (auxRecovered s)) := by
  simp [auxPoll, hr, hd, auxRecovered]

theorem auxRecovered_aux (s : State) :
    (auxRecovered s).aux = { s.aux with stat := { s.aux.stat with fault := false, recov := satInc s.aux.stat.recov } } :=
  globalEvent_aux _ _ _ _

/-- A value stored, and the NACK of its device withdrawn. -/
def auxStored (k : Fin 5) (raw : BitVec 16) (s : State) : State :=
  onAuxStat (fun a => { a with nack := a.nack &&& ~~~auxBit k }) (onAuxVal k (fun _ => { raw := raw, valid := true, age := 0 }) s)

theorem auxGood_other (h : k ≠ 0) (raw : BitVec 16) : auxGood k dev raw s = auxStored k raw s := if_neg h

/-- The gauge below its threshold sets `GLOW` and raises event 232 (R318). -/
theorem auxGood_gaugeLow {raw : BitVec 16} (hlow : auxScaled dev raw < dev.threshold) (hg : s.aux.stat.glow = false) :
    auxGood 0 dev raw s = globalEvent 232 ((onAuxStat (fun a => { a with glow := true }) (auxStored 0 raw s)).aux.vals.get 0).toWord 0
      (onAuxStat (fun a => { a with glow := true }) (auxStored 0 raw s)) := by
  have hglow : (auxStored 0 raw s).aux.stat.glow = false := hg
  show gaugeCheck dev raw (auxStored 0 raw s) = _
  simp only [gaugeCheck, hlow, hglow, if_true, Bool.false_eq_true, if_false]

/-- A first NACK, with event 231. -/
theorem auxNack_first (hv : (s.aux.vals.get k).valid = true) (hn : s.aux.stat.nack.getLsbD k.val = false) :
    ∃ w, auxNack k s = globalEvent 231 w k.val (onAuxStat (fun a => { a with nack := a.nack ||| auxBit k }) (auxMissed k s)) := by
  have hfirst : ((s.aux.vals.get k).valid && !s.aux.stat.nack.getLsbD k.val) = true := by rw [hv, hn]; rfl
  exact ⟨_, if_pos hfirst⟩

end

/-- Settles O52. -/
theorem wardenMailboxAndAux : Obligations.WardenMailboxAndAux := by
  unfold Obligations.WardenMailboxAndAux
  refine ⟨?_, ?_, ?_, ?_, ?_, ?_, ?_, ?_, ?_, ?_, ?_, ?_, ?_, ?_, ?_⟩
  · intro d s hs hc ha hr
    refine ⟨_, congrArg Host.Outcome.next (mailboxDo_completes hs hc hr), ?_⟩
    have hbank (k : Bank) := clearRing_bank k false (domCode d) s
    rw [ha, bank_onHst]
    exact ⟨rfl, rfl, congrArg EvrBank.hwOldest (hbank .a), congrArg EvrBank.hwOldest (hbank .b),
      congrArg EvrBank.hwOldest (hbank .s), congrArg EvrBank.hwOldest (hbank .p), congrArg EvrBank.hwOldest (hbank .w),
      (congrArg EvrBank.fwOldest (hbank .a)).trans rfl⟩
  · intro d s hs hc ha hr
    refine ⟨_, congrArg Host.Outcome.next (mailboxDo_completes hs hc hr), ?_⟩
    have hbank (k : Bank) := clearRing_bank k true (domCode d) s
    rw [ha, bank_onHst]
    exact ⟨rfl, congrArg EvrBank.fwOldest (hbank .a), congrArg EvrBank.fwOldest (hbank .b),
      congrArg EvrBank.fwOldest (hbank .s), congrArg EvrBank.fwOldest (hbank .p), congrArg EvrBank.fwOldest (hbank .w),
      (congrArg EvrBank.hwOldest (hbank .a)).trans rfl⟩
  · intro d s h
    exact congrArg Host.Outcome.next (mailboxDo_idle h)
  · intro d s hs hc hop hp
    have hdo : ((s.hst.bank d).mbstat.state = 1 && (s.hst.bank d).mbcmd = 2) = true := by
      rw [decide_eq_true hs, decide_eq_true hc]; rfl
    refine ⟨_, congrArg Host.Outcome.next (if_pos hdo), wardenReset_did 4 hp (.inr hop), fun p => ?_⟩
    rw [wardenReset_slice 4 hp (.inr hop)]
    exact ⟨slicePinsOff_isog p _, slicePinsOff_pwm p _⟩
  · intro d s h
    refine congrArg Host.Outcome.next (if_neg ?_)
    rcases h with h | h
    · rw [decide_eq_false h]; exact Bool.false_ne_true
    · rw [decide_eq_false h, Bool.and_false]; exact Bool.false_ne_true
  · intro d s hs hc hr
    refine ⟨_, congrArg Host.Outcome.next (mailboxDo_completes hs hc hr), ?_⟩
    rw [bank_onHst]
    exact ⟨rfl, rfl, rfl, rfl, rfl⟩
  · intro d s h
    exact congrArg Host.Outcome.next (mailboxDo_idle h)
  · intro d l s hs hc hr hl
    refine ⟨_, congrArg Host.Outcome.next (mailboxDo_completes hs hc hr), ?_⟩
    have hotp := otpAudit_otp l s
    rw [bank_onHst]
    refine ⟨rfl, rfl, fun w => ?_, (congrArg Otp.shd hotp).trans rfl, otpAudit_raised hl s⟩
    refine (congrArg (fun o : Otp => o.ad.getLsbD w.val) hotp).trans ((wordMap_getLsbD _ w).trans ?_)
    rw [List.contains_eq_any_beq]
    exact congrArg l.any (funext fun v => by rw [Bool.eq_iff_iff, beq_iff_eq, beq_iff_eq, Fin.val_inj, eq_comm])
  · intro d l s h
    exact congrArg Host.Outcome.next (mailboxDo_idle h)
  · intro d s
    refine ⟨_, congrArg Host.Outcome.next (writeHstCtl_clear d s), ?_⟩
    rw [bank_onHst]
    exact ⟨rfl, by cases d <;> rfl, by cases d <;> rfl, fun e he => bank_onHst_ne _ s he, rfl⟩
  · intro k rec r s h
    exact congrArg Host.Outcome.next (auxPoll_idle h rec r)
  · intro k dev raw s hr hd hk
    refine ⟨_, congrArg Host.Outcome.next (auxPoll_good hr hd raw), ?_⟩
    rw [auxGood_other hk]
    refine ⟨get_updAt_self _ _ _, ?_, fun j hj => get_updAt_ne _ _ hj, rfl⟩
    show (s.aux.stat.nack &&& ~~~auxBit k).getLsbD k.val = false
    simp [auxBit_self]
  · intro dev raw s hr hd hlow hg
    refine ⟨_, congrArg Host.Outcome.next (auxPoll_good hr hd raw), ?_⟩
    rw [auxGood_gaugeLow hlow hg, globalEvent_aux]
    exact ⟨get_updAt_self s.aux.vals 0 _, rfl, globalEvent_raised _ _ _ _ (by decide)⟩
  · intro k dev s hr hd hv hn
    refine ⟨_, congrArg Host.Outcome.next (auxPoll_nack hr hd), ?_⟩
    obtain ⟨w, hnack⟩ := auxNack_first hv hn
    rw [hnack, globalEvent_aux]
    refine ⟨get_updAt_self s.aux.vals k _, ?_, globalEvent_raised _ _ _ _ (by decide)⟩
    show (s.aux.stat.nack ||| auxBit k).getLsbD k.val = true
    simp [auxBit_self]
  · intro k dev s hr hd
    refine ⟨_, congrArg Host.Outcome.next (auxPoll_hungAgain hr hd), ?_⟩
    have haux := auxRecovered_aux s
    refine ⟨?_, rfl, congrArg (fun a : Aux => a.stat.recov) haux, globalEvent_raised _ _ _ _ (by decide)⟩
    refine (get_updAt_self _ k _).trans ?_
    have hvals : (auxRecovered s).aux.vals = s.aux.vals := by rw [haux]
    show { (auxRecovered s).aux.vals.get k with age := satInc ((auxRecovered s).aux.vals.get k).age } = _
    rw [hvals]

end Sys2Proof.Machine
end

section
/-!
PROOFS. Aborting a DMA channel (R339).
-/

namespace Sys2Proof.Machine

section
variable {q : Requester} {c : Fin 16} {s : State}

/-- Without a commit in its clock an owner's abort acts on its channel alone. -/
theorem dmaAbort_owner (hb : hasBank q = true) (ho : (s.dma.get c).ownedBy (bankOf q s) = true) :
    dmaAbort q c false s = onDma c DmaCh.abort s := by
  simp [dmaAbort, dmaAbortBy, hb, ho]

/-- In the clock of a commit it acts on the channel as the commit leaves it. -/
theorem dmaAbort_commit (hb : hasBank q = true) (ho : (s.dma.get c).ownedBy (bankOf q s) = true)
    (hc : ((dmaBurstCommit c 0 s).dma.get c).ownedBy (bankOf q s) = true) :
    dmaAbort q c true s = onDma c DmaCh.abort (dmaBurstCommit c 0 s) := by
  simp [dmaAbort, dmaAbortBy, hb, ho, hc]

theorem abort_running {x : DmaCh} (h : x.stat.state = 2) :
    x.abort = { x with desc := none, done := 0, stat := { x.stat with state := 4 } } := if_pos h

theorem abort_done {x : DmaCh} (h : x.stat.state = 3) : x.abort = { x with stat := { x.stat with abortLate := true } } := by
  unfold DmaCh.abort
  rw [if_neg (by rw [h]; decide), if_pos h]

theorem abort_cnt (x : DmaCh) : x.abort.cnt = x.cnt := by
  unfold DmaCh.abort
  split
  · rfl
  · split <;> rfl

theorem get_onDma_self (c : Fin 16) (f : DmaCh → DmaCh) (s : State) : (onDma c f s).dma.get c = f (s.dma.get c) :=
  get_updAt_self s.dma c f

end

end Sys2Proof.Machine

namespace Sys2Proof

open Machine

/-- Settles O14: `DmaCh.abort` says what becomes of a running channel and of one that is DONE. The name `dmaAbort` is the
model's, so the theorem stands outside the model's namespace. -/
theorem dmaAbort : Obligations.DmaAbort := by
  unfold Obligations.DmaAbort
  refine ⟨?_, ?_, ?_⟩
  · intro q c s hb ho hrun
    refine ⟨_, congrArg Host.Outcome.next (dmaAbort_owner hb ho), ?_⟩
    rw [get_onDma_self, abort_running hrun]
    exact ⟨rfl, rfl, fun j hj => get_updAt_ne _ _ hj, rfl, rfl, rfl, rfl, rfl⟩
  · intro q c s hb ho _ hc
    refine ⟨_, congrArg Host.Outcome.next (dmaAbort_commit hb ho hc), ?_⟩
    rw [get_onDma_self]
    exact ⟨rfl, abort_cnt _, fun h => by rw [abort_done h], fun h => by rw [abort_running h]⟩
  · intro q c s hb ho hdone
    refine congrArg Host.Outcome.next ((dmaAbort_owner hb ho).trans ?_)
    have hch : updAt s.dma c DmaCh.abort = updAt s.dma c (fun x => { x with stat := { x.stat with abortLate := true } }) := by
      simp only [updAt, abort_done hdone]
    rw [onDma, hch]

end Sys2Proof
end
